-- ==== Sys2Proof/Word.lean ====
section
/-! DEFINITION. The word types of the device: bytes, 32-bit and 64-bit words, 32-byte flits (00_scope.md R2 to R5). -/

namespace Sys2Proof

/-- One byte. -/
abbrev Byte := BitVec 8
/-- A 32-bit word. -/
abbrev W32 := BitVec 32
/-- A 64-bit register word. -/
abbrev Word := BitVec 64
/-- A flit: 32 bytes, byte 0 in bits 7 to 0. -/
abbrev Flit := BitVec 256

end Sys2Proof
end

