-- ==== Sys2Proof/Machine/Operands.lean ====
section
/-! DEFINITION. The operand types of the commands: where they come from, what they name and the data they carry. -/

namespace Sys2Proof

/-- A network port, P0 to P95. -/
abbrev Port := Fin 96
/-- A lane, L0 to L191. -/
abbrev Lane := Fin 192
/-- A host port, H0 to H3. -/
abbrev HPort := Fin 4
/-- A function of a host port; 0 is the physical function. -/
abbrev Func := Fin 64
/-- A virtual channel. -/
abbrev Vc := Fin 8
/-- A queue pair index. -/
abbrev QIdx := Fin 262144
/-- A position identifier (02_grid_and_addressing.md R60). -/
abbrev Pid := BitVec 20

/-- A level of a lane in one unit interval (04_lanes.md R122): -3, -1, +1 and +3. -/
inductive Level
  | m3
  | m1
  | p1
  | p3
  deriving DecidableEq, Repr

/-- A codeword pair as both lanes of a port receive it, L2n first: 1,440 levels each, and its place of the comma grid (04_lanes.md R128, R130). -/
structure PairLevels where
  first : List Level
  second : List Level
  pair : Fin 2048
  deriving DecidableEq, Repr

/-- A port, and the place of its transmitters on the comma grid: codeword pairs since the last comma block; at 2,048 the next one is due. -/
structure PortPlace where
  port : Port
  pair : Fin 2049
  deriving DecidableEq, Repr

/-- What a read of host memory gave: the bytes, or none where it failed (09_host_attach_and_queues.md R323). -/
abbrev HostRead := Option (List Byte)

/-- The path a command packet came by (16_command_packets.md): the command ring of a function, SMBus, or a MGMT_REQ of another device. -/
inductive CmdPath
  | ring (h : HPort) (f : Func)
  | smbus
  | remote (pid : Pid) (hport : HPort)
  deriving DecidableEq, Repr

/-- Which command an opcode row runs: its path and its TAG (Table 16.1). -/
structure CmdRef where
  path : CmdPath
  tag : BitVec 16
  deriving DecidableEq, Repr

/-- What a register write addresses: an offset of the global space, or an offset in the BAR0 of a function, and the path it took. -/
inductive RegTarget
  /-- BAR2 of the PF of a host port -/
  | bar2 (h : HPort) (addr : BitVec 29)
  /-- BAR0 of a function -/
  | bar0 (h : HPort) (f : Func) (addr : BitVec 20)
  /-- the register bus, by Caldera -/
  | bus (addr : BitVec 29)
  deriving DecidableEq, Repr

/-- The configuration-space controls of a function that the device's rules read (R320, R325). -/
structure FuncCfg where
  busMaster : Bool := false
  /-- VF Enable of the SR-IOV capability; of a PF only -/
  vfEnable : Bool := false
  /-- AtomicOp Requester Enable -/
  atomicEn : Bool := false
  /-- Relaxed Ordering Enable; PCI Express resets it to 1 (PRESUMED, log 205) -/
  relaxedEn : Bool := true
  msixEn : Bool := false
  msixMask : Bool := false
  /-- Max Payload Size and Max Read Request Size as PCI Express codes them, 128 bytes times two to the code; PCI Express resets them to 128 and 512
  bytes -/
  maxPayload : Nat := 0
  maxRead : Nat := 2
  deriving DecidableEq, Repr

/-- The fields of a translation context (Table 10.1). -/
structure CtxFields where
  valid : Bool := false
  hport : Nat := 0
  func : Nat := 0
  pasid : Nat := 0
  /-- 0: 3 levels, 1: 4 levels, 2: 5 levels -/
  levels : Nat := 0
  /-- output address bits 51 to 12 of the root table -/
  root : Nat := 0
  /-- SUPERVISOR -/
  priv : Bool := false
  supDataU : Bool := false
  amEn : Bool := false
  parkEn : Bool := false
  deriving DecidableEq, Repr

/-- What QP_CREATE names (09_host_attach_and_queues.md, Table 16.7). -/
structure QpParams where
  hport : Nat := 0
  func : Nat := 0
  ctx : Nat := 0
  job : Nat := 0
  gen : Nat := 0
  sqLog : Nat := 0
  rqLog : Nat := 0
  cqLog : Nat := 0
  dbMode : Nat := 0
  batchN : Nat := 0
  eq : Nat := 0
  sqBase : Nat := 0
  rqBase : Nat := 0
  cqBase : Nat := 0
  record : Nat := 0
  deriving DecidableEq, Repr

/-- What EQ_CREATE names. -/
structure EqParams where
  hport : Nat := 0
  func : Nat := 0
  ctx : Nat := 0
  vec : Nat := 0
  log : Nat := 0
  base : Nat := 0
  deriving DecidableEq, Repr

/-- A window-table entry (Table 11.4). STATE: 0 FREE, 1 OPEN, 2 REVOKING, 3 COOLING. -/
structure WinEntry where
  state : Nat := 0
  opened : Bool := false
  permRead : Bool := false
  permWrite : Bool := false
  scopePid : Bool := false
  cntEn : Bool := false
  gen : Nat := 0
  hport : Nat := 0
  func : Nat := 0
  ctx : Nat := 0
  job : Nat := 0
  peerPid : Nat := 0
  cntIdx : Nat := 0
  base : Nat := 0
  length : Nat := 0
  freeGt : Nat := 0
  deriving DecidableEq, Repr

/-- The kinds of an unexpected entry (12_message_matching.md). -/
inductive MsgKind
  | eager | rts | converting | dead
  deriving DecidableEq, Repr

/-- Where an ECC or parity error is found (18_faults.md Table 18.4). -/
inductive EccSite
  /-- an input buffer, skid pool or staging buffer: input 0 to 107, and the VC whose front packet is hit -/
  | buffer (input : Fin 108) (vc : Vc)
  /-- VC7 staging of an endpoint port: the oldest packet is hit -/
  | staging (e : Fin 12)
  | replay (p : Port)
  /-- routing banks, exclusion masks, line rows, throttle table -/
  | routing
  /-- a TLB or walk-cache entry: context and virtual address -/
  | tlb (ctx : Fin 65536) (va : BitVec 64)
  /-- TC cache, QP and EQ context caches, hot tally counters, comparators, match bins -/
  | tcCache | qpCache | hotTally | comparators | matchBins
  /-- an access to an HBM region by its code (20_firmware_and_trust.md R699); 0 the background scrubber -/
  | hbm (region : Fin 13)
  /-- Mire payload of the receive that a QP has bound under a post sequence -/
  | mire (q : QIdx) (post : BitVec 32)
  /-- staging of a contribution of a collective instance -/
  | collStaging (g : Fin 4096) (k : Nat)
  /-- an entry of the running schedule image: table, iteration, slot -/
  | schedule (t : Fin 106) (k i : Nat)
  /-- a snapshot slot being copied -/
  | snapshot
  | sram
  /-- MRAM: a record; 0 boot record, 1 anti-rollback record, 2 configuration slot A, 3 configuration slot B, 4 other -/
  | mram (record : Fin 5)
  /-- a register-bus access to the block of a fault page -/
  | bus (page : BitVec 29)
  deriving DecidableEq, Repr

/-- What happens on the JTAG pins (21_pins_and_electrical.md R721). -/
inductive TapEdge
  /-- TCK rises with these levels on TMS and TDI -/
  | rise (tms tdi : Bool)
  | fall
  /-- TRST_N is low -/
  | trst
  deriving DecidableEq, Repr

/-- A mirror record by its type (Table 15.5). Where the manual gives the content of a body flit but not the place of its
bits, the record holds the content (log 40). -/
inductive MirRec
  | inc (fullinc : Nat)
  | syncBegin
  | syncEnd
  | func (hport func state : Nat)
  /-- create, or release when the context is not VALID -/
  | ctx (id : Nat) (c : CtxFields)
  | qp (qidx : Nat) (p : QpParams)
  | eq (p : EqParams)
  /-- the four indices of a QP: SQ_PI, RQ_PI, CQ_CI; of an event queue: EQ_CI -/
  | idx (hport func : Nat) (qidx : Nat) (isEq : Bool) (sqPi rqPi cqCi eqCi : Nat)
  | reserve (hport func qidx sqIdx opid dpid seq count : Nat) (fired : Bool)
  /-- a completion entry of a CQ about to be written at a CQ index; the SQ index up to which it covers, where it covers any -/
  | done (hport func qidx cqIdx : Nat) (entry : Flit) (covers : Option Nat)
  | post (hport func qidx rqIdx post desc : Nat)
  | match_ (hport func qidx post spid opid : Nat)
  | unexp (hport func qidx comm srank tag spid opid mlen : Nat) (kind : MsgKind) (order : Nat) (payload : Option (List Byte))
  | win (idx : Nat) (w : WinEntry)
  /-- a counter range allocated (true) or freed, or a QP binding -/
  | cntRange (hport func first count : Nat) (alloc : Bool)
  | cntBind (hport func qidx cnt : Nat) (en : Bool)
  | mode (relaxed : Bool)
  | move (target : Nat) (isReturn : Bool)
  | yield_ (target : Nat)
  deriving DecidableEq, Repr

end Sys2Proof
end

