-- ==== Sys2Proof/Syntax.lean ====
section
/-! DEFINITION. The commands of the block: one constructor for each row of spec/opcode_table.json. -/

namespace Sys2Proof

/-- The commands of the block, one constructor for each row of spec/opcode_table.json, in the table's order. -/
inductive Instr
  /-- REGISTER_WRITE (R12) -/
  | registerWrite (t : RegTarget) (bytes : Nat) (data : Word)
  /-- ROUTE_DECISION (R238) -/
  | routeDecision (input : Fin 108) (v : Vc)
  /-- CROSSBAR_GRANT (R28) -/
  | crossbarGrant (output : Fin 108)
  /-- PACKET_TAIL_PASS (R29) -/
  | packetTailPass (output : Fin 108)
  /-- RX_PIPELINE_PACKET (R31) -/
  | rxPipelinePacket (e : Fin 10)
  /-- CODEWORD_DECODE (R131) -/
  | codewordDecode (p : Port) (x : PairLevels)
  /-- COMMA_HALF_RECEIVE (R133) -/
  | commaHalfReceive (l : Lane) (marker cidx ctag : List Level) (onGrid : Bool) (frac : BitVec 6) (skew : BitVec 9)
  /-- COMMA_LOCK_LOSS (R134) -/
  | commaLockLoss (l : Lane)
  /-- COMMA_HALF_TRANSMIT (R145) -/
  | commaHalfTransmit (l : Lane) (frac : BitVec 6)
  /-- PORT_CTRL_EN_WRITE (R158) -/
  | portCtrlEnWrite (p : Port) (en : Bool)
  /-- PORT_CTRL_RETRAIN_WRITE (R158) -/
  | portCtrlRetrainWrite (p : Port) (bit : Bool)
  /-- LANE_SIGNAL_DETECT (R142) -/
  | laneSignalDetect (l : Lane)
  /-- LANE_SIGNAL_LOSS (R142) -/
  | laneSignalLoss (l : Lane) (lockOnly : Bool)
  /-- TRAIN_FRAME_RECEIVE (R139) -/
  | trainFrameReceive (l : Lane) (marker words : List Level) (wish : BitVec 8) (adapted : Bool)
  /-- TRAIN_LIMIT_EXPIRE (R142) -/
  | trainLimitExpire (p : Port)
  /-- TRAIN_HOLD_EXPIRE (R142) -/
  | trainHoldExpire (p : Port)
  /-- IDENTITY_RECORD_RECEIVE (R141) -/
  | identityRecordReceive (p : Port) (pair : Fin 2049)
  /-- MISWIRED_RETRY (R67) -/
  | miswiredRetry (p : Port)
  /-- LP_QUIET_EXIT (R150) -/
  | lpQuietExit (x : PortPlace)
  /-- LP_DORMANT_ENERGY_WAKE (R151) -/
  | lpDormantEnergyWake (p : Port) (local_ : Bool)
  /-- LP_EXIT_SLOW (R152) -/
  | lpExitSlow (p : Port)
  /-- LINK_FRAME_RECEIVE (R171) -/
  | linkFrameReceive (p : Port) (flits : List Flit) (trailer : Word) (announced : Fin 8) (marked : Bool)
  /-- LINK_BAD_UNIT (R168) -/
  | linkBadUnit (p : Port) (isLcw : Bool)
  /-- LCW_RECEIVE (R173) -/
  | lcwReceive (p : Port) (lcw : Word) (atBoundary : Bool)
  /-- REPLAY_TIMER_EXPIRE (R175) -/
  | replayTimerExpire (p : Port)
  /-- STATUS_LCW_DUE (R172) -/
  | statusLcwDue (p : Port)
  /-- XOFF_REPEAT (R184) -/
  | xoffRepeat (p : Port)
  /-- XOFF_WATCHDOG_EXPIRE (R187) -/
  | xoffWatchdogExpire (p : Port) (v : Vc)
  /-- LEAK_RETRAIN (R178) -/
  | leakRetrain (p : Port) (expired : Bool)
  /-- LINK_UNIT_TRANSMIT (R188) -/
  | linkUnitTransmit (p : Port)
  /-- SESSION_START_RECEIVE (R192) -/
  | sessionStartReceive (p : Port) (lcw : Word)
  /-- LINK_CTRL_RETIRE_WRITE (R195) -/
  | linkCtrlRetireWrite (p : Port) (bit : Bool)
  /-- LINK_CTRL_FRESH_RETRAIN_WRITE (R200) -/
  | linkCtrlFreshRetrainWrite (p : Port) (bit : Bool)
  /-- LP_REQ_RECEIVE (R196) -/
  | lpReqReceive (p : Port) (dorm : Bool)
  /-- LP_ACK_RECEIVE (R197) -/
  | lpAckReceive (p : Port) (dorm : Bool)
  /-- LP_NAK_RECEIVE (R196) -/
  | lpNakReceive (p : Port) (dorm : Bool)
  /-- QUIET_IDLE_EXPIRE (R619) -/
  | quietIdleExpire (p : Port)
  /-- SYNC_FLIT_SEND (R207) -/
  | syncFlitSend (p : Port)
  /-- SYNC_TIMING_RECEIVE (R211) -/
  | syncTimingReceive (p : Port) (flit : Flit)
  /-- SYNC_EPOCH_RECEIVE (R218) -/
  | syncEpochReceive (p : Port) (flit : Flit)
  /-- GM_ELECTION (R213) -/
  | gmElection
  /-- SYNC_INFO_EXPIRE (R216) -/
  | syncInfoExpire (p : Port)
  /-- HOLDOVER_INTERVAL (R220) -/
  | holdoverInterval
  /-- PPS_EDGE (R228) -/
  | ppsEdge (falling : Bool)
  /-- PPS_MISSING (R228) -/
  | ppsMissing
  /-- AON_RATE_MEASURE (R230) -/
  | aonRateMeasure (period : W32)
  /-- GEYS_STEP_WRITE (R219) -/
  | geysStepWrite (amount : BitVec 48)
  /-- LINE_NOTICE_REFRESH (R245) -/
  | lineNoticeRefresh (p : Port)
  /-- LINE_NOTICE_RECEIVE (R246) -/
  | lineNoticeReceive (p : Port) (flit : Flit)
  /-- FLIP_ARM_WRITE (R253) -/
  | flipArmWrite (bit : Bool)
  /-- FLIP_NOTICE_RECEIVE (R255) -/
  | flipNoticeReceive (p : Port) (flit : Flit)
  /-- ROUTING_FLIP (R257) -/
  | routingFlip
  /-- BANK_HOLD_EXPIRE (R257) -/
  | bankHoldExpire
  /-- MARK_NOTICE_RECEIVE (R263) -/
  | markNoticeReceive (p : Port) (flit : Flit)
  /-- ROUT_TRANSIT_OFF_WRITE (R267) -/
  | routTransitOffWrite (bit : Bool)
  /-- SCHEDULE_RUN_START (R286) -/
  | scheduleRunStart
  /-- SCHEDULE_STOP_REACHED (R289) -/
  | scheduleStopReached
  /-- SCHEDULE_SWITCH (R291) -/
  | scheduleSwitch
  /-- LAUNCH_FETCH (R294) -/
  | launchFetch (e : Fin 24) (data : HostRead)
  /-- SLOT_PREFETCH (R295) -/
  | slotPrefetch (t : Fin 106) (k i : Nat) (hit : Bool)
  /-- SLOT_START (R296) -/
  | slotStart (t : Fin 106) (k i : Nat)
  /-- VC7_HEAD_ARRIVAL (R307) -/
  | vc7HeadArrival (input : Port)
  /-- VC7_ORPHAN_TIMEOUT (R307) -/
  | vc7OrphanTimeout (input : Port)
  /-- SCHED_ABORT_RECEIVE (R310) -/
  | schedAbortReceive (p : Port) (flit : Flit)
  /-- SKIPPED_DESC_COMPLETE (R312) -/
  | skippedDescComplete (data : HostRead)
  /-- PREWARM_DECIDE (R315) -/
  | prewarmDecide (n k : Nat)
  /-- PREWARM_RAMP_UP (R313) -/
  | prewarmRampUp
  /-- PREWARM_RAMP_DOWN (R313) -/
  | prewarmRampDown
  /-- LSTEP_ASSERT (R314) -/
  | lstepAssert
  /-- LSTEP_RELEASE (R314) -/
  | lstepRelease
  /-- SCHD_GO_WRITE (R287) -/
  | schdGoWrite (bit : Bool)
  /-- SCHD_ABORT_WRITE (R311) -/
  | schdAbortWrite (bit : Bool)
  /-- SCHD_CLEAR_WRITE (R286) -/
  | schdClearWrite (bit : Bool)
  /-- FUNC_CTRL_EN_WRITE (R325) -/
  | funcCtrlEnWrite (h : HPort) (f : Func) (en : Bool)
  /-- FUNC_ENABLE_EVENT (R325) -/
  | funcEnableEvent (h : HPort) (f : Func) (cfg : FuncCfg)
  /-- FUNC_DISABLE_EVENT (R328) -/
  | funcDisableEvent (h : HPort) (f : Func) (cfg : FuncCfg)
  /-- FLR (R326) -/
  | flr (h : HPort) (f : Func)
  /-- QUIESCE_COMPLETE (R328) -/
  | quiesceComplete (h : HPort) (f : Func)
  /-- QUIESCE_TIMEOUT (R330) -/
  | quiesceTimeout (h : HPort) (f : Func)
  /-- SQ_PI_WRITE (R339) -/
  | sqPiWrite (h : HPort) (f : Func) (slot : Fin 7168) (v : W32)
  /-- RQ_PI_WRITE (R339) -/
  | rqPiWrite (h : HPort) (f : Func) (slot : Fin 7168) (v : W32)
  /-- CQ_CI_WRITE (R335) -/
  | cqCiWrite (h : HPort) (f : Func) (slot : Fin 7168) (v : W32)
  /-- CQ_ARM_WRITE (R356) -/
  | cqArmWrite (h : HPort) (f : Func) (slot : Fin 7168) (arm : Bool)
  /-- EQ_CI_WRITE (R354) -/
  | eqCiWrite (h : HPort) (f : Func) (vec : Fin 2048) (v : W32)
  /-- EQ_ARM_WRITE (R356) -/
  | eqArmWrite (h : HPort) (f : Func) (vec : Fin 2048) (arm : Bool)
  /-- DOORBELL_RECORD_POLL (R338) -/
  | doorbellRecordPoll (h : HPort) (data : HostRead)
  /-- SNOOP_INVALIDATE (R338) -/
  | snoopInvalidate (q : QIdx) (data : HostRead)
  /-- DESCRIPTOR_FETCH (R341) -/
  | descriptorFetch (q : QIdx) (rq : Bool)
  /-- DESCRIPTOR_ARRIVE (R344) -/
  | descriptorArrive (q : QIdx) (rq : Bool) (data : HostRead)
  /-- DMA_READ_ERROR (R323) -/
  | dmaReadError (h : HPort) (f : Func)
  /-- COMPLETION_WRITE (R346) -/
  | completionWrite (q : QIdx)
  /-- HOST_LINK_UP (R321) -/
  | hostLinkUp (h : HPort) (offersCxl flit : Bool) (rate : Fin 8) (width : Fin 17)
  /-- HOST_LINK_DOWN (R599) -/
  | hostLinkDown (h : HPort) (l2 : Bool)
  /-- PERST_ASSERT (R599) -/
  | perstAssert (h : HPort)
  /-- PERST_DEASSERT (R610) -/
  | perstDeassert (h : HPort)
  /-- WALK_ENTRY_RETURN (R373) -/
  | walkEntryReturn (w : Fin 4) (entry : Option Word)
  /-- WALK_CAS_RETURN (R373) -/
  | walkCasReturn (w : Fin 4) (old : Option Word)
  /-- INVALIDATION_COMPLETE (R387) -/
  | invalidationComplete
  /-- PARK_TIMEOUT (R394) -/
  | parkTimeout (slot : Fin 1024)
  /-- XLT_INV_GO_WRITE (R387) -/
  | xltInvGoWrite (bit : Bool)
  /-- TC_CACHE_LOAD (R401) -/
  | tcCacheLoad (adopted : Bool) (pid : Pid)
  /-- TC_DEADLINE_SWEEP (R402) -/
  | tcDeadlineSweep
  /-- PACKET_FORM (R403) -/
  | packetForm (o : Nat) (data : HostRead)
  /-- ACK_RECEIVE (R415) -/
  | ackReceive
  /-- NACK_RECEIVE (R415) -/
  | nackReceive
  /-- RETRANSMIT_TIMER_EXPIRE (R416) -/
  | retransmitTimerExpire (adopted : Bool) (pid : Pid) (payloads : List HostRead)
  /-- TC_GIVEUP_EXPIRE (R419) -/
  | tcGiveupExpire (adopted : Bool) (pid : Pid)
  /-- HELLO_RECEIVE (R421) -/
  | helloReceive
  /-- HELLO_RESP_RECEIVE (R422) -/
  | helloRespReceive
  /-- READ_RESP_FORM (R431) -/
  | readRespForm (id : Nat) (data : HostRead)
  /-- READ_RESP_RECEIVE (R432) -/
  | readRespReceive
  /-- REVOKE_COMPLETE (R441) -/
  | revokeComplete (w : Fin 16777216)
  /-- REVOKE_DRAIN_SLOW (R441) -/
  | revokeDrainSlow (w : Fin 16777216)
  /-- WINDOW_COOLING_END (R441) -/
  | windowCoolingEnd (w : Fin 16777216)
  /-- WIN_OPEN_GO_WRITE (R446) -/
  | winOpenGoWrite (bit : Bool)
  /-- WIN_REVOKE_WRITE (R440) -/
  | winRevokeWrite (key : W32)
  /-- TC_CTRL_RESET_WRITE (R444) -/
  | tcCtrlResetWrite (bit : Bool)
  /-- NOP_DESC (R345) -/
  | nopDesc (q : QIdx) (fired : Bool)
  /-- WRITE (R427) -/
  | write (q : QIdx) (fired : Bool)
  /-- READ (R427) -/
  | read (q : QIdx) (fired : Bool)
  /-- WIN_REVOKE_DESC (R442) -/
  | winRevokeDesc (q : QIdx)
  /-- SEND (R451) -/
  | send (q : QIdx) (fired : Bool)
  /-- RNDV_WINDOW_OPEN (R453) -/
  | rndvWindowOpen (o : Nat)
  /-- RECV (R459) -/
  | recv (q : QIdx)
  /-- REORDER_RELEASE (R457) -/
  | reorderRelease (i : Nat)
  /-- MATCH_ARRIVAL (R459) -/
  | matchArrival
  /-- PRQ_ENTRY_FREE (R459) -/
  | prqEntryFree (q : QIdx)
  /-- CNT_ADD (R485) -/
  | cntAdd (q : QIdx) (fired : Bool)
  /-- CNT_SET (R485) -/
  | cntSet (q : QIdx) (fired : Bool)
  /-- TRIG (R488) -/
  | trig (q : QIdx)
  /-- WAIT (R486) -/
  | wait (q : QIdx)
  /-- CNT_FETCH (R485) -/
  | cntFetch (q : QIdx) (fired : Bool)
  /-- COUNTER_UPDATE (R482) -/
  | counterUpdate
  /-- TRIGGER_FIRE_TIME (R489) -/
  | triggerFireTime
  /-- TRIGGER_SWEEP (R492) -/
  | triggerSweep
  /-- FIRED_OP_END (R482) -/
  | firedOpEnd
  /-- PENDING_ENTRY_FREE (R493) -/
  | pendingEntryFree (q : QIdx)
  /-- TRG_CNT_VAL_WRITE (R497) -/
  | trgCntValWrite (v : Word)
  /-- TRG_CNT_ADD_WRITE (R497) -/
  | trgCntAddWrite (v : Word)
  /-- ALLREDUCE (R509) -/
  | allreduce (q : QIdx) (fired : Bool) (data : HostRead)
  /-- REDUCE_SCATTER (R509) -/
  | reduceScatter (q : QIdx) (fired : Bool) (data : HostRead)
  /-- ALLGATHER (R509) -/
  | allgather (q : QIdx) (fired : Bool) (data : HostRead)
  /-- BARRIER (R509) -/
  | barrier (q : QIdx) (fired : Bool)
  /-- LINE_BCAST (R509) -/
  | lineBcast (q : QIdx) (fired : Bool) (data : HostRead)
  /-- COLL_CONTRIB_TAP (R521) -/
  | collContribTap (input : Port)
  /-- TIMED_GUARD_START (R527) -/
  | timedGuardStart
  /-- TIMED_PHASE_LAUNCH (R526) -/
  | timedPhaseLaunch
  /-- COLL_PHASE_TIMEOUT (R533) -/
  | collPhaseTimeout (g : Fin 4096) (k : Nat)
  /-- CARR_HEARTBEAT_SEND (R543) -/
  | carrHeartbeatSend (p : Fin 2)
  /-- CARR_UNIT_RECEIVE (R544) -/
  | carrUnitReceive (flit : Flit)
  /-- CARR_SILENCE_EXPIRE (R544) -/
  | carrSilenceExpire
  /-- MATE_ALIVE_EDGE (R545) -/
  | mateAliveEdge
  /-- MATE_ALIVE_SILENCE (R545) -/
  | mateAliveSilence
  /-- MIRROR_RECORD_RECEIVE (R549) -/
  | mirrorRecordReceive (mseq : W32) (r : Option MirRec)
  /-- MIRROR_ACK_RECEIVE (R549) -/
  | mirrorAckReceive (flit : Flit)
  /-- MIRROR_TIMEOUT (R553) -/
  | mirrorTimeout
  /-- PAIR_START_TIMEOUT (R553) -/
  | pairStartTimeout
  /-- MOVE_QUIESCE_START (R565) -/
  | moveQuiesceStart
  /-- MOVE_YIELD (R565) -/
  | moveYield (verified : Bool)
  /-- MOVE_STALE_WINDOW_END (R566) -/
  | moveStaleWindowEnd
  /-- PAIR_CTRL_MODE_WRITE (R551) -/
  | pairCtrlModeWrite (relaxed : Bool)
  /-- PAIR_CTRL_TAKEOVER_WRITE (R560) -/
  | pairCtrlTakeoverWrite (bit : Bool)
  /-- CMD_PI_WRITE (R584) -/
  | cmdPiWrite (h : HPort) (f : Func) (v : W32)
  /-- RPL_CI_WRITE (R585) -/
  | rplCiWrite (h : HPort) (f : Func) (v : W32)
  /-- CMD_ARM_WRITE (R586) -/
  | cmdArmWrite (h : HPort) (f : Func) (arm : Bool)
  /-- CMD_RCFG_WRITE (R583) -/
  | cmdRcfgWrite (h : HPort) (f : Func) (v : W32)
  /-- COMMAND_FETCH (R584) -/
  | commandFetch (h : HPort) (f : Func) (data xbuf : HostRead)
  /-- COMMAND_PROGRESS_TIMER (R578) -/
  | commandProgressTimer (c : CmdRef)
  /-- SMBUS_MESSAGE (R589) -/
  | smbusMessage (bytes : List Byte) (pecOk : Bool)
  /-- MGMT_REQ_RECEIVE (R591) -/
  | mgmtReqReceive
  /-- MGMT_RESP_RECEIVE (R591) -/
  | mgmtRespReceive
  /-- REMOTE_TIMEOUT (R591) -/
  | remoteTimeout (c : CmdRef)
  /-- MGMT_FLIT_QUERY_RECEIVE (R592) -/
  | mgmtFlitQueryReceive (p : Port) (flit : Flit)
  /-- MGMT_FLIT_INFO_RECEIVE (R592) -/
  | mgmtFlitInfoReceive (p : Port) (flit : Flit)
  /-- NEIGHBOUR_INFO_TIMEOUT (R592) -/
  | neighbourInfoTimeout (c : CmdRef)
  /-- NOP (R595) -/
  | nop (c : CmdRef)
  /-- DEV_INFO (R595) -/
  | devInfo (c : CmdRef) (page : BitVec 8)
  /-- REMOTE (R591) -/
  | remote (c : CmdRef) (pid : BitVec 32) (timeoutMs : BitVec 16) (cmdAddr : BitVec 64) (outAddr : BitVec 64) (data : HostRead)
  /-- PORT_ENABLE (R158) -/
  | portEnable (c : CmdRef) (port : BitVec 8) (en : BitVec 8)
  /-- PORT_PRESET (R595) -/
  | portPreset (c : CmdRef) (port : BitVec 8) (preset : BitVec 8)
  /-- PORT_RETRAIN (R200) -/
  | portRetrain (c : CmdRef) (port : BitVec 8) (fresh : BitVec 8)
  /-- PORT_STATUS (R595) -/
  | portStatus (c : CmdRef) (port : BitVec 8)
  /-- PORT_PEER (R595) -/
  | portPeer (c : CmdRef) (port : BitVec 8)
  /-- PORT_RETIRE (R195) -/
  | portRetire (c : CmdRef) (port : BitVec 8)
  /-- LINK_TIMERS (R54) -/
  | linkTimers (c : CmdRef) (port : BitVec 8) (replayTmr : BitVec 32) (xoffWdog : BitVec 32)
  /-- PORT_ASYM (R595) -/
  | portAsym (c : CmdRef) (port : BitVec 8) (asym : BitVec 16)
  /-- NEIGHBOUR_INFO (R592) -/
  | neighbourInfo (c : CmdRef) (port : BitVec 8)
  /-- LP_ENABLE (R196) -/
  | lpEnable (c : CmdRef) (port : BitVec 8) (lpEn : BitVec 8)
  /-- ALIAS_WRITE (R747) -/
  | aliasWrite (c : CmdRef) (bank : BitVec 8) (index : BitVec 16) (entry : BitVec 64)
  /-- ALIAS_BULK (R747) -/
  | aliasBulk (c : CmdRef) (bank : BitVec 8) (first : BitVec 16) (count : BitVec 16) (addr : BitVec 64) (data : HostRead)
  /-- EXCL_WRITE (R252) -/
  | exclWrite (c : CmdRef) (bank : BitVec 8) (maskLo : BitVec 64) (maskHi : BitVec 32)
  /-- FLIP (R253) -/
  | flip (c : CmdRef) (targetGt : BitVec 64) (flipId : BitVec 16) (newMode : BitVec 8)
  /-- TRANSIT_OFF (R267) -/
  | transitOff (c : CmdRef) (off : BitVec 8)
  /-- TOPO_SET (R59) -/
  | topoSet (c : CmdRef) (topo : BitVec 64) (mramOk : Bool)
  /-- COST_SET (R595) -/
  | costSet (c : CmdRef) (markThr : BitVec 16) (detThr : BitVec 8) (detBias : BitVec 8)
  /-- THROTTLE_SET (R595) -/
  | throttleSet (c : CmdRef) (aiStep : BitVec 8) (mdShift : BitVec 8) (rateMin : BitVec 8) (aiPkts : BitVec 8) (lqThr : BitVec 16) (markEvery : BitVec 8) (thrEn : BitVec 8)
  /-- ROUTE_STATUS (R595) -/
  | routeStatus (c : CmdRef)
  /-- ROWS_READ (R246) -/
  | rowsRead (c : CmdRef) (dim : BitVec 8) (outAddr : BitVec 64)
  /-- THROTTLE_READ (R595) -/
  | throttleRead (c : CmdRef) (outAddr : BitVec 64)
  /-- ALIAS_READ (R595) -/
  | aliasRead (c : CmdRef) (bank : BitVec 8) (outAddr : BitVec 64)
  /-- ROUTE_HOLD (R54) -/
  | routeHold (c : CmdRef) (hold : BitVec 64)
  /-- GM_CFG (R595) -/
  | gmCfg (c : CmdRef) (gmPrio : BitVec 8) (gmEn : BitVec 8) (ppsEn : BitVec 8) (ref10mEn : BitVec 8) (ppsFall : BitVec 8)
  /-- GEYS_LIMITS (R595) -/
  | geysLimits (c : CmdRef) (schedUncMax : BitVec 16) (hopUnc : BitVec 8) (stepThr : BitVec 16) (holdPpb : BitVec 16) (uncInvalid : BitVec 32)
  /-- TAI_SET (R229) -/
  | taiSet (c : CmdRef) (taiSec : BitVec 64) (utcOfs : BitVec 16)
  /-- GEYS_STEP (R219) -/
  | geysStep (c : CmdRef) (amount : BitVec 64)
  /-- GEYS_STATUS (R595) -/
  | geysStatus (c : CmdRef)
  /-- GEYS_SLEEP (R595) -/
  | geysSleep (c : CmdRef)
  /-- SCHED_LOAD (R284) -/
  | schedLoad (c : CmdRef) (buf : BitVec 8) (addr : BitVec 64) (len : BitVec 32) (data : HostRead)
  /-- SCHED_START (R287) -/
  | schedStart (c : CmdRef) (buf : BitVec 8) (startGt : BitVec 64) (machHash : BitVec 64)
  /-- SCHED_STOP (R289) -/
  | schedStop (c : CmdRef) (iter : BitVec 64)
  /-- SCHED_ABORT (R311) -/
  | schedAbort (c : CmdRef)
  /-- SCHED_CLEAR (R286) -/
  | schedClear (c : CmdRef)
  /-- SCHED_STATUS (R595) -/
  | schedStatus (c : CmdRef)
  /-- SCHED_CFG (R595) -/
  | schedCfg (c : CmdRef) (fitGuard : BitVec 8) (cutHorizon : BitVec 16) (lateTol : BitVec 8) (abortThr : BitVec 8) (prewarmEn : BitVec 8) (lstepEn : BitVec 8) (lstepLead : BitVec 8)
  /-- QP_CREATE (R331) -/
  | qpCreate (c : CmdRef) (ctx : BitVec 16) (job : BitVec 16) (gen : BitVec 8) (sqLog : BitVec 8) (rqLog : BitVec 8) (cqLog : BitVec 8) (dbMode : BitVec 8) (batchN : BitVec 8) (eq : BitVec 16) (sqBase : BitVec 64) (rqBase : BitVec 64) (cqBase : BitVec 64) (record : BitVec 64)
  /-- EQ_CREATE (R354) -/
  | eqCreate (c : CmdRef) (ctx : BitVec 16) (vec : BitVec 16) (log : BitVec 8) (base : BitVec 64)
  /-- FUNC_RESET (R325) -/
  | funcReset (c : CmdRef) (func : BitVec 8)
  /-- FUNC_STATUS (R595) -/
  | funcStatus (c : CmdRef) (func : BitVec 8)
  /-- QP_STATUS (R595) -/
  | qpStatus (c : CmdRef) (qidx : BitVec 32)
  /-- HELD_STATUS (R595) -/
  | heldStatus (c : CmdRef)
  /-- HPORT_CFG (R321) -/
  | hportCfg (c : CmdRef) (cxlEn : BitVec 8)
  /-- POLL_RATE (R595) -/
  | pollRate (c : CmdRef) (rate : BitVec 8)
  /-- JOB_BIND (R82) -/
  | jobBind (c : CmdRef) (job : BitVec 16) (ranks : BitVec 32)
  /-- JOB_RELEASE (R82) -/
  | jobRelease (c : CmdRef) (job : BitVec 16) (gen : BitVec 8)
  /-- RANK_WRITE (R82) -/
  | rankWrite (c : CmdRef) (job : BitVec 16) (gen : BitVec 8) (rank : BitVec 32) (entry : BitVec 64)
  /-- RANK_BULK (R82) -/
  | rankBulk (c : CmdRef) (job : BitVec 16) (gen : BitVec 8) (first : BitVec 32) (count : BitVec 32) (addr : BitVec 64) (data : HostRead)
  /-- JOB_STATUS (R82) -/
  | jobStatus (c : CmdRef) (job : BitVec 16)
  /-- CTX_CREATE (R364) -/
  | ctxCreate (c : CmdRef) (levels : BitVec 8) (priv : BitVec 8) (supDataU : BitVec 8) (amEn : BitVec 8) (parkEn : BitVec 8) (pasid : BitVec 32) (root : BitVec 64)
  /-- CTX_RELEASE (R365) -/
  | ctxRelease (c : CmdRef) (ctx : BitVec 16)
  /-- INVALIDATE (R386) -/
  | invalidate (c : CmdRef) (scope : BitVec 8) (wc : BitVec 8) (ctx : BitVec 16) (pages : BitVec 32) (va : BitVec 64)
  /-- PARK_RESOLVE (R393) -/
  | parkResolve (c : CmdRef) (parkId : BitVec 16) (parkGen : BitVec 8) (action : BitVec 8)
  /-- WALK_RANGE (R379) -/
  | walkRange (c : CmdRef) (index : BitVec 8) (en : BitVec 8) (base : BitVec 64) (limit : BitVec 64)
  /-- XLT_TIMERS (R595) -/
  | xltTimers (c : CmdRef) (maxAge : BitVec 64) (parkTime : BitVec 64)
  /-- CTX_STATUS (R595) -/
  | ctxStatus (c : CmdRef) (ctx : BitVec 16)
  /-- TPT_TIMERS (R54) -/
  | tptTimers (c : CmdRef) (lifetime : BitVec 64) (giveup : BitVec 64)
  /-- TPT_ACKCFG (R595) -/
  | tptAckcfg (c : CmdRef) (ackEvery : BitVec 8) (retryBudget : BitVec 8)
  /-- TC_RESET (R444) -/
  | tcReset (c : CmdRef) (pid : BitVec 32)
  /-- TC_STATUS (R595) -/
  | tcStatus (c : CmdRef) (pid : BitVec 32)
  /-- WIN_OPEN (R438) -/
  | winOpen (c : CmdRef) (perm : BitVec 8) (scopePid : BitVec 8) (cntEn : BitVec 8) (gen : BitVec 8) (ctx : BitVec 16) (job : BitVec 16) (peerPid : BitVec 32) (cntIdx : BitVec 32) (base : BitVec 64) (length : BitVec 64)
  /-- WIN_REVOKE (R442) -/
  | winRevoke (c : CmdRef) (key : BitVec 32)
  /-- WIN_STATUS (R748) -/
  | winStatus (c : CmdRef) (key : BitVec 32)
  /-- MAT_CFG (R477) -/
  | matCfg (c : CmdRef) (eagerLimit : BitVec 32) (mireRate : BitVec 16)
  /-- MAT_STATUS (R595) -/
  | matStatus (c : CmdRef)
  /-- MAT_QP_STATUS (R595) -/
  | matQpStatus (c : CmdRef) (qidx : BitVec 32)
  /-- CNT_ALLOC (R480) -/
  | cntAlloc (c : CmdRef) (count : BitVec 32)
  /-- CNT_FREE (R480) -/
  | cntFree (c : CmdRef) (first : BitVec 32) (count : BitVec 32)
  /-- CNT_BIND (R483) -/
  | cntBind (c : CmdRef) (qidx : BitVec 32) (cnt : BitVec 32) (en : BitVec 8)
  /-- CNT_READ (R483) -/
  | cntRead (c : CmdRef) (cnt : BitVec 32)
  /-- CNT_WRITE (R483) -/
  | cntWrite (c : CmdRef) (cnt : BitVec 32) (value : BitVec 64)
  /-- GROUP_CREATE (R501) -/
  | groupCreate (c : CmdRef) (gid : BitVec 16) (job : BitVec 16) (gen : BitVec 8) (dimmask : BitVec 8) (localCnt : BitVec 8) (depth : BitVec 8) (mask0 : BitVec 32) (mask1 : BitVec 32) (mask2 : BitVec 32) (mask3 : BitVec 32) (maxbytes : BitVec 32) (lqp0 : BitVec 32) (lqp1 : BitVec 32) (lqp2 : BitVec 32) (lqp3 : BitVec 32) (lqp4 : BitVec 32) (lqp5 : BitVec 32) (lqp6 : BitVec 32) (lqp7 : BitVec 32)
  /-- GROUP_DESTROY (R505) -/
  | groupDestroy (c : CmdRef) (gid : BitVec 16)
  /-- GROUP_STATUS (R505) -/
  | groupStatus (c : CmdRef) (gid : BitVec 16)
  /-- PAIR_MODE (R551) -/
  | pairMode (c : CmdRef) (mode : BitVec 8)
  /-- PAIR_MOVE (R564) -/
  | pairMove (c : CmdRef) (direction : BitVec 8) (g : BitVec 64)
  /-- PAIR_STATUS (R553) -/
  | pairStatus (c : CmdRef)
  /-- PAIR_TAKEOVER (R560) -/
  | pairTakeover (c : CmdRef)
  /-- RESET_FULL (R599) -/
  | resetFull (c : CmdRef) (delayUs : BitVec 32)
  /-- RESET_DELAY_EXPIRE (R599) -/
  | resetDelayExpire
  /-- POWER_STATE (R615) -/
  | powerState (c : CmdRef) (state : BitVec 8)
  /-- POWER_REQUEST_TIMEOUT (R615) -/
  | powerRequestTimeout
  /-- WAKE_CFG (R595) -/
  | wakeCfg (c : CmdRef) (sources : BitVec 32)
  /-- LAST_WAKE (R628) -/
  | lastWake (c : CmdRef)
  /-- SUPPLY_STATUS (R595) -/
  | supplyStatus (c : CmdRef)
  /-- FAULT_READ (R595) -/
  | faultRead (c : CmdRef) (page : BitVec 32)
  /-- FAULT_CLEAR (R644) -/
  | faultClear (c : CmdRef) (page : BitVec 32) (bits : BitVec 64)
  /-- FAULT_REACT (R646) -/
  | faultReact (c : CmdRef) (page : BitVec 32) (source : BitVec 8) (reaction : BitVec 8)
  /-- FAULT_GRACE (R595) -/
  | faultGrace (c : CmdRef) (page : BitVec 32) (grace : BitVec 64)
  /-- FAULT_FIRST (R595) -/
  | faultFirst (c : CmdRef) (page : BitVec 32)
  /-- DEV_PHASE (R649) -/
  | devPhase (c : CmdRef) (phase : BitVec 8)
  /-- READER_CFG (R676) -/
  | readerCfg (c : CmdRef) (windowUs : BitVec 32) (startGt : BitVec 64)
  /-- PERF_READ (R676) -/
  | perfRead (c : CmdRef) (addr : BitVec 32)
  /-- SNAPSHOT_COPY (R676) -/
  | snapshotCopy (c : CmdRef) (index : BitVec 32) (outAddr : BitVec 64)
  /-- FW_STAGE (R687) -/
  | fwStage (c : CmdRef) (addr : BitVec 64) (len : BitVec 32) (data : HostRead)
  /-- FW_STAGE_CHUNK (R687) -/
  | fwStageChunk (c : CmdRef) (offset : BitVec 32) (len : BitVec 8) (data : List Byte)
  /-- FW_ACTIVATE (R691) -/
  | fwActivate (c : CmdRef) (components : BitVec 32) (live : BitVec 8) (flashOk mramOk : Bool)
  /-- FIRMWARE_RESET_DELAY (R692) -/
  | firmwareResetDelay
  /-- FW_CONFIRM (R695) -/
  | fwConfirm (c : CmdRef) (mramOk : Bool)
  /-- FW_STATUS (R696) -/
  | fwStatus (c : CmdRef)
  /-- CFG_WRITE (R701) -/
  | cfgWrite (c : CmdRef) (addr : BitVec 64) (len : BitVec 32) (data : HostRead) (mramOk : Bool)
  /-- ATTEST (R706) -/
  | attest (c : CmdRef) (outAddr : BitVec 64) (nonce : List Byte)
  /-- IDENTITY_READ (R706) -/
  | identityRead (c : CmdRef) (index : BitVec 8) (outAddr : BitVec 64) (outLen : BitVec 32)
  /-- EXPERT_CHALLENGE (R593) -/
  | expertChallenge (c : CmdRef)
  /-- EXPERT_UNLOCK (R593) -/
  | expertUnlock (c : CmdRef) (token : List Byte)
  /-- EXPERT_LOCK (R594) -/
  | expertLock (c : CmdRef)
  /-- REG_READ (R738) -/
  | regRead (c : CmdRef) (addr : BitVec 32) (width : BitVec 8)
  /-- REG_WRITE (R738) -/
  | regWrite (c : CmdRef) (addr : BitVec 32) (width : BitVec 8) (value : BitVec 64)
  /-- EXPERT_STATUS (R595) -/
  | expertStatus (c : CmdRef)
  /-- POWER_ON_RESET (R599) -/
  | powerOnReset
  /-- RESET_N_ASSERT (R599) -/
  | resetNAssert
  /-- RST_CTRL_FULL_WRITE (R599) -/
  | rstCtrlFullWrite (bit : Bool)
  /-- FULL_RESET_RELEASE (R603) -/
  | fullResetRelease (straps : BitVec 4)
  /-- IMAGE_BOOT (R684) -/
  | imageBoot (mramOk : Bool)
  /-- HBM_INIT_COMPLETE (R608) -/
  | hbmInitComplete (incOk : Bool)
  /-- STARTUP_COMPLETE (R609) -/
  | startupComplete
  /-- CALDERA_WATCHDOG_WARN (R642) -/
  | calderaWatchdogWarn
  /-- CALDERA_WATCHDOG_EXPIRE (R599) -/
  | calderaWatchdogExpire
  /-- UNDERVOLTAGE (R634) -/
  | undervoltage (rail : Fin 9)
  /-- RAIL_RECOVERY (R634) -/
  | railRecovery
  /-- CORE_WAIT (R613) -/
  | coreWait
  /-- PEAT_LP_RETRY (R620) -/
  | peatLpRetry (p : Port)
  /-- PEAT_PORT_OFF (R620) -/
  | peatPortOff (p : Port)
  /-- PEAT_ENTRY_DONE (R620) -/
  | peatEntryDone
  /-- WAKE_EVENT (R625) -/
  | wakeEvent (src : Fin 12) (detail : BitVec 7)
  /-- PEAT_EXIT_COMPLETE (R624) -/
  | peatExitComplete (saveOk : Bool)
  /-- AON_CLOCK_LOSS (R629) -/
  | aonClockLoss (backup : Bool)
  /-- SUPPLY_FAIL (R631) -/
  | supplyFail (setB : Bool)
  /-- RESHARE_HOLD_EXPIRE (R633) -/
  | reshareHoldExpire (setB : Bool)
  /-- VAUX_LOSS (R636) -/
  | vauxLoss (setB : Bool)
  /-- VRHOT_ASSERT (R637) -/
  | vrhotAssert
  /-- FAULT_GRACE_EXPIRE (R650) -/
  | faultGraceExpire (page : BitVec 29)
  /-- FLT_FORCE_WRITE (R652) -/
  | fltForceWrite (page : BitVec 29) (raise hold : BitVec 16)
  /-- PIN_PHASE_WRITE (R649) -/
  | pinPhaseWrite (phase : BitVec 2)
  /-- FUMAROLE_TOGGLE (R653) -/
  | fumaroleToggle
  /-- ECC_ERROR (R656) -/
  | eccError (site : EccSite) (correctable : Bool) (detail : BitVec 40)
  /-- THERMAL_SAMPLE (R731) -/
  | thermalSample (temp : BitVec 11)
  /-- COUNTER_BOUNDARY (R667) -/
  | counterBoundary
  /-- SNAPSHOT_WRITE_COMPLETE (R672) -/
  | snapshotWriteComplete
  /-- CNT_START_WRITE (R669) -/
  | cntStartWrite (gt : Word)
  /-- READER_CONFIG_START (R669) -/
  | readerConfigStart
  /-- CONFIRM_TIMEOUT (R693) -/
  | confirmTimeout (mramOk : Bool)
  /-- LIVE_ACTIVATION_RESTART (R697) -/
  | liveActivationRestart
  /-- LIVE_ACTIVATION_COMPLETE (R697) -/
  | liveActivationComplete
  /-- LIVE_ACTIVATION_TIMEOUT (R698) -/
  | liveActivationTimeout
  /-- PPS_OUT_RISE (R729) -/
  | ppsOutRise
  /-- PPS_OUT_FALL (R729) -/
  | ppsOutFall
  /-- REFERENCE_LOCK_CHANGE (R217) -/
  | referenceLockChange (pps locked : Bool)
  /-- GM_CLASS_UPGRADE (R217) -/
  | gmClassUpgrade
  /-- EXPERT_LOCKOUT_EXPIRE (R593) -/
  | expertLockoutExpire
  /-- SUPPLY_OK_RETURN (R633) -/
  | supplyOkReturn (setB : Bool)
  /-- VAUX_RETURN (R636) -/
  | vauxReturn (setB : Bool)
  /-- VRHOT_DEASSERT (R637) -/
  | vrhotDeassert
  /-- ERR_N_SENSE_CHANGE (R642) -/
  | errNSenseChange (low : Bool)
  /-- HBM_TEMP_CHANGE (R732) -/
  | hbmTempChange (temp : BitVec 8)
  /-- HBM_SCRUB_PASS (R656) -/
  | hbmScrubPass
  /-- CALDERA_CORE_EXCEPTION (R642) -/
  | calderaCoreException (core : Fin 4)
  /-- JTAG_TAP_CLOCK (R721) -/
  | jtagTapClock (e : TapEdge)
  /-- COLL_STAGING_WRITE_DONE (R522) -/
  | collStagingWriteDone
  deriving DecidableEq, Repr

end Sys2Proof
end

