-- ==== Sys2Proof/Machine/Codes.lean ====
section
/-! DEFINITION. The status and event codes: completion statuses (Table 9.15), command statuses (Table 16.3), QP_ERROR causes and
event types (Table 9.9). -/

namespace Sys2Proof.Machine

def csOk : Nat := 0x00
def csIndeterminate : Nat := 0x01
def csPeerUnreachable : Nat := 0x02
def csWindowRevoked : Nat := 0x03
def csWindowKeyBad : Nat := 0x04
def csBounds : Nat := 0x05
def csPermission : Nat := 0x06
def csXltLocal : Nat := 0x07
def csXltRemote : Nat := 0x08
def csTruncated : Nat := 0x09
def csLifetime : Nat := 0x0A
def csBreach : Nat := 0x0B
def csCancelled : Nat := 0x0C
def csMirrorLost : Nat := 0x0D
def csBusyRetry : Nat := 0x0E
def csStaleInc : Nat := 0x0F
def csHeld : Nat := 0x10
/-- NAKCODE of a retry request -/
def nakRetry : Nat := 0xFF

def stOk : Nat := 0
def stInProgress : Nat := 1
def stBadOpcode : Nat := 2
def stBadParam : Nat := 3
def stNotPermitted : Nat := 4
def stBusy : Nat := 5
def stExhausted : Nat := 6
def stNeedsExpert : Nat := 7
def stFailed : Nat := 8

def qeSqOverrun : Nat := 1
def qeRqOverrun : Nat := 2
def qeCqIndexBad : Nat := 3
def qeDescBad : Nat := 4
def qeFetchFault : Nat := 5
def qeRecordFault : Nat := 6
def qeMirrorLost : Nat := 7

def evCqArmed : Nat := 0x01
def evCqFull : Nat := 0x02
def evQpError : Nat := 0x03
def evPrqFull : Nat := 0x04
def evTrgFull : Nat := 0x05
def evXltParked : Nat := 0x06
def evFuncWedged : Nat := 0x07
def evEqOverflow : Nat := 0x08
def evPairAdopt : Nat := 0x09

end Sys2Proof.Machine
end

