-- ==== Sys2Proof/Config.lean ====
section
/-! DEFINITION. The constants that an implementation fixes and the values the spec leaves open. -/

namespace Sys2Proof.Config

/-- The n-th value the spec leaves open, of w bits: nothing constrains it (log 4). -/
opaque freeValue (w n : Nat) : BitVec w

/-- Romond's PCI vendor ID, which the manual does not state (16_command_packets.md R589; log 47). -/
opaque vendorId : BitVec 16

/-- The identity certificates of index 0 and 1, held in MRAM (20_firmware_and_trust.md R704; log 48). -/
opaque certificate (index : Nat) : List Byte

/-- The certificate of index 2, issued for the attestation key of the loaded components (20_firmware_and_trust.md R705; log 48). -/
opaque attestCert (comps : List Byte) : List Byte

/-- r and s of an ECDSA P-384 signature by the attestation key of the loaded components: 96 bytes (20_firmware_and_trust.md Table 20.9; log 48). -/
opaque attestSign (comps report : List Byte) (n : Nat) : BitVec 768

/-- Length of the JTAG instruction register (21_pins_and_electrical.md R721; log 49). -/
opaque jtagIrLen : Nat

/-- What an instruction code selects: 0 BYPASS, 1 IDCODE, 2 SAMPLE/PRELOAD, 3 EXTEST, 4 an internal test register (log 49). -/
opaque jtagDecode (code : List Bool) : Fin 5

/-- The IDCODE register (log 49). -/
opaque jtagIdcode : BitVec 32

/-- Cells of the boundary-scan chain (log 49). -/
opaque jtagCells : Nat

/-- Bits of the internal test and scan registers that TEST_MODE opens (21_pins_and_electrical.md R723; log 49). -/
opaque jtagScanLen : Nat

end Sys2Proof.Config
end

