-- ==== Sys2Proof/Machine/Bits.lean ====
section
/-! DEFINITION. Byte order, bit fields and the cyclic codes of the spec: little-endian packing (00_scope.md R5), CRC-32 and
CRC-16 of the link (05_link_layer.md R163, R166) and CRC-32C (03_packets.md R110). -/

namespace Sys2Proof.Machine

/-- Bits `lo` to `lo + w - 1` of a number. -/
def field (x lo w : Nat) : Nat := x / 2 ^ lo % 2 ^ w

/-- The number with bits `lo` to `lo + w - 1` replaced by `v`. -/
def setField (x lo w v : Nat) : Nat :=
  x % 2 ^ lo + (v % 2 ^ w) * 2 ^ lo + x / 2 ^ (lo + w) * 2 ^ (lo + w)

/-- Whether bit `i` is 1. -/
def bitAt (x i : Nat) : Bool := x.testBit i

/-- The number with bit `i` set to `b`. -/
def setBit (x i : Nat) (b : Bool) : Nat := setField x i 1 (if b then 1 else 0)

/-- `b` as a number. -/
def bNat (b : Bool) : Nat := if b then 1 else 0

/-- The `n` low bytes of `x`, least significant first (R5). -/
def toBytes : Nat → Nat → List Byte
  | 0, _ => []
  | n + 1, x => BitVec.ofNat 8 x :: toBytes n (x / 256)

/-- The number whose bytes, least significant first, are given (R5). -/
def ofBytes : List Byte → Nat
  | [] => 0
  | b :: t => b.toNat + 256 * ofBytes t

/-- The bytes of a flit, byte 0 first. -/
def flitBytes (f : Flit) : List Byte := toBytes 32 f.toNat

/-- The bytes of flits in transmission order. -/
def flitsBytes (fs : List Flit) : List Byte := fs.flatMap flitBytes

/-- Bytes packed into flits, the last one padded with zeros (03_packets.md R108). -/
def packFlits : Nat → List Byte → List Flit
  | 0, _ => []
  | n + 1, bs => BitVec.ofNat 256 (ofBytes (bs.take 32)) :: packFlits n (bs.drop 32)

/-- The smallest number of 32-byte flits that hold `n` bytes. -/
def flitsFor (n : Nat) : Nat := (n + 31) / 32

/-- `n` rounded up to a multiple of `a`. -/
def alignUp (n a : Nat) : Nat := (n + a - 1) / a * a

/-- A two's complement field of `w` bits as an integer. -/
def signedOf (w x : Nat) : Int := if x % 2 ^ w < 2 ^ (w - 1) then (x % 2 ^ w : Nat) else (x % 2 ^ w : Nat) - (2 ^ w : Nat)

/-- An integer as a two's complement field of `w` bits. -/
def ofSigned (w : Nat) (i : Int) : Nat := (i % (2 ^ w : Nat)).toNat

/-- One bit step of a reflected CRC with polynomial `p`. -/
def crcBit (p c : Nat) : Nat := if c % 2 = 1 then (c / 2) ^^^ p else c / 2

/-- Eight bit steps of a reflected CRC after taking in one byte. -/
def crcByte (p c : Nat) (b : Byte) : Nat :=
  let c0 := c ^^^ b.toNat
  crcBit p (crcBit p (crcBit p (crcBit p (crcBit p (crcBit p (crcBit p (crcBit p c0)))))))

/-- A reflected 32-bit CRC with all-ones initial value and final exclusive-or. -/
def crcReflected (p : Nat) (bs : List Byte) : Nat := (bs.foldl (crcByte p) 0xFFFFFFFF) ^^^ 0xFFFFFFFF

/-- The CRC-32 of IEEE 802.3 (05_link_layer.md R163), polynomial 0x04C11DB7 reflected. -/
def crc32 (bs : List Byte) : Nat := crcReflected 0xEDB88320 bs

/-- The CRC-32C of RFC 3720 (03_packets.md R110), polynomial 0x1EDC6F41 reflected. -/
def crc32c (bs : List Byte) : Nat := crcReflected 0x82F63B78 bs

/-- One bit step of the CRC-16 with polynomial 0x1021, most significant bit first. -/
def crc16Bit (c : Nat) : Nat := if c ≥ 0x8000 then ((c * 2) % 0x10000) ^^^ 0x1021 else c * 2

/-- Eight bit steps of the CRC-16 after taking in one byte. -/
def crc16Byte (c : Nat) (b : Byte) : Nat :=
  let c0 := c ^^^ (b.toNat * 256)
  crc16Bit (crc16Bit (crc16Bit (crc16Bit (crc16Bit (crc16Bit (crc16Bit (crc16Bit c0)))))))

/-- The CRC-16 of a link control word (05_link_layer.md R166). -/
def crc16 (bs : List Byte) : Nat := bs.foldl crc16Byte 0xFFFF

/-- `n` bytes at an offset, as a number. -/
def leAt (bs : List Byte) (off n : Nat) : Nat := ofBytes ((bs.drop off).take n)

/-- Bytes at an offset. -/
def bytesAt (bs : List Byte) (off n : Nat) : List Byte := (bs.drop off).take n

end Sys2Proof.Machine
end

