-- ==== Sys2Proof/Machine/RegField.lean ====
section
/-! DEFINITION. What the spec's register tables say of one register field (00_scope.md R9 to R15, Table 0.3): its place,
its width, its access code, its reset value and the values a write may give it. -/

namespace Sys2Proof.Machine

/-- The access codes of Table 0.3 (00_scope.md R12). -/
inductive Acc
  | ro | rw | rw1c | rw1s | wo | rc
  deriving DecidableEq, Repr

/-- The values that are not reserved encodings of a field (00_scope.md R14). -/
inductive Allowed
  /-- every value the bits can hold -/
  | any
  /-- a value from `lo` to `hi` -/
  | range (lo hi : Nat)
  /-- 0, or a value from `lo` to `hi` -/
  | zeroOr (lo hi : Nat)
  deriving DecidableEq, Repr

/-- One field of a register table. The field of instance `i` and index `j` lies in the word at
`addr + stride * i + step * j`, for `i` below `count` and `j` below `steps`. -/
structure RegField where
  /-- address of the register word of instance 0, index 0 -/
  addr : Nat
  /-- distance between instances -/
  stride : Nat
  /-- number of instances -/
  count : Nat
  /-- distance between the indexed words of an instance -/
  step : Nat
  /-- number of indexed words -/
  steps : Nat
  /-- lowest bit -/
  low : Nat
  /-- number of bits -/
  width : Nat
  acc : Acc
  /-- value after the reset that reaches the block -/
  resetVal : Nat
  allowed : Allowed
  /-- in the always-on domain: only POR resets it -/
  aon : Bool
  deriving DecidableEq, Repr

end Sys2Proof.Machine
end

