-- ==== Sys2Proof/Machine/Counters.lean ====
section
/-! DEFINITION. The counters of the counter pages (19_performance_counters.md R660 to R665), one constant each: the
VALUE field of its counter word; the OVF bit of the word is its bit 48. Written from the counter lists of the chapters. -/

namespace Sys2Proof.Machine.C

/-! LANE, Table 19.2 -/

def LANE_CW_RX : RegField := ⟨0x1002000, 0x4000, 192, 0, 1, 0, 48, .ro, 0, .any, false⟩
def LANE_CW_CORR : RegField := ⟨0x1002008, 0x4000, 192, 0, 1, 0, 48, .ro, 0, .any, false⟩
def LANE_SYM_CORR : RegField := ⟨0x1002010, 0x4000, 192, 0, 1, 0, 48, .ro, 0, .any, false⟩
def LANE_CW_UNCORR : RegField := ⟨0x1002018, 0x4000, 192, 0, 1, 0, 48, .ro, 0, .any, false⟩
def LANE_COMMA_MISS : RegField := ⟨0x1002020, 0x4000, 192, 0, 1, 0, 48, .ro, 0, .any, false⟩

/-! LINK, Table 5.7 -/

def LINK_FRAMES_TX : RegField := ⟨0x2002000, 0x10000, 96, 0, 1, 0, 48, .ro, 0, .any, false⟩
def LINK_FRAMES_RX : RegField := ⟨0x2002008, 0x10000, 96, 0, 1, 0, 48, .ro, 0, .any, false⟩
def LINK_FCRC_ERR : RegField := ⟨0x2002010, 0x10000, 96, 0, 1, 0, 48, .ro, 0, .any, false⟩
def LINK_LCW_ERR : RegField := ⟨0x2002018, 0x10000, 96, 0, 1, 0, 48, .ro, 0, .any, false⟩
def LINK_NAK_TX : RegField := ⟨0x2002020, 0x10000, 96, 0, 1, 0, 48, .ro, 0, .any, false⟩
def LINK_REPLAYS : RegField := ⟨0x2002028, 0x10000, 96, 0, 1, 0, 48, .ro, 0, .any, false⟩
def LINK_FRAMES_REPLAYED : RegField := ⟨0x2002030, 0x10000, 96, 0, 1, 0, 48, .ro, 0, .any, false⟩
def LINK_DUP_RX : RegField := ⟨0x2002038, 0x10000, 96, 0, 1, 0, 48, .ro, 0, .any, false⟩
def LINK_FC_OVERRUN : RegField := ⟨0x2002040, 0x10000, 96, 0, 1, 0, 48, .ro, 0, .any, false⟩
def LINK_XOFF_TIME : RegField := ⟨0x2002048, 0x10000, 96, 0, 1, 0, 48, .ro, 0, .any, false⟩
def LINK_HELD_DROP : RegField := ⟨0x2002050, 0x10000, 96, 0, 1, 0, 48, .ro, 0, .any, false⟩
def LINK_TRUNCATED : RegField := ⟨0x2002058, 0x10000, 96, 0, 1, 0, 48, .ro, 0, .any, false⟩
def LINK_BC_DROP : RegField := ⟨0x2002060, 0x10000, 96, 0, 1, 0, 48, .ro, 0, .any, false⟩
def LINK_ACK_RANGE : RegField := ⟨0x2002068, 0x10000, 96, 0, 1, 0, 48, .ro, 0, .any, false⟩

/-! GEYS, Table 19.2 -/

def GEYS_SYNC_TX : RegField := ⟨0x3E0000, 0x0, 1, 0, 1, 0, 48, .ro, 0, .any, false⟩
def GEYS_SYNC_RX : RegField := ⟨0x3E0008, 0x0, 1, 0, 1, 0, 48, .ro, 0, .any, false⟩
def GEYS_SYNC_IGNORED : RegField := ⟨0x3E0010, 0x0, 1, 0, 1, 0, 48, .ro, 0, .any, false⟩
def GEYS_STEPS : RegField := ⟨0x3E0018, 0x0, 1, 0, 1, 0, 48, .ro, 0, .any, false⟩
def GEYS_PARENT_CHANGES : RegField := ⟨0x3E0020, 0x0, 1, 0, 1, 0, 48, .ro, 0, .any, false⟩

/-! ROUT, Table 7.9 -/

def ROUT_PKT_FWD : RegField := ⟨0x30E0000, 0x0, 1, 0, 1, 0, 48, .ro, 0, .any, false⟩
def ROUT_PKT_INJ : RegField := ⟨0x30E0008, 0x0, 1, 0, 1, 0, 48, .ro, 0, .any, false⟩
def ROUT_PKT_EJECT : RegField := ⟨0x30E0010, 0x0, 1, 0, 1, 0, 48, .ro, 0, .any, false⟩
def ROUT_BAD_DPID : RegField := ⟨0x30E0018, 0x0, 1, 0, 1, 0, 48, .ro, 0, .any, false⟩
def ROUT_UNREACH_DROP : RegField := ⟨0x30E0020, 0x0, 1, 0, 1, 0, 48, .ro, 0, .any, false⟩
def ROUT_DETOURS : RegField := ⟨0x30E0028, 0x0, 1, 0, 1, 0, 48, .ro, 0, .any, false⟩
def ROUT_ESCAPES : RegField := ⟨0x30E0030, 0x0, 1, 0, 1, 0, 48, .ro, 0, .any, false⟩
def ROUT_STALE_CONV : RegField := ⟨0x30E0038, 0x0, 1, 0, 1, 0, 48, .ro, 0, .any, false⟩
def ROUT_CN_MARKED : RegField := ⟨0x30E0040, 0x0, 1, 0, 1, 0, 48, .ro, 0, .any, false⟩
def ROUT_MARK_TX : RegField := ⟨0x30E0048, 0x0, 1, 0, 1, 0, 48, .ro, 0, .any, false⟩
def ROUT_MARK_DROP : RegField := ⟨0x30E0050, 0x0, 1, 0, 1, 0, 48, .ro, 0, .any, false⟩
def ROUT_THR_DECREASE : RegField := ⟨0x30E0058, 0x0, 1, 0, 1, 0, 48, .ro, 0, .any, false⟩
def ROUT_THR_EVICT : RegField := ⟨0x30E0060, 0x0, 1, 0, 1, 0, 48, .ro, 0, .any, false⟩
def ROUT_NOROUTE_CYCLES : RegField := ⟨0x30E0068, 0x0, 1, 0, 1, 0, 48, .ro, 0, .any, false⟩
def ROUT_FLIPS : RegField := ⟨0x30E0070, 0x0, 1, 0, 1, 0, 48, .ro, 0, .any, false⟩
def ROUT_BAD_HEADER : RegField := ⟨0x30E0078, 0x0, 1, 0, 1, 0, 48, .ro, 0, .any, false⟩
def ROUT_LINE_RX : RegField := ⟨0x30E0080, 0x0, 1, 0, 1, 0, 48, .ro, 0, .any, false⟩

/-! SCHD, Table 8.14 -/

def SCHD_LAUNCHES : RegField := ⟨0x40E0000, 0x0, 1, 0, 1, 0, 48, .ro, 0, .any, false⟩
def SCHD_FORWARDS : RegField := ⟨0x40E0008, 0x0, 1, 0, 1, 0, 48, .ro, 0, .any, false⟩
def SCHD_EJECTS : RegField := ⟨0x40E0010, 0x0, 1, 0, 1, 0, 48, .ro, 0, .any, false⟩
def SCHD_FIT_DENY : RegField := ⟨0x40E0018, 0x0, 1, 0, 1, 0, 48, .ro, 0, .any, false⟩
def SCHD_DEMOTE_SOURCE : RegField := ⟨0x40E0020, 0x0, 1, 0, 1, 0, 48, .ro, 0, .any, false⟩
def SCHD_DEMOTE_LATE : RegField := ⟨0x40E0028, 0x0, 1, 0, 1, 0, 48, .ro, 0, .any, false⟩
def SCHD_DEMOTE_MISMATCH : RegField := ⟨0x40E0030, 0x0, 1, 0, 1, 0, 48, .ro, 0, .any, false⟩
def SCHD_DEMOTE_ORPHAN : RegField := ⟨0x40E0038, 0x0, 1, 0, 1, 0, 48, .ro, 0, .any, false⟩
def SCHD_DEMOTE_IDLE : RegField := ⟨0x40E0040, 0x0, 1, 0, 1, 0, 48, .ro, 0, .any, false⟩
def SCHD_SKIP_DATA : RegField := ⟨0x40E0048, 0x0, 1, 0, 1, 0, 48, .ro, 0, .any, false⟩
def SCHD_MISSING : RegField := ⟨0x40E0050, 0x0, 1, 0, 1, 0, 48, .ro, 0, .any, false⟩
def SCHD_PREFETCH_MISS : RegField := ⟨0x40E0058, 0x0, 1, 0, 1, 0, 48, .ro, 0, .any, false⟩
def SCHD_OVERRUN : RegField := ⟨0x40E0060, 0x0, 1, 0, 1, 0, 48, .ro, 0, .any, false⟩
def SCHD_COLL_DROP : RegField := ⟨0x40E0068, 0x0, 1, 0, 1, 0, 48, .ro, 0, .any, false⟩
def SCHD_ABORT_IGNORED : RegField := ⟨0x40E0070, 0x0, 1, 0, 1, 0, 48, .ro, 0, .any, false⟩
def SCHD_PREWARMS : RegField := ⟨0x40E0078, 0x0, 1, 0, 1, 0, 48, .ro, 0, .any, false⟩

/-! QUE, R362 -/

def QUE_DESC_FETCHED : RegField := ⟨0x60E0000, 0x0, 1, 0, 1, 0, 48, .ro, 0, .any, false⟩
def QUE_DB_WRITES : RegField := ⟨0x60E0008, 0x0, 1, 0, 1, 0, 48, .ro, 0, .any, false⟩
def QUE_DB_STALE : RegField := ⟨0x60E0010, 0x0, 1, 0, 1, 0, 48, .ro, 0, .any, false⟩
def QUE_DB_IGNORED : RegField := ⟨0x60E0018, 0x0, 1, 0, 1, 0, 48, .ro, 0, .any, false⟩
def QUE_RECORD_READS : RegField := ⟨0x60E0020, 0x0, 1, 0, 1, 0, 48, .ro, 0, .any, false⟩
def QUE_SNOOP_INVAL : RegField := ⟨0x60E0028, 0x0, 1, 0, 1, 0, 48, .ro, 0, .any, false⟩
def QUE_CQ_ENTRIES : RegField := ⟨0x60E0030, 0x0, 1, 0, 1, 0, 48, .ro, 0, .any, false⟩
def QUE_BATCH_ENTRIES : RegField := ⟨0x60E0038, 0x0, 1, 0, 1, 0, 48, .ro, 0, .any, false⟩
def QUE_CQ_FULL_EVENTS : RegField := ⟨0x60E0040, 0x0, 1, 0, 1, 0, 48, .ro, 0, .any, false⟩
def QUE_HELD_ENTRIES : RegField := ⟨0x60E0048, 0x0, 1, 0, 1, 0, 48, .ro, 0, .any, false⟩
def QUE_HELD_REFUSED : RegField := ⟨0x60E0050, 0x0, 1, 0, 1, 0, 48, .ro, 0, .any, false⟩
def QUE_EQ_ENTRIES : RegField := ⟨0x60E0058, 0x0, 1, 0, 1, 0, 48, .ro, 0, .any, false⟩
def QUE_EQ_DROPPED : RegField := ⟨0x60E0060, 0x0, 1, 0, 1, 0, 48, .ro, 0, .any, false⟩
def QUE_MSIX_SENT : RegField := ⟨0x60E0068, 0x0, 1, 0, 1, 0, 48, .ro, 0, .any, false⟩
def QUE_QP_ERRORS : RegField := ⟨0x60E0070, 0x0, 1, 0, 1, 0, 48, .ro, 0, .any, false⟩

/-! XLT, Table 10.9 -/

def XLT_L1_HIT : RegField := ⟨0x70E0000, 0x0, 1, 0, 1, 0, 48, .ro, 0, .any, false⟩
def XLT_L1_MISS : RegField := ⟨0x70E0008, 0x0, 1, 0, 1, 0, 48, .ro, 0, .any, false⟩
def XLT_L2_HIT : RegField := ⟨0x70E0010, 0x0, 1, 0, 1, 0, 48, .ro, 0, .any, false⟩
def XLT_L2_MISS : RegField := ⟨0x70E0018, 0x0, 1, 0, 1, 0, 48, .ro, 0, .any, false⟩
def XLT_WC_HIT : RegField := ⟨0x70E0020, 0x0, 1, 0, 1, 0, 48, .ro, 0, .any, false⟩
def XLT_WALKS : RegField := ⟨0x70E0028, 0x0, 1, 0, 1, 0, 48, .ro, 0, .any, false⟩
def XLT_WALK_READS : RegField := ⟨0x70E0030, 0x0, 1, 0, 1, 0, 48, .ro, 0, .any, false⟩
def XLT_AM_CAS : RegField := ⟨0x70E0038, 0x0, 1, 0, 1, 0, 48, .ro, 0, .any, false⟩
def XLT_AM_RETRY : RegField := ⟨0x70E0040, 0x0, 1, 0, 1, 0, 48, .ro, 0, .any, false⟩
def XLT_FAULT_LOCAL : RegField := ⟨0x70E0048, 0x0, 1, 0, 1, 0, 48, .ro, 0, .any, false⟩
def XLT_FAULT_REMOTE : RegField := ⟨0x70E0050, 0x0, 1, 0, 1, 0, 48, .ro, 0, .any, false⟩
def XLT_PARKED : RegField := ⟨0x70E0058, 0x0, 1, 0, 1, 0, 48, .ro, 0, .any, false⟩
def XLT_PARK_TIMEOUT : RegField := ⟨0x70E0060, 0x0, 1, 0, 1, 0, 48, .ro, 0, .any, false⟩
def XLT_INVALIDATIONS : RegField := ⟨0x70E0068, 0x0, 1, 0, 1, 0, 48, .ro, 0, .any, false⟩
def XLT_AGED_OUT : RegField := ⟨0x70E0070, 0x0, 1, 0, 1, 0, 48, .ro, 0, .any, false⟩

/-! TPT, R445 -/

def TPT_PKT_TX : RegField := ⟨0x80E0000, 0x0, 1, 0, 1, 0, 48, .ro, 0, .any, false⟩
def TPT_PKT_RX : RegField := ⟨0x80E0008, 0x0, 1, 0, 1, 0, 48, .ro, 0, .any, false⟩
def TPT_RETRANSMITS : RegField := ⟨0x80E0010, 0x0, 1, 0, 1, 0, 48, .ro, 0, .any, false⟩
def TPT_FILL_TX : RegField := ⟨0x80E0018, 0x0, 1, 0, 1, 0, 48, .ro, 0, .any, false⟩
def TPT_FILL_RX : RegField := ⟨0x80E0020, 0x0, 1, 0, 1, 0, 48, .ro, 0, .any, false⟩
def TPT_ACK_TX : RegField := ⟨0x80E0028, 0x0, 1, 0, 1, 0, 48, .ro, 0, .any, false⟩
def TPT_ACK_RX : RegField := ⟨0x80E0030, 0x0, 1, 0, 1, 0, 48, .ro, 0, .any, false⟩
def TPT_NACK_TX : RegField := ⟨0x80E0038, 0x0, 1, 0, 1, 0, 48, .ro, 0, .any, false⟩
def TPT_NACK_RX : RegField := ⟨0x80E0040, 0x0, 1, 0, 1, 0, 48, .ro, 0, .any, false⟩
def TPT_NACK_IGNORED : RegField := ⟨0x80E0048, 0x0, 1, 0, 1, 0, 48, .ro, 0, .any, false⟩
def TPT_DUP_RX : RegField := ⟨0x80E0050, 0x0, 1, 0, 1, 0, 48, .ro, 0, .any, false⟩
def TPT_SEQ_AHEAD : RegField := ⟨0x80E0058, 0x0, 1, 0, 1, 0, 48, .ro, 0, .any, false⟩
def TPT_READ_REEXEC : RegField := ⟨0x80E0060, 0x0, 1, 0, 1, 0, 48, .ro, 0, .any, false⟩
def TPT_CRC_E2E : RegField := ⟨0x80E0068, 0x0, 1, 0, 1, 0, 48, .ro, 0, .any, false⟩
def TPT_STALE_INC : RegField := ⟨0x80E0070, 0x0, 1, 0, 1, 0, 48, .ro, 0, .any, false⟩
def TPT_STALE_SRC : RegField := ⟨0x80E0078, 0x0, 1, 0, 1, 0, 48, .ro, 0, .any, false⟩
def TPT_LIFE_DROP : RegField := ⟨0x80E0080, 0x0, 1, 0, 1, 0, 48, .ro, 0, .any, false⟩
def TPT_INVALID_DROP : RegField := ⟨0x80E0088, 0x0, 1, 0, 1, 0, 48, .ro, 0, .any, false⟩
def TPT_RESP_UNMATCHED : RegField := ⟨0x80E0090, 0x0, 1, 0, 1, 0, 48, .ro, 0, .any, false⟩
def TPT_RESP_BAD : RegField := ⟨0x80E0098, 0x0, 1, 0, 1, 0, 48, .ro, 0, .any, false⟩
def TPT_GIVEUPS : RegField := ⟨0x80E00A0, 0x0, 1, 0, 1, 0, 48, .ro, 0, .any, false⟩
def TPT_TC_MISS : RegField := ⟨0x80E00A8, 0x0, 1, 0, 1, 0, 48, .ro, 0, .any, false⟩
def TPT_TC_EVICT : RegField := ⟨0x80E00B0, 0x0, 1, 0, 1, 0, 48, .ro, 0, .any, false⟩
def TPT_MALFORMED_RX : RegField := ⟨0x80E00B8, 0x0, 1, 0, 1, 0, 48, .ro, 0, .any, false⟩

/-! WIN, R447 -/

def WIN_OPENS : RegField := ⟨0x90E0000, 0x0, 1, 0, 1, 0, 48, .ro, 0, .any, false⟩
def WIN_REVOKES : RegField := ⟨0x90E0008, 0x0, 1, 0, 1, 0, 48, .ro, 0, .any, false⟩
def WIN_WR_ADMIT : RegField := ⟨0x90E0010, 0x0, 1, 0, 1, 0, 48, .ro, 0, .any, false⟩
def WIN_RD_ADMIT : RegField := ⟨0x90E0018, 0x0, 1, 0, 1, 0, 48, .ro, 0, .any, false⟩
def WIN_KEY_BAD : RegField := ⟨0x90E0020, 0x0, 1, 0, 1, 0, 48, .ro, 0, .any, false⟩
def WIN_REVOKED_REFUSED : RegField := ⟨0x90E0028, 0x0, 1, 0, 1, 0, 48, .ro, 0, .any, false⟩
def WIN_PERM_REFUSED : RegField := ⟨0x90E0030, 0x0, 1, 0, 1, 0, 48, .ro, 0, .any, false⟩
def WIN_BOUNDS_REFUSED : RegField := ⟨0x90E0038, 0x0, 1, 0, 1, 0, 48, .ro, 0, .any, false⟩
def WIN_BYTES_WRITTEN : RegField := ⟨0x90E0040, 0x0, 1, 0, 1, 0, 48, .ro, 0, .any, false⟩
def WIN_BYTES_READ : RegField := ⟨0x90E0048, 0x0, 1, 0, 1, 0, 48, .ro, 0, .any, false⟩

/-! MAT, R478 -/

def MAT_MATCH_POSTED : RegField := ⟨0xA0E0000, 0x0, 1, 0, 1, 0, 48, .ro, 0, .any, false⟩
def MAT_MATCH_UNEXP : RegField := ⟨0xA0E0008, 0x0, 1, 0, 1, 0, 48, .ro, 0, .any, false⟩
def MAT_UNEXP_STORED : RegField := ⟨0xA0E0010, 0x0, 1, 0, 1, 0, 48, .ro, 0, .any, false⟩
def MAT_WILDCARD_WINS : RegField := ⟨0xA0E0018, 0x0, 1, 0, 1, 0, 48, .ro, 0, .any, false⟩
def MAT_ENTRIES_EXAMINED : RegField := ⟨0xA0E0020, 0x0, 1, 0, 1, 0, 48, .ro, 0, .any, false⟩
def MAT_REORDER_WAITS : RegField := ⟨0xA0E0028, 0x0, 1, 0, 1, 0, 48, .ro, 0, .any, false⟩
def MAT_REORDER_REFUSED : RegField := ⟨0xA0E0030, 0x0, 1, 0, 1, 0, 48, .ro, 0, .any, false⟩
def MAT_MIRE_BYTES_IN : RegField := ⟨0xA0E0038, 0x0, 1, 0, 1, 0, 48, .ro, 0, .any, false⟩
def MAT_MIRE_BYTES_OUT : RegField := ⟨0xA0E0040, 0x0, 1, 0, 1, 0, 48, .ro, 0, .any, false⟩
def MAT_MIRE_FULL_REFUSED : RegField := ⟨0xA0E0048, 0x0, 1, 0, 1, 0, 48, .ro, 0, .any, false⟩
def MAT_MIRE_RATE_REFUSED : RegField := ⟨0xA0E0050, 0x0, 1, 0, 1, 0, 48, .ro, 0, .any, false⟩
def MAT_CONVERTED : RegField := ⟨0xA0E0058, 0x0, 1, 0, 1, 0, 48, .ro, 0, .any, false⟩
def MAT_RNDV_STARTED : RegField := ⟨0xA0E0060, 0x0, 1, 0, 1, 0, 48, .ro, 0, .any, false⟩
def MAT_DONE_TX : RegField := ⟨0xA0E0068, 0x0, 1, 0, 1, 0, 48, .ro, 0, .any, false⟩
def MAT_DONE_RX : RegField := ⟨0xA0E0070, 0x0, 1, 0, 1, 0, 48, .ro, 0, .any, false⟩
def MAT_DONE_UNMATCHED : RegField := ⟨0xA0E0078, 0x0, 1, 0, 1, 0, 48, .ro, 0, .any, false⟩
def MAT_TRUNCATIONS : RegField := ⟨0xA0E0080, 0x0, 1, 0, 1, 0, 48, .ro, 0, .any, false⟩
def MAT_DEAD_DISCARD : RegField := ⟨0xA0E0088, 0x0, 1, 0, 1, 0, 48, .ro, 0, .any, false⟩
def MAT_RNDV_WAIT : RegField := ⟨0xA0E0090, 0x0, 1, 0, 1, 0, 48, .ro, 0, .any, false⟩
def MAT_PRQ_HOLDS : RegField := ⟨0xA0E0098, 0x0, 1, 0, 1, 0, 48, .ro, 0, .any, false⟩

/-! TRG, R498 -/

def TRG_CNT_UPDATES : RegField := ⟨0xB0E0000, 0x0, 1, 0, 1, 0, 48, .ro, 0, .any, false⟩
def TRG_WIN_UPDATES : RegField := ⟨0xB0E0008, 0x0, 1, 0, 1, 0, 48, .ro, 0, .any, false⟩
def TRG_CQ_UPDATES : RegField := ⟨0xB0E0010, 0x0, 1, 0, 1, 0, 48, .ro, 0, .any, false⟩
def TRG_CNT_REFUSED : RegField := ⟨0xB0E0018, 0x0, 1, 0, 1, 0, 48, .ro, 0, .any, false⟩
def TRG_TRIGS_ARMED : RegField := ⟨0xB0E0020, 0x0, 1, 0, 1, 0, 48, .ro, 0, .any, false⟩
def TRG_TRIGS_FIRED : RegField := ⟨0xB0E0028, 0x0, 1, 0, 1, 0, 48, .ro, 0, .any, false⟩
def TRG_FIRED_OK : RegField := ⟨0xB0E0030, 0x0, 1, 0, 1, 0, 48, .ro, 0, .any, false⟩
def TRG_FIRED_FAIL : RegField := ⟨0xB0E0038, 0x0, 1, 0, 1, 0, 48, .ro, 0, .any, false⟩
def TRG_LATE_FIRES : RegField := ⟨0xB0E0040, 0x0, 1, 0, 1, 0, 48, .ro, 0, .any, false⟩
def TRG_SWEEP_FIRES : RegField := ⟨0xB0E0048, 0x0, 1, 0, 1, 0, 48, .ro, 0, .any, false⟩
def TRG_WAITS : RegField := ⟨0xB0E0050, 0x0, 1, 0, 1, 0, 48, .ro, 0, .any, false⟩
def TRG_PEND_HOLDS : RegField := ⟨0xB0E0058, 0x0, 1, 0, 1, 0, 48, .ro, 0, .any, false⟩
def TRG_HOT_MISS : RegField := ⟨0xB0E0060, 0x0, 1, 0, 1, 0, 48, .ro, 0, .any, false⟩

/-! COLL, R537 -/

def COLL_INSTANCES : RegField := ⟨0xC0E0000, 0x0, 1, 0, 1, 0, 48, .ro, 0, .any, false⟩
def COLL_PHASES : RegField := ⟨0xC0E0008, 0x0, 1, 0, 1, 0, 48, .ro, 0, .any, false⟩
def COLL_LATE_PHASES : RegField := ⟨0xC0E0010, 0x0, 1, 0, 1, 0, 48, .ro, 0, .any, false⟩
def COLL_CONTRIB_TX : RegField := ⟨0xC0E0018, 0x0, 1, 0, 1, 0, 48, .ro, 0, .any, false⟩
def COLL_CONTRIB_RX : RegField := ⟨0xC0E0020, 0x0, 1, 0, 1, 0, 48, .ro, 0, .any, false⟩
def COLL_COPIES : RegField := ⟨0xC0E0028, 0x0, 1, 0, 1, 0, 48, .ro, 0, .any, false⟩
def COLL_RESULTS : RegField := ⟨0xC0E0030, 0x0, 1, 0, 1, 0, 48, .ro, 0, .any, false⟩
def COLL_MCAST_RX : RegField := ⟨0xC0E0038, 0x0, 1, 0, 1, 0, 48, .ro, 0, .any, false⟩
def COLL_STALE_DROP : RegField := ⟨0xC0E0040, 0x0, 1, 0, 1, 0, 48, .ro, 0, .any, false⟩
def COLL_NO_GROUP : RegField := ⟨0xC0E0048, 0x0, 1, 0, 1, 0, 48, .ro, 0, .any, false⟩
def COLL_EARLY_DROP : RegField := ⟨0xC0E0050, 0x0, 1, 0, 1, 0, 48, .ro, 0, .any, false⟩
def COLL_DUP_DROP : RegField := ⟨0xC0E0058, 0x0, 1, 0, 1, 0, 48, .ro, 0, .any, false⟩
def COLL_MISMATCH : RegField := ⟨0xC0E0060, 0x0, 1, 0, 1, 0, 48, .ro, 0, .any, false⟩
def COLL_TIMEOUTS : RegField := ⟨0xC0E0068, 0x0, 1, 0, 1, 0, 48, .ro, 0, .any, false⟩
def COLL_STAGE_BYTES : RegField := ⟨0xC0E0070, 0x0, 1, 0, 1, 0, 48, .ro, 0, .any, false⟩

/-! PAIR, R571 -/

def PAIR_RECORDS_TX : RegField := ⟨0x7E0000, 0x0, 1, 0, 1, 0, 48, .ro, 0, .any, false⟩
def PAIR_RECORDS_RX : RegField := ⟨0x7E0008, 0x0, 1, 0, 1, 0, 48, .ro, 0, .any, false⟩
def PAIR_ACKS_TX : RegField := ⟨0x7E0010, 0x0, 1, 0, 1, 0, 48, .ro, 0, .any, false⟩
def PAIR_ACKS_RX : RegField := ⟨0x7E0018, 0x0, 1, 0, 1, 0, 48, .ro, 0, .any, false⟩
def PAIR_DUP_RECORDS : RegField := ⟨0x7E0020, 0x0, 1, 0, 1, 0, 48, .ro, 0, .any, false⟩
def PAIR_RECORDS_RESENT : RegField := ⟨0x7E0028, 0x0, 1, 0, 1, 0, 48, .ro, 0, .any, false⟩
def PAIR_HEARTBEATS_RX : RegField := ⟨0x7E0030, 0x0, 1, 0, 1, 0, 48, .ro, 0, .any, false⟩
def PAIR_STRICT_WAITS : RegField := ⟨0x7E0038, 0x0, 1, 0, 1, 0, 48, .ro, 0, .any, false⟩
def PAIR_TAKEOVERS : RegField := ⟨0x7E0040, 0x0, 1, 0, 1, 0, 48, .ro, 0, .any, false⟩
def PAIR_MOVES : RegField := ⟨0x7E0048, 0x0, 1, 0, 1, 0, 48, .ro, 0, .any, false⟩
def PAIR_SHADOW_DROP : RegField := ⟨0x7E0050, 0x0, 1, 0, 1, 0, 48, .ro, 0, .any, false⟩
def PAIR_STALE_NACK_TX : RegField := ⟨0x7E0058, 0x0, 1, 0, 1, 0, 48, .ro, 0, .any, false⟩

/-! CMD, R598 -/

def CMD_CMD_RING : RegField := ⟨0x6E0000, 0x0, 1, 0, 1, 0, 48, .ro, 0, .any, false⟩
def CMD_CMD_SMB : RegField := ⟨0x6E0008, 0x0, 1, 0, 1, 0, 48, .ro, 0, .any, false⟩
def CMD_CMD_REMOTE_RX : RegField := ⟨0x6E0010, 0x0, 1, 0, 1, 0, 48, .ro, 0, .any, false⟩
def CMD_REMOTE_TX : RegField := ⟨0x6E0018, 0x0, 1, 0, 1, 0, 48, .ro, 0, .any, false⟩
def CMD_REMOTE_TIMEOUT : RegField := ⟨0x6E0020, 0x0, 1, 0, 1, 0, 48, .ro, 0, .any, false⟩
def CMD_IN_PROGRESS : RegField := ⟨0x6E0028, 0x0, 1, 0, 1, 0, 48, .ro, 0, .any, false⟩
def CMD_REFUSED : RegField := ⟨0x6E0030, 0x0, 1, 0, 1, 0, 48, .ro, 0, .any, false⟩
def CMD_DUPTAG : RegField := ⟨0x6E0038, 0x0, 1, 0, 1, 0, 48, .ro, 0, .any, false⟩
def CMD_UNLOCKS : RegField := ⟨0x6E0040, 0x0, 1, 0, 1, 0, 48, .ro, 0, .any, false⟩
def CMD_UNLOCK_FAILS : RegField := ⟨0x6E0048, 0x0, 1, 0, 1, 0, 48, .ro, 0, .any, false⟩
def CMD_MGMT_FLIT_RX : RegField := ⟨0x6E0050, 0x0, 1, 0, 1, 0, 48, .ro, 0, .any, false⟩
def CMD_SMB_PEC : RegField := ⟨0x6E0058, 0x0, 1, 0, 1, 0, 48, .ro, 0, .any, false⟩

/-! PWR, R640 -/

def PWR_MOSS_ENTRIES : RegField := ⟨0x1E0000, 0x0, 1, 0, 1, 0, 48, .ro, 0, .any, false⟩
def PWR_PEAT_ENTRIES : RegField := ⟨0x1E0008, 0x0, 1, 0, 1, 0, 48, .ro, 0, .any, false⟩
def PWR_ENTRY_REFUSED : RegField := ⟨0x1E0010, 0x0, 1, 0, 1, 0, 48, .ro, 0, .any, false⟩
def PWR_WAKES_DURING_ENTRY : RegField := ⟨0x1E0018, 0x0, 1, 0, 1, 0, 48, .ro, 0, .any, false⟩
def PWR_MOSS_CYCLES : RegField := ⟨0x1E0020, 0x0, 1, 0, 1, 0, 48, .ro, 0, .any, false⟩
def PWR_PEAT_CYCLES : RegField := ⟨0x1E0028, 0x0, 1, 0, 1, 0, 48, .ro, 0, .any, false⟩
def PWR_SLOW_EXITS : RegField := ⟨0x1E0030, 0x0, 1, 0, 1, 0, 48, .ro, 0, .any, false⟩
def PWR_LP_QUIET_REQ : RegField := ⟨0x1E0038, 0x0, 1, 0, 1, 0, 48, .ro, 0, .any, false⟩
def PWR_SUPPLY_SWITCHES : RegField := ⟨0x1E0040, 0x0, 1, 0, 1, 0, 48, .ro, 0, .any, false⟩
def PWR_RESHARES : RegField := ⟨0x1E0048, 0x0, 1, 0, 1, 0, 48, .ro, 0, .any, false⟩

/-! HBM, Table 19.2 -/

def HBM_RD_64B : RegField := ⟨0xD0E0000, 0x0, 1, 0, 1, 0, 48, .ro, 0, .any, false⟩
def HBM_WR_64B : RegField := ⟨0xD0E0008, 0x0, 1, 0, 1, 0, 48, .ro, 0, .any, false⟩
def HBM_CE : RegField := ⟨0xD0E0010, 0x0, 1, 0, 1, 0, 48, .ro, 0, .any, false⟩
def HBM_UE : RegField := ⟨0xD0E0018, 0x0, 1, 0, 1, 0, 48, .ro, 0, .any, false⟩
def HBM_SCRUB_LINES : RegField := ⟨0xD0E0020, 0x0, 1, 0, 1, 0, 48, .ro, 0, .any, false⟩

/-! CNT, Table 19.2 -/

def CNT_SNAPSHOTS : RegField := ⟨0x4E0000, 0x0, 1, 0, 1, 0, 48, .ro, 0, .any, false⟩
def CNT_SNAP_MISS : RegField := ⟨0x4E0008, 0x0, 1, 0, 1, 0, 48, .ro, 0, .any, false⟩
def CNT_MARKED : RegField := ⟨0x4E0010, 0x0, 1, 0, 1, 0, 48, .ro, 0, .any, false⟩
def CNT_LATE : RegField := ⟨0x4E0018, 0x0, 1, 0, 1, 0, 48, .ro, 0, .any, false⟩
def CNT_EXTENDED : RegField := ⟨0x4E0020, 0x0, 1, 0, 1, 0, 48, .ro, 0, .any, false⟩

/-! HIF, Table 19.2: host port h at word 4h -/

def HIF_RD_REQ : RegField := ⟨0x50E0000, 32, 4, 0, 1, 0, 48, .ro, 0, .any, false⟩
def HIF_WR_REQ : RegField := ⟨0x50E0008, 32, 4, 0, 1, 0, 48, .ro, 0, .any, false⟩
def HIF_RD_32B : RegField := ⟨0x50E0010, 32, 4, 0, 1, 0, 48, .ro, 0, .any, false⟩
def HIF_WR_32B : RegField := ⟨0x50E0018, 32, 4, 0, 1, 0, 48, .ro, 0, .any, false⟩
def HIF_DMA_ERRORS : RegField := ⟨0x50E0080, 0, 1, 0, 1, 0, 48, .ro, 0, .any, false⟩

/-! CNT, R665 -/

def PORT_TXF : RegField := ⟨0x410000, 16, 96, 0, 1, 0, 48, .ro, 0, .any, false⟩
def PORT_RXF : RegField := ⟨0x410008, 16, 96, 0, 1, 0, 48, .ro, 0, .any, false⟩

end Sys2Proof.Machine.C
end

