-- ==== Sys2Proof/Machine/Registers.lean ====
section
/-! DEFINITION. The register fields of the spec's register tables, one constant each: first address, instance and
index strides and counts, low bit, width, access code, reset value, allowed values, and whether the field lies in the
always-on domain (a Reset column that reads POR). Written from Tables 4.10 to 4.12, 5.6, 6.5, 7.8, 8.13, 9.11, 9.13, 9.14,
10.8, 11.6, 11.7, 12.4, 13.6, 14.6, 15.9, 16.4, 16.12, 17.11, 18.6, 18.7, 19.6, 20.11, 21.7, 22.4 and 22.5.
The fields of the function BARs (Tables 9.11 and 16.4) stand at 2^32 + 2^20 * (64 h + f) + offset, outside the 512 MiB
global space, because every function has its own BAR0 (22_register_space.md R741). -/

namespace Sys2Proof.Machine.R

/-! Table 4.11 (LANE), R157 -/

def LANE_STATUS_SIGDET : RegField := ⟨0x1000000, 0x4000, 192, 0, 1, 0, 1, .ro, 0x0, .any, false⟩
def LANE_STATUS_CDR_LOCK : RegField := ⟨0x1000000, 0x4000, 192, 0, 1, 1, 1, .ro, 0x0, .any, false⟩
def LANE_STATUS_COMMA_LOCK : RegField := ⟨0x1000000, 0x4000, 192, 0, 1, 2, 1, .ro, 0x0, .any, false⟩
def LANE_STATUS_RX_INV : RegField := ⟨0x1000000, 0x4000, 192, 0, 1, 3, 1, .ro, 0x0, .any, false⟩
def LANE_STATUS_CIDX : RegField := ⟨0x1000000, 0x4000, 192, 0, 1, 4, 10, .ro, 0x0, .any, false⟩
def LANE_TXEQ_PRE : RegField := ⟨0x1000008, 0x4000, 192, 0, 1, 0, 5, .rw, 0x6, .range 0 16, false⟩
def LANE_TXEQ_MAIN : RegField := ⟨0x1000008, 0x4000, 192, 0, 1, 5, 7, .rw, 0x32, .range 28 64, false⟩
def LANE_TXEQ_POST : RegField := ⟨0x1000008, 0x4000, 192, 0, 1, 12, 5, .rw, 0x8, .range 0 20, false⟩
def LANE_TXEQ_OVR : RegField := ⟨0x1000008, 0x4000, 192, 0, 1, 17, 1, .rw, 0x0, .any, false⟩
def LANE_RXEQ_CTLE : RegField := ⟨0x1000010, 0x4000, 192, 0, 1, 0, 5, .ro, 0x0, .any, false⟩
def LANE_RXEQ_DFE : RegField := ⟨0x1000010, 0x4000, 192, 0, 1, 8, 7, .ro, 0x0, .any, false⟩
def LANE_RXEQ_SNR : RegField := ⟨0x1000010, 0x4000, 192, 0, 1, 16, 16, .ro, 0x0, .any, false⟩
def LANE_FFE_TAP : RegField := ⟨0x1000100, 0x4000, 192, 8, 24, 0, 10, .ro, 0x0, .any, false⟩

/-! Table 4.12 (PORT), R157 -/

def PORT_CTRL_EN : RegField := ⟨0x1000800, 0x8000, 96, 0, 1, 0, 1, .rw, 0x0, .any, false⟩
def PORT_CTRL_START_PRESET : RegField := ⟨0x1000800, 0x8000, 96, 0, 1, 1, 3, .rw, 0x4, .any, false⟩
def PORT_CTRL_RETRAIN : RegField := ⟨0x1000800, 0x8000, 96, 0, 1, 4, 1, .wo, 0x0, .any, false⟩
def PORT_CTRL_PRBS_TEST : RegField := ⟨0x1000800, 0x8000, 96, 0, 1, 5, 1, .rw, 0x0, .any, false⟩
def PORT_STATUS_STATE : RegField := ⟨0x1000808, 0x8000, 96, 0, 1, 0, 4, .ro, 0x0, .any, false⟩
def PORT_STATUS_SWAP : RegField := ⟨0x1000808, 0x8000, 96, 0, 1, 4, 1, .ro, 0x0, .any, false⟩
def PORT_STATUS_TRAIN_FAIL : RegField := ⟨0x1000808, 0x8000, 96, 0, 1, 5, 1, .rw1c, 0x0, .any, false⟩
def PORT_STATUS_SLOW_EXIT : RegField := ⟨0x1000808, 0x8000, 96, 0, 1, 6, 1, .rw1c, 0x0, .any, false⟩
def PORT_STATUS_SKEW : RegField := ⟨0x1000808, 0x8000, 96, 0, 1, 7, 9, .ro, 0x0, .any, false⟩
def PORT_STATUS_TRAINS : RegField := ⟨0x1000808, 0x8000, 96, 0, 1, 16, 16, .ro, 0x0, .any, false⟩
def PORT_PEER_ID_PEER_PID : RegField := ⟨0x1000810, 0x8000, 96, 0, 1, 0, 20, .ro, 0x0, .any, false⟩
def PORT_PEER_ID_PEER_PORT : RegField := ⟨0x1000810, 0x8000, 96, 0, 1, 20, 7, .ro, 0x0, .any, false⟩
def PORT_PEER_ID_PEER_PAIRED : RegField := ⟨0x1000810, 0x8000, 96, 0, 1, 27, 1, .ro, 0x0, .any, false⟩
def PORT_PEER_ID_PEER_CARR : RegField := ⟨0x1000810, 0x8000, 96, 0, 1, 28, 1, .ro, 0x0, .any, false⟩
def PORT_PEER_ID_VALID : RegField := ⟨0x1000810, 0x8000, 96, 0, 1, 29, 1, .ro, 0x0, .any, false⟩
def PORT_TS_TX_FRAC : RegField := ⟨0x1000818, 0x8000, 96, 0, 1, 0, 6, .ro, 0x0, .any, false⟩
def PORT_TS_RX_FRAC : RegField := ⟨0x1000820, 0x8000, 96, 0, 1, 0, 6, .ro, 0x0, .any, false⟩
def PORT_TS_TX_GT : RegField := ⟨0x1000818, 0x8000, 96, 0, 1, 6, 58, .ro, 0x0, .any, false⟩
def PORT_TS_RX_GT : RegField := ⟨0x1000820, 0x8000, 96, 0, 1, 6, 58, .ro, 0x0, .any, false⟩
def PORT_DLY_DLY : RegField := ⟨0x1000830, 0x8000, 96, 0, 1, 0, 32, .ro, 0x0, .any, false⟩
def PORT_DLY_VALID : RegField := ⟨0x1000830, 0x8000, 96, 0, 1, 32, 1, .ro, 0x0, .any, false⟩
def PORT_DLY_DLY_JUMP : RegField := ⟨0x1000830, 0x8000, 96, 0, 1, 33, 1, .rw1c, 0x0, .any, false⟩
def PORT_DLY_CAL_TX_CAL : RegField := ⟨0x1000838, 0x8000, 96, 0, 1, 0, 16, .rw, 0x0, .any, false⟩
def PORT_DLY_CAL_RX_CAL : RegField := ⟨0x1000838, 0x8000, 96, 0, 1, 16, 16, .rw, 0x0, .any, false⟩
def PORT_DLY_CAL_ASYM : RegField := ⟨0x1000838, 0x8000, 96, 0, 1, 32, 16, .rw, 0x0, .any, false⟩
def PORT_TS_IDX_TX_IDX : RegField := ⟨0x1000828, 0x8000, 96, 0, 1, 0, 10, .ro, 0x0, .any, false⟩
def PORT_TS_IDX_RX_IDX : RegField := ⟨0x1000828, 0x8000, 96, 0, 1, 16, 10, .ro, 0x0, .any, false⟩

/-! Table 5.6 (LINK), R201 -/

def LINK_CTRL_RETIRE : RegField := ⟨0x2000000, 0x10000, 96, 0, 1, 0, 1, .wo, 0x0, .any, false⟩
def LINK_CTRL_FRESH_RETRAIN : RegField := ⟨0x2000000, 0x10000, 96, 0, 1, 1, 1, .wo, 0x0, .any, false⟩
def LINK_CTRL_LP_EN : RegField := ⟨0x2000000, 0x10000, 96, 0, 1, 2, 1, .rw, 0x1, .any, false⟩
def LINK_STATUS_STATE : RegField := ⟨0x2000008, 0x10000, 96, 0, 1, 0, 3, .ro, 0x0, .any, false⟩
def LINK_STATUS_RXMODE : RegField := ⟨0x2000008, 0x10000, 96, 0, 1, 3, 2, .ro, 0x2, .any, false⟩
def LINK_STATUS_PEER_XOFF : RegField := ⟨0x2000008, 0x10000, 96, 0, 1, 5, 8, .ro, 0xFF, .any, false⟩
def LINK_STATUS_LOCAL_XOFF : RegField := ⟨0x2000008, 0x10000, 96, 0, 1, 13, 8, .ro, 0x0, .any, false⟩
def LINK_STATUS_STALL : RegField := ⟨0x2000008, 0x10000, 96, 0, 1, 21, 8, .ro, 0x0, .any, false⟩
def LINK_SEQ_TX_NEXT : RegField := ⟨0x2000010, 0x10000, 96, 0, 1, 0, 12, .ro, 0x0, .any, false⟩
def LINK_SEQ_TX_OLDEST : RegField := ⟨0x2000010, 0x10000, 96, 0, 1, 12, 12, .ro, 0x0, .any, false⟩
def LINK_SEQ_RX_EXPECTED : RegField := ⟨0x2000010, 0x10000, 96, 0, 1, 24, 12, .ro, 0x0, .any, false⟩
def LINK_SLOTS_FREE_SLOTS : RegField := ⟨0x2000018, 0x10000, 96, 0, 1, 0, 9, .ro, 0x100, .any, false⟩
def LINK_SLOTS_RETIRED : RegField := ⟨0x2000018, 0x10000, 96, 0, 1, 9, 7, .ro, 0x0, .any, false⟩
def LINK_TMR_REPLAY_TMR : RegField := ⟨0x2000020, 0x10000, 96, 0, 1, 0, 21, .rw, 0x7D00, .range 8000 1600000, false⟩
def LINK_TMR_XOFF_WDOG : RegField := ⟨0x2000020, 0x10000, 96, 0, 1, 24, 24, .rw, 0x186A00, .range 16000 16000000, false⟩
def LINK_FC_SKID_REQ : RegField := ⟨0x2000028, 0x10000, 96, 0, 1, 0, 15, .ro, 0x3EDA, .any, false⟩
def LINK_FC_LINK_RTT : RegField := ⟨0x2000028, 0x10000, 96, 0, 1, 16, 13, .ro, 0x1100, .any, false⟩
def LINK_FC_POOL_FREE : RegField := ⟨0x2000028, 0x10000, 96, 0, 1, 32, 15, .ro, 0x4000, .any, false⟩

/-! Table 6.5 (GEYS), R232 -/

def GEYS_GT_GT : RegField := ⟨0x300000, 0x0, 1, 0, 1, 0, 64, .ro, 0x0, .any, false⟩
def GEYS_STATUS_STATE : RegField := ⟨0x300008, 0x0, 1, 0, 1, 0, 2, .ro, 0x3, .any, false⟩
def GEYS_STATUS_GM : RegField := ⟨0x300008, 0x0, 1, 0, 1, 2, 1, .ro, 0x0, .any, false⟩
def GEYS_STATUS_PARENT : RegField := ⟨0x300008, 0x0, 1, 0, 1, 3, 7, .ro, 0x7F, .any, false⟩
def GEYS_STATUS_DIST : RegField := ⟨0x300008, 0x0, 1, 0, 1, 10, 4, .ro, 0xF, .any, false⟩
def GEYS_STATUS_STEP_CNT : RegField := ⟨0x300008, 0x0, 1, 0, 1, 14, 8, .ro, 0x0, .any, false⟩
def GEYS_STATUS_STEPPED : RegField := ⟨0x300008, 0x0, 1, 0, 1, 22, 1, .rw1c, 0x0, .any, false⟩
def GEYS_STATUS_LOCK_LOST : RegField := ⟨0x300008, 0x0, 1, 0, 1, 23, 1, .rw1c, 0x0, .any, false⟩
def GEYS_STATUS_GM_CHANGE : RegField := ⟨0x300008, 0x0, 1, 0, 1, 24, 1, .rw1c, 0x0, .any, false⟩
def GEYS_STATUS_PPS_LOST : RegField := ⟨0x300008, 0x0, 1, 0, 1, 25, 1, .rw1c, 0x0, .any, false⟩
def GEYS_STATUS_PPS_FAR : RegField := ⟨0x300008, 0x0, 1, 0, 1, 26, 1, .rw1c, 0x0, .any, false⟩
def GEYS_STATUS_GM_CLASS : RegField := ⟨0x300008, 0x0, 1, 0, 1, 27, 2, .ro, 0x2, .any, false⟩
def GEYS_UNC_UNC : RegField := ⟨0x300010, 0x0, 1, 0, 1, 0, 32, .ro, 0xFFFFFFFF, .any, false⟩
def GEYS_OFS_OFS : RegField := ⟨0x300018, 0x0, 1, 0, 1, 0, 40, .ro, 0x0, .any, false⟩
def GEYS_TRIM_TRIM : RegField := ⟨0x300020, 0x0, 1, 0, 1, 0, 36, .rw, 0x0, .any, false⟩
def GEYS_TRIM_OVR : RegField := ⟨0x300020, 0x0, 1, 0, 1, 63, 1, .rw, 0x0, .any, false⟩
def GEYS_CFG_GM_PRIO : RegField := ⟨0x300028, 0x0, 1, 0, 1, 0, 8, .rw, 0x80, .any, false⟩
def GEYS_CFG_GM_EN : RegField := ⟨0x300028, 0x0, 1, 0, 1, 8, 1, .rw, 0x1, .any, false⟩
def GEYS_CFG_KP_SH : RegField := ⟨0x300028, 0x0, 1, 0, 1, 9, 3, .rw, 0x3, .range 1 7, false⟩
def GEYS_CFG_KI_SH : RegField := ⟨0x300028, 0x0, 1, 0, 1, 12, 4, .rw, 0x8, .range 4 15, false⟩
def GEYS_CFG_PPS_EN : RegField := ⟨0x300028, 0x0, 1, 0, 1, 16, 1, .rw, 0x0, .any, false⟩
def GEYS_CFG_REF10M_EN : RegField := ⟨0x300028, 0x0, 1, 0, 1, 17, 1, .rw, 0x0, .any, false⟩
def GEYS_CFG_PPS_FALL : RegField := ⟨0x300028, 0x0, 1, 0, 1, 18, 1, .rw, 0x0, .any, false⟩
def GEYS_LIM_SCHED_UNC_MAX : RegField := ⟨0x300030, 0x0, 1, 0, 1, 0, 16, .rw, 0x40, .range 8 4096, false⟩
def GEYS_LIM_HOP_UNC : RegField := ⟨0x300030, 0x0, 1, 0, 1, 16, 8, .rw, 0x18, .range 8 255, false⟩
def GEYS_LIM_STEP_THR : RegField := ⟨0x300030, 0x0, 1, 0, 1, 24, 16, .rw, 0x40, .range 16 65535, false⟩
def GEYS_LIM_HOLD_PPB : RegField := ⟨0x300030, 0x0, 1, 0, 1, 40, 14, .rw, 0x64, .range 1 10000, false⟩
def GEYS_UNC_INV_UNC_INVALID : RegField := ⟨0x300038, 0x0, 1, 0, 1, 0, 32, .rw, 0xF42400, .range 16000 1600000000, false⟩
def GEYS_TAI_TAI_SEC : RegField := ⟨0x300040, 0x0, 1, 0, 1, 0, 48, .rw, 0x0, .any, false⟩
def GEYS_TAI_TAI_VALID : RegField := ⟨0x300040, 0x0, 1, 0, 1, 48, 1, .rw, 0x0, .any, false⟩
def GEYS_TAI_NS_TAI_NS : RegField := ⟨0x300048, 0x0, 1, 0, 1, 0, 30, .rw, 0x0, .any, false⟩
def GEYS_TAI_NS_UTC_OFS : RegField := ⟨0x300048, 0x0, 1, 0, 1, 32, 16, .rw, 0x25, .any, false⟩
def GEYS_PPS_TS_PPS_GT : RegField := ⟨0x300050, 0x0, 1, 0, 1, 0, 64, .ro, 0x0, .any, false⟩
def GEYS_PPS_ERR_E : RegField := ⟨0x300058, 0x0, 1, 0, 1, 0, 40, .ro, 0x0, .any, false⟩
def GEYS_SLP_GT_SAVED_GT : RegField := ⟨0x300060, 0x0, 1, 0, 1, 0, 64, .ro, 0x0, .any, false⟩
def GEYS_SLP_AON_ELAPSED : RegField := ⟨0x300068, 0x0, 1, 0, 1, 0, 48, .ro, 0x0, .any, false⟩
def GEYS_SLP_INFO_BACKUP_AT : RegField := ⟨0x300070, 0x0, 1, 0, 1, 0, 48, .ro, 0x0, .any, false⟩
def GEYS_SLP_INFO_BACKUP_USED : RegField := ⟨0x300070, 0x0, 1, 0, 1, 48, 1, .ro, 0x0, .any, false⟩
def GEYS_SLP_INFO_VAUX_LOST : RegField := ⟨0x300070, 0x0, 1, 0, 1, 49, 1, .ro, 0x0, .any, false⟩
def GEYS_SLP_INFO_RATE_LEARNED : RegField := ⟨0x300070, 0x0, 1, 0, 1, 50, 1, .ro, 0x0, .any, false⟩
def GEYS_AON_RATE_PERIOD : RegField := ⟨0x300078, 0x0, 1, 0, 1, 0, 32, .ro, 0x2800000, .any, false⟩
def GEYS_STEP_AMOUNT : RegField := ⟨0x300080, 0x0, 1, 0, 1, 0, 48, .wo, 0x0, .any, false⟩

/-! Table 7.8 (ROUT), R273 -/

def ROUT_TOPO_TOPO : RegField := ⟨0x3000000, 0x0, 1, 0, 1, 0, 64, .ro, 0x0, .any, false⟩
def ROUT_TOPO_PEND_TOPO : RegField := ⟨0x3000008, 0x0, 1, 0, 1, 0, 64, .rw, 0x0, .any, false⟩
def ROUT_CTRL_MODE : RegField := ⟨0x3000010, 0x0, 1, 0, 1, 0, 2, .ro, 0x2, .any, false⟩
def ROUT_CTRL_TRANSIT_OFF : RegField := ⟨0x3000010, 0x0, 1, 0, 1, 2, 1, .rw, 0x0, .any, false⟩
def ROUT_CTRL_DRAINED : RegField := ⟨0x3000010, 0x0, 1, 0, 1, 3, 1, .ro, 0x0, .any, false⟩
def ROUT_CTRL_ADOPTED : RegField := ⟨0x3000010, 0x0, 1, 0, 1, 4, 1, .ro, 0x0, .any, false⟩
def ROUT_BANK_ACTIVE : RegField := ⟨0x3000018, 0x0, 1, 0, 1, 0, 1, .ro, 0x0, .any, false⟩
def ROUT_BANK_ARMED : RegField := ⟨0x3000018, 0x0, 1, 0, 1, 1, 1, .ro, 0x0, .any, false⟩
def ROUT_BANK_HOLDING : RegField := ⟨0x3000018, 0x0, 1, 0, 1, 2, 1, .ro, 0x0, .any, false⟩
def ROUT_BANK_ARMED_BANK : RegField := ⟨0x3000018, 0x0, 1, 0, 1, 3, 1, .ro, 0x0, .any, false⟩
def ROUT_BANK_LAST_ID : RegField := ⟨0x3000018, 0x0, 1, 0, 1, 4, 16, .ro, 0x0, .any, false⟩
def ROUT_BANK_LATE : RegField := ⟨0x3000018, 0x0, 1, 0, 1, 20, 1, .rw1c, 0x0, .any, false⟩
def ROUT_BANK_MISMATCH : RegField := ⟨0x3000018, 0x0, 1, 0, 1, 21, 1, .rw1c, 0x0, .any, false⟩
def ROUT_BANK_MISSED : RegField := ⟨0x3000018, 0x0, 1, 0, 1, 22, 1, .rw1c, 0x0, .any, false⟩
def ROUT_BANK_REFUSED : RegField := ⟨0x3000018, 0x0, 1, 0, 1, 23, 1, .rw1c, 0x0, .any, false⟩
def ROUT_FLIP_GT_TARGET : RegField := ⟨0x3000020, 0x0, 1, 0, 1, 0, 64, .rw, 0x0, .any, false⟩
def ROUT_FLIP_CTRL_ARM : RegField := ⟨0x3000028, 0x0, 1, 0, 1, 0, 1, .wo, 0x0, .any, false⟩
def ROUT_FLIP_CTRL_ID : RegField := ⟨0x3000028, 0x0, 1, 0, 1, 1, 16, .rw, 0x0, .any, false⟩
def ROUT_FLIP_CTRL_NEW_MODE : RegField := ⟨0x3000028, 0x0, 1, 0, 1, 17, 2, .rw, 0x3, .any, false⟩
def ROUT_FLIP_CTRL_HOPBUD : RegField := ⟨0x3000028, 0x0, 1, 0, 1, 19, 4, .rw, 0x8, .range 1 15, false⟩
def ROUT_HOLD_HOLD : RegField := ⟨0x3000030, 0x0, 1, 0, 1, 0, 32, .rw, 0x9896800, .range 16000000 1600000000, false⟩
def ROUT_COST_MARK_THR : RegField := ⟨0x3000038, 0x0, 1, 0, 1, 0, 10, .rw, 0x100, .range 16 1023, false⟩
def ROUT_COST_DET_THR : RegField := ⟨0x3000038, 0x0, 1, 0, 1, 10, 8, .rw, 0x20, .any, false⟩
def ROUT_COST_DET_BIAS : RegField := ⟨0x3000038, 0x0, 1, 0, 1, 18, 8, .rw, 0x8, .any, false⟩
def ROUT_THR_AI_STEP : RegField := ⟨0x3000040, 0x0, 1, 0, 1, 0, 8, .rw, 0x4, .range 1 64, false⟩
def ROUT_THR_MD_SHIFT : RegField := ⟨0x3000040, 0x0, 1, 0, 1, 8, 3, .rw, 0x1, .range 1 4, false⟩
def ROUT_THR_RATE_MIN : RegField := ⟨0x3000040, 0x0, 1, 0, 1, 11, 8, .rw, 0x8, .range 1 128, false⟩
def ROUT_THR_AI_PKTS : RegField := ⟨0x3000040, 0x0, 1, 0, 1, 19, 8, .rw, 0x40, .range 8 255, false⟩
def ROUT_THR_LQ_THR : RegField := ⟨0x3000040, 0x0, 1, 0, 1, 27, 10, .rw, 0x200, .range 64 1023, false⟩
def ROUT_THR_MARK_EVERY : RegField := ⟨0x3000040, 0x0, 1, 0, 1, 37, 5, .rw, 0x10, .range 1 31, false⟩
def ROUT_THR_THR_EN : RegField := ⟨0x3000040, 0x0, 1, 0, 1, 42, 1, .rw, 0x1, .any, false⟩
def ROUT_EP_RATE0_RATE : RegField := ⟨0x3000048, 0x0, 1, 0, 1, 0, 64, .ro, 0xFFFFFFFFFFFFFFFF, .any, false⟩
def ROUT_EP_RATE1_RATE : RegField := ⟨0x3000050, 0x0, 1, 0, 1, 0, 16, .ro, 0xFFFF, .any, false⟩
def ROUT_CRC_CRC0 : RegField := ⟨0x3000058, 0x0, 1, 0, 1, 0, 32, .ro, 0x0, .any, false⟩
def ROUT_CRC_CRC1 : RegField := ⟨0x3000058, 0x0, 1, 0, 1, 32, 32, .ro, 0x0, .any, false⟩
def ROUT_EXCL0_LO_EXCL : RegField := ⟨0x3000060, 0x0, 1, 0, 1, 0, 64, .rw, 0x0, .any, false⟩
def ROUT_EXCL0_HI_EXCL : RegField := ⟨0x3000068, 0x0, 1, 0, 1, 0, 32, .rw, 0x0, .any, false⟩
def ROUT_EXCL1_LO_EXCL : RegField := ⟨0x3000070, 0x0, 1, 0, 1, 0, 64, .rw, 0x0, .any, false⟩
def ROUT_EXCL1_HI_EXCL : RegField := ⟨0x3000078, 0x0, 1, 0, 1, 0, 32, .rw, 0x0, .any, false⟩
def ROUT_USABLE_LO_USABLE : RegField := ⟨0x3000080, 0x0, 1, 0, 1, 0, 64, .ro, 0x0, .any, false⟩
def ROUT_USABLE_HI_USABLE : RegField := ⟨0x3000088, 0x0, 1, 0, 1, 0, 32, .ro, 0x0, .any, false⟩

/-! Table 8.13 (SCHD), R318 -/

def SCHD_CTRL_STATE : RegField := ⟨0x4000000, 0x0, 1, 0, 1, 0, 3, .ro, 0x0, .any, false⟩
def SCHD_CTRL_RUN_BUF : RegField := ⟨0x4000000, 0x0, 1, 0, 1, 3, 1, .ro, 0x0, .any, false⟩
def SCHD_CTRL_VALID_A : RegField := ⟨0x4000000, 0x0, 1, 0, 1, 4, 1, .ro, 0x0, .any, false⟩
def SCHD_CTRL_VALID_B : RegField := ⟨0x4000000, 0x0, 1, 0, 1, 5, 1, .ro, 0x0, .any, false⟩
def SCHD_CTRL_GO : RegField := ⟨0x4000000, 0x0, 1, 0, 1, 6, 1, .wo, 0x0, .any, false⟩
def SCHD_CTRL_GO_BUF : RegField := ⟨0x4000000, 0x0, 1, 0, 1, 7, 1, .rw, 0x0, .any, false⟩
def SCHD_CTRL_ABORT : RegField := ⟨0x4000000, 0x0, 1, 0, 1, 8, 1, .wo, 0x0, .any, false⟩
def SCHD_CTRL_CLEAR : RegField := ⟨0x4000000, 0x0, 1, 0, 1, 9, 1, .wo, 0x0, .any, false⟩
def SCHD_START_GT_START_GT : RegField := ⟨0x4000008, 0x0, 1, 0, 1, 0, 64, .rw, 0x0, .any, false⟩
def SCHD_STOP_STOP_ITER : RegField := ⟨0x4000010, 0x0, 1, 0, 1, 0, 44, .rw, 0x0, .any, false⟩
def SCHD_STOP_STOP_EN : RegField := ⟨0x4000010, 0x0, 1, 0, 1, 44, 1, .rw, 0x0, .any, false⟩
def SCHD_POS_ITER : RegField := ⟨0x4000018, 0x0, 1, 0, 1, 0, 44, .ro, 0x0, .any, false⟩
def SCHD_POS_SLOT : RegField := ⟨0x4000018, 0x0, 1, 0, 1, 44, 20, .ro, 0x0, .any, false⟩
def SCHD_IMG_IMAGE_ID : RegField := ⟨0x4000020, 0x0, 1, 0, 1, 0, 32, .ro, 0x0, .any, false⟩
def SCHD_IMG_CYCLE : RegField := ⟨0x4000020, 0x0, 1, 0, 1, 32, 21, .ro, 0x0, .any, false⟩
def SCHD_IMG_SLOT_LEN : RegField := ⟨0x4000020, 0x0, 1, 0, 1, 53, 6, .ro, 0x0, .any, false⟩
def SCHD_HQ_HQ : RegField := ⟨0x4000028, 0x0, 1, 0, 1, 0, 16, .ro, 0x0, .any, false⟩
def SCHD_HQ_FETCH_LEAD : RegField := ⟨0x4000028, 0x0, 1, 0, 1, 16, 5, .ro, 0x0, .any, false⟩
def SCHD_HQ_LSTEP_LEAD_IMG : RegField := ⟨0x4000028, 0x0, 1, 0, 1, 21, 7, .ro, 0x0, .any, false⟩
def SCHD_HASH_MACH_HASH : RegField := ⟨0x4000030, 0x0, 1, 0, 1, 0, 64, .ro, 0x0, .any, false⟩
def SCHD_CFG_FIT_GUARD : RegField := ⟨0x4000038, 0x0, 1, 0, 1, 0, 7, .rw, 0x30, .range 0 74, false⟩
def SCHD_CFG_CUT_HORIZON : RegField := ⟨0x4000038, 0x0, 1, 0, 1, 7, 16, .rw, 0x7D0, .any, false⟩
def SCHD_CFG_LATE_TOL : RegField := ⟨0x4000038, 0x0, 1, 0, 1, 23, 5, .rw, 0x10, .any, false⟩
def SCHD_CFG_ABORT_THR : RegField := ⟨0x4000038, 0x0, 1, 0, 1, 28, 8, .rw, 0x10, .any, false⟩
def SCHD_CFG_PREWARM_EN : RegField := ⟨0x4000038, 0x0, 1, 0, 1, 36, 1, .rw, 0x1, .any, false⟩
def SCHD_CFG_LSTEP_EN : RegField := ⟨0x4000038, 0x0, 1, 0, 1, 37, 1, .rw, 0x1, .any, false⟩
def SCHD_CFG_LSTEP_LEAD : RegField := ⟨0x4000038, 0x0, 1, 0, 1, 38, 7, .rw, 0xA, .range 1 100, false⟩
def SCHD_EVENT_LOAD_FAIL : RegField := ⟨0x4000040, 0x0, 1, 0, 1, 0, 1, .rw1c, 0x0, .any, false⟩
def SCHD_EVENT_BREACH : RegField := ⟨0x4000040, 0x0, 1, 0, 1, 1, 1, .rw1c, 0x0, .any, false⟩
def SCHD_EVENT_ABORT_RX : RegField := ⟨0x4000040, 0x0, 1, 0, 1, 2, 1, .rw1c, 0x0, .any, false⟩
def SCHD_EVENT_ABORT_LOCAL : RegField := ⟨0x4000040, 0x0, 1, 0, 1, 3, 1, .rw1c, 0x0, .any, false⟩
def SCHD_EVENT_PREFETCH_MISS : RegField := ⟨0x4000040, 0x0, 1, 0, 1, 4, 1, .rw1c, 0x0, .any, false⟩
def SCHD_EVENT_LATE : RegField := ⟨0x4000040, 0x0, 1, 0, 1, 5, 1, .rw1c, 0x0, .any, false⟩
def SCHD_EVENT_SKIP : RegField := ⟨0x4000040, 0x0, 1, 0, 1, 6, 1, .rw1c, 0x0, .any, false⟩
def SCHD_EVENT_DEMOTED : RegField := ⟨0x4000040, 0x0, 1, 0, 1, 7, 1, .rw1c, 0x0, .any, false⟩
def SCHD_EVENT_COLL_DROP : RegField := ⟨0x4000040, 0x0, 1, 0, 1, 8, 1, .rw1c, 0x0, .any, false⟩
def SCHD_EVENT_PATH_FAIL : RegField := ⟨0x4000040, 0x0, 1, 0, 1, 9, 1, .rw1c, 0x0, .any, false⟩
def SCHD_EVENT_PREWARM_SKIP : RegField := ⟨0x4000040, 0x0, 1, 0, 1, 10, 1, .rw1c, 0x0, .any, false⟩
def SCHD_EVENT_PREWARM_ACTIVE : RegField := ⟨0x4000040, 0x0, 1, 0, 1, 16, 1, .ro, 0x0, .any, false⟩
def SCHD_EVENT_LSTEP_ACTIVE : RegField := ⟨0x4000040, 0x0, 1, 0, 1, 17, 1, .ro, 0x0, .any, false⟩
def SCHD_FIRST_GT_GT : RegField := ⟨0x4000048, 0x0, 1, 0, 1, 0, 64, .ro, 0x0, .any, false⟩
def SCHD_FIRST_INFO_KIND : RegField := ⟨0x4000050, 0x0, 1, 0, 1, 0, 4, .ro, 0x0, .any, false⟩
def SCHD_FIRST_INFO_PORT : RegField := ⟨0x4000050, 0x0, 1, 0, 1, 4, 7, .ro, 0x0, .any, false⟩
def SCHD_FIRST_INFO_SLOT : RegField := ⟨0x4000050, 0x0, 1, 0, 1, 11, 20, .ro, 0x0, .any, false⟩
def SCHD_FIRST_INFO_DPID : RegField := ⟨0x4000050, 0x0, 1, 0, 1, 31, 20, .ro, 0x0, .any, false⟩
def SCHD_ABORT_INFO_ORIGIN : RegField := ⟨0x4000058, 0x0, 1, 0, 1, 0, 20, .ro, 0x0, .any, false⟩
def SCHD_ABORT_INFO_REASON : RegField := ⟨0x4000058, 0x0, 1, 0, 1, 20, 4, .ro, 0x0, .any, false⟩
def SCHD_ABORT_INFO_IMAGE_ID : RegField := ⟨0x4000058, 0x0, 1, 0, 1, 24, 32, .ro, 0x0, .any, false⟩
def SCHD_LOAD_ERR_CODE : RegField := ⟨0x4000060, 0x0, 1, 0, 1, 0, 8, .ro, 0x0, .any, false⟩
def SCHD_LOAD_ERR_OFFSET : RegField := ⟨0x4000060, 0x0, 1, 0, 1, 8, 40, .ro, 0x0, .any, false⟩
def SCHD_LOAD_ERR_BUF : RegField := ⟨0x4000060, 0x0, 1, 0, 1, 48, 1, .ro, 0x0, .any, false⟩
def SCHD_BREACH_CNT_COUNT : RegField := ⟨0x4000068, 0x0, 1, 0, 1, 0, 16, .ro, 0x0, .any, false⟩

/-! Table 9.11 (FUNC), R360 -/

def FUNC_CTRL_EN : RegField := ⟨0x100000000, 0x100000, 256, 0, 1, 0, 1, .rw, 0x0, .any, false⟩
def FUNC_STATUS_STATE : RegField := ⟨0x100000008, 0x100000, 256, 0, 1, 0, 2, .ro, 0x0, .any, false⟩
def FUNC_STATUS_PEND : RegField := ⟨0x100000008, 0x100000, 256, 0, 1, 2, 1, .ro, 0x0, .any, false⟩
def FUNC_STATUS_ENABLE_DISCARDED : RegField := ⟨0x100000008, 0x100000, 256, 0, 1, 3, 1, .rw1c, 0x0, .any, false⟩
def FUNC_STATUS_DMA_ERR : RegField := ⟨0x100000008, 0x100000, 256, 0, 1, 4, 1, .rw1c, 0x0, .any, false⟩
def FUNC_STATUS_NQP : RegField := ⟨0x100000008, 0x100000, 256, 0, 1, 5, 13, .ro, 0x0, .any, false⟩
def FUNC_INFO_FUNC : RegField := ⟨0x100000010, 0x100000, 256, 0, 1, 0, 6, .ro, 0x0, .any, false⟩
def FUNC_INFO_HPORT : RegField := ⟨0x100000010, 0x100000, 256, 0, 1, 6, 2, .ro, 0x0, .any, false⟩
def FUNC_INFO_MAX_VEC : RegField := ⟨0x100000010, 0x100000, 256, 0, 1, 8, 12, .ro, 0x0, .any, false⟩
def FUNC_INFO_MAX_QP : RegField := ⟨0x100000010, 0x100000, 256, 0, 1, 20, 13, .ro, 0x1C00, .any, false⟩

/-! Table 9.13 (HIF), R361 -/

def HIF_PORT_CFG_CXL_EN : RegField := ⟨0x5000000, 0x10000, 4, 0, 1, 0, 1, .rw, 0x1, .any, false⟩
def HIF_PORT_LINK_UP : RegField := ⟨0x5000008, 0x10000, 4, 0, 1, 0, 1, .ro, 0x0, .any, false⟩
def HIF_PORT_LINK_CXL : RegField := ⟨0x5000008, 0x10000, 4, 0, 1, 1, 1, .ro, 0x0, .any, false⟩
def HIF_PORT_LINK_FLIT : RegField := ⟨0x5000008, 0x10000, 4, 0, 1, 2, 1, .ro, 0x0, .any, false⟩
def HIF_PORT_LINK_RATE : RegField := ⟨0x5000008, 0x10000, 4, 0, 1, 3, 3, .ro, 0x0, .any, false⟩
def HIF_PORT_LINK_WIDTH : RegField := ⟨0x5000008, 0x10000, 4, 0, 1, 6, 5, .ro, 0x0, .any, false⟩
def HIF_PORT_LINK_SNOOPED : RegField := ⟨0x5000008, 0x10000, 4, 0, 1, 11, 15, .ro, 0x0, .any, false⟩

/-! Table 9.14 (QUE), R361 -/

def QUE_CFG_POLL_RATE : RegField := ⟨0x6000000, 0x0, 1, 0, 1, 0, 7, .rw, 0x10, .range 1 64, false⟩
def QUE_HELD_USED : RegField := ⟨0x6000008, 0x0, 1, 0, 1, 0, 17, .ro, 0x0, .any, false⟩
def QUE_QP_SEL_QIDX : RegField := ⟨0x6000010, 0x0, 1, 0, 1, 0, 18, .rw, 0x0, .any, false⟩
def QUE_QP_VIEW_HPORT : RegField := ⟨0x6000018, 0x0, 1, 0, 1, 0, 2, .ro, 0x0, .any, false⟩
def QUE_QP_VIEW_FUNC : RegField := ⟨0x6000018, 0x0, 1, 0, 1, 2, 6, .ro, 0x0, .any, false⟩
def QUE_QP_VIEW_SLOT : RegField := ⟨0x6000018, 0x0, 1, 0, 1, 8, 13, .ro, 0x0, .any, false⟩
def QUE_QP_VIEW_DB_MODE : RegField := ⟨0x6000018, 0x0, 1, 0, 1, 21, 2, .ro, 0x0, .any, false⟩
def QUE_QP_VIEW_VALID : RegField := ⟨0x6000018, 0x0, 1, 0, 1, 23, 1, .ro, 0x0, .any, false⟩
def QUE_QP_IDX_SQ_OBS : RegField := ⟨0x6000020, 0x0, 1, 0, 1, 0, 32, .ro, 0x0, .any, false⟩
def QUE_QP_IDX_SQ_FETCH : RegField := ⟨0x6000020, 0x0, 1, 0, 1, 32, 32, .ro, 0x0, .any, false⟩

/-! Table 10.8 (XLT), R398 -/

def XLT_AGE_MAX_AGE : RegField := ⟨0x7000000, 0x0, 1, 0, 1, 0, 40, .rw, 0x3B9ACA000, .zeroOr 16000000 960000000000, false⟩
def XLT_PARK_PARK_TIME : RegField := ⟨0x7000008, 0x0, 1, 0, 1, 0, 34, .rw, 0x5F5E1000, .range 16000000 16000000000, false⟩
def XLT_PARK_USED : RegField := ⟨0x7000008, 0x0, 1, 0, 1, 34, 11, .ro, 0x0, .any, false⟩
def XLT_CTX_SEL_CTX : RegField := ⟨0x7000010, 0x0, 1, 0, 1, 0, 16, .rw, 0x0, .any, false⟩
def XLT_CTX_VIEW_VALID : RegField := ⟨0x7000018, 0x0, 1, 0, 1, 0, 1, .rw, 0x0, .any, false⟩
def XLT_CTX_VIEW_LEVELS : RegField := ⟨0x7000018, 0x0, 1, 0, 1, 1, 2, .rw, 0x0, .any, false⟩
def XLT_CTX_VIEW_PRIV : RegField := ⟨0x7000018, 0x0, 1, 0, 1, 3, 1, .rw, 0x0, .any, false⟩
def XLT_CTX_VIEW_AM_EN : RegField := ⟨0x7000018, 0x0, 1, 0, 1, 4, 1, .rw, 0x0, .any, false⟩
def XLT_CTX_VIEW_SUP_DATA_U : RegField := ⟨0x7000018, 0x0, 1, 0, 1, 5, 1, .rw, 0x0, .any, false⟩
def XLT_CTX_VIEW_PARK_EN : RegField := ⟨0x7000018, 0x0, 1, 0, 1, 6, 1, .rw, 0x0, .any, false⟩
def XLT_CTX_VIEW_HPORT : RegField := ⟨0x7000018, 0x0, 1, 0, 1, 7, 2, .rw, 0x0, .any, false⟩
def XLT_CTX_VIEW_FUNC : RegField := ⟨0x7000018, 0x0, 1, 0, 1, 9, 6, .rw, 0x0, .any, false⟩
def XLT_CTX_VIEW_PASID : RegField := ⟨0x7000018, 0x0, 1, 0, 1, 15, 20, .rw, 0x0, .any, false⟩
def XLT_CTX_ROOT_ROOT : RegField := ⟨0x7000020, 0x0, 1, 0, 1, 12, 40, .rw, 0x0, .any, false⟩
def XLT_INV_CTRL_GO : RegField := ⟨0x7000028, 0x0, 1, 0, 1, 0, 1, .wo, 0x0, .any, false⟩
def XLT_INV_CTRL_SCOPE : RegField := ⟨0x7000028, 0x0, 1, 0, 1, 1, 2, .rw, 0x0, .any, false⟩
def XLT_INV_CTRL_WC : RegField := ⟨0x7000028, 0x0, 1, 0, 1, 3, 1, .rw, 0x0, .any, false⟩
def XLT_INV_CTRL_CTX : RegField := ⟨0x7000028, 0x0, 1, 0, 1, 4, 16, .rw, 0x0, .any, false⟩
def XLT_INV_VA_VA : RegField := ⟨0x7000030, 0x0, 1, 0, 1, 12, 52, .rw, 0x0, .any, false⟩
def XLT_INV_CNT_PAGES : RegField := ⟨0x7000038, 0x0, 1, 0, 1, 0, 32, .rw, 0x1, .range 1 4294967295, false⟩
def XLT_INV_STAT_BUSY : RegField := ⟨0x7000040, 0x0, 1, 0, 1, 0, 1, .ro, 0x0, .any, false⟩
def XLT_INV_STAT_DONE : RegField := ⟨0x7000040, 0x0, 1, 0, 1, 1, 1, .rw1c, 0x0, .any, false⟩
def XLT_WR_BASE_EN : RegField := ⟨0x7000100, 0x100, 4, 16, 16, 0, 1, .rw, 0x0, .any, false⟩
def XLT_WR_BASE_BASE : RegField := ⟨0x7000100, 0x100, 4, 16, 16, 12, 40, .rw, 0x0, .any, false⟩
def XLT_WR_LIMIT_LIMIT : RegField := ⟨0x7000108, 0x100, 4, 16, 16, 12, 40, .rw, 0x0, .any, false⟩
def XLT_RFLT_CTX : RegField := ⟨0x7000500, 0x0, 1, 0, 1, 0, 16, .ro, 0x0, .any, false⟩
def XLT_RFLT_KIND : RegField := ⟨0x7000500, 0x0, 1, 0, 1, 16, 4, .ro, 0x0, .any, false⟩
def XLT_RFLT_ACC : RegField := ⟨0x7000500, 0x0, 1, 0, 1, 20, 2, .ro, 0x0, .any, false⟩
def XLT_RFLT_VA_VA : RegField := ⟨0x7000508, 0x0, 1, 0, 1, 0, 64, .ro, 0x0, .any, false⟩

/-! Table 11.6 (TPT), R444 -/

def TPT_LIFE_LIFETIME : RegField := ⟨0x8000000, 0x0, 1, 0, 1, 0, 36, .rw, 0x1DCD65000, .range 16000000 64000000000, false⟩
def TPT_LIFE_EFF_EFFECTIVE : RegField := ⟨0x8000008, 0x0, 1, 0, 1, 0, 36, .ro, 0x1DCD65000, .any, false⟩
def TPT_GIVEUP_GIVEUP : RegField := ⟨0x8000010, 0x0, 1, 0, 1, 0, 40, .rw, 0xB2D05E000, .range 1600000000 960000000000, false⟩
def TPT_ACK_ACK_EVERY : RegField := ⟨0x8000018, 0x0, 1, 0, 1, 0, 7, .rw, 0x10, .range 1 64, false⟩
def TPT_ACK_RETRY_BUDGET : RegField := ⟨0x8000018, 0x0, 1, 0, 1, 8, 8, .rw, 0x10, .range 1 255, false⟩
def TPT_TC_SEL_PID : RegField := ⟨0x8000020, 0x0, 1, 0, 1, 0, 20, .rw, 0x0, .any, false⟩
def TPT_TC_VIEW_TX_STATE : RegField := ⟨0x8000028, 0x0, 1, 0, 1, 0, 2, .ro, 0x0, .any, false⟩
def TPT_TC_VIEW_KNOWN : RegField := ⟨0x8000028, 0x0, 1, 0, 1, 2, 1, .ro, 0x0, .any, false⟩
def TPT_TC_VIEW_RX_SYNC : RegField := ⟨0x8000028, 0x0, 1, 0, 1, 3, 1, .ro, 0x0, .any, false⟩
def TPT_TC_VIEW_CACHED : RegField := ⟨0x8000028, 0x0, 1, 0, 1, 4, 1, .ro, 0x0, .any, false⟩
def TPT_TC_VIEW_TX_OUT : RegField := ⟨0x8000028, 0x0, 1, 0, 1, 5, 11, .ro, 0x0, .any, false⟩
def TPT_TC_VIEW_RTO_EXP : RegField := ⟨0x8000028, 0x0, 1, 0, 1, 16, 4, .ro, 0x0, .any, false⟩
def TPT_TC_VIEW_PEER_INC : RegField := ⟨0x8000028, 0x0, 1, 0, 1, 20, 32, .ro, 0x0, .any, false⟩
def TPT_TC_SEQ_TX_NEXT : RegField := ⟨0x8000030, 0x0, 1, 0, 1, 0, 32, .ro, 0x0, .any, false⟩
def TPT_TC_SEQ_TX_UNA : RegField := ⟨0x8000030, 0x0, 1, 0, 1, 32, 32, .ro, 0x0, .any, false⟩
def TPT_TC_RX_RX_EXPECTED : RegField := ⟨0x8000038, 0x0, 1, 0, 1, 0, 32, .ro, 0x0, .any, false⟩
def TPT_TC_RX_NEXT_OPID : RegField := ⟨0x8000038, 0x0, 1, 0, 1, 32, 24, .ro, 0x0, .any, false⟩
def TPT_TC_CTRL_RESET : RegField := ⟨0x8000040, 0x0, 1, 0, 1, 0, 1, .wo, 0x0, .any, false⟩

/-! Table 11.7 (WIN), R446 -/

def WIN_CFG_COUNT : RegField := ⟨0x9000000, 0x0, 1, 0, 1, 0, 25, .ro, 0x1000000, .any, false⟩
def WIN_USED_OPEN : RegField := ⟨0x9000008, 0x0, 1, 0, 1, 0, 25, .ro, 0x0, .any, false⟩
def WIN_USED_COOLING : RegField := ⟨0x9000008, 0x0, 1, 0, 1, 25, 25, .ro, 0x0, .any, false⟩
def WIN_SEL_INDEX : RegField := ⟨0x9000010, 0x0, 1, 0, 1, 0, 24, .rw, 0x0, .any, false⟩
def WIN_VIEW_WORD : RegField := ⟨0x9000040, 0x8, 8, 0, 1, 0, 64, .ro, 0x0, .any, false⟩
def WIN_OPEN_A_ENTRY0 : RegField := ⟨0x9000080, 0x0, 1, 0, 1, 0, 64, .rw, 0x0, .any, false⟩
def WIN_OPEN_B_ENTRY1 : RegField := ⟨0x9000088, 0x0, 1, 0, 1, 0, 40, .rw, 0x0, .any, false⟩
def WIN_OPEN_BASE_BASE : RegField := ⟨0x9000090, 0x0, 1, 0, 1, 0, 64, .rw, 0x0, .any, false⟩
def WIN_OPEN_LEN_LENGTH : RegField := ⟨0x9000098, 0x0, 1, 0, 1, 0, 64, .rw, 0x0, .any, false⟩
def WIN_OPEN_GO_GO : RegField := ⟨0x90000A0, 0x0, 1, 0, 1, 0, 1, .wo, 0x0, .any, false⟩
def WIN_OPEN_RES_KEY : RegField := ⟨0x90000A8, 0x0, 1, 0, 1, 0, 32, .ro, 0x0, .any, false⟩
def WIN_OPEN_RES_DONE : RegField := ⟨0x90000A8, 0x0, 1, 0, 1, 32, 1, .rw1c, 0x0, .any, false⟩
def WIN_OPEN_RES_ERR : RegField := ⟨0x90000A8, 0x0, 1, 0, 1, 33, 1, .rw1c, 0x0, .any, false⟩
def WIN_REVOKE_KEY : RegField := ⟨0x90000B0, 0x0, 1, 0, 1, 0, 32, .wo, 0x0, .any, false⟩
def WIN_REV_STAT_BUSY : RegField := ⟨0x90000B8, 0x0, 1, 0, 1, 0, 1, .ro, 0x0, .any, false⟩
def WIN_REV_STAT_DONE : RegField := ⟨0x90000B8, 0x0, 1, 0, 1, 1, 1, .rw1c, 0x0, .any, false⟩
def WIN_REV_STAT_STATUS : RegField := ⟨0x90000B8, 0x0, 1, 0, 1, 2, 8, .ro, 0x0, .any, false⟩

/-! Table 12.4 (MAT), R477 -/

def MAT_CFG_EAGER_LIMIT : RegField := ⟨0xA000000, 0x0, 1, 0, 1, 0, 17, .rw, 0x2000, .range 0 65536, false⟩
def MAT_MIRE_RATE_RATE : RegField := ⟨0xA000008, 0x0, 1, 0, 1, 0, 9, .rw, 0x12C, .range 1 300, false⟩
def MAT_MIRE_USE_HDR_USED : RegField := ⟨0xA000010, 0x0, 1, 0, 1, 0, 24, .ro, 0x0, .any, false⟩
def MAT_MIRE_USE_BLK_USED : RegField := ⟨0xA000010, 0x0, 1, 0, 1, 24, 21, .ro, 0x0, .any, false⟩
def MAT_PRQ_USE_USED : RegField := ⟨0xA000018, 0x0, 1, 0, 1, 0, 26, .ro, 0x0, .any, false⟩
def MAT_REORDER_USED : RegField := ⟨0xA000020, 0x0, 1, 0, 1, 0, 13, .ro, 0x0, .any, false⟩
def MAT_QP_SEL_QIDX : RegField := ⟨0xA000028, 0x0, 1, 0, 1, 0, 18, .rw, 0x0, .any, false⟩
def MAT_QP_VIEW_POSTED : RegField := ⟨0xA000030, 0x0, 1, 0, 1, 0, 26, .ro, 0x0, .any, false⟩
def MAT_QP_VIEW_UNEXP : RegField := ⟨0xA000030, 0x0, 1, 0, 1, 26, 24, .ro, 0x0, .any, false⟩
def MAT_QP_VIEW_PRQ_HELD : RegField := ⟨0xA000030, 0x0, 1, 0, 1, 50, 1, .ro, 0x0, .any, false⟩
def MAT_QP_VIEW_UNIT : RegField := ⟨0xA000030, 0x0, 1, 0, 1, 51, 4, .ro, 0x0, .any, false⟩
def MAT_QP_POST_NEXT_POST : RegField := ⟨0xA000038, 0x0, 1, 0, 1, 0, 64, .ro, 0x0, .any, false⟩

/-! Table 13.6 (TRG), R497 -/

def TRG_PEND_USED : RegField := ⟨0xB000000, 0x0, 1, 0, 1, 0, 21, .ro, 0x0, .any, false⟩
def TRG_CMP_USED : RegField := ⟨0xB000008, 0x0, 1, 0, 1, 0, 17, .ro, 0x0, .any, false⟩
def TRG_CMP_SWEPT : RegField := ⟨0xB000008, 0x0, 1, 0, 1, 17, 21, .ro, 0x0, .any, false⟩
def TRG_HOT_HOT : RegField := ⟨0xB000010, 0x0, 1, 0, 1, 0, 17, .ro, 0x0, .any, false⟩
def TRG_CNT_SEL_INDEX : RegField := ⟨0xB000018, 0x0, 1, 0, 1, 0, 20, .rw, 0x0, .any, false⟩
def TRG_CNT_VAL_VALUE : RegField := ⟨0xB000020, 0x0, 1, 0, 1, 0, 64, .rw, 0x0, .any, false⟩
def TRG_CNT_META_FAIL : RegField := ⟨0xB000028, 0x0, 1, 0, 1, 0, 32, .rw, 0x0, .any, false⟩
def TRG_CNT_META_LAST_STATUS : RegField := ⟨0xB000028, 0x0, 1, 0, 1, 32, 8, .rw, 0x0, .any, false⟩
def TRG_CNT_META_LATE : RegField := ⟨0xB000028, 0x0, 1, 0, 1, 40, 1, .rw1c, 0x0, .any, false⟩
def TRG_CNT_META_ALLOC : RegField := ⟨0xB000028, 0x0, 1, 0, 1, 41, 1, .ro, 0x0, .any, false⟩
def TRG_CNT_META_HPORT : RegField := ⟨0xB000028, 0x0, 1, 0, 1, 42, 2, .ro, 0x0, .any, false⟩
def TRG_CNT_META_FUNC : RegField := ⟨0xB000028, 0x0, 1, 0, 1, 44, 6, .ro, 0x0, .any, false⟩
def TRG_CNT_ADD_AMOUNT : RegField := ⟨0xB000030, 0x0, 1, 0, 1, 0, 64, .wo, 0x0, .any, false⟩
def TRG_QP_SEL_QIDX : RegField := ⟨0xB000038, 0x0, 1, 0, 1, 0, 18, .rw, 0x0, .any, false⟩
def TRG_QP_CNT_CNT : RegField := ⟨0xB000040, 0x0, 1, 0, 1, 0, 20, .rw, 0x0, .any, false⟩
def TRG_QP_CNT_EN : RegField := ⟨0xB000040, 0x0, 1, 0, 1, 20, 1, .rw, 0x0, .any, false⟩

/-! Table 14.6 (COLL), R536 -/

def COLL_STAGE_USED : RegField := ⟨0xC000000, 0x0, 1, 0, 1, 0, 12, .ro, 0x0, .any, false⟩
def COLL_GRP_SEL_GID : RegField := ⟨0xC000008, 0x0, 1, 0, 1, 0, 12, .rw, 0x0, .any, false⟩
def COLL_GRP_VIEW_VALID : RegField := ⟨0xC000010, 0x0, 1, 0, 1, 0, 1, .ro, 0x0, .any, false⟩
def COLL_GRP_VIEW_STALE : RegField := ⟨0xC000010, 0x0, 1, 0, 1, 1, 1, .ro, 0x0, .any, false⟩
def COLL_GRP_VIEW_DIMMASK : RegField := ⟨0xC000010, 0x0, 1, 0, 1, 2, 4, .ro, 0x0, .any, false⟩
def COLL_GRP_VIEW_LOCAL_CNT : RegField := ⟨0xC000010, 0x0, 1, 0, 1, 6, 4, .ro, 0x0, .any, false⟩
def COLL_GRP_VIEW_DEPTH : RegField := ⟨0xC000010, 0x0, 1, 0, 1, 10, 5, .ro, 0x0, .any, false⟩
def COLL_GRP_VIEW_UNIT : RegField := ⟨0xC000010, 0x0, 1, 0, 1, 15, 3, .ro, 0x0, .any, false⟩
def COLL_GRP_VIEW_JOB : RegField := ⟨0xC000010, 0x0, 1, 0, 1, 18, 16, .ro, 0x0, .any, false⟩
def COLL_GRP_VIEW_OLDEST : RegField := ⟨0xC000010, 0x0, 1, 0, 1, 34, 12, .ro, 0x0, .any, false⟩
def COLL_GRP_MASK0_MASK0 : RegField := ⟨0xC000018, 0x0, 1, 0, 1, 0, 32, .ro, 0x0, .any, false⟩
def COLL_GRP_MASK0_MASK1 : RegField := ⟨0xC000018, 0x0, 1, 0, 1, 32, 32, .ro, 0x0, .any, false⟩
def COLL_GRP_MASK1_MASK2 : RegField := ⟨0xC000020, 0x0, 1, 0, 1, 0, 32, .ro, 0x0, .any, false⟩
def COLL_GRP_MASK1_MASK3 : RegField := ⟨0xC000020, 0x0, 1, 0, 1, 32, 32, .ro, 0x0, .any, false⟩
def COLL_GRP_STAGE_BASE : RegField := ⟨0xC000028, 0x0, 1, 0, 1, 0, 12, .ro, 0x0, .any, false⟩
def COLL_GRP_STAGE_SIZE : RegField := ⟨0xC000028, 0x0, 1, 0, 1, 12, 12, .ro, 0x0, .any, false⟩
def COLL_UNIT_ACTIVE : RegField := ⟨0xC000040, 0x8, 8, 0, 1, 0, 16, .ro, 0x0, .any, false⟩
def COLL_EVENT_MISMATCH : RegField := ⟨0xC000080, 0x0, 1, 0, 1, 0, 1, .rw1c, 0x0, .any, false⟩
def COLL_EVENT_TIMEOUT : RegField := ⟨0xC000080, 0x0, 1, 0, 1, 1, 1, .rw1c, 0x0, .any, false⟩
def COLL_EVENT_EARLY : RegField := ⟨0xC000080, 0x0, 1, 0, 1, 2, 1, .rw1c, 0x0, .any, false⟩
def COLL_EVENT_LATE : RegField := ⟨0xC000080, 0x0, 1, 0, 1, 3, 1, .rw1c, 0x0, .any, false⟩
def COLL_EVENT_STALE : RegField := ⟨0xC000080, 0x0, 1, 0, 1, 4, 1, .rw1c, 0x0, .any, false⟩

/-! Table 15.9 (PAIR), R570 -/

def PAIR_CTRL_MODE : RegField := ⟨0x700000, 0x0, 1, 0, 1, 0, 1, .rw, 0x0, .any, false⟩
def PAIR_CTRL_TAKEOVER : RegField := ⟨0x700000, 0x0, 1, 0, 1, 1, 1, .wo, 0x0, .any, false⟩
def PAIR_CFG_MIRROR_TMO : RegField := ⟨0x700008, 0x0, 1, 0, 1, 0, 14, .rw, 0xC8, .range 10 10000, false⟩
def PAIR_STATUS_STATE : RegField := ⟨0x700010, 0x0, 1, 0, 1, 0, 3, .ro, 0x0, .any, false⟩
def PAIR_STATUS_CARR_OK : RegField := ⟨0x700010, 0x0, 1, 0, 1, 3, 1, .ro, 0x0, .any, false⟩
def PAIR_STATUS_ALIVE_OK : RegField := ⟨0x700010, 0x0, 1, 0, 1, 4, 1, .ro, 0x0, .any, false⟩
def PAIR_STATUS_TRUSTED : RegField := ⟨0x700010, 0x0, 1, 0, 1, 5, 1, .ro, 0x0, .any, false⟩
def PAIR_STATUS_ROLE : RegField := ⟨0x700010, 0x0, 1, 0, 1, 6, 8, .ro, 0xFF, .any, false⟩
def PAIR_STATUS_MATE_MODE : RegField := ⟨0x700010, 0x0, 1, 0, 1, 14, 1, .ro, 0x0, .any, false⟩
def PAIR_INC_MATE_INC : RegField := ⟨0x700018, 0x0, 1, 0, 1, 0, 32, .ro, 0x0, .any, false⟩
def PAIR_INC_ADOPT_INC : RegField := ⟨0x700018, 0x0, 1, 0, 1, 32, 32, .ro, 0x0, .any, false⟩
def PAIR_MSEQ_TX_NEXT : RegField := ⟨0x700020, 0x0, 1, 0, 1, 0, 32, .ro, 0x0, .any, false⟩
def PAIR_MSEQ_TX_ACKED : RegField := ⟨0x700020, 0x0, 1, 0, 1, 32, 32, .ro, 0x0, .any, false⟩
def PAIR_APPLIED_RX_NEXT : RegField := ⟨0x700028, 0x0, 1, 0, 1, 0, 32, .ro, 0x0, .any, false⟩
def PAIR_MOVE_GT : RegField := ⟨0x700030, 0x0, 1, 0, 1, 0, 64, .ro, 0x0, .any, false⟩
def PAIR_EVENT_TAKEOVER : RegField := ⟨0x700038, 0x0, 1, 0, 1, 0, 1, .rw1c, 0x0, .any, false⟩
def PAIR_EVENT_CARR_LOST : RegField := ⟨0x700038, 0x0, 1, 0, 1, 1, 1, .rw1c, 0x0, .any, false⟩
def PAIR_EVENT_MATE_DEAD : RegField := ⟨0x700038, 0x0, 1, 0, 1, 2, 1, .rw1c, 0x0, .any, false⟩
def PAIR_EVENT_ALIVE_PIN : RegField := ⟨0x700038, 0x0, 1, 0, 1, 3, 1, .rw1c, 0x0, .any, false⟩
def PAIR_EVENT_SOLO : RegField := ⟨0x700038, 0x0, 1, 0, 1, 4, 1, .rw1c, 0x0, .any, false⟩
def PAIR_EVENT_MIRROR_TMO : RegField := ⟨0x700038, 0x0, 1, 0, 1, 5, 1, .rw1c, 0x0, .any, false⟩
def PAIR_EVENT_SHADOW_DROP : RegField := ⟨0x700038, 0x0, 1, 0, 1, 6, 1, .rw1c, 0x0, .any, false⟩
def PAIR_EVENT_MOVE_DONE : RegField := ⟨0x700038, 0x0, 1, 0, 1, 7, 1, .rw1c, 0x0, .any, false⟩

/-! Table 16.4 (FCMD), R583 -/

def CMD_BASE_BASE : RegField := ⟨0x100000040, 0x100000, 256, 0, 1, 12, 52, .rw, 0x0, .any, false⟩
def RPL_BASE_BASE : RegField := ⟨0x100000048, 0x100000, 256, 0, 1, 12, 52, .rw, 0x0, .any, false⟩
def CMD_RCFG_CLOG : RegField := ⟨0x100000050, 0x100000, 256, 0, 1, 0, 4, .rw, 0x6, .range 6 12, false⟩
def CMD_RCFG_RLOG : RegField := ⟨0x100000050, 0x100000, 256, 0, 1, 4, 4, .rw, 0x6, .range 6 12, false⟩
def CMD_RCFG_EN : RegField := ⟨0x100000050, 0x100000, 256, 0, 1, 8, 1, .rw, 0x0, .any, false⟩
def CMD_RCFG_VEC : RegField := ⟨0x100000050, 0x100000, 256, 0, 1, 9, 11, .rw, 0x0, .any, false⟩
def CMD_PI_INDEX : RegField := ⟨0x100000058, 0x100000, 256, 0, 1, 0, 32, .wo, 0x0, .any, false⟩
def RPL_CI_INDEX : RegField := ⟨0x100000060, 0x100000, 256, 0, 1, 0, 32, .wo, 0x0, .any, false⟩
def CMD_RSTAT_BUSY : RegField := ⟨0x100000068, 0x100000, 256, 0, 1, 0, 1, .ro, 0x0, .any, false⟩
def CMD_RSTAT_ERR : RegField := ⟨0x100000068, 0x100000, 256, 0, 1, 1, 1, .ro, 0x0, .any, false⟩
def CMD_RSTAT_CAUSE : RegField := ⟨0x100000068, 0x100000, 256, 0, 1, 2, 2, .ro, 0x0, .any, false⟩
def CMD_RSTAT_INFLIGHT : RegField := ⟨0x100000068, 0x100000, 256, 0, 1, 4, 5, .ro, 0x0, .any, false⟩
def CMD_CI_INDEX : RegField := ⟨0x100000070, 0x100000, 256, 0, 1, 0, 32, .ro, 0x0, .any, false⟩
def RPL_PI_INDEX : RegField := ⟨0x100000078, 0x100000, 256, 0, 1, 0, 32, .ro, 0x0, .any, false⟩
def CMD_ARM_ARM : RegField := ⟨0x100000080, 0x100000, 256, 0, 1, 0, 1, .wo, 0x0, .any, false⟩

/-! Table 16.12 (CMD), R597 -/

def CMD_CFG_SMB_ADDR : RegField := ⟨0x600000, 0x0, 1, 0, 1, 0, 7, .rw, 0x0, .any, false⟩
def CMD_CFG_SMB_EN : RegField := ⟨0x600000, 0x0, 1, 0, 1, 7, 1, .rw, 0x1, .any, false⟩
def CMD_CFG_REMOTE_EN : RegField := ⟨0x600000, 0x0, 1, 0, 1, 8, 1, .rw, 0x0, .any, false⟩
def CMD_CFG_SMB_POLICY : RegField := ⟨0x600000, 0x0, 1, 0, 1, 9, 1, .ro, 0x0, .any, false⟩
def CMD_CFG_EXPERT_POLICY : RegField := ⟨0x600000, 0x0, 1, 0, 1, 10, 8, .ro, 0x0, .any, false⟩
def CMD_EXPERT_EXPERT_EN : RegField := ⟨0x600008, 0x0, 1, 0, 1, 0, 4, .ro, 0x0, .any, false⟩
def CMD_EXPERT_SMB_EXPERT : RegField := ⟨0x600008, 0x0, 1, 0, 1, 4, 1, .ro, 0x0, .any, false⟩
def CMD_EXPERT_FAILS : RegField := ⟨0x600008, 0x0, 1, 0, 1, 5, 8, .ro, 0x0, .any, false⟩
def CMD_EXPERT_LOCKOUT : RegField := ⟨0x600008, 0x0, 1, 0, 1, 13, 1, .ro, 0x0, .any, false⟩
def CMD_STAT_SMB_OUT : RegField := ⟨0x600010, 0x0, 1, 0, 1, 0, 4, .ro, 0x0, .any, false⟩
def CMD_STAT_MCTP_EID : RegField := ⟨0x600010, 0x0, 1, 0, 1, 8, 8, .ro, 0x0, .any, false⟩
def CMD_STAT_LIVE_ACT : RegField := ⟨0x600010, 0x0, 1, 0, 1, 16, 1, .ro, 0x0, .any, false⟩

/-! Table 17.11 (PWR), R639 -/

def PWR_MODE_TARGET : RegField := ⟨0x100000, 0x0, 1, 0, 1, 0, 2, .rw, 0x0, .range 0 2, false⟩
def PWR_MODE_AUTO_QUIET : RegField := ⟨0x100000, 0x0, 1, 0, 1, 2, 1, .rw, 0x1, .any, false⟩
def PWR_MODE_QUIET_IDLE : RegField := ⟨0x100000, 0x0, 1, 0, 1, 16, 12, .rw, 0x14, .range 1 4095, false⟩
def PWR_STATUS_STATE : RegField := ⟨0x100008, 0x0, 1, 0, 1, 0, 3, .ro, 0x0, .any, false⟩
def PWR_STATUS_COMMITTED : RegField := ⟨0x100008, 0x0, 1, 0, 1, 3, 1, .ro, 0x0, .any, false⟩
def PWR_STATUS_REFUSE : RegField := ⟨0x100008, 0x0, 1, 0, 1, 4, 4, .ro, 0x0, .any, false⟩
def PWR_STATUS_SLOW_EXIT : RegField := ⟨0x100008, 0x0, 1, 0, 1, 8, 1, .rw1c, 0x0, .any, false⟩
def PWR_STATUS_ENTRY_WAKE : RegField := ⟨0x100008, 0x0, 1, 0, 1, 9, 1, .rw1c, 0x0, .any, false⟩
def PWR_WAKE_EN_SOURCES : RegField := ⟨0x100010, 0x0, 1, 0, 1, 0, 32, .rw, 0xFFF, .any, true⟩
def PWR_WAKE_PEND_PEND : RegField := ⟨0x100018, 0x0, 1, 0, 1, 0, 32, .rw1c, 0x0, .any, true⟩
def PWR_LAST_WAKE0_WORD0 : RegField := ⟨0x100020, 0x0, 1, 0, 1, 0, 64, .ro, 0x0, .any, true⟩
def PWR_LAST_WAKE1_WORD1 : RegField := ⟨0x100028, 0x0, 1, 0, 1, 0, 64, .ro, 0x0, .any, true⟩
def PWR_ALARM_COUNT : RegField := ⟨0x100030, 0x0, 1, 0, 1, 0, 48, .rw, 0x0, .any, true⟩
def PWR_ALARM_EN : RegField := ⟨0x100030, 0x0, 1, 0, 1, 48, 1, .rw, 0x0, .any, true⟩
def PWR_AON_COUNT : RegField := ⟨0x100038, 0x0, 1, 0, 1, 0, 48, .ro, 0x0, .any, true⟩
def PWR_AON_BACKUP : RegField := ⟨0x100038, 0x0, 1, 0, 1, 48, 1, .ro, 0x0, .any, true⟩
def PWR_AON_CLK_LOST : RegField := ⟨0x100038, 0x0, 1, 0, 1, 49, 1, .rw1c, 0x0, .any, true⟩
def PWR_SUPPLY_A_OK : RegField := ⟨0x100040, 0x0, 1, 0, 1, 0, 1, .ro, 0x1, .any, true⟩
def PWR_SUPPLY_B_OK : RegField := ⟨0x100040, 0x0, 1, 0, 1, 1, 1, .ro, 0x1, .any, true⟩
def PWR_SUPPLY_ISOL_A : RegField := ⟨0x100040, 0x0, 1, 0, 1, 2, 1, .ro, 0x0, .any, true⟩
def PWR_SUPPLY_ISOL_B : RegField := ⟨0x100040, 0x0, 1, 0, 1, 3, 1, .ro, 0x0, .any, true⟩
def PWR_SUPPLY_VAUX_A : RegField := ⟨0x100040, 0x0, 1, 0, 1, 4, 1, .ro, 0x1, .any, true⟩
def PWR_SUPPLY_VAUX_B : RegField := ⟨0x100040, 0x0, 1, 0, 1, 5, 1, .ro, 0x1, .any, true⟩
def PWR_SUPPLY_VRHOT : RegField := ⟨0x100040, 0x0, 1, 0, 1, 6, 1, .ro, 0x0, .any, true⟩
def PWR_SUPPLY_MODE : RegField := ⟨0x100040, 0x0, 1, 0, 1, 8, 2, .ro, 0x0, .any, true⟩
def PWR_SUPPLY_A_FAIL : RegField := ⟨0x100040, 0x0, 1, 0, 1, 16, 1, .rw1c, 0x0, .any, true⟩
def PWR_SUPPLY_B_FAIL : RegField := ⟨0x100040, 0x0, 1, 0, 1, 17, 1, .rw1c, 0x0, .any, true⟩
def PWR_SUPPLY_VAUX_A_LOST : RegField := ⟨0x100040, 0x0, 1, 0, 1, 18, 1, .rw1c, 0x0, .any, true⟩
def PWR_SUPPLY_VAUX_B_LOST : RegField := ⟨0x100040, 0x0, 1, 0, 1, 19, 1, .rw1c, 0x0, .any, true⟩
def PWR_SUPPLY_VAUX_BOTH_LOST : RegField := ⟨0x100040, 0x0, 1, 0, 1, 20, 1, .rw1c, 0x0, .any, true⟩
def PWR_SUPPLY_VRHOT_SEEN : RegField := ⟨0x100040, 0x0, 1, 0, 1, 21, 1, .rw1c, 0x0, .any, true⟩
def PWR_SUPPLY_RESHARED : RegField := ⟨0x100040, 0x0, 1, 0, 1, 22, 1, .rw1c, 0x0, .any, true⟩
def PWR_SUPPLY_CFG_AUTO_RESHARE : RegField := ⟨0x100048, 0x0, 1, 0, 1, 0, 1, .rw, 0x1, .any, true⟩
def PWR_SUPPLY_CFG_RESHARE_HOLD : RegField := ⟨0x100048, 0x0, 1, 0, 1, 8, 10, .rw, 0x64, .range 1 1000, true⟩
def RST_CAUSE_CAUSE : RegField := ⟨0x100080, 0x0, 1, 0, 1, 0, 4, .ro, 0x0, .any, true⟩
def RST_CAUSE_DETAIL : RegField := ⟨0x100080, 0x0, 1, 0, 1, 4, 4, .ro, 0x0, .any, true⟩
def RST_CAUSE_FULL_RESETS : RegField := ⟨0x100080, 0x0, 1, 0, 1, 16, 16, .ro, 0x0, .any, true⟩
def RST_CTRL_FULL : RegField := ⟨0x100088, 0x0, 1, 0, 1, 0, 1, .wo, 0x0, .any, false⟩
def RST_STRAP_BOOT_SEL : RegField := ⟨0x100090, 0x0, 1, 0, 1, 0, 2, .ro, 0x0, .any, false⟩
def RST_STRAP_PAIR_SIDE : RegField := ⟨0x100090, 0x0, 1, 0, 1, 2, 1, .ro, 0x0, .any, false⟩
def RST_STRAP_TEST_MODE : RegField := ⟨0x100090, 0x0, 1, 0, 1, 3, 1, .ro, 0x0, .any, false⟩
def RST_START_STARTUP_MS : RegField := ⟨0x100098, 0x0, 1, 0, 1, 0, 16, .ro, 0x0, .any, false⟩

/-! Table 18.6 (FLT), R658 -/

def FLT_STAT_STAT : RegField := ⟨0x0, 0x1, 536870912, 0, 1, 0, 16, .rw1c, 0x0, .any, false⟩
def FLT_LIVE_LIVE : RegField := ⟨0x8, 0x1, 536870912, 0, 1, 0, 16, .ro, 0x0, .any, false⟩
def FLT_FORCE_RAISE : RegField := ⟨0x10, 0x1, 536870912, 0, 1, 0, 16, .wo, 0x0, .any, false⟩
def FLT_FORCE_HOLD : RegField := ⟨0x10, 0x1, 536870912, 0, 1, 16, 16, .rw, 0x0, .any, false⟩
def FLT_GRACE_GRACE : RegField := ⟨0x20, 0x1, 536870912, 0, 1, 0, 40, .rw, 0x9896800, .range 16000 160000000000, false⟩
def FLT_GRACE_RUNNING : RegField := ⟨0x20, 0x1, 536870912, 0, 1, 40, 1, .ro, 0x0, .any, false⟩
def FLT_FIRST_SOURCE : RegField := ⟨0x28, 0x1, 536870912, 0, 1, 0, 4, .ro, 0x0, .any, false⟩
def FLT_FIRST_FORCED : RegField := ⟨0x28, 0x1, 536870912, 0, 1, 4, 1, .ro, 0x0, .any, false⟩
def FLT_FIRST_GRACED : RegField := ⟨0x28, 0x1, 536870912, 0, 1, 5, 1, .ro, 0x0, .any, false⟩
def FLT_FIRST_PHASE : RegField := ⟨0x28, 0x1, 536870912, 0, 1, 6, 2, .ro, 0x0, .any, false⟩
def FLT_FIRST_DETAIL : RegField := ⟨0x28, 0x1, 536870912, 0, 1, 8, 40, .ro, 0x0, .any, false⟩
def FLT_FIRST_VALID : RegField := ⟨0x28, 0x1, 536870912, 0, 1, 63, 1, .rw1c, 0x0, .any, false⟩
def FLT_FIRST_GT_GT : RegField := ⟨0x30, 0x1, 536870912, 0, 1, 0, 64, .ro, 0x0, .any, false⟩
def FLT_COUNT_COUNT : RegField := ⟨0x38, 0x1, 536870912, 0, 1, 0, 16, .rw, 0x0, .any, false⟩
def FLT_VECTOR_VEC : RegField := ⟨0x40, 0x1, 536870912, 0, 1, 0, 11, .rw, 0x0, .any, false⟩
def FLT_VECTOR_HPORT : RegField := ⟨0x40, 0x1, 536870912, 0, 1, 11, 2, .rw, 0x0, .any, false⟩
def FLT_VECTOR_EN : RegField := ⟨0x40, 0x1, 536870912, 0, 1, 13, 1, .rw, 0x0, .any, false⟩

/-! Table 18.7 (PIN), R659 -/

def PIN_PHASE_PHASE : RegField := ⟨0x200000, 0x0, 1, 0, 1, 0, 2, .rw, 0x0, .range 0 3, false⟩
def PIN_PHASE_LOOP_MAX : RegField := ⟨0x200000, 0x0, 1, 0, 1, 4, 4, .rw, 0x3, .range 2 15, true⟩
def PIN_FUM_STOP : RegField := ⟨0x200008, 0x0, 1, 0, 1, 0, 1, .rw, 0x0, .any, false⟩
def PIN_FUM_ALIVE : RegField := ⟨0x200008, 0x0, 1, 0, 1, 1, 1, .ro, 0x0, .any, false⟩
def PIN_FUM_LEVEL : RegField := ⟨0x200008, 0x0, 1, 0, 1, 2, 1, .ro, 0x1, .any, false⟩
def PIN_ERR_LATCHED : RegField := ⟨0x200010, 0x0, 1, 0, 1, 0, 1, .rw1c, 0x0, .any, true⟩
def PIN_ERR_ANY : RegField := ⟨0x200010, 0x0, 1, 0, 1, 1, 1, .ro, 0x0, .any, false⟩
def PIN_ERR_SENSE : RegField := ⟨0x200010, 0x0, 1, 0, 1, 2, 1, .ro, 0x0, .any, false⟩
def PIN_ERR_FORCE : RegField := ⟨0x200010, 0x0, 1, 0, 1, 3, 1, .rw, 0x0, .any, false⟩
def PIN_RSTF0_PAGE : RegField := ⟨0x200018, 0x0, 1, 0, 1, 0, 29, .ro, 0x0, .any, true⟩
def PIN_RSTF0_SOURCE : RegField := ⟨0x200018, 0x0, 1, 0, 1, 32, 4, .ro, 0x0, .any, true⟩
def PIN_RSTF0_LOOPS : RegField := ⟨0x200018, 0x0, 1, 0, 1, 40, 8, .ro, 0x0, .any, true⟩
def PIN_RSTF1_AON : RegField := ⟨0x200020, 0x0, 1, 0, 1, 0, 48, .ro, 0x0, .any, true⟩

/-! Table 19.6 (CNT), R677 -/

def CNT_CTRL_RUN : RegField := ⟨0x400000, 0x0, 1, 0, 1, 0, 1, .ro, 0x0, .any, false⟩
def CNT_WINDOW_WINDOW_US : RegField := ⟨0x400008, 0x0, 1, 0, 1, 0, 33, .rw, 0x3E8, .range 0 4294967296, false⟩
def CNT_START_START_GT : RegField := ⟨0x400010, 0x0, 1, 0, 1, 0, 64, .rw, 0x0, .any, false⟩
def CNT_SEQ_SEQ : RegField := ⟨0x400018, 0x0, 1, 0, 1, 0, 64, .ro, 0x0, .any, false⟩
def CNT_RING_BASE : RegField := ⟨0x400020, 0x0, 1, 0, 1, 0, 40, .ro, 0x0, .any, false⟩
def CNT_RING_SLOTS : RegField := ⟨0x400020, 0x0, 1, 0, 1, 40, 10, .ro, 0x200, .any, false⟩

/-! Table 20.11 (FWU), R711 -/

def FWU_STATUS_ACTIVE_IMG : RegField := ⟨0x500000, 0x0, 1, 0, 1, 0, 1, .ro, 0x0, .any, false⟩
def FWU_STATUS_RUN_IMG : RegField := ⟨0x500000, 0x0, 1, 0, 1, 1, 1, .ro, 0x0, .any, false⟩
def FWU_STATUS_TRIAL_IMG : RegField := ⟨0x500000, 0x0, 1, 0, 1, 2, 1, .ro, 0x0, .any, false⟩
def FWU_STATUS_TRIAL_CFG : RegField := ⟨0x500000, 0x0, 1, 0, 1, 3, 1, .ro, 0x0, .any, false⟩
def FWU_STATUS_TRIAL_BOOTED : RegField := ⟨0x500000, 0x0, 1, 0, 1, 4, 1, .ro, 0x0, .any, false⟩
def FWU_STATUS_TRIAL_BOOTS : RegField := ⟨0x500000, 0x0, 1, 0, 1, 5, 2, .ro, 0x0, .any, false⟩
def FWU_STATUS_ACTIVE_CFG : RegField := ⟨0x500000, 0x0, 1, 0, 1, 7, 1, .ro, 0x0, .any, false⟩
def FWU_STATUS_RUN_CFG : RegField := ⟨0x500000, 0x0, 1, 0, 1, 8, 1, .ro, 0x0, .any, false⟩
def FWU_STATUS_DEFAULT_CFG : RegField := ⟨0x500000, 0x0, 1, 0, 1, 9, 1, .ro, 0x0, .any, false⟩
def FWU_STATUS_FALLBACK : RegField := ⟨0x500000, 0x0, 1, 0, 1, 10, 1, .rw1c, 0x0, .any, false⟩
def FWU_STATUS_LIVE : RegField := ⟨0x500000, 0x0, 1, 0, 1, 11, 1, .ro, 0x0, .any, false⟩
def FWU_STATUS_FLOOR_PENDING : RegField := ⟨0x500000, 0x0, 1, 0, 1, 12, 1, .ro, 0x0, .any, false⟩
def FWU_RELEASE_RUN : RegField := ⟨0x500008, 0x0, 1, 0, 1, 0, 32, .ro, 0x0, .any, false⟩
def FWU_RELEASE_OTHER : RegField := ⟨0x500008, 0x0, 1, 0, 1, 32, 32, .ro, 0x0, .any, false⟩
def FWU_FORMAT_CMDSET_MIN : RegField := ⟨0x500010, 0x0, 1, 0, 1, 0, 8, .ro, 0x0, .any, false⟩
def FWU_FORMAT_CMDSET_MAJ : RegField := ⟨0x500010, 0x0, 1, 0, 1, 8, 8, .ro, 0x0, .any, false⟩
def FWU_FORMAT_SCHED_FMT : RegField := ⟨0x500010, 0x0, 1, 0, 1, 16, 8, .ro, 0x0, .any, false⟩
def FWU_FORMAT_CFG_FMT : RegField := ⟨0x500010, 0x0, 1, 0, 1, 24, 8, .ro, 0x0, .any, false⟩
def FWU_FORMAT_CFG_FMT_MIN : RegField := ⟨0x500010, 0x0, 1, 0, 1, 32, 8, .ro, 0x0, .any, false⟩
def FWU_FORMAT_CFG_FMT_MAX : RegField := ⟨0x500010, 0x0, 1, 0, 1, 40, 8, .ro, 0x0, .any, false⟩
def FWU_CONFIRM_TMO : RegField := ⟨0x500018, 0x0, 1, 0, 1, 0, 11, .rw, 0x0, .range 1 1440, false⟩
def FWU_CONFIRM_REMAIN : RegField := ⟨0x500018, 0x0, 1, 0, 1, 16, 17, .ro, 0x0, .any, false⟩
def FWU_STAGE_LEN : RegField := ⟨0x500020, 0x0, 1, 0, 1, 0, 27, .ro, 0x0, .any, false⟩
def FWU_ERR_CODE : RegField := ⟨0x500028, 0x0, 1, 0, 1, 0, 8, .ro, 0x0, .any, false⟩
def FWU_ERR_COMP : RegField := ⟨0x500028, 0x0, 1, 0, 1, 8, 4, .ro, 0x0, .any, false⟩
def SEC_SVN_FLOOR : RegField := ⟨0x500100, 0x8, 16, 0, 1, 0, 16, .ro, 0x0, .any, false⟩
def SEC_SVN_MRAM_FLOOR : RegField := ⟨0x500100, 0x8, 16, 0, 1, 16, 16, .ro, 0x0, .any, false⟩
def SEC_SVN_COARSE : RegField := ⟨0x500100, 0x8, 16, 0, 1, 32, 8, .ro, 0x0, .any, false⟩
def SEC_SVN_RUN_SVN : RegField := ⟨0x500100, 0x8, 16, 0, 1, 40, 16, .ro, 0x0, .any, false⟩
def SEC_VKH_HASH : RegField := ⟨0x500200, 0x8, 8, 0, 1, 0, 64, .ro, 0x0, .any, false⟩
def SEC_OKH_HASH : RegField := ⟨0x500240, 0x8, 8, 0, 1, 0, 64, .ro, 0x0, .any, false⟩
def SEC_SERIAL_SERIAL : RegField := ⟨0x500280, 0x0, 1, 0, 1, 0, 64, .ro, 0x0, .any, false⟩
def SEC_JRN_HEAD : RegField := ⟨0x500300, 0x0, 1, 0, 1, 0, 14, .ro, 0x0, .any, false⟩
def SEC_JRN_DROP : RegField := ⟨0x500300, 0x0, 1, 0, 1, 16, 32, .ro, 0x0, .any, false⟩
def SEC_JRN_SEL_INDEX : RegField := ⟨0x500308, 0x0, 1, 0, 1, 0, 14, .rw, 0x0, .any, false⟩
def SEC_JRN_DATA_WORD : RegField := ⟨0x500340, 0x8, 8, 0, 1, 0, 64, .ro, 0x0, .any, false⟩

/-! Table 21.7 (PIN), R733 -/

def PIN_THERM_TEMP : RegField := ⟨0x200028, 0x0, 1, 0, 1, 0, 11, .ro, 0x0, .any, false⟩
def PIN_THERM_THROTTLE : RegField := ⟨0x200028, 0x0, 1, 0, 1, 11, 1, .ro, 0x0, .any, false⟩
def PIN_THERM_THR_ON : RegField := ⟨0x200028, 0x0, 1, 0, 1, 12, 7, .rw, 0x64, .range 85 100, false⟩
def PIN_THERM_PEAK : RegField := ⟨0x200028, 0x0, 1, 0, 1, 19, 11, .ro, 0x0, .any, false⟩
def PIN_PPS_EN : RegField := ⟨0x200030, 0x0, 1, 0, 1, 0, 1, .rw, 0x0, .any, false⟩
def PIN_PPS_SRC : RegField := ⟨0x200030, 0x0, 1, 0, 1, 1, 1, .rw, 0x0, .any, false⟩

/-! Table 22.4 (CHIP), R742 -/

def CHIP_ID_PART : RegField := ⟨0x0, 0x0, 1, 0, 1, 0, 16, .ro, 0x9680, .any, false⟩
def CHIP_ID_STEPPING : RegField := ⟨0x0, 0x0, 1, 0, 1, 16, 5, .ro, 0x2, .any, false⟩
def CHIP_VER_FW_RELEASE : RegField := ⟨0x8, 0x0, 1, 0, 1, 0, 32, .ro, 0x0, .any, false⟩
def CHIP_VER_CMDSET_MIN : RegField := ⟨0x8, 0x0, 1, 0, 1, 32, 8, .ro, 0x0, .any, false⟩
def CHIP_VER_CMDSET_MAJ : RegField := ⟨0x8, 0x0, 1, 0, 1, 40, 8, .ro, 0x0, .any, false⟩
def CHIP_VER_SCHED_FMT : RegField := ⟨0x8, 0x0, 1, 0, 1, 48, 8, .ro, 0x0, .any, false⟩
def CHIP_VER_CFG_FMT : RegField := ⟨0x8, 0x0, 1, 0, 1, 56, 8, .ro, 0x0, .any, false⟩
def CHIP_CORE_STATE : RegField := ⟨0x10, 0x0, 1, 0, 1, 0, 8, .ro, 0x0, .any, false⟩
def CHIP_WDOG_REMAIN : RegField := ⟨0x18, 0x0, 1, 0, 1, 0, 12, .ro, 0x7D0, .any, false⟩
def CHIP_SCRATCH_VALUE : RegField := ⟨0x20, 0x0, 1, 0, 1, 0, 64, .rw, 0x0, .any, false⟩

/-! Table 22.5 (HBM), R743 -/

def HBM_STATUS_TRAINED : RegField := ⟨0xD000000, 0x0, 1, 0, 1, 0, 1, .ro, 0x0, .any, false⟩
def HBM_STATUS_SELF_REFRESH : RegField := ⟨0xD000000, 0x0, 1, 0, 1, 1, 1, .ro, 0x0, .any, false⟩
def HBM_STATUS_REFRESH_2X : RegField := ⟨0xD000000, 0x0, 1, 0, 1, 2, 1, .ro, 0x0, .any, false⟩
def HBM_STATUS_TEMP : RegField := ⟨0xD000000, 0x0, 1, 0, 1, 3, 8, .ro, 0x0, .any, false⟩
def HBM_SCRUB_PASS_GT : RegField := ⟨0xD000008, 0x0, 1, 0, 1, 0, 64, .ro, 0x0, .any, false⟩
def HBM_UE_ADDR_OFFSET : RegField := ⟨0xD000010, 0x0, 1, 0, 1, 0, 36, .ro, 0x0, .any, false⟩
def HBM_REGION_BASE_OFFSET : RegField := ⟨0xD000100, 0x10, 16, 0, 1, 0, 40, .ro, 0x0, .any, false⟩
def HBM_REGION_SIZE_SIZE : RegField := ⟨0xD000108, 0x10, 16, 0, 1, 0, 40, .ro, 0x0, .any, false⟩

def fieldsLANE0 : List RegField :=
  [LANE_STATUS_SIGDET, LANE_STATUS_CDR_LOCK, LANE_STATUS_COMMA_LOCK, LANE_STATUS_RX_INV,
   LANE_STATUS_CIDX, LANE_TXEQ_PRE, LANE_TXEQ_MAIN, LANE_TXEQ_POST,
   LANE_TXEQ_OVR, LANE_RXEQ_CTLE, LANE_RXEQ_DFE, LANE_RXEQ_SNR,
   LANE_FFE_TAP]
/-- The fields of the LANE block. -/
def fieldsLANE : List RegField := fieldsLANE0

def fieldsPORT0 : List RegField :=
  [PORT_CTRL_EN, PORT_CTRL_START_PRESET, PORT_CTRL_RETRAIN, PORT_CTRL_PRBS_TEST,
   PORT_STATUS_STATE, PORT_STATUS_SWAP, PORT_STATUS_TRAIN_FAIL, PORT_STATUS_SLOW_EXIT,
   PORT_STATUS_SKEW, PORT_STATUS_TRAINS, PORT_PEER_ID_PEER_PID, PORT_PEER_ID_PEER_PORT,
   PORT_PEER_ID_PEER_PAIRED, PORT_PEER_ID_PEER_CARR, PORT_PEER_ID_VALID, PORT_TS_TX_FRAC,
   PORT_TS_RX_FRAC, PORT_TS_TX_GT, PORT_TS_RX_GT, PORT_DLY_DLY,
   PORT_DLY_VALID, PORT_DLY_DLY_JUMP, PORT_DLY_CAL_TX_CAL, PORT_DLY_CAL_RX_CAL,
   PORT_DLY_CAL_ASYM, PORT_TS_IDX_TX_IDX, PORT_TS_IDX_RX_IDX]
/-- The fields of the PORT block. -/
def fieldsPORT : List RegField := fieldsPORT0

def fieldsLINK0 : List RegField :=
  [LINK_CTRL_RETIRE, LINK_CTRL_FRESH_RETRAIN, LINK_CTRL_LP_EN, LINK_STATUS_STATE,
   LINK_STATUS_RXMODE, LINK_STATUS_PEER_XOFF, LINK_STATUS_LOCAL_XOFF, LINK_STATUS_STALL,
   LINK_SEQ_TX_NEXT, LINK_SEQ_TX_OLDEST, LINK_SEQ_RX_EXPECTED, LINK_SLOTS_FREE_SLOTS,
   LINK_SLOTS_RETIRED, LINK_TMR_REPLAY_TMR, LINK_TMR_XOFF_WDOG, LINK_FC_SKID_REQ,
   LINK_FC_LINK_RTT, LINK_FC_POOL_FREE]
/-- The fields of the LINK block. -/
def fieldsLINK : List RegField := fieldsLINK0

def fieldsGEYS0 : List RegField :=
  [GEYS_GT_GT, GEYS_STATUS_STATE, GEYS_STATUS_GM, GEYS_STATUS_PARENT,
   GEYS_STATUS_DIST, GEYS_STATUS_STEP_CNT, GEYS_STATUS_STEPPED, GEYS_STATUS_LOCK_LOST,
   GEYS_STATUS_GM_CHANGE, GEYS_STATUS_PPS_LOST, GEYS_STATUS_PPS_FAR, GEYS_STATUS_GM_CLASS,
   GEYS_UNC_UNC, GEYS_OFS_OFS, GEYS_TRIM_TRIM, GEYS_TRIM_OVR,
   GEYS_CFG_GM_PRIO, GEYS_CFG_GM_EN, GEYS_CFG_KP_SH, GEYS_CFG_KI_SH,
   GEYS_CFG_PPS_EN, GEYS_CFG_REF10M_EN, GEYS_CFG_PPS_FALL, GEYS_LIM_SCHED_UNC_MAX,
   GEYS_LIM_HOP_UNC, GEYS_LIM_STEP_THR, GEYS_LIM_HOLD_PPB, GEYS_UNC_INV_UNC_INVALID,
   GEYS_TAI_TAI_SEC, GEYS_TAI_TAI_VALID]
def fieldsGEYS1 : List RegField :=
  [GEYS_TAI_NS_TAI_NS, GEYS_TAI_NS_UTC_OFS, GEYS_PPS_TS_PPS_GT, GEYS_PPS_ERR_E,
   GEYS_SLP_GT_SAVED_GT, GEYS_SLP_AON_ELAPSED, GEYS_SLP_INFO_BACKUP_AT, GEYS_SLP_INFO_BACKUP_USED,
   GEYS_SLP_INFO_VAUX_LOST, GEYS_SLP_INFO_RATE_LEARNED, GEYS_AON_RATE_PERIOD, GEYS_STEP_AMOUNT]
/-- The fields of the GEYS block. -/
def fieldsGEYS : List RegField := fieldsGEYS0 ++ fieldsGEYS1

def fieldsROUT0 : List RegField :=
  [ROUT_TOPO_TOPO, ROUT_TOPO_PEND_TOPO, ROUT_CTRL_MODE, ROUT_CTRL_TRANSIT_OFF,
   ROUT_CTRL_DRAINED, ROUT_CTRL_ADOPTED, ROUT_BANK_ACTIVE, ROUT_BANK_ARMED,
   ROUT_BANK_HOLDING, ROUT_BANK_ARMED_BANK, ROUT_BANK_LAST_ID, ROUT_BANK_LATE,
   ROUT_BANK_MISMATCH, ROUT_BANK_MISSED, ROUT_BANK_REFUSED, ROUT_FLIP_GT_TARGET,
   ROUT_FLIP_CTRL_ARM, ROUT_FLIP_CTRL_ID, ROUT_FLIP_CTRL_NEW_MODE, ROUT_FLIP_CTRL_HOPBUD,
   ROUT_HOLD_HOLD, ROUT_COST_MARK_THR, ROUT_COST_DET_THR, ROUT_COST_DET_BIAS,
   ROUT_THR_AI_STEP, ROUT_THR_MD_SHIFT, ROUT_THR_RATE_MIN, ROUT_THR_AI_PKTS,
   ROUT_THR_LQ_THR, ROUT_THR_MARK_EVERY]
def fieldsROUT1 : List RegField :=
  [ROUT_THR_THR_EN, ROUT_EP_RATE0_RATE, ROUT_EP_RATE1_RATE, ROUT_CRC_CRC0,
   ROUT_CRC_CRC1, ROUT_EXCL0_LO_EXCL, ROUT_EXCL0_HI_EXCL, ROUT_EXCL1_LO_EXCL,
   ROUT_EXCL1_HI_EXCL, ROUT_USABLE_LO_USABLE, ROUT_USABLE_HI_USABLE]
/-- The fields of the ROUT block. -/
def fieldsROUT : List RegField := fieldsROUT0 ++ fieldsROUT1

def fieldsSCHD0 : List RegField :=
  [SCHD_CTRL_STATE, SCHD_CTRL_RUN_BUF, SCHD_CTRL_VALID_A, SCHD_CTRL_VALID_B,
   SCHD_CTRL_GO, SCHD_CTRL_GO_BUF, SCHD_CTRL_ABORT, SCHD_CTRL_CLEAR,
   SCHD_START_GT_START_GT, SCHD_STOP_STOP_ITER, SCHD_STOP_STOP_EN, SCHD_POS_ITER,
   SCHD_POS_SLOT, SCHD_IMG_IMAGE_ID, SCHD_IMG_CYCLE, SCHD_IMG_SLOT_LEN,
   SCHD_HQ_HQ, SCHD_HQ_FETCH_LEAD, SCHD_HQ_LSTEP_LEAD_IMG, SCHD_HASH_MACH_HASH,
   SCHD_CFG_FIT_GUARD, SCHD_CFG_CUT_HORIZON, SCHD_CFG_LATE_TOL, SCHD_CFG_ABORT_THR,
   SCHD_CFG_PREWARM_EN, SCHD_CFG_LSTEP_EN, SCHD_CFG_LSTEP_LEAD, SCHD_EVENT_LOAD_FAIL,
   SCHD_EVENT_BREACH, SCHD_EVENT_ABORT_RX]
def fieldsSCHD1 : List RegField :=
  [SCHD_EVENT_ABORT_LOCAL, SCHD_EVENT_PREFETCH_MISS, SCHD_EVENT_LATE, SCHD_EVENT_SKIP,
   SCHD_EVENT_DEMOTED, SCHD_EVENT_COLL_DROP, SCHD_EVENT_PATH_FAIL, SCHD_EVENT_PREWARM_SKIP,
   SCHD_EVENT_PREWARM_ACTIVE, SCHD_EVENT_LSTEP_ACTIVE, SCHD_FIRST_GT_GT, SCHD_FIRST_INFO_KIND,
   SCHD_FIRST_INFO_PORT, SCHD_FIRST_INFO_SLOT, SCHD_FIRST_INFO_DPID, SCHD_ABORT_INFO_ORIGIN,
   SCHD_ABORT_INFO_REASON, SCHD_ABORT_INFO_IMAGE_ID, SCHD_LOAD_ERR_CODE, SCHD_LOAD_ERR_OFFSET,
   SCHD_LOAD_ERR_BUF, SCHD_BREACH_CNT_COUNT]
/-- The fields of the SCHD block. -/
def fieldsSCHD : List RegField := fieldsSCHD0 ++ fieldsSCHD1

def fieldsFUNC0 : List RegField :=
  [FUNC_CTRL_EN, FUNC_STATUS_STATE, FUNC_STATUS_PEND, FUNC_STATUS_ENABLE_DISCARDED,
   FUNC_STATUS_DMA_ERR, FUNC_STATUS_NQP, FUNC_INFO_FUNC, FUNC_INFO_HPORT,
   FUNC_INFO_MAX_VEC, FUNC_INFO_MAX_QP]
/-- The fields of the FUNC block. -/
def fieldsFUNC : List RegField := fieldsFUNC0

def fieldsHIF0 : List RegField :=
  [HIF_PORT_CFG_CXL_EN, HIF_PORT_LINK_UP, HIF_PORT_LINK_CXL, HIF_PORT_LINK_FLIT,
   HIF_PORT_LINK_RATE, HIF_PORT_LINK_WIDTH, HIF_PORT_LINK_SNOOPED]
/-- The fields of the HIF block. -/
def fieldsHIF : List RegField := fieldsHIF0

def fieldsQUE0 : List RegField :=
  [QUE_CFG_POLL_RATE, QUE_HELD_USED, QUE_QP_SEL_QIDX, QUE_QP_VIEW_HPORT,
   QUE_QP_VIEW_FUNC, QUE_QP_VIEW_SLOT, QUE_QP_VIEW_DB_MODE, QUE_QP_VIEW_VALID,
   QUE_QP_IDX_SQ_OBS, QUE_QP_IDX_SQ_FETCH]
/-- The fields of the QUE block. -/
def fieldsQUE : List RegField := fieldsQUE0

def fieldsXLT0 : List RegField :=
  [XLT_AGE_MAX_AGE, XLT_PARK_PARK_TIME, XLT_PARK_USED, XLT_CTX_SEL_CTX,
   XLT_CTX_VIEW_VALID, XLT_CTX_VIEW_LEVELS, XLT_CTX_VIEW_PRIV, XLT_CTX_VIEW_AM_EN,
   XLT_CTX_VIEW_SUP_DATA_U, XLT_CTX_VIEW_PARK_EN, XLT_CTX_VIEW_HPORT, XLT_CTX_VIEW_FUNC,
   XLT_CTX_VIEW_PASID, XLT_CTX_ROOT_ROOT, XLT_INV_CTRL_GO, XLT_INV_CTRL_SCOPE,
   XLT_INV_CTRL_WC, XLT_INV_CTRL_CTX, XLT_INV_VA_VA, XLT_INV_CNT_PAGES,
   XLT_INV_STAT_BUSY, XLT_INV_STAT_DONE, XLT_WR_BASE_EN, XLT_WR_BASE_BASE,
   XLT_WR_LIMIT_LIMIT, XLT_RFLT_CTX, XLT_RFLT_KIND, XLT_RFLT_ACC,
   XLT_RFLT_VA_VA]
/-- The fields of the XLT block. -/
def fieldsXLT : List RegField := fieldsXLT0

def fieldsTPT0 : List RegField :=
  [TPT_LIFE_LIFETIME, TPT_LIFE_EFF_EFFECTIVE, TPT_GIVEUP_GIVEUP, TPT_ACK_ACK_EVERY,
   TPT_ACK_RETRY_BUDGET, TPT_TC_SEL_PID, TPT_TC_VIEW_TX_STATE, TPT_TC_VIEW_KNOWN,
   TPT_TC_VIEW_RX_SYNC, TPT_TC_VIEW_CACHED, TPT_TC_VIEW_TX_OUT, TPT_TC_VIEW_RTO_EXP,
   TPT_TC_VIEW_PEER_INC, TPT_TC_SEQ_TX_NEXT, TPT_TC_SEQ_TX_UNA, TPT_TC_RX_RX_EXPECTED,
   TPT_TC_RX_NEXT_OPID, TPT_TC_CTRL_RESET]
/-- The fields of the TPT block. -/
def fieldsTPT : List RegField := fieldsTPT0

def fieldsWIN0 : List RegField :=
  [WIN_CFG_COUNT, WIN_USED_OPEN, WIN_USED_COOLING, WIN_SEL_INDEX,
   WIN_VIEW_WORD, WIN_OPEN_A_ENTRY0, WIN_OPEN_B_ENTRY1, WIN_OPEN_BASE_BASE,
   WIN_OPEN_LEN_LENGTH, WIN_OPEN_GO_GO, WIN_OPEN_RES_KEY, WIN_OPEN_RES_DONE,
   WIN_OPEN_RES_ERR, WIN_REVOKE_KEY, WIN_REV_STAT_BUSY, WIN_REV_STAT_DONE,
   WIN_REV_STAT_STATUS]
/-- The fields of the WIN block. -/
def fieldsWIN : List RegField := fieldsWIN0

def fieldsMAT0 : List RegField :=
  [MAT_CFG_EAGER_LIMIT, MAT_MIRE_RATE_RATE, MAT_MIRE_USE_HDR_USED, MAT_MIRE_USE_BLK_USED,
   MAT_PRQ_USE_USED, MAT_REORDER_USED, MAT_QP_SEL_QIDX, MAT_QP_VIEW_POSTED,
   MAT_QP_VIEW_UNEXP, MAT_QP_VIEW_PRQ_HELD, MAT_QP_VIEW_UNIT, MAT_QP_POST_NEXT_POST]
/-- The fields of the MAT block. -/
def fieldsMAT : List RegField := fieldsMAT0

def fieldsTRG0 : List RegField :=
  [TRG_PEND_USED, TRG_CMP_USED, TRG_CMP_SWEPT, TRG_HOT_HOT,
   TRG_CNT_SEL_INDEX, TRG_CNT_VAL_VALUE, TRG_CNT_META_FAIL, TRG_CNT_META_LAST_STATUS,
   TRG_CNT_META_LATE, TRG_CNT_META_ALLOC, TRG_CNT_META_HPORT, TRG_CNT_META_FUNC,
   TRG_CNT_ADD_AMOUNT, TRG_QP_SEL_QIDX, TRG_QP_CNT_CNT, TRG_QP_CNT_EN]
/-- The fields of the TRG block. -/
def fieldsTRG : List RegField := fieldsTRG0

def fieldsCOLL0 : List RegField :=
  [COLL_STAGE_USED, COLL_GRP_SEL_GID, COLL_GRP_VIEW_VALID, COLL_GRP_VIEW_STALE,
   COLL_GRP_VIEW_DIMMASK, COLL_GRP_VIEW_LOCAL_CNT, COLL_GRP_VIEW_DEPTH, COLL_GRP_VIEW_UNIT,
   COLL_GRP_VIEW_JOB, COLL_GRP_VIEW_OLDEST, COLL_GRP_MASK0_MASK0, COLL_GRP_MASK0_MASK1,
   COLL_GRP_MASK1_MASK2, COLL_GRP_MASK1_MASK3, COLL_GRP_STAGE_BASE, COLL_GRP_STAGE_SIZE,
   COLL_UNIT_ACTIVE, COLL_EVENT_MISMATCH, COLL_EVENT_TIMEOUT, COLL_EVENT_EARLY,
   COLL_EVENT_LATE, COLL_EVENT_STALE]
/-- The fields of the COLL block. -/
def fieldsCOLL : List RegField := fieldsCOLL0

def fieldsPAIR0 : List RegField :=
  [PAIR_CTRL_MODE, PAIR_CTRL_TAKEOVER, PAIR_CFG_MIRROR_TMO, PAIR_STATUS_STATE,
   PAIR_STATUS_CARR_OK, PAIR_STATUS_ALIVE_OK, PAIR_STATUS_TRUSTED, PAIR_STATUS_ROLE,
   PAIR_STATUS_MATE_MODE, PAIR_INC_MATE_INC, PAIR_INC_ADOPT_INC, PAIR_MSEQ_TX_NEXT,
   PAIR_MSEQ_TX_ACKED, PAIR_APPLIED_RX_NEXT, PAIR_MOVE_GT, PAIR_EVENT_TAKEOVER,
   PAIR_EVENT_CARR_LOST, PAIR_EVENT_MATE_DEAD, PAIR_EVENT_ALIVE_PIN, PAIR_EVENT_SOLO,
   PAIR_EVENT_MIRROR_TMO, PAIR_EVENT_SHADOW_DROP, PAIR_EVENT_MOVE_DONE]
/-- The fields of the PAIR block. -/
def fieldsPAIR : List RegField := fieldsPAIR0

def fieldsFCMD0 : List RegField :=
  [CMD_BASE_BASE, RPL_BASE_BASE, CMD_RCFG_CLOG, CMD_RCFG_RLOG,
   CMD_RCFG_EN, CMD_RCFG_VEC, CMD_PI_INDEX, RPL_CI_INDEX,
   CMD_RSTAT_BUSY, CMD_RSTAT_ERR, CMD_RSTAT_CAUSE, CMD_RSTAT_INFLIGHT,
   CMD_CI_INDEX, RPL_PI_INDEX, CMD_ARM_ARM]
/-- The fields of the FCMD block. -/
def fieldsFCMD : List RegField := fieldsFCMD0

def fieldsCMD0 : List RegField :=
  [CMD_CFG_SMB_ADDR, CMD_CFG_SMB_EN, CMD_CFG_REMOTE_EN, CMD_CFG_SMB_POLICY,
   CMD_CFG_EXPERT_POLICY, CMD_EXPERT_EXPERT_EN, CMD_EXPERT_SMB_EXPERT, CMD_EXPERT_FAILS,
   CMD_EXPERT_LOCKOUT, CMD_STAT_SMB_OUT, CMD_STAT_MCTP_EID, CMD_STAT_LIVE_ACT]
/-- The fields of the CMD block. -/
def fieldsCMD : List RegField := fieldsCMD0

def fieldsPWR0 : List RegField :=
  [PWR_MODE_TARGET, PWR_MODE_AUTO_QUIET, PWR_MODE_QUIET_IDLE, PWR_STATUS_STATE,
   PWR_STATUS_COMMITTED, PWR_STATUS_REFUSE, PWR_STATUS_SLOW_EXIT, PWR_STATUS_ENTRY_WAKE,
   PWR_WAKE_EN_SOURCES, PWR_WAKE_PEND_PEND, PWR_LAST_WAKE0_WORD0, PWR_LAST_WAKE1_WORD1,
   PWR_ALARM_COUNT, PWR_ALARM_EN, PWR_AON_COUNT, PWR_AON_BACKUP,
   PWR_AON_CLK_LOST, PWR_SUPPLY_A_OK, PWR_SUPPLY_B_OK, PWR_SUPPLY_ISOL_A,
   PWR_SUPPLY_ISOL_B, PWR_SUPPLY_VAUX_A, PWR_SUPPLY_VAUX_B, PWR_SUPPLY_VRHOT,
   PWR_SUPPLY_MODE, PWR_SUPPLY_A_FAIL, PWR_SUPPLY_B_FAIL, PWR_SUPPLY_VAUX_A_LOST,
   PWR_SUPPLY_VAUX_B_LOST, PWR_SUPPLY_VAUX_BOTH_LOST]
def fieldsPWR1 : List RegField :=
  [PWR_SUPPLY_VRHOT_SEEN, PWR_SUPPLY_RESHARED, PWR_SUPPLY_CFG_AUTO_RESHARE, PWR_SUPPLY_CFG_RESHARE_HOLD,
   RST_CAUSE_CAUSE, RST_CAUSE_DETAIL, RST_CAUSE_FULL_RESETS, RST_CTRL_FULL,
   RST_STRAP_BOOT_SEL, RST_STRAP_PAIR_SIDE, RST_STRAP_TEST_MODE, RST_START_STARTUP_MS]
/-- The fields of the PWR block. -/
def fieldsPWR : List RegField := fieldsPWR0 ++ fieldsPWR1

def fieldsFLT0 : List RegField :=
  [FLT_STAT_STAT, FLT_LIVE_LIVE, FLT_FORCE_RAISE, FLT_FORCE_HOLD,
   FLT_GRACE_GRACE, FLT_GRACE_RUNNING, FLT_FIRST_SOURCE, FLT_FIRST_FORCED,
   FLT_FIRST_GRACED, FLT_FIRST_PHASE, FLT_FIRST_DETAIL, FLT_FIRST_VALID,
   FLT_FIRST_GT_GT, FLT_COUNT_COUNT, FLT_VECTOR_VEC, FLT_VECTOR_HPORT,
   FLT_VECTOR_EN]
/-- The fields of the FLT block. -/
def fieldsFLT : List RegField := fieldsFLT0

def fieldsPIN0 : List RegField :=
  [PIN_PHASE_PHASE, PIN_PHASE_LOOP_MAX, PIN_FUM_STOP, PIN_FUM_ALIVE,
   PIN_FUM_LEVEL, PIN_ERR_LATCHED, PIN_ERR_ANY, PIN_ERR_SENSE,
   PIN_ERR_FORCE, PIN_RSTF0_PAGE, PIN_RSTF0_SOURCE, PIN_RSTF0_LOOPS,
   PIN_RSTF1_AON, PIN_THERM_TEMP, PIN_THERM_THROTTLE, PIN_THERM_THR_ON,
   PIN_THERM_PEAK, PIN_PPS_EN, PIN_PPS_SRC]
/-- The fields of the PIN block. -/
def fieldsPIN : List RegField := fieldsPIN0

def fieldsCNT0 : List RegField :=
  [CNT_CTRL_RUN, CNT_WINDOW_WINDOW_US, CNT_START_START_GT, CNT_SEQ_SEQ,
   CNT_RING_BASE, CNT_RING_SLOTS]
/-- The fields of the CNT block. -/
def fieldsCNT : List RegField := fieldsCNT0

def fieldsFWU0 : List RegField :=
  [FWU_STATUS_ACTIVE_IMG, FWU_STATUS_RUN_IMG, FWU_STATUS_TRIAL_IMG, FWU_STATUS_TRIAL_CFG,
   FWU_STATUS_TRIAL_BOOTED, FWU_STATUS_TRIAL_BOOTS, FWU_STATUS_ACTIVE_CFG, FWU_STATUS_RUN_CFG,
   FWU_STATUS_DEFAULT_CFG, FWU_STATUS_FALLBACK, FWU_STATUS_LIVE, FWU_STATUS_FLOOR_PENDING,
   FWU_RELEASE_RUN, FWU_RELEASE_OTHER, FWU_FORMAT_CMDSET_MIN, FWU_FORMAT_CMDSET_MAJ,
   FWU_FORMAT_SCHED_FMT, FWU_FORMAT_CFG_FMT, FWU_FORMAT_CFG_FMT_MIN, FWU_FORMAT_CFG_FMT_MAX,
   FWU_CONFIRM_TMO, FWU_CONFIRM_REMAIN, FWU_STAGE_LEN, FWU_ERR_CODE,
   FWU_ERR_COMP, SEC_SVN_FLOOR, SEC_SVN_MRAM_FLOOR, SEC_SVN_COARSE,
   SEC_SVN_RUN_SVN, SEC_VKH_HASH]
def fieldsFWU1 : List RegField :=
  [SEC_OKH_HASH, SEC_SERIAL_SERIAL, SEC_JRN_HEAD, SEC_JRN_DROP,
   SEC_JRN_SEL_INDEX, SEC_JRN_DATA_WORD]
/-- The fields of the FWU block. -/
def fieldsFWU : List RegField := fieldsFWU0 ++ fieldsFWU1

def fieldsCHIP0 : List RegField :=
  [CHIP_ID_PART, CHIP_ID_STEPPING, CHIP_VER_FW_RELEASE, CHIP_VER_CMDSET_MIN,
   CHIP_VER_CMDSET_MAJ, CHIP_VER_SCHED_FMT, CHIP_VER_CFG_FMT, CHIP_CORE_STATE,
   CHIP_WDOG_REMAIN, CHIP_SCRATCH_VALUE]
/-- The fields of the CHIP block. -/
def fieldsCHIP : List RegField := fieldsCHIP0

def fieldsHBM0 : List RegField :=
  [HBM_STATUS_TRAINED, HBM_STATUS_SELF_REFRESH, HBM_STATUS_REFRESH_2X, HBM_STATUS_TEMP,
   HBM_SCRUB_PASS_GT, HBM_UE_ADDR_OFFSET, HBM_REGION_BASE_OFFSET, HBM_REGION_SIZE_SIZE]
/-- The fields of the HBM block. -/
def fieldsHBM : List RegField := fieldsHBM0

end Sys2Proof.Machine.R
end

