-- ==== Sys2Proof/Machine/Tab.lean ====
section
/-! DEFINITION. Tables keyed by a number: lists of (key, value) pairs in one canonical form, keys strictly rising and no
value equal to the default of an unlisted key. Registers, per-port and per-queue state and the byte memories are such tables. -/

namespace Sys2Proof.Machine

/-- A table from numbers to values of `α`. -/
abbrev Tab (α : Type) := List (Nat × α)

/-- The value at key `k`; `d` where nothing is listed. -/
def tget {α : Type} (d : α) : Tab α → Nat → α
  | [], _ => d
  | (a, v) :: t, k => if a = k then v else tget d t k

/-- The table with `v` at key `k`; a value equal to the default is not listed. -/
def tput {α : Type} [DecidableEq α] (d : α) (t : Tab α) (k : Nat) (v : α) : Tab α :=
  (t.filter fun e => e.1 < k) ++ (if v = d then [] else [(k, v)]) ++ t.filter fun e => k < e.1

/-- The table with the value at `k` changed by `f`. -/
def tmod {α : Type} [DecidableEq α] (d : α) (t : Tab α) (k : Nat) (f : α → α) : Tab α :=
  tput d t k (f (tget d t k))

/-- The table with `v` at each of the `n` keys from `first`. -/
def tputRun {α : Type} [DecidableEq α] (d : α) (t : Tab α) (first n : Nat) (v : α) : Tab α :=
  let run := if v = d then [] else (List.range n).map fun i => (first + i, v)
  (t.filter fun e => e.1 < first) ++ run ++ t.filter fun e => first + n ≤ e.1

/-- The canonical form: keys strictly rising from above `lo`, no value equal to the default. -/
def twfFrom {α : Type} [DecidableEq α] (d : α) : Option Nat → Tab α → Bool
  | _, [] => true
  | lo, (a, v) :: t =>
    (match lo with
      | none => true
      | some b => decide (b < a)) && decide (v ≠ d) && twfFrom d (some a) t

/-- The canonical form of a whole table. -/
def twf {α : Type} [DecidableEq α] (d : α) (t : Tab α) : Bool := twfFrom d none t

/-- A TIMED launch of a line phase (14_collectives.md R526): group, instance, phase and GT. -/
structure LaunchId where
  gid : Nat
  k : Nat
  phase : Nat
  gt : Nat
  deriving DecidableEq, Repr

end Sys2Proof.Machine
end

