-- ==== Sys2Proof/Machine/StCmd.lean ====
section
/-! DEFINITION. State of Caldera's command service (16_command_packets.md): rings, waiting and started commands. -/

namespace Sys2Proof.Machine

/-- The parameters of GROUP_CREATE (14_collectives.md Table 14.1). -/
structure GroupParams where
  gid : Nat := 0
  job : Nat := 0
  gen : Nat := 0
  dimMask : Nat := 0
  localCnt : Nat := 0
  depth : Nat := 0
  mask0 : Nat := 0
  mask1 : Nat := 0
  mask2 : Nat := 0
  mask3 : Nat := 0
  maxBytes : Nat := 0
  lqps : List Nat := []
  deriving DecidableEq, Repr

/-- What a started command waits for. -/
inductive CmdWait
  | nothing
  /-- the ring pages of a QP_CREATE or EQ_CREATE: those translated so far -/
  | qpRing (p : QpParams) (pages : List Nat)
  | eqRing (p : EqParams) (pages : List Nat)
  /-- an INVALIDATE -/
  | invalidate
  /-- a CTX_RELEASE -/
  | ctxRelease (ctx : Nat)
  /-- a WIN_REVOKE -/
  | revoke
  /-- a FUNC_RESET: key of the function -/
  | funcReset (k : Nat)
  /-- a GROUP_CREATE that waits for transport contexts -/
  | group (g : GroupParams)
  /-- a REMOTE: target, TAG of the forwarded command, where the reply goes -/
  | remote (pid tag outAddr : Nat)
  /-- a NEIGHBOUR_INFO: port, query tag -/
  | neighbour (port qtag : Nat)
  /-- a POWER_STATE entry: the target, 1 MOSS or 2 PEAT -/
  | power (target : Nat)
  /-- a live activation -/
  | activate
  deriving DecidableEq, Repr

/-- The extended parameter buffer of a command, which is read when the command starts (R574): bus address and LEN. -/
structure CmdBuf where
  addr : Nat
  len : Nat
  /-- the read fails (R323) -/
  failed : Bool := false
  /-- it fails, or brings parameters that R573 and R576 do not allow -/
  bad : Bool := false
  deriving DecidableEq, Repr

/-- A command that waits to start: its path and TAG, opcode, parameters, FENCE bit, and the host port and function that sent it
over the network. -/
structure WaitCmd where
  ref : CmdRef
  opcode : Nat
  params : List Byte
  fence : Bool := false
  /-- over the network: SINC of the MGMT_REQ, which the answer carries as DINC -/
  sinc : Nat := 0
  buf : Option CmdBuf := none
  deriving DecidableEq, Repr

/-- The command's extended buffer gives it no parameters: it ends BAD_PARAM when its turn to start comes (check 2 of R579). -/
def WaitCmd.bad (w : WaitCmd) : Bool := w.buf.any (·.bad)

/-- A command started and without a final reply. -/
structure Started where
  n : Nat
  ref : CmdRef
  opcode : Nat
  sinc : Nat := 0
  wait : CmdWait := .nothing
  /-- an IN_PROGRESS reply has been written (R578) -/
  progress : Bool := false
  /-- a disable event of its function came after it started: no reply, and no object created (R587) -/
  silent : Bool := false
  deriving DecidableEq, Repr

/-- The command ring of a function beside its registers (R583 to R586). -/
structure CmdRing where
  pi : Nat := 0
  rplCi : Nat := 0
  armed : Bool := false
  deriving DecidableEq, Repr

/-- Caldera's command service. -/
structure CmdState where
  /-- key 64 h + f -/
  rings : Tab CmdRing := []
  waiting : List WaitCmd := []
  started : List Started := []
  next : Nat := 0
  /-- the unused nonce of the last EXPERT_CHALLENGE of each PF, and of SMBus under key 4: value, and CLK_GT cycle at which it was issued -/
  nonces : Tab (Option (Nat × Nat)) := []
  /-- query tag of the next MGMT_FLIT QUERY -/
  qtag : Nat := 0
  /-- failed unlocks since the last success or the last lockout (R593) -/
  failRun : Nat := 0
  deriving DecidableEq, Repr

end Sys2Proof.Machine
end

