-- ==== Sys2Proof/Machine/StHost.lean ====
section
/-! DEFINITION. State of the host attach and the queues that no register shows (09_host_attach_and_queues.md): functions, queue
pairs, completions and event queues. -/

namespace Sys2Proof.Machine

/-- A function. FUNC_CTRL and FUNC_STATUS are registers. -/
structure FuncState where
  cfg : FuncCfg := {}
  /-- the enable condition of R325 as last evaluated -/
  enabled : Bool := false
  /-- the disable event was made by a FUNC_RESET the function issued on itself (R587) -/
  selfReset : Bool := false
  deriving DecidableEq, Repr

/-- One MSI-X table entry and its pending bit; a vector is masked after reset, as PCI Express states. -/
structure MsixEntry where
  addr : Nat := 0
  data : Nat := 0
  masked : Bool := true
  pending : Bool := false
  deriving DecidableEq, Repr

/-- A descriptor read that has not returned: ring index, and the number of the DMA read. -/
structure Fetch where
  x : Nat
  dma : Nat
  deriving DecidableEq, Repr

/-- An SQ operation that has released its first effect, as its RESERVE record tells it (15_pair_operation.md Table 15.5). -/
structure Reserved where
  x : Nat
  opid : Nat
  pid : Nat
  seq : Nat
  count : Nat
  fired : Bool
  deriving DecidableEq, Repr

/-- How far a fetched descriptor has got. -/
inductive DescState
  /-- fetched, not started -/
  | fetched
  /-- started, not complete -/
  | started
  /-- complete, with a status and LEN -/
  | done (status len : Nat)
  deriving DecidableEq, Repr

/-- The position and queue that a rank resolved to (02_grid_and_addressing.md R79). -/
structure RankDest where
  pid : Nat
  hport : Nat
  func : Nat
  qidx : Nat
  deriving DecidableEq, Repr

/-- A fetched send descriptor that no formed completion entry covers yet. -/
structure SqDesc where
  /-- SQ index; of a pair, the index of the TRIG -/
  x : Nat
  /-- the 64 bytes -/
  desc : Nat
  state : DescState := .fetched
  /-- SQ slots it covers: 2 for a TRIG pair -/
  slots : Nat := 1
  /-- read for a launch (08_scheduled_traffic.md R293, R294) -/
  launched : Bool := false
  /-- the rank-table entry its start has read, while the start waits for a translation (02_grid_and_addressing.md R80) -/
  dest : Option RankDest := none
  /-- bytes of LADDR whose pages its start has translated (11_transport_and_windows.md R428) -/
  spanned : Nat := 0
  deriving DecidableEq, Repr

/-- A completion entry that is ready or staged (Table 9.7), without PHASE. -/
structure CqEntry where
  userId : Nat := 0
  status : Nat := 0
  /-- 0 OP, 1 RECV, 2 BATCH, 3 HELD -/
  kind : Nat := 0
  srank : Nat := 0
  len : Nat := 0
  aux : Nat := 0
  tag : Nat := 0
  /-- SQ_CI once the entry is written -/
  ci : Option Nat := none
  deriving DecidableEq, Repr

/-- A receive: RQ index, descriptor and post sequence (12_message_matching.md R459). -/
structure Recv where
  idx : Nat
  desc : Nat
  post : Nat
  deriving DecidableEq, Repr

/-- A message with a live decision at its target (12_message_matching.md R459, R460). -/
structure Msg where
  /-- transport context of the sender -/
  tc : Nat
  opid : Nat
  comm : Nat
  srank : Nat
  tag : Nat
  mlen : Nat
  kind : MsgKind
  /-- the receive it is bound to; none: unexpected -/
  bound : Option Recv := none
  /-- payload in the Mire: offset and bytes -/
  stored : List (Nat × List Byte) := []
  /-- Mire header entries and blocks it holds -/
  hdrs : Nat := 0
  blocks : Nat := 0
  /-- offsets of the packets that have had their outcome -/
  outcomes : List Nat := []
  /-- bytes landed -/
  landed : Nat := 0
  /-- the status its receive has taken, 0 OK -/
  status : Nat := 0
  /-- the status later packets are refused with, once the receive has taken one (R463, R750) -/
  refuse : Option Nat := none
  /-- source endpoint, job, and window key and offset of a SEND_RTS -/
  shport : Nat := 0
  sfunc : Nat := 0
  sqidx : Nat := 0
  job : Nat := 0
  rvkey : Nat := 0
  rvoff : Nat := 0
  /-- the reads of the rendezvous have started -/
  reading : Bool := false
  /-- its receive has finished; the decision stays live for later packets (R460) -/
  finished : Bool := false
  /-- MSEQ of the mirror record of its binding or of its unexpected entry (15_pair_operation.md Table 15.6) -/
  gate : Option Nat := none
  deriving DecidableEq, Repr

/-- A target released by a trigger and not started (13_counters_and_triggers.md R489): SQ index of the TRIG, the target
descriptor, and the done counter where DC_EN is 1. -/
structure FiredDesc where
  x : Nat
  desc : Nat
  dcnt : Option Nat
  /-- the rank-table entry its start has read (02_grid_and_addressing.md R80) -/
  dest : Option RankDest := none
  /-- bytes of LADDR whose pages its start has translated (11_transport_and_windows.md R428) -/
  spanned : Nat := 0
  deriving DecidableEq, Repr

/-- A queue pair. Ring indices are modulo 2^32. -/
structure Qp where
  valid : Bool := false
  p : QpParams := {}
  /-- function-local slot -/
  slot : Nat := 0
  fallback : Bool := false
  /-- output addresses of the CQ ring's pages, translated at creation (10_translation.md R382) -/
  cqPages : List Nat := []
  sqObs : Nat := 0
  sqFetch : Nat := 0
  sqCi : Nat := 0
  rqObs : Nat := 0
  rqFetch : Nat := 0
  rqCi : Nat := 0
  /-- CQ index of the next entry formed; cqPi counts the entries written -/
  cqNext : Nat := 0
  cqPi : Nat := 0
  cqCi : Nat := 0
  error : Bool := false
  cause : Nat := 0
  cqArm : Bool := false
  cqFull : Bool := false
  sqIn : List Fetch := []
  rqIn : List Fetch := []
  /-- fetched send descriptors, SQ order -/
  sq : List SqDesc := []
  /-- receive descriptors that arrived and are not yet posted: RQ index and bytes -/
  rq : List (Nat × Nat) := []
  fired : List FiredDesc := []
  /-- entries formed and not yet written or staged, in the order they became ready -/
  ready : List CqEntry := []
  /-- entries staged or held while the CQ was full, in order -/
  staged : List CqEntry := []
  /-- the HELD entry of the episode has been written (R353) -/
  heldDone : Bool := false
  /-- successful operations pending for a BATCH entry: how many, USER_ID, SQ index and SQ_CI of the last -/
  batch : Nat := 0
  batchUser : Nat := 0
  batchX : Nat := 0
  batchCi : Nat := 0
  nextPost : Nat := 0
  /-- posted and unmatched receives, post order -/
  posted : List Recv := []
  /-- a receive held because no posted-receive entry is free (Table 12.3) -/
  prqHeld : Option Recv := none
  /-- messages with a live decision, arrival order -/
  msgs : List Msg := []
  /-- bound counter (13_counters_and_triggers.md R483) -/
  cnt : Option Nat := none
  /-- a pair is held because no pending entry is free (R493) -/
  trgHeld : Bool := false
  /-- a doorbell record line is tracked on the host port (R338), and whether the device has still to ask for it in the Shared state -/
  snooped : Bool := false
  snoopDue : Bool := false
  /-- entries written, from CQ_CI on, and the last ones that tell SQ_CI, CQ_PI and RQ progress: CQ index, entry, SQ_CI it brought; a
  full-state stream to a mate needs them (15_pair_operation.md R553) -/
  cqLog : List (Nat × Flit × Option Nat) := []
  /-- the operations from SQ_CI on that have released their first effect, for the same stream -/
  reserves : List Reserved := []
  /-- of an adopted QP: SQ indices that complete INDETERMINATE when they are fetched (15_pair_operation.md R556), entries to be written again
  before any new one (R557), and whether the takeover was untrusted (R560) -/
  indet : List Nat := []
  rewrite : List (Nat × Flit) := []
  lost : Bool := false
  deriving DecidableEq, Repr

/-- An event queue. -/
structure EqState where
  valid : Bool := false
  p : EqParams := {}
  pages : List Nat := []
  pi : Nat := 0
  ci : Nat := 0
  armed : Bool := false
  /-- events dropped since the last EQ_OVERFLOW entry -/
  dropped : Nat := 0
  /-- of an adopted event queue whose ring is still being translated: events that wait, as type, queue and INFO -/
  held : List (Nat × Nat × Nat) := []
  /-- it is left of a standby function whose shadows were dropped, and goes when its PAIR_ADOPT has been posted (15_pair_operation.md R561, R562) -/
  leaves : Bool := false
  deriving DecidableEq, Repr

/-- Functions, queues and jobs. -/
structure HostState where
  /-- key 64 h + f -/
  funcs : Tab FuncState := []
  /-- key 2,048 (64 h + f) + vector -/
  msix : Tab MsixEntry := []
  qps : Tab Qp := []
  /-- key 2,048 (64 h + f) + vector -/
  eqs : Tab EqState := []
  /-- number of the next DMA read -/
  dma : Nat := 0
  /-- the next QP of a port whose record is polled, by host port: round-robin (R338) -/
  pollLast : Tab Nat := []
  /-- last generation of a job ID since the full reset, plus 1 (02_grid_and_addressing.md R74) -/
  jobGen : Tab Nat := []
  /-- the slot a bound job holds, plus 1; its rank count and the rank table's HBM offset -/
  jobSlot : Tab Nat := []
  jobRanks : Tab Nat := []
  jobTable : Tab Nat := []
  deriving DecidableEq, Repr

end Sys2Proof.Machine
end

