-- ==== Sys2Proof/Machine/StTpt.lean ====
section
/-! DEFINITION. State of the transport, the windows, the match units and the trigger block (11_transport_and_windows.md,
12_message_matching.md, 13_counters_and_triggers.md). -/

namespace Sys2Proof.Machine

/-- What an operation belongs to. -/
inductive Owner
  /-- the descriptor of SQ index `x` -/
  | sq (q x : Nat)
  /-- a fired target: SQ index of the TRIG, done counter -/
  | fired (q x : Nat) (dcnt : Option Nat)
  /-- the reads of a rendezvous for the receive of a post sequence -/
  | rndv (q post : Nat)
  /-- a RNDV_DONE -/
  | done (q : Nat)
  deriving DecidableEq, Repr

/-- What an operation sends. -/
inductive OpKind
  | write | read | eager | rts | rndvDone
  deriving DecidableEq, Repr

/-- An operation that sends transport packets (R427, R452, R453, R466, R467). -/
structure XOp where
  owner : Owner
  kind : OpKind
  q : Nat
  /-- transport context: 2^20 times the set (0 own position, 1 adopted position) plus the peer's PID -/
  tc : Nat
  dhport : Nat := 0
  dfunc : Nat := 0
  dqidx : Nat := 0
  job : Nat := 0
  /-- assigned with the first packet -/
  opid : Option Nat := none
  len : Nat := 0
  laddr : Nat := 0
  woff : Nat := 0
  wkey : Nat := 0
  comm : Nat := 0
  srank : Nat := 0
  tag : Nat := 0
  /-- RNDV_DONE: OPID of the send and its status -/
  sendOpid : Nat := 0
  result : Nat := 0
  /-- next packet to form: every packet before it has been formed -/
  next : Nat := 0
  /-- packets after `next` that launches have formed already (08_scheduled_traffic.md R294) -/
  ahead : List Nat := []
  /-- made for a launch: while its QP is scheduled, only launches form its packets (08_scheduled_traffic.md R293, R294) -/
  launched : Bool := false
  /-- bytes counted in LEN (R429, R455) -/
  bytes : Nat := 0
  /-- first outcome that is not OK, in time -/
  status : Nat := 0
  /-- the SEND_RTS has been formed -/
  rtsSent : Bool := false
  /-- the window the device opened for it (R453), and whether it still waits for a free index -/
  ownKey : Option Nat := none
  winWait : Bool := false
  /-- the descriptor's ROFF and RKEY, kept for a conversion (R473) -/
  convKey : Nat := 0
  convOff : Nat := 0
  /-- MSEQ of the mirror record its packets wait for (15_pair_operation.md Table 15.6) -/
  gate : Option Nat := none
  /-- an eager send refused under the STRICT conversion (R473) -/
  converted : Bool := false
  deriving DecidableEq, Repr

/-- A packet that takes a sequence number and is not done: what a retransmission needs (R405, R415 to R417). -/
structure Await where
  seq : Nat
  /-- operation number; none once the operation is gone and a filler stands in its place -/
  op : Option Nat
  /-- header and extension flits as formed -/
  head : Flit
  ext : Flit
  /-- source address of the payload, for a retransmission -/
  laddr : Nat
  /-- acknowledged; a READ_REQ stays awaited until its READ_RESP has landed -/
  acked : Bool := false
  /-- the READ_RESP has landed, or the packet is done: it is not awaited, but its number may be unacknowledged -/
  landed : Bool := false
  retries : Nat := 0
  /-- the last refusal was LIFETIME_EXPIRED -/
  lastLife : Bool := false
  /-- its place is filled by a filler (R406) -/
  filler : Bool := false
  /-- its payload read is parked (R418) -/
  parked : Bool := false
  deriving DecidableEq, Repr

/-- A transport context (Table 11.1). TX_STATE: 0 NEW, 1 HANDSHAKE, 2 OPEN, 3 UNREACHABLE. -/
structure Tc where
  txState : Nat := 0
  known : Bool := false
  peerInc : Nat := 0
  rxSync : Bool := false
  txNext : Nat := 0
  txUna : Nat := 0
  rtoExp : Nat := 0
  nextOpid : Nat := 0
  rxExpected : Nat := 0
  rxBitmap : Nat := 0
  awaits : List Await := []
  /-- a HELLO has been sent and not answered -/
  helloOut : Bool := false
  /-- packets recorded since the last ACK to the peer (R412) -/
  ackCnt : Nat := 0
  /-- sequence numbers between check 3 and recording (R411) -/
  inProg : List Nat := []
  /-- marked packets since the last MARK notice; none before the first one (07_dynamic_routing.md R262) -/
  marked : Option Nat := none
  /-- sequence numbers assigned, newest first: GT and count (R90) -/
  assigned : List (Nat × Nat) := []
  deriving DecidableEq, Repr

/-- A packet handed on by a receive pipeline after checks 1 and 2. -/
structure RxPkt where
  pkt : List Flit
  /-- the pipeline -/
  e : Nat
  tc : Nat
  deriving DecidableEq, Repr

/-- How far the packet at the front of a receive pipeline has got: past check 4, with the window that admitted it, or a fault
that decides its outcome. -/
structure PipeState where
  win : Option Nat := none
  /-- fault kind and address -/
  fault : Option (Nat × Nat) := none
  /-- the READ_REQ is a duplicate executed again (R409) -/
  again : Bool := false
  deriving DecidableEq, Repr

/-- A READ_REQ whose host reads are out (R431). -/
structure ServedRead where
  id : Nat
  head : Flit
  ext : Flit
  e : Nat
  tc : Nat
  win : Nat
  ctx : Nat
  va : Nat
  again : Bool
  deriving DecidableEq, Repr

/-- Who waits for a revoke (R441, R442). -/
inductive RevokeFor
  | sq (q x : Nat)
  | cmd (n : Nat)
  | expert
  /-- a quiesce of the window's function -/
  | quiesce
  /-- the device's own window of a rendezvous send: the send's owner, status and LEN -/
  | send (owner : Owner) (status len : Nat)
  deriving DecidableEq, Repr

/-- A waiter of a revoke: the window and the status it gets; none: the status of the revoke itself, OK. -/
structure RevokeWait where
  win : Nat
  who : RevokeFor
  status : Nat
  deriving DecidableEq, Repr

/-- The transport. -/
structure TptState where
  tcs : Tab Tc := []
  /-- cached contexts, most recently used first (R401) -/
  cache : List Nat := []
  ops : Tab (Option XOp) := []
  opNo : Nat := 0
  /-- ACK and NACK packets handed over and not yet applied, in arrival order -/
  acks : List RxPkt := []
  hellos : List RxPkt := []
  helloResps : List RxPkt := []
  readResps : List RxPkt := []
  pipes : Tab PipeState := []
  reads : List ServedRead := []
  deriving DecidableEq, Repr

/-- The windows. -/
structure WinState where
  wins : Tab WinEntry := []
  /-- packets admitted and not finished, by window -/
  admitted : Tab Nat := []
  /-- indices that have become FREE again, the one free longest first (02_grid_and_addressing.md R85) -/
  freed : List Nat := []
  /-- the lowest index never opened, counted from the start of the own half -/
  fresh : Nat := 0
  revokes : List RevokeWait := []
  /-- windows whose drain has been reported slow -/
  slow : List Nat := []
  deriving DecidableEq, Repr

/-- A send packet that waits for its turn (12_message_matching.md R457), or one whose turn has come (R458). -/
structure SendPkt where
  pkt : List Flit
  e : Nat
  tc : Nat
  /-- its payload is parked in a Mire block -/
  parked : Bool := false
  deriving DecidableEq, Repr

/-- The match units. -/
structure MatState where
  /-- reorder entries, oldest first -/
  reorder : List SendPkt := []
  /-- packets in the match stage, oldest first -/
  stage : List SendPkt := []
  /-- a fault found for the packet that a match unit has in hand: kind and address -/
  fault : Tab (Option (Nat × Nat)) := []
  /-- bytes of the Mire's rate bucket that are free, and the CLK_GT cycle of that figure (R470) -/
  bucket : Nat := 1048576
  bucketAt : Nat := 0
  deriving DecidableEq, Repr

/-- A tally counter (Table 13.1). -/
structure Tally where
  value : Nat := 0
  fail : Nat := 0
  lastStatus : Nat := 0
  late : Bool := false
  alloc : Bool := false
  hport : Nat := 0
  func : Nat := 0
  deriving DecidableEq, Repr

/-- When a trigger fires (Table 13.4). -/
inductive TrigMode
  | counter | time | both
  deriving DecidableEq, Repr

/-- An armed trigger or a waiting WAIT (R486, R488). -/
structure Armed where
  q : Nat
  /-- SQ index of the TRIG or the WAIT -/
  x : Nat
  /-- the target descriptor; none: a WAIT -/
  target : Option Nat
  mode : TrigMode
  cnt : Nat
  thresh : Nat
  tgt : Nat
  dcnt : Option Nat
  /-- it holds a comparator (R492) -/
  comparator : Bool
  /-- COUNTER_AND_TIME: the time condition is met, LATE or not -/
  timeMet : Option Bool := none
  /-- TIME: the target had passed when the trigger was armed, or a forward step passed it -/
  late : Bool := false
  deriving DecidableEq, Repr

/-- What happens when a counter update has been applied. -/
inductive AfterUpdate
  /-- nothing -/
  | none
  /-- the WRITE_REQ that a window counted is finished and recorded: transport context, SEQ, pipeline, window -/
  | window (tc seq e win : Nat)
  deriving DecidableEq, Repr

/-- A counter update that the TRG block has not applied yet (R482). -/
structure CntUpdate where
  cnt : Nat
  amount : Nat
  /-- the function the window or QP belongs to: key 64 h + f -/
  func : Nat
  fromWindow : Bool
  after : AfterUpdate
  deriving DecidableEq, Repr

/-- A fired operation that has ended and has not updated its done counter yet. -/
structure FiredEnd where
  dcnt : Option Nat
  status : Nat
  deriving DecidableEq, Repr

/-- The trigger block. -/
structure TrgState where
  tally : Tab Tally := []
  /-- the fields of TRG_QP_CNT as last written, by QIDX (Table 13.6) -/
  qpCnt : Tab Nat := []
  /-- counters cached on chip, most recently used first -/
  hot : List Nat := []
  /-- armed triggers and WAITs, in the order they were armed -/
  armed : List Armed := []
  /-- updates waiting, oldest first -/
  updates : List CntUpdate := []
  ends : List FiredEnd := []
  deriving DecidableEq, Repr

end Sys2Proof.Machine
end

