-- ==== Sys2Proof/Machine/StColl.lean ====
section
/-! DEFINITION. State of in-network collectives (14_collectives.md): groups, instances and staged contributions. -/

namespace Sys2Proof.Machine

/-- The operations of Table 14.3. -/
inductive CollKind
  | allreduce | reduceScatter | allgather | barrier | lineBcast
  deriving DecidableEq, Repr

/-- What one local contributor has in an instance. -/
structure LocalPart where
  lslot : Nat
  owner : Owner
  q : Nat
  /-- the descriptor -/
  desc : Nat
  /-- the vector it contributes, in wire elements; none: the read has not returned -/
  data : Option (List Byte) := none
  /-- bytes of its result that have landed, by SEGOFF -/
  landedAt : List Nat := []
  landed : Nat := 0
  done : Bool := false
  deriving DecidableEq, Repr

/-- A contribution in staging (R521): MEMBER, SEGOFF and payload, and the fields compared with the local operation. -/
structure StagedPart where
  phase : Nat
  member : Nat
  segoff : Nat
  dtype : Nat
  rop : Nat
  acc32 : Bool
  elems : Nat
  dim : Nat
  data : List Byte
  deriving DecidableEq, Repr

/-- An instance of a group. -/
structure Inst where
  /-- its number, counted from 0 at create -/
  k : Nat
  parts : List LocalPart := []
  staged : List StagedPart := []
  /-- LINE_MCAST packets held until the instance starts locally (R523) -/
  mcasts : List (List Flit) := []
  /-- line phase in progress; none: the local phase has not finished -/
  phase : Option Nat := none
  /-- the position's current vector -/
  vec : List Byte := []
  /-- segments of the phase in progress that have finished: offset, and the reduced segment or each member's (R510) -/
  segs : List (Nat × List (List Byte)) := []
  /-- the result has been formed and sent to the local contributors -/
  sent : Bool := false
  /-- it has ended on this device, with a status -/
  ended : Option Nat := none
  deriving DecidableEq, Repr

/-- A group (Table 14.1, R499 to R505). -/
structure Group where
  valid : Bool := false
  p : GroupParams := {}
  /-- staging: MiB offset in its region, and MiB reserved -/
  base : Nat := 0
  size : Nat := 0
  stale : Bool := false
  /-- operations started so far by each local slot (R502) -/
  started : Tab Nat := []
  /-- instances that are unfinished or hold staged contributions, oldest first -/
  insts : List Inst := []
  /-- the oldest unfinished instance -/
  oldest : Nat := 0
  deriving DecidableEq, Repr

/-- A launch of a TIMED phase (R526), with the packets staged for it and the peers each is copied to. -/
structure TimedLaunch where
  id : LaunchId
  copies : List (List Flit × List Nat) := []
  /-- the guard of R527 is up -/
  guarded : Bool := false
  deriving DecidableEq, Repr

/-- Staging writes that have not completed (R522): the input whose VC6 they may hold, and the slot of the instance (R504) as an HBM offset. -/
structure StagingWrite where
  input : Nat
  bytes : Nat
  slot : Nat
  deriving DecidableEq, Repr

/-- The collective block. -/
structure CollState where
  groups : Tab Group := []
  launches : List TimedLaunch := []
  writes : List StagingWrite := []
  deriving DecidableEq, Repr

end Sys2Proof.Machine
end

