-- ==== Sys2Proof/Machine/StGeys.lean ====
section
/-! DEFINITION. State of the Geyser timebase that no register of Table 6.5 shows (06_timebase.md). -/

namespace Sys2Proof.Machine

/-- A rational number as a numerator over a positive denominator (R218: every expression is evaluated exactly). -/
structure Frac where
  num : Int
  den : Nat
  deriving DecidableEq, Repr

/-- What the device keeps of a neighbour's SYNC flits (R209, R211, R213). -/
structure PortSync where
  state : Nat
  dist : Nat
  gmPid : Nat
  gmPrio : Nat
  gmClass : Nat
  step : Nat
  /-- UNC of the latest TIMING flit, saturated while none has come -/
  unc : Nat := 0xFFFF
  /-- delay and offset of the latest TIMING flit, in 1/64 tick -/
  dcorr : Option Frac := none
  theta : Option Frac := none
  /-- the latest EPOCH flit and the local time at which the comma it names was received, in 1/64 tick -/
  epoch : Option Flit := none
  epochRx : Nat := 0
  deriving DecidableEq, Repr

/-- The timebase. -/
structure GeysState where
  /-- internal uncertainty in 1/16 tick, below 2^48 (R220) -/
  unc : Nat := 2 ^ 48 - 1
  /-- the part of the growth of R220 below one unit, in 1/1000 unit -/
  uncRem : Nat := 0
  integ : Int := 0
  lastStep : Nat := 0
  /-- the STEP count this device sends as grandmaster (R219) -/
  gmStep : Nat := 0
  far : Nat := 0
  /-- consecutive intervals that ended with UNC at or below 8 ticks (R222) -/
  lockRun : Nat := 0
  /-- consecutive intervals in INVALID without a better key (R214) -/
  selfRun : Nat := 0
  /-- the grandmaster last followed: PID, priority, class -/
  followed : Option (Nat × Nat × Nat) := none
  /-- values of TRIM in the last 64 intervals with a source, newest first (R220) -/
  trims : List Int := []
  /-- what was kept of each port's flits -/
  info : Tab (Option PortSync) := []
  /-- references in lock (R217) -/
  ppsLock : Bool := false
  refLock : Bool := false
  /-- own class as advertised, and PPS edges since a better one became due -/
  ownClass : Nat := 2
  classRun : Nat := 0
  /-- expected PPS edges missed in a row (R228) -/
  ppsMissed : Nat := 0
  /-- TAI second that the next PPS edge takes (R229) -/
  taiPending : Option Nat := none
  deriving DecidableEq, Repr

end Sys2Proof.Machine
end

