-- ==== Sys2Proof/Machine/Packet.lean ====
section
/-! DEFINITION. Packets and their headers (03_packets.md): the base header of Table 3.1, the routing-state byte of Table 3.2,
the packet types of Table 3.3, the extension layouts of Table 3.4 and the end-to-end CRC of R110. A packet is the list of its
flits, head first. -/

namespace Sys2Proof.Machine

/-- A field of a flit: bits `lo` to `lo + w - 1` (R96). -/
def fget (f : Flit) (lo w : Nat) : Nat := field f.toNat lo w

/-- A flit with a field replaced. -/
def fset (f : Flit) (lo w v : Nat) : Flit := BitVec.ofNat 256 (setField f.toNat lo w v)

/-- The traffic classes of Table 3.5. -/
inductive PClass
  | request | response | collective
  deriving DecidableEq, Repr

/-! Fields of the base header (Table 3.1). -/

def hPtype (h : Flit) : Nat := fget h 0 6
def hExt (h : Flit) : Bool := fget h 6 1 = 1
def hPlen (h : Flit) : Nat := fget h 8 13
def hFirst (h : Flit) : Bool := fget h 21 1 = 1
def hLast (h : Flit) : Bool := fget h 22 1 = 1
def hDpid (h : Flit) : Nat := fget h 24 20
def hSpid (h : Flit) : Nat := fget h 44 20
def hDinc (h : Flit) : Nat := fget h 64 16
def hSinc (h : Flit) : Nat := fget h 80 16
def hSeq (h : Flit) : Nat := fget h 96 32
def hBirth (h : Flit) : Nat := fget h 128 40
def hJob (h : Flit) : Nat := fget h 168 16
def hRstate (h : Flit) : Nat := fget h 184 8
def hVc (h : Flit) : Nat := fget h 184 3
def hEpoch (h : Flit) : Nat := fget h 187 1
def hStale (h : Flit) : Bool := fget h 188 1 = 1
def hCn (h : Flit) : Bool := fget h 189 1 = 1
def hDhport (h : Flit) : Nat := fget h 192 2
def hDfunc (h : Flit) : Nat := fget h 194 6
def hDqidx (h : Flit) : Nat := fget h 200 18
def hShport (h : Flit) : Nat := fget h 218 2
def hSfunc (h : Flit) : Nat := fget h 220 6
def hSqidx (h : Flit) : Nat := fget h 226 18

def hSetVc (h : Flit) (v : Nat) : Flit := fset h 184 3 v
def hSetEpoch (h : Flit) (v : Nat) : Flit := fset h 187 1 v
def hSetStale (h : Flit) (b : Bool) : Flit := fset h 188 1 (bNat b)
def hSetCn (h : Flit) (b : Bool) : Flit := fset h 189 1 (bNat b)
def hSetBirth (h : Flit) (v : Nat) : Flit := fset h 128 40 v

/-- The number of flits of a packet (R93). -/
def pktFlits (h : Flit) : Nat := 2 + bNat (hExt h) + flitsFor (hPlen h)

/-! Packet types of Table 3.3. -/

def ptWriteReq : Nat := 0x01
def ptReadReq : Nat := 0x02
def ptReadResp : Nat := 0x03
def ptSendEager : Nat := 0x04
def ptSendRts : Nat := 0x05
def ptRndvDone : Nat := 0x06
def ptAck : Nat := 0x08
def ptNack : Nat := 0x09
def ptHello : Nat := 0x0A
def ptHelloResp : Nat := 0x0B
def ptCollContrib : Nat := 0x10
def ptCollResult : Nat := 0x11
def ptLineMcast : Nat := 0x12
def ptMgmtReq : Nat := 0x18
def ptMgmtResp : Nat := 0x19

/-- Table 3.3: class, EXT, least and greatest PLEN of a packet type; none where the type is reserved (R102). -/
def ptypeRow (t : Nat) : Option (PClass × Bool × Nat × Nat) :=
  if t = ptWriteReq then some (.request, true, 1, 4096)
  else if t = ptReadReq then some (.request, true, 0, 0)
  else if t = ptReadResp then some (.response, true, 0, 4096)
  else if t = ptSendEager then some (.request, true, 0, 4096)
  else if t = ptSendRts then some (.request, true, 0, 0)
  else if t = ptRndvDone then some (.request, true, 0, 0)
  else if t = ptAck then some (.response, true, 0, 0)
  else if t = ptNack then some (.response, true, 0, 0)
  else if t = ptHello then some (.request, true, 0, 0)
  else if t = ptHelloResp then some (.response, true, 0, 0)
  else if t = ptCollContrib then some (.collective, true, 0, 4096)
  else if t = ptCollResult then some (.collective, true, 0, 4096)
  else if t = ptLineMcast then some (.collective, true, 1, 4096)
  else if t = ptMgmtReq then some (.request, false, 64, 64)
  else if t = ptMgmtResp then some (.response, false, 32, 32)
  else none

/-- The class of a packet by its type; a reserved type counts as request class. -/
def pktClass (h : Flit) : PClass :=
  match ptypeRow (hPtype h) with
  | some (c, _) => c
  | none => .request

/-- Whether a virtual channel carries a class (Table 3.5); VC7 carries any. -/
def vcOfClass (c : PClass) (v : Nat) : Bool :=
  match c with
  | .request => v ≤ 2 || v = 7
  | .response => (3 ≤ v && v ≤ 5) || v = 7
  | .collective => v = 6 || v = 7

/-- The malformed test of a head flit (03_packets.md, section on malformed packets). -/
def malformed (h : Flit) : Bool :=
  match ptypeRow (hPtype h) with
  | none => true
  | some (c, ext, lo, hi) =>
    hPlen h > 4096 || hPlen h < lo || hPlen h > hi || (hExt h != ext) || !(vcOfClass c (hVc h)) ||
      (hRstate h / 64 ≠ 0)

/-- The CRC-32C of a packet's flits before its tail, with RSTATE taken as 0 (R110). -/
def pktCrc (body : List Flit) : Nat :=
  match body with
  | [] => crc32c []
  | h :: t => crc32c (flitsBytes (fset h 184 8 0 :: t))

/-- The tail flit of a packet with the given flits before it (R109). -/
def tailOf (body : List Flit) : Flit := BitVec.ofNat 256 (pktCrc body)

/-- The tail that makes the end-to-end check fail: the inverse of the CRC (05_link_layer.md R193). -/
def badTailOf (body : List Flit) : Flit := BitVec.ofNat 256 (0xFFFFFFFF - pktCrc body)

/-- A tail flit with its CRC-32C inverted (18_faults.md Table 18.4). -/
def badTail (t : Flit) : Flit := fset t 0 32 (0xFFFFFFFF - fget t 0 32)

/-- Whether the CRC-32C in a complete packet's tail is right (R111). -/
def pktCrcOk (p : List Flit) : Bool :=
  match p.reverse with
  | [] => false
  | t :: rb => fget t 0 32 = pktCrc rb.reverse

/-- The fields from which a base header is formed (Table 3.1); RSTATE carries only the VC (R101). -/
structure Hdr where
  ptype : Nat
  ext : Bool
  plen : Nat
  first : Bool := true
  last : Bool := true
  dpid : Nat
  spid : Nat
  dinc : Nat := 0
  sinc : Nat := 0
  seq : Nat := 0
  birth : Nat := 0
  job : Nat := 0
  vc : Nat
  dhport : Nat := 0
  dfunc : Nat := 0
  dqidx : Nat := 0
  shport : Nat := 0
  sfunc : Nat := 0
  sqidx : Nat := 0
  deriving DecidableEq, Repr

/-- The base header flit of the given fields (R96); reserved bits are 0. -/
def Hdr.flit (h : Hdr) : Flit :=
  let x := h.ptype % 64 + bNat h.ext * 2 ^ 6 + (h.plen % 2 ^ 13) * 2 ^ 8 + bNat h.first * 2 ^ 21 + bNat h.last * 2 ^ 22 +
    (h.dpid % 2 ^ 20) * 2 ^ 24 + (h.spid % 2 ^ 20) * 2 ^ 44 + (h.dinc % 2 ^ 16) * 2 ^ 64 + (h.sinc % 2 ^ 16) * 2 ^ 80 +
    (h.seq % 2 ^ 32) * 2 ^ 96 + (h.birth % 2 ^ 40) * 2 ^ 128 + (h.job % 2 ^ 16) * 2 ^ 168 + (h.vc % 8) * 2 ^ 184 +
    (h.dhport % 4) * 2 ^ 192 + (h.dfunc % 64) * 2 ^ 194 + (h.dqidx % 2 ^ 18) * 2 ^ 200 + (h.shport % 4) * 2 ^ 218 +
    (h.sfunc % 64) * 2 ^ 220 + (h.sqidx % 2 ^ 18) * 2 ^ 226
  BitVec.ofNat 256 x

/-- A whole packet: header, extension, payload flits and tail (R92, R108, R109). -/
def formPacket (h : Hdr) (ext : Option Nat) (payload : List Byte) : List Flit :=
  let body := (match ext with
    | some e => [h.flit, BitVec.ofNat 256 e]
    | none => [h.flit]) ++ packFlits (flitsFor payload.length) payload
  body ++ [tailOf body]

/-- The extension flit of a complete packet (0 where it has none). -/
def pktExt (p : List Flit) : Nat :=
  match p with
  | h :: e :: _ => if hExt h then e.toNat else 0
  | _ => 0

/-- The payload bytes of a complete packet, pad left out (R108). -/
def pktPayload (p : List Flit) : List Byte :=
  match p with
  | [] => []
  | h :: t => (flitsBytes ((t.drop (bNat (hExt h))).take (flitsFor (hPlen h)))).take (hPlen h)

/-! Fields of the extension header (Table 3.4), of the extension flit as a number. -/

def xWkey (e : Nat) : Nat := field e 0 32
def xWoff (e : Nat) : Nat := field e 32 64
def xOplen (e : Nat) : Nat := field e 96 32
def xOpoff (e : Nat) : Nat := field e 128 32
def xOpid (e : Nat) : Nat := field e 160 24
def xRlen (e : Nat) : Nat := field e 192 13
def xStatus (e : Nat) : Nat := field e 184 8
def xComm (e : Nat) : Nat := field e 0 24
def xSrank (e : Nat) : Nat := field e 24 24
def xTag (e : Nat) : Nat := field e 48 64
def xMlen (e : Nat) : Nat := field e 112 32
def xMoff (e : Nat) : Nat := field e 144 32
def xSendOpid (e : Nat) : Nat := field e 176 24
def xRvoff (e : Nat) : Nat := field e 200 56
def xCumack (e : Nat) : Nat := field e 0 32
def xSack (e : Nat) : Nat := field e 32 64
def xNakseq (e : Nat) : Nat := field e 96 32
def xNakcode (e : Nat) : Nat := field e 128 8
def xNakopid (e : Nat) : Nat := field e 136 24
def xFullinc (e : Nat) : Nat := field e 0 32
def xNextseq (e : Nat) : Nat := field e 32 32
def xCid (e : Nat) : Nat := field e 0 24
def xPhase (e : Nat) : Nat := field e 24 8
def xDtype (e : Nat) : Nat := field e 32 4
def xRop (e : Nat) : Nat := field e 36 4
def xAcc32 (e : Nat) : Bool := field e 40 1 = 1
def xDim (e : Nat) : Nat := field e 41 2
def xMember (e : Nat) : Nat := field e 43 5
def xElems (e : Nat) : Nat := field e 48 12
def xSegoff (e : Nat) : Nat := field e 64 32

/-- RMA extension (Table 3.4). -/
def extRma (wkey woff oplen opoff opid rlen : Nat) : Nat :=
  wkey % 2 ^ 32 + (woff % 2 ^ 64) * 2 ^ 32 + (oplen % 2 ^ 32) * 2 ^ 96 + (opoff % 2 ^ 32) * 2 ^ 128 +
    (opid % 2 ^ 24) * 2 ^ 160 + (rlen % 2 ^ 13) * 2 ^ 192

/-- RESP extension (Table 3.4). -/
def extResp (oplen opoff opid status : Nat) : Nat :=
  (oplen % 2 ^ 32) * 2 ^ 96 + (opoff % 2 ^ 32) * 2 ^ 128 + (opid % 2 ^ 24) * 2 ^ 160 + (status % 256) * 2 ^ 184

/-- SEND extension (Table 3.4). -/
def extSend (comm srank tag mlen moff opid rvoff : Nat) : Nat :=
  comm % 2 ^ 24 + (srank % 2 ^ 24) * 2 ^ 24 + (tag % 2 ^ 64) * 2 ^ 48 + (mlen % 2 ^ 32) * 2 ^ 112 +
    (moff % 2 ^ 32) * 2 ^ 144 + (opid % 2 ^ 24) * 2 ^ 176 + (rvoff % 2 ^ 56) * 2 ^ 200

/-- ACK extension (Table 3.4). -/
def extAck (cumack sack nakseq nakcode nakopid : Nat) : Nat :=
  cumack % 2 ^ 32 + (sack % 2 ^ 64) * 2 ^ 32 + (nakseq % 2 ^ 32) * 2 ^ 96 + (nakcode % 256) * 2 ^ 128 +
    (nakopid % 2 ^ 24) * 2 ^ 136

/-- HELLO extension (Table 3.4). -/
def extHello (fullinc nextseq : Nat) : Nat := fullinc % 2 ^ 32 + (nextseq % 2 ^ 32) * 2 ^ 32

/-- COLL extension (Table 3.4). -/
def extColl (cid phase dtype rop : Nat) (acc32 : Bool) (dim member elems segoff : Nat) : Nat :=
  cid % 2 ^ 24 + (phase % 256) * 2 ^ 24 + (dtype % 16) * 2 ^ 32 + (rop % 16) * 2 ^ 36 + bNat acc32 * 2 ^ 40 +
    (dim % 4) * 2 ^ 41 + (member % 32) * 2 ^ 43 + (elems % 2 ^ 12) * 2 ^ 48 + (segoff % 2 ^ 32) * 2 ^ 64

/-- The position of a PID in the coordinate order of R60. -/
def coord (pid d : Nat) : Nat := field pid (5 * d) 5

end Sys2Proof.Machine
end

