-- ==== Sys2Proof/Machine/StNet.lean ====
section
/-! DEFINITION. State of the lanes, the link layer and the crossbar that no register shows (04_lanes.md, 05_link_layer.md,
01_architecture.md R23 to R33). What a register of Tables 4.11, 4.12 and 5.6 shows is held in the register fields. -/

namespace Sys2Proof.Machine

/-- One lane: comma lock (R133, R134) and training (R139, R142). -/
structure LaneState where
  /-- consecutive valid comma halves at the expected spacing -/
  commaRun : Nat := 0
  /-- CIDX of the last valid comma half -/
  lastCidx : Option (BitVec 10) := none
  /-- consecutive expected comma positions without a valid half -/
  missRun : Nat := 0
  /-- codewords decoded -/
  cwSeen : Nat := 0
  /-- numbers of the uncorrectable codewords among the last 4,096 -/
  cwBad : List Nat := []
  /-- CDR and marker lock -/
  marker : Bool := false
  /-- RX_READY of this receiver has been sent -/
  readySent : Bool := false
  /-- RX_READY of the peer has been received -/
  readyGot : Bool := false
  /-- the lane number the peer announces -/
  peerLane : Option Bool := none
  /-- status field answering the peer's c(-1) request, Table 4.4 -/
  preSt : BitVec 2 := 0
  /-- status field answering the peer's c(+1) request -/
  postSt : BitVec 2 := 0
  presetDone : Bool := false
  /-- coefficients in use (magnitudes of c(-1), c(0), c(+1)); TXP4 is the reset value of LANE_TXEQ -/
  pre : Nat := 6
  main : Nat := 50
  post : Nat := 8
  /-- coefficients kept for LP-DORMANT exit (R151) -/
  savedPre : Nat := 6
  savedMain : Nat := 50
  savedPost : Nat := 8
  /-- comma blocks sent, modulo 1,024 (Table 4.2) -/
  txCidx : BitVec 10 := 0
  /-- receiver settings frozen in LP-QUIET or kept through LP-DORMANT (R125) -/
  held : Bool := false
  /-- what this receiver requests of the peer's transmitter: bits 7 to 0 of the control word (Table 4.4, R139) -/
  req : BitVec 8 := 0
  deriving DecidableEq, Repr

/-- A comma half sent or received on lane 0 (R145, 06_timebase.md R210). -/
structure Stamp where
  cidx : BitVec 10
  /-- GT of its first symbol in 1/64 tick, 64 + 6 bits -/
  time : Nat
  /-- its place among the comma halves that the port has sent and received on lane 0 -/
  no : Nat
  deriving DecidableEq, Repr

/-- One port of two lanes: training, identity and link-delay measurement. -/
structure PortState where
  /-- the identity record last received and how many identical ones in a row (R141) -/
  idRecord : Option Flit := none
  idRun : Nat := 0
  /-- a low-power exit with shortened limits is in progress (R152) -/
  shortLimits : Bool := false
  /-- the transmit direction is in LP-QUIET (R149) -/
  txQuiet : Bool := false
  /-- comma timestamps sent on lane 0, newest first, at most 16 (R210) -/
  txStamps : List Stamp := []
  /-- comma timestamps received on lane 0, newest first, at most 16 -/
  rxStamps : List Stamp := []
  /-- number of the next comma stamp -/
  stampNo : Nat := 0
  /-- the 125 us interval in which the port's last SYNC flit was queued (06_timebase.md R207) -/
  syncAt : Option Nat := none
  /-- the last 64 values of d_corr in 1/64 tick, newest first (R146) -/
  delays : List Int := []
  /-- values of d_corr since entry to T_UP (saturates at 64) -/
  delayCount : Nat := 0
  /-- the port went to T_OFF for PEAT and is enabled again at exit (R620) -/
  peatOff : Bool := false
  /-- the port entered LP-DORMANT for PEAT -/
  peatDorm : Bool := false
  /-- bytes of the byte stream that fill no codeword pair yet (R127, R128) -/
  txPend : List Byte := []
  /-- codeword pairs sent since the last comma block; at 2,048 the next one is due (R132) -/
  txPair : Nat := 0
  /-- a wake marker waits for the comma half that goes first (R150) -/
  wakeHeld : Bool := false
  deriving DecidableEq, Repr

/-- A frame in the replay buffer (R170). -/
structure FrameRec where
  lseq : BitVec 12
  /-- 0 to 7: VC0 to VC7; 8: BC -/
  chan : Nat
  flits : List Flit
  deriving DecidableEq, Repr

/-- The unit a transmitter has announced in NEXT (R161): what the trailer or LCW sent last says of the one after it. -/
inductive NextUnit
  /-- an LCW at once -/
  | lcw
  /-- filler, then an LCW at the next codeword-pair boundary -/
  | fillLcw
  /-- a new frame of `n` flits of a channel -/
  | frame (chan n : Nat)
  /-- a frame of the replay buffer, sent again -/
  | replay (f : FrameRec)
  deriving DecidableEq, Repr

/-- One link: the part of the transmitter and receiver state no register shows. -/
structure LinkState where
  /-- the next START sent carries FRESH (R191); a reset of the LINK block makes it true -/
  fresh : Bool := true
  /-- the peer's first START has been received since T_UP (R746) -/
  begun : Bool := false
  /-- a START is owed in answer to a START received (R746) -/
  answer : Bool := false
  /-- FRESH of the session: both directions started fresh by this side's START -/
  sentFresh : Bool := false
  /-- frames not yet acknowledged, oldest first -/
  buffer : List FrameRec := []
  /-- index in `buffer` of the next frame to resend, while a replay goes on: one already announced is not counted (R174) -/
  replayAt : Option Nat := none
  /-- CLK_GT cycle at which the last replay started -/
  replayStart : Option Nat := none
  noProgress : Nat := 0
  /-- LCWs of order 1 of R188 waiting, oldest first: KIND and ARG -/
  lcws : List (Nat × Nat) := []
  /-- an LCW is due under R172 or R184 -/
  lcwDue : Bool := false
  /-- XOFF value the receiver wants (R183); LINK_STATUS.LOCAL_XOFF is the one last sent -/
  xoff : BitVec 8 := 0
  /-- frames accepted since the last LCW sent (R172) -/
  sinceLcw : Nat := 0
  /-- the unit announced in the last NEXT field -/
  announced : NextUnit := .fillLcw
  /-- BC frames and LCWs sent since the last frame of the packet that holds the output (R190) -/
  gapBc : Nat := 0
  gapLcw : Nat := 0
  /-- BC flits waiting to be sent, oldest first -/
  bcOut : List Flit := []
  /-- CLK_GT cycle of the last slot audit (R177) -/
  auditAt : Option Nat := none
  /-- a retrain that keeps the session is scheduled (R178) -/
  leakDue : Bool := false
  /-- an LP_REQ has been sent and not answered; true: LP-DORMANT -/
  lpReq : Option Bool := none
  /-- a low-power state agreed on, entered at the next codeword-pair boundary (R197); true: LP-DORMANT -/
  lpEntry : Option Bool := none
  /-- bytes received and not yet taken, each with the uncorrectable mark of its codeword (R131): whole codeword pairs arrive -/
  rxBytes : List (Byte × Bool) := []
  /-- NEXT of the unit received last (R161) -/
  rxNext : Nat := 9
  /-- the router sees the port DOWN because PORT_DLY exceeds 90 ns (R182) -/
  outOfRange : Bool := false
  /-- BC flits handed to a consumer and not yet taken by it, oldest first (R30) -/
  bcIn : List Flit := []
  deriving DecidableEq, Repr

/-- What the crossbar connects a packet to (Table 1.2). -/
inductive Target
  /-- crossbar output 0 to 95: a network port; 96 to 107: E0 to E11 -/
  | out (o : Nat)
  /-- the collective tap (R26) -/
  | tap
  deriving DecidableEq, Repr

/-- The decision for a waiting packet (07_dynamic_routing.md R238). -/
structure Route where
  target : Target
  vc : Nat
  deriving DecidableEq, Repr

/-- A packet in an input buffer. -/
structure BufPkt where
  /-- every flit received so far, head first; the router's changes of RSTATE stand in the head -/
  seen : List Flit
  /-- flits still to arrive -/
  need : Nat
  /-- flits sent on through the crossbar, or dropped -/
  sent : Nat := 0
  /-- GT at which the head arrived -/
  arrival : Nat := 0
  /-- current route decision; fixed once granted -/
  route : Option Route := none
  granted : Bool := false
  /-- counted once in FIT_DENY (08_scheduled_traffic.md R300) -/
  denied : Bool := false
  /-- a malformed head (03_packets.md R114) the router has not yet judged -/
  bad : Bool := false
  /-- the packet is being discarded: its flits are dropped as they arrive -/
  dropping : Bool := false
  /-- an uncorrectable error has hit it: its tail CRC-32C is inverted as it arrives (18_faults.md Table 18.4) -/
  poison : Bool := false
  /-- one of the copies a reduction unit's packet is sent as (14_collectives.md R518): the copies of one packet share the number -/
  copy : Option Nat := none
  /-- the PID of the peer a copy goes to -/
  copyTo : Nat := 0
  /-- the TIMED launch it is a copy of (14_collectives.md R526) -/
  launch : Option LaunchId := none
  deriving DecidableEq, Repr

/-- One input virtual channel: packets in order, and the discard state of a malformed head (03_packets.md R114). -/
structure InVc where
  pkts : List BufPkt := []
  discarding : Bool := false
  deriving DecidableEq, Repr

/-- The packet that holds a crossbar output (01_architecture.md R29). -/
structure Holder where
  /-- input 0 to 95: network port, 96 to 107: E0 to E11 -/
  input : Nat
  vc : Nat
  outVc : Nat
  /-- launched or forwarded in a slot: no fit check, VC7 order of R188 -/
  slot : Bool := false
  /-- CLK_GT cycles at the grant -/
  since : Nat := 0
  deriving DecidableEq, Repr

/-- One entry of the throttle table (07_dynamic_routing.md R264). -/
structure ThrEntry where
  dpid : Nat
  rate : Nat
  next : Nat
  since : Nat
  deriving DecidableEq, Repr

/-- An armed flip (07_dynamic_routing.md R253 to R257). -/
structure ArmedFlip where
  target : Nat
  bank : Nat
  mode : Nat
  id : Nat
  deriving DecidableEq, Repr

/-- When HOLDING clears (07_dynamic_routing.md R257). -/
inductive HoldEnd
  /-- at a GT -/
  | gt (t : Nat)
  /-- at a local CLK_GT cycle count: the flip was made while INVALID -/
  | local_ (c : Nat)
  deriving DecidableEq, Repr

/-- The guard of a TIMED launch (14_collectives.md R527): the launch, and the outputs of its output sets. -/
structure Guard where
  launch : LaunchId
  outs : List Nat
  deriving DecidableEq, Repr

/-- A packet the router does not admit yet (R260, R264, R265, R270): its endpoint port and VC; for a packet sent as copies, the peers and the GT
of a TIMED launch. -/
structure Unadmitted where
  e : Nat
  vc : Nat
  pkt : List Flit
  copies : Option (List Nat) := none
  launch : Option LaunchId := none
  deriving DecidableEq, Repr

/-- Router state that no register shows (07_dynamic_routing.md). -/
structure RouterState where
  /-- alias entries of bank 0 and bank 1 by index (Table 7.3) -/
  bank0 : Tab Nat := []
  bank1 : Tab Nat := []
  /-- latest LINE notice of member u of dimension d, key 32 * d + u; an unlisted one is all zeros (R246) -/
  rows : Tab Nat := []
  /-- OFF_SEEN bit for this device in the latest LINE notice that a port has received (R268) -/
  offSeen : Tab Bool := []
  /-- content of the last LINE notice sent in each dimension (R245) -/
  sent : Tab Nat := []
  /-- throttle table, most recently used first (R264) -/
  throttle : List ThrEntry := []
  /-- pacing of E0 to E9 (R265): the next GT, packets since the last decrease, and whether the queue is above LQ_THR -/
  epNext : Tab Nat := []
  epSince : Tab Nat := []
  epAbove : Tab Bool := []
  /-- cycle in which NOROUTE_CYCLES last counted -/
  noRouteAt : Option Nat := none
  armed : Option ArmedFlip := none
  holdEnd : Option HoldEnd := none
  guards : List Guard := []
  /-- number of the next packet sent as copies -/
  copyNo : Nat := 0
  /-- packets that wait in Caldera, in the transmit engines and in the reduction units for their admission, oldest first: until the device is
  ADOPTED (R260), in mode SCHEDULED (R270), and for their rates (R264, R265) -/
  unadmitted : List Unadmitted := []
  deriving DecidableEq, Repr

end Sys2Proof.Machine
end

