-- ==== Sys2Proof/Machine/StOut.lean ====
section
/-! DEFINITION. What the device puts on its outside surfaces (00_scope.md R19): the entries of State.out. -/

namespace Sys2Proof.Machine

/-- The attributes of a request to host memory (10_translation.md, 09_host_attach_and_queues.md). -/
structure BusReq where
  hport : Nat
  func : Nat
  /-- PASID prefix, none for a bus address without PASID -/
  pasid : Option Nat := none
  /-- Privileged Mode Requested -/
  priv : Bool := false
  /-- Relaxed Ordering -/
  relaxed : Bool := false
  /-- No Snoop -/
  noSnoop : Bool := false
  addr : Nat
  deriving DecidableEq, Repr

/-- One thing the device has sent or done at its surface. -/
inductive Out
  /-- a link frame: flits and trailer (Table 5.2) -/
  | frame (port : Nat) (flits : List Flit) (trailer : Nat)
  /-- a link control word (Table 5.3) -/
  | lcw (port : Nat) (word : Nat)
  /-- filler of `n` bytes 0x00, to the next codeword-pair boundary -/
  | filler (port n : Nat)
  /-- the levels that a lane sends, in order, before the transmit filter, and the magnitudes of c(-1), c(0) and c(+1) in use (R122, R123) -/
  | levels (lane : Nat) (coef : Nat × Nat × Nat) (ui : List Level)
  /-- a comma half (Table 4.2) -/
  | comma (lane : Nat) (cidx ctag : Nat)
  /-- a wake marker (R150) -/
  | wakeMarker (port : Nat)
  /-- a lane repeats training frames with these control and status words from now on (Table 4.4); the levels of one follow -/
  | training (lane : Nat) (control status : Nat)
  /-- every codeword that the port sends from now on carries these 340 data bytes (Table 4.6) -/
  | codewords (port : Nat) (data : List Byte)
  /-- both lanes of a port go to electrical idle (Table 4.6, R151) -/
  | idle (port : Nat)
  /-- both lanes of a port send the quiet pattern from now on: the levels -1 and +1 alternating (R149) -/
  | quiet (port : Nat)
  /-- a lane sends PRBS31 unencoded from now on, from a state of the generator of R130 (PORT_CTRL.PRBS_TEST) -/
  | prbs (lane seed : Nat)
  /-- a read of host memory of `len` bytes -/
  | dmaRead (req : BusReq) (len : Nat)
  /-- a write of host memory -/
  | dmaWrite (req : BusReq) (bytes : List Byte)
  /-- a CXL.cache request of a line in the Shared state, the only kind the device makes (R322) -/
  | cxlShared (req : BusReq)
  /-- a compare-and-swap of host memory -/
  | dmaCas (req : BusReq) (compare swap : Nat)
  /-- an MSI-X message -/
  | msix (hport func vec : Nat) (addr : Nat) (data : Nat)
  /-- an SMBus message sent -/
  | smbus (bytes : List Byte)
  /-- a maskable interrupt to Caldera for a fault page -/
  | calInterrupt (page : Nat)
  /-- a trap to Caldera core 0 for a fault page -/
  | calTrap (page : Nat)
  /-- a mirror record on VC0 of a CARR port: header flit and content (Table 15.4, R542) -/
  | mirror (port vc : Nat) (header : Flit) (body : MirRec)
  /-- an acknowledgement or heartbeat flit on VC3 of a CARR port (R542, R543) -/
  | carr (port vc : Nat) (flit : Flit)
  /-- a full reset began -/
  | resetStart
  /-- a host port starts link training (Table 17.2, R610) -/
  | hostTrain (hport : Nat)
  /-- a pin takes a level; none: released or high impedance -/
  | pin (name : String) (level : Option Bool)
  deriving DecidableEq, Repr

end Sys2Proof.Machine
end

