-- ==== Sys2Proof/Machine/StPair.lean ====
section
/-! DEFINITION. State of pair operation that no register shows (15_pair_operation.md). -/

namespace Sys2Proof.Machine

/-- An effect that waits for the mate's acknowledgement of its record (Table 15.6). -/
inductive Gated
  /-- a packet formed: endpoint port, virtual channel -/
  | packet (e vc : Nat) (pkt : List Flit)
  /-- a packet formed for a launch entry goes to VC7 staging of endpoint port `e`, or past its slot start is demoted
  (08_scheduled_traffic.md R294, R306) -/
  | stage (e start : Nat) (pkt : List Flit)
  /-- a completion entry at a CQ index -/
  | entry (q idx : Nat) (x : CqEntry)
  /-- the host write of a CNT_FETCH, and what it belongs to -/
  | hostWrite (req : BusReq) (bytes : List Byte) (owner : Owner)
  /-- recording of a SEND_EAGER or SEND_RTS: transport context, the packet's head and extension flits, pipeline, and the NAKCODE it is
  refused with -/
  | record (tc : Nat) (head ext : Flit) (e : Nat) (nak : Option Nat)
  /-- completion of a revoke of a window -/
  | revokeDone (win : Nat)
  /-- the final reply of a started command: number, status, result -/
  | reply (n status : Nat) (result : List Byte)
  deriving DecidableEq, Repr

/-- A record sent and not acknowledged. -/
structure SentRec where
  mseq : Nat
  body : MirRec
  /-- CLK_GT cycle at which it was sent; none: not sent yet, because 4,096 are unacknowledged (R549) -/
  sentAt : Option Nat
  deriving DecidableEq, Repr

/-- What the mirror knows of a queue pair of the mate (R556 to R558). -/
structure ShadowQp where
  /-- SQ indices with an acknowledged RESERVE -/
  reserved : List Nat := []
  /-- entries of DONE records from the mirrored CQ_CI on: CQ index and entry -/
  done : List (Nat × Flit) := []
  /-- SQ index after the highest one that a DONE covers -/
  next : Nat := 0
  /-- the CQ index after the last DONE -/
  cqNext : Nat := 0
  /-- the highest RQ index of a POST, plus 1 -/
  rqNext : Nat := 0
  /-- receives marked bound; source rank and tag of the message, where an UNEXP record named them -/
  bound : List (Recv × Option (Nat × Nat)) := []
  deriving DecidableEq, Repr

/-- An armed planned move (R564). -/
structure Move where
  target : Nat
  isReturn : Bool
  /-- this device gives -/
  giving : Bool
  /-- the giving device has stopped new operations (R565) -/
  quiet : Bool := false
  /-- the taking device has applied YIELD -/
  yielded : Bool := false
  /-- at G the returning device's write of its incarnation number had verified (R567) -/
  verified : Bool := false
  deriving DecidableEq, Repr

/-- Pair operation. -/
structure PairState where
  /-- a CARR session is up: INC of the mate has been applied, and this device's has been sent -/
  session : Bool := false
  /-- this device has sent its INC of the session -/
  opened : Bool := false
  /-- a heartbeat of the mate has been received in this session -/
  hbSeen : Bool := false
  /-- CARR is lost, and no MATE_ALIVE edge since has shown whether the mate lives -/
  doubt : Bool := false
  /-- which CARR ports were UP or LP when last looked at: P94, P95 -/
  up94 : Bool := false
  up95 : Bool := false
  /-- ended by a reserved record (R548): CARR counts as lost until a new session starts -/
  ended : Bool := false
  /-- next MSEQ to assign -/
  txNext : Nat := 0
  unacked : List SentRec := []
  /-- effects that wait: MSEQ of the record, effect -/
  waits : List (Nat × Gated) := []
  /-- MSEQ of the SYNC_END sent, once it has been acknowledged, and of the one received -/
  syncEndSeq : Option Nat := none
  syncAcked : Bool := false
  syncRecv : Bool := false
  /-- the mirror of the mate is complete (R554) -/
  complete : Bool := false
  /-- CLK_GT cycle of the last unit received -/
  lastUnit : Nat := 0
  /-- IDX records due: object key (QPs by index; event queues by 2^18 plus key), and when the last one was sent, plus 1 -/
  idxDirty : List Nat := []
  idxAt : Tab Nat := []
  /-- the mode the last MODE record carried -/
  modeSent : Bool := false
  move : Option Move := none
  /-- positions given up lately: PID, incarnation served, GT at which R566 ends -/
  stale : Option (Nat × Nat × Nat) := none
  /-- incarnation a returning device has written for its position (R567) -/
  returnInc : Option Nat := none
  shadows : Tab ShadowQp := []
  /-- shadow contexts -/
  ctxs : Tab CtxFields := []
  /-- keys of shadow windows whose revoke start has been applied, and that no re-executed WIN_REVOKE has met (R556) -/
  revoked : List Nat := []
  /-- the mate's state and ADOPTING_YOU bit, from its last heartbeat -/
  mateState : Nat := 0
  mateAdopts : Bool := false
  mateAdoptInc : Nat := 0
  deriving DecidableEq, Repr

end Sys2Proof.Machine
end

