-- ==== Sys2Proof/Machine/StPwr.lean ====
section
/-! DEFINITION. State of reset, power, supplies, firmware storage, the counter reader and the pins that no register shows
(17_reset_power_supplies.md, 19_performance_counters.md, 20_firmware_and_trust.md, 21_pins_and_electrical.md). -/

namespace Sys2Proof.Machine

/-- How far start-up has come (Table 17.2). -/
inductive BootStage
  /-- T0 has not come: the blocks are held in reset -/
  | reset
  /-- T0: the boot ROM is about to choose an image -/
  | rom
  /-- ROM load mode (20_firmware_and_trust.md R686) -/
  | load
  /-- TEST_MODE at T0: only the boot ROM runs (21_pins_and_electrical.md R723) -/
  | test
  /-- Caldera firmware runs, the configuration is applied -/
  | firmware
  /-- the incarnation number could not be written: no further (02_grid_and_addressing.md R89) -/
  | incFailed
  /-- the HBM is initialised, the blocks are configured and the ports enabled -/
  | blocks
  /-- start-up complete -/
  | done
  deriving DecidableEq, Repr

/-- Power and reset sequencing: state a full reset clears. -/
structure PwrState where
  /-- a full reset is in progress: the blocks are held (R602, R603) -/
  held : Bool := true
  boot : BootStage := .reset
  /-- CLK_GT cycle of T0 -/
  t0 : Nat := 0
  /-- start-up ends in RECOVERY whatever LOOPS says (20_firmware_and_trust.md R685, R700) -/
  recovery : Bool := false
  /-- the delay of a RESET_FULL, and the 1 ms of a firmware activation, run -/
  delayReset : Bool := false
  fwReset : Bool := false
  /-- the PEAT request set TRANSIT_OFF, which RUN clears again (R615, R624) -/
  transitSet : Bool := false
  /-- entry being held or left: the first wake of it as bit, DETAIL and always-on count; and whether it came during the entry (R626, R628) -/
  first : Option (Nat × Nat × Nat) := none
  during : Bool := false
  /-- sampled at PEAT entry (06_timebase.md R231): always-on count, internal UNC -/
  savedAon : Nat := 0
  savedUnc : Nat := 0
  /-- RATE_LEARNED when GT was sampled -/
  savedLearned : Bool := false
  /-- both VAUX inputs, or both always-on clocks, were lost during PEAT -/
  gtLost : Bool := false
  deriving DecidableEq, Repr

/-- The always-on domain and what the board drives: kept by everything but a power-on reset (Table 17.3, R601). -/
structure AonState where
  /-- steps since the last CLK_AON cycle; 64 steps of 0.625 ns are one cycle of 40 ns -/
  sub : Nat := 0
  /-- entries into MOSS and PEAT (Table 17.9) -/
  sleeps : Nat := 0
  /-- both inputs of the always-on clock have stopped: the count stands still -/
  stopped : Bool := false
  /-- the undervoltage hold (R634) -/
  rails : Bool := false
  /-- always-on count at which the confirm timer of a trial expires (20_firmware_and_trust.md R693) -/
  confirmEnd : Option Nat := none
  /-- the confirm time has ended in PEAT, where nothing acts on it; whether the boot record can be written (01_architecture.md R49) -/
  confirmDue : Option Bool := none
  /-- always-on count of the last command that wrote the boot record, plus 1 (20_firmware_and_trust.md R708) -/
  bootAt : Nat := 0
  /-- another device drives the ERR_N net low -/
  errLow : Bool := false
  /-- PERST_N[h] is low -/
  perst : Tab Bool := []
  /-- set x is deasserted and the device waits RESHARE_HOLD after its return: true while its PWR_x_OK has returned -/
  returnedA : Bool := false
  returnedB : Bool := false
  deriving DecidableEq, Repr

/-- What MRAM, one-time-programmable storage and the serial flash hold across resets. -/
structure NvState where
  /-- incarnation number (02_grid_and_addressing.md R87) -/
  inc : Nat := 0
  /-- the boot record (20_firmware_and_trust.md R678, R684): active slots (false: A), trials, start-ups of the trial, its confirm time -/
  activeImg : Bool := false
  activeCfg : Bool := false
  trialImg : Bool := false
  trialCfg : Bool := false
  trialBoots : Nat := 0
  trialMin : Nat := 0
  floorPending : Bool := false
  /-- pending topology word (R59) -/
  topo : Option Nat := none
  /-- a trial has been abandoned or a slot been passed over since the last start-up showed FALLBACK -/
  fallback : Bool := false
  /-- anti-rollback record M_c, and OTP steps blown C_c (R694) -/
  svn : Tab Nat := []
  coarse : Tab Nat := []
  /-- OTP hash of the vendor key (R679) as 64 bytes, byte 0 lowest -/
  vkh : Nat := 0
  /-- configuration slots A and B, 128 KiB each, one after the other; a byte nothing has written reads 0 (log 6) -/
  cfg : Tab Byte := []
  /-- an uncorrectable error disqualifies configuration slot A, or B, until it is written (20_firmware_and_trust.md R707) -/
  cfgBadA : Bool := false
  cfgBadB : Bool := false
  /-- serial flash; a byte nothing has written reads 0xFF (log 6) -/
  flash : Tab Byte := []
  /-- the event journal (R709): entries of 64 bytes by index, and the next index -/
  journal : Tab Nat := []
  head : Nat := 0
  deriving DecidableEq, Repr

/-- Caldera's firmware: what the boot loaded and what the running start-up keeps (20_firmware_and_trust.md). -/
structure FwState where
  /-- the configuration in use, format 1, as bytes (Table 20.8) -/
  config : List Byte := []
  /-- SVN and HASH of the components loaded, by ID -/
  comps : List (Nat × Nat × List Byte) := []
  /-- the command of a live activation -/
  live : Option Nat := none
  /-- Caldera has restarted in it -/
  restarted : Bool := false
  /-- GT of the journal entries of the last second, newest first (R709) -/
  logged : List Nat := []
  deriving DecidableEq, Repr

/-- A snapshot slot whose header is still to be written (19_performance_counters.md R672). -/
structure SnapWrite where
  slot : Nat
  header : Nat
  deriving DecidableEq, Repr

/-- The counter reader (19_performance_counters.md). -/
structure CntState where
  /-- W in ticks and START_GT of the configuration in force -/
  window : Nat := 0
  start : Nat := 0
  /-- index of the next boundary -/
  k : Nat := 0
  /-- a configuration that waits for its START_GT: WINDOW_US and START_GT -/
  next : Option (Nat × Nat) := none
  /-- that START_GT had passed when the configuration was armed (06_timebase.md R225) -/
  nextLate : Bool := false
  /-- SEQ of the next slot -/
  seq : Nat := 0
  writing : Option SnapWrite := none
  /-- LATCH_GT of the last slot written with data -/
  prevLatch : Nat := 0
  /-- the next slot is EXTENDED, and a PEAT lay before it -/
  extended : Bool := false
  slept : Bool := false
  /-- keys of counters that have wrapped since the last slot written with data -/
  wraps : List Nat := []
  /-- slots of the ring that hold an uncorrectable error (Table 19.5) -/
  bad : List Nat := []
  /-- flit counts of each port at the last slot with data: key 2 p for sent, 2 p + 1 for received -/
  flits : Tab Nat := []
  deriving DecidableEq, Repr

/-- States of the TAP controller (IEEE 1149.1). -/
inductive Tap
  | reset | idle | selDr | capDr | shDr | ex1Dr | pauDr | ex2Dr | updDr | selIr | capIr | shIr | ex1Ir | pauIr | ex2Ir | updIr
  deriving DecidableEq, Repr

/-- The instructions of R721, and one that TEST_MODE alone makes available. -/
inductive JtagInstr
  | bypass | idcode | sample | extest | internal
  deriving DecidableEq, Repr, Inhabited

/-- The pins, the TAP and the thermal control: state no register shows (21_pins_and_electrical.md). -/
structure PinState where
  tap : Tap := .reset
  /-- shift register, the bit nearest TDO first -/
  shift : List Bool := []
  instr : JtagInstr := .idcode
  /-- boundary cells driven by EXTEST -/
  cells : List Bool := []
  /-- level of TDO; none: high impedance -/
  tdo : Option Bool := none
  /-- PPS_OUT is high -/
  pps : Bool := false
  /-- the GT second last signalled on PPS_OUT, plus 1 -/
  ppsLast : Nat := 0
  /-- samples of THERMAL_SAMPLE in a row below THR_ON - 5 °C, and whether starts are held at 25 % -/
  cool : Nat := 0
  deep : Bool := false
  /-- by engine: `time.cycles` at the last start of a descriptor, plus 1; 0: none yet -/
  started : Tab Nat := []
  /-- host ports in L2, and those whose WAKE_N the device drives low -/
  l2 : Tab Bool := []
  wake : Tab Bool := []
  /-- host ports whose link went down and has not come up again (LINK_DOWN; log 73) -/
  down : Tab Bool := []
  deriving DecidableEq, Repr

end Sys2Proof.Machine
end

