-- ==== Sys2Proof/Machine/StSchd.lean ====
section
/-! DEFINITION. State of the scheduler that no register of Table 8.13 shows (08_scheduled_traffic.md). -/

namespace Sys2Proof.Machine

/-- A START entry that found no head, remembered for HQ (R307): output, entry, and the GT at which it is forgotten. -/
structure MissedStart where
  out : Nat
  entry : Nat
  until_ : Nat
  deriving DecidableEq, Repr

/-- A skipped descriptor whose completion is owed (R312): queue pair, ring index, status. -/
structure SkippedDesc where
  qp : Nat
  idx : Nat
  status : Nat
  deriving DecidableEq, Repr

/-- A burst whose decision has been made (R313 to R316): its entry in the burst list, iteration of the running image, buffer of its image,
level, start and end GT, and whether the device acts on it. -/
structure Burst where
  entry : Nat
  iter : Nat
  buf : Nat := 0
  level : Nat
  start : Nat
  stop : Nat
  acts : Bool := true
  deriving DecidableEq, Repr

/-- The scheduler. -/
structure SchdState where
  /-- START_GT of the ARMED or RUNNING image -/
  startGt : Nat := 0
  /-- a switch that waits for its GT (R291): buffer and START_GT -/
  switch : Option (Nat × Nat) := none
  /-- launches fetched so far of each transmit engine, counted through the iterations of its list; the switch image's second -/
  fetched : Tab Nat := []
  fetchedNext : Tab Nat := []
  /-- VC7 staging of E0 to E11, oldest first -/
  staging : Tab (List (List Flit)) := []
  /-- slot starts served, by table: absolute slot number plus 1 (R276) -/
  served : Tab Nat := []
  /-- slot starts before this GT had passed when they were armed or a step passed them: they are LATE (06_timebase.md R225, R226) -/
  passedTo : Nat := 0
  /-- slot starts up to this GT were passed by a forward step: their launches are demoted (R307) -/
  steppedTo : Nat := 0
  missing : List MissedStart := []
  /-- prefetch misses: table and absolute slot (R295) -/
  misses : List (Nat × Nat) := []
  /-- iteration plus 1 of the last prefetch miss (R307) -/
  missIter : Nat := 0
  /-- ports that failed R288 during this run -/
  pathFailed : List Nat := []
  /-- iteration for which BREACH_CNT counts (R308) -/
  breachIter : Nat := 0
  skipped : List SkippedDesc := []
  bursts : List Burst := []
  /-- steps of the ramp done, 0 to 16, and the level held -/
  ramp : Nat := 0
  level : Nat := 0
  deriving DecidableEq, Repr

end Sys2Proof.Machine
end

