-- ==== Sys2Proof/Machine/StXlt.lean ====
section
/-! DEFINITION. State of the translation unit (10_translation.md): contexts, cached translations, walks, park slots and
invalidations. -/

namespace Sys2Proof.Machine

/-- Access kinds (R374); their codes are those of Table 10.6. -/
inductive AccKind
  | read | write | fetch
  deriving DecidableEq, Repr

def AccKind.code : AccKind → Nat
  | .read => 0
  | .write => 1
  | .fetch => 2

/-- What needs a translation. -/
inductive Access
  /-- descriptor fetch of a ring -/
  | sqFetch (q : Nat)
  | rqFetch (q : Nat)
  /-- doorbell record -/
  | record (q : Nat)
  /-- the start of the operation of the QP's send descriptor `x` -/
  | start (q x : Nat) (fired : Bool)
  /-- a packet of an operation, by the operation's number -/
  | payload (op : Nat)
  /-- a retransmission: transport context and sequence number -/
  | resend (tc seq : Nat)
  /-- landing of a READ_RESP -/
  | landing (tc seq : Nat)
  /-- check 5 in receive pipeline `e` -/
  | pipe (e : Nat)
  /-- landing of the packet that a match unit has in hand -/
  | stage (unit : Nat)
  /-- copy of stored bytes from the Mire into a receive of the QP, by post sequence -/
  | mire (q post : Nat)
  /-- the CQ or EQ ring of a create command -/
  | ring (cmd : Nat)
  /-- payload of a launch entry of a transmit engine -/
  | launch (e : Nat)
  /-- the CQ ring of an adopted QP, or the ring of an adopted event queue (15_pair_operation.md R557, R561) -/
  | adopt (eq : Bool) (key : Nat)
  deriving DecidableEq, Repr

/-- A cached translation (R380). -/
structure TlbEntry where
  ctx : Nat
  base : Nat
  size : Nat
  out : Nat
  w : Bool
  u : Bool
  f : Bool
  g : Bool
  m : Bool
  noSnoop : Bool
  /-- CLK_GT cycle of its fill -/
  fill : Nat
  deriving DecidableEq, Repr

/-- A walk-cache entry: an interior entry of a level, the part of the address space it covers, the table it names, and the
cumulative bits up to it. -/
structure WcEntry where
  ctx : Nat
  level : Nat
  /-- virtual address divided by the size the entry covers -/
  region : Nat
  table : Nat
  w : Bool
  u : Bool
  f : Bool
  fill : Nat
  deriving DecidableEq, Repr

/-- Where a walk stands (R373). -/
inductive WalkStage
  /-- the entry of the level is being read -/
  | reading
  /-- a compare-and-swap on the path entry of this position is out -/
  | swapping (i : Nat)
  deriving DecidableEq, Repr

/-- An access that waits for a walk: the transmit engine whose L1 TLB the result fills, its access kind, and the park slot whose RESUME it
is (R393). -/
structure Waiter where
  who : Access
  eng : Option Nat := none
  acc : AccKind := .read
  slot : Option Nat := none
  deriving DecidableEq, Repr

/-- A walk in progress, or one that waits for a walker (R373). -/
structure Walk where
  ctx : Nat
  va : Nat
  acc : AccKind
  /-- level and table of the entry being read -/
  level : Nat
  table : Nat
  /-- cumulative bits of the walk-cache entry it began from -/
  w0 : Bool := true
  u0 : Bool := true
  f0 : Bool := true
  /-- entries read so far, highest level first: level, address, value -/
  path : List (Nat × Nat × Nat) := []
  restarts : Nat := 0
  stage : WalkStage := .reading
  who : List Waiter := []
  /-- the context and the enabled walk ranges of its port, first and last page, as they stood when it began (R379, R398) -/
  c : CtxFields := {}
  ranges : List (Nat × Nat) := []
  /-- the read or compare-and-swap that is out belongs to a discarded walk (R387): its return is dropped and the walk starts again -/
  stale : Bool := false
  deriving DecidableEq, Repr

/-- A park slot (R391, R392). -/
structure ParkSlot where
  used : Bool := false
  gen : Nat := 0
  who : Access := .sqFetch 0
  q : Nat := 0
  ctx : Nat := 0
  va : Nat := 0
  acc : AccKind := .read
  kind : Nat := 0
  /-- its parking time ended in MOSS, and the outcome waits for the exit (01_architecture.md R50, 17_reset_power_supplies.md R616) -/
  expired : Bool := false
  deriving DecidableEq, Repr

/-- Invalidation scopes (Table 10.4). -/
inductive InvScope
  | range | ctx | ctxNonglobal | all
  deriving DecidableEq, Repr

/-- Who asked for an invalidation. -/
inductive InvSource
  /-- a started command, by its number -/
  | cmd (n : Nat)
  /-- XLT_INV_CTRL.GO -/
  | expert
  deriving DecidableEq, Repr

/-- An accepted invalidation: what it covers, the spans of the translations it removed (context, base, size), and the DMA reads it waits for (those
numbered below `upto`). -/
structure Inval where
  scope : InvScope
  ctx : Nat
  va : Nat
  pages : Nat
  src : InvSource
  upto : Nat
  removed : List (Nat × Nat × Nat) := []
  deriving DecidableEq, Repr

/-- The translation unit. -/
structure XltState where
  ctxs : Tab CtxFields := []
  /-- entries of the L1 TLBs, by transmit engine -/
  l1 : Tab (List TlbEntry) := []
  l2 : List TlbEntry := []
  /-- walk-cache entries of every level -/
  wc : List WcEntry := []
  /-- the four walkers -/
  walks : Tab (Option Walk) := []
  /-- walks that wait for a walker, oldest first -/
  walkQueue : List Walk := []
  parks : Tab ParkSlot := []
  /-- a fault kind found for the launch entry of a transmit engine; 0 none -/
  launchFault : Tab Nat := []
  /-- accepted invalidations, oldest first -/
  invals : List Inval := []
  deriving DecidableEq, Repr

end Sys2Proof.Machine
end

