-- ==== Sys2Proof/Machine/State.lean ====
section
/-! DEFINITION. The machine's state as plain data, the reasons a step can stop, and the state right after power-on reset. -/

namespace Sys2Proof.Machine

/-- Why a step could stop with a fault. There is no such reason: the spec gives every command of the block an effect
(log 7), so no constructor is needed. -/
inductive Fault
  deriving DecidableEq, Repr

/-- Why a step could be refused. -/
inductive Refusal
  /-- raised by an arm of exec whose command has no meaning yet; safe -/
  | notModelled (mnemonic : String)
  deriving DecidableEq, Repr

/-- Clocks: GT with its fraction, local cycles (06_timebase.md R203). -/
structure TimeState where
  /-- GT * 2^40 + fraction -/
  acc : Nat := 0
  /-- CLK_GT cycles since reset -/
  cycles : Nat := 0
  deriving DecidableEq, Repr

/-- What a raised fault source has still to do in this step (18_faults.md R645): it is done when the command's own effect is
complete, so a state between commands has none. -/
inductive Reaction
  /-- the MSI-X message of a vector of a PF -/
  | msix (hport vec : Nat)
  /-- a block reset of the instance of a fault page -/
  | blockReset (page : Nat)
  /-- a full reset with cause FAULT -/
  | chipReset (page source : Nat)
  deriving DecidableEq, Repr

/-- The whole block. -/
structure State where
  /-- commands waiting, first in first out -/
  pending : List Instr
  /-- every register field, counter and fault page, at its address; an unlisted field has its reset value -/
  regs : Tab Nat
  /-- what has left the device, newest first -/
  out : List Out
  /-- the model's own counter of free values drawn (log 4) -/
  free : Nat
  time : TimeState
  pwr : PwrState
  /-- reactions of faults raised in this step, oldest first -/
  reactions : List Reaction
  /-- reactions deferred to the end of a page's grace time, by fault page (18_faults.md R650): bits 15 to 0 the sources that owe a block reset,
  bits 31 to 16 those that owe a full reset -/
  deferred : Tab Nat
  /-- CLK_GT cycle of the last block reset a reaction made, by fault page (18_faults.md R647); stored plus 1 -/
  blockResetAt : Tab Nat
  lanes : Tab LaneState
  ports : Tab PortState
  links : Tab LinkState
  /-- input buffers, key 8 * input + VC; inputs 0 to 95 are network ports, 96 to 107 E0 to E11 -/
  inbuf : Tab InVc
  /-- crossbar output holders -/
  holders : Tab (Option Holder)
  /-- input served last by output `o` in the class of rank `c`, key 4 * o + c, for round-robin (R28) -/
  rrLast : Tab Nat
  rout : RouterState
  /-- packets ejected on E0 to E11, oldest first -/
  rxq : Tab (List (List Flit))
  geys : GeysState
  schd : SchdState
  host : HostState
  xlt : XltState
  tpt : TptState
  win : WinState
  mat : MatState
  trg : TrgState
  coll : CollState
  pair : PairState
  cmd : CmdState
  aon : AonState
  nv : NvState
  fw : FwState
  cnt : CntState
  pin : PinState
  /-- HBM bytes by offset; a byte nothing has written reads 0 (log 6) -/
  hbm : Tab Byte
  deriving DecidableEq, Repr

/-- The machine right after power-on reset: held in full reset, every register at its reset value. -/
def State.reset : State where
  pending := []
  regs := []
  out := []
  free := 0
  time := {}
  pwr := {}
  reactions := []
  deferred := []
  blockResetAt := []
  lanes := []
  ports := []
  links := []
  inbuf := []
  holders := []
  rrLast := []
  rout := {}
  rxq := []
  geys := {}
  schd := {}
  host := {}
  xlt := {}
  tpt := {}
  win := {}
  mat := {}
  trg := {}
  coll := {}
  pair := {}
  cmd := {}
  aon := {}
  nv := {}
  fw := {}
  cnt := {}
  pin := {}
  hbm := []

end Sys2Proof.Machine
end

