-- ==== Sys2Proof/Machine/Ops.lean ====
section
/-! DEFINITION. The named operations over registers, counters, tables and outputs that every meaning uses. -/

namespace Sys2Proof.Machine

/-- The key under which the field of instance `i` and index `j` is held: 64 times the word address plus the low bit. -/
def RegField.key (f : RegField) (i j : Nat) : Nat := (f.addr + f.stride * i + f.step * j) * 64 + f.low

/-- Read a register field. -/
def State.rd (s : State) (f : RegField) (i : Nat := 0) (j : Nat := 0) : Nat := tget f.resetVal s.regs (f.key i j)

/-- Set a register field by hardware; the value is cut to the field's width. -/
def State.wr (s : State) (f : RegField) (v : Nat) (i : Nat := 0) (j : Nat := 0) : State :=
  { s with regs := tput f.resetVal s.regs (f.key i j) (v % 2 ^ f.width) }

/-- Whether a field is not 0. -/
def State.on (s : State) (f : RegField) (i : Nat := 0) (j : Nat := 0) : Bool := s.rd f i j != 0

/-- Set a one-bit field. -/
def State.wrB (s : State) (f : RegField) (b : Bool) (i : Nat := 0) (j : Nat := 0) : State := s.wr f (bNat b) i j

/-- Whether a value is not a reserved encoding of the field (00_scope.md R14). -/
def RegField.allows (f : RegField) (v : Nat) : Bool :=
  v < 2 ^ f.width &&
  match f.allowed with
  | .any => true
  | .range lo hi => lo ≤ v && v ≤ hi
  | .zeroOr lo hi => v = 0 || (lo ≤ v && v ≤ hi)

/-- The overflow bit of a counter word (Table 19.1). -/
def ovfOf (f : RegField) : RegField := { f with low := 48, width := 1, acc := .rw1c }

/-- Add to a counter: modulo 2^48, setting OVF on a wrap (19_performance_counters.md R661). -/
def State.bump (s : State) (f : RegField) (i : Nat := 0) (n : Nat := 1) : State :=
  let v := s.rd f i + n
  let s1 := s.wr f v i
  if v < 2 ^ 48 then s1
  else
    let s2 := s1.wr (ovfOf f) 1 i
    { s2 with cnt := { s2.cnt with wraps := (f.key i 0) :: s2.cnt.wraps } }

/-- Record something the device puts on its surface. -/
def State.emit (s : State) (o : Out) : State := { s with out := o :: s.out }

/-- Record several things, the first one first. -/
def State.emits (s : State) (os : List Out) : State := { s with out := os.reverse ++ s.out }

/-- GT as read now (06_timebase.md R203). -/
def State.gt (s : State) : Nat := s.time.acc / 2 ^ 40

/-- A time-triggered action whose target is GT `g` fires after the first CLK_GT cycle at which GT is at or after it: it is LATE
(06_timebase.md R225, R226; log 11). One cycle advances GT by at most 11 ticks. -/
def State.lateFor (s : State) (g : Nat) : Bool := s.gt ≥ g + 11

/-- Draw a value of `w` bits that the spec leaves open (log 4). -/
def State.draw (s : State) (w : Nat) : Nat × State :=
  ((Config.freeValue w s.free).toNat, { s with free := s.free + 1 })

/-- The device is not held in full reset. -/
def State.up (s : State) : Bool := !s.pwr.held

/-- Run `f` only when the condition holds. -/
def State.whenB (s : State) (b : Bool) (f : State → State) : State := if b then f s else s

def State.lane (s : State) (l : Nat) : LaneState := tget {} s.lanes l
def State.setLane (s : State) (l : Nat) (x : LaneState) : State := { s with lanes := tput {} s.lanes l x }
def State.port (s : State) (p : Nat) : PortState := tget {} s.ports p
def State.setPort (s : State) (p : Nat) (x : PortState) : State := { s with ports := tput {} s.ports p x }
def State.link (s : State) (p : Nat) : LinkState := tget {} s.links p
def State.setLink (s : State) (p : Nat) (x : LinkState) : State := { s with links := tput {} s.links p x }
def State.inVc (s : State) (input v : Nat) : InVc := tget {} s.inbuf (8 * input + v)
def State.setInVc (s : State) (input v : Nat) (x : InVc) : State := { s with inbuf := tput {} s.inbuf (8 * input + v) x }
def State.holder (s : State) (o : Nat) : Option Holder := tget none s.holders o
def State.setHolder (s : State) (o : Nat) (x : Option Holder) : State := { s with holders := tput none s.holders o x }
def State.rx (s : State) (e : Nat) : List (List Flit) := tget [] s.rxq e
def State.setRx (s : State) (e : Nat) (x : List (List Flit)) : State := { s with rxq := tput [] s.rxq e x }

/-- Return every RO field of some registers of an instance, at every index, to its reset value. -/
def State.resetRo (s : State) (fs : List RegField) (i : Nat) : State :=
  { s with regs := (fs.filter fun f => f.acc = .ro).foldl (fun r f => (List.range f.steps).foldl (fun r j => tput f.resetVal r (f.key i j) f.resetVal) r) s.regs }

/-! ### HBM (01_architecture.md R34 to R37) -/

/-- The byte at an HBM offset. -/
def State.hbmByte (s : State) (a : Nat) : Byte := tget 0 s.hbm a

/-- `n` bytes from an HBM offset. -/
def State.hbmRead (s : State) (a n : Nat) : List Byte := (List.range n).map fun i => s.hbmByte (a + i)

/-- A little-endian number of `n` bytes at an HBM offset. -/
def State.hbmNat (s : State) (a n : Nat) : Nat := ofBytes (s.hbmRead a n)

/-- Bytes written from offset `a` on. -/
def writeCells (m : Tab Byte) (d : Byte) (a : Nat) (bs : List Byte) : Tab Byte :=
  (m.filter fun e => e.1 < a) ++ ((bs.zipIdx a).filterMap fun e => if e.1 = d then none else some (e.2, e.1)) ++
    m.filter fun e => a + bs.length ≤ e.1

def State.hbmWrite (s : State) (a : Nat) (bs : List Byte) : State := { s with hbm := writeCells s.hbm 0 a bs }

/-- The 64-byte bursts that a span of HBM touches. -/
def hbmBursts (a n : Nat) : Nat := if n = 0 then 0 else (a + n - 1) / 64 + 1 - a / 64

/-- Bursts of HBM read or written for `n` bytes that a block holds there (19_performance_counters.md Table 19.2; log 181). -/
def State.hbmRd (s : State) (n : Nat) : State := s.bump C.HBM_RD_64B 0 ((n + 63) / 64)
def State.hbmWr (s : State) (n : Nat) : State := s.bump C.HBM_WR_64B 0 ((n + 63) / 64)

/-- Bytes written to HBM by a command or by the counter reader, with the bursts counted (19_performance_counters.md Table 19.2; log 181). -/
def State.hbmStore (s : State) (a : Nat) (bs : List Byte) : State := (s.hbmWrite a bs).bump C.HBM_WR_64B 0 (hbmBursts a bs.length)

/-- Base and size of an HBM region by its code (Table 1.8). -/
def State.regionBase (s : State) (code : Nat) : Nat := s.rd R.HBM_REGION_BASE_OFFSET code
def State.regionSize (s : State) (code : Nat) : Nat := s.rd R.HBM_REGION_SIZE_SIZE code

end Sys2Proof.Machine
end

