-- ==== Sys2Proof/Machine/Fault.lean ====
section
/-! DEFINITION. Fault pages (18_faults.md): which sources each block has (Table 18.1), their reset reactions (R646), and what
raising a source does (R643 to R651). -/

namespace Sys2Proof.Machine

/-- The kinds of block that have a fault page (Table 22.1). -/
inductive PageKind
  | chip | pwr | pin | geys | cnt | fwu | cmd | pair | lane | link | rout | schd | hif | que | xlt | tpt | win | mat | trg
  | coll | hbm
  deriving DecidableEq, Repr

/-! Fault page addresses (Table 22.1). -/

def pgChip : Nat := 0x000F0000
def pgPwr : Nat := 0x001F0000
def pgPin : Nat := 0x002F0000
def pgGeys : Nat := 0x003F0000
def pgCnt : Nat := 0x004F0000
def pgFwu : Nat := 0x005F0000
def pgCmd : Nat := 0x006F0000
def pgPair : Nat := 0x007F0000
def pgLane (l : Nat) : Nat := 0x01003000 + 0x4000 * l
def pgLink (p : Nat) : Nat := 0x02003000 + 0x10000 * p
def pgRout : Nat := 0x030F0000
def pgSchd : Nat := 0x040F0000
def pgHif : Nat := 0x050F0000
def pgQue : Nat := 0x060F0000
def pgXlt : Nat := 0x070F0000
def pgTpt : Nat := 0x080F0000
def pgWin : Nat := 0x090F0000
def pgMat : Nat := 0x0A0F0000
def pgTrg : Nat := 0x0B0F0000
def pgColl : Nat := 0x0C0F0000
def pgHbm : Nat := 0x0D0F0000

/-- The kind and instance of the fault page at an address; none where no page lies there. -/
def pageKind (a : Nat) : Option (PageKind × Nat) :=
  if 0x01003000 ≤ a && a < 0x01003000 + 0x4000 * 192 && (a - 0x01003000) % 0x4000 = 0 then
    some (.lane, (a - 0x01003000) / 0x4000)
  else if 0x02003000 ≤ a && a < 0x02003000 + 0x10000 * 96 && (a - 0x02003000) % 0x10000 = 0 then
    some (.link, (a - 0x02003000) / 0x10000)
  else if a = pgChip then some (.chip, 0) else if a = pgPwr then some (.pwr, 0) else if a = pgPin then some (.pin, 0)
  else if a = pgGeys then some (.geys, 0) else if a = pgCnt then some (.cnt, 0) else if a = pgFwu then some (.fwu, 0)
  else if a = pgCmd then some (.cmd, 0) else if a = pgPair then some (.pair, 0) else if a = pgRout then some (.rout, 0)
  else if a = pgSchd then some (.schd, 0) else if a = pgHif then some (.hif, 0) else if a = pgQue then some (.que, 0)
  else if a = pgXlt then some (.xlt, 0) else if a = pgTpt then some (.tpt, 0) else if a = pgWin then some (.win, 0)
  else if a = pgMat then some (.mat, 0) else if a = pgTrg then some (.trg, 0) else if a = pgColl then some (.coll, 0)
  else if a = pgHbm then some (.hbm, 0) else none

/-- Every fault page of the device outside LANE and LINK, lowest address first. -/
def blockPages : List Nat :=
  [pgChip, pgPwr, pgPin, pgGeys, pgCnt, pgFwu, pgCmd, pgPair, pgRout, pgSchd, pgHif, pgQue, pgXlt, pgTpt, pgWin, pgMat, pgTrg,
   pgColl, pgHbm]

/-- Every fault page of the device. -/
def allPages : List Nat :=
  blockPages ++ (List.range 192).map pgLane ++ (List.range 96).map pgLink

/-- How many of sources 0 to 11 Table 18.1 assigns to a block; sources 2 to 4 of LANE exist for lane 0 of a port only (R642). -/
def ownSources (k : PageKind) (inst : Nat) : Nat :=
  match k with
  | .lane => if inst % 2 = 0 then 5 else 2
  | .link => 7
  | .rout => 6
  | .schd => 5
  | .geys => 6
  | .hif => 3
  | .que => 1
  | .xlt => 4
  | .tpt => 3
  | .win => 1
  | .mat => 3
  | .trg => 2
  | .coll => 2
  | .pair => 4
  | .cmd => 3
  | .pwr => 7
  | .pin => 1
  | .chip => 2
  | .cnt => 1
  | .fwu => 3
  | .hbm => 2

/-- Whether a source is assigned (Table 18.1; bits 12 to 15 are common to every block). -/
def sourceAssigned (page src : Nat) : Bool :=
  match pageKind page with
  | none => false
  | some (k, i) => src < ownSources k i || (12 ≤ src && src < 16)

/-- Whether a source is a condition source (Table 18.1). -/
def isCondition (page src : Nat) : Bool :=
  match pageKind page with
  | none => false
  | some (k, _) =>
    match k with
    | .lane => src = 0 || src = 1 || src = 3
    | .link => src = 1 || src = 2
    | .rout => src = 0
    | .geys => src = 0 || src = 3
    | .hif => src = 0 || src = 2
    | .que => src = 0
    | .xlt => src = 3
    | .mat => src = 0 || src = 1 || src = 2
    | .trg => src = 0 || src = 1
    | .pair => src = 0 || src = 1
    | .pwr => src = 0 || src = 1 || src = 2 || src = 3 || src = 6
    | .pin => src = 0
    | .hbm => src = 1
    | _ => false

/-- The reset reaction of a source (R646). -/
def reactReset (page src : Nat) : Nat :=
  if src = 12 then 0x0 else if src = 13 then 0x9 else if src = 14 then 0xC else if src = 15 then 0x2
  else if !sourceAssigned page src then 0
  else match pageKind page with
    | some (.lane, _) => if src = 0 || src = 1 then 0 else 1
    | some (.hif, _) => if src = 0 then 9 else 1
    | some (.pair, _) => if src = 3 then 9 else 1
    | some (.pwr, _) => if src ≤ 2 then 9 else 1
    | some (.fwu, _) => if src = 0 || src = 2 then 9 else 1
    | some (.chip, _) => if src = 0 then 0xC else 2
    | _ => 1

/-- The register field FLT_REACT of a source (Table 18.6). -/
def reactField (page src : Nat) : RegField :=
  ⟨0x18, 1, 1, 0, 1, 4 * src, 4, .rw, reactReset page src, .any, false⟩

/-- The reaction set for a source: bits 2 to 0 the code of Table 18.2, bit 3 ERR. -/
def State.react (s : State) (page src : Nat) : Nat := s.rd (reactField page src) page

/-- DEV_PHASE (R649): 0 STARTUP, 1 SERVICE, 2 TEST, 3 RECOVERY. -/
def State.phase (s : State) : Nat := s.rd R.PIN_PHASE_PHASE

def phStartup : Nat := 0
def phService : Nat := 1
def phTest : Nat := 2
def phRecovery : Nat := 3

/-- The condition sources of a page, one bit each. -/
def condMask (page : Nat) : Nat := ((List.range 16).map fun s => if isCondition page s then 2 ^ s else 0).sum

/-- The live conditions of a page, forced ones included (R652). -/
def State.liveOf (s : State) (page : Nat) : Nat := s.rd R.FLT_LIVE_LIVE page ||| (s.rd R.FLT_FORCE_HOLD page &&& condMask page)

/-- PIN_ERR.ANY (R654): some page has a STAT bit set whose field has code 5 or ERR set. -/
def pageAsksErr (s : State) (page : Nat) : Bool :=
  (List.range 16).any fun src =>
    bitAt (s.rd R.FLT_STAT_STAT page) src && (s.react page src % 8 = 5 || s.react page src ≥ 8)

def State.errAny (s : State) : Bool := allPages.any (pageAsksErr s)

/-- ERR_N is driven low by this device (R654). -/
def State.errDriven (s : State) : Bool := s.on R.PIN_ERR_LATCHED || s.errAny || (s.on R.PIN_ERR_FORCE && s.phase = phTest)

/-- Step 3 of R643: capture the first source. -/
def captureFirst (s : State) (page src detail : Nat) (forced graced : Bool) : State :=
  if s.on R.FLT_FIRST_VALID page then s
  else
    ((((((s.wr R.FLT_FIRST_SOURCE src page).wrB R.FLT_FIRST_FORCED forced page).wrB R.FLT_FIRST_GRACED graced page).wr
      R.FLT_FIRST_PHASE s.phase page).wr R.FLT_FIRST_DETAIL detail page).wr R.FLT_FIRST_GT_GT s.gt page).wr R.FLT_FIRST_VALID 1 page

/-- The always-on count. -/
def State.aonCount (s : State) : Nat := s.rd R.PWR_AON_COUNT

/-! ### The event journal (20_firmware_and_trust.md R709) -/

def jrTrap : Nat := 1
def jrStart : Nat := 2
def jrActivate : Nat := 3
def jrConfirm : Nat := 4
def jrFallback : Nat := 5
def jrMramErr : Nat := 6

/-- Caldera firmware runs, and may write the journal. -/
def State.fwRuns (s : State) : Bool := s.pwr.boot = .firmware || s.pwr.boot = .incFailed || s.pwr.boot = .blocks || s.pwr.boot = .done

/-- Write a journal entry; beyond 1,000 in one second it is dropped and counted. -/
def State.journal (s : State) (type data : Nat) : State :=
  let now := s.gt
  let late := s.fw.logged.filter fun g => now < g + 16000000000 && g ≤ now
  if late.length ≥ 1000 then
    ({ s with fw := { s.fw with logged := late } } : State).wr R.SEC_JRN_DROP (min (2 ^ 32 - 1) (s.rd R.SEC_JRN_DROP + 1))
  else
    let e := now % 2 ^ 64 + s.aonCount % 2 ^ 48 * 2 ^ 64 + type * 2 ^ 112 + s.phase * 2 ^ 120 + data % 2 ^ 384 * 2 ^ 128
    let h := (s.nv.head + 1) % 16384
    ({ s with fw := { s.fw with logged := now :: late }
              nv := { s.nv with journal := tput 0 s.nv.journal s.nv.head e, head := h } } : State).wr R.SEC_JRN_HEAD h

/-- The data of a TRAP entry: page address, FLT_STAT, FLT_FIRST and FLT_FIRST_GT. -/
def State.trapData (s : State) (page : Nat) : Nat :=
  let first := s.rd R.FLT_FIRST_SOURCE page + s.rd R.FLT_FIRST_FORCED page * 16 + s.rd R.FLT_FIRST_GRACED page * 32 +
    s.rd R.FLT_FIRST_PHASE page * 64 + s.rd R.FLT_FIRST_DETAIL page * 256 + s.rd R.FLT_FIRST_VALID page * 2 ^ 63
  page + s.rd R.FLT_STAT_STAT page * 2 ^ 64 + first * 2 ^ 128 + s.rd R.FLT_FIRST_GT_GT page * 2 ^ 192

/-- A trap to Caldera core 0 (Table 18.2); firmware records it in the journal (R648). -/
def takeTrap (s : State) (page : Nat) (fresh : Bool) : State :=
  if !fresh then s
  else
    let s1 := s.emit (.calTrap page)
    if s1.fwRuns then s1.journal jrTrap (s1.trapData page) else s1

/-- A reaction that the step still owes. -/
def State.owe (s : State) (r : Reaction) : State := { s with reactions := s.reactions ++ [r] }

/-- Whether a block reset of a page's instance is a block reset, and not a full reset (R604). -/
def hasBlockReset (page : Nat) : Bool :=
  match pageKind page with
  | some (.lane, _) | some (.link, _) | some (.schd, _) | some (.geys, _) | some (.cmd, _) => true
  | _ => false

/-- Whether a block reset by a reaction lies within FLT_GRACE of the last one on the instance (R647). -/
def inResetGrace (s : State) (page : Nat) : Bool :=
  let at1 := tget 0 s.blockResetAt page
  at1 != 0 && decide ((s.time.cycles - (at1 - 1)) * 10 < s.rd R.FLT_GRACE_GRACE page)

/-- Step 4 of R643, the reaction of a raised source; none while a full reset is in progress (R648). `fresh`: the raise found the STAT bit at 0. -/
def applyReaction (s : State) (page src : Nat) (fresh : Bool) : State :=
  let r := s.react page src
  let code := r % 8
  if s.pwr.held then s
  else
  let s := if r ≥ 8 || code = 5 then s.wr R.PIN_ERR_LATCHED 1 else s
  if code = 1 then
    if fresh then
      let s := s.emit (.calInterrupt page)
      if s.on R.FLT_VECTOR_EN page then s.owe (.msix (s.rd R.FLT_VECTOR_HPORT page) (s.rd R.FLT_VECTOR_VEC page)) else s
    else s
  else if code = 2 then takeTrap s page fresh
  else if code = 3 || code = 4 then
    if s.phase ≠ phService && src ≠ 14 then
      let s1 := (takeTrap s page fresh).wr R.FLT_GRACE_RUNNING 1 page
      { s1 with deferred := tmod 0 s1.deferred page (· ||| 2 ^ (if code = 4 then 16 + src else src)) }
    else if code = 4 || !hasBlockReset page then s.owe (.chipReset page src)
    else if inResetGrace s page then takeTrap s page fresh
    else (s.owe (.blockReset page))
  else s

/-- Raise a source of a fault page (R643). -/
def State.raiseX (s : State) (page src detail : Nat) (forced : Bool) : State :=
  let old := s.rd R.FLT_STAT_STAT page
  let fresh := !bitAt old src
  let code := s.react page src % 8
  let graced := (code = 3 || code = 4) && s.phase ≠ phService && src ≠ 14
  let s1 := s.wr R.FLT_STAT_STAT (setBit old src true) page
  let s2 := s1.wr R.FLT_COUNT_COUNT (min 0xFFFF (s1.rd R.FLT_COUNT_COUNT page + 1)) page
  applyReaction (captureFirst s2 page src detail forced graced) page src fresh

/-- Raise an event source, or a condition source that has just become true. -/
def State.raise (s : State) (page src : Nat) (detail : Nat := 0) : State := s.raiseX page src detail false

/-- Set or clear a condition source: its LIVE bit follows, and it is raised when it becomes true (R641). -/
def State.cond (s : State) (page src : Nat) (b : Bool) (detail : Nat := 0) : State :=
  let live := s.rd R.FLT_LIVE_LIVE page
  let s1 := s.wr R.FLT_LIVE_LIVE (setBit live src b) page
  if b && !bitAt live src then s1.raise page src detail else s1

/-- A condition source that stands for several objects, which its DETAIL tells apart: it becomes true for one more of them (R641). -/
def State.condOf (s : State) (page src detail : Nat) : State :=
  (s.wr R.FLT_LIVE_LIVE (setBit (s.rd R.FLT_LIVE_LIVE page) src true) page).raise page src detail

/-- The condition ERR_N_SENSE: the net is low and this device does not drive it. -/
def State.senseEval (s : State) : State :=
  if !s.aon.errLow && !bitAt (s.rd R.FLT_LIVE_LIVE pgPin) 0 then s else s.cond pgPin 0 (s.aon.errLow && !s.errDriven)

end Sys2Proof.Machine
end

