-- ==== Sys2Proof/Machine/Grid.lean ====
section
/-! DEFINITION. The grid (02_grid_and_addressing.md): the topology word of Table 2.1, valid PIDs, and the port assignment of R65. -/

namespace Sys2Proof.Machine

/-- SIZE of dimension `d` in a topology word (Table 2.1). -/
def topoSize (w d : Nat) : Nat := field w (8 * d) 6
/-- Link width of dimension `d`: the WIDTH field plus 1. -/
def topoWidth (w d : Nat) : Nat := field w (8 * d + 6) 2 + 1
def topoOwnPid (w : Nat) : Nat := field w 32 20
def topoPaired (w : Nat) : Bool := field w 52 1 = 1

/-- The four dimensions. -/
def dims : List Nat := [0, 1, 2, 3]

/-- A PID is valid when every coordinate lies below the size of its dimension (R61). -/
def validPidIn (w pid : Nat) : Bool := dims.all fun d => coord pid d < topoSize w d

/-- The tests of R58 on a topology word; reserved bits must be 0 (Table 2.1). -/
def topoValid (w : Nat) : Bool :=
  (dims.all fun d => 1 ≤ topoSize w d && topoSize w d ≤ 32) &&
  (dims.all fun d => topoSize w d ≠ 1 || topoWidth w d = 1) &&
  ((dims.map fun d => (topoSize w d - 1) * topoWidth w d).sum ≤ 94) &&
  validPidIn w (topoOwnPid w) && (!topoPaired w || topoSize w 0 % 2 = 0) && field w 53 11 = 0

def State.topo (s : State) : Nat := s.rd R.ROUT_TOPO_TOPO
def State.ownPid (s : State) : Nat := topoOwnPid s.topo
def State.paired (s : State) : Bool := topoPaired s.topo
def State.validPid (s : State) (pid : Nat) : Bool := validPidIn s.topo pid
/-- The mate's PID (R68). -/
def State.matePid (s : State) : Nat := s.ownPid ^^^ 1

/-- The PID with coordinate `d` replaced. -/
def withCoord (pid d c : Nat) : Nat := setField pid (5 * d) 5 c

/-- First port of dimension `d` (R65). -/
def dimBase (w d : Nat) : Nat := ((List.range d).map fun e => (topoSize w e - 1) * topoWidth w e).sum

/-- The port of link `k` to the member at coordinate `v` of dimension `d` (R65). -/
def portTo (w d v k : Nat) : Nat :=
  let own := coord (topoOwnPid w) d
  dimBase w d + (if v < own then v else v - 1) * topoWidth w d + k

/-- What R65 assigns to a grid port: dimension, coordinate of the peer, and link number; none where nothing is assigned. -/
def portRole (w p : Nat) : Option (Nat × Nat × Nat) :=
  dims.findSome? fun d =>
    let b := dimBase w d
    let n := (topoSize w d - 1) * topoWidth w d
    if b ≤ p && p < b + n then
      let slot := (p - b) / topoWidth w d
      let own := coord (topoOwnPid w) d
      some (d, (if slot < own then slot else slot + 1), (p - b) % topoWidth w d)
    else none

/-- The port carries the CARR link (R27). -/
def isCarr (w p : Nat) : Bool := topoPaired w && (p = 94 || p = 95)

/-- The PID expected on a port (R67); none where the port is unassigned. -/
def expectedPeer (w p : Nat) : Option Nat :=
  if isCarr w p then some (topoOwnPid w ^^^ 1)
  else match portRole w p with
    | some (d, v, _) => some (withCoord (topoOwnPid w) d v)
    | none => none

/-- The port number of the peer that R65 gives for the reverse link; CARR ports join ports of the same number. -/
def expectedPeerPort (w p : Nat) : Option Nat :=
  if isCarr w p then some p
  else match portRole w p with
    | some (d, v, k) =>
      let peer := withCoord (topoOwnPid w) d v
      let c := coord (topoOwnPid w) d
      let slot := if c < coord peer d then c else c - 1
      some (dimBase w d + slot * topoWidth w d + k)
    | none => none

/-- The grid ports of a dimension that R65 assigns. -/
def dimPorts (w d : Nat) : List Nat :=
  (List.range ((topoSize w d - 1) * topoWidth w d)).map fun i => dimBase w d + i

/-- Every port with a role: grid ports in order, then the CARR ports. -/
def assignedPorts (w : Nat) : List Nat :=
  dims.flatMap (dimPorts w) ++ (if topoPaired w then [94, 95] else [])

end Sys2Proof.Machine
end

