-- ==== Sys2Proof/Machine/QueOps.lean ====
section
/-! DEFINITION. Operations of the functions, queue pairs and event queues (09_host_attach_and_queues.md). -/

namespace Sys2Proof.Machine

/-! ### Functions -/

/-- The key of function `f` of host port `h`. -/
def fkey (h f : Nat) : Nat := 64 * h + f
def keyPort (k : Nat) : Nat := k / 64
def keyFunc (k : Nat) : Nat := k % 64

def State.func (s : State) (k : Nat) : FuncState := tget {} s.host.funcs k
def State.setFunc (s : State) (k : Nat) (x : FuncState) : State := { s with host := { s.host with funcs := tput {} s.host.funcs k x } }

/-! Function states (Table 9.3). -/
def fsOff : Nat := 0
def fsEnabled : Nat := 1
def fsQuiescing : Nat := 2
def fsWedged : Nat := 3
def State.fnState (s : State) (k : Nat) : Nat := s.rd R.FUNC_STATUS_STATE k
def State.fnGone (s : State) (k : Nat) : Bool := s.fnState k = fsQuiescing || s.fnState k = fsWedged

/-- The role for a host port (Table 15.9): 0 PRIMARY, 1 STANDBY, 2 ADOPTED, 3 not served. -/
def State.role (s : State) (h : Nat) : Nat := field (s.rd R.PAIR_STATUS_ROLE) (2 * h) 2
def State.serves (s : State) (h : Nat) : Bool := s.role h = 0 || s.role h = 2
/-- Transport contexts of an adopted position form a second set (15_pair_operation.md R555). -/
def State.tcSet (s : State) (h : Nat) : Nat := if s.role h = 2 then 1 else 0

/-- Number of MSI-X vectors of a function (Table 9.1). -/
def maxVec (k : Nat) : Nat := if keyFunc k = 0 then 2048 else 64

/-- What a host port may or may not support (Table 9.1). -/
inductive HostCap
  | ari | sriov | pasid | atomicRequester | atomicCompleter | msix | msi | intx | flr | l0p | tenBitTags | ats | pri | ptm | cxlIo | cxlCache | cxlMem
  deriving DecidableEq, Repr

/-- The capability that configuration space of a function shows, with its parameter: VFs of a PF, PASID bits, MSI-X vectors, tag bits; none: it is
absent (R320, Table 9.1). -/
def hostCap (k : Nat) : HostCap → Option Nat
  | .ari | .flr | .l0p | .atomicRequester | .cxlIo | .cxlCache => some 1
  | .sriov => if keyFunc k = 0 then some 63 else none
  | .pasid => some 20
  | .msix => some (maxVec k)
  | .tenBitTags => some 10
  | .atomicCompleter | .msi | .intx | .ats | .pri | .ptm | .cxlMem => none

/-- Max Payload Size and Max Read Request Size in force on a host port: those of its PF, within what Table 9.1 supports. -/
def State.maxPayload (s : State) (h : Nat) : Nat := 128 * 2 ^ min 2 (s.func (fkey h 0)).cfg.maxPayload
def State.maxRead (s : State) (h : Nat) : Nat := 128 * 2 ^ min 5 (s.func (fkey h 0)).cfg.maxRead

/-- A span of `n` bytes cut at the multiples of a size that divides 4,096: address and bytes of each request (R320; log 192); `fuel` bounds them. -/
def hostCuts (size : Nat) : Nat → Nat → Nat → List (Nat × Nat)
  | 0, _, _ => []
  | fuel + 1, a, n =>
    if n = 0 then []
    else
      let k := min n (size - a % size)
      (a, k) :: hostCuts size fuel (a + k) (n - k)

/-- The requests that `n` bytes at an address take. -/
def requestsFor (size a n : Nat) : List (Nat × Nat) := hostCuts size (n / size + 2) a n

/-- A DMA read has a number. -/
def State.newDma (s : State) : Nat × State := (s.host.dma, { s with host := { s.host with dma := s.host.dma + 1 } })

/-- Requests to host memory, within the sizes in force, counted by host port (R320; 19_performance_counters.md Table 19.2). -/
def State.hostRead (s : State) (req : BusReq) (n : Nat) : State :=
  let l := requestsFor (s.maxRead req.hport) req.addr n
  let s1 := l.foldl (fun s x => s.emit (.dmaRead { req with addr := x.1 } x.2)) s
  (s1.bump C.HIF_RD_REQ req.hport l.length).bump C.HIF_RD_32B req.hport (flitsFor n)
def State.hostWrite (s : State) (req : BusReq) (bytes : List Byte) : State :=
  let l := requestsFor (s.maxPayload req.hport) req.addr bytes.length
  let s1 := l.foldl (fun s x => s.emit (.dmaWrite { req with addr := x.1 } ((bytes.drop (x.1 - req.addr)).take x.2))) s
  (s1.bump C.HIF_WR_REQ req.hport l.length).bump C.HIF_WR_32B req.hport (flitsFor bytes.length)
def State.hostCas (s : State) (req : BusReq) (compare swap : Nat) : State :=
  ((s.emit (.dmaCas req compare swap)).bump C.HIF_RD_REQ req.hport).bump C.HIF_RD_32B req.hport 1

/-- A DMA read of a function failed (R323). -/
def State.dmaError (s : State) (k : Nat) : State := ((s.bump C.HIF_DMA_ERRORS).wr R.FUNC_STATUS_DMA_ERR 1 k).raise pgHif 1 (keyPort k + 4 * keyFunc k)

/-! ### Queue pairs -/

/-- Difference and sum of ring indices modulo 2^32 (R334). -/
def idxSub (a b : Nat) : Nat := (a + 2 ^ 32 - b % 2 ^ 32) % 2 ^ 32
def idxAdd (a b : Nat) : Nat := (a + b) % 2 ^ 32

def State.qp (s : State) (q : Nat) : Qp := tget {} s.host.qps q
def State.setQp (s : State) (q : Nat) (x : Qp) : State := { s with host := { s.host with qps := tput {} s.host.qps q x } }
def State.modQp (s : State) (q : Nat) (f : Qp → Qp) : State := s.setQp q (f (s.qp q))
def Qp.func (x : Qp) : Nat := fkey x.p.hport x.p.func
def Qp.sqSize (x : Qp) : Nat := 2 ^ x.p.sqLog
def Qp.rqSize (x : Qp) : Nat := 2 ^ x.p.rqLog
def Qp.cqSize (x : Qp) : Nat := 2 ^ x.p.cqLog
/-- Free entries of the CQ. -/
def Qp.cqFree (x : Qp) : Nat := x.cqSize - idxSub x.cqNext x.cqCi

/-- Whether a QP is bound to a function. -/
def State.qpOf (s : State) (q k : Nat) : Bool := (s.qp q).valid && (s.qp q).func = k

/-- QPs of a function, by index. -/
def State.qpsOf (s : State) (k : Nat) : List Nat := (s.host.qps.filter fun kv => kv.2.valid && kv.2.func = k).map Prod.fst

/-- The QP of a function-local slot. -/
def State.qpAt (s : State) (k slot : Nat) : Option Nat :=
  (s.host.qps.find? fun kv => kv.2.valid && kv.2.func = k && kv.2.slot = slot).map Prod.fst

/-! ### Events and interrupts (R354 to R357) -/

def vkey (k vec : Nat) : Nat := 2048 * k + vec
def State.eqAt (s : State) (k vec : Nat) : EqState := tget {} s.host.eqs (vkey k vec)
def State.setEq (s : State) (k vec : Nat) (x : EqState) : State := { s with host := { s.host with eqs := tput {} s.host.eqs (vkey k vec) x } }
def State.msixAt (s : State) (k vec : Nat) : MsixEntry := tget {} s.host.msix (vkey k vec)
def State.setMsix (s : State) (k vec : Nat) (x : MsixEntry) : State :=
  { s with host := { s.host with msix := tput {} s.host.msix (vkey k vec) x } }

/-- Something is to be delivered to a function of a host port in L2: the device drives WAKE_N low (21_pins_and_electrical.md R718). -/
def State.wakeHost (s : State) (h : Nat) : State :=
  if tget false s.pin.l2 h && !tget false s.pin.wake h then
    ({ s with pin := { s.pin with wake := tput false s.pin.wake h true } } : State).emit (.pin ("WAKE_N" ++ toString h) (some false))
  else s

/-- Send the MSI-X message of a vector, or set its pending bit while it is masked. -/
def State.msixSend (s : State) (k vec : Nat) : State :=
  let c := (s.func k).cfg
  let m := s.msixAt k vec
  if !c.msixEn then s
  else if m.masked || c.msixMask then s.setMsix k vec { m with pending := true }
  else
    (((s.setMsix k vec { m with pending := false }).emit (.msix (keyPort k) (keyFunc k) vec m.addr m.data)).bump C.QUE_MSIX_SENT).wakeHost (keyPort k)

/-- Messages pending on vectors that are no longer masked go out, as MSI-X states. -/
def State.msixFlush (s : State) (k : Nat) : State :=
  ((s.host.msix.filter fun kv => kv.1 / 2048 = k && kv.2.pending && !kv.2.masked).map fun kv => kv.1 % 2048).foldl (fun s v => s.msixSend k v) s

def EqState.size (x : EqState) : Nat := 2 ^ x.p.log
def EqState.func (x : EqState) : Nat := fkey x.p.hport x.p.func

/-- A request made under a translation context (R366). -/
def ctxReq (c : CtxFields) (addr : Nat) : BusReq :=
  { hport := c.hport, func := c.func, pasid := some c.pasid, priv := c.priv, addr := addr }

def State.ctx (s : State) (i : Nat) : CtxFields := tget {} s.xlt.ctxs i
def State.setCtx (s : State) (i : Nat) (c : CtxFields) : State := { s with xlt := { s.xlt with ctxs := tput {} s.xlt.ctxs i c } }

/-- PHASE of entry index `x` of a ring of 2^log entries (R348). -/
def phaseOf (x log : Nat) : Nat := (x / 2 ^ log + 1) % 2

/-- The output address of entry `x` of a ring of 32-byte entries whose pages are given. -/
def ringAddr (pages : List Nat) (x size : Nat) : Nat :=
  let o := x % size * 32
  pages.getD (o / 4096) 0 + o % 4096

/-- Pages of a ring of 2^log entries of 32 bytes. -/
def ringPages (log : Nat) : Nat := (32 * 2 ^ log + 4095) / 4096

/-- An armed event queue that is not empty sends its message once. -/
def State.eqKick (s : State) (k vec : Nat) : State :=
  let x := s.eqAt k vec
  if x.armed && x.pi ≠ x.ci then (s.setEq k vec { x with armed := false }).msixSend k vec else s

/-- Write one event entry (Table 9.8). -/
def State.eqWrite (s : State) (k vec type qidx info : Nat) : State :=
  let x := s.eqAt k vec
  let e := type % 256 + phaseOf x.pi x.p.log * 2 ^ 8 + (qidx % 2 ^ 18) * 2 ^ 16 + (info % 2 ^ 64) * 2 ^ 64 + (s.gt % 2 ^ 64) * 2 ^ 128
  let s1 := (s.hostWrite (ctxReq (s.ctx x.p.ctx) (ringAddr x.pages x.pi x.size)) (toBytes 32 e)).wakeHost (keyPort k)
  ((s1.setEq k vec { x with pi := idxAdd x.pi 1 }).bump C.QUE_EQ_ENTRIES).eqKick k vec

/-- Post an event: dropped and counted while the queue is full (R357). -/
def State.postEvent (s : State) (k vec type qidx info : Nat) : State :=
  let x := s.eqAt k vec
  if !x.valid then s
  else if x.pages.length < ringPages x.p.log then s.setEq k vec { x with held := x.held ++ [(type, qidx, info)] }
  else if idxSub x.pi x.ci ≥ x.size || x.dropped ≠ 0 then
    (s.setEq k vec { x with dropped := x.dropped + 1 }).bump C.QUE_EQ_DROPPED
  else s.eqWrite k vec type qidx info

/-- Post an event on a QP's event queue. -/
def State.qpEvent (s : State) (q type info : Nat) : State := s.postEvent (s.qp q).func (s.qp q).p.eq type q info

/-- The QP enters ERROR (R335, R336). -/
def State.qpError (s : State) (q cause : Nat) : State :=
  let x := s.qp q
  if x.error || !x.valid then s
  else ((s.setQp q { x with error := true, cause := cause }).bump C.QUE_QP_ERRORS).qpEvent q evQpError cause

/-! ### Producer indices (R339) -/

/-- Take a value of SQ_PI (or RQ_PI) from a doorbell or a record. -/
def State.takePi (s : State) (q : Nat) (rq : Bool) (v : Nat) (doorbell : Bool) : State :=
  let x := s.qp q
  let obs := if rq then x.rqObs else x.sqObs
  let c := if rq then x.rqCi else x.sqCi
  let size := if rq then x.rqSize else x.sqSize
  if x.error then s.whenB doorbell (·.bump C.QUE_DB_IGNORED)
  else if idxSub v obs ≥ 2 ^ 31 then s.bump C.QUE_DB_STALE
  else if idxSub v c > size then s.qpError q (if rq then qeRqOverrun else qeSqOverrun)
  else s.setQp q (if rq then { x with rqObs := v } else { x with sqObs := v })

/-! ### Send completions (R346, R351) -/

/-- Fields of the common part of a descriptor (Table 9.5). -/
def dOp (d : Nat) : Nat := field d 0 8
def dComp (d : Nat) : Bool := field d 8 1 = 1
def dFence (d : Nat) : Bool := field d 9 1 = 1
def dUser (d : Nat) : Nat := field d 64 64

/-- The pending BATCH entry becomes ready. -/
def Qp.flushBatch (x : Qp) : Qp :=
  if x.batch = 0 then x
  else { x with
    batch := 0
    ready := x.ready ++ [{ userId := x.batchUser, kind := 2, len := x.batch, aux := x.batchX, ci := some x.batchCi }] }

def Qp.batching (x : Qp) : Bool := 2 ≤ x.p.batchN && x.p.batchN ≤ 255

/-- The entry of one complete descriptor becomes ready, in SQ order. -/
def Qp.formEntry (x : Qp) (d : SqDesc) (status len : Nat) : Qp :=
  let ci := idxAdd d.x d.slots
  let e : CqEntry := { userId := dUser d.desc, status := status, len := len, aux := d.x, ci := some ci }
  if status ≠ csOk then
    let y := x.flushBatch
    { y with ready := y.ready ++ [e] }
  else if !dComp d.desc then x
  else if x.batching then
    let y := { x with batch := x.batch + 1, batchUser := dUser d.desc, batchX := d.x, batchCi := ci }
    if y.batch ≥ x.p.batchN then y.flushBatch else y
  else { x with ready := x.ready ++ [e] }

/-- SQ index `i` comes before index `j`. -/
def idxBefore (i j : Nat) : Bool := idxSub i j ≥ 2 ^ 31

/-- Every descriptor before SQ index `i` has been fetched and has arrived: one that a launch has read ahead of the ring waits for those before it
(R346; 08_scheduled_traffic.md R290). -/
def Qp.inOrder (x : Qp) (i : Nat) : Bool := idxBefore i x.sqFetch && !(x.sqIn.any fun f => idxBefore f.x i)

/-- A read of SQ index `i` is out. -/
def Qp.reading (x : Qp) (i : Nat) : Bool := x.sqIn.any fun f => f.x = i

/-- SQ index `i` has been read, and what it held is complete: its slot is never read again (R341, R342). -/
def Qp.spent (x : Qp) (i : Nat) : Bool := idxBefore i x.sqFetch && !x.reading i && !(x.sq.any fun d => d.x = i)

def SqDesc.isDone (d : SqDesc) : Bool :=
  match d.state with
  | .done _ _ => true
  | _ => false

/-- The earlier descriptors of the SQ let one start: none is a WAIT that has started, and with FENCE all are complete (R345;
13_counters_and_triggers.md R486). -/
def Qp.letsStart (x : Qp) (i d : Nat) : Bool :=
  let before := x.sq.filter fun b => idxBefore b.x i
  !(before.any fun b => b.state = .started && dOp b.desc = 0x23) && (!dFence d || (x.inOrder i && before.all SqDesc.isDone))

/-- Take the complete descriptors at the front of the SQ list. -/
def Qp.drainSq (x : Qp) : List SqDesc → Qp
  | [] => { x with sq := [] }.flushBatch
  | d :: t =>
    match d.state with
    | .done st n => if x.inOrder d.x then (x.formEntry d st n).drainSq t else { x with sq := d :: t }
    | _ => { x with sq := d :: t }

/-- A descriptor joins the SQ list at its place. -/
def Qp.insertSq (x : Qp) (d : SqDesc) : Qp :=
  let before := x.sq.takeWhile fun y => idxSub y.x d.x ≥ 2 ^ 31
  { x with sq := before ++ [d] ++ x.sq.drop before.length }

/-- Ordinary fetching passes descriptors that launches have read, `n` at most. -/
def Qp.skipFetched (x : Qp) : Nat → Qp
  | 0 => x
  | n + 1 => if x.sq.any fun y => y.x = x.sqFetch then ({ x with sqFetch := idxAdd x.sqFetch 1 }).skipFetched n else x

/-- The descriptor of SQ index `i` completes; its entry becomes ready once every earlier descriptor's has. -/
def State.descDone (s : State) (q i status len : Nat) : State :=
  s.modQp q fun x =>
    let l := x.sq.map fun d => if d.x = i then { d with state := .done status len } else d
    x.drainSq l

/-- A fetched descriptor starts. -/
def State.descStart (s : State) (q i : Nat) : State :=
  s.modQp q fun x => { x with sq := x.sq.map fun d => if d.x = i then { d with state := .started } else d }

/-- Fetched operations of the QP that await their completion entries (R343). -/
def Qp.awaiting (x : Qp) : Nat :=
  let ops := fun l : List CqEntry => (l.map fun e => if e.kind = 1 then 0 else if e.kind = 2 then e.len else 1).sum
  x.sq.length + ops x.ready + ops x.staged + x.batch

/-- Entries of the shared pool of held receive completions in use (R352). -/
def State.heldUsed (s : State) : Nat := (s.host.qps.map fun kv => (kv.2.staged.filter fun e => e.kind = 1).length).sum

/-- The pool is full and the QP's CQ has no room: a packet that would need an entry is refused (R352). -/
def State.heldFull (s : State) (q : Nat) : Bool :=
  let x := s.qp q
  (x.cqFree = 0 || !x.staged.isEmpty) && s.heldUsed ≥ 65536

/-- The 32 bytes of an entry at a CQ index (Table 9.7). -/
def CqEntry.word (e : CqEntry) (q x log : Nat) : Nat :=
  e.userId % 2 ^ 64 + (e.status % 256) * 2 ^ 64 + phaseOf x log * 2 ^ 72 + (e.kind % 8) * 2 ^ 73 + (q % 2 ^ 18) * 2 ^ 80 +
    (e.srank % 2 ^ 24) * 2 ^ 104 + (e.len % 2 ^ 32) * 2 ^ 128 + (e.aux % 2 ^ 32) * 2 ^ 160 + (e.tag % 2 ^ 64) * 2 ^ 192

/-! ### Jobs (02_grid_and_addressing.md R72 to R82) -/

def State.jobBound (s : State) (j : Nat) : Bool := tget 0 s.host.jobSlot j ≠ 0
/-- The generation of a bound job. -/
def State.jobGenOf (s : State) (j : Nat) : Nat := (tget 0 s.host.jobGen j + 255) % 256

/-- A position and queue a rank resolves to, or a completion status (R79). -/
inductive RankRes
  | dest (pid hport func qidx : Nat)
  | bad (status : Nat)
  deriving DecidableEq, Repr

/-- Resolve a rank of a job (R79). -/
def State.resolveRank (s : State) (job rank : Nat) : RankRes :=
  if rank ≥ tget 0 s.host.jobRanks job then .bad csBounds
  else
    let e := s.hbmNat (tget 0 s.host.jobTable job + 8 * rank) 8
    if field e 63 1 = 0 then .bad csPeerUnreachable
    else if !s.validPid (field e 0 20) then .bad csPeerUnreachable
    else .dest (field e 0 20) (field e 20 2) (field e 22 6) (field e 28 18)

end Sys2Proof.Machine
end

