-- ==== Sys2Proof/Machine/RouterOps.lean ====
section
/-! DEFINITION. Router operations shared by several commands (07_dynamic_routing.md): alias lookup, choosable ports, queue
depths, line notices, flips and the throttle table. -/

namespace Sys2Proof.Machine

/-! ### Link states as the router sees them -/

def lkDown : Nat := 0
def lkStarting : Nat := 1
def lkUp : Nat := 2
def lkRetired : Nat := 3
def lkLp : Nat := 4

/-- LINK_STATUS.STATE (Table 5.6); a port out of flow-control range is reported DOWN (05_link_layer.md R182). -/
def State.linkState (s : State) (p : Nat) : Nat :=
  if (s.link p).outOfRange && s.rd R.LINK_STATUS_STATE p ≠ lkRetired then lkDown else s.rd R.LINK_STATUS_STATE p

/-- The port is UP or in LP-QUIET (07 R236, R245). -/
def State.upOrQuiet (s : State) (p : Nat) : Bool :=
  s.linkState p = lkUp || (s.linkState p = lkLp && s.rd R.PORT_STATUS_STATE p = 7)

/-- The port is UP or LP (07 R238). -/
def State.upOrLp (s : State) (p : Nat) : Bool := s.linkState p = lkUp || s.linkState p = lkLp

/-- The transmitter of port `p` sees XOFF for a VC. -/
def State.xoffAt (s : State) (p v : Nat) : Bool := bitAt (s.rd R.LINK_STATUS_PEER_XOFF p) v
/-- STALL of a VC at an output (05_link_layer.md R187). -/
def State.stallAt (s : State) (p v : Nat) : Bool := bitAt (s.rd R.LINK_STATUS_STALL p) v

/-! ### Alias tables (R248 to R256) -/

def State.aliasBank (s : State) (b : Nat) : Tab Nat := if b = 0 then s.rout.bank0 else s.rout.bank1
def State.setAliasBank (s : State) (b : Nat) (t : Tab Nat) : State :=
  { s with rout := if b = 0 then { s.rout with bank0 := t } else { s.rout with bank1 := t } }

def aliasFrom (e : Nat) : Nat := field e 0 20
def aliasTo (e : Nat) : Nat := field e 20 20
def aliasAction (e : Nat) : Nat := field e 40 2
def aliasRsvd (e : Nat) : Nat := field e 42 22

/-- The entry keeps the rules of R747 (and of R250) on its own. -/
def aliasEntryOk (w e : Nat) : Bool :=
  if aliasAction e = 0 then aliasRsvd e = 0
  else aliasRsvd e = 0 && aliasAction e ≠ 3 && validPidIn w (aliasFrom e) &&
    (aliasAction e ≠ 1 || (validPidIn w (aliasTo e) && aliasTo e ≠ aliasFrom e))

/-- The non-empty entries of a bank. -/
def nonEmptyAliases (t : Tab Nat) : List Nat := (t.map Prod.snd).filter fun e => aliasAction e ≠ 0

/-- A non-empty entry takes part in lookups: it is not treated as empty under R256. -/
def aliasLive (w : Nat) (es : List Nat) (e : Nat) : Bool :=
  aliasEntryOk w e && (es.countP (fun x => aliasFrom x = aliasFrom e) = 1) &&
    (aliasAction e ≠ 1 || es.all fun x => aliasFrom x ≠ aliasTo e)

/-- What an alias lookup gives (R235). -/
inductive AliasHit
  | miss
  | redirect (pid : Nat)
  | dropped
  deriving DecidableEq, Repr

/-- Look a PID up in a bank: an exact match on FROM_PID, once, without chains (R250). -/
def State.aliasLookup (s : State) (b pid : Nat) : AliasHit :=
  let es := nonEmptyAliases (s.aliasBank b)
  match es.find? fun e => aliasFrom e = pid && aliasLive s.topo es e with
  | some e => if aliasAction e = 2 then .dropped else .redirect (aliasTo e)
  | none => .miss

/-- A bank is valid under R250. -/
def State.bankValid (s : State) (b : Nat) : Bool :=
  let es := nonEmptyAliases (s.aliasBank b)
  es.all fun e => aliasLive s.topo es e

/-- The 32,768 bytes of a bank in address order. -/
def bankBytes (t : Tab Nat) : List Byte := (List.range 4096).flatMap fun i => toBytes 8 (tget 0 t i)

/-- The CRC-32C of a bank's alias table (R251). -/
def State.bankCrc (s : State) (b : Nat) : Nat := crc32c (bankBytes (s.aliasBank b))

def State.activeBank (s : State) : Nat := s.rd R.ROUT_BANK_ACTIVE

/-- The routing bank of a packet with the given EPOCH; none where R258 converts it to the active bank. -/
def State.routingBank (s : State) (epoch : Nat) : Option Nat :=
  if epoch = s.activeBank || (s.on R.ROUT_BANK_ARMED && epoch = s.rd R.ROUT_BANK_ARMED_BANK) || s.on R.ROUT_BANK_HOLDING then
    some epoch
  else none

/-- The bank that a packet is routed under (R258). -/
def State.bankOf (s : State) (h : Flit) : Nat := (s.routingBank (hEpoch h)).getD s.activeBank

/-- A bank is locked: active, a flip armed, or HOLDING (R252). -/
def State.bankLocked (s : State) (b : Nat) : Bool :=
  b = s.activeBank || s.on R.ROUT_BANK_ARMED || s.on R.ROUT_BANK_HOLDING

/-- The exclusion mask of a bank marks a port (R248). -/
def State.excluded (s : State) (b p : Nat) : Bool :=
  if p < 64 then bitAt (s.rd (if b = 0 then R.ROUT_EXCL0_LO_EXCL else R.ROUT_EXCL1_LO_EXCL)) p
  else bitAt (s.rd (if b = 0 then R.ROUT_EXCL0_HI_EXCL else R.ROUT_EXCL1_HI_EXCL)) (p - 64)

/-! ### Queues (R237) -/

/-- The head flit. -/
def BufPkt.head (k : BufPkt) : Flit := k.seen.headD 0

/-- Flits held in the buffer. -/
def BufPkt.here (k : BufPkt) : Nat := k.seen.length - k.sent

/-- Flits of a packet still to be sent on. -/
def BufPkt.left (k : BufPkt) : Nat := k.here + k.need

/-- Every packet in the input buffers. -/
def State.bufPkts (s : State) : List BufPkt := s.inbuf.flatMap fun kv => kv.2.pkts

/-- queued(p): the flits still to be sent of the packets that hold or name output `p` (R237). -/
def State.queued (s : State) (p : Nat) : Nat :=
  ((s.bufPkts.filter fun k => k.route.any fun r => r.target = .out p).map BufPkt.left).sum

/-- The flits a receive pipeline or Caldera port has received or is due to receive. -/
def State.ejectLoad (s : State) (e : Nat) : Nat := ((s.rx e).map List.length).sum + s.queued (96 + e)

/-! ### Line rows and notices (R244 to R247, R261) -/

def rowKey (d u : Nat) : Nat := 32 * d + u

def State.rowRaw (s : State) (d u : Nat) : Nat := tget 0 s.rout.rows (rowKey d u)

/-- The ports of this device to line member `u` of dimension `d`. -/
def State.portsTo (s : State) (d u : Nat) : List Nat :=
  if u = coord s.ownPid d || u ≥ topoSize s.topo d then []
  else (List.range (topoWidth s.topo d)).map fun k => portTo s.topo d u k

/-- Some port to member `u` is UP or LP-QUIET. -/
def State.memberUp (s : State) (d u : Nat) : Bool := (s.portsTo d u).any s.upOrQuiet

/-- Row u as R246 keeps it: all zeros when no port to `u` is UP or LP-QUIET. -/
def State.peerRow (s : State) (d u : Nat) : Nat := if s.memberUp d u then s.rowRaw d u else 0

/-- Member `u` advertises TRANSIT_OFF. -/
def State.peerOff (s : State) (d u : Nat) : Bool := field (s.peerRow d u) 20 1 = 1

/-- The effective destination of a packet (R235); none when it is dropped. -/
def State.effDest (s : State) (b dpid : Nat) : Option Nat :=
  match s.aliasLookup b dpid with
  | .miss => some dpid
  | .redirect t => some t
  | .dropped => none

/-- HEALTH of the own row of dimension `d`. -/
def State.ownHealth (s : State) (d : Nat) : Nat :=
  ((List.range 32).map fun u => if u = coord s.ownPid d || s.memberUp d u then 2 ^ u else 0).sum

/-- OFF_SEEN bit of member `u` (R261): it advertises TRANSIT_OFF and no packet granted toward it or choosing it goes elsewhere. -/
def State.offSeenBit (s : State) (d u : Nat) : Bool :=
  let ports := s.portsTo d u
  let pid := withCoord s.ownPid d u
  s.peerOff d u && s.bufPkts.all fun k =>
    !(k.route.any fun r => ports.any fun p => r.target = .out p) || s.effDest (s.bankOf k.head) (hDpid k.head) = some pid

def State.ownOffSeen (s : State) (d : Nat) : Nat :=
  ((List.range 32).map fun u => if s.offSeenBit d u then 2 ^ u else 0).sum

/-- DEPTH of member `u` (Table 7.2). -/
def State.depthTo (s : State) (d u : Nat) : Nat :=
  match ((s.portsTo d u).filter s.upOrQuiet).map s.queued with
  | [] => 0
  | q :: qs => min 15 (32 * qs.foldl min q / 512)

/-- What the row region shows of row `u` (Table 7.7): HEALTH and OFF_SEEN, the own row from the device's own ports. -/
def State.rowView (s : State) (d u : Nat) : Nat :=
  if u = coord s.ownPid d then s.ownHealth d + s.ownOffSeen d * 2 ^ 32
  else field (s.peerRow d u) 24 32 + field (s.peerRow d u) 56 32 * 2 ^ 32

def State.ownDepth (s : State) (d : Nat) : Nat := ((List.range 32).map fun u => s.depthTo d u * 2 ^ (4 * u)).sum

/-- The device advertises TRANSIT_OFF: the bit is set, or the device is not yet ADOPTED (R260, R267). -/
def State.advertisesOff (s : State) : Bool := s.on R.ROUT_CTRL_TRANSIT_OFF || !s.on R.ROUT_CTRL_ADOPTED

/-- The LINE notice of dimension `d` (Table 7.2). -/
def State.lineNotice (s : State) (d : Nat) : Nat :=
  0x02 + d * 2 ^ 18 + bNat s.advertisesOff * 2 ^ 20 + s.activeBank * 2 ^ 21 + s.rd R.ROUT_BANK_ARMED * 2 ^ 22 +
    s.ownHealth d * 2 ^ 24 + s.ownOffSeen d * 2 ^ 56 + s.ownDepth d * 2 ^ 88 + s.rd R.ROUT_BANK_LAST_ID * 2 ^ 216

/-- Whether a BC flit is a LINE notice. -/
def isLineNotice (f : Flit) : Bool := fget f 0 8 = 2 && fget f 16 2 = 0

/-- Queue a BC flit for sending; a newer LINE notice replaces a pending one (R245). -/
def State.bcSend (s : State) (p : Nat) (f : Flit) : State :=
  let l := s.link p
  let q := if isLineNotice f then l.bcOut.filter (fun g => !isLineNotice g) else l.bcOut
  s.setLink p { l with bcOut := q ++ [f] }

/-- Send the LINE notice of a port's dimension on that port (R245). -/
def State.lineSendOn (s : State) (p : Nat) : State :=
  match portRole s.topo p with
  | some (d, _) => if s.upOrQuiet p then s.bcSend p (BitVec.ofNat 256 (s.lineNotice d)) else s
  | none => s

/-- Send the LINE notice of dimension `d` on every UP or LP-QUIET port of it when its content has changed; a change of FLIP_ID alone sends none
(R245). -/
def State.lineUpdateDim (s : State) (d : Nat) : State :=
  let n := s.lineNotice d
  if tget 0 s.rout.sent d % 2 ^ 216 = n % 2 ^ 216 then s
  else
    let s1 := { s with rout := { s.rout with sent := tput 0 s.rout.sent d n } }
    (dimPorts s.topo d).foldl (fun t p => if t.upOrQuiet p then t.bcSend p (BitVec.ofNat 256 n) else t) s1

/-- A row whose member no port reaches any longer is all zeros, and a port that is not UP or LP-QUIET has received no OFF_SEEN bit (R246,
R268). -/
def State.rowsPurge (s : State) : State :=
  { s with rout := { s.rout with
      rows := s.rout.rows.filter fun kv => s.memberUp (kv.1 / 32) (kv.1 % 32)
      offSeen := s.rout.offSeen.filter fun kv => s.upOrQuiet kv.1 } }

/-- LINE_NOTICE_SEND: the rows follow the ports, and the changed notices of every used dimension are sent (R245, R246). -/
def State.lineUpdate (s : State) : State :=
  (dims.filter fun d => topoSize s.topo d > 1).foldl State.lineUpdateDim s.rowsPurge

/-! ### Choosing ports -/

/-- The port meets R236 apart from the peer test (ROUT_USABLE). -/
def State.usable (s : State) (b p : Nat) : Bool :=
  (portRole s.topo p).isSome && !isCarr s.topo p && !s.excluded b p && s.upOrQuiet p

/-- The port is choosable for a packet with effective destination `t` under bank `b` (R236). -/
def State.choosable (s : State) (b p t : Nat) : Bool :=
  match portRole s.topo p with
  | none => false
  | some (d, v, _) => s.usable b p && (!s.peerOff d v || withCoord s.ownPid d v = t)

/-- The remaining dimensions toward `t`. -/
def State.remaining (s : State) (t : Nat) : List Nat := dims.filter fun d => coord t d ≠ coord s.ownPid d

/-- The least element of a list by a cost; the first among equals. -/
def argmin (cost : Nat → Nat) : List Nat → Option Nat
  | [] => none
  | p :: ps => some (ps.foldl (fun b q => if cost q < cost b then q else b) p)

/-- dor_link(t): among the parallel links to coord(t, dmin), the least queued one that is UP or LP, else the lowest (R238). -/
def State.dorLink (s : State) (t : Nat) : Option Nat :=
  match s.remaining t with
  | [] => none
  | d :: _ =>
    let ps := s.portsTo d (coord t d)
    match argmin s.queued (ps.filter s.upOrLp) with
    | some p => some p
    | none => ps.head?

/-- h[d][u][v]: bit v of HEALTH of row u, the own row included (R246). -/
def State.health (s : State) (d u v : Nat) : Bool :=
  if u = coord s.ownPid d then bitAt (s.ownHealth d) v else bitAt (field (s.peerRow d u) 24 32) v

/-- depth[d][u][v]: DEPTH of row u for member v. -/
def State.depthOf (s : State) (d u v : Nat) : Nat :=
  if u = coord s.ownPid d then s.depthTo d v else field (s.peerRow d u) (88 + 4 * v) 4

/-- dead_from_line (R247). -/
def State.deadFromLine (s : State) (t : Nat) : Bool :=
  match s.remaining t with
  | [d] => (List.range (topoSize s.topo d)).all fun u => !s.health d u (coord t d)
  | _ => false

/-- DRAINED (R268): each port counts by the latest notice that it has received itself. -/
def State.drained (s : State) : Bool :=
  s.on R.ROUT_CTRL_TRANSIT_OFF &&
  (dims.all fun d => (dimPorts s.topo d).all fun p =>
    !s.upOrQuiet p || (portRole s.topo p).isNone || tget false s.rout.offSeen p) &&
  s.bufPkts.all fun k => s.effDest (s.bankOf k.head) (hDpid k.head) = some s.ownPid

/-! ### Effective timers -/

/-- The effective packet lifetime (01_architecture.md R51). -/
def State.effLifetime (s : State) : Nat := min (s.rd R.TPT_LIFE_LIFETIME) (s.rd R.TPT_GIVEUP_GIVEUP)
/-- The effective routing bank hold time (01_architecture.md R52). -/
def State.effHold (s : State) : Nat := min (s.rd R.ROUT_HOLD_HOLD) s.effLifetime

/-! ### Flips (R253 to R257) -/

/-- A routing flip fires: every transport context in UNREACHABLE (3) is NEW (11_transport_and_windows.md R419). -/
def State.reachableAll (s : State) : State :=
  let f := fun kv : Nat × Tc => if kv.2.txState = 3 then (kv.1, { kv.2 with txState := 0 }) else kv
  { s with tpt := { s.tpt with tcs := (s.tpt.tcs.map f).filter fun kv => kv.2 ≠ {} } }

/-- The flip takes effect, in one cycle (R257). `lcl`: made while INVALID, so HOLDING is counted in local
cycles, rounded down (DESIGN CHOICE, log 202). -/
def State.doFlip (s : State) (late lcl : Bool) : State :=
  match s.rout.armed with
  | none => s
  | some a =>
    let s1 := (((((s.wr R.ROUT_BANK_ACTIVE a.bank).wr R.ROUT_BANK_ARMED_BANK 0).wr R.ROUT_BANK_LAST_ID a.id).wr R.ROUT_BANK_ARMED 0).wr R.ROUT_BANK_HOLDING 1)
    let s2 := if a.mode = 3 then s1 else s1.wr R.ROUT_CTRL_MODE a.mode
    let s3 := { s2 with rout := { s2.rout with
      armed := none
      holdEnd := some (if lcl then .local_ (s.time.cycles + s.effHold / 10) else .gt (a.target + s.effHold)) } }
    let s4 := s3.bump C.ROUT_FLIPS
    let s5 := if late || lcl then (s4.wr R.ROUT_BANK_LATE 1).raise pgRout 2 a.id else s4
    s5.lineUpdate.reachableAll

/-- GEYS_STATUS.STATE (Table 6.5): 0 LOCKED, 1 HOLDOVER, 2 ESTIMATED, 3 INVALID. -/
def State.geysState (s : State) : Nat := s.rd R.GEYS_STATUS_STATE
def gsLocked : Nat := 0
def gsHoldover : Nat := 1
def gsEstimated : Nat := 2
def gsInvalid : Nat := 3

/-- Arm a flip; when its target has passed it fires at once (R257; 06_timebase.md R225), and while INVALID too, an expert ARM included (DESIGN
CHOICE, log 200). -/
def State.armFlip (s : State) (a : ArmedFlip) : State :=
  let s1 := { (s.wr R.ROUT_BANK_ARMED 1).wr R.ROUT_BANK_ARMED_BANK a.bank with rout := { s.rout with armed := some a } }
  if s.geysState = gsInvalid then s1.doFlip true true
  else if s.gt > a.target then s1.doFlip true false
  else s1.lineUpdate

/-- A FLIP_NOTICE (Table 7.4). -/
def flipNotice (hopbud id target bank mode crc origin : Nat) : Flit :=
  BitVec.ofNat 256 (0x03 + (hopbud % 256) * 2 ^ 8 + (id % 2 ^ 16) * 2 ^ 16 + (target % 2 ^ 64) * 2 ^ 32 + (bank % 2) * 2 ^ 96 +
    (mode % 4) * 2 ^ 97 + (crc % 2 ^ 32) * 2 ^ 99 + (origin % 2 ^ 20) * 2 ^ 131)

/-- Every grid port that is UP or LP-QUIET, except `but`. -/
def State.floodPorts (s : State) (but : Option Nat) : List Nat :=
  ((dims.flatMap fun d => dimPorts s.topo d).filter s.upOrQuiet).filter fun p => some p ≠ but

/-- Flood a BC flit. -/
def State.flood (s : State) (f : Flit) (but : Option Nat) : State := (s.floodPorts but).foldl (fun t p => t.bcSend p f) s

/-- Originate a flip: arm it and flood the notice (R253); a bank that an expert flip takes although it fails R250 is a mismatch (R256,
R747). -/
def State.originateFlip (s : State) (target id mode hopbud : Nat) : State :=
  let bank := 1 - s.activeBank
  let f := flipNotice hopbud id target bank mode (s.bankCrc bank) s.ownPid
  let s1 := if s.bankValid bank then s else (s.wr R.ROUT_BANK_MISMATCH 1).raise pgRout 3 id
  (s1.flood f none).armFlip { target := target, bank := bank, mode := mode, id := id }

/-! ### Throttle table (R264 to R266) -/

/-- A MARK notice for destination `x` reaches the throttle table. -/
def State.thrMark (s : State) (x : Nat) : State :=
  let t := s.rout.throttle
  let found := t.find? fun e => e.dpid = x
  let e := found.getD { dpid := x, rate := 256, next := 0, since := s.rd R.ROUT_THR_AI_PKTS }
  let rest := t.filter fun e => e.dpid ≠ x
  let evict := found.isNone && decide (rest.length ≥ 1024)
  let rest := if evict then rest.dropLast else rest
  let s := if evict then s.bump C.ROUT_THR_EVICT else s
  let dec := decide (e.since ≥ s.rd R.ROUT_THR_AI_PKTS)
  let e' := if dec then
      { e with rate := max (s.rd R.ROUT_THR_RATE_MIN) (e.rate - e.rate / 2 ^ s.rd R.ROUT_THR_MD_SHIFT), since := 0 } else e
  let s := if dec then s.bump C.ROUT_THR_DECREASE else s
  { s with rout := { s.rout with throttle := e' :: rest } }

/-- EP_RATE of endpoint port `e` (ROUT_EP_RATE0, ROUT_EP_RATE1 hold the rate less 1). -/
def State.epRate (s : State) (e : Nat) : Nat :=
  (if e < 8 then field (s.rd R.ROUT_EP_RATE0_RATE) (8 * e) 8 else field (s.rd R.ROUT_EP_RATE1_RATE) (8 * (e - 8)) 8) + 1

def State.setEpRate (s : State) (e r : Nat) : State :=
  if e < 8 then s.wr R.ROUT_EP_RATE0_RATE (setField (s.rd R.ROUT_EP_RATE0_RATE) (8 * e) 8 (r - 1))
  else s.wr R.ROUT_EP_RATE1_RATE (setField (s.rd R.ROUT_EP_RATE1_RATE) (8 * (e - 8)) 8 (r - 1))

/-- Flits on endpoint port `e` of packets waiting for a grant (R265). -/
def State.epQueue (s : State) (e : Nat) : Nat :=
  ((List.range 8).map fun v => (((s.inVc (96 + e) v).pkts.filter fun k => !k.granted).map BufPkt.left).sum).sum

/-- LQ_THR has a new value: a queue that lies above it has not risen (R265). -/
def State.epSettle (s : State) : State :=
  let f := fun (t : Tab Bool) (e : Nat) => tput false t e (decide (s.epQueue e > s.rd R.ROUT_THR_LQ_THR))
  { s with rout := { s.rout with epAbove := (List.range 10).foldl f s.rout.epAbove } }

/-- The decrease of R265: it fires each time the waiting queue of a port E0 to E9 rises above LQ_THR. -/
def State.epCheck (s : State) (e : Nat) : State :=
  let above := decide (s.epQueue e > s.rd R.ROUT_THR_LQ_THR)
  let was := tget false s.rout.epAbove e
  let s1 := { s with rout := { s.rout with epAbove := tput false s.rout.epAbove e above } }
  if e ≥ 10 then s
  else if above && !was then
    let s2 := s1.setEpRate e (max (s.rd R.ROUT_THR_RATE_MIN) (s.epRate e - s.epRate e / 2 ^ s.rd R.ROUT_THR_MD_SHIFT))
    ({ s2 with rout := { s2.rout with epSince := tput 0 s2.rout.epSince e 0 } }).bump C.ROUT_THR_DECREASE
  else s1

/-- A packet has left the waiting queue of an input (R265). -/
def State.leftQueue (s : State) (input : Nat) : State := if input ≥ 96 then s.epCheck (input - 96) else s

/-- Whether the destination's and the port's pacing let a dynamic request-class packet go now (R264, R265). -/
def State.paceReady (s : State) (e dpid : Nat) : Bool :=
  !s.on R.ROUT_THR_THR_EN ||
  ((match s.rout.throttle.find? fun x => x.dpid = dpid with
    | some x => decide (s.gt ≥ x.next)
    | none => true) && decide (s.gt ≥ tget 0 s.rout.epNext e))

/-- One packet of `n` flits counted against a rate: next, since and rate after it (R264); a part of a tick is dropped (DESIGN CHOICE, log 203). -/
def paceStep (gt next rate since n aiPkts aiStep : Nat) (counts : Bool) : Nat × Nat × Nat :=
  let next' := max next gt + 2560 * n / rate
  let since' := if counts then since + 1 else since
  let rate' := if counts && decide (since' ≥ 2 * aiPkts) && decide (since' % aiPkts = 0) then min 256 (rate + aiStep) else rate
  (next', rate', since')

/-- A dynamic request-class packet of `n` flits is formed for `dpid` on endpoint port `e` (R264, R265). -/
def State.paceTake (s : State) (e dpid n : Nat) : State :=
  let ap := s.rd R.ROUT_THR_AI_PKTS
  let st := s.rd R.ROUT_THR_AI_STEP
  let s1 := match s.rout.throttle.find? fun x => x.dpid = dpid with
    | none => s
    | some x =>
      let r := paceStep s.gt x.next x.rate x.since n ap st true
      let rest := s.rout.throttle.filter fun (y : ThrEntry) => y.dpid ≠ dpid
      { s with rout := { s.rout with throttle :=
          if r.2.1 = 256 then rest else { x with next := r.1, rate := r.2.1, since := r.2.2 } :: rest } }
  let r := paceStep s.gt (tget 0 s1.rout.epNext e) (s1.epRate e) (tget 0 s1.rout.epSince e) n ap st
    (decide (s1.epQueue e ≤ s1.rd R.ROUT_THR_LQ_THR))
  let s2 := s1.setEpRate e r.2.1
  { s2 with rout := { s2.rout with
      epNext := tput 0 s2.rout.epNext e (if r.2.1 = 256 then 0 else r.1), epSince := tput 0 s2.rout.epSince e r.2.2 } }

end Sys2Proof.Machine
end

