-- ==== Sys2Proof/Machine/MirrorOps.lean ====
section
/-! DEFINITION. Mirror records of a pair (15_pair_operation.md R547 to R552): sending them, and what waits for them. -/

namespace Sys2Proof.Machine

/-! Pair states (Table 15.7). -/
def psStart : Nat := 0
def psSyncing : Nat := 1
def psPaired : Nat := 2
def psSolo : Nat := 3
def psAdopting : Nat := 4
def psYielded : Nat := 5
def psUnpaired : Nat := 6
def State.pairState (s : State) : Nat := s.rd R.PAIR_STATUS_STATE

/-- Records are sent in this state (R550). -/
def State.mirroring (s : State) : Bool :=
  s.pair.session && (s.pairState = psPaired || s.pairState = psSyncing ||
    (s.pairState = psAdopting && s.pair.mateState = psYielded && s.pair.syncAcked))

/-- Effects wait for acknowledgements (R550, R551). -/
def State.strict (s : State) : Bool := s.mirroring && !s.pair.modeSent

/-- Fields of a record's header flit: MTYPE, NBODY, HPORT, FUNC, QIDX, INDEX, ARG (Tables 15.4 and 15.5). -/
def mirFields : MirRec → Nat × Nat × Nat × Nat × Nat × Nat × Nat
  | .inc i => (0x01, 0, 0, 0, 0, 0, i)
  | .syncBegin => (0x02, 0, 0, 0, 0, 0, 0)
  | .syncEnd => (0x03, 0, 0, 0, 0, 0, 0)
  | .func h f st => (0x04, 0, h, f, 0, 0, st)
  | .ctx _ c => (0x05, 1, c.hport, c.func, 0, 0, 0)
  | .qp q p => (0x06, 2, p.hport, p.func, q, 0, 0)
  | .eq p => (0x07, 1, p.hport, p.func, p.vec, 0, 0)
  | .idx h f q _ a b c d => (0x08, 0, h, f, q, 0, a + b * 2 ^ 32 + c * 2 ^ 64 + d * 2 ^ 96)
  | .reserve h f q x opid dpid seq n fired =>
    (0x09, 0, h, f, q, x, opid + dpid * 2 ^ 24 + seq * 2 ^ 44 + n * 2 ^ 76 + bNat fired * 2 ^ 108)
  | .done h f q x _ _ => (0x0A, 1, h, f, q, x, 0)
  | .post h f q x post _ => (0x0B, 2, h, f, q, x, post)
  | .match_ h f q post spid opid => (0x0C, 0, h, f, q, 0, post + spid * 2 ^ 64 + opid * 2 ^ 84)
  | .unexp h f q comm srank tag _ _ _ _ _ pl =>
    (0x0D, 1 + (match pl with | some b => flitsFor b.length | none => 0), h, f, q, 0, comm + srank * 2 ^ 24 + tag * 2 ^ 48)
  | .win i w => (0x0E, 1, w.hport, w.func, 0, i, w.length + w.freeGt * 2 ^ 64)
  | .cntRange h f first n _ => (0x0F, 0, h, f, 0, 0, first + n * 2 ^ 20)
  | .cntBind h f q c en => (0x0F, 0, h, f, q, 0, c + q * 2 ^ 37 + bNat en * 2 ^ 55)
  | .mode r => (0x10, 0, 0, 0, 0, 0, bNat r)
  | .move g r => (0x11, 0, 0, 0, 0, 0, g + bNat r * 2 ^ 64)
  | .yield_ g => (0x12, 0, 0, 0, 0, 0, g)

/-- The header flit of a record (Table 15.4). -/
def mirHeader (r : MirRec) (mseq : Nat) : Flit :=
  let (t, n, h, f, q, x, arg) := mirFields r
  BitVec.ofNat 256 (t % 256 + (n % 16) * 2 ^ 8 + (h % 4) * 2 ^ 16 + (f % 64) * 2 ^ 18 + (mseq % 2 ^ 32) * 2 ^ 32 +
    (q % 2 ^ 18) * 2 ^ 64 + (x % 2 ^ 32) * 2 ^ 96 + (arg % 2 ^ 128) * 2 ^ 128)

/-- The CARR port a unit travels on: an UP one, or else one in LP, P94 first (R542). -/
def State.carrPort (s : State) : Nat :=
  if s.linkState 94 = lkUp then 94 else if s.linkState 95 = lkUp then 95 else if s.linkState 94 = lkLp then 94 else 95

/-- Put a record on CARR. -/
def State.mirEmit (s : State) (mseq : Nat) (r : MirRec) : State :=
  (s.emit (.mirror s.carrPort 0 (mirHeader r mseq) r)).bump C.PAIR_RECORDS_TX

/-- Send a record whatever the mode; it waits its turn while 4,096 are unacknowledged (R549). Answers its MSEQ. -/
def State.mirSend (s : State) (r : MirRec) : Nat × State :=
  let m := s.pair.txNext
  let sent := (s.pair.unacked.filter fun x => x.sentAt.isSome).length
  let now := sent < 4096
  let rec_ : SentRec := { mseq := m, body := r, sentAt := if now then some s.time.cycles else none }
  let s1 : State := { s with pair := { s.pair with txNext := (m + 1) % 2 ^ 32, unacked := s.pair.unacked ++ [rec_] } }
  (m, if now then (s1.mirEmit m r).wr R.PAIR_MSEQ_TX_NEXT ((m + 1) % 2 ^ 32) else s1)

/-- Send a record while mirroring. Answers its MSEQ when an effect must wait for it. -/
def State.mirror (s : State) (r : MirRec) : Option Nat × State :=
  if s.mirroring then
    let (m, s1) := s.mirSend r
    (if s.strict then some m else none, s1)
  else (none, s)

/-- Send a record on which nothing waits. -/
def State.mirrorNote (s : State) (r : MirRec) : State := (s.mirror r).2

/-- The RESERVE record of an operation that has released its first effect. -/
def Reserved.record (r : Reserved) (p : QpParams) (q : Nat) : MirRec := .reserve p.hport p.func q r.x r.opid r.pid r.seq r.count r.fired

/-- An operation of a QP is about to release its first effect: it is remembered, and its RESERVE goes to the mate (Table 15.6). -/
def State.reserveRec (s : State) (q : Nat) (r : Reserved) : Option Nat × State :=
  (s.modQp q fun y => { y with reserves := y.reserves ++ [r] }).mirror (r.record (s.qp q).p q)

/-- The record an effect waits for has been acknowledged, or there is none. -/
def State.gateOpen (s : State) (g : Option Nat) : Bool :=
  match g with
  | none => true
  | some m => !(s.pair.unacked.any fun x => x.mseq = m)

/-- Make an effect now, or when the record it waits for is acknowledged. -/
def State.after (s : State) (g : Option Nat) (eff : Gated) (now : State → State) : State :=
  match g with
  | none => now s
  | some m =>
    if s.gateOpen g then now s
    else ({ s with pair := { s.pair with waits := s.pair.waits ++ [(m, eff)] } }).bump C.PAIR_STRICT_WAITS

end Sys2Proof.Machine
end

