-- ==== Sys2Proof/Machine/Fec.lean ====
section
/-! DEFINITION. The forward error correction of the lanes (04_lanes.md R126, R127): RS(288,272) over GF(2^10) with the
primitive polynomial x^10 + x^3 + 1, encoding and decoding. -/

namespace Sys2Proof.Machine

/-- Multiply by alpha in GF(2^10). -/
def gfX (a : Nat) : Nat := if a ≥ 512 then ((a * 2) ^^^ 0x409) % 1024 else a * 2

/-- Multiplication in GF(2^10): `n` bits of `b`, most significant first. -/
def gfMulN : Nat → Nat → Nat → Nat → Nat
  | 0, _, _, acc => acc
  | n + 1, a, b, acc => gfMulN n a b (let x := gfX acc; if b.testBit n then x ^^^ a else x)

def gfMul (a b : Nat) : Nat := gfMulN 10 a b 0

/-- alpha to the power `n`. -/
def gfPow : Nat → Nat
  | 0 => 1
  | n + 1 => gfX (gfPow n)

/-- `a` to the power `n`. -/
def gfExp (a : Nat) : Nat → Nat
  | 0 => 1
  | n + 1 => gfMul a (gfExp a n)

/-- The inverse: a^(2^10 - 2) by squarings (0 has none and gives 0). -/
def gfInv (a : Nat) : Nat :=
  let a2 := gfMul a a
  let a4 := gfMul a2 a2
  let a8 := gfMul a4 a4
  let a16 := gfMul a8 a8
  let a32 := gfMul a16 a16
  let a64 := gfMul a32 a32
  let a128 := gfMul a64 a64
  let a256 := gfMul a128 a128
  let a512 := gfMul a256 a256
  gfMul a2 (gfMul a4 (gfMul a8 (gfMul a16 (gfMul a32 (gfMul a64 (gfMul a128 (gfMul a256 a512)))))))

/-- Coefficients of g(x) below x^16, highest degree first, built by multiplying by (x - alpha^i) for i = 0 to 15. -/
def rsGen : List Nat :=
  (List.range 16).foldl (fun g i =>
    -- g has leading coefficient 1 left out; multiply 1 :: g by (x + alpha^i)
    let full := 1 :: g
    let shifted := full ++ [0]
    let scaled := 0 :: full.map (gfMul (gfPow i))
    (List.zipWith (fun a b => a ^^^ b) shifted scaled).drop 1) []

/-- One step of the division of the message by g(x). -/
def rsStep (rem : List Nat) (m : Nat) : List Nat :=
  let f := (rem.headD 0) ^^^ m
  List.zipWith (fun r g => r ^^^ gfMul f g) (rem.drop 1 ++ [0]) rsGen

/-- The 16 parity symbols of 272 data symbols, symbol 272 first (R126). -/
def rsParity (data : List Nat) : List Nat := data.foldl rsStep (List.replicate 16 0)

/-- A codeword evaluated at a point, symbol 0 the highest degree. -/
def polyEval (cw : List Nat) (x : Nat) : Nat := cw.foldl (fun acc c => gfMul acc x ^^^ c) 0

/-- The 16 syndromes of a received word. -/
def syndromes (cw : List Nat) : List Nat := (List.range 16).map fun i => polyEval cw (gfPow i)

/-- State of the Berlekamp-Massey iteration: the error locator and the previous one (constant term first), the current number
of errors, the shift and the last non-zero discrepancy. -/
structure Bm where
  c : List Nat := [1]
  b : List Nat := [1]
  l : Nat := 0
  m : Nat := 1
  d : Nat := 1

/-- Add two coefficient lists, constant term first. -/
def polyAdd : List Nat → List Nat → List Nat
  | [], q => q
  | p, [] => p
  | a :: p, b :: q => (a ^^^ b) :: polyAdd p q

/-- One iteration with the syndromes up to number `n`. -/
def bmStep (syn : List Nat) (s : Bm) (n : Nat) : Bm :=
  let d := ((List.range (s.l + 1)).map fun i => gfMul (s.c.getD i 0) (syn.getD (n - i) 0)).foldl (fun a b => a ^^^ b) 0
  if d = 0 then { s with m := s.m + 1 }
  else
    let k := gfMul d (gfInv s.d)
    let t := polyAdd s.c (List.replicate s.m 0 ++ s.b.map (gfMul k))
    if 2 * s.l ≤ n then { c := t, b := s.c, l := n + 1 - s.l, m := 1, d := d }
    else { s with c := t, m := s.m + 1 }

/-- The error locator of the syndromes. -/
def bmRun (syn : List Nat) : Bm := (List.range 16).foldl (bmStep syn) {}

/-- Evaluate a list of coefficients, constant term first. -/
def polyAt (p : List Nat) (x : Nat) : Nat := p.foldr (fun c acc => c ^^^ gfMul acc x) 0

/-- The positions in error: symbol j (power 287 - j) where the locator has the root alpha^-(287-j). -/
def errorPlaces (loc : List Nat) : List Nat :=
  (List.range 288).filter fun j => polyAt loc (gfPow ((1023 - (287 - j)) % 1023)) = 0

/-- The error value at a place by Forney's formula (first consecutive root alpha^0). -/
def errorValue (syn loc : List Nat) (j : Nat) : Nat :=
  let x := gfPow (287 - j)
  let xi := gfInv x
  let omega := ((List.range 16).map fun i =>
    ((List.range (i + 1)).map fun k => gfMul (loc.getD k 0) (syn.getD (i - k) 0)).foldl (fun a b => a ^^^ b) 0)
  let deriv := (List.range loc.length).map fun i => if i % 2 = 1 then loc.getD i 0 else 0
  -- derivative: odd coefficients, one degree lower
  let dv := polyAt (deriv.drop 1) xi
  gfMul x (gfMul (polyAt omega xi) (gfInv dv))

/-- The outcome of decoding: the corrected word and the places corrected, or none when it cannot be corrected (R126, R131). -/
def rsDecode (cw : List Nat) : Option (List Nat × List Nat) :=
  let syn := syndromes cw
  if syn.all (fun x => x = 0) then some (cw, [])
  else
    let r := bmRun syn
    let places := errorPlaces r.c
    if r.l ≤ 8 && places.length = r.l then
      let fixed := cw.zipIdx.map fun (c, j) => if places.contains j then c ^^^ errorValue syn r.c j else c
      if (syndromes fixed).all fun x => x = 0 then some (fixed, places) else none
    else none

/-- The 340 data bytes of 272 data symbols: symbol i holds stream bits 10 i + 9 down to 10 i (R127). -/
def symbolsBytes (syms : List Nat) : List Byte := toBytes 340 (syms.foldr (fun s acc => s + 1024 * acc) 0)

end Sys2Proof.Machine
end

