-- ==== Sys2Proof/Machine/Pcs.lean ====
section
/-! DEFINITION. The lane signal (04_lanes.md R122, R127 to R132, R137, R149, R150): levels, codeword pairs over two lanes, the scrambler, comma
halves and training frames, in both directions. -/

namespace Sys2Proof.Machine

/-! ### Levels (R122, R129) -/

/-- The level of a bit pair (b1, b0), written as 2 b1 + b0 (R122). -/
def levelOf (b : Nat) : Level := match b % 4 with
  | 0 => .m3
  | 1 => .m1
  | 3 => .p1
  | _ => .p3

/-- The bit pair of a level. -/
def levelBits : Level → Nat
  | .m3 => 0
  | .m1 => 1
  | .p1 => 3
  | .p3 => 2

/-- The level of an inverted lane (R135). -/
def levelNeg : Level → Level
  | .m3 => .p3
  | .m1 => .p1
  | .p1 => .m1
  | .p3 => .m3

/-- Undo the inversion of a lane. -/
def uninvert (inv : Bool) (ls : List Level) : List Level := if inv then ls.map levelNeg else ls

/-- The five levels of a 10-bit symbol, bits [1:0] first (R129). -/
def symbolLevels (x : Nat) : List Level := (List.range 5).map fun i => levelOf (x / 4 ^ i)

/-- The symbol of levels, the first one its bits [1:0]. -/
def levelsSymbol (ls : List Level) : Nat := ls.foldr (fun l acc => levelBits l + 4 * acc) 0

/-- Cut a run of levels into `n` symbols. -/
def levelsSymbols : Nat → List Level → List Nat
  | 0, _ => []
  | n + 1, ls => levelsSymbol (ls.take 5) :: levelsSymbols n (ls.drop 5)

/-- How many of the first places of `want` hold another level. -/
def levelErrors : List Level → List Level → Nat
  | [], _ => 0
  | w :: t, ls => (if ls.head? = some w then 0 else 1) + levelErrors t (ls.drop 1)

/-! ### The scrambler (R130; log 161) -/

/-- One step of the generator x^31 + x^28 + 1. -/
def prbs31Step (x : Nat) : Nat := (2 * x + bNat (bitAt x 30 != bitAt x 27)) % 2 ^ 31

/-- One step of the generator x^13 + x^12 + x^2 + x + 1 (Table 4.3). -/
def prbs13Step (x : Nat) : Nat := (2 * x + bNat (bitAt x 12 != (bitAt x 11 != (bitAt x 1 != bitAt x 0)))) % 2 ^ 13

/-- A generator advanced by `n` bits. -/
def prbsSkip (step : Nat → Nat) : Nat → Nat → Nat
  | 0, x => x
  | n + 1, x => prbsSkip step n (step x)

/-- The next `n` bits of a generator: the bit that leaves it is the one of highest degree. -/
def prbsBits (step : Nat → Nat) (top : Nat) : Nat → Nat → List Bool
  | 0, _ => []
  | n + 1, x => bitAt x top :: prbsBits step top n (step x)

/-- The state after every comma block on lane 0 and lane 1 of a port (R130). -/
def scrambleSeed (lane1 : Bool) : Nat := if lane1 then 0x2D2D2D2D else 0x5A5A5A5A

/-- The generator's state at a codeword pair of the comma grid: one bit per codeword bit, 2,880 bits per pair and lane. -/
def scrambleAt (lane1 : Bool) (pair : Nat) : Nat := prbsSkip prbs31Step (2880 * pair) (scrambleSeed lane1)

/-- Bits as a number, the first one bit 0. -/
def bitsNat (bs : List Bool) : Nat := bs.foldr (fun b acc => bNat b + 2 * acc) 0

/-- Exclusive-or of 10-bit symbols with a bit sequence, bit 0 of a symbol first. -/
def xorSymbols : List Bool → List Nat → List Nat
  | _, [] => []
  | bs, x :: t => (x ^^^ bitsNat (bs.take 10)) :: xorSymbols (bs.drop 10) t

/-- Scramble, or unscramble, the symbols of one lane in one codeword pair (R130). -/
def scramble (lane1 : Bool) (pair : Nat) (syms : List Nat) : List Nat :=
  xorSymbols (prbsBits prbs31Step 30 2880 (scrambleAt lane1 pair)) syms

/-! ### Codeword pairs (R126 to R128) -/

/-- Data bytes as 272 symbols: symbol i holds stream bits 10 i + 9 down to 10 i (R127). -/
def bytesSymbols (bs : List Byte) : List Nat :=
  let n := ofBytes bs
  (List.range 272).map fun i => n / 1024 ^ i % 1024

/-- The codeword of 340 data bytes (R126). -/
def codewordOf (bs : List Byte) : List Nat := bytesSymbols bs ++ rsParity (bytesSymbols bs)

/-- The 288 symbols of one lane in a pair of codewords: position j carries symbol j div 2 of A or of B and goes to lane (j div 2) mod 2 (R128). -/
def laneSymbols (lane1 : Bool) (a b : List Nat) : List Nat :=
  (List.range 144).flatMap fun i => [a.getD (2 * i + bNat lane1) 0, b.getD (2 * i + bNat lane1) 0]

/-- Codeword A, or B, of the symbols of lane 0 and lane 1. -/
def pairCodeword (isB : Bool) (x0 x1 : List Nat) : List Nat :=
  (List.range 144).flatMap fun i => [x0.getD (2 * i + bNat isB) 0, x1.getD (2 * i + bNat isB) 0]

/-- The levels of one lane for a codeword pair of 680 data bytes at its place of the comma grid. -/
def pairLevels (lane1 : Bool) (pair : Nat) (data : List Byte) : List Level :=
  (scramble lane1 pair (laneSymbols lane1 (codewordOf (data.take 340)) (codewordOf (data.drop 340)))).flatMap symbolLevels

/-- The symbols of one lane received in a codeword pair. -/
def laneReceived (lane1 : Bool) (pair : Nat) (ls : List Level) : List Nat := scramble lane1 pair (levelsSymbols 288 ls)

/-! ### Comma halves (Table 4.2) -/

/-- The 20 UIs of a comma marker. -/
def commaMarker : List Level :=
  [.p3, .p3, .p3, .p3, .p3, .m3, .m3, .m3, .m3, .m3, .p3, .p3, .p3, .m3, .m3, .m3, .p3, .m3, .p3, .m3]

/-- The 30 UIs of a comma half. -/
def commaLevels (cidx ctag : Nat) : List Level := commaMarker ++ symbolLevels cidx ++ symbolLevels ctag

/-! ### Training frames (Table 4.3) -/

/-- The marker of a training frame. -/
def trainMarker : List Level := List.replicate 16 .p3 ++ List.replicate 16 .m3

/-- One bit of a control or status word: 8 UI (R137). -/
def trainBit (b : Bool) : List Level :=
  if b then List.replicate 4 .p3 ++ List.replicate 4 .m3 else List.replicate 4 .m3 ++ List.replicate 4 .p3

/-- A control or status word, bit 0 first. -/
def trainWord (w : Nat) : List Level := (List.range 16).flatMap fun i => trainBit (bitAt w i)

/-- Bits two by two as levels, the first of two b0 (log 161). -/
def bitLevels : List Bool → List Level
  | b0 :: b1 :: t => levelOf (bNat b0 + 2 * bNat b1) :: bitLevels t
  | _ => []

/-- The PRBS13 part of a training frame, restarted in each from the lane's seed. -/
def trainTail (lane1 : Bool) : List Level := bitLevels (prbsBits prbs13Step 12 7616 (if lane1 then 0x0F31 else 0x1ABD))

/-- A training frame of 4,096 UI. -/
def trainFrame (lane1 : Bool) (control status : Nat) : List Level :=
  trainMarker ++ trainWord control ++ trainWord status ++ trainTail lane1

/-- The bit of 8 UIs received: the pattern that more of them fit (log 168). -/
def readBit (ls : List Level) : Bool := levelErrors (trainBit true) ls < levelErrors (trainBit false) ls

/-- A word of a received frame, from UI `at_` on. -/
def readWord (ls : List Level) (at_ : Nat) : Nat := bitsNat ((List.range 16).map fun i => readBit ((ls.drop (at_ + 8 * i)).take 8))

/-- Whether the marker of a received frame is upright or inverted (R135); none where it is neither (log 168). -/
def markerInverted (ls : List Level) : Option Bool :=
  if levelErrors trainMarker ls ≤ 3 then some false
  else if levelErrors (trainMarker.map levelNeg) ls ≤ 3 then some true else none

/-! ### Low power -/

/-- The wake marker: 64 UI of +3 and -3 alternating (R150). -/
def wakeLevels : List Level := (List.range 64).map fun i => if i % 2 = 0 then .p3 else .m3

end Sys2Proof.Machine
end

