-- ==== Sys2Proof/Machine/LinkOps.lean ====
section
/-! DEFINITION. Operations of lanes and links shared by several commands: port states (04_lanes.md R142), flow control
(05_link_layer.md R181 to R185), sessions (R191 to R195), acknowledgement and replay (R173 to R180), and low power (R196 to R199). -/

namespace Sys2Proof.Machine

/-! ### Port states (Table 4.12) -/

def tOff : Nat := 0
def tSend : Nat := 1
def tCdr : Nat := 2
def tCoef : Nat := 3
def tAlign : Nat := 4
def tIdent : Nat := 5
def tUp : Nat := 6
def tQuiet : Nat := 7
def tDorm : Nat := 8
def tHold : Nat := 9
def tMis : Nat := 10

def State.pst (s : State) (p : Nat) : Nat := s.rd R.PORT_STATUS_STATE p
def State.setPst (s : State) (p x : Nat) : State := s.wr R.PORT_STATUS_STATE x p

/-- The lane delivers a byte stream to the link layer. -/
def State.streaming (s : State) (p : Nat) : Bool := s.pst p = tUp || s.pst p = tQuiet

/-- Preset values of Table 4.1: magnitudes of c(-1), c(0), c(+1). -/
def preset (n : Nat) : Nat × Nat × Nat :=
  match n with
  | 0 => (0, 64, 0) | 1 => (4, 60, 0) | 2 => (0, 58, 6) | 3 => (4, 54, 6)
  | 4 => (6, 50, 8) | 5 => (8, 46, 10) | 6 => (10, 42, 12) | _ => (12, 38, 14)

/-! ### Flow control -/

/-- The delay of R181 in 1/64 tick: PORT_DLY, or 90 ns when it is not VALID. -/
def State.dlyUnits (s : State) (p : Nat) : Nat := if s.on R.PORT_DLY_VALID p then s.rd R.PORT_DLY_DLY p else 92160

/-- LINK_RTT in 1/64 tick. -/
def State.rttUnits (s : State) (p : Nat) : Nat := 2 * (s.dlyUnits p + 47104)

/-- LINK_RTT in ticks (R181); a part of a tick is dropped (DESIGN CHOICE, log 162: the spec gives no rounding). -/
def State.linkRtt (s : State) (p : Nat) : Nat := s.rttUnits p / 64

/-- SKID_REQ in bytes (R181): ceil(50.2 * (rtt + 38 ns)) + 528. -/
def State.skidReq (s : State) (p : Nat) : Nat := (502 * (s.rttUnits p + 38912) + 10239) / 10240 + 528

/-- Flits a VC of an input holds. -/
def InVc.flits (v : InVc) : Nat := (v.pkts.map BufPkt.here).sum

def State.vcFlits (s : State) (p v : Nat) : Nat := (s.inVc p v).flits

/-- Flits of the input's VCs that lie in the skid pool (131 flits of each VC are reserved). -/
def State.poolFlits (s : State) (p : Nat) : Nat := ((List.range 8).map fun v => s.vcFlits p v - 131).sum

/-- Free bytes of the skid pool of 16 KiB. -/
def State.poolFree (s : State) (p : Nat) : Nat := 16384 - 32 * s.poolFlits p

/-- The XOFF bit the receiver wants for a VC (R183), from the bit it wanted before. -/
def State.xoffBit (s : State) (p v : Nat) (old : Bool) : Bool :=
  let n := s.vcFlits p v
  if n > 131 || s.poolFree p < s.skidReq p then true
  else if n ≤ 131 && (131 - n) * 32 ≥ 1056 && s.poolFree p ≥ min (s.skidReq p + 1056) 16384 then false
  else old

/-- XOFF_UPDATE: the XOFF value and POOL_FREE follow the occupancies (R183, R184). -/
def State.xoffUpdate (s : State) (p : Nat) : State :=
  if p ≥ 96 then s
  else
    let l := s.link p
    let x := ((List.range 8).map fun v => if s.xoffBit p v (bitAt l.xoff.toNat v) || (v = 6 && s.coll.writes.any fun w => w.input = p) then 2 ^ v else 0).sum
    (s.setLink p { l with xoff := BitVec.ofNat 8 x }).wr R.LINK_FC_POOL_FREE (s.poolFree p) p

/-- LINK_FC and the range test follow PORT_DLY (R181, R182). A figure wider than its field shows its low bits (R201; DESIGN CHOICE, log 198). -/
def State.fcUpdate (s : State) (p : Nat) : State :=
  let s1 := (s.wr R.LINK_FC_LINK_RTT (s.linkRtt p) p).wr R.LINK_FC_SKID_REQ (s.skidReq p) p
  let far := s.on R.PORT_DLY_VALID p && decide (s.rd R.PORT_DLY_DLY p > 92160)
  let s2 := (s1.setLink p { s1.link p with outOfRange := far }).cond (pgLink p) 1 far
  (s2.xoffUpdate p).lineUpdate

/-- A frame of `n` flits of VC `v` fits (R185). -/
def State.spaceFor (s : State) (p v n : Nat) : Bool :=
  n ≤ (131 - s.vcFlits p v) + s.poolFree p / 32

/-- A flit that begins a new packet joins an input VC; a malformed head starts discarding (03_packets.md R114). -/
def InVc.startPkt (v : InVc) (f : Flit) (gt : Nat) : InVc :=
  if malformed f then
    { v with pkts := v.pkts ++ [{ seen := [f], need := 0, arrival := gt, bad := true }], discarding := true }
  else { v with pkts := v.pkts ++ [{ seen := [f], need := pktFlits f - 1, arrival := gt }] }

/-- One flit joins an input VC: it continues the packet still arriving, or begins one (03_packets.md R93, R114). -/
def InVc.push (v : InVc) (f : Flit) (gt : Nat) : InVc :=
  if v.discarding then v
  else
    match v.pkts.getLast? with
    | some k =>
      if k.need > 0 then
        let k' := { k with
          seen := k.seen ++ [if k.poison && k.need = 1 then badTail f else f], need := k.need - 1, sent := if k.dropping then k.sent + 1 else k.sent }
        let rest := v.pkts.dropLast
        if k'.dropping && k'.need = 0 then { v with pkts := rest } else { v with pkts := rest ++ [k'] }
      else v.startPkt f gt
    | none => v.startPkt f gt
/-- Flits join an input VC in order. -/
def State.deliver (s : State) (input v : Nat) (fs : List Flit) : State :=
  s.setInVc input v (fs.foldl (fun x f => x.push f s.gt) (s.inVc input v))

/-- A packet cut short is completed (R193): missing flits are zero, and the tail carries the inverse of the CRC-32C. -/
def BufPkt.complete (k : BufPkt) : BufPkt :=
  let body := k.seen ++ List.replicate (k.need - 1) 0
  { k with seen := body ++ [badTailOf body], need := 0 }

/-- Complete the packets of an input whose tails have not arrived (R193), counting them. -/
def State.completeVcs (s : State) (p : Nat) : State :=
  (List.range 8).foldl (fun s v =>
    let x := s.inVc p v
    let n := x.pkts.countP fun k => k.need > 0 && !k.dropping
    let s1 := s.setInVc p v { x with pkts := (x.pkts.filter fun k => !(k.need > 0 && k.dropping)).map fun k =>
      if k.need > 0 then k.complete else k }
    if n = 0 then s1 else s1.bump C.LINK_TRUNCATED p n) s

/-- R193 for an input, and what its occupancy changes: XOFF and POOL_FREE, and the LINE notice. -/
def State.completePartial (s : State) (p : Nat) : State := ((s.completeVcs p).xoffUpdate p).lineUpdate

/-! ### Links going down and port state changes -/

/-- Queue an LCW of order 1 of R188. -/
def State.lcwPush (s : State) (p kind arg : Nat) : State :=
  let l := s.link p
  s.setLink p { l with lcws := l.lcws ++ [(kind, arg)] }

def lwStatus : Nat := 0
def lwNak : Nat := 1
def lwReplay : Nat := 2
def lwStart : Nat := 3
def lwLpReq : Nat := 4
def lwLpAck : Nat := 5
def lwLpNak : Nat := 6

/-- LINK_DOWN (R194): the link keeps its replay content, sequence state and partly received packets, and starts no unit. BC flits that wait are
dropped (DESIGN CHOICE, log 163: the spec does not say what becomes of them). -/
def State.linkDown (s : State) (p : Nat) : State :=
  let l := s.link p
  let s1 := s.setLink p { l with begun := false, answer := false, lcws := [], replayAt := none, announced := .fillLcw,
                                 lpReq := none, lpEntry := none, gapBc := 0, gapLcw := 0, bcOut := [] }
  if s.rd R.LINK_STATUS_STATE p = lkRetired then s1 else s1.wr R.LINK_STATUS_STATE lkDown p

/-- Any port is MISWIRED: the condition of the ROUT source (02_grid_and_addressing.md R67). -/
def State.anyMiswired (s : State) : Bool := (List.range 96).any fun p => s.pst p = tMis

/-- What leaving T_UP and the low-power states ends: the identity, the delay measurement (04_lanes.md R146), the link, and the byte stream in
both directions. The link of a port that leaves LP-DORMANT is DOWN while it trains (R194; DESIGN CHOICE, log 196). -/
def State.leaveUp (s : State) (p : Nat) : State :=
  let s1 := if s.pst p = tUp || s.pst p = tQuiet || s.pst p = tDorm then s.linkDown p else s
  let q := s1.port p
  let s2 := s1.setPort p { q with idRecord := none, idRun := 0, delays := [], delayCount := 0, txQuiet := false, txPend := [], wakeHeld := false }
  let s3 := s2.setLink p { s2.link p with rxBytes := [], rxNext := 9 }
  ((s3.wr R.PORT_DLY_VALID 0 p).wr R.PORT_PEER_ID_VALID 0 p).fcUpdate p

/-- A lane's training and lock start over, with the given coefficients. -/
def State.laneRestart (s : State) (l : Nat) (pre main post : Nat) : State :=
  let x := s.lane l
  ((s.setLane l { x with commaRun := 0, lastCidx := none, missRun := 0, cwBad := [], marker := false, readySent := false,
                         readyGot := false, peerLane := none, preSt := 0, postSt := 0, presetDone := false, req := 0,
                         pre := pre, main := main, post := post, held := false }).wr R.LANE_STATUS_COMMA_LOCK 0 l).wr
    R.LANE_STATUS_CDR_LOCK 0 l

/-- The coefficients a lane takes: as written while OVR is 1 (Table 4.11), else as given. -/
def State.coefFor (s : State) (l : Nat) (c : Nat × Nat × Nat) : Nat × Nat × Nat :=
  if s.on R.LANE_TXEQ_OVR l then (s.rd R.LANE_TXEQ_PRE l, s.rd R.LANE_TXEQ_MAIN l, s.rd R.LANE_TXEQ_POST l) else c

/-- The coefficients a lane has in use. -/
def State.coefs (s : State) (l : Nat) : Nat × Nat × Nat := ((s.lane l).pre, (s.lane l).main, (s.lane l).post)

/-- Levels leave a lane (R122, R123). -/
def State.sendLevels (s : State) (l : Nat) (ui : List Level) : State := s.emit (.levels l (s.coefs l) ui)

/-- The words the lane's own training frames carry: the receiver's request, RX_READY and the statuses (Table 4.4). -/
def LaneState.words (x : LaneState) (lane1 : Bool) : Nat × Nat :=
  (x.req.toNat + bNat x.readySent * 2 ^ 8 + bNat lane1 * 2 ^ 15,
   x.preSt.toNat + x.postSt.toNat * 4 + bNat x.presetDone * 16 + bNat lane1 * 2 ^ 15)

/-- A lane sends training frames (R137). -/
def State.sendTraining (s : State) (l : Nat) : State :=
  let w := (s.lane l).words (l % 2 = 1)
  (s.emit (.training l w.1 w.2)).sendLevels l (trainFrame (l % 2 = 1) w.1 w.2)

/-- What a port in T_SEND sends: training frames, or PRBS31 unencoded in the test (Table 4.12; log 166). -/
def State.sendStart (s : State) (p : Nat) : State :=
  if s.on R.PORT_CTRL_PRBS_TEST p then s.emits [.prbs (2 * p) (scrambleSeed false), .prbs (2 * p + 1) (scrambleSeed true)]
  else (s.sendTraining (2 * p)).sendTraining (2 * p + 1)

/-- Both lanes of a port have a one-bit LANE_STATUS field set. -/
def bothLanes (s : State) (f : RegField) (p : Nat) : Bool := s.on f (2 * p) && s.on f (2 * p + 1)

/-- Signals are detected on both lanes: T_SEND becomes T_CDR (Table 4.6), but for the PRBS test (log 166). -/
def State.tryCdr (s : State) (p : Nat) : State :=
  if s.pst p = tSend && bothLanes s R.LANE_STATUS_SIGDET p && !s.on R.PORT_CTRL_PRBS_TEST p then s.setPst p tCdr else s

/-- Enter T_SEND (Table 4.6): at START_PRESET, or at the saved coefficients on LP-DORMANT exit. A port whose lanes both see a signal goes on to
T_CDR at once. -/
def State.enterSend (s : State) (p : Nat) (saved : Bool) : State :=
  let wasMis := s.pst p = tMis
  let s1 := s.leaveUp p
  let s2 := [2 * p, 2 * p + 1].foldl (fun s l =>
    let x := s.lane l
    let c := s.coefFor l (if saved then (x.savedPre, x.savedMain, x.savedPost) else preset (s.rd R.PORT_CTRL_START_PRESET p))
    s.laneRestart l c.1 c.2.1 c.2.2) s1
  let s3 := (s2.setPst p tSend).wr R.PORT_STATUS_TRAINS (min 0xFFFF (s2.rd R.PORT_STATUS_TRAINS p + 1)) p
  let s4 := s3.setPort p { s3.port p with shortLimits := saved }
  let s5 := (List.range 8).foldl (fun s v => s.setInVc p v { s.inVc p v with discarding := false }) s4
  let s6 := if wasMis then (s5.cond (pgLane (2 * p)) 3 false).cond pgRout 0 s5.anyMiswired else s5
  (s6.lineUpdate.sendStart p).tryCdr p

/-- Enter T_OFF: transmitters idle, loops off. -/
def State.enterOff (s : State) (p : Nat) : State :=
  let wasMis := s.pst p = tMis
  let s1 := s.leaveUp p
  let s2 := [2 * p, 2 * p + 1].foldl (fun s l =>
    let x := s.lane l
    s.laneRestart l x.pre x.main x.post) s1
  let s3 := s2.setPst p tOff
  let s4 := if wasMis then (s3.cond (pgLane (2 * p)) 3 false).cond pgRout 0 s3.anyMiswired else s3
  s4.lineUpdate.emit (.idle p)

/-- A port that R65 assigns, or a CARR port, may be brought up (02_grid_and_addressing.md R66); neither CARR port while R69
keeps the link down. -/
def State.mayTrain (s : State) (p : Nat) : Bool :=
  if isCarr s.topo p then coord s.ownPid 0 % 2 = s.rd R.RST_STRAP_PAIR_SIDE
  else (portRole s.topo p).isSome

/-- Training starts over on a port that is enabled and may train (Table 4.6). -/
def State.trainIfOn (s : State) (p : Nat) : State :=
  if s.on R.PORT_CTRL_EN p && s.mayTrain p then s.enterSend p false else s

/-- A retrain of an enabled port (R200, 04_lanes.md R158); a fresh one makes the next START carry FRESH. -/
def State.retrain (s : State) (p : Nat) (fresh : Bool) : State :=
  (if fresh then s.setLink p { s.link p with fresh := true } else s).trainIfOn p

/-! ### Acknowledgement and replay (transmitter) -/

def State.txNext (s : State) (p : Nat) : Nat := s.rd R.LINK_SEQ_TX_NEXT p
def State.txOldest (s : State) (p : Nat) : Nat := s.rd R.LINK_SEQ_TX_OLDEST p
def State.rxExpected (s : State) (p : Nat) : Nat := s.rd R.LINK_SEQ_RX_EXPECTED p

/-- Frames not yet acknowledged (R170). -/
def State.outstanding (s : State) (p : Nat) : Nat := (s.txNext p + 4096 - s.txOldest p) % 4096

/-- SLOT_AUDIT (R177): one slot is retired when some are lost; at most once per 1 us. RETIRED may pass 64 before the retrain of R178, and keeps
the low 7 bits (R201; DESIGN CHOICE, log 197). -/
def State.slotAudit (s : State) (p : Nat) : State :=
  let l := s.link p
  let due := match l.auditAt with
    | some c => decide (s.time.cycles ≥ c + 1600)
    | none => true
  if s.outstanding p = 0 && due then
    let s1 := s.setLink p { l with auditAt := some s.time.cycles }
    if s.rd R.LINK_SLOTS_FREE_SLOTS p + s.rd R.LINK_SLOTS_RETIRED p < 256 then
      let r := s.rd R.LINK_SLOTS_RETIRED p + 1
      let s2 := (s1.wr R.LINK_SLOTS_RETIRED r p).raise (pgLink p) 3
      if r ≥ 64 then s2.setLink p { s2.link p with leakDue := true } else s2
    else s1
  else s

/-- SLOT_OVER (R180). -/
def State.slotOver (s : State) (p : Nat) : State :=
  if s.rd R.LINK_SLOTS_FREE_SLOTS p + s.outstanding p > 256 then (s.raise (pgLink p) 4).retrain p true else s

/-- A replay goes on: its REPLAY word or a frame of it is still to be sent. -/
def LinkState.replaying (l : LinkState) : Bool :=
  l.replayAt.isSome || match l.announced with
    | .replay _ => true
    | _ => false

/-- REPLAY_START (R174): the REPLAY word waits, and the frames outstanding when it goes out follow it. REPLAY_STORM when no_progress reaches 8
(R176). -/
def State.startReplay (s : State) (p : Nat) : State :=
  let l := s.link p
  let s1 := (s.setLink p { l with replayAt := some 0, replayStart := some s.time.cycles, noProgress := l.noProgress + 1,
                                  lcws := (l.lcws.filter fun k => k.1 ≠ lwReplay) ++ [(lwReplay, 0)] }).bump C.LINK_REPLAYS p
  if l.noProgress + 1 = 8 then (s1.raise (pgLink p) 6).retrain p false else s1

/-- Apply ACKSEQ (R173). `forceful`: the LCW is a NAK or a START, so an ACKSEQ out of range asks for a fresh retrain. -/
def State.applyAck (s : State) (p ackseq : Nat) (forceful : Bool) : State :=
  let n := (ackseq + 4096 - s.txOldest p) % 4096
  if n ≤ s.outstanding p then
    if n = 0 then s
    else
      let l := s.link p
      let s1 := s.setLink p { l with
        buffer := l.buffer.drop n, noProgress := 0,
        replayAt := (l.replayAt.map fun i => i - n).bind fun i =>
          if i < l.buffer.length - n || l.lcws.any (fun k => k.1 = lwReplay) then some i else none }
      let s2 := (s1.wr R.LINK_SLOTS_FREE_SLOTS (s.rd R.LINK_SLOTS_FREE_SLOTS p + n) p).wr R.LINK_SEQ_TX_OLDEST ackseq p
      (s2.slotOver p).slotAudit p
  else
    let s1 := s.bump C.LINK_ACK_RANGE p
    if forceful then (s1.raise (pgLink p) 5).retrain p true else s1

/-- Apply the XOFF field of an LCW (R167, R184); a VC that is on again loses STALL (R187). -/
def State.applyXoff (s : State) (p x : Nat) : State :=
  let s1 := s.wr R.LINK_STATUS_PEER_XOFF x p
  let s2 := s1.wr R.LINK_STATUS_STALL (s.rd R.LINK_STATUS_STALL p &&& x) p
  if s2.rd R.LINK_STATUS_STALL p = 0 then s2.cond (pgLink p) 2 false else s2

/-! ### Sessions -/

/-- A port has entered T_UP: each transmitter sends START, the receiver is in RESYNC (R191). That every VC counts as XOFF until the peer's START is
that no frame is sent before `begun`; PEER_XOFF keeps the value last received (R201). A RETIRED link stays so until its session starts (R195). -/
def State.sessionStart (s : State) (p : Nat) : State :=
  let l := s.link p
  let s1 := s.setLink p { l with begun := false, answer := false, lcws := [], replayAt := none, announced := .fillLcw,
                                 sentFresh := l.fresh, lpReq := none, lpEntry := none, rxNext := 9 }
  (if s1.rd R.LINK_STATUS_STATE p = lkRetired then s1 else s1.wr R.LINK_STATUS_STATE lkStarting p).wr R.LINK_STATUS_RXMODE 2 p

/-- The packet that holds an output, with its holder. -/
def State.heldPkt (s : State) (o : Nat) : Option (Holder × BufPkt) :=
  match s.holder o with
  | some h => match (s.inVc h.input h.vc).pkts.find? fun k => k.granted && k.route.any fun r => r.target = .out o with
    | some k => some (h, k)
    | none => none
  | none => none

/-- The packet allocated to a port is discarded and counted: the flits it still has are dropped, those to come as they arrive (R192, R195). -/
def State.dropAllocated (s : State) (p : Nat) : State :=
  match s.heldPkt p with
  | some (h, k) =>
    let x := s.inVc h.input h.vc
    let pkts := if k.need = 0 then x.pkts.erase k else x.pkts.replace k { k with sent := k.seen.length, dropping := true, route := none }
    ((((s.setInVc h.input h.vc { x with pkts := pkts }).setHolder p none).bump C.LINK_HELD_DROP p).xoffUpdate h.input).lineUpdate
  | none => s.setHolder p none

/-- The replay content is discarded and counted in HELD_DROP (R192, R195). -/
def State.dropReplay (s : State) (p : Nat) : State :=
  let l := s.link p
  let n := l.buffer.length
  let s1 := s.setLink p { l with buffer := [], replayAt := none, announced := .fillLcw }
  if n = 0 then s1 else s1.bump C.LINK_HELD_DROP p n

/-- What a fresh session discards on the transmit side: the replay content and the unsent flits of a packet partly sent (R192). -/
def State.dropHeld (s : State) (p : Nat) : State :=
  let s1 := s.dropReplay p
  if (s1.heldPkt p).any fun x => decide (x.2.sent > 0) then s1.dropAllocated p else s1

/-- Both directions start fresh (R192). -/
def State.sessionFresh (s : State) (p : Nat) : State :=
  let s1 := s.dropHeld p
  let s2 := (((((s1.wr R.LINK_SEQ_TX_NEXT 0 p).wr R.LINK_SEQ_TX_OLDEST 0 p).wr R.LINK_SEQ_RX_EXPECTED 0 p).wr
    R.LINK_SLOTS_FREE_SLOTS 256 p).wr R.LINK_SLOTS_RETIRED 0 p)
  s2.completePartial p

/-- The session begins at the peer's first START (R192, R746, R179), which this side answers with a START as every other (DESIGN CHOICE, log
164: R746 names the STARTs after the session has begun). A REPLAY that a NAK before it has asked for still goes out (R173, R174). -/
def State.sessionBegin (s : State) (p ackseq : Nat) (peerFresh : Bool) : State :=
  let l := s.link p
  let asked := l.lcws.filter fun k => k.1 = lwReplay
  let s0 := (s.setLink p { l with
    begun := true, fresh := false, answer := true, leakDue := false, lcws := (lwStart, bNat l.sentFresh) :: asked }).wr R.LINK_STATUS_STATE lkUp p
  let s1 := s0.wr R.LINK_STATUS_RXMODE 0 p
  let s2 :=
    if peerFresh || l.sentFresh then s1.sessionFresh p
    else
      let a := s1.applyAck p ackseq true
      let b := (a.wr R.LINK_SLOTS_FREE_SLOTS (256 - a.outstanding p) p).wr R.LINK_SLOTS_RETIRED 0 p
      if b.rd R.LINK_STATUS_STATE p = lkUp && b.outstanding p > 0 && asked.isEmpty then b.startReplay p else b
  (s2.lineUpdate).lineSendOn p

/-- Retire a DOWN link (R195): the replay content and every packet allocated to the port are discarded. -/
def State.retireLink (s : State) (p : Nat) : State :=
  let s1 := (((s.dropReplay p).dropAllocated p).completePartial p).wr R.LINK_STATUS_STATE lkRetired p
  (s1.setLink p { s1.link p with fresh := true }).lineUpdate

/-! ### Low power (R196 to R199, 04_lanes.md R149 to R151) -/

/-- A side may send LP_REQ: nothing outstanding and no packet holds its output (R196). -/
def State.lpIdle (s : State) (p : Nat) : Bool := s.outstanding p = 0 && (s.holder p).isNone

/-- An LP_REQ may be queued: the link is UP and idle, and none is queued, agreed on, or out for the other state (R196). -/
def State.mayRequest (s : State) (p : Nat) (dorm : Bool) : Bool :=
  let l := s.link p
  s.rd R.LINK_STATUS_STATE p = lkUp && s.lpIdle p && l.lpEntry.isNone && l.lpReq ≠ some (!dorm) && l.lcws.all fun k => k.1 ≠ lwLpReq

/-- Queue an LP_REQ; it is sent only if R196 still allows it then. -/
def State.lpRequest (s : State) (p : Nat) (dorm : Bool) : State :=
  if s.mayRequest p dorm then s.lcwPush p lwLpReq (bNat dorm) else s

/-- Hold, or let go on, the adaptation of a port's receivers (04_lanes.md R125). -/
def State.holdLanes (s : State) (p : Nat) (held : Bool) : State :=
  [2 * p, 2 * p + 1].foldl (fun s l => s.setLane l { s.lane l with held := held }) s

/-- The transmit direction enters LP-QUIET (R197, 04_lanes.md R149); the port's receivers hold with it (R125; DESIGN CHOICE, log 187). -/
def State.enterQuiet (s : State) (p : Nat) : State :=
  let s1 := (s.setPort p { s.port p with txQuiet := true }).holdLanes p true
  ((s1.setPst p tQuiet).wr R.LINK_STATUS_STATE lkLp p).emit (.quiet p)

/-- Both directions enter LP-DORMANT (R151, R197): coefficients are kept, loops are off, and both sides are idle. -/
def State.enterDorm (s : State) (p : Nat) : State :=
  let s1 := [2 * p, 2 * p + 1].foldl (fun s l =>
    let x := s.lane l
    (((s.setLane l { x with savedPre := x.pre, savedMain := x.main, savedPost := x.post, held := true, commaRun := 0,
                            lastCidx := none }).wr R.LANE_STATUS_CDR_LOCK 0 l).wr R.LANE_STATUS_COMMA_LOCK 0 l).wr R.LANE_STATUS_SIGDET 0 l) s
  let s2 := s1.setLink p { s1.link p with rxBytes := [] }
  let s3 := s2.setPort p { s2.port p with delays := [], delayCount := 0, txQuiet := false }
  (((((s3.setPst p tDorm).wr R.LINK_STATUS_STATE lkLp p).wr R.PORT_DLY_VALID 0 p).fcUpdate p).lineUpdate).emit (.idle p)

/-- The direction has a reason to leave LP-QUIET (R199). -/
def State.quietWork (s : State) (p : Nat) : Bool :=
  let l := s.link p
  (s.holder p).isSome || !l.bcOut.isEmpty || !l.lcws.isEmpty || decide (l.xoff.toNat ≠ s.rd R.LINK_STATUS_LOCAL_XOFF p) ||
    decide (l.sinceLcw > 0)

/-- A codeword-pair boundary: the low-power state agreed on is entered (R197), unless the direction has work, a unit in progress among it: then the
wake wins and the lane stays in T_UP (04_lanes.md R153). -/
def State.pairEnd (s : State) (p : Nat) : State :=
  match (s.link p).lpEntry with
  | none => s
  | some dorm =>
    let s1 := s.setLink p { s.link p with lpEntry := none }
    if s1.pst p ≠ tUp || s1.quietWork p || !(s1.port p).txPend.isEmpty then s1
    else if dorm then s1.enterDorm p else s1.enterQuiet p

/-- The comma halves of a port's comma block have both been sent, or neither. -/
def State.halvesEven (s : State) (p : Nat) : Bool := (s.lane (2 * p)).txCidx = (s.lane (2 * p + 1)).txCidx

/-- The wake marker on both lanes of a port (04_lanes.md R150). -/
def State.sendWake (s : State) (p : Nat) : State :=
  ((s.emit (.wakeMarker p)).sendLevels (2 * p) wakeLevels).sendLevels (2 * p + 1) wakeLevels

/-- Leave LP-QUIET (04_lanes.md R150): a wake marker, then codeword pairs from place `pair` of the comma grid on. A comma block that is due, or
half sent, goes first. -/
def State.exitQuiet (s : State) (p pair : Nat) : State :=
  let due := pair ≥ 2048 || !s.halvesEven p
  let q := s.port p
  let s1 := (s.setPort p { q with txQuiet := false, txPair := if due then 2048 else pair, wakeHeld := due }).holdLanes p false
  let s2 := (s1.setPst p tUp).wr R.LINK_STATUS_STATE lkUp p
  if due then s2 else s2.sendWake p

end Sys2Proof.Machine
end

