-- ==== Sys2Proof/Machine/SchedOps.lean ====
section
/-! DEFINITION. Operations of the scheduler shared by several commands (08_scheduled_traffic.md): the running image, slots, the
fit check, demotions, breaches and aborts. -/

namespace Sys2Proof.Machine

/-! ### States (Table 8.7) -/

def ssIdle : Nat := 0
def ssArmed : Nat := 1
def ssRunning : Nat := 2
def ssAborted : Nat := 3

def State.schdState (s : State) : Nat := s.rd R.SCHD_CTRL_STATE
/-- ARMED or RUNNING. -/
def State.schdActive (s : State) : Bool := s.schdState = ssArmed || s.schdState = ssRunning

/-- Fabric modes (07_dynamic_routing.md Table 7.6). -/
def fmDynamic : Nat := 0
def fmScheduled : Nat := 1
def fmMixed : Nat := 2
def State.fabricMode (s : State) : Nat := s.rd R.ROUT_CTRL_MODE

/-! ### Images (Tables 8.1 to 8.5) -/

/-- Base and size of a schedule buffer: 0 A, 1 B (R278, 01_architecture.md Table 1.8). -/
def State.bufBase (s : State) (b : Nat) : Nat := s.regionBase 9 + b * (s.regionSize 9 / 2)
def State.bufSize (s : State) : Nat := s.regionSize 9 / 2
def State.bufValid (s : State) (b : Nat) : Bool := if b = 0 then s.on R.SCHD_CTRL_VALID_A else s.on R.SCHD_CTRL_VALID_B
def State.setBufValid (s : State) (b : Nat) (v : Bool) : State :=
  if b = 0 then s.wrB R.SCHD_CTRL_VALID_A v else s.wrB R.SCHD_CTRL_VALID_B v

/-- A number of `n` bytes in the image of a buffer. -/
def State.img (s : State) (b off n : Nat) : Nat := s.hbmNat (s.bufBase b + off) n

def State.imgId (s : State) (b : Nat) : Nat := s.img b 0x008 4
def State.imgHash (s : State) (b : Nat) : Nat := s.img b 0x010 8
def State.imgCycle (s : State) (b : Nat) : Nat := s.img b 0x020 4
def State.imgSlotLen (s : State) (b : Nat) : Nat := s.img b 0x024 1
def State.imgHqSlots (s : State) (b : Nat) : Nat := s.img b 0x025 1
def State.imgFetchLead (s : State) (b : Nat) : Nat := s.img b 0x026 1
def State.imgLstepLead (s : State) (b : Nat) : Nat := s.img b 0x027 1
def State.imgFlags (s : State) (b : Nat) : Nat := s.img b 0x028 4
/-- Slot, cycle and hop quantum in ticks (R275, R277). -/
def State.tSlot (s : State) (b : Nat) : Nat := s.imgSlotLen b * 512
def State.tCyc (s : State) (b : Nat) : Nat := s.imgCycle b * s.tSlot b
def State.hq (s : State) (b : Nat) : Nat := s.imgHqSlots b * s.tSlot b

/-- A directory entry (Table 8.2): offset and count; none where the structure is absent. -/
def dirEntry (w : Nat) : Option (Nat × Nat) := if field w 61 1 = 1 then some (field w 0 40, field w 40 21) else none
/-- The slot table of crossbar port `t` (0 to 95: P0 to P95, 96 to 105: E0 to E9). -/
def State.slotTable (s : State) (b t : Nat) : Option (Nat × Nat) :=
  if t < 106 then dirEntry (s.img b (0x100 + 8 * t) 8) else none
/-- The launch list of a transmit engine. -/
def State.launchList (s : State) (b e : Nat) : Option (Nat × Nat) := dirEntry (s.img b (0x450 + 8 * e) 8)
/-- The burst list. -/
def State.burstList (s : State) (b : Nat) : Option (Nat × Nat) := dirEntry (s.img b 0x030 8)

/-- Slot entry `i` of a table; 0 (FREE) where the table is absent (Table 8.3). -/
def State.slotEntry (s : State) (b t i : Nat) : Nat :=
  match s.slotTable b t with
  | some (o, n) => if i < n then s.img b (o + 8 * i) 8 else 0
  | none => 0

def eKind (e : Nat) : Nat := field e 0 2
def eSrc (e : Nat) : Nat := field e 2 7
def eNflit (e : Nat) : Nat := field e 9 8
def eDpid (e : Nat) : Nat := field e 17 20
def eJob (e : Nat) : Nat := field e 37 16
def ekFree : Nat := 0
def ekStart : Nat := 1
def ekCont : Nat := 2

/-- The buffer of the ARMED or RUNNING image. -/
def State.runBuf (s : State) : Nat := s.rd R.SCHD_CTRL_RUN_BUF

/-! ### Slots (R275) -/

/-- s(k, i) of the running image. -/
def State.slotStart (s : State) (k i : Nat) : Nat :=
  s.schd.startGt + k * s.tCyc s.runBuf + i * s.tSlot s.runBuf

/-- The absolute number of the slot that contains GT `g`; negative before START_GT. -/
def State.slotAt (s : State) (g : Nat) : Int := ((g : Int) - (s.schd.startGt : Int)).fdiv (s.tSlot s.runBuf : Int)

/-- The current iteration. -/
def State.iterNow (s : State) : Nat :=
  if s.gt < s.schd.startGt || s.tCyc s.runBuf = 0 then 0 else (s.gt - s.schd.startGt) / s.tCyc s.runBuf

/-- An output is scheduled (R299). -/
def State.scheduled (s : State) (o : Nat) : Bool :=
  s.schdActive && s.fabricMode ≠ fmDynamic && (s.slotTable s.runBuf o).isSome

/-- The slot is not FREE on a table; slots before START_GT are FREE, one with a prefetch miss is not (R299, R300). -/
def State.slotBusy (s : State) (t : Nat) (a : Int) : Bool :=
  if a < 0 then false
  else
    let n := a.toNat
    eKind (s.slotEntry s.runBuf t (n % s.imgCycle s.runBuf)) ≠ ekFree || s.schd.misses.any fun m => m.1 = t && m.2 = n

/-- The slot `j` places after the one that contains GT `g`: its start, and whether it is not FREE. From the GT of a planned switch on, the slots
are those of the new image (R291). -/
def State.slotAfter (s : State) (t g : Nat) (j : Int) : Int × Bool :=
  let ts : Int := s.tSlot s.runBuf
  let a := s.slotAt g + j
  let start := (s.schd.startGt : Int) + a * ts
  match s.schd.switch with
  | some (b, w) =>
    if start < w then (start, s.slotBusy t a)
    else
      let n := ((start - w) / ts).toNat
      ((w : Int) + n * s.tSlot b, eKind (s.slotEntry b t (n % s.imgCycle b)) ≠ ekFree)
  | none => (start, s.slotBusy t a)

/-- The start of the reserved time that follows GT `g` on a table, at most the end of the window of 256 slots (R300, R295). -/
def State.nextBusy (s : State) (t g : Nat) : Int :=
  if (s.slotAfter t g 0).2 then g
  else match (List.range 255).find? fun (j : Nat) => (s.slotAfter t g ((j : Int) + 1)).2 with
    | some j => (s.slotAfter t g ((j : Int) + 1)).1
    | none => (s.slotAfter t g 256).1

/-- The slot `j` places after the one that contains GT `g`: its start, and its entry where that is a START the scheduler can serve, else 0. -/
def State.startAfter (s : State) (t g : Nat) (j : Nat) : Int × Nat :=
  let a := s.slotAt g + j
  let start := (s.slotAfter t g j).1
  let b := s.runBuf
  let e := match s.schd.switch with
    | some (b', w) =>
      if start < w then (if a < 0 then 0 else s.slotEntry b t (a.toNat % s.imgCycle b))
      else s.slotEntry b' t (((start - w) / s.tSlot b').toNat % s.imgCycle b')
    | none => if a < 0 then 0 else s.slotEntry b t (a.toNat % s.imgCycle b)
  let missed := decide (0 ≤ a) && s.schd.misses.any fun m => m.1 = t && m.2 = a.toNat
  let done := j = 0 && decide (((tget 0 s.schd.served t : Nat) : Int) > a)
  (start, if eKind e = ekStart && !missed && !done then e else 0)

/-- The next VC7 slot start of a table in the window of 256 slots: its GT and its START entry (05_link_layer.md R188, R189). -/
def State.vc7Next (s : State) (t : Nat) : Option (Int × Nat) :=
  (List.range 256).findSome? fun j => let x := s.startAfter t s.gt j; if x.2 = 0 then none else some x

/-- Entry `j` of the prefetch window of a table (R295, Table 8.12): from the current slot on, or from the first one before START_GT; an entry
whose prefetch has missed is not in the window. -/
def State.windowEntry (s : State) (t j : Nat) : Nat :=
  let ts := s.tSlot s.runBuf
  if !s.schdActive || ts = 0 then 0
  else
    let n := (max 0 (s.slotAt s.gt)).toNat + j
    let start := s.schd.startGt + n * ts
    match s.schd.switch with
    | some (b, w) =>
      if start < w then s.slotEntry s.runBuf t (n % s.imgCycle s.runBuf)
      else s.slotEntry b t ((start - w) / ts % s.imgCycle b)
    | none => if s.schd.misses.any fun m => m.1 = t && m.2 = n then 0 else s.slotEntry s.runBuf t (n % s.imgCycle s.runBuf)

/-- Ticks a dynamic packet of `n` flits needs (R300). -/
def State.fitNeed (s : State) (n : Nat) : Nat :=
  let f := (n + 7) / 8
  let w := 32 * n + 8 * f + 280 * (f + 1)
  (8 * w + 24) / 25 + s.rd R.SCHD_CFG_FIT_GUARD

/-- The fit check of R300 for a dynamic packet on crossbar output `o`. -/
def State.fitCheck (s : State) (o n : Nat) (whole : Bool) : Bool :=
  if !s.scheduled o then true
  else
    let b := s.nextBusy o s.gt
    if !whole && b - s.gt < 16 * s.rd R.SCHD_CFG_CUT_HORIZON then false
    else decide ((s.gt : Int) + s.fitNeed n ≤ b)

/-- Launches may be made in this Geyser state (06_timebase.md Table 6.4). -/
def State.launchOk (s : State) : Bool :=
  s.geysState = gsLocked || (s.geysState = gsHoldover && s.geys.unc ≤ 16 * s.rd R.GEYS_LIM_SCHED_UNC_MAX)

/-! ### Injection (03_packets.md R99, 01_architecture.md R23) -/

/-- A packet that the rates pace: a dynamic request-class packet of E0 to E9; management packets leave on E11 (R265, R266). -/
def pacedPkt (e v : Nat) (h : Flit) : Bool := e < 10 && v ≠ 7 && pktClass h = .request

/-- The router admits a packet: until ADOPTED no dynamic request-class packet, and no collective one but COLL_RESULT (R260); in mode SCHEDULED
no dynamic one of these either (R270); and a paced packet once its destination's and its port's rate let it go (R264, R265). A device whose
incarnation failed sends none (02_grid_and_addressing.md R89). -/
def State.mayEnter (s : State) (e v : Nat) (h : Flit) : Bool :=
  let open_ := s.on R.ROUT_CTRL_ADOPTED && (v = 7 || s.fabricMode ≠ fmScheduled)
  decide (s.pwr.boot ≠ .incFailed) && match pktClass h with
  | .request => v = 7 || (open_ && (!pacedPkt e v h || s.paceReady e (hDpid h)))
  | .response => true
  | .collective => hPtype h = ptCollResult || open_

/-- A packet waits for the adoption. -/
def State.unadmit (s : State) (u : Unadmitted) : State := { s with rout := { s.rout with unadmitted := s.rout.unadmitted ++ [u] } }

/-- Packets enter the buffer of a VC of endpoint port `e`. After a malformed head the VC discards whatever comes: an endpoint port has no link
to retrain (03_packets.md R114). -/
def State.enterVc (s : State) (e v : Nat) (ks : List BufPkt) : State :=
  let x := s.inVc (96 + e) v
  if x.discarding then s
  else s.setInVc (96 + e) v { x with pkts := x.pkts ++ ks, discarding := ks.any fun k => k.bad }

/-- A packet enters the router on endpoint port `e` on a VC: EPOCH, STALE and CN are set (R99). -/
def State.inject (s : State) (e v : Nat) (pkt : List Flit) : State :=
  match pkt with
  | [] => s
  | h :: t =>
    if !s.mayEnter e v h then
      s.unadmit (if hPtype h = ptCollContrib then { e := e, vc := 6, pkt := pkt, copies := some [hDpid h] } else { e := e, vc := v, pkt := pkt })
    else
      let h' := hSetVc (hSetCn (hSetStale (hSetEpoch h s.activeBank) false) false) v
      let k : BufPkt := { seen := h' :: t, need := 0, arrival := s.gt, bad := malformed h' }
      let s1 := if pacedPkt e v h then s.paceTake e (hDpid h) pkt.length else s
      ((s1.enterVc e v [k]).bump C.ROUT_PKT_INJ).epCheck e

/-- The VC of R101 for a packet's class. -/
def classVc (h : Flit) : Nat :=
  match pktClass h with
  | .request => 0
  | .response => 3
  | .collective => 6

/-- A packet enters on E10 or E11 as copies, one for each peer of a list (14_collectives.md R518), those of a TIMED launch with its mark. -/
def State.injectCopies (s : State) (e : Nat) (pkt : List Flit) (peers : List Nat) (launch : Option LaunchId) : State :=
  match pkt with
  | [] => s
  | h :: t =>
    if !s.mayEnter e 6 h then s.unadmit { e := e, vc := 6, pkt := pkt, copies := some peers, launch := launch }
    else
      let h' := hSetVc (hSetCn (hSetStale (hSetEpoch h s.activeBank) false) false) 6
      let n := s.rout.copyNo
      let k : BufPkt := { seen := h' :: t, need := 0, arrival := s.gt }
      let ks := if malformed h' then [{ k with bad := true }]
        else peers.map fun pid => { k with copy := some n, copyTo := pid, launch := launch }
      let s1 : State := { s with rout := { s.rout with copyNo := n + 1 } }
      (s1.enterVc e 6 ks).bump C.ROUT_PKT_INJ

/-- A packet formed again now: its birth time and its check word are new. -/
def reborn (gt : Nat) (pkt : List Flit) : List Flit :=
  let body := hSetBirth (pkt.headD 0) (gt % 2 ^ 40) :: (pkt.drop 1).dropLast
  body ++ [tailOf body]

/-- The packets that wait and may enter now are formed again and enter, in their order; the others go on waiting (R260, R264, R265, R270). While INVALID none is formed (06_timebase.md Table 6.4). -/
def State.admitAll (s : State) : State :=
  let s0 : State := { s with rout := { s.rout with unadmitted := [] } }
  if s.geysState = gsInvalid then s
  else s.rout.unadmitted.foldl (fun s u => match u.copies with
    | some l => s.injectCopies u.e (reborn s.gt u.pkt) l u.launch
    | none => s.inject u.e u.vc (reborn s.gt u.pkt)) s0

/-- A packet that was formed for a slot enters as a dynamic one on the VC of its class; a COLL_CONTRIB takes the one link to its
receiver (08_scheduled_traffic.md R306; 14_collectives.md R518, R531). -/
def State.injectDyn (s : State) (e : Nat) (pkt : List Flit) : State :=
  let h := pkt.headD 0
  if hPtype h = ptCollContrib then s.injectCopies e pkt [hDpid h] none else s.inject e (classVc h) pkt

/-! ### Staging -/

def State.staged (s : State) (e : Nat) : List (List Flit) := tget [] s.schd.staging e
def State.setStaged (s : State) (e : Nat) (x : List (List Flit)) : State :=
  { s with schd := { s.schd with staging := tput [] s.schd.staging e x } }

/-- A demotion at the source: the packet enters as a dynamic packet on the VC of its class (R306). -/
def State.demoteSource (s : State) (e : Nat) (pkt : List Flit) : State :=
  ((s.injectDyn e pkt).bump C.SCHD_DEMOTE_SOURCE).wr R.SCHD_EVENT_DEMOTED 1

/-- A demotion in transit of the packet at position `j` of VC7 of an input: VC0 or VC3 by its class, or a discard of a
collective-class packet (R306). -/
def State.demoteTransit (s : State) (input j : Nat) (ctr : RegField) : State :=
  let x := s.inVc input 7
  match x.pkts[j]? with
  | none => s
  | some k =>
    let s1 := (s.bump ctr).wr R.SCHD_EVENT_DEMOTED 1
    match pktClass k.head with
    | .collective =>
      let pkts := if k.need = 0 then x.pkts.eraseIdx j
        else x.pkts.set j { k with sent := k.seen.length, dropping := true, route := none }
      (((s1.setInVc input 7 { x with pkts := pkts }).bump C.SCHD_COLL_DROP).wr R.SCHD_EVENT_COLL_DROP 1).xoffUpdate input
    | c =>
      let v := if c = .response then 3 else 0
      let k' := { k with seen := hSetVc k.head v :: k.seen.drop 1, route := none }
      s1.setInVc input 7 { x with pkts := x.pkts.set j k' }

/-- A packet of VC7 that follows its slot entries: not granted, not demoted. -/
def BufPkt.onSlots (k : BufPkt) : Bool := !k.granted && !k.dropping && !k.bad && hVc k.head = 7

/-- A contribution on a network port leaves through the collective tap when it arrives, whatever its DPID, and follows no slot entry (R298;
14_collectives.md R519). -/
def tapBound (input : Nat) (k : BufPkt) : Bool := input < 96 && hPtype k.head = ptCollContrib

/-- Position of the first VC7 packet of an input that no slot has taken yet. -/
def State.vc7Head (s : State) (input : Nat) : Option (Nat × BufPkt) :=
  let x := (s.inVc input 7).pkts
  match x.findIdx? fun k => k.onSlots && !tapBound input k with
  | some j => (x[j]?).map fun k => (j, k)
  | none => none

/-! ### Aborts (R309 to R311) -/

/-- A SCHED_ABORT flit (Table 8.11). -/
def abortFlit (hopbud image reason origin gt : Nat) : Flit :=
  BitVec.ofNat 256 (0x04 + (hopbud % 256) * 2 ^ 8 + (image % 2 ^ 32) * 2 ^ 16 + (reason % 16) * 2 ^ 48 +
    (origin % 2 ^ 20) * 2 ^ 52 + (gt % 2 ^ 64) * 2 ^ 72)

/-- Demote every VC7 packet of an input that is not yet granted. -/
def State.demoteInput (s : State) (input : Nat) (ctr : RegField) : State :=
  let n := (s.inVc input 7).pkts.length
  (List.range n).foldr (fun j t =>
    match (t.inVc input 7).pkts[j]? with
    | some k => if k.onSlots && !tapBound input k then t.demoteTransit input j ctr else t
    | none => t) s

/-- Demote everything on VC7: input buffers and staging (R311). -/
def State.demoteAll (s : State) : State :=
  let s1 := (List.range 108).foldl (fun t i => t.demoteInput i C.SCHD_DEMOTE_IDLE) s
  (List.range 12).foldl (fun t e => (t.staged e).foldl (fun u k => u.demoteSource e k) (t.setStaged e [])) s1

/-- BREACH_CNT: the breaches of the current iteration while a schedule runs; afterwards, those of the last one (R308, Table 8.13). -/
def State.breachCount (s : State) : Nat :=
  if s.schdActive && s.schd.breachIter ≠ s.iterNow then 0 else s.rd R.SCHD_BREACH_CNT_COUNT

/-- The count stands as it is when the run ends. -/
def State.settleBreach (s : State) : State := s.wr R.SCHD_BREACH_CNT_COUNT s.breachCount

/-- The run ends: launches, windows, remembered entries and bursts are dropped, so that a running pre-warm ramps down at once (R290, R315). -/
def State.endRun (s : State) : State :=
  { s with schd := { s.schd with
      switch := none, fetched := [], fetchedNext := [], served := [], missing := [], misses := [], missIter := 0, pathFailed := [],
      bursts := [] } }

/-- The state becomes ABORTED in one cycle (R311). -/
def State.schdAbort (s : State) (reason origin : Nat) (local_ : Bool) : State :=
  let s1 := ((s.settleBreach.wr R.SCHD_ABORT_INFO_ORIGIN origin).wr R.SCHD_ABORT_INFO_REASON reason).wr R.SCHD_ABORT_INFO_IMAGE_ID
    (s.imgId s.runBuf)
  let s2 := (s1.wr R.SCHD_CTRL_STATE ssAborted).wr (if local_ then R.SCHD_EVENT_ABORT_LOCAL else R.SCHD_EVENT_ABORT_RX) 1
  (s2.endRun.demoteAll).raise pgSchd 2

/-- A device aborts on its own and tells the others (R310). -/
def State.abortLocal (s : State) (reason : Nat) : State :=
  if s.schdActive then
    (s.flood (abortFlit 8 (s.imgId s.runBuf) reason s.ownPid s.gt) none).schdAbort reason s.ownPid true
  else s

/-! ### Breaches (R308) -/

def bkMismatch : Nat := 1
def bkOrphan : Nat := 2
def bkSkip : Nat := 3
def bkResidence : Nat := 4
def bkPathFail : Nat := 5

/-- A breach is counted, captured when it is the first, and may abort (R308). -/
def State.breach (s : State) (kind port slot dpid : Nat) : State :=
  let k := s.iterNow
  let cnt := s.breachCount + 1
  let s1 := { s with schd := { s.schd with breachIter := k } }.wr R.SCHD_BREACH_CNT_COUNT (min cnt 0xFFFF)
  let s2 := if s1.on R.SCHD_EVENT_BREACH then s1
    else (((((s1.wr R.SCHD_FIRST_GT_GT s1.gt).wr R.SCHD_FIRST_INFO_KIND kind).wr R.SCHD_FIRST_INFO_PORT port).wr
      R.SCHD_FIRST_INFO_SLOT slot).wr R.SCHD_FIRST_INFO_DPID dpid).wr R.SCHD_EVENT_BREACH 1
  let s3 := s2.raise pgSchd 1 port
  let thr := s3.rd R.SCHD_CFG_ABORT_THR
  if thr ≠ 0 && cnt ≥ thr then s3.abortLocal 1 else s3

/-! ### Path check (R288) -/

/-- The START entries of a buffer's image whose SRC is `q`: slot and flits. -/
def State.startsFrom (s : State) (b q : Nat) : List (Nat × Nat) :=
  (List.range 106).flatMap fun t =>
    match s.slotTable b t with
    | none => []
    | some _ => (List.range (s.imgCycle b)).filterMap fun i =>
        let e := s.slotEntry b t i
        if eKind e = ekStart && eSrc e = q then some (i, eNflit e) else none

/-- Bytes times 512 that ramp up at 25/8 bytes per tick from a start, both times in 1/1600 tick, to a total (R288). -/
def ramp512 (n : Nat) (x : Int) : Int := min (16384 * (n : Int)) (max 0 x)

/-- held(t) times 512 for starts (start time, flits) with residence `r`, all times in 1/1600 tick. -/
def held512 (starts : List (Int × Nat)) (r t : Int) : Int :=
  (starts.map fun e => ramp512 e.2 (t - e.1 + r) - ramp512 e.2 (t - e.1)).sum

/-- The path check of a port for the image of a buffer (R288). PORT_DLY is in 1/64 tick. -/
def State.pathOk (s : State) (b q : Nat) : Bool :=
  let hq := 64 * s.hq b
  let d := s.rd R.PORT_DLY_DLY q
  if hq < 64 * 1408 + d then false
  else
    let r : Int := 25 * ((hq : Int) - 64 * 1344 - d)
    let cyc : Int := 1600 * s.tCyc b
    let base := (s.startsFrom b q).map fun e => ((1600 * (e.1 * s.tSlot b) : Nat), e.2)
    let around := (List.range 133).flatMap fun (k : Nat) => base.map fun e => ((e.1 : Int) + cyc * ((k : Int) - 66), e.2)
    base.all fun e =>
      decide (held512 around r (e.1 : Int) ≤ 4192 * 512) &&
      decide (held512 around r ((e.1 : Int) - r + 16384 * e.2) ≤ 4192 * 512)

/-- Ports that R288 covers for a buffer: UP, which LP-QUIET is not, with PORT_DLY VALID, and with a slot table or the SRC of a START. -/
def State.pathCovers (s : State) (b q : Nat) : Bool :=
  q < 96 && s.linkState q = lkUp && s.on R.PORT_DLY_VALID q && ((s.slotTable b q).isSome || !(s.startsFrom b q).isEmpty)

/-- PATH_CHECK: a port whose PORT_DLY has become VALID while a schedule is ARMED or RUNNING (R288, R307). -/
def State.pathCheck (s : State) (q : Nat) : State :=
  if s.schdActive && s.pathCovers s.runBuf q && !s.pathOk s.runBuf q && !s.schd.pathFailed.contains q then
    let s1 := { s with schd := { s.schd with pathFailed := q :: s.schd.pathFailed } }
    ((s1.wr R.SCHD_EVENT_PATH_FAIL 1).raise pgSchd 4 q).breach bkPathFail q ((s.slotAt s.gt).toNat % s.imgCycle s.runBuf) 0
  else s

/-- A reset reaches the SCHD block: IDLE, and both buffers invalid (R286). -/
def State.schdReset (s : State) : State :=
  let s1 := s.resetRo R.fieldsSCHD 0
  let s2 := { s1 with schd := {} }
  (List.range 12).foldl (fun t e => (s.staged e).foldl (fun u k => u.demoteSource e k) t)
    ((List.range 108).foldl (fun t i => t.demoteInput i C.SCHD_DEMOTE_IDLE) s2)

/-- The packet's DPID, JOB and flit count are those of the entry (R296). -/
def entryMatches (e : Nat) (h : Flit) : Bool := hDpid h = eDpid e && hJob h = eJob e && pktFlits h = eNflit e

/-- A START entry that found nothing at crossbar port `q` and that the packet matches, while it is remembered (R307). -/
def State.rememberedFor (s : State) (q : Nat) (h : Flit) : Option MissedStart :=
  s.schd.missing.find? fun m => eSrc m.entry = q && s.gt ≤ m.until_ && entryMatches m.entry h

/-- A START entry is no longer remembered. -/
def State.forgetStart (s : State) (m : MissedStart) : State := { s with schd := { s.schd with missing := s.schd.missing.erase m } }

/-- A START entry finds no head at its SRC: the output stays idle, and the entry is remembered for HQ (R307). One that a collective port sources is
remembered to the end of its iteration: a reduction unit's copy names no slot, and one that is formed too late is so kept from the slot of a later
iteration (log 190). -/
def State.missStart (s : State) (o e : Nat) : State :=
  let h := s.gt + s.hq s.runBuf
  let m : MissedStart := { out := o, entry := e, until_ := if eSrc e < 106 then h else max h (s.slotStart (s.iterNow + 1) 0) }
  ({ s with schd := { s.schd with missing := m :: s.schd.missing } } : State).bump C.SCHD_MISSING

/-- Put a formed VC7 packet into staging, or demote it when its slot start has passed, or has been served without it, or when the schedule has
ended since (R294, R306, R307, R311). -/
def State.toStaging (s : State) (ep start : Nat) (p : List Flit) : State :=
  if !s.schdActive then s.demoteSource ep p
  else match s.rememberedFor (96 + ep) (p.headD 0) with
  | some m => if s.gt ≥ start then (s.forgetStart m).demoteSource ep p else s.setStaged ep (s.staged ep ++ [p])
  | none => if s.gt > start then s.demoteSource ep p else s.setStaged ep (s.staged ep ++ [p])

end Sys2Proof.Machine
end

