-- ==== Sys2Proof/Machine/CmdLow.lean ====
section
/-! DEFINITION. Replies of command packets (16_command_packets.md R577, R578, R584 to R587, R591). -/

namespace Sys2Proof.Machine

def State.ring (s : State) (k : Nat) : CmdRing := tget {} s.cmd.rings k
def State.setRing (s : State) (k : Nat) (x : CmdRing) : State := { s with cmd := { s.cmd with rings := tput {} s.cmd.rings k x } }
def ringKey (h : HPort) (f : Func) : Nat := fkey h.val f.val

/-- Free entries of a reply ring. -/
def State.rplFree (s : State) (k : Nat) : Nat :=
  2 ^ s.rd R.CMD_RCFG_RLOG k - idxSub (s.rd R.RPL_PI_INDEX k) (s.ring k).rplCi

/-- The 32 bytes of a reply (Table 16.2). -/
def replyWord (tag status opcode : Nat) (phase dup : Bool) (result : List Byte) (gt : Nat) : Nat :=
  tag % 2 ^ 16 + (status % 2 ^ 16) * 2 ^ 16 + (opcode % 2 ^ 16) * 2 ^ 32 + bNat phase * 2 ^ 48 + bNat dup * 2 ^ 49 +
    (ofBytes result % 2 ^ 128) * 2 ^ 64 + (gt % 2 ^ 64) * 2 ^ 192

/-- A MGMT_RESP that carries a reply to another device (R591): on VC3 to E11 of the issuer. -/
def State.mgmtResp (s : State) (pid hport sinc : Nat) (reply : List Byte) : State :=
  let h : Hdr := {
    ptype := ptMgmtResp, ext := false, plen := 32, dpid := pid, spid := s.ownPid, dinc := sinc, sinc := s.nv.inc % 2 ^ 16
    birth := s.gt % 2 ^ 40, vc := 3, dhport := hport }
  s.inject 11 3 (formPacket h none reply)

/-- Put a reply on the path of its command. A reply ring takes it while it has room. -/
def State.sendReply (s : State) (ref : CmdRef) (sinc opcode status : Nat) (dup : Bool) (result : List Byte) : State :=
  let word := fun ph => toBytes 32 (replyWord ref.tag.toNat status opcode ph dup result s.gt)
  match ref.path with
  | .ring h f =>
    let k := ringKey h f
    if s.rplFree k = 0 then s
    else
      let log := s.rd R.CMD_RCFG_RLOG k
      let pi := s.rd R.RPL_PI_INDEX k
      let a := s.rd R.RPL_BASE_BASE k * 4096 + 32 * (pi % 2 ^ log)
      let s1 := (s.hostWrite { hport := h.val, func := f.val, addr := a } (word (phaseOf pi log = 1))).wr R.RPL_PI_INDEX (idxAdd pi 1) k
      let r := s1.ring k
      if r.armed && status ≠ stInProgress then (s1.setRing k { r with armed := false }).msixSend k (s1.rd R.CMD_RCFG_VEC k) else s1
  | .smbus => s.emit (.smbus (0x7E :: toBytes 2 Config.vendorId.toNat ++ [2, 0] ++ word false))
  | .remote pid h => if status = stInProgress then s else s.mgmtResp pid.toNat h.val sinc (word false)

/-- The function whose ring a path is, by key. -/
def fnOfPath : CmdPath → Option Nat
  | .ring h f => some (ringKey h f)
  | _ => none

/-- The function that issued a ring command: key 64 h + f. -/
def pathFn (p : CmdPath) : Nat := (fnOfPath p).getD 0

/-- The host port of a ring command. -/
def pathPort (p : CmdPath) : Nat := keyPort (pathFn p)

/-- A request of Caldera to host memory for a command (R575): requester ID of the issuing function, no PASID, no privilege. -/
def cmdReq (c : CmdRef) (addr : Nat) : BusReq := { hport := pathPort c.path, func := keyFunc (pathFn c.path), addr := addr }

/-- The started command with number `n`, the last one to start if there were several. -/
def State.startedCmd (s : State) (n : Nat) : Option Started := (s.cmd.started.filter fun c => c.n = n).getLast?
def State.dropStarted (s : State) (n : Nat) : State :=
  { s with cmd := { s.cmd with started := s.cmd.started.filter fun c => c.n ≠ n } }
def State.setWait (s : State) (n : Nat) (w : CmdWait) : State :=
  let f := fun c : Started => if c.n = n then { c with wait := w } else c
  { s with cmd := { s.cmd with started := s.cmd.started.map f } }

/-- Commands of a path that have no final reply: INFLIGHT of a ring, SMB_OUT of SMBus (R584, R590). -/
def State.inflight (s : State) (p : CmdPath) : Nat :=
  (s.cmd.started.filter fun c => c.ref.path = p).length + (s.cmd.waiting.filter fun c => c.ref.path = p).length

/-- The final reply of a started command, or none where its function has been disabled meanwhile (R587). -/
def State.finalReply (s : State) (n status : Nat) (result : List Byte) : State :=
  match s.startedCmd n with
  | none => s
  | some c =>
    let s1 := s.dropStarted n
    if c.silent then s1 else s1.sendReply c.ref c.sinc c.opcode status false result

/-- The reply of a command that never starts. -/
def State.turnAway (s : State) (c : CmdRef) (sinc code st : Nat) : State := (s.bump C.CMD_REFUSED).sendReply c sinc code st false []

/-! ### Extended parameter buffers (R574) -/

/-- FENCE lets a waiting command start (R584). -/
def State.fenceOk (s : State) (w : WaitCmd) : Bool := !w.fence || s.cmd.started.all fun x => x.ref.path ≠ w.ref.path

/-- The one read of the buffer of a command that starts. -/
def State.readBuf (s : State) (w : WaitCmd) : State :=
  match w.ref.path, w.buf with
  | .ring _ _, some b => s.hostRead (cmdReq w.ref b.addr) b.len
  | _, _ => s

/-- A command whose buffer gives it no parameters ends BAD_PARAM when its turn has come (check 2 of R579). -/
def State.refuseBuf (s : State) (w : WaitCmd) : State :=
  if (s.cmd.waiting.find? fun x => x.ref.path = w.ref.path) = some w && s.fenceOk w then
    let s1 := ({ s with cmd := { s.cmd with waiting := s.cmd.waiting.erase w } } : State).readBuf w
    let s2 := s1.whenB (w.buf.any (·.failed)) (·.dmaError (pathFn w.ref.path))
    s2.turnAway w.ref w.sinc w.opcode stBadParam
  else s

end Sys2Proof.Machine
end

