-- ==== Sys2Proof/Machine/GeysOps.lean ====
section
/-! DEFINITION. Operations of the Geyser timebase (06_timebase.md): exact fractions, steps, states, election and the servo. -/

namespace Sys2Proof.Machine

/-! ### Exact arithmetic (R218) -/

/-- The nearest integer to `n / d`, halves away from zero. -/
def rndDiv (n : Int) (d : Nat) : Int :=
  let q : Int := ((2 * n.natAbs + d) / (2 * d) : Nat)
  if n ≥ 0 then q else -q

def Frac.add (a b : Frac) : Frac := ⟨a.num * b.den + b.num * a.den, a.den * b.den⟩
def Frac.ofInt (i : Int) : Frac := ⟨i, 1⟩

/-- The absolute value of the fraction is above `k`. -/
def Frac.absAbove (a : Frac) (k : Nat) : Bool := a.num.natAbs > k * a.den

/-- TRIM limits (R204). -/
def trimMax : Int := 3298534883
def clampTrim (i : Int) : Int := if i > trimMax then trimMax else if i < -trimMax then -trimMax else i

def State.trim (s : State) : Int := signedOf 36 (s.rd R.GEYS_TRIM_TRIM)

/-- Set TRIM, clamped; a clamp raises TRIM_CLAMP (R204). -/
def State.setTrim (s : State) (v : Int) : State :=
  let c := clampTrim v
  let s1 := s.wr R.GEYS_TRIM_TRIM (ofSigned 36 c)
  if c = v then s1 else s1.raise pgGeys 5

/-- Set the internal UNC and the register that reports it (R220). -/
def State.setUnc (s : State) (u : Nat) : State :=
  let v := min u (2 ^ 48 - 1)
  { s with geys := { s.geys with unc := v } }.wr R.GEYS_UNC_UNC (min v 0xFFFFFFFF)

/-- One step of GT by a signed amount of 1/64 tick given as a fraction (R218, R219). -/
def State.declareStep (s : State) (amount : Frac) : State :=
  let d := rndDiv (amount.num * (2 : Int) ^ 34) amount.den
  let s1 := { s with time := { s.time with acc := ofSigned 104 (s.time.acc + d) } }
  let c := (s1.rd R.GEYS_STATUS_STEP_CNT + 1) % 256
  (((s1.wr R.GEYS_STATUS_STEP_CNT c).wr R.GEYS_STATUS_STEPPED 1).bump C.GEYS_STEPS).raise pgGeys 1 c

/-! ### States (R222, R223) -/

/-- The counter reader has a configuration in force or armed (19_performance_counters.md R668): its next slot with data will be EXTENDED. -/
def State.readerSet (s : State) : Bool := s.on R.CNT_CTRL_RUN || s.cnt.next.isSome

/-- What entry to INVALID does elsewhere: a configured counter reader's next slot is EXTENDED, and an armed flip fires
(19_performance_counters.md R668, 07_dynamic_routing.md R257). -/
def State.timeLost (s : State) : State :=
  let s1 : State := if s.readerSet then { s with cnt := { s.cnt with extended := true } } else s
  if s1.rout.armed.isSome then s1.doFlip true true else s1

/-- Enter a Geyser state. Leaving LOCKED sets LOCK_LOST and clears RATE_LEARNED (R230). -/
def State.enterGeys (s : State) (g : Nat) : State :=
  let old := s.geysState
  if g = old then s
  else
    let s1 := { s with geys := { s.geys with lockRun := 0, selfRun := 0 } }.wr R.GEYS_STATUS_STATE g
    let s2 := if old = gsLocked then
        ((s1.wr R.GEYS_STATUS_LOCK_LOST 1).cond pgGeys 0 true).wr R.GEYS_SLP_INFO_RATE_LEARNED 0
      else s1
    let s3 := if g = gsLocked then s2.cond pgGeys 0 false else s2
    if g = gsInvalid then s3.timeLost else s3

/-- UNC above UNC_INVALID makes the device INVALID, in any state (R223). -/
def State.uncCheck (s : State) : State :=
  if s.geysState ≠ gsInvalid && s.geys.unc > 16 * s.rd R.GEYS_UNC_INV_UNC_INVALID then s.enterGeys gsInvalid else s

def State.isGm (s : State) : Bool := s.on R.GEYS_STATUS_GM
def State.parent (s : State) : Option Nat :=
  if s.rd R.GEYS_STATUS_PARENT = 127 then none else some (s.rd R.GEYS_STATUS_PARENT)

/-- The 8-tick limit of LOCKED holds (R222). -/
def State.uncGood (s : State) : Bool := s.geys.unc ≤ 128

/-- A follower leaves LOCKED in the first interval in which UNC exceeds 8 ticks (R222), and any device with UNC above UNC_INVALID is INVALID. -/
def State.lockCheck (s : State) : State :=
  (if s.geysState = gsLocked && !s.uncGood && !s.isGm then s.enterGeys gsEstimated else s).uncCheck

/-- One interval has ended (R220, R222): a device with a source keeps its TRIM among the last 64, and is LOCKED after 8 intervals in a row that
ended with UNC at or below 8 ticks. -/
def State.intervalEnd (s : State) : State :=
  if s.geysState = gsInvalid || !(s.isGm || s.parent.isSome) then s
  else
    let run := if s.uncGood then s.geys.lockRun + 1 else 0
    let s1 : State := { s with geys := { s.geys with lockRun := run, trims := (s.trim :: s.geys.trims).take 64 } }
    (if s1.geysState = gsEstimated && run ≥ 8 then s1.enterGeys gsLocked else s1).lockCheck

/-! ### What the device sends (R207 to R209, R213, R215, R216, R219) -/

/-- The class the references in lock give (Table 6.2). -/
def State.refClass (s : State) : Nat :=
  2 - bNat (s.geys.ppsLock && s.on R.GEYS_CFG_PPS_EN) - bNat (s.geys.refLock && s.on R.GEYS_CFG_REF10M_EN)

/-- The class of the device's own key: a grandmaster improves the one it advertises under R217 only (DEDUCED, log 189). -/
def State.ownClass (s : State) : Nat := if s.isGm then s.geys.ownClass else s.refClass

/-- Grandmaster fields sent: PID, priority, class, DIST, UNC, STEP. A device without a source that was grandmaster itself sends the STEP of its own
flits with its own fields (R216). -/
def State.advert (s : State) : Nat × Nat × Nat × Nat × Nat × Nat :=
  let own := (s.ownPid, s.rd R.GEYS_CFG_GM_PRIO, s.ownClass)
  if s.geysState = gsInvalid then
    (own.1, own.2.1, own.2.2, if s.on R.GEYS_CFG_GM_EN then 0 else 15, 0xFFFF, s.geys.lastStep)
  else if s.isGm then (own.1, own.2.1, own.2.2, 0, 0, s.geys.gmStep)
  else
    let f := s.geys.followed.getD own
    (f.1, f.2.1, f.2.2, if s.parent.isNone then 15 else s.rd R.GEYS_STATUS_DIST, min s.geys.unc 0xFFFF,
      if s.parent.isNone && f.1 = own.1 then s.geys.gmStep else s.geys.lastStep)

/-- GM_CLASS of GEYS_STATUS: the class advertised. -/
def State.publishClass (s : State) : State := s.wr R.GEYS_STATUS_GM_CLASS s.advert.2.2.1

/-- Comma m of R208 with the two peer commas around it: (CIDX of k, rx of k, rx of k + 1, CIDX of m, tx of m). The commas are put in
order by the events themselves, so a step of GT between two of them does not change which is which. -/
def commaPair (q : PortState) : Option (Nat × Nat × Nat × Nat × Nat) :=
  match q.rxStamps with
  | [] => none
  | newest :: _ =>
    match q.txStamps.find? fun t => t.no < newest.no with
    | none => none
    | some m =>
      match q.rxStamps.find? fun r => r.no < m.no, (q.rxStamps.filter fun r => r.no > m.no).getLast? with
      | some k, some k1 => some (k.cidx.toNat, k.time, k1.time, m.cidx.toNat, m.time)
      | _, _ => none

/-- A TIMING flit (Table 6.2). -/
def State.timingFlit (s : State) (c : Nat × Nat × Nat × Nat × Nat) : Flit :=
  let a := s.advert
  BitVec.ofNat 256 (0x01 + s.geysState * 2 ^ 18 + a.2.2.2.1 * 2 ^ 20 + c.1 * 2 ^ 24 + c.2.2.2.1 * 2 ^ 34 +
    (c.2.1 % 2 ^ 46) * 2 ^ 44 + (c.2.2.1 % 2 ^ 46) * 2 ^ 90 + (c.2.2.2.2 % 2 ^ 46) * 2 ^ 136 + a.1 * 2 ^ 182 + a.2.1 * 2 ^ 202 +
    a.2.2.1 * 2 ^ 210 + a.2.2.2.2.1 * 2 ^ 212 + (a.2.2.2.2.2 % 256) * 2 ^ 228)

/-- An EPOCH flit (Table 6.2). -/
def State.epochFlit (s : State) (cidx txm : Nat) : Flit :=
  let a := s.advert
  BitVec.ofNat 256 (0x01 + 2 ^ 16 + s.geysState * 2 ^ 18 + a.2.2.2.1 * 2 ^ 20 + cidx * 2 ^ 24 + (txm / 64 % 2 ^ 64) * 2 ^ 34 +
    s.rd R.GEYS_TAI_TAI_VALID * 2 ^ 98 + s.rd R.GEYS_TAI_TAI_SEC * 2 ^ 99 + s.rd R.GEYS_TAI_NS_TAI_NS * 2 ^ 147 +
    s.rd R.GEYS_TAI_NS_UTC_OFS * 2 ^ 177 + a.1 * 2 ^ 193 + a.2.1 * 2 ^ 213 + a.2.2.1 * 2 ^ 221 + (a.2.2.2.2.2 % 256) * 2 ^ 223)

/-! ### Election and parent (R212 to R216) -/

/-- A key (INV, GM_CLASS, GM_PRIO, GM_PID) as one number: a lower one is better (R212). -/
def gmKey (inv : Bool) (cls prio pid : Nat) : Nat := bNat inv * 2 ^ 40 + cls * 2 ^ 32 + prio * 2 ^ 20 + pid
def PortSync.key (i : PortSync) : Nat := gmKey (i.state = gsInvalid) i.gmClass i.gmPrio i.gmPid

def State.syncOf (s : State) (p : Nat) : Option PortSync := tget none s.geys.info p
def State.setSync (s : State) (p : Nat) (i : Option PortSync) : State :=
  { s with geys := { s.geys with info := tput none s.geys.info p i } }

/-- The kept flits of the ports in T_UP: port and content. -/
def State.heard (s : State) : List (Nat × PortSync) :=
  s.geys.info.filterMap fun kv => match kv.2 with
    | some i => if s.streaming kv.1 then some (kv.1, i) else none
    | none => none

/-- The grandmaster the device follows is `f` now; a change is reported (GM_CHANGE). -/
def State.follow (s : State) (f : Nat × Nat × Nat) : State :=
  let changed := match s.geys.followed with
    | some g => decide (g.1 ≠ f.1)
    | none => false
  let s1 := { s with geys := { s.geys with followed := some f } }
  if changed then (s1.wr R.GEYS_STATUS_GM_CHANGE 1).raise pgGeys 2 f.1 else s1

/-- Take a parent, or none (R215, R216). -/
def State.setParent (s : State) (p : Option Nat) (dist : Nat) : State :=
  let changed := decide (s.parent ≠ p)
  let s1 := (s.wr R.GEYS_STATUS_PARENT (p.getD 127)).wr R.GEYS_STATUS_DIST dist
  let s2 := if changed then { s1 with geys := { s1.geys with far := 0 } } else s1
  if changed && p.isSome then s2.bump C.GEYS_PARENT_CHANGES else s2

/-- The device is grandmaster (R213, R214, R219, R223); one that becomes it runs at TRIM 0 until PPS steers it (R227). -/
def State.becomeGm (s : State) : State :=
  let s1 := if s.isGm then s
    else ({ s with geys := { s.geys with gmStep := s.geys.lastStep, ownClass := s.refClass, classRun := 0 } } : State).whenB (!s.on R.GEYS_TRIM_OVR) (·.setTrim 0)
  let s2 := (s1.wr R.GEYS_STATUS_GM 1).setParent none 0
  (((s2.follow (s2.ownPid, s2.rd R.GEYS_CFG_GM_PRIO, s2.geys.ownClass)).setUnc 0).enterGeys gsLocked).publishClass

/-- TRIM takes the mean of its values over the last 64 intervals with a source (R220). -/
def State.trimMean (s : State) : State :=
  let n := s.geys.trims.length
  if n = 0 || s.on R.GEYS_TRIM_OVR then s else s.setTrim (rndDiv s.geys.trims.sum n)

/-- The device has no timing source: TRIM stays at its mean, and LOCKED becomes HOLDOVER (R216, R220, R223). -/
def State.noSource (s : State) : State :=
  let s0 := s.whenB (s.isGm || s.parent.isSome) State.trimMean
  let s1 := (s0.wr R.GEYS_STATUS_GM 0).setParent none 15
  (if s1.geysState = gsLocked then s1.enterGeys gsHoldover else s1).publishClass

/-- Follow port `p` (R215); a source regained in HOLDOVER gives ESTIMATED (R223). -/
def State.takeParent (s : State) (p : Nat) (i : PortSync) : State :=
  let s1 := ((s.wr R.GEYS_STATUS_GM 0).setParent (some p) (min 15 (i.dist + 1))).follow (i.gmPid, i.gmPrio, i.gmClass)
  (if s1.geysState = gsHoldover then s1.enterGeys gsEstimated else s1).publishClass

/-- Parents are ranked by DIST, UNC and port (R215). -/
def parentRank (x : Nat × PortSync) : Nat := x.2.dist * 2 ^ 32 + x.2.unc * 2 ^ 8 + x.1

/-- The parent among the ports that offer a grandmaster key: the current one unless another is at least 1 nearer (R215). -/
def State.pickParent (s : State) (cands : List (Nat × PortSync)) : Option (Nat × PortSync) :=
  match cands with
  | [] => none
  | c :: cs =>
    let best := cs.foldl (fun b x => if parentRank x < parentRank b then x else b) c
    match s.parent.bind fun p => cands.find? fun x => x.1 = p with
    | some cur => if best.2.dist < cur.2.dist then some best else some cur
    | none => some best

/-- GM_ELECTION (R213 to R215). -/
def State.elect (s : State) : State :=
  let cands := s.heard.filter fun x => x.2.dist < 15
  let bestKey := (cands.map fun x => x.2.key).min?
  let own := gmKey (s.geysState = gsInvalid) s.ownClass (s.rd R.GEYS_CFG_GM_PRIO) s.ownPid
  let ownBest := s.on R.GEYS_CFG_GM_EN && (match bestKey with
    | some k => decide (own ≤ k)
    | none => true)
  if ownBest then
    if s.geysState ≠ gsInvalid then s.becomeGm
    else
      let s1 : State := { (s.wr R.GEYS_STATUS_GM 0).setParent none 15 with geys := { s.geys with selfRun := s.geys.selfRun + 1, far := 0 } }
      if s1.geys.selfRun ≥ 64 then s1.becomeGm else s1.publishClass
  else
    let s1 := { s with geys := { s.geys with selfRun := 0 } }
    match bestKey with
    | none => s1.noSource
    | some k =>
      let good := cands.filter fun x => x.2.gmPid = k % 2 ^ 20 && x.2.state ≠ gsInvalid
      match s1.pickParent good with
      | some (p, i) => s1.takeParent p i
      | none => s1.noSource

/-! ### Offsets and the servo (R211, R218) -/

/-- A time in 1/64 tick of 64-bit GT as the value nearest to local time. -/
def nearTime (now t : Nat) : Int :=
  let d : Nat := (t + 2 ^ 70 - now % 2 ^ 70) % 2 ^ 70
  (now : Int) + (if d < 2 ^ 69 then (d : Int) else (d : Int) - (2 : Int) ^ 70)

/-- A 46-bit sync timestamp extended to the value nearest to local time (R211), in 1/64 tick. -/
def extendStamp (now t : Nat) : Int :=
  let m := 2 ^ 46
  let base : Int := (now / m * m : Nat)
  let c : Int := base + (t % m : Nat)
  let d := c - (now : Int)
  if d > (m / 2 : Nat) then c - (m : Nat) else if d < -((m / 2 : Nat) : Int) then c + (m : Nat) else c

/-- Delay and offset of a TIMING flit from the stamps of both sides (R211); none when the two peer stamps are equal. -/
def syncOffsets (txk txk1 rxm rxk rxk1 txm asym : Int) : Option (Frac × Frac) :=
  let f0 := rxk - txk
  let f1 := rxk1 - txk1
  let den := rxk1 - rxk
  if den = 0 then none
  else
    let d := den.natAbs
    let fi := (f0 * den + (txm - rxk) * (f1 - f0)) * den.sign
    let r := (rxm - txm + asym) * d
    some (⟨fi + r, 2 * d⟩, ⟨fi - r, 2 * d⟩)

/-- The servo's step from INVALID: GT is taken from the EPOCH flit (R218). -/
def State.servoFirst (s : State) (i : PortSync) : State :=
  match i.epoch, i.dcorr with
  | some e, some d =>
    let target := Frac.add ⟨64 * (fget e 34 64 : Int) + 64 * (s.gt : Int) - nearTime (64 * s.gt) i.epochRx, 1⟩ d
    let s1 := s.declareStep (Frac.add target (Frac.ofInt (-(64 * (s.gt : Int)))))
    let s2 := { s1 with geys := { s1.geys with lastStep := fget e 223 8, far := 0, integ := 0 } }
    ((s2.setUnc (i.unc + s2.rd R.GEYS_LIM_HOP_UNC + 16)).enterGeys gsEstimated).uncCheck
  | _, _ => s

/-- The integrator and TRIM updates (R218). -/
def State.servoTrim (s : State) (th : Frac) : State :=
  if s.on R.GEYS_TRIM_OVR then s
  else
    let den := th.den * 64 * 200000
    let n := th.num * (2 : Int) ^ 40
    let di := den * 2 ^ s.rd R.GEYS_CFG_KI_SH
    let dp := den * 2 ^ s.rd R.GEYS_CFG_KP_SH
    let integ := clampTrim (rndDiv (s.geys.integ * di + n) di)
    { s with geys := { s.geys with integ := integ } }.setTrim (rndDiv (integ * dp + n) dp)

/-- SERVO_UPDATE (R218): once per TIMING flit from the parent. -/
def State.servo (s : State) (i : PortSync) : State :=
  if s.geysState = gsInvalid then s.servoFirst i
  else match i.theta with
    | none => s
    | some th =>
      let thr := 64 * s.rd R.GEYS_LIM_STEP_THR
      let isFar := th.absAbove thr
      if i.step ≠ s.geys.lastStep || (s.geysState ≠ gsLocked && isFar) then
        let s1 := s.declareStep th
        { s1 with geys := { s1.geys with lastStep := i.step } }
      else if s.geysState = gsLocked && isFar then
        let s1 := { s with geys := { s.geys with far := s.geys.far + 1 } }
        if s1.geys.far ≥ 4 then
          let s2 := (s1.enterGeys gsEstimated).declareStep th
          { s2 with geys := { s2.geys with far := 0 } }
        else s1
      else
        let s1 := ({ s with geys := { s.geys with far := 0 } }).servoTrim th
        (s1.setUnc (i.unc + s1.rd R.GEYS_LIM_HOP_UNC + (th.num.natAbs + 4 * th.den - 1) / (4 * th.den))).lockCheck

/-- HOLDOVER_INTERVAL (R220, R223): one interval without a timing source. -/
def State.holdoverInterval (s : State) : State :=
  if s.isGm || s.parent.isSome then s
  else
    let s0 := if s.geysState = gsLocked then s.enterGeys gsHoldover else s
    let grow := s0.geys.uncRem + 32 * s0.rd R.GEYS_LIM_HOLD_PPB
    let s1 := ({ s0 with geys := { s0.geys with uncRem := grow % 1000, lockRun := 0 } }).setUnc (s0.geys.unc + grow / 1000)
    s1.trimMean.uncCheck

/-- A reset reaches the GEYS block (R205, R222). -/
def State.geysReset (s : State) : State :=
  let s1 := (s.resetRo R.fieldsGEYS 0).wr R.GEYS_TRIM_TRIM 0
  let s2 := { s1 with time := { s1.time with acc := 0 }, geys := {} }.cond pgGeys 0 false
  if s.geysState = gsInvalid then s2 else s2.timeLost

end Sys2Proof.Machine
end

