-- ==== Sys2Proof/Machine/XltOps.lean ====
section
/-! DEFINITION. Operations of the translation unit (10_translation.md): lookup, the walk, caches and invalidation. -/

namespace Sys2Proof.Machine

/-! Fault kinds (Table 10.5). -/
def xfNotPresent : Nat := 1
def xfWrite : Nat := 2
def xfFetch : Nat := 3
def xfUser : Nat := 4
def xfSupGuard : Nat := 5
def xfRsvdBit : Nat := 6
def xfNonCanon : Nat := 7
def xfWalkRange : Nat := 8
def xfWalkErr : Nat := 9
def xfAmRace : Nat := 10
def xfCtxInvalid : Nat := 11

/-- A remote fault of this kind is answered with a retry request (Table 10.5). -/
def xfRetry (k : Nat) : Bool := k = xfNotPresent || k = xfWalkErr || k = xfAmRace

/-- Width of the virtual address space of a context (R372). -/
def vaWidth (c : CtxFields) : Nat := 12 + 9 * (c.levels + 3)

/-- Canonical addresses (R372). -/
def canonical (va w : Nat) : Bool := va / 2 ^ (w - 1) = 0 || va / 2 ^ (w - 1) = 2 ^ (65 - w) - 1

/-- Bytes mapped by one entry of a level. -/
def levelSize (lvl : Nat) : Nat := 2 ^ (12 + 9 * (lvl - 1))

/-- The enabled walk ranges of a host port: first and last page (R378). -/
def State.walkRanges (s : State) (h : Nat) : List (Nat × Nat) :=
  ((List.range 16).filter fun i => s.on R.XLT_WR_BASE_EN h i).map fun i => (s.rd R.XLT_WR_BASE_BASE h i, s.rd R.XLT_WR_LIMIT_LIMIT h i)

/-- The address lies in one of the ranges. -/
def inRanges (l : List (Nat × Nat)) (a : Nat) : Bool := l.any fun r => r.1 ≤ a / 4096 && a / 4096 ≤ r.2

/-- The address lies in an enabled walk range of the host port (R378). -/
def State.inWalkRange (s : State) (h a : Nat) : Bool := inRanges (s.walkRanges h) a

/-- The reserved rules of a present entry (R371). -/
def breaksReserved (c : CtxFields) (lvl e : Nat) : Bool :=
  let ps := field e 6 1 = 1
  let leaf := lvl = 1 || ps
  field e 63 1 = 1 || (ps && (lvl = 1 || lvl = c.levels + 3 || lvl = 5)) ||
    (leaf && field e 8 2 ≥ 2) || (leaf && field e 12 (9 * (lvl - 1)) ≠ 0)

/-- What the permission rules say of an access (R373): a fault kind, or none. -/
def permFault (c : CtxFields) (acc : AccKind) (w u f : Bool) : Option Nat :=
  if acc = .write && !w then some xfWrite
  else if acc = .fetch && !f then some xfFetch
  else if !c.priv && !u then some xfUser
  else if c.priv && u && (acc = .fetch || !c.supDataU) then some xfSupGuard
  else none

/-- The outcome of translating one address. -/
inductive XRes
  /-- output address, and whether the leaf's ATTR asks for No Snoop -/
  | hit (pa : Nat) (noSnoop : Bool)
  /-- a walk is needed; the request is made again when it has ended -/
  | wait
  | fault (kind : Nat)
  deriving DecidableEq, Repr

def TlbEntry.covers (t : TlbEntry) (ctx va : Nat) : Bool := t.ctx = ctx && t.base ≤ va && va < t.base + t.size

/-- A cached entry filled at this cycle count may not be used any more (R381); MAX_AGE is in ticks of a tenth of a cycle. -/
def State.aged (s : State) (fill : Nat) : Bool :=
  let m := s.rd R.XLT_AGE_MAX_AGE
  m ≠ 0 && (s.time.cycles - fill) * 10 ≥ m

def State.l1Of (s : State) (e : Nat) : List TlbEntry := tget [] s.xlt.l1 e
def State.setL1 (s : State) (e : Nat) (l : List TlbEntry) : State := { s with xlt := { s.xlt with l1 := tput [] s.xlt.l1 e l } }
def State.setL2 (s : State) (l : List TlbEntry) : State := { s with xlt := { s.xlt with l2 := l } }
def State.walk (s : State) (i : Nat) : Option Walk := tget none s.xlt.walks i
def State.setWalk (s : State) (i : Nat) (w : Option Walk) : State := { s with xlt := { s.xlt with walks := tput none s.xlt.walks i w } }

/-- Put an entry into a cache of `cap` places; which entry makes room is not stated by the spec (log 4). -/
def State.cacheIn {α : Type} (s : State) (cap : Nat) (l : List α) (x : α) : List α × State :=
  if l.length < cap then (l ++ [x], s)
  else
    let (r, s1) := s.draw 32
    (l.eraseIdx (r % l.length) ++ [x], s1)

/-- Keep only some cached translations. -/
def State.tlbKeep (s : State) (keep : TlbEntry → Bool) : State :=
  let l1 : Tab (List TlbEntry) := (s.xlt.l1.map fun kv => (kv.1, kv.2.filter keep)).filter fun kv => !kv.2.isEmpty
  { s with xlt := { s.xlt with l1 := l1, l2 := s.xlt.l2.filter keep } }

/-- Remove the cached translations of an address, and the walk-cache entries on its path (R383). -/
def State.dropCached (s : State) (ctx va : Nat) : State :=
  let s1 := s.tlbKeep fun t => !t.covers ctx va
  { s1 with xlt := { s1.xlt with wc := s1.xlt.wc.filter fun x => !(x.ctx = ctx && x.region = va / levelSize x.level) } }

/-! ### The walk (R373) -/

/-- The address of the entry a walk reads. -/
def Walk.ea (w : Walk) : Nat := w.table + 8 * (w.va / levelSize w.level % 512)

/-- Cumulative W, U and F of a list of entries. -/
def foldPerm (w u f : Bool) (es : List Nat) : Bool × Bool × Bool :=
  es.foldl (fun p e => (p.1 && field e 1 1 = 1, p.2.1 && field e 2 1 = 1, p.2.2 && field e 3 1 = 1)) (w, u, f)

/-- A request of the walker (R366). -/
def walkReq (c : CtxFields) (a : Nat) : BusReq := { ctxReq c a with priv := true }

/-- The walk at its root. -/
def Walk.atRoot (w : Walk) : Walk :=
  { w with level := w.c.levels + 3, table := w.c.root * 4096, w0 := true, u0 := true, f0 := true, path := [], stage := .reading, stale := false }

/-- The walk takes its context and the walk ranges as they now stand (R379, R398). -/
def State.walkLatch (s : State) (w : Walk) : Walk := { w with c := s.ctx w.ctx, ranges := s.walkRanges (s.ctx w.ctx).hport }

/-- The walk-cache entries that cover a walk's address. -/
def State.wcHits (s : State) (w : Walk) : List WcEntry :=
  s.xlt.wc.filter fun x => x.ctx = w.ctx && x.region = w.va / levelSize x.level && x.level ≤ w.c.levels + 3

/-- The walk-cache entries on a walk's path that have aged out are refused, each counted (R381). -/
def State.ageWc (s : State) (w : Walk) : State :=
  let old := (s.wcHits w).filter fun x => s.aged x.fill
  if old.isEmpty then s
  else ({ s with xlt := { s.xlt with wc := s.xlt.wc.filter fun x => !old.contains x } } : State).bump C.XLT_AGED_OUT 0 old.length

/-- The walk from the deepest walk-cache entry that covers its address. -/
def State.walkFrom (s : State) (w : Walk) : Walk × Bool :=
  match (s.wcHits w).foldl (fun b x => match b with
      | none => some x
      | some y => if x.level < y.level then some x else some y) none with
  | some x => ({ w with level := x.level - 1, table := x.table, w0 := x.w, u0 := x.u, f0 := x.f, path := [] }, true)
  | none => (w.atRoot, false)

/-- Issue the read of the walk's next entry, or fault because it lies outside the walk ranges. -/
def State.walkRead (s : State) (w : Walk) : Option State :=
  if inRanges w.ranges w.ea then some ((s.hostRead (walkReq w.c w.ea) 8).bump C.XLT_WALK_READS) else none

/-- A free walker. -/
def State.freeWalker (s : State) : Option Nat := (List.range 4).find? fun i => (s.walk i).isNone

/-- The walk resolves the page of an address. -/
def Walk.page (w : Walk) (ctx va : Nat) : Bool := w.ctx = ctx && w.va / 4096 = va / 4096

/-- The access waits for the walk. -/
def Walk.awaits (w : Walk) (who : Access) : Bool := w.who.any fun x => x.who = who

/-- A walker that resolves the page. -/
def State.walkFor (s : State) (ctx va : Nat) : Option (Nat × Walk) :=
  (List.range 4).findSome? fun i => match s.walk i with
    | some w => if w.page ctx va then some (i, w) else none
    | none => none

/-- The access waits for a walk of the page already. -/
def State.walkAwaited (s : State) (ctx va : Nat) (who : Access) : Bool :=
  (s.xlt.walks.any fun kv => match kv.2 with
    | some w => w.page ctx va && w.awaits who
    | none => false) || s.xlt.walkQueue.any fun w => w.page ctx va && w.awaits who

/-- An access waits for a walk, of whatever page. -/
def State.walkWaiter (s : State) (who : Access) : Bool :=
  (s.xlt.walks.any fun kv => match kv.2 with
    | some w => w.awaits who
    | none => false) || s.xlt.walkQueue.any fun w => w.awaits who

/-- A walker takes up a walk: it begins at the deepest walk-cache entry, or faults because its first entry lies outside the walk ranges. -/
def State.walkBegin (s : State) (i : Nat) (w : Walk) : Option State × State :=
  let w0 := s.walkLatch w
  let s1 := s.ageWc w0
  let (w1, cached) := s1.walkFrom w0
  let s2 := (s1.bump C.XLT_WALKS).whenB cached (·.bump C.XLT_WC_HIT)
  ((s2.walkRead w1).map fun s3 => s3.setWalk i (some w1), s2)

/-- Start a walk or join the one that resolves the page (Table 10.7); with all four walkers busy it waits for one. -/
def State.startWalk (s : State) (ctx va : Nat) (x : Waiter) : XRes × State :=
  let join := fun w : Walk => if w.awaits x.who then w else { w with who := w.who ++ [x] }
  match s.walkFor ctx va with
  | some (i, w) => (.wait, s.setWalk i (some (join w)))
  | none =>
    let w0 : Walk := { ctx := ctx, va := va, acc := x.acc, level := 1, table := 0, who := [x] }
    if s.xlt.walkQueue.any fun w => w.page ctx va then
      (.wait, { s with xlt := { s.xlt with walkQueue := s.xlt.walkQueue.map fun w => if w.page ctx va then join w else w } })
    else match s.freeWalker with
      | none => (.wait, { s with xlt := { s.xlt with walkQueue := s.xlt.walkQueue ++ [w0] } })
      | some i => match s.walkBegin i w0 with
        | (some s1, _) => (.wait, s1)
        | (none, s1) => (.fault xfWalkRange, s1.raise pgXlt 0 ctx)

/-- Only some waiters still wait for walks. -/
def State.keepWaiting (s : State) (keep : Waiter → Bool) : State :=
  let part := fun w : Walk => { w with who := w.who.filter keep }
  { s with xlt := { s.xlt with
      walks := s.xlt.walks.map fun kv => (kv.1, kv.2.map part)
      walkQueue := (s.xlt.walkQueue.map part).filter fun w => !w.who.isEmpty } }

/-- Only some accesses still wait for walks. -/
def State.keepWaiters (s : State) (keep : Access → Bool) : State := s.keepWaiting fun x => keep x.who

/-- The address of a span in the page in which a walk that it has joined has faulted: the span's first byte there (R390). -/
def pageVa (span va : Nat) : Nat := if va / 4096 = span % 2 ^ 64 / 4096 then span % 2 ^ 64 else va / 4096 * 4096

/-- Walk a page, whatever is cached (R382). -/
def State.walkOnly (s : State) (ctx va : Nat) (acc : AccKind) (who : Access) : XRes × State :=
  let c := s.ctx ctx
  if !c.valid then (.fault xfCtxInvalid, s)
  else if !canonical va (vaWidth c) then (.fault xfNonCanon, s)
  else if s.walkAwaited ctx va who then (.wait, s)
  else s.startWalk ctx va { who := who, acc := acc }

/-- The entries of a cache that cover an address and have aged out are refused, each counted (R381). -/
def State.ageOut (s : State) (ctx va : Nat) (l : List TlbEntry) : List TlbEntry × State :=
  let old := fun t : TlbEntry => t.covers ctx va && s.aged t.fill
  if l.any old then (l.filter fun t => !old t, s.bump C.XLT_AGED_OUT 0 (l.countP old)) else (l, s)

/-- Look an address up in the L1 TLB of an engine, then in the L2 TLB; an entry that has aged out is not used (R381). -/
def State.tlbFind (s : State) (ctx va : Nat) (eng : Option Nat) : Option TlbEntry × State :=
  let inL2 := fun s : State =>
    let (l, s) := s.ageOut ctx va s.xlt.l2
    let s := s.setL2 l
    match s.xlt.l2.find? fun t => t.covers ctx va with
    | some t => (some t, s.bump C.XLT_L2_HIT)
    | none => (none, s.bump C.XLT_L2_MISS)
  match eng with
  | none => inL2 s
  | some e =>
    let (l, s) := s.ageOut ctx va (s.l1Of e)
    let s := s.setL1 e l
    match (s.l1Of e).find? fun t => t.covers ctx va with
    | some t => (some t, s.bump C.XLT_L1_HIT)
    | none =>
      let (r, s1) := inL2 (s.bump C.XLT_L1_MISS)
      match r with
      | some t =>
        let (l, s2) := s1.cacheIn 64 (s1.l1Of e) t
        (some t, s2.setL1 e l)
      | none => (none, s1)

/-- Translate one address (R372 to R376, R381, R383). An access that waits for a walk of the page is told so without a look into the caches. -/
def State.translate (s : State) (ctx va : Nat) (acc : AccKind) (eng : Option Nat) (who : Access) : XRes × State :=
  let c := s.ctx ctx
  if !c.valid then (.fault xfCtxInvalid, s)
  else if !canonical va (vaWidth c) then (.fault xfNonCanon, s)
  else if s.walkAwaited ctx va who then (.wait, s)
  else
    let x : Waiter := { who := who, eng := eng, acc := acc }
    let (r, s1) := s.tlbFind ctx va eng
    match r with
    | some t =>
      if (permFault c acc t.w t.u t.f).isSome then (s1.dropCached ctx va).startWalk ctx va x
      else if c.amEn && acc = .write && !t.m then s1.startWalk ctx va x
      else (.hit (t.out + (va - t.base)) t.noSnoop, s1)
    | none => s1.startWalk ctx va x

/-- The outcome of translating a span of bytes: output segments (address, bytes, No Snoop), in address order. -/
inductive XSpan
  | ok (segs : List (Nat × Nat × Bool))
  | wait
  | fault (kind va : Nat)
  deriving DecidableEq, Repr

/-- Translate the pages of `n` bytes from `va`, one after the other; `fuel` bounds the pages. -/
def State.translateSpan : Nat → State → Nat → Nat → Nat → AccKind → Option Nat → Access → XSpan × State
  | 0, s, _, _, _, _, _, _ => (.ok [], s)
  | fuel + 1, s, ctx, va, n, acc, eng, who =>
    if n = 0 then (.ok [], s)
    else
      let va := va % 2 ^ 64
      let k := min n (4096 - va % 4096)
      match s.translate ctx va acc eng who with
      | (.hit pa ns, s1) =>
        match translateSpan fuel s1 ctx (va + k) (n - k) acc eng who with
        | (.ok segs, s2) => (.ok ((pa, k, ns) :: segs), s2)
        | r => r
      | (.wait, s1) => (.wait, s1)
      | (.fault kind, s1) => (.fault kind va, s1)

/-- Pages that `n` bytes can touch. -/
def pagesFor (n : Nat) : Nat := n / 4096 + 2

/-- A walk has found a permitted leaf: fill the caches (R380). -/
def State.walkFill (s : State) (w : Walk) (lvl e : Nat) : State :=
  let c := w.c
  let es := w.path.map fun p => p.2.2
  let p := foldPerm w.w0 w.u0 w.f0 es
  let size := levelSize lvl
  let t : TlbEntry := {
    ctx := w.ctx, base := w.va / size * size, size := size, out := field e 12 40 * 4096
    w := p.1, u := p.2.1, f := p.2.2, g := field e 7 1 = 1, m := field e 5 1 = 1 || (c.amEn && w.acc = .write)
    noSnoop := field e 8 2 = 1, fill := s.time.cycles }
  let s0 := s.tlbKeep fun t => !t.covers w.ctx w.va
  let (l2, s1) := s0.cacheIn 16384 s0.xlt.l2 t
  let fillL1 := fun (s : State) (x : Waiter) =>
    match x.eng with
    | some eng =>
      let (l, s') := s.cacheIn 64 (s.l1Of eng) t
      s'.setL1 eng l
    | none => s
  let s2 := w.who.foldl fillL1 (s1.setL2 l2)
  let fillWc := fun (s : State) (i : Nat) =>
    match w.path[i]? with
    | some (lv, _, v) =>
      if lv = lvl then s
      else
        let q := foldPerm w.w0 w.u0 w.f0 (es.take (i + 1))
        let x : WcEntry := {
          ctx := w.ctx, level := lv, region := w.va / levelSize lv, table := field v 12 40 * 4096
          w := q.1, u := q.2.1, f := q.2.2, fill := s.time.cycles }
        let same := s.xlt.wc.filter fun y => !(y.ctx = x.ctx && y.level = lv && y.region = x.region)
        let (m', s') := s.cacheIn 2048 (same.filter fun y => y.level = lv) x
        { s' with xlt := { s'.xlt with wc := (same.filter fun y => y.level ≠ lv) ++ m' } }
    | none => s
  (List.range w.path.length).foldl fillWc s2

/-- What a step of a walk comes to. -/
inductive WalkRes
  /-- the walk goes on, or has succeeded -/
  | ok (s : State)
  /-- the walk has faulted -/
  | fault (kind : Nat) (s : State)

/-- A walk begins again at the root. -/
def State.walkRestart (s : State) (i : Nat) (w : Walk) : WalkRes :=
  let w' := w.atRoot
  match s.walkRead w' with
  | some s1 => .ok (s1.setWalk i (some w'))
  | none => .fault xfWalkRange s

/-- Set A and M by compare-and-swap from path position `k` on; at the end the walk has succeeded (R375). -/
def State.walkMark : Nat → State → Nat → Walk → Nat → WalkRes
  | 0, s, _, _, _ => .ok s
  | fuel + 1, s, i, w, k =>
    let c := w.c
    match w.path[k]? with
    | none =>
      match w.path.getLast? with
      | some (lvl, _, e) => .ok ((s.setWalk i none).walkFill w lvl e)
      | none => .ok (s.setWalk i none)
    | some (_, ea, e) =>
      let n := e ||| 0x10 ||| (if k + 1 = w.path.length && w.acc = .write then 0x20 else 0)
      if !c.amEn || n = e then walkMark fuel s i w (k + 1)
      else
        .ok (((s.hostCas (walkReq c ea) e n).bump C.XLT_AM_CAS).setWalk i (some { w with stage := .swapping k }))

/-- The walk began at a walk-cache entry: what that entry remembers may refuse the access where the tables no longer do (R383). -/
def Walk.fromCache (w : Walk) : Bool := (w.path.head?).any fun p => p.1 < w.c.levels + 3

/-- The entry of a walk arrives. A refusal to which a walk-cache entry has contributed is none: the entry is discarded, and the walk starts again from
the root (R383). -/
def State.walkEntry (s : State) (i : Nat) (w : Walk) (e : Nat) : WalkRes :=
  let c := w.c
  if field e 0 1 = 0 then .fault xfNotPresent s
  else if breaksReserved c w.level e then .fault xfRsvdBit s
  else
    let w1 := { w with path := w.path ++ [(w.level, w.ea, e)] }
    if w.level = 1 || field e 6 1 = 1 then
      let p := foldPerm w1.w0 w1.u0 w1.f0 (w1.path.map fun p => p.2.2)
      match permFault c w.acc p.1 p.2.1 p.2.2 with
      | some k => if w1.fromCache then (s.dropCached w.ctx w.va).walkRestart i w1 else .fault k s
      | none => s.walkMark 8 i w1 0
    else
      let w2 := { w1 with level := w.level - 1, table := field e 12 40 * 4096 }
      match s.walkRead w2 with
      | some s1 => .ok (s1.setWalk i (some w2))
      | none => .fault xfWalkRange s

/-- A compare-and-swap of a walk returns the old value. -/
def State.walkSwapped (s : State) (i : Nat) (w : Walk) (k old : Nat) : WalkRes :=
  match w.path[k]? with
  | none => .ok s
  | some (lv, ea, e) =>
    if old ≠ e then
      if w.restarts + 1 ≥ 16 then .fault xfAmRace s
      else (s.bump C.XLT_AM_RETRY).walkRestart i { w with restarts := w.restarts + 1 }
    else
      let n := e ||| 0x10 ||| (if k + 1 = w.path.length && w.acc = .write then 0x20 else 0)
      s.walkMark 8 i { w with path := w.path.set k (lv, ea, n), stage := .reading } (k + 1)

/-! ### Invalidation (R386, R387) -/

/-- The scope covers a cached translation. -/
def Inval.hits (v : Inval) (t : TlbEntry) : Bool :=
  match v.scope with
  | .range => t.ctx = v.ctx && t.base < v.va + 4096 * v.pages && v.va < t.base + t.size
  | .ctx => t.ctx = v.ctx
  | .ctxNonglobal => t.ctx = v.ctx && !t.g
  | .all => true

/-- The scope covers a walk-cache entry. -/
def Inval.hitsWc (v : Inval) (wc : Bool) (x : WcEntry) : Bool :=
  match v.scope with
  | .range =>
    let sz := levelSize x.level
    wc && x.ctx = v.ctx && x.region * sz < v.va + 4096 * v.pages && v.va < x.region * sz + sz
  | .ctx | .ctxNonglobal => x.ctx = v.ctx
  | .all => true

/-- Accept an invalidation: the removal of R386, and the discarding of walks in its scope. -/
def State.invalAccept (s : State) (v : Inval) (wc : Bool) : State :=
  let s1 := s.tlbKeep fun t => !v.hits t
  let gone := ((s.xlt.l1.flatMap Prod.snd ++ s.xlt.l2).filter v.hits).map fun t => (t.ctx, t.base, t.size)
  let mark := fun w : Walk => if v.scope = .all || w.ctx = v.ctx then { w with stale := true } else w
  { s1 with xlt := { s1.xlt with
      wc := s1.xlt.wc.filter fun x => !v.hitsWc wc x
      walks := s1.xlt.walks.map fun kv => (kv.1, kv.2.map mark)
      invals := s1.xlt.invals ++ [{ v with removed := gone.eraseDups }] } }

/-- The scope, or a translation that the invalidation removed, covers `n` bytes at an address of a context (R386, R387). -/
def Inval.covers (v : Inval) (ctx va n : Nat) : Bool :=
  v.scope = .all || (v.ctx = ctx && (v.scope ≠ .range || (va < v.va + 4096 * v.pages && v.va < va + n))) ||
    v.removed.any fun r => r.1 = ctx && va < r.2.1 + r.2.2 && r.2.1 < va + n

/-- A host write that waits for the mate lies under a context of the scope: it was translated, and has not been issued (R387). -/
def State.invalHeld (s : State) (v : Inval) : Bool :=
  s.pair.waits.any fun w => match w.2 with
    | .hostWrite _ _ (.sq q _) | .hostWrite _ _ (.fired q _ _) => v.scope = .all || (s.qp q).p.ctx = v.ctx
    | _ => false

/-- DMA reads still out that were issued under a translation an invalidation removed. -/
def State.invalReads (s : State) (v : Inval) : Bool :=
  (s.host.qps.any fun kv =>
    let x := kv.2
    (x.sqIn.any fun f => f.dma < v.upto && v.covers x.p.ctx (x.p.sqBase + 64 * (f.x % x.sqSize)) 64) ||
    (x.rqIn.any fun f => f.dma < v.upto && v.covers x.p.ctx (x.p.rqBase + 64 * (f.x % x.rqSize)) 64)) ||
  s.tpt.reads.any fun r => r.id < v.upto && v.covers r.ctx r.va (xRlen r.ext.toNat)

/-- The conditions of R387 hold. -/
def State.invalDone (s : State) (v : Inval) : Bool :=
  !s.invalReads v && !s.invalHeld v && s.xlt.walks.all fun kv => match kv.2 with
    | some w => !(w.stale && (v.scope = .all || w.ctx = v.ctx))
    | none => true

/-! ### Park slots (R391 to R393) -/

def State.park (s : State) (i : Nat) : ParkSlot := tget {} s.xlt.parks i
def State.setPark (s : State) (i : Nat) (p : ParkSlot) : State := { s with xlt := { s.xlt with parks := tput {} s.xlt.parks i p } }
def State.freePark (s : State) : Option Nat := (List.range 1024).find? fun i => !(s.park i).used
def State.parkedBy (s : State) (f : ParkSlot → Bool) : Bool := s.xlt.parks.any fun kv => kv.2.used && f kv.2

/-- The ring of a QP that a parked access stops (R391). -/
def Access.stopsSq : Access → Bool
  | .sqFetch _ | .record _ | .start _ _ _ | .payload _ | .resend _ _ => true
  | _ => false
def Access.stopsRq : Access → Bool
  | .rqFetch _ | .record _ | .mire _ _ => true
  | _ => false

def State.sqStopped (s : State) (q : Nat) : Bool := s.parkedBy fun p => p.q = q && p.who.stopsSq
def State.rqStopped (s : State) (q : Nat) : Bool := s.parkedBy fun p => p.q = q && p.who.stopsRq

/-- Take a park slot for an access and post XLT_PARKED (R391, R392). -/
def State.parkIn (s : State) (i q : Nat) (who : Access) (ctx va : Nat) (acc : AccKind) (kind : Nat) : State :=
  let gen := ((s.park i).gen + 1) % 8
  let s1 := s.setPark i { used := true, gen := gen, who := who, q := q, ctx := ctx, va := va, acc := acc, kind := kind }
  let info := field va 12 45 + kind * 2 ^ 45 + acc.code * 2 ^ 49 + i * 2 ^ 51 + gen * 2 ^ 61
  (s1.bump C.XLT_PARKED).qpEvent q evXltParked info

/-- Release a park slot. -/
def State.unpark (s : State) (i : Nat) : State := (s.setPark i { s.park i with used := false }).cond pgXlt 3 false

end Sys2Proof.Machine
end

