-- ==== Sys2Proof/Machine/WinOps.lean ====
section
/-! DEFINITION. Windows (11_transport_and_windows.md R437 to R442, R446). -/

namespace Sys2Proof.Machine

def wsFree : Nat := 0
def wsOpen : Nat := 1
def wsRevoking : Nat := 2
def wsCooling : Nat := 3

def State.window (s : State) (i : Nat) : WinEntry := tget {} s.win.wins i
def State.setWindow (s : State) (i : Nat) (w : WinEntry) : State := { s with win := { s.win with wins := tput {} s.win.wins i w } }
def State.admittedTo (s : State) (i : Nat) : Nat := tget 0 s.win.admitted i
def State.setAdmitted (s : State) (i n : Nat) : State := { s with win := { s.win with admitted := tput 0 s.win.admitted i n } }

/-- A packet admitted to a window has finished (R441). -/
def State.winLeave (s : State) (i : Nat) : State := s.setAdmitted i (s.admittedTo i - 1)

def keyIndex (k : Nat) : Nat := field k 0 24
def keyGen (k : Nat) : Nat := field k 24 8

/-- The half of an identifier space of `n` that a paired device allocates from: its first number and its size (Table 15.1). -/
def State.ownHalf (s : State) (n : Nat) : Nat × Nat :=
  if !s.paired then (0, n) else if s.ownPid % 2 = 0 then (n / 2, n / 2) else (0, n / 2)

/-- The first index from `f` on that was never opened, by this device or by a record of its mate; `fuel` bounds those passed over. -/
def State.neverOpened (s : State) (base : Nat) : Nat → Nat → Nat
  | 0, f => f
  | fuel + 1, f => if (s.window (base + f)).opened || (s.window (base + f)).state ≠ wsFree then s.neverOpened base fuel (f + 1) else f

/-- The FREE index that has been free longest (02_grid_and_addressing.md R85); indices never opened first, lowest first (log 24). -/
def State.freeWindow (s : State) : Option Nat :=
  let (base, n) := s.ownHalf (s.rd R.WIN_CFG_COUNT)
  let f := s.neverOpened base (s.win.wins.length + 1) s.win.fresh
  if f < n then some (base + f)
  else s.win.freed.find? fun i => base ≤ i && i < base + n && (s.window i).state = wsFree

/-- The ranges of R438 that need no ownership: BASE and LENGTH under the levels of the context, PERM, SCOPE_PID, CNT_EN. -/
def State.windowRanges (s : State) (w : WinEntry) : Bool :=
  let va := vaWidth (s.ctx w.ctx)
  (w.permRead || w.permWrite) && 1 ≤ w.length && w.length ≤ 2 ^ 56 && canonical w.base va &&
    w.base + w.length - 1 < 2 ^ 64 && canonical (w.base + w.length - 1) va && (!w.scopePid || s.validPid w.peerPid) &&
    (!w.cntEn || w.cntIdx < 1048576)

/-- Open a window at a free index: its key, and the record the reply waits for (R438). -/
def State.openWindow (s : State) (i : Nat) (w : WinEntry) : Nat × Option Nat × State :=
  let old := s.window i
  let gen := if old.gen + 1 ≥ 256 then 1 else old.gen + 1
  let w' : WinEntry := { w with state := wsOpen, opened := true, gen := gen, freeGt := 0 }
  let (base, n) := s.ownHalf (s.rd R.WIN_CFG_COUNT)
  let s1 := s.setWindow i w'
  let s2 : State := { s1 with win := { s1.win with
    fresh := if base + s1.win.fresh ≤ i && i < base + n && !old.opened then i - base + 1 else s1.win.fresh
    freed := s1.win.freed.filter fun j => j ≠ i } }
  let (g, s3) := s2.mirror (.win i w')
  (i + gen * 2 ^ 24, g, s3.bump C.WIN_OPENS)

/-- A revoke starts: packets whose check 4 begins later are refused (R440). -/
def State.revokeStart (s : State) (i : Nat) : State :=
  let w := { s.window i with state := wsRevoking }
  ((s.setWindow i w).mirrorNote (.win i w)).bump C.WIN_REVOKES

def State.awaitRevoke (s : State) (i : Nat) (who : RevokeFor) (status : Nat) : State :=
  { s with win := { s.win with revokes := s.win.revokes ++ [{ win := i, who := who, status := status }] } }

/-- What a revoke of a key answers, tested in the order of R442: a status at once, a status once a revoke in progress has
completed, or a revoke to start. -/
inductive RevokeRes
  | now (status : Nat)
  | later (win status : Nat)
  | start (win : Nat)
  deriving DecidableEq, Repr

def State.revokeTest (s : State) (key : Nat) (owner : Option Nat) : RevokeRes :=
  let i := keyIndex key
  let w := s.window i
  if i ≥ s.rd R.WIN_CFG_COUNT || keyGen key = 0 || !w.opened then .now csWindowKeyBad
  else if keyGen key ≠ w.gen || w.state ≠ wsOpen then
    if w.state = wsRevoking then .later i csWindowRevoked else .now csWindowRevoked
  else if owner.any fun k => k ≠ fkey w.hport w.func then .now csPermission
  else .start i

/-- A fired operation ends: its done counter is updated by FIRED_OP_END (13_counters_and_triggers.md Table 13.2). -/
def State.firedEnd (s : State) (dcnt : Option Nat) (status : Nat) : State :=
  { s with trg := { s.trg with ends := s.trg.ends ++ [{ dcnt := dcnt, status := status }] } }

/-- Tell the owner of a send operation its outcome. -/
def State.ownerDone (s : State) (o : Owner) (status len : Nat) : State :=
  match o with
  | .sq q x => s.descDone q x status len
  | .fired _ _ d => s.firedEnd d status
  | _ => s

/-- Tell one waiter of a revoke that it has completed. -/
def State.revokeTell (s : State) (r : RevokeWait) : State :=
  match r.who with
  | .sq q x => s.descDone q x r.status 0
  | .cmd n => s.finalReply n stOk (toBytes 1 r.status)
  | .expert => ((s.wr R.WIN_REV_STAT_BUSY 0).wr R.WIN_REV_STAT_DONE 1).wr R.WIN_REV_STAT_STATUS r.status
  | .quiesce => s
  | .send o st n => s.ownerDone o st n

/-- The completion of a revoke: COOLING, and its waiters learn it (R441). -/
def State.revokeDone (s : State) (i : Nat) : State :=
  let w := s.window i
  let s1 := s.setWindow i { w with state := wsCooling, freeGt := s.gt + s.effLifetime }
  let mine := s1.win.revokes.filter fun r => r.win = i
  let s2 : State := { s1 with win := { s1.win with
    revokes := s1.win.revokes.filter fun r => r.win ≠ i, slow := s1.win.slow.filter fun j => j ≠ i } }
  mine.foldl State.revokeTell s2

/-- A revoke whose admitted packets have all finished completes, after the mate's acknowledgement in STRICT mode. -/
def State.revokeFinish (s : State) (i : Nat) : State :=
  let w := s.window i
  let (g, s1) := s.mirror (.win i { w with state := wsCooling, freeGt := s.gt + s.effLifetime })
  s1.after g (.revokeDone i) (·.revokeDone i)

end Sys2Proof.Machine
end

