-- ==== Sys2Proof/Machine/CollBase.lean ====
section
/-! DEFINITION. Collective groups and the end of their instances (14_collectives.md R499 to R505, R533). -/

namespace Sys2Proof.Machine

def State.group (s : State) (g : Nat) : Group := tget {} s.coll.groups g
def State.setGroup (s : State) (g : Nat) (x : Group) : State := { s with coll := { s.coll with groups := tput {} s.coll.groups g x } }

/-- MASK of a dimension. -/
def GroupParams.mask (p : GroupParams) (d : Nat) : Nat :=
  match d with
  | 0 => p.mask0
  | 1 => p.mask1
  | 2 => p.mask2
  | _ => p.mask3

def GroupParams.includes (p : GroupParams) (d : Nat) : Bool := p.dimMask.testBit d

/-- Included dimensions, ascending. -/
def GroupParams.dims (p : GroupParams) : List Nat := [0, 1, 2, 3].filter p.includes

/-- Coordinates of a dimension's members, ascending. -/
def GroupParams.members (p : GroupParams) (d : Nat) : List Nat := (List.range 32).filter fun u => (p.mask d).testBit u

/-- N_d. -/
def GroupParams.count (p : GroupParams) (d : Nat) : Nat := (p.members d).length

/-- Positions of the group times LOCAL_CNT. -/
def GroupParams.total (p : GroupParams) : Nat := (p.dims.map p.count).foldl (· * ·) p.localCnt

/-- MiB that a group reserves (R504). -/
def GroupParams.mib (p : GroupParams) : Nat :=
  (p.depth * (p.dims.map p.count).foldl max 0 * p.maxBytes + 2 ^ 20 - 1) / 2 ^ 20

/-- Instance k uses slot k mod DEPTH of the group's staging (R504): the HBM offset at which the slot begins. -/
def State.stagingSlot (s : State) (g : Group) (k : Nat) : Nat :=
  s.regionBase 10 + g.base * 2 ^ 20 + k % g.p.depth * ((g.p.dims.map g.p.count).foldl max 0 * g.p.maxBytes)

/-- The line peers of a group: PIDs. -/
def State.groupPeers (s : State) (p : GroupParams) : List Nat :=
  p.dims.flatMap fun d => ((p.members d).filter fun u => u ≠ coord s.ownPid d).map fun u => withCoord s.ownPid d u

def Group.inst (g : Group) (k : Nat) : Option Inst := g.insts.find? fun i => i.k = k
def Group.setInst (g : Group) (x : Inst) : Group :=
  if g.insts.any fun i => i.k = x.k then { g with insts := g.insts.map fun i => if i.k = x.k then x else i }
  else { g with insts := g.insts ++ [x] }

/-- An instance every local contributor of which has come and is done is forgotten. -/
def Group.tidy (g : Group) : Group :=
  { g with insts := g.insts.filter fun i => !(i.k < g.oldest && i.ended.isSome && i.parts.length ≥ g.p.localCnt && i.parts.all LocalPart.done) }

/-- The oldest instance that has not ended, from `n` on. -/
def Group.nextOpen (g : Group) : Nat → Nat → Nat
  | 0, n => n
  | fuel + 1, n =>
    match g.inst n with
    | some i => if i.ended.isSome then g.nextOpen fuel (n + 1) else n
    | none => n

/-- A guard stays up until every copy of its launch has been granted: the launch is still to come, its phase is still to be staged, or a copy waits
(R527). -/
def State.guardNeeded (s : State) (l : LaunchId) : Bool :=
  let unsent := match (s.group l.gid).inst l.k with
    | some i => i.ended.isNone && !i.phase.any fun n => n ≥ l.phase
    | none => false
  s.coll.launches.any (fun x => x.id = l) || unsent || s.rout.unadmitted.any (fun u => u.launch = some l) ||
    s.inbuf.any fun kv => kv.2.pkts.any fun k => k.launch = some l && !k.granted

/-- The guards whose launches are over come down (R527). -/
def State.guardSweep (s : State) : State :=
  if s.rout.guards.isEmpty then s
  else { s with rout := { s.rout with guards := s.rout.guards.filter fun g => s.guardNeeded g.launch } }

/-- An instance ends with a status: each of its local contributors completes with it (R533). Copies staged for a launch still go out at its GT. -/
def State.instEnd (s : State) (gid k status : Nat) : State :=
  let g := s.group gid
  match g.inst k with
  | none => s
  | some i =>
    if i.ended.isSome then s
    else
      let open_ := i.parts.filter fun p => !p.done
      let parts := i.parts.map fun p => { p with done := true, data := none }
      let g1 := g.setInst { i with ended := some status, parts := parts, staged := [], mcasts := [], vec := [], segs := [] }
      let g2 := ({ g1 with oldest := g1.nextOpen 64 g1.oldest } : Group).tidy
      let s1 := s.setGroup gid g2
      let over_ := fun l : TimedLaunch => l.id.gid = gid && l.id.k = k && l.copies.isEmpty
      let s2 : State := { s1 with coll := { s1.coll with launches := s1.coll.launches.filter fun l => !over_ l } }
      open_.foldl (fun s p => s.ownerDone p.owner status p.landed) s2.guardSweep

/-- Every unfinished instance of a group ends with a status. -/
def State.instsEnd (s : State) (gid status : Nat) : State :=
  ((s.group gid).insts.map Inst.k).foldl (fun s k => s.instEnd gid k status) s

/-- A group becomes STALE (R505). -/
def State.groupStale (s : State) (gid : Nat) : State :=
  let g := s.group gid
  if !g.valid || g.stale then s
  else ((s.setGroup gid { g with stale := true }).wr R.COLL_EVENT_STALE 1).instsEnd gid csIndeterminate

/-- end_session acts on the context of a peer: groups that have it as a line peer become STALE (R505). -/
def State.groupsOfPeer (s : State) (pid : Nat) : State :=
  (s.coll.groups.filter fun kv => kv.2.valid && (s.groupPeers kv.2.p).contains pid).foldl (fun s kv => s.groupStale kv.1) s

/-- A quiesce of a function: its operations are abandoned, and the groups of its QPs become STALE (R505, Table 14.5). -/
def State.collQuiesce (s : State) (k : Nat) : State :=
  let mine := s.coll.groups.filter fun kv => kv.2.valid && (kv.2.p.lqps.take kv.2.p.localCnt).any fun q => s.qpOf q k
  let f := fun (s : State) (kv : Nat × Group) =>
    let g := s.group kv.1
    let drop := fun i : Inst => { i with parts := i.parts.map fun p => if s.qpOf p.q k then { p with done := true, data := none } else p }
    (s.setGroup kv.1 { g with insts := g.insts.map drop }).groupStale kv.1
  mine.foldl f s

end Sys2Proof.Machine
end

