-- ==== Sys2Proof/Machine/TptBase.lean ====
section
/-! DEFINITION. Transport contexts (11_transport_and_windows.md): caching, recording, acknowledgements, refusals and the forming of
transport packets. -/

namespace Sys2Proof.Machine

/-! ### Contexts (R400, R401) -/

def tcKey (set pid : Nat) : Nat := set * 2 ^ 20 + pid
def tcPid (k : Nat) : Nat := k % 2 ^ 20
def tcSide (k : Nat) : Nat := k / 2 ^ 20

def txNew : Nat := 0
def txHandshake : Nat := 1
def txOpen : Nat := 2
def txUnreachable : Nat := 3

def State.tc (s : State) (k : Nat) : Tc := tget {} s.tpt.tcs k
def State.setTc (s : State) (k : Nat) (t : Tc) : State := { s with tpt := { s.tpt with tcs := tput {} s.tpt.tcs k t } }
def State.modTc (s : State) (k : Nat) (f : Tc → Tc) : State := s.setTc k (f (s.tc k))

/-- The incarnation under which a position is served: the own one, or ADOPT_INC (15_pair_operation.md R555). -/
def State.incOf (s : State) (set : Nat) : Nat := if set = 0 then s.nv.inc else s.rd R.PAIR_INC_ADOPT_INC
/-- The PID served with a set of contexts. -/
def State.pidOf (s : State) (set : Nat) : Nat := if set = 0 then s.ownPid else s.matePid

/-- A context is used: it is loaded where it is not cached, and the least recently used one makes room (R401). -/
def State.touchTc (s : State) (k : Nat) : State :=
  if s.tpt.cache.contains k then { s with tpt := { s.tpt with cache := k :: s.tpt.cache.erase k } }
  else
    let full := s.tpt.cache.length ≥ 32768
    let keep := if full then s.tpt.cache.dropLast else s.tpt.cache
    ((({ s with tpt := { s.tpt with cache := k :: keep } } : State).bump C.TPT_TC_MISS).hbmRd 256).whenB full fun s =>
      (s.bump C.TPT_TC_EVICT).hbmWr 256

/-- Packets are formed in this Geyser state (06_timebase.md Table 6.4). -/
def State.canForm (s : State) : Bool := s.geysState ≠ gsInvalid

/-- Difference of sequence numbers modulo 2^32. -/
def seqSub (a b : Nat) : Nat := idxSub a b

/-- Packets of the transport that ask (R31, section on checks): every type that is not an answer. -/
def isTransportRequest (t : Nat) : Bool :=
  t = ptWriteReq || t = ptReadReq || t = ptSendEager || t = ptSendRts || t = ptRndvDone || t = ptHello

/-- Types whose SEQ holds a sequence number (Table 3.3). -/
def takesSeq (t : Nat) : Bool := t = ptWriteReq || t = ptReadReq || t = ptSendEager || t = ptSendRts || t = ptRndvDone

/-- OPID of a packet by its extension layout (Table 3.4). -/
def pktOpid (head ext : Flit) : Nat :=
  let t := hPtype head
  if t = ptSendEager || t = ptSendRts then xSendOpid ext.toNat
  else if t = ptHello || t = ptHelloResp then 0
  else xOpid ext.toNat

/-- The extension flit of a packet. -/
def pktExtFlit (p : List Flit) : Flit := BitVec.ofNat 256 (pktExt p)

/-! ### Answers -/

/-- Header of an answer of the receive side to the peer of a context. -/
def State.answerHdr (s : State) (k ptype dinc : Nat) : Hdr :=
  { ptype := ptype, ext := true, plen := 0, dpid := tcPid k, spid := s.pidOf (tcSide k), dinc := dinc,
    sinc := s.incOf (tcSide k) % 2 ^ 16, birth := s.gt % 2 ^ 40, vc := 3 }

/-- CUMACK and SACK of a context (R412). -/
def Tc.sack (t : Tc) : Nat := t.rxBitmap / 2 % 2 ^ 64

/-- Send an ACK from receive pipeline `e`; none is formed in INVALID (R408, R412). -/
def State.sendAck (s : State) (k e : Nat) : State :=
  if !s.canForm then s
  else
    let t := s.tc k
    let p := formPacket (s.answerHdr k ptAck (t.peerInc % 2 ^ 16)) (some (extAck t.rxExpected t.sack 0 0 0)) []
    ((s.setTc k { t with ackCnt := 0 }).inject e 3 p).bump C.TPT_ACK_TX

/-- Refuse a packet with a NACK (R407, R412, R413). -/
def State.sendNack (s : State) (k : Nat) (head ext : Flit) (e code : Nat) : State :=
  if !s.canForm then s
  else
    let t := s.tc k
    let h : Hdr := { s.answerHdr k ptNack (hSinc head) with
      job := hJob head, dhport := hShport head, dfunc := hSfunc head, dqidx := hSqidx head
      shport := hDhport head, sfunc := hDfunc head, sqidx := hDqidx head }
    (s.inject e 3 (formPacket h (some (extAck t.rxExpected t.sack (hSeq head) code (pktOpid head ext))) [])).bump C.TPT_NACK_TX

/-- Drop the recorded numbers at the front of the bitmap (R410). -/
def Tc.shift : Nat → Tc → Tc
  | 0, t => t
  | n + 1, t =>
    if t.rxBitmap % 2 = 1 then { t with rxBitmap := t.rxBitmap / 2, rxExpected := idxAdd t.rxExpected 1 }.shift n else t

/-- A receive pipeline holds a packet from a peer. -/
def State.holdsFrom (s : State) (e pid : Nat) : Bool := (s.rx e).any fun p => hSpid (p.headD 0) = pid

/-- Recordings are unacknowledged and the pipeline holds no further packet from the peer: an ACK goes out (R412). -/
def State.ackIdle (s : State) (k e : Nat) : State :=
  if (s.tc k).ackCnt ≠ 0 && !s.holdsFrom e (tcPid k) then s.sendAck k e else s

/-- Record a packet that has reached its final outcome, send what answers it, and acknowledge as R412 states (R410). A packet that is not in
progress has been recorded before, or was sent by an incarnation that has ended since: only its answer goes out. -/
def State.recordWith (s : State) (k seq e : Nat) (answer : State → State) : State :=
  let t := s.tc k
  let off := seqSub seq t.rxExpected
  let t0 := { t with inProg := t.inProg.erase seq }
  if !t.inProg.contains seq || off ≥ 1024 || t.rxBitmap.testBit off then answer (s.setTc k t0)
  else
    let t1 := ({ t0 with rxBitmap := t0.rxBitmap ||| 2 ^ off, ackCnt := t0.ackCnt + 1 }).shift 1024
    let s1 := answer (s.setTc k t1)
    if t1.ackCnt ≥ s.rd R.TPT_ACK_ACK_EVERY || off ≠ 0 || !s.holdsFrom e (tcPid k) then s1.sendAck k e else s1

/-- Record a packet whose outcome sends nothing of its own. -/
def State.recordSeq (s : State) (k seq e : Nat) : State := s.recordWith k seq e id

/-- A packet leaves without being recorded: a retry, or a discard. -/
def State.unrecorded (s : State) (k seq : Nat) : State := s.modTc k fun t => { t with inProg := t.inProg.erase seq }

/-- A final NACK: recorded, and sent at once, before an ACK that covers it (R413). -/
def State.refuseFinal (s : State) (k : Nat) (head ext : Flit) (e code : Nat) : State :=
  s.recordWith k (hSeq head) e (·.sendNack k head ext e code)

/-- A retry NACK: not recorded (R413). -/
def State.refuseRetry (s : State) (k : Nat) (head ext : Flit) (e : Nat) : State :=
  (s.unrecorded k (hSeq head)).sendNack k head ext e nakRetry

/-- Record a send packet, with the final NACK it is refused with, where it is. -/
def State.recordSend (s : State) (k : Nat) (head ext : Flit) (e : Nat) (nak : Option Nat) : State :=
  match nak with
  | none => s.recordSeq k (hSeq head) e
  | some c => s.refuseFinal k head ext e c

/-! ### Operations -/

def State.op (s : State) (o : Nat) : Option XOp := tget none s.tpt.ops o
def State.setOp (s : State) (o : Nat) (x : Option XOp) : State := { s with tpt := { s.tpt with ops := tput none s.tpt.ops o x } }
def State.modOp (s : State) (o : Nat) (f : XOp → XOp) : State :=
  match s.op o with
  | some x => s.setOp o (some (f x))
  | none => s

/-- A new operation takes the next number. -/
def State.newOp (s : State) (x : XOp) : Nat × State :=
  let n := s.tpt.opNo
  (n, ({ s with tpt := { s.tpt with opNo := n + 1 } } : State).setOp n (some x))

/-- Packets an operation is carried in (R427, R452). -/
def XOp.count (o : XOp) : Nat :=
  match o.kind with
  | .write | .read => (o.len + 4095) / 4096
  | .eager => max 1 ((o.len + 4095) / 4096)
  | .rts | .rndvDone => 1

/-- Bytes of packet `j`. -/
def XOp.share (o : XOp) (j : Nat) : Nat := min o.len (4096 * (j + 1)) - 4096 * j

/-- A packet's type. -/
def OpKind.ptype : OpKind → Nat
  | .write => ptWriteReq
  | .read => ptReadReq
  | .eager => ptSendEager
  | .rts => ptSendRts
  | .rndvDone => ptRndvDone

/-- Payload bytes a packet carries. -/
def XOp.payload (o : XOp) (j : Nat) : Nat :=
  match o.kind with
  | .write | .eager => o.share j
  | _ => 0

/-- The extension of packet `j` (Table 3.4). -/
def XOp.ext (o : XOp) (j opid : Nat) : Nat :=
  match o.kind with
  | .write => extRma o.wkey (o.woff + 4096 * j) o.len (4096 * j) opid 0
  | .read => extRma o.wkey (o.woff + 4096 * j) o.len (4096 * j) opid (o.share j)
  | .eager => extSend o.comm o.srank o.tag o.len (4096 * j) opid 0
  | .rts => extSend o.comm o.srank o.tag o.len o.wkey opid o.woff
  | .rndvDone => extResp o.len 0 o.sendOpid o.result

/-- The header of packet `j` with a sequence number. -/
def State.opHdr (s : State) (o : XOp) (j seq vc : Nat) : Hdr :=
  let x := s.qp o.q
  let t := s.tc o.tc
  { ptype := o.kind.ptype, ext := true, plen := o.payload j, first := j = 0, last := j + 1 = o.count, dpid := tcPid o.tc,
    spid := s.pidOf (tcSide o.tc), dinc := t.peerInc % 2 ^ 16, sinc := s.incOf (tcSide o.tc) % 2 ^ 16, seq := seq
    birth := s.gt % 2 ^ 40, job := o.job, vc := vc, dhport := o.dhport, dfunc := o.dfunc, dqidx := o.dqidx
    shport := x.p.hport, sfunc := x.p.func, sqidx := o.q }

/-- A filler for a sequence number (R406). -/
def State.fillerPkt (s : State) (k seq : Nat) : List Flit :=
  let t := s.tc k
  formPacket {
    ptype := ptReadReq, ext := true, plen := 0, dpid := tcPid k, spid := s.pidOf (tcSide k), dinc := t.peerInc % 2 ^ 16
    sinc := s.incOf (tcSide k) % 2 ^ 16, seq := seq, birth := s.gt % 2 ^ 40, vc := 0 } (some (extRma 0 0 0 0 0xFFFFFF 1)) []

/-- The transmit engine of a QP and its endpoint port; which engine serves a QP is the model's choice (log 25). -/
def engineOf (q : Nat) : Nat := q % 24
def portOf (q : Nat) : Nat := engineOf q % 10

/-- Sequence numbers assigned to a context within the effective lifetime (02_grid_and_addressing.md R90). -/
def State.assignedLately (s : State) (t : Tc) : Nat :=
  ((t.assigned.filter fun a => s.gt < a.1 + s.effLifetime).map Prod.snd).sum

/-- Why an engine waits before it assigns a sequence number (R403). -/
def State.mayAssign (s : State) (k : Nat) : Bool :=
  let t := s.tc k
  t.txState = txOpen && seqSub t.txNext t.txUna < 1024 && s.assignedLately t < 2 ^ 30

/-- TX_NEXT is assigned to a packet. -/
def State.assignSeq (s : State) (k : Nat) : Nat × State :=
  let t := s.tc k
  let live := t.assigned.filter fun a => s.gt < a.1 + s.effLifetime
  let l := match live with
    | (g, n) :: r => if g = s.gt then (g, n + 1) :: r else (s.gt, 1) :: live
    | [] => [(s.gt, 1)]
  (t.txNext, s.setTc k { t with txNext := idxAdd t.txNext 1, assigned := l })

/-- NEXT_OPID advances; 0xFF_FFFF is skipped (R404). -/
def State.assignOpid (s : State) (k : Nat) : Nat × State :=
  let t := s.tc k
  let n := (t.nextOpid + 1) % 2 ^ 24
  (t.nextOpid, s.setTc k { t with nextOpid := if n = 0xFFFFFF then 0 else n })

/-- TX_UNA after acknowledgements: the oldest number not acknowledged, or TX_NEXT (R415). -/
def Tc.advance (t : Tc) : Tc :=
  let open_ := (t.awaits.filter fun a => !a.acked).map fun a => seqSub a.seq t.txUna
  match open_ with
  | [] => { t with txUna := t.txNext }
  | d :: ds => { t with txUna := idxAdd t.txUna (ds.foldl min d) }

/-- The packet is awaited (R415): not done, and not acknowledged unless its READ_RESP is still to land. -/
def Await.awaited (a : Await) : Bool := !a.landed && (!a.acked || (hPtype a.head = ptReadReq && !a.filler))

/-- Packets that are done and acknowledged are forgotten. -/
def Tc.prune (t : Tc) : Tc := { t with awaits := t.awaits.filter fun a => a.awaited || !a.acked }

/-- Progress restarts the timers (R415, R416). -/
def Tc.progress (t : Tc) : Tc := { t with rtoExp := 0 }

end Sys2Proof.Machine
end

