-- ==== Sys2Proof/Machine/MatOps.lean ====
section
/-! DEFINITION. Message matching (12_message_matching.md): receives, messages, the Mire, binding and finishing. -/

namespace Sys2Proof.Machine

/-! Fields of a RECV descriptor (Table 12.1). -/
def Recv.src (r : Recv) : Nat := field r.desc 128 24
def Recv.anySrc (r : Recv) : Bool := field r.desc 152 1 = 1
def Recv.len (r : Recv) : Nat := field r.desc 160 32
def Recv.laddr (r : Recv) : Nat := field r.desc 192 64
def Recv.tag (r : Recv) : Nat := field r.desc 256 64
def Recv.ignore (r : Recv) : Nat := field r.desc 320 64
def Recv.comm (r : Recv) : Nat := field r.desc 384 24
def Recv.exact (r : Recv) : Bool := !r.anySrc && r.ignore = 0

/-- matches(m, r) of R449. -/
def Recv.takes (r : Recv) (comm srank tag : Nat) : Bool :=
  comm = r.comm && (r.anySrc || srank = r.src) && ((tag ^^^ r.tag) &&& (2 ^ 64 - 1 - r.ignore)) = 0

/-- The receive with the lowest post sequence of a list. -/
def earliest (l : List Recv) : Option Recv :=
  l.foldl (fun b r => match b with
    | some a => if r.post < a.post then some r else some a
    | none => some r) none

/-- The receive a first packet takes, by the rules of R459: the earlier of the earliest exact and the earliest wildcard candidate;
how many entries were examined, and whether a wildcard outranked an exact receive. -/
def pickRecv (posted : List Recv) (comm srank tag : Nat) : Option Recv × Nat × Bool :=
  let e := earliest (posted.filter fun r => r.exact && r.takes comm srank tag)
  let ws := posted.filter fun r => !r.exact
  let w := earliest (ws.filter fun r => r.takes comm srank tag)
  let n := bNat e.isSome + (match ws.findIdx? (fun r => r.takes comm srank tag) with
    | some i => i + 1
    | none => ws.length)
  match e, w with
  | some a, some b => if a.post < b.post then (some a, n, false) else (some b, n, true)
  | some a, none => (some a, n, false)
  | none, some b => (some b, n, false)
  | none, none => (none, n, false)

/-! ### The Mire (R469, R470) -/

def State.mireHdrs (s : State) : Nat := s.regionSize 8 / 16 / 64
def State.mireBlocks (s : State) : Nat := s.regionSize 8 / 16 * 15 / 4096
def State.mireHdrUsed (s : State) : Nat := (s.host.qps.map fun kv => (kv.2.msgs.map Msg.hdrs).sum).sum
def State.mireBlkUsed (s : State) : Nat := (s.host.qps.map fun kv => (kv.2.msgs.map Msg.blocks).sum).sum + s.mat.reorder.length +
    (s.mat.stage.filter SendPkt.parked).length

/-- Room for header entries and blocks. -/
def State.mireRoom (s : State) (hdrs blocks : Nat) : Bool :=
  s.mireHdrUsed + hdrs ≤ s.mireHdrs && s.mireBlkUsed + blocks ≤ s.mireBlocks

/-- The Mire or the reorder entries are exhausted: the MAT sources follow (Table 12.3). -/
def State.mireFull (s : State) : State := (s.cond pgMat 0 true).bump C.MAT_MIRE_FULL_REFUSED
def State.mireEased (s : State) : State := (s.cond pgMat 0 (!s.mireRoom 1 1)).cond pgMat 1 (s.mat.reorder.length ≥ 4096)

/-- Bytes the rate bucket holds now: it fills at MIRE_RATE GB/s, five eighths of a byte per cycle and GB/s, up to 1 MiB. -/
def State.mireBucket (s : State) : Nat :=
  min 1048576 (s.mat.bucket + (s.time.cycles - s.mat.bucketAt) * s.rd R.MAT_MIRE_RATE_RATE * 5 / 8)

/-- The bucket's figure is taken before MIRE_RATE changes: the time up to now has filled it at the old rate (R470). -/
def State.mireSettle (s : State) : State := { s with mat := { s.mat with bucket := s.mireBucket, bucketAt := s.time.cycles } }

/-- Take bytes from the bucket for a payload write. -/
def State.mireTake (s : State) (n : Nat) : State :=
  (({ s with mat := { s.mat with bucket := s.mireBucket - n, bucketAt := s.time.cycles } } : State).hbmWr n).bump C.MAT_MIRE_BYTES_IN 0 n

/-! ### Messages -/

/-- Packets of an eager message (R452). -/
def Msg.count (m : Msg) : Nat := if m.kind = .rts then 1 else max 1 ((m.mlen + 4095) / 4096)
def Msg.allOutcomes (m : Msg) : Bool := m.outcomes.length ≥ m.count
/-- The message is the live one of a sender and an OPID; a DEAD entry is none (R460). -/
def Msg.is (m : Msg) (tc opid : Nat) : Bool := m.tc = tc && m.opid = opid && m.kind ≠ .dead
def Msg.open_ (m : Msg) : Bool := m.bound.isNone

def State.findMsg (s : State) (q tc opid : Nat) : Option Msg := (s.qp q).msgs.find? fun m => m.is tc opid
def State.setMsg (s : State) (q : Nat) (m : Msg) : State :=
  s.modQp q fun x => { x with msgs := x.msgs.map fun y => if y.is m.tc m.opid then m else y }
def State.dropMsg (s : State) (q : Nat) (m : Msg) : State :=
  (s.modQp q fun x => { x with msgs := if m.kind = .dead then x.msgs.erase m else x.msgs.filter fun y => !y.is m.tc m.opid }).mireEased
def State.addMsg (s : State) (q : Nat) (m : Msg) : State := s.modQp q fun x => { x with msgs := x.msgs ++ [m] }

/-- Entries of the unexpected list, DEAD ones among them (Table 12.3). -/
def Qp.unexpected (x : Qp) : Nat := (x.msgs.filter Msg.open_).length

/-- Posted-receive entries in use and their number (Tables 1.8 and 2.3). -/
def State.prqUsed (s : State) : Nat := (s.host.qps.map fun kv => kv.2.posted.length).sum
def State.prqSize (s : State) : Nat := s.regionSize 6 / 64

/-- A receive finishes: its RECV entry becomes ready, and a rendezvous queues its RNDV_DONE (R465, R467). -/
def State.recvFinish (s : State) (q : Nat) (m : Msg) (r : Recv) (status : Nat) : State :=
  let s0 := s.whenB (status = csTruncated) (·.bump C.MAT_TRUNCATIONS)
  let s1 :=
    if m.kind = .rts then
      let op : XOp := {
        owner := .done q, kind := .rndvDone, q := q, tc := m.tc, dhport := m.shport, dfunc := m.sfunc, dqidx := m.sqidx, job := m.job
        len := m.landed, sendOpid := m.opid, result := if status = csTruncated then csOk else status, gate := m.gate }
      ((s0.newOp op).2).bump C.MAT_DONE_TX
    else s0
  let e : CqEntry := {
    userId := dUser r.desc, status := status, kind := 1, srank := m.srank, len := m.landed, aux := r.idx, tag := m.tag }
  s1.modQp q fun x => { x with ready := x.ready ++ [e] }

/-- The status with which the receive `r` of a bound message finishes now, where R465 says so. -/
def Msg.verdict (m : Msg) (r : Recv) : Option Nat :=
  let full := m.landed ≥ min m.mlen r.len && m.stored.isEmpty
  if m.finished then none
  else if m.status ≠ csOk then (if m.allOutcomes then some m.status else none)
  else if m.kind = .eager && full then some (if m.mlen > r.len then csTruncated else csOk)
  else none

/-- Finish a bound message's receive when R465 says so, and forget the message when every packet has had its outcome. -/
def State.msgSettle (s : State) (q : Nat) (m : Msg) : State :=
  match m.bound with
  | none => s.setMsg q m
  | some r =>
    match m.verdict r with
    | some st =>
      let m' := { m with finished := true, hdrs := 0, blocks := 0 }
      let s1 := s.recvFinish q m' r st
      if m'.allOutcomes then s1.dropMsg q m' else s1.setMsg q m'
    | none => if m.finished && m.allOutcomes then s.dropMsg q m else s.setMsg q m

/-- The reads of a rendezvous start, as an operation of the receiving QP (R466). -/
def State.rndvStart (s : State) (q : Nat) (m : Msg) (r : Recv) : State :=
  let n := min m.mlen r.len
  let s0 := s.bump C.MAT_RNDV_STARTED
  if n = 0 then
    let st := if m.mlen > r.len then csTruncated else csOk
    (s0.recvFinish q m r st).dropMsg q m
  else
    let op : XOp := {
      owner := .rndv q r.post, kind := .read, q := q, tc := m.tc, dhport := m.shport, dfunc := m.sfunc, dqidx := m.sqidx, job := m.job
      len := n, laddr := r.laddr, wkey := m.rvkey, woff := m.rvoff, gate := m.gate }
    ((s0.newOp op).2.setMsg q { m with reading := true, hdrs := 0 }).mireEased

/-- The reads of a rendezvous end: the receive finishes with their status, or OK, or TRUNCATED (R465, R466). -/
def State.rndvEnd (s : State) (q post status bytes : Nat) : State :=
  let hit := (s.qp q).msgs.find? fun m => match m.bound with
    | some r => r.post = post
    | none => false
  match hit with
  | none => s
  | some m =>
    match m.bound with
    | none => s
    | some r =>
      let m' := { m with landed := bytes }
      let st := if status ≠ csOk then status else if m.mlen > r.len then csTruncated else csOk
      (s.recvFinish q m' r st).dropMsg q m'

/-- bind(m, r): the message has its receive; what follows depends on its kind (Table 12.2). -/
def State.bindMsg (s : State) (q : Nat) (m : Msg) (r : Recv) : State :=
  let x := s.qp q
  let (g, s1) := s.mirror (.match_ x.p.hport x.p.func q r.post (tcPid m.tc) m.opid)
  let m' := { m with bound := some r, gate := g }
  match m.kind with
  | .eager => s1.setMsg q m'
  | .rts => s1.rndvStart q m' r
  | .converting => s1.setMsg q m'
  | .dead => (s1.recvFinish q { m' with landed := 0, kind := .eager } r csIndeterminate).dropMsg q m

/-- post(q, r) of R459: bind it to the earliest unexpected message it matches, post it, or hold it. -/
def State.postRecv (s : State) (q : Nat) (r : Recv) : State :=
  let x := s.qp q
  let un := x.msgs.filter Msg.open_
  match un.findIdx? fun m => r.takes m.comm m.srank m.tag with
  | some i =>
    match un[i]? with
    | some m =>
      let s1 := (s.bump C.MAT_ENTRIES_EXAMINED 0 (i + 1)).bump C.MAT_MATCH_UNEXP
      (s1.mirrorNote (.post x.p.hport x.p.func q r.idx r.post r.desc)).bindMsg q m r
    | none => s
  | none =>
    let s1 := s.bump C.MAT_ENTRIES_EXAMINED 0 un.length
    if s1.prqUsed ≥ s1.prqSize then
      if (s1.qp q).prqHeld.isSome then s1
      else
        let s2 := ((s1.modQp q fun y => { y with prqHeld := some r }).bump C.MAT_PRQ_HOLDS).cond pgMat 2 true q
        s2.qpEvent q evPrqFull s2.prqUsed
    else
      let s2 := s1.modQp q fun y => { y with posted := y.posted ++ [r], prqHeld := none }
      s2.mirrorNote (.post x.p.hport x.p.func q r.idx r.post r.desc)

/-- end_session reaches the messages of a peer: unexpected ones become DEAD, and a bound receive that waits on an incomplete one
completes INDETERMINATE; a bound message all of whose packets are here goes on being copied (Table 12.3). The reads of a rendezvous end with the
operations of the session (R423). -/
def State.msgsDead (s : State) (k : Nat) : State :=
  s.host.qps.foldl (fun s kv =>
    let q := kv.1
    kv.2.msgs.foldl (fun s m =>
      if m.tc ≠ k then s
      else match m.bound with
        | none => if m.kind = .dead then s else s.setMsg q { m with kind := .dead, stored := [] }
        | some r =>
          if m.kind = .rts || (m.allOutcomes && !m.finished) then s
          else if m.finished then s.dropMsg q m
          else (s.recvFinish q { m with kind := .eager } r csIndeterminate).dropMsg q m) s) s

/-- Reorder entries of a peer whose numbers lie below RX_EXPECTED are discarded without outcome, and their messages become DEAD
(Table 12.3). -/
def State.reorderSweep (s : State) (k : Nat) : State :=
  let t := s.tc k
  let gone := fun p : SendPkt => p.tc = k && seqSub (hSeq (p.pkt.headD 0)) t.rxExpected ≥ 2 ^ 31
  let dead := s.mat.reorder.filter gone
  let s1 : State := { s with mat := { s.mat with reorder := s.mat.reorder.filter fun p => !gone p } }
  let mark := fun (s : State) (p : SendPkt) =>
    let h := p.pkt.headD 0
    let s' := (s.bump C.MAT_DEAD_DISCARD).unrecorded k (hSeq h)
    match s'.findMsg (hDqidx h) k (pktOpid h (pktExtFlit p.pkt)) with
    | some m =>
      match m.bound with
      | none => s'.setMsg (hDqidx h) { m with kind := .dead, stored := [] }
      | some r =>
        if m.finished then s'.dropMsg (hDqidx h) m
        else (s'.recvFinish (hDqidx h) { m with kind := .eager } r csIndeterminate).dropMsg (hDqidx h) m
    | none => s'
  dead.foldl mark s1

end Sys2Proof.Machine
end

