-- ==== Sys2Proof/Machine/TptOps.lean ====
section
/-! DEFINITION. The life of transport operations and sessions (11_transport_and_windows.md R415 to R425, R429; 12_message_matching.md
R453, R455, R468, R473). -/

namespace Sys2Proof.Machine

/-- Packets of operation `o` are not done. -/
def State.opOut (s : State) (o : Nat) (x : XOp) : Bool := (s.tc x.tc).awaits.any fun a => a.op = some o

/-- The awaited packets of an operation that is over keep their numbers, with nothing to form but a filler (R406). -/
def State.orphan (s : State) (k o : Nat) : State :=
  let f := fun a : Await => if a.op = some o then { a with op := none, filler := true, parked := false } else a
  s.modTc k fun t => { t with awaits := t.awaits.map f }

/-- Revoke the window the device opened for a send; the send's completion follows the revoke (R455). -/
def State.sendRevoke (s : State) (key : Nat) (owner : Owner) (status len : Nat) : State :=
  match s.revokeTest key none with
  | .start i => (s.revokeStart i).awaitRevoke i (.send owner status len) csOk
  | .later i _ => s.awaitRevoke i (.send owner status len) csOk
  | .now _ => s.ownerDone owner status len

/-- Operation `o` is over, with its status and LEN. -/
def State.opEnd (s : State) (o : Nat) (x : XOp) (status : Nat) : State :=
  let s1 := (s.setOp o none).orphan x.tc o
  match x.owner with
  | .rndv q post => s1.rndvEnd q post status x.bytes
  | .done _ => s1
  | w => match x.ownKey with
    | some k => s1.sendRevoke k w status x.bytes
    | none => s1.ownerDone w status x.bytes

/-- An operation completes when none of its packets is awaited and none is still to be formed (R429, R455). -/
def State.opCheck (s : State) (o : Nat) : State :=
  match s.op o with
  | none => s
  | some x =>
    if s.opOut o x then s
    else if x.kind = .rts then (if x.status ≠ csOk && !x.rtsSent && !x.converted then s.opEnd o x x.status else s)
    else if x.status ≠ csOk || x.next ≥ x.count then s.opEnd o x x.status
    else s

/-- The first outcome that is not OK is the operation's (R429). -/
def XOp.noteStatus (x : XOp) (status : Nat) : XOp := if x.status = csOk then { x with status := status } else x

/-- An operation forms nothing further: an RTS that has not been sent never is. -/
def XOp.cutOff (x : XOp) : XOp := if x.kind = .rts && !x.rtsSent then { x with kind := .eager } else x

/-- An operation takes a status without a packet's answer. -/
def State.opFail (s : State) (o status : Nat) : State := (s.modOp o fun x => (x.noteStatus status).cutOff).opCheck o

/-- Open the window of a rendezvous send, or keep it waiting for a free index (R453). -/
def State.rtsSetup (s : State) (o : Nat) (x : XOp) : State :=
  if x.convKey ≠ 0 then s.setOp o (some { x with wkey := x.convKey, woff := x.convOff })
  else if x.len = 0 then s.setOp o (some { x with wkey := 0, woff := 0 })
  else
    let y := s.qp x.q
    let w : WinEntry := {
      permRead := true, scopePid := true, hport := y.p.hport, func := y.p.func, ctx := y.p.ctx, job := x.job
      peerPid := tcPid x.tc, base := x.laddr, length := x.len }
    if !s.windowRanges w then (s.setOp o (some x)).opFail o csXltLocal
    else
      match s.freeWindow with
      | none => (s.setOp o (some { x with winWait := true })).bump C.MAT_RNDV_WAIT
      | some i =>
        let (key, g, s1) := s.openWindow i w
        s1.setOp o (some { x with wkey := key, woff := 0, ownKey := some key, winWait := false, gate := if g.isSome then g else x.gate })

/-- EAGER_TO_RNDV: an eager send refused with TRUNCATED goes on as a rendezvous, whatever another of its packets has come to: it completes as a
rendezvous send does, with the first outcome that is not OK (R455, R473). -/
def State.eagerToRndv (s : State) (o : Nat) (x : XOp) : State :=
  let y := { x with kind := .rts, converted := true, next := 0, ahead := [], bytes := 0, rtsSent := false }
  s.rtsSetup o y

/-- The await of a sequence number. -/
def State.awaitOf (s : State) (k seq : Nat) : Option Await := (s.tc k).awaits.find? fun a => a.seq = seq

def State.modAwait (s : State) (k seq : Nat) (f : Await → Await) : State :=
  s.modTc k fun t => { t with awaits := t.awaits.map fun a => if a.seq = seq then f a else a }

/-- A packet is done with an outcome: the operation it belongs to learns it (R415, R429, R455, R473). -/
def State.packetDone (s : State) (k : Nat) (a : Await) (status : Nat) : State :=
  let s1 := s.modAwait k a.seq fun b => { b with op := none }
  match a.op with
  | none => s1
  | some o =>
    match s1.op o with
    | none => s1
    | some x =>
      let t := hPtype a.head
      if status = csOk then
        let n := if t = ptReadReq then xRlen a.ext.toNat else hPlen a.head
        let y := if x.kind = .rts then x else { x with bytes := x.bytes + n }
        (s1.setOp o (some y)).opCheck o
      else if status = csTruncated && t = ptSendEager then
        if x.kind = .eager then s1.eagerToRndv o x else s1
      else
        let y := x.noteStatus status
        if t = ptSendRts then s1.opEnd o y y.status else (s1.setOp o (some y)).opCheck o

/-- A packet is done with a status, and a filler takes its sequence number (R417, R418). -/
def State.packetFill (s : State) (k : Nat) (a : Await) (status : Nat) : State :=
  (s.modAwait k a.seq fun b => { b with filler := true, parked := false }).packetDone k { a with seq := a.seq } status

/-- Apply CUMACK and SACK of an acknowledgement to one packet (R415). -/
def ackCovers (cum sack seq : Nat) : Bool :=
  let d := seqSub cum seq
  (1 ≤ d && d < 2 ^ 31) || (seqSub seq (cum + 1) < 64 && sack.testBit (seqSub seq (cum + 1)))

/-- acked(s) for every packet an acknowledgement covers; TX_UNA advances, and an advance is progress (R415). -/
def State.tptAck (s : State) (k cum sack : Nat) : State :=
  let t := s.tc k
  let hit := t.awaits.filter fun a => !a.acked && ackCovers cum sack a.seq
  let f := fun a : Await => if ackCovers cum sack a.seq then { a with acked := true } else a
  let t1 := ({ t with awaits := t.awaits.map f } : Tc).advance
  let s1 := s.setTc k (if t1.txUna = t.txUna then t1 else t1.progress)
  let done := hit.filter fun a => a.filler || hPtype a.head ≠ ptReadReq
  (done.foldl (fun s a => s.packetDone k a csOk) s1).modTc k Tc.prune

/-- One refusal of a packet by a NACK that is not STALE_INCARNATION (R415, R417). -/
def State.tptNack (s : State) (k : Nat) (a : Await) (code : Nat) : State :=
  if code = nakRetry || code = csLifetime then
    if a.filler then s
    else
      let life := code = csLifetime
      let s1 := s.modAwait k a.seq fun b => { b with retries := b.retries + 1, lastLife := life }
      if a.retries + 1 ≥ s.rd R.TPT_ACK_RETRY_BUDGET then s1.packetFill k a (if life then csLifetime else csBusyRetry) else s1
  else
    let t := s.tc k
    let f := fun b : Await => if b.seq = a.seq then { b with acked := true, landed := true } else b
    let t1 := ({ t with awaits := t.awaits.map f } : Tc).advance.progress
    ((s.setTc k t1).packetDone k a code).modTc k Tc.prune

/-- The OPID a NACK of an awaited packet names. -/
def Await.opid (a : Await) : Nat := if a.filler then 0xFFFFFF else pktOpid a.head a.ext

/-- Every operation with the peer that meets a test ends with a status, whatever outcome a packet of it has had (R419, R423, R429). -/
def State.endOps (s : State) (k : Nat) (f : Nat → XOp → Bool) (status : Nat) : State :=
  let hit := s.tpt.ops.filterMap fun kv => match kv.2 with
    | some x => if x.tc = k && f kv.1 x then some kv.1 else none
    | none => none
  hit.foldl (fun s o => match s.op o with
    | some x => s.opEnd o { x with status := status } status
    | none => s) s

/-- Empty the awaited set; TX_UNA becomes TX_NEXT (R419, R423). -/
def State.dropAwaits (s : State) (k : Nat) : State := s.modTc k fun t => { t with awaits := [], txUna := t.txNext }

/-- The operation is the reads of a rendezvous. -/
def XOp.isRndv (x : XOp) : Bool :=
  match x.owner with
  | .rndv _ _ => true
  | _ => false

/-- end_session (R423, R505): operations that have sent packets, and the reads of rendezvous, whose receives wait on the peer (12_message_matching.md
Table 12.3), end INDETERMINATE. -/
def State.endSession (s : State) (k : Nat) : State :=
  let s1 := s.endOps k (fun _ x => x.opid.isSome || x.isRndv) csIndeterminate
  let s2 := (s1.dropAwaits k).modTc k fun t => { t with txState := txHandshake, helloOut := false }
  let s3 := s2.msgsDead k
  if tcSide k = 0 then s3.groupsOfPeer (tcPid k) else s3

/-- The give-up timer reaches TC_GIVEUP (R419). -/
def State.giveUp (s : State) (k : Nat) : State :=
  let s1 := s.endOps k (fun o x => s.opOut o x || (x.kind = .rts && x.rtsSent)) csPeerUnreachable
  let s2 := (s1.dropAwaits k).modTc k fun t => { t with txState := txUnreachable, helloOut := false }
  (s2.bump C.TPT_GIVEUPS).raise pgTpt 0 (tcPid k)

/-- A context in UNREACHABLE is NEW again (R419). -/
def State.reachable (s : State) (k : Nat) : State :=
  if (s.tc k).txState = txUnreachable then s.modTc k fun t => { t with txState := txNew } else s

/-- The endpoint port a context's HELLO and the fillers of no operation leave on (log 25). -/
def tcPort (k : Nat) : Nat := tcPid k % 10

/-- Form a HELLO (R420). -/
def State.sendHello (s : State) (k : Nat) : State :=
  let t := s.tc k
  let h : Hdr := {
    ptype := ptHello, ext := true, plen := 0, dpid := tcPid k, spid := s.pidOf (tcSide k)
    dinc := if t.known then t.peerInc % 2 ^ 16 else 0, sinc := s.incOf (tcSide k) % 2 ^ 16, birth := s.gt % 2 ^ 40, vc := 0 }
  let p := formPacket h (some (extHello (s.incOf (tcSide k)) t.txNext)) []
  let s1 := s.setTc k { t with txState := txHandshake, helloOut := true }
  (s1.inject (tcPort k) 0 p).bump C.TPT_PKT_TX

/-- A copy of a packet with a new BIRTH (R112, R405). -/
def State.reform (s : State) (a : Await) (payload : List Byte) : List Flit :=
  let body := [hSetBirth (hSetVc a.head 0) (s.gt % 2 ^ 40), a.ext] ++ packFlits (flitsFor payload.length) payload
  body ++ [tailOf body]

/-- apply_done at the sender (R468). -/
def State.applyDone (s : State) (q k opid len status : Nat) : State :=
  let hit := s.tpt.ops.find? fun kv => match kv.2 with
    | some x => x.kind = .rts && x.rtsSent && x.q = q && x.tc = k && x.opid = some opid
    | none => false
  match hit with
  | some (o, some x) =>
    let y := { x with bytes := len }
    let st := if x.status ≠ csOk then x.status else status
    (s.bump C.MAT_DONE_RX).opEnd o y st
  | _ => (s.bump C.MAT_DONE_RX).bump C.MAT_DONE_UNMATCHED

end Sys2Proof.Machine
end

