-- ==== Sys2Proof/Machine/TrgOps.lean ====
section
/-! DEFINITION. Tally counters and triggers (13_counters_and_triggers.md R479 to R494). -/

namespace Sys2Proof.Machine

def State.tally (s : State) (c : Nat) : Tally := tget {} s.trg.tally c
def State.setTally (s : State) (c : Nat) (t : Tally) : State := { s with trg := { s.trg with tally := tput {} s.trg.tally c t } }
def State.setArmed (s : State) (l : List Armed) : State := { s with trg := { s.trg with armed := l } }

/-- Threshold `h` is reached by value `v` (R481). -/
def reached (v h : Nat) : Bool := (v + 2 ^ 64 - h % 2 ^ 64) % 2 ^ 64 < 2 ^ 63

/-- A counter is used: 65,536 are cached on chip, the least recently used one makes room. -/
def State.touchCnt (s : State) (c : Nat) : State :=
  if s.trg.hot.contains c then { s with trg := { s.trg with hot := c :: s.trg.hot.erase c } }
  else
    ((({ s with trg := { s.trg with hot := (c :: s.trg.hot).take 65536 } } : State).bump C.TRG_HOT_MISS).hbmRd 16).whenB (s.trg.hot.length ≥ 65536)
      (·.hbmWr 16)

/-- Keep the fields of TRG_QP_CNT as last written for a QP (Table 13.6). -/
def State.keepQpCnt (s : State) (q v : Nat) : State := { s with trg := { s.trg with qpCnt := tput 0 s.trg.qpCnt q v } }

/-- TRG_QP_CNT of a QP: its active binding, else the fields as last written, with EN 0 where the QP exists (Table 13.6). -/
def State.qpCntWord (s : State) (q : Nat) : Nat :=
  match (s.qp q).cnt with
  | some c => c + 2 ^ 20
  | none => if (s.qp q).valid then tget 0 s.trg.qpCnt q % 2 ^ 20 else tget 0 s.trg.qpCnt q

/-- Pending entries and comparators in use (R488, R492, R493). -/
def State.pendUsed (s : State) : Nat := (s.trg.armed.filter fun a => a.target.isSome).length
def State.pendSize (s : State) : Nat := s.regionSize 11 / 128
def State.cmpUsed (s : State) : Nat := (s.trg.armed.filter fun a => a.comparator).length
def cmpCount : Nat := 65536

/-- Set LATE in the done counter of a trigger that fired LATE (R490). -/
def State.markLate (s : State) (dcnt : Option Nat) (late : Bool) : State :=
  match dcnt, late with
  | some c, true => (s.setTally c { s.tally c with late := true }).bump C.TRG_LATE_FIRES
  | _, _ => s

/-- A trigger fires, releasing its target, or a WAIT completes (R486, R489, R490). -/
def State.fire (s : State) (a : Armed) (late sweep : Bool) : State :=
  let s1 := s.setArmed (s.trg.armed.erase a)
  match a.target with
  | none => s1.descDone a.q a.x csOk 0
  | some d =>
    let f : FiredDesc := { x := a.x, desc := d, dcnt := a.dcnt }
    ((((s1.modQp a.q fun y => { y with fired := y.fired ++ [f] }).bump C.TRG_TRIGS_FIRED).whenB sweep (·.bump C.TRG_SWEEP_FIRES)).markLate
      a.dcnt late)

/-- The counter condition of an armed item holds now. -/
def State.cntMet (s : State) (a : Armed) : Bool := reached (s.tally a.cnt).value a.thresh

/-- The items of a list in ascending order of THRESH; equal ones keep their order (R491). -/
def byThresh (l : List Armed) : List Armed := l.mergeSort fun a b => a.thresh ≤ b.thresh

/-- The counter condition of an armed item is the one that still counts: a time condition is met or not asked. -/
def Armed.counts (a : Armed) : Bool := a.mode = .counter || (a.mode = .both && a.timeMet.isSome)

/-- The swept items that wait for a counter whose threshold is reached fire, those of one counter in ascending order of THRESH (R491, R492). -/
def State.sweepCounters (s : State) : State :=
  let items := s.trg.armed.filter fun a => !a.comparator && a.counts
  let s1 := items.foldl (fun s a => s.touchCnt a.cnt) s
  (byThresh (items.filter fun a => s.cntMet a)).foldl (fun s a => s.fire a (a.timeMet = some true) true) s1

/-- Comparators go to time triggers before counter triggers, as they free (R492): a swept item is tested when it could take one, so that one
whose threshold is reached fires; the TRG sources follow (Table 18.1). -/
def State.trgEase (s : State) : State :=
  let give := fun (acc : Nat × List Armed) (a : Armed) (time : Bool) =>
    if acc.1 > 0 && !a.comparator && (a.mode = .time) = time then (acc.1 - 1, acc.2 ++ [{ a with comparator := true }]) else (acc.1, acc.2 ++ [a])
  let s0 := if s.cmpUsed < cmpCount then s.sweepCounters else s
  let r1 := s0.trg.armed.foldl (fun acc a => give acc a true) (cmpCount - s0.cmpUsed, [])
  let r2 := r1.2.foldl (fun acc a => give acc a false) (r1.1, [])
  let s1 := s0.setArmed r2.2
  (s1.cond pgTrg 0 (s1.pendUsed ≥ s1.pendSize)).cond pgTrg 1 (s1.cmpUsed ≥ cmpCount)

/-- Test every trigger and WAIT with a comparator on a counter after an update (R482, R491). -/
def State.testCnt (s : State) (c : Nat) : State :=
  let ready := s.trg.armed.filter fun a =>
    a.comparator && a.cnt = c && s.cntMet a && a.counts
  ((byThresh ready).foldl (fun s a => s.fire a (a.timeMet = some true) false) s).trgEase

/-- One atomic update of a counter, and the tests it causes (R482). -/
def State.cntApply (s : State) (c : Nat) (f : Tally → Tally) : State :=
  let s1 := s.touchCnt c
  ((s1.setTally c (f (s1.tally c))).bump C.TRG_CNT_UPDATES).testCnt c

def Tally.add (t : Tally) (n : Nat) : Tally := { t with value := (t.value + n) % 2 ^ 64 }
def Tally.set (t : Tally) (n : Nat) : Tally := { t with value := n % 2 ^ 64, fail := 0, lastStatus := 0, late := false }

/-- The counter is allocated to a function. -/
def Tally.of (t : Tally) (k : Nat) : Bool := t.alloc && fkey t.hport t.func = k

/-- The status of a descriptor that names a counter, by R483. -/
def State.cntCheck (s : State) (q c : Nat) : Nat :=
  if c ≥ 1048576 then csBounds else if (s.tally c).of (s.qp q).func then csOk else csPermission

/-- The time condition of an armed item at this moment. -/
def State.timeDue (s : State) (a : Armed) : Bool := s.gt ≥ a.tgt && s.geysState ≠ gsInvalid

/-- Arm a trigger; one whose condition holds fires at once (R488, Table 13.4). -/
def State.arm (s : State) (a : Armed) : State :=
  let passed := a.mode ≠ .counter && s.gt > a.tgt
  let a1 := { a with comparator := s.cmpUsed < cmpCount, late := passed }
  let s0 := if a.mode = .time then s else s.touchCnt a.cnt
  let s1 := ((s0.setArmed (s0.trg.armed ++ [a1])).bump C.TRG_TRIGS_ARMED).trgEase
  match a.mode with
  | .counter => if s1.cntMet a then s1.testCnt a.cnt else s1
  | .time => if passed && s1.timeDue a1 && a1.comparator then (s1.fire a1 true false).trgEase else s1
  | .both =>
    if passed && s1.geysState ≠ gsInvalid then
      let a2 := { a1 with timeMet := some true }
      (s1.setArmed (s1.trg.armed.map fun b => if b = a1 then a2 else b)).testCnt a.cnt
    else s1

/-- A revoke ends for a descriptor or a fired operation of one of these QPs. -/
def RevokeFor.ofQp (r : RevokeFor) (mine : Nat → Bool) : Bool :=
  match r with
  | .sq q _ | .send (.sq q _) _ _ | .send (.fired q _ _) _ _ => mine q
  | _ => false

/-- What a quiesce does to the triggers, counters and bindings of a function; a revoke that is under way ends for none of its operations
(R494). -/
def State.trgQuiesce (s : State) (k : Nat) : State :=
  let gone := fun q => s.qpOf q k
  let unbind := fun kv : Nat × Qp => if kv.2.valid && kv.2.func = k then (kv.1, { kv.2 with cnt := none, fired := [], trgHeld := false }) else kv
  let free := fun kv : Nat × Tally => if kv.2.of k then (kv.1, ({} : Tally)) else kv
  let wait := fun r : RevokeWait => if r.who.ofQp gone then { r with who := .quiesce } else r
  let end_ := fun e : FiredEnd => if e.dcnt.any fun c => (s.tally c).of k then { e with dcnt := none } else e
  let s1 : State := { s with
    trg := { s.trg with
      ends := s.trg.ends.map end_
      hot := s.trg.hot.filter fun c => !(s.tally c).of k
      armed := s.trg.armed.filter fun a => !gone a.q
      tally := (s.trg.tally.map free).filter fun kv => kv.2 ≠ {} }
    win := { s.win with revokes := s.win.revokes.map wait }
    host := { s.host with qps := s.host.qps.map unbind } }
  s1.trgEase

end Sys2Proof.Machine
end

