-- ==== Sys2Proof/Machine/HostOps.lean ====
section
/-! DEFINITION. What becomes of faulting accesses (10_translation.md R391 to R395), copies out of the Mire (12_message_matching.md R750),
the writing of completion entries (09_host_attach_and_queues.md R346 to R353) and the start of descriptors. -/

namespace Sys2Proof.Machine

/-- A payload write of a function (R366): Relaxed Ordering where the function enables it (Table 9.1), No Snoop by the leaf. -/
def State.payloadReq (s : State) (ctx addr : Nat) (noSnoop write : Bool) : BusReq :=
  let c := s.ctx ctx
  { ctxReq c addr with noSnoop := noSnoop, relaxed := write && (s.func (fkey c.hport c.func)).cfg.relaxedEn }

/-- Write bytes to translated segments. -/
def State.writeSegs (s : State) (ctx : Nat) : List (Nat × Nat × Bool) → List Byte → State
  | [], _ => s
  | (pa, n, ns) :: t, bs => (s.hostWrite (s.payloadReq ctx pa ns true) (bs.take n)).writeSegs ctx t (bs.drop n)

/-- Read translated segments. -/
def State.readSegs (s : State) (ctx : Nat) : List (Nat × Nat × Bool) → State
  | [] => s
  | (pa, n, ns) :: t => (s.hostRead (s.payloadReq ctx pa ns false) n).readSegs ctx t

/-- The reads of descriptors that are out: first ring index and descriptors of each. -/
def fetchRuns (l : List Fetch) : List (Nat × Nat) :=
  (l.map Fetch.dma).eraseDups.map fun d => ((((l.filter fun f => f.dma = d).map Fetch.x).headD 0), (l.filter fun f => f.dma = d).length)

/-- Non-posted requests of a host port that are out: descriptor reads, the reads of served READ_REQs, and walks (R320). -/
def State.npOut (s : State) (h : Nat) : Nat :=
  let n := fun a len : Nat => (requestsFor (s.maxRead h) a len).length
  let ring := fun (base size : Nat) (l : List Fetch) => ((fetchRuns l).map fun r => n (base + 64 * (r.1 % size)) (64 * r.2)).sum
  ((s.host.qps.filter fun kv => kv.2.valid && kv.2.p.hport = h).map fun kv =>
    ring kv.2.p.sqBase kv.2.sqSize kv.2.sqIn + ring kv.2.p.rqBase kv.2.rqSize kv.2.rqIn).sum +
  ((s.tpt.reads.filter fun r => (s.ctx r.ctx).hport = h).map fun r => n r.va (xRlen r.ext.toNat)).sum +
  (s.xlt.walks.filter fun kv => kv.2.any fun w => w.c.hport = h).length

/-- A host port can take the requests of a read of `n` bytes: at most 768 are out, four of which are left to the walkers (R320; log 192). -/
def State.npRoom (s : State) (h a n : Nat) : Bool := s.npOut h + (requestsFor (s.maxRead h) a n).length ≤ 764

/-! ### Local faults (R391, R394) -/

/-- Raise the XLT source of a fault kind (R390, Table 18.1). -/
def State.xltRaise (s : State) (ctx kind : Nat) : State :=
  if kind = xfWalkRange then s.raise pgXlt 0 ctx
  else if kind = xfWalkErr then s.raise pgXlt 1 ctx
  else if kind = xfAmRace then s.raise pgXlt 2 ctx
  else s

/-- The message bound to the receive of a post sequence. -/
def State.msgOfPost (s : State) (q post : Nat) : Option (Msg × Recv) :=
  (s.qp q).msgs.findSome? fun m => match m.bound with
    | some r => if r.post = post then some (m, r) else none
    | none => none

/-- A copy out of the Mire faults finally (R750). -/
def State.mireFail (s : State) (q post : Nat) : State :=
  match s.msgOfPost q post with
  | none => s
  | some (m, _) =>
    (s.msgSettle q { m with status := csXltLocal, refuse := some csXltRemote, stored := [], hdrs := 0, blocks := 0 }).mireEased

/-- The outcome of a final local fault (R394, R344, R340, R418, R750). -/
def State.faultFinal (s : State) (who : Access) : State :=
  match who with
  | .sqFetch q | .rqFetch q => s.qpError q qeFetchFault
  | .record q => s.qpError q qeRecordFault
  | .start q x fired =>
    if fired then
      match (s.qp q).fired.find? fun f => f.x = x with
      | some f => (s.modQp q fun y => { y with fired := y.fired.erase f }).firedEnd f.dcnt csXltLocal
      | none => s
    else s.descDone q x csXltLocal 0
  | .payload o => s.opFail o csXltLocal
  | .resend k seq =>
    match s.awaitOf k seq with
    | some a => s.packetFill k a csXltLocal
    | none => s
  | .mire q post => s.mireFail q post
  | .landing _ _ | .pipe _ | .stage _ | .ring _ | .launch _ | .adopt _ _ => s

/-- The access can be parked: a slot can hold it while its QP waits. -/
def Access.parks : Access → Bool
  | .sqFetch _ | .rqFetch _ | .record _ | .start _ _ _ | .payload _ | .resend _ _ | .mire _ _ => true
  | _ => false

/-- A retransmission's payload read is parked, or is not any more (R418). -/
def State.markParked (s : State) (who : Access) (b : Bool) : State :=
  match who with
  | .resend k seq => s.modAwait k seq fun a => { a with parked := b }
  | _ => s

/-- A fault on a local access of a QP (R391): it is parked, in slot `slot` again where one was being resumed, or final. -/
def State.localFault (s : State) (who : Access) (q ctx va : Nat) (acc : AccKind) (kind : Nat) (slot : Option Nat) : State :=
  let s1 := s.bump C.XLT_FAULT_LOCAL
  let final := fun s : State => match slot with
    | some i => (s.unpark i).markParked who false
    | none => s
  if !(s1.ctx ctx).parkEn || kind = xfNonCanon || kind = xfCtxInvalid || !who.parks then (final s1).faultFinal who
  else
    match slot, s1.freePark with
    | some i, _ | none, some i => (s1.parkIn i q who ctx va acc kind).markParked who true
    | none, none => (s1.cond pgXlt 3 true ctx).faultFinal who

/-- Copy a message's stored bytes into its receive, as far as translation allows (R462, R463, R750). -/
def State.mireCopy : Nat → State → Nat → Nat → State
  | 0, s, _, _ => s
  | fuel + 1, s, q, post =>
    match s.msgOfPost q post with
    | none => s
    | some (m, r) =>
      match m.stored with
      | [] => (s.msgSettle q { m with hdrs := 0, blocks := 0 }).mireEased
      | (off, bs) :: rest =>
        let n := min bs.length (r.len - off)
        let ctx := (s.qp q).p.ctx
        match s.translateSpan (pagesFor n) ctx (r.laddr + off) n .write none (.mire q post) with
        | (.ok segs, s1) =>
          let s2 := ((s1.hbmRd n).writeSegs ctx segs (bs.take n)).bump C.MAT_MIRE_BYTES_OUT 0 n
          mireCopy fuel (s2.setMsg q { m with stored := rest, landed := m.landed + n }) q post
        | (.wait, s1) => s1
        | (.fault kind va, s1) => s1.localFault (.mire q post) q ctx va .write kind none

/-- A receive has been matched with an unexpected message: start the copy of what is stored. -/
def State.copyBound (s : State) (q post : Nat) : State :=
  match s.msgOfPost q post with
  | some (m, _) =>
    if m.kind = .eager && m.hdrs ≠ 0 then
      if s.parkedBy fun p => p.who = .mire q post then s else s.mireCopy 4096 q post
    else s
  | none => s

/-! ### Completion entries (R346 to R353) -/

/-- What a full-state stream needs of the entries written (15_pair_operation.md R553): those from CQ_CI on, the last one, the last one that
told SQ_CI, and the last RECV entry; and of the operations begun: those from SQ_CI on. -/
def Qp.trimLog (x : Qp) : Qp :=
  let last := fun f : Nat × Flit × Option Nat → Bool => (x.cqLog.filter f).getLast?
  let keep := [last fun _ => true, last fun e => e.2.2.isSome, last fun e => field e.2.1.toNat 73 3 = 1]
  { x with
    cqLog := x.cqLog.filter fun e => idxSub e.1 x.cqCi < 2 ^ 31 || keep.contains (some e)
    reserves := x.reserves.filter fun r => idxSub r.x x.sqCi < 2 ^ 31 }

/-- Write an entry at its CQ index, and what follows it: SQ_CI, CQ_ARMED, the bound counter (R346, R356, R483). -/
def State.writeEntry (s : State) (q idx : Nat) (e : CqEntry) : State :=
  let x := s.qp q
  let w := toBytes 32 (e.word q idx x.p.cqLog)
  let s1 := (s.hostWrite (ctxReq (s.ctx x.p.ctx) (ringAddr x.cqPages idx x.cqSize)) w).bump C.QUE_CQ_ENTRIES
  let s2 := s1.whenB (e.kind = 2) (·.bump C.QUE_BATCH_ENTRIES)
  let s3 := s2.whenB (e.kind = 3) (·.bump C.QUE_HELD_ENTRIES)
  let log := x.cqLog ++ [(idx, BitVec.ofNat 256 (e.word q idx x.p.cqLog), e.ci)]
  let y := ({ x with cqPi := idxAdd idx 1, sqCi := e.ci.getD x.sqCi, cqLog := log } : Qp).trimLog
  let s4 := s3.setQp q y
  let s5 := if x.cqArm then (s4.setQp q { y with cqArm := false }).qpEvent q evCqArmed y.cqPi else s4
  let s6 := s5.whenB (e.kind = 0 && e.status = csMirrorLost) (·.qpError q qeMirrorLost)
  match x.cnt with
  | some c =>
    if e.kind = 3 then s6
    else
      let u : CntUpdate := {
        cnt := c, amount := if e.kind = 2 then e.len else 1, func := x.func, fromWindow := false, after := .none }
      { s6 with trg := { s6.trg with updates := s6.trg.updates ++ [u] } }
  | none => s6

/-- Give an entry the next CQ index, and write it when the mate has acknowledged its DONE record. -/
def State.putEntry (s : State) (q : Nat) (e : CqEntry) : State :=
  let x := s.qp q
  let idx := x.cqNext
  let w := BitVec.ofNat 256 (e.word q idx x.p.cqLog)
  let s1 := s.setQp q { x with cqNext := idxAdd idx 1 }
  let (g, s2) := s1.mirror (.done x.p.hport x.p.func q idx w e.ci)
  s2.after g (.entry q idx e) (·.writeEntry q idx e)

/-- Stage or hold an entry while the CQ is full (R352). -/
def State.stageEntry (s : State) (q : Nat) (e : CqEntry) : State :=
  let x := s.qp q
  let s1 := s.setQp q { x with staged := x.staged ++ [e], cqFull := true }
  if x.cqFull then s1 else (s1.bump C.QUE_CQ_FULL_EVENTS).qpEvent q evCqFull 0

/-- The next ready entry is written, or joins the staged and held ones (R346, R352). -/
def State.nextEntry (s : State) (q : Nat) : State :=
  let x := s.qp q
  match x.ready with
  | [] => s
  | e :: t =>
    if x.cqPages.length < ringPages x.p.cqLog then s else
    let s1 := s.setQp q { x with ready := t }
    if x.cqFree = 0 || !x.staged.isEmpty then s1.stageEntry q e else s1.putEntry q e

/-- An arriving packet would need an entry that the full pool does not have: it is refused (R352). -/
def State.heldRefuse (s : State) (q : Nat) : State := (s.bump C.QUE_HELD_REFUSED).cond pgQue 0 true q

/-- The pool has room again: no packet is refused for it any more (R352, Table 18.1). -/
def State.poolEase (s : State) : State := if s.heldUsed < 65536 then s.cond pgQue 0 false else s

/-- Write staged and held entries as space allows (R353). -/
def State.flushStaged : Nat → State → Nat → State
  | 0, s, _ => s
  | fuel + 1, s, q =>
    let x := s.qp q
    if x.cqFree = 0 then s
    else
      match x.staged with
      | [] => s
      | e :: t =>
        if !x.heldDone then
          let s1 := s.setQp q { x with heldDone := true }
          flushStaged fuel (s1.putEntry q { status := csHeld, kind := 3, len := x.staged.length }) q
        else
          let last := t.isEmpty
          let s1 := s.setQp q { x with staged := t, heldDone := !last, cqFull := if last then false else x.cqFull }
          flushStaged fuel (s1.putEntry q e) q

/-! ### Doorbell values -/

/-- The IDX record of a QP (key: its index) or of an event queue (key: 2^18 plus its key). -/
def State.idxRec (s : State) (key : Nat) : MirRec :=
  if key < 2 ^ 18 then
    let x := s.qp key
    .idx x.p.hport x.p.func key false x.sqObs x.rqObs x.cqCi 0
  else
    let k := (key - 2 ^ 18) / 2048
    let vec := (key - 2 ^ 18) % 2048
    .idx (keyPort k) (keyFunc k) vec true 0 0 0 (s.eqAt k vec).ci

/-- 10 µs (16,000 cycles) have passed since the last IDX record of the object (Table 15.5). -/
def State.idxReady (s : State) (key : Nat) : Bool :=
  let at1 := tget 0 s.pair.idxAt key
  at1 = 0 || s.time.cycles + 1 ≥ at1 + 16000

/-- Send the IDX record of an object. -/
def State.idxSend (s : State) (key : Nat) : State :=
  let s1 : State := { s with pair := { s.pair with
    idxDirty := s.pair.idxDirty.filter fun k => k ≠ key, idxAt := tput 0 s.pair.idxAt key (s.time.cycles + 1) } }
  s1.mirrorNote (s1.idxRec key)

/-- An IDX record of an object is due (Table 15.5): sent now, or when 10 µs have passed since its last one. -/
def State.idxDue (s : State) (key : Nat) : State :=
  if !s.mirroring then s
  else if s.idxReady key then s.idxSend key
  else if s.pair.idxDirty.contains key then s
  else { s with pair := { s.pair with idxDirty := s.pair.idxDirty ++ [key] } }

/-- The IDX records that have waited long enough go out; the clock tick does this. -/
def State.idxFlush (s : State) : State :=
  if s.pair.idxDirty.isEmpty then s
  else if s.mirroring then (s.pair.idxDirty.filter s.idxReady).foldl State.idxSend s
  else { s with pair := { s.pair with idxDirty := [] } }

/-- A value of CQ_CI (R335, R336, R339). -/
def State.takeCqCi (s : State) (q v : Nat) : State :=
  let x := s.qp q
  if idxSub v x.cqCi ≥ 2 ^ 31 then s.bump C.QUE_DB_STALE
  else if idxSub v x.cqCi > idxSub x.cqPi x.cqCi then
    if x.error then s.bump C.QUE_DB_IGNORED else s.qpError q qeCqIndexBad
  else ((s.setQp q ({ x with cqCi := v } : Qp).trimLog).flushStaged (2 * x.cqSize + x.staged.length + 2) q).poolEase

/-! ### Launch lists (08_scheduled_traffic.md R282, R293) -/

/-- A launch list entry (Table 8.4). -/
structure Launch where
  slot : Nat
  port : Nat
  eport : Nat
  qidx : Nat
  pkt : Nat
  ringIdx : Nat
  stride : Nat
  deriving DecidableEq, Repr

/-- Entry `i` of the launch list of engine `e` in the image of a buffer. -/
def State.launchEntry (s : State) (b off i : Nat) : Launch :=
  let w := s.img b (off + 16 * i) 16
  { slot := field w 0 20, port := field w 20 7, eport := field w 27 4, qidx := field w 32 18, pkt := field w 50 14
    ringIdx := field w 64 32, stride := field w 96 16 }

/-- The launch list of engine `e`, in list order. -/
def State.launchEntries (s : State) (b e : Nat) : List Launch :=
  match s.launchList b e with
  | some (off, n) => (List.range n).map fun i => s.launchEntry b off i
  | none => []

/-- A QP named by a launch entry of an ARMED or RUNNING image is scheduled (08_scheduled_traffic.md R293). -/
def State.scheduledQp (s : State) (q : Nat) : Bool :=
  s.schdActive && (List.range 24).any fun e => (s.launchEntries s.runBuf e).any fun l => l.qidx = q

/-- A launch of an engine's list, counted through the iterations: whether it belongs to the image a switch waits for, its iteration and entry, and
its slot start. -/
def State.launchOf (s : State) (b e n start : Nat) (late : Bool) : Option (Bool × Nat × Launch × Nat) :=
  let l := s.launchEntries b e
  (l[n % l.length]?).map fun x => (late, n / l.length, x, start + (n / l.length) * s.tCyc b + x.slot * s.tSlot b)

/-- s - FETCH_LEAD of a launch of the image in buffer `b` has come (08_scheduled_traffic.md R294). -/
def State.leadCome (s : State) (b start : Nat) : Bool := s.gt + 16000 * s.imgFetchLead b ≥ start

/-- The next launch of an engine. Before a switch the new image's launches are fetched alongside the old one's: each when its time has come
(08_scheduled_traffic.md R291, R294). -/
def State.nextLaunch (s : State) (e : Nat) : Option (Bool × Nat × Launch × Nat) :=
  let cur := s.launchOf s.runBuf e (tget 0 s.schd.fetched e) s.schd.startGt false
  match s.schd.switch with
  | some (b, g) =>
    let next := s.launchOf b e (tget 0 s.schd.fetchedNext e) g true
    match cur with
    | some c =>
      if c.2.2.2 ≥ g then next
      else if !s.leadCome s.runBuf c.2.2.2 && next.any (fun n => s.leadCome b n.2.2.2) then next
      else cur
    | none => next
  | none => cur

/-- The time of a launch has come, its iteration is not past a stop, and the staging of its endpoint port has room
(08_scheduled_traffic.md R289, R294). -/
def State.launchReady (s : State) (late : Bool) (l : Launch) (start : Nat) : Bool :=
  let b := match s.schd.switch with
    | some (sb, _) => if late then sb else s.runBuf
    | none => s.runBuf
  let stopped := !late && s.on R.SCHD_STOP_STOP_EN && start ≥ s.slotStart (s.rd R.SCHD_STOP_STOP_ITER) 0
  s.schdActive && !stopped && s.leadCome b start && ((s.staged l.eport).map fun p => 32 * p.length).sum + 4192 ≤ 131072

/-- An engine has a launch to fetch, which it serves before any dynamic descriptor (08_scheduled_traffic.md R294). -/
def State.launchFirst (s : State) (e : Nat) : Bool := (s.nextLaunch e).any fun x => s.launchReady x.1 x.2.2.1 x.2.2.2

/-! ### Starting descriptors -/

/-- The QP is served, and its function is enabled (R328). -/
def State.qpServed (s : State) (q : Nat) : Bool :=
  let x := s.qp q
  x.valid && s.serves x.p.hport && s.fnState x.func = fsEnabled && !x.lost

/-- A planned move lets the QP start nothing new any more (15_pair_operation.md R565). -/
def State.qpQuiet (s : State) (q : Nat) : Bool :=
  s.pair.move.any fun m => m.giving && m.quiet && (if m.isReturn then s.role (s.qp q).p.hport = 2 else true)

/-- New operations may start on the QP: it is served, its function is enabled, and no planned move has stopped it (R328, R565). -/
def State.qpRuns (s : State) (q : Nat) : Bool := s.qpServed q && !s.qpQuiet q

/-- A rendezvous send of the QP waits for a free window index (R453). -/
def State.winWaits (s : State) (q : Nat) : Bool :=
  s.tpt.ops.any fun kv => match kv.2 with
    | some x => x.q = q && x.winWait
    | none => false

/-- The skip of SQ index `i`, where a launch of it has been skipped and it is not complete (08_scheduled_traffic.md R312). -/
def State.skipOf (s : State) (q i : Nat) : Option SkippedDesc := s.schd.skipped.find? fun y => y.qp = q && y.idx = i

/-- A descriptor that has not started waits for its ordinary start: it was not read for a launch of a running schedule, and no launch of it has
been skipped (08_scheduled_traffic.md R293, R312). -/
def State.startsHere (s : State) (q : Nat) (d : SqDesc) : Bool :=
  d.state = .fetched && !(d.launched && s.scheduledQp q) && (s.skipOf q d.x).isNone

/-- Whatever the QP's descriptors are, the QP starts no further operation now: an access of its SQ is parked (R391), a send waits for a window
(R453), or a pair is held (R493). -/
def State.startsHeld (s : State) (q : Nat) : Bool := s.sqStopped q || s.winWaits q || (s.qp q).trgHeld

/-- Cycles of 0.625 ns from one start of a throttled engine to its next: an engine starts a descriptor in 25 cycles of CLK_EN, 20 ns
(01_architecture.md Table 1.6); at 50 % of that rate 40 ns, at 25 % 80 ns (21_pins_and_electrical.md R731; DEDUCED: log 183). -/
def State.startGap (s : State) : Nat := if !s.on R.PIN_THERM_THROTTLE then 0 else if s.pin.deep then 128 else 64

/-- The temperature holds back the engine's next start of descriptor `d`; collective operations are never throttled (R731). -/
def State.thermalHold (s : State) (e d : Nat) : Bool :=
  let last := tget 0 s.pin.started e
  !(0x30 ≤ dOp d && dOp d ≤ 0x34) && last ≠ 0 && s.time.cycles + 1 < last + s.startGap

/-- The engine starts a descriptor now. -/
def State.startStamp (s : State) (e : Nat) : State :=
  { s with pin := { s.pin with started := tput 0 s.pin.started e (s.time.cycles + 1) } }

/-- The oldest descriptor of the QP that has not started, where it may start now (R344, R345, R391, R453, R486, R493;
08_scheduled_traffic.md R294). -/
def State.nextStart (s : State) (q : Nat) : Option SqDesc :=
  let x := s.qp q
  if !s.qpRuns q || s.startsHeld q || s.launchFirst (engineOf q) then none
  else
    match x.sq.find? (s.startsHere q) with
    | none => none
    | some d => if !x.letsStart d.x d.desc || s.thermalHold (engineOf q) d.desc then none else some d

/-- What a row that runs a descriptor's opcode acts on: its owner and its bytes. `fired`: the oldest fired target of the QP. -/
def State.startOf (s : State) (q : Nat) (fired : Bool) (opcode : Nat) : Option (Owner × Nat) :=
  if fired then
    match (s.qp q).fired with
    | f :: _ => if dOp f.desc = opcode && s.qpRuns q && !s.sqStopped q && !s.winWaits q && !s.launchFirst (engineOf q) && !s.thermalHold (engineOf q) f.desc then
        some (.fired q f.x f.dcnt, f.desc)
      else none
    | [] => none
  else
    match s.nextStart q with
    | some d => if dOp d.desc = opcode then some (.sq q d.x, d.desc) else none
    | none => none

/-- The descriptor of an owner starts. -/
def State.begin_ (s : State) (o : Owner) : State :=
  match o with
  | .sq q x => (s.startStamp (engineOf q)).descStart q x
  | .fired q x _ => (s.startStamp (engineOf q)).modQp q fun y => { y with fired := y.fired.eraseP fun f => f.x = x }
  | _ => s

/-- The rank-table entry that an owner's start has read already (02_grid_and_addressing.md R80). -/
def State.keptDest (s : State) (o : Owner) : Option RankDest :=
  match o with
  | .sq q x => ((s.qp q).sq.find? fun y => y.x = x).bind SqDesc.dest
  | .fired q x _ => ((s.qp q).fired.find? fun y => y.x = x).bind FiredDesc.dest
  | _ => none

/-- Keep the rank-table entry that an owner's start has read. -/
def State.keepDest (s : State) (o : Owner) (d : RankDest) : State :=
  match o with
  | .sq q x => s.modQp q fun y => { y with sq := y.sq.map fun z => if z.x = x then { z with dest := some d } else z }
  | .fired q x _ => s.modQp q fun y => { y with fired := y.fired.map fun z => if z.x = x then { z with dest := some d } else z }
  | _ => s

/-- Resolve the rank of an owner's descriptor: the entry is read once from the rank table, whatever its start has still to wait for (R79, R80). -/
def State.resolveFor (s : State) (o : Owner) (job rank : Nat) : Except Nat RankDest × State :=
  match s.keptDest o with
  | some d => (.ok d, s)
  | none =>
    let s1 := if rank < tget 0 s.host.jobRanks job then s.hbmRd 8 else s
    match s1.resolveRank job rank with
    | .dest pid h f qi =>
      let d : RankDest := { pid := pid, hport := h, func := f, qidx := qi }
      (.ok d, s1.keepDest o d)
    | .bad st => (.error st, s1)

/-- Bytes of LADDR whose pages an owner's start has translated. -/
def State.spanned (s : State) (o : Owner) : Nat :=
  match o with
  | .sq q x => (((s.qp q).sq.find? fun y => y.x = x).map SqDesc.spanned).getD 0
  | .fired q x _ => (((s.qp q).fired.find? fun y => y.x = x).map FiredDesc.spanned).getD 0
  | _ => 0

def State.setSpanned (s : State) (o : Owner) (n : Nat) : State :=
  match o with
  | .sq q x => s.modQp q fun y => { y with sq := y.sq.map fun z => if z.x = x then { z with spanned := n } else z }
  | .fired q x _ => s.modQp q fun y => { y with fired := y.fired.map fun z => if z.x = x then { z with spanned := n } else z }
  | _ => s

/-- Translate the pages of an owner's `n` bytes at LADDR in turn, from the first that its start has not translated yet (R428); `fuel` bounds
them. -/
def State.spanPages : Nat → State → Owner → Nat → Nat → Nat → AccKind → Nat → Access → XSpan × State
  | 0, s, _, _, _, _, _, _, _ => (.ok [], s)
  | fuel + 1, s, o, ctx, va, n, acc, e, who =>
    let done := s.spanned o
    if n ≤ done then (.ok [], s)
    else
      let a := (va + done) % 2 ^ 64
      match s.translate ctx a acc (some e) who with
      | (.hit _ _, s1) => (s1.setSpanned o (done + (4096 - a % 4096))).spanPages fuel o ctx va n acc e who
      | (.wait, s1) => (.wait, s1)
      | (.fault kind, s1) => (.fault kind a, s1)

/-- The descriptor of an owner starts and ends at once. -/
def State.beginEnd (s : State) (o : Owner) (status : Nat) : State := (s.begin_ o).ownerDone o status 0

/-- The access of an owner's start. -/
def Owner.access : Owner → Access
  | .sq q x => .start q x false
  | .fired q x _ => .start q x true
  | .rndv q p => .mire q p
  | .done q => .record q

/-- The translation of all of LADDR for a descriptor's start (R428): go on, or wait, park or fail. -/
def State.startPages (s : State) (o : Owner) (q va n : Nat) (acc : AccKind) (go : State → State) : State :=
  let ctx := (s.qp q).p.ctx
  match s.spanPages (pagesFor n) o ctx va n acc (engineOf q) o.access with
  | (.ok _, s1) => go s1
  | (.wait, s1) => s1
  | (.fault kind va', s1) => s1.localFault o.access q ctx va' acc kind none

/-- Answer to a translation for a descriptor's start: go on with the segments, or wait, park or fail. -/
def State.startSpan (s : State) (o : Owner) (q va n : Nat) (acc : AccKind) (go : State → List (Nat × Nat × Bool) → State) : State :=
  let ctx := (s.qp q).p.ctx
  match s.translateSpan (pagesFor n) ctx va n acc (some (engineOf q)) o.access with
  | (.ok segs, s1) => go s1 segs
  | (.wait, s1) => s1
  | (.fault kind va', s1) => s1.localFault o.access q ctx va' acc kind none

end Sys2Proof.Machine
end

