-- ==== Sys2Proof/Machine/QuiesceOps.lean ====
section
/-! DEFINITION. Enable and disable events and the quiesce of a function (09_host_attach_and_queues.md R325 to R330). -/

namespace Sys2Proof.Machine

def State.setFn (s : State) (k st : Nat) : State := s.wr R.FUNC_STATUS_STATE st k

/-- A FUNC record of the function's new state (15_pair_operation.md Table 15.5). -/
def State.noteFn (s : State) (k : Nat) : State := s.mirrorNote (.func (keyPort k) (keyFunc k) (s.fnState k))

/-- The enable condition of R325. -/
def State.fnCond (s : State) (k : Nat) : Bool :=
  s.on R.FUNC_CTRL_EN k && (s.func k).cfg.busMaster && (keyFunc k = 0 || (s.func (fkey (keyPort k) 0)).cfg.vfEnable)

/-- An enable event (R325, R329). -/
def State.enableEvent (s : State) (k : Nat) : State :=
  if s.fnState k = fsOff then (s.setFn k fsEnabled).noteFn k
  else if s.fnState k = fsQuiescing then s.wr R.FUNC_STATUS_PEND 1 k
  else s

/-- Step 3 of R328: the operations of the function's QPs are abandoned. -/
def State.abandonOps (s : State) (k : Nat) : State :=
  s.tpt.ops.foldl (fun s kv => match kv.2 with
    | some x => if s.qpOf x.q k then (s.setOp kv.1 none).orphan x.tc kv.1 else s
    | none => s) s

/-- The function's windows, by index, in a state. -/
def State.windowsOf (s : State) (k st : Nat) : List Nat :=
  (s.win.wins.filter fun kv => fkey kv.2.hport kv.2.func = k && kv.2.state = st).map Prod.fst

/-- Nothing of the QP's work is left but the reads that are out, and the completions formed and held, which go with the QP at step 6 (R328 steps 3,
4 and 6). -/
def Qp.emptied (x : Qp) : Qp :=
  { x with sq := [], rq := [], fired := [], batch := 0, posted := [], prqHeld := none, msgs := [], trgHeld := false, cnt := none, reserves := [] }

/-- What waits for the mate on behalf of the function's QPs is dropped. -/
def Gated.ofQp (e : Gated) (f : Nat → Bool) : Bool :=
  match e with
  | .entry q _ _ => f q
  | .hostWrite _ _ (.sq q _) => f q
  | .hostWrite _ _ (.fired q _ _) => f q
  | _ => false

/-- What a disable event does to the commands of the function's ring (16_command_packets.md R587): those not started are discarded, and
the started ones end without replies, but for the FUNC_RESET that made the event. -/
def State.cmdQuiesce (s : State) (k : Nat) : State :=
  let own := fun r : CmdRef => fnOfPath r.path = some k
  let f := fun c : Started => if own c.ref && c.wait ≠ .funcReset k then { c with silent := true } else c
  { s with cmd := { s.cmd with waiting := s.cmd.waiting.filter fun w => !own w.ref, started := s.cmd.started.map f } }

/-- The steps of R328 that take effect on entry to QUIESCING. -/
def State.quiesceStart (s : State) (k : Nat) : State :=
  let s0 := ((s.setFn k fsQuiescing).wr R.FUNC_STATUS_PEND 0 k).noteFn k
  let s1 := ((s0.cmdQuiesce k).abandonOps k).collQuiesce k
  let s2 := (s1.windowsOf k wsOpen).foldl (fun s i => (s.revokeStart i).awaitRevoke i .quiesce csOk) s1
  let s3 := s2.trgQuiesce k
  let mine := fun q => s3.qpOf q k
  let park := fun kv : Nat × ParkSlot => if kv.2.used && mine kv.2.q then (kv.1, { kv.2 with used := false }) else kv
  let keep := fun a : Access => match a with
    | .sqFetch q | .rqFetch q | .record q | .start q _ _ | .mire q _ => !mine q
    | _ => true
  let s4 : State := { s3 with
    host := { s3.host with qps := s3.host.qps.map fun kv => if kv.2.valid && kv.2.func = k then (kv.1, kv.2.emptied) else kv }
    xlt := { s3.xlt with parks := s3.xlt.parks.map park }
    pair := { s3.pair with waits := s3.pair.waits.filter fun w => !w.2.ofQp mine }
    schd := { s3.schd with skipped := s3.schd.skipped.filter fun d => !mine d.qp } }
  (((s4.keepWaiters keep).mireEased).cond pgMat 2 (s4.host.qps.any fun kv => kv.2.prqHeld.isSome)).cond pgXlt 3 false

/-- A disable event (R325, R329). -/
def State.disableEvent (s : State) (k : Nat) : State :=
  if s.fnState k = fsEnabled then s.quiesceStart k
  else if s.fnState k = fsQuiescing then s.wr R.FUNC_STATUS_PEND 0 k
  else s

/-- The enable condition is evaluated again; a change of it is an event. -/
def State.fnEval (s : State) (k : Nat) : State :=
  let c := s.fnCond k
  let f := s.func k
  if c = f.enabled then s
  else
    let s1 := s.setFunc k { f with enabled := c }
    if c then s1.enableEvent k else s1.disableEvent k

/-- EXPERT_EN of the PF of a host port clears (16_command_packets.md R594). -/
def State.expertLock (s : State) (h : Nat) : State := s.wr R.CMD_EXPERT_EXPERT_EN (setBit (s.rd R.CMD_EXPERT_EXPERT_EN) h false)

/-- The function and, for a PF, its VFs. -/
def vfsOf (k : Nat) : List Nat := if keyFunc k = 0 then (List.range 63).map fun i => k + 1 + i else []

/-- New configuration controls of a function take effect, on it and on the VFs of a PF (R325, R326). -/
def State.setCfg (s : State) (k : Nat) (c : FuncCfg) : State :=
  let s1 := (s.setFunc k { s.func k with cfg := c }).msixFlush k
  (vfsOf k).foldl State.fnEval (s1.fnEval k)

/-- One disable event of the function with FUNC_CTRL.EN cleared (R325): an FLR or a function-reset command. -/
def State.fnReset (s : State) (k : Nat) : State :=
  let s1 := s.wr R.FUNC_CTRL_EN 0 k
  (s1.setFunc k { s1.func k with enabled := false }).disableEvent k

/-- DMA reads or revokes of the function are still out (R328 step 5). -/
def State.fnBusy (s : State) (k : Nat) : Bool :=
  let ctxOf := fun c => let x := s.ctx c; x.valid && fkey x.hport x.func = k
  (s.host.qps.any fun kv => kv.2.valid && kv.2.func = k && !(kv.2.sqIn.isEmpty && kv.2.rqIn.isEmpty)) ||
    !(s.windowsOf k wsRevoking).isEmpty ||
    (s.tpt.reads.any fun r => ctxOf r.ctx) ||
    (s.xlt.walks.any fun kv => match kv.2 with
      | some w => ctxOf w.ctx
      | none => false) || (s.xlt.walkQueue.any fun w => ctxOf w.ctx) ||
    s.cmd.started.any fun c => fnOfPath c.ref.path = some k && c.wait ≠ .funcReset k

/-- A context is gone, and nothing is cached of it. -/
def State.ctxGone (s : State) (c : Nat) : State :=
  let s1 := (s.tlbKeep fun t => t.ctx ≠ c).setCtx c {}
  { s1 with xlt := { s1.xlt with wc := s1.xlt.wc.filter fun x => x.ctx ≠ c } }

/-- Every context of the function is released (R328, R365). -/
def State.releaseCtxs (s : State) (k : Nat) : State :=
  let mine := (s.xlt.ctxs.filter fun kv => fkey kv.2.hport kv.2.func = k).map Prod.fst
  mine.foldl (fun s c => (s.ctxGone c).mirrorNote (.ctx c { s.ctx c with valid := false })) s

/-- Step 6 of R328: the function's QPs, event queues, contexts and MSI-X table are gone. -/
def State.destroyFn (s : State) (k : Nat) : State :=
  let s1 := s.releaseCtxs k
  let vec := fun key : Nat => key / 2048 = k
  let s2 : State := { s1 with host := { s1.host with
    qps := s1.host.qps.filter fun kv => kv.2.func ≠ k || !kv.2.valid
    eqs := s1.host.eqs.filter fun kv => !vec kv.1
    msix := s1.host.msix.filter fun kv => !vec kv.1 } }
  (s2.wr R.FUNC_STATUS_NQP 0 k).poolEase

/-- The function's lines tracked under CXL.cache are given up with its QPs (R338). -/
def State.snoopCount (s : State) (h : Nat) : State :=
  s.wr R.HIF_PORT_LINK_SNOOPED (s.host.qps.filter fun kv => kv.2.valid && kv.2.snooped && kv.2.p.hport = h).length h

/-- FUNC_RESET commands that wait for a function end with a status (16_command_packets.md R587). -/
def State.resetReplies (s : State) (k status : Nat) : State :=
  (s.cmd.started.filter fun c => c.wait = .funcReset k).foldl (fun s c => s.finalReply c.n status []) s

/-- The command ring registers of a function return to their reset values. -/
def State.ringReset (s : State) (k : Nat) : State :=
  let regs := R.fieldsFCMD.foldl (fun r f => tput f.resetVal r (f.key k 0) f.resetVal) s.regs
  ({ s with regs := regs } : State).setRing k {}

/-- The quiesce of a function ends: OFF, or ENABLED when PEND is 1 (Table 9.3). -/
def State.quiesceEnd (s : State) (k : Nat) : State :=
  let s1 := (((s.destroyFn k).snoopCount (keyPort k)).resetReplies k stOk).ringReset k
  let pend := s1.on R.FUNC_STATUS_PEND k
  ((s1.wr R.FUNC_STATUS_PEND 0 k).setFn k (if pend then fsEnabled else fsOff)).noteFn k

/-- A quiesce that is not complete within 100 ms: WEDGED (R330). -/
def State.wedge (s : State) (k : Nat) : State :=
  let pend := s.on R.FUNC_STATUS_PEND k
  let s1 := ((s.wr R.FUNC_STATUS_PEND 0 k).whenB pend (·.wr R.FUNC_STATUS_ENABLE_DISCARDED 1 k)).setFn k fsWedged
  let s2 := (s1.condOf pgHif 0 (keyPort k + 4 * keyFunc k)).resetReplies k stFailed
  if keyFunc k = 0 then s2 else s2.postEvent (fkey (keyPort k) 0) 0 evFuncWedged 0 (keyFunc k)

end Sys2Proof.Machine
end

