-- ==== Sys2Proof/Machine/CreateOps.lean ====
section
/-! DEFINITION. What QP_CREATE and EQ_CREATE do once their checks have passed: the walk of the ring's pages, and the object
(09_host_attach_and_queues.md R331, R332, R338, R354; 10_translation.md R382). -/

namespace Sys2Proof.Machine

/-- Values packed into containers from offset `off` (16_command_packets.md R573). -/
def packFrom : Nat → List (Nat × Nat) → List Byte
  | _, [] => []
  | off, (n, v) :: t => List.replicate (alignUp off n - off) 0 ++ toBytes n v ++ packFrom (alignUp off n + n) t

def pack (l : List (Nat × Nat)) : List Byte := packFrom 0 l

/-- The final reply of a command that waits for the mate's acknowledgement of a record (15_pair_operation.md Table 15.6). -/
def State.replyAfter (s : State) (g : Option Nat) (n status : Nat) (result : List Byte) : State :=
  s.after g (.reply n status result) (·.finalReply n status result)

/-- The lowest free QP index of the device's own half (log 24). -/
def State.freeQp (s : State) : Option Nat :=
  let (base, n) := s.ownHalf 262144
  let used := (s.host.qps.filter fun kv => kv.2.valid && base ≤ kv.1 && kv.1 < base + n).map Prod.fst
  ((List.range (used.length + 1)).find? fun i => i < n && !used.contains (base + i)).map fun i => base + i

/-- The lowest free doorbell slot of a function. -/
def State.freeSlot (s : State) (k : Nat) : Option Nat :=
  let used := (s.host.qps.filter fun kv => kv.2.valid && kv.2.func = k).map fun kv => kv.2.slot
  (List.range (used.length + 1)).find? fun i => i < 7168 && !used.contains i

/-- A new QP joins the tables; its create command replies (R331, R332, R338). -/
def State.qpMake (s : State) (n : Nat) (p : QpParams) (pages : List Nat) : State :=
  let k := fkey p.hport p.func
  if s.fnState k ≠ fsEnabled || !s.serves (keyPort k) then s.finalReply n stNotPermitted []
  else
    match s.freeQp, s.freeSlot k with
    | some q, some slot =>
      let lines := s.rd R.HIF_PORT_LINK_SNOOPED p.hport
      let snoop := p.dbMode = 2
      let x : Qp := {
        valid := true, p := p, slot := slot, cqPages := pages, snooped := snoop && lines < 16384, snoopDue := snoop && lines < 16384
        fallback := snoop && !(lines < 16384) }
      let s1 := ((s.setQp q x).snoopCount p.hport).wr R.FUNC_STATUS_NQP (s.rd R.FUNC_STATUS_NQP k + 1) k
      let (g, s2) := s1.mirror (.qp q p)
      s2.replyAfter g n stOk (pack [(4, q), (2, slot)])
    | _, _ => s.finalReply n stExhausted []

/-- A new event queue joins the tables; its create command replies (R354). -/
def State.eqMake (s : State) (n : Nat) (p : EqParams) (pages : List Nat) : State :=
  let k := fkey p.hport p.func
  if s.fnState k ≠ fsEnabled || !s.serves (keyPort k) then s.finalReply n stNotPermitted []
  else if (s.eqAt k p.vec).valid then s.finalReply n stBadParam []
  else
    let (g, s1) := (s.setEq k p.vec { valid := true, p := p, pages := pages }).mirror (.eq p)
    s1.replyAfter g n stOk (pack [(2, p.vec)])

/-- A page of the ring of a create command has been walked. -/
def State.ringPage (s : State) (n pa : Nat) : State :=
  match s.startedCmd n with
  | some c => match c.wait with
    | .qpRing p pages => s.setWait n (.qpRing p (pages ++ [pa]))
    | .eqRing p pages => s.setWait n (.eqRing p (pages ++ [pa]))
    | _ => s
  | none => s

/-- Walk the next page of the ring of a create command, with access write, or make the object once every page has been walked (R382). -/
def State.ringWalk (s : State) (n : Nat) : State :=
  match s.startedCmd n with
  | none => s
  | some c =>
    let step := fun (ctx base log : Nat) (pages : List Nat) (make : State → State) =>
      if pages.length ≥ ringPages log then make s
      else
        let va := base + 4096 * pages.length
        match s.walkOnly ctx va .write (.ring n) with
        | (.fault kind, s1) => (s1.bump C.XLT_FAULT_LOCAL).finalReply n stFailed (pack [(1, kind), (8, va)])
        | (_, s1) => s1
    match c.wait with
    | .qpRing p pages => step p.ctx p.cqBase p.cqLog pages fun s => s.qpMake n p pages
    | .eqRing p pages => step p.ctx p.base p.log pages fun s => s.eqMake n p pages
    | _ => s

/-- The walk of a create command's ring has found a fault. -/
def State.ringFault (s : State) (n kind va : Nat) : State :=
  match s.startedCmd n with
  | some c => match c.wait with
    | .qpRing _ _ | .eqRing _ _ => (s.bump C.XLT_FAULT_LOCAL).finalReply n stFailed (pack [(1, kind), (8, va)])
    | _ => s
  | none => s

/-! ### Rings of adopted objects (15_pair_operation.md R557, R561) -/

/-- The ring of an adopted QP is translated: the mirrored entries are written again at their indices (R557). -/
def State.adoptRewrite (s : State) (q : Nat) : State :=
  let x := s.qp q
  let put := fun (s : State) (e : Nat × Flit) =>
    (s.hostWrite (ctxReq (s.ctx x.p.ctx) (ringAddr x.cqPages e.1 x.cqSize)) (flitBytes e.2)).bump C.QUE_CQ_ENTRIES
  (x.rewrite.foldl put s).setQp q { x with rewrite := [] }

/-- An event queue that was left for its PAIR_ADOPT alone goes, and its context (15_pair_operation.md R561, R562). -/
def State.eqLeave (s : State) (key : Nat) : State :=
  let x := s.eqAt (key / 2048) (key % 2048)
  if x.leaves then (s.setEq (key / 2048) (key % 2048) {}).ctxGone x.p.ctx else s

/-- The ring of an adopted event queue is translated: the events that waited are posted. -/
def State.adoptEvents (s : State) (key : Nat) : State :=
  let k := key / 2048
  let vec := key % 2048
  let x := s.eqAt k vec
  (x.held.foldl (fun s e => s.postEvent k vec e.1 e.2.1 e.2.2) (s.setEq k vec { x with held := [] })).eqLeave key

/-- The ring of an adopted object cannot be translated: the QP enters ERROR, and the event queue keeps no event (log 43). -/
def State.adoptFault (s : State) (eq : Bool) (key : Nat) : State :=
  let s1 := s.bump C.XLT_FAULT_LOCAL
  if eq then (s1.setEq (key / 2048) (key % 2048) { s1.eqAt (key / 2048) (key % 2048) with held := [] }).eqLeave key
  else s1.qpError key qeMirrorLost

/-- Walk the remaining pages of the ring of an adopted QP or event queue, each once, with access write (R382). -/
def State.adoptWalk : Nat → State → Bool → Nat → State
  | 0, s, _, _ => s
  | fuel + 1, s, eq, key =>
    let x := s.qp key
    let y := s.eqAt (key / 2048) (key % 2048)
    let (live, ctx, base, log, pages) :=
      if eq then (y.valid, y.p.ctx, y.p.base, y.p.log, y.pages) else (x.valid, x.p.ctx, x.p.cqBase, x.p.cqLog, x.cqPages)
    if !live then s
    else if pages.length ≥ ringPages log then (if eq then s.adoptEvents key else s.adoptRewrite key)
    else
      match s.translate ctx (base + 4096 * pages.length) .write none (.adopt eq key) with
      | (.hit pa _, s1) =>
        let s2 := if eq then s1.setEq (key / 2048) (key % 2048) { y with pages := y.pages ++ [pa] }
          else s1.setQp key { x with cqPages := x.cqPages ++ [pa] }
        adoptWalk fuel s2 eq key
      | (.wait, s1) => s1
      | (.fault _, s1) => s1.adoptFault eq key

end Sys2Proof.Machine
end

