-- ==== Sys2Proof/Machine/GroupOps.lean ====
section
/-! DEFINITION. What a GROUP_CREATE does once its checks have passed: the transport contexts of its line peers, and the group
(14_collectives.md R499, R501, R504). -/

namespace Sys2Proof.Machine

/-- The lowest start of `n` free units in a space of `total` from `base`; `used` holds runs as start and length (log 24). -/
def freeRun (used : List (Nat × Nat)) (base total n : Nat) : Option Nat :=
  let fits := fun a => base ≤ a && a + n ≤ base + total && used.all fun u => a + n ≤ u.1 || u.1 + u.2 ≤ a
  ((base :: used.map fun u => u.1 + u.2).filter fits).foldl (fun m a => match m with
    | some b => some (min a b)
    | none => some a) none

/-- The staging runs of the groups, in MiB of region 10. -/
def State.stagingRuns (s : State) : List (Nat × Nat) := (s.coll.groups.filter fun kv => kv.2.valid).map fun kv => (kv.2.base, kv.2.size)

/-- A group joins the table; its create command replies (R499, R748). -/
def State.groupMake (s : State) (n : Nat) (k : Nat) (p : GroupParams) : State :=
  if s.fnState k ≠ fsEnabled || !s.serves (keyPort k) then s.finalReply n stNotPermitted []
  else if (s.group p.gid).valid then s.finalReply n stBusy []
  else match freeRun s.stagingRuns 0 (s.regionSize 10 / 2 ^ 20) p.mib with
    | some b => (s.setGroup p.gid { valid := true, p := p, base := b, size := p.mib }).finalReply n stOk []
    | none => s.finalReply n stExhausted []

/-- What a started GROUP_CREATE does next (R501): it fails with an unreachable peer, makes the group once every context is OPEN, or starts the
handshakes still needed. -/
def State.groupWake (s : State) (c : Started) (p : GroupParams) : State :=
  let peers := s.groupPeers p
  match peers.find? fun q => (s.tc (tcKey 0 q)).txState = txUnreachable with
  | some q => s.finalReply c.n stFailed (pack [(4, q)])
  | none =>
    if peers.all fun q => (s.tc (tcKey 0 q)).txState = txOpen then s.groupMake c.n ((fnOfPath c.ref.path).getD 0) p
    else peers.foldl (fun s q =>
      let t := s.tc (tcKey 0 q)
      if (t.txState = txNew || t.txState = txHandshake) && !t.helloOut && s.canForm && s.on R.ROUT_CTRL_ADOPTED && s.paceReady (tcPort (tcKey 0 q)) q then s.sendHello (tcKey 0 q) else s) s

/-- Every GROUP_CREATE that waits goes on as far as it can. -/
def State.groupsWake (s : State) : State :=
  s.cmd.started.foldl (fun s c => match c.wait with
    | .group p => s.groupWake c p
    | _ => s) s

end Sys2Proof.Machine
end

