-- ==== Sys2Proof/Machine/XltWake.lean ====
section
/-! DEFINITION. What follows the end of a walk for the accesses that wait for it, and invalidations (10_translation.md R382, R387, R390 to
R395). -/

namespace Sys2Proof.Machine

/-- The QP of an access. -/
def State.accessQp (s : State) (who : Access) : Nat :=
  match who with
  | .sqFetch q | .rqFetch q | .record q | .start q _ _ | .mire q _ => q
  | .payload o => match s.op o with
    | some x => x.q
    | none => 0
  | .resend k seq => match s.awaitOf k seq with
    | some a => hSqidx a.head
    | none => 0
  | _ => 0

/-- The landing of a READ_RESP faults: the response, which is progress, is discarded and its packet is done with XLT_FAULT_LOCAL (R395, R415). -/
def State.landingFault (s : State) (k seq : Nat) : State :=
  let gone := fun p : RxPkt => p.tc = k && hSeq (p.pkt.headD 0) = seq
  let s1 : State := { (s.bump C.XLT_FAULT_LOCAL) with tpt := { s.tpt with readResps := s.tpt.readResps.eraseP gone } }
  match s1.awaitOf k seq with
  | some a => (((s1.modAwait k seq fun b => { b with landed := true }).modTc k Tc.progress).packetDone k a csXltLocal).modTc k Tc.prune
  | none => s1

def State.pipe (s : State) (e : Nat) : PipeState := tget {} s.tpt.pipes e
def State.setPipe (s : State) (e : Nat) (p : PipeState) : State := { s with tpt := { s.tpt with pipes := tput {} s.tpt.pipes e p } }

/-- One access learns of the fault of the walk it waited for. -/
def State.faultTo (s : State) (w : Walk) (kind : Nat) (x : Waiter) : State :=
  let fault := fun _ : Unit =>
    s.localFault x.who (s.accessQp x.who) w.ctx w.va x.acc kind (x.slot.filter fun i => (s.park i).used && (s.park i).who = x.who)
  match x.who with
  | .pipe e => s.setPipe e { s.pipe e with fault := some (kind, w.va) }
  | .stage u => { s with mat := { s.mat with fault := tput none s.mat.fault u (some (kind, w.va)) } }
  | .landing k seq => s.landingFault k seq
  | .ring n => s.ringFault n kind (w.va / 4096 * 4096)
  | .launch e => ({ s with xlt := { s.xlt with launchFault := tput 0 s.xlt.launchFault e kind } } : State).bump C.XLT_FAULT_LOCAL
  | .adopt eq key => s.adoptFault eq key
  | .payload o => if (s.op o).isSome then fault () else s
  | .resend k seq => if (s.awaitOf k seq).any fun a => a.awaited && !a.filler && a.op.isSome then fault () else s
  | _ => fault ()

/-- The fault kind tells of the permissions of the walk's own access kind only. -/
def xfOfAccess (k : Nat) : Bool := k = xfWrite || k = xfFetch || k = xfUser || k = xfSupGuard

/-- A walk has faulted (R390, R391). A waiter of another access kind does not share a fault of permissions: it walks for itself. -/
def State.walkFault (s : State) (i : Nat) (w : Walk) (kind : Nat) : State :=
  let s1 := (s.setWalk i none).xltRaise w.ctx kind
  let tell := fun (s : State) (x : Waiter) =>
    if xfOfAccess kind && x.acc ≠ w.acc then
      match s.startWalk w.ctx w.va x with
      | (.fault k, s') => s'.faultTo w k x
      | (_, s') => s'
    else s.faultTo w kind x
  w.who.foldl tell s1

/-- Walks that wait take up the walkers that are free; `fuel` bounds them. -/
def State.walkNext : Nat → State → State
  | 0, s => s
  | fuel + 1, s =>
    match s.xlt.walkQueue, s.freeWalker with
    | w :: rest, some i =>
      let s1 : State := { s with xlt := { s.xlt with walkQueue := rest } }
      match s1.walkBegin i w with
      | (some s2, _) => walkNext fuel s2
      | (none, s2) => walkNext fuel (s2.walkFault i w xfWalkRange)
    | _, _ => s

/-- A create command's walk of a page of its ring has succeeded: a walk with access write, its own or one that it joined, gives the page; after any
other it walks for itself (10_translation.md R382). -/
def State.ringGo (s : State) (w : Walk) (n : Nat) : State :=
  match (if w.acc = .write then s.xlt.l2.find? fun t => t.covers w.ctx w.va else none) with
  | some t => (s.ringPage n (t.out + (w.va / 4096 * 4096 - t.base))).ringWalk n
  | none => s.ringWalk n

/-- A walk has succeeded: the slots of its RESUMEs are released, and the accesses that nothing else restarts go on. -/
def State.walkWake (s : State) (w : Walk) : State :=
  let free := fun (s : State) (x : Waiter) => match x.slot with
    | some i => if (s.park i).used && (s.park i).who = x.who then (s.unpark i).markParked x.who false else s
    | none => s
  let go := fun (s : State) (x : Waiter) => match x.who with
    | .ring n => s.ringGo w n
    | .mire q post => s.copyBound q post
    | .adopt eq key => s.adoptWalk 1024 eq key
    | _ => s
  w.who.foldl go (w.who.foldl free s)

/-- What a step of a walk has come to. -/
def State.walkStep (_s : State) (i : Nat) (w : Walk) (r : WalkRes) : State :=
  match r with
  | .ok s1 => if (s1.walk i).isNone then s1.walkWake w else s1
  | .fault kind s1 => s1.walkFault i w kind

/-- What a walker has read has come back. A walk for which nobody waits any more, its quiesced function having dropped it, is over; a discarded
one starts again at the root with what now stands (R387). -/
def State.walkReturn (s : State) (i : Nat) (f : Walk → WalkRes) : State :=
  match s.walk i with
  | none => s
  | some w =>
    let s1 := if w.who.isEmpty then s.setWalk i none
      else if w.stale then s.walkStep i w (s.walkRestart i (s.walkLatch { w with stale := false }))
      else s.walkStep i w (f w)
    s1.walkNext 64

/-- Start the walk that a RESUME of a park slot makes (R393). -/
def State.parkResume (s : State) (i : Nat) : State :=
  let p := s.park i
  let eng := match p.who with
    | .payload _ | .start _ _ _ => some (engineOf p.q)
    | _ => none
  match (s.dropCached p.ctx p.va).startWalk p.ctx p.va { who := p.who, eng := eng, acc := p.acc, slot := some i } with
  | (.fault kind, s1) => s1.localFault p.who p.q p.ctx p.va p.acc kind (some i)
  | (_, s1) => s1

/-- A parked fault becomes final, by FAIL, or by the parking time: a walk that resumes it does so no more (R393, R394). -/
def State.parkFail (s : State) (i : Nat) : State :=
  (((s.keepWaiting fun x => x.slot ≠ some i).unpark i).markParked (s.park i).who false).faultFinal (s.park i).who

/-- A walk that resumes the access of a park slot is under way. -/
def State.parkResuming (s : State) (i : Nat) : Bool :=
  let has := fun w : Walk => w.who.any fun x => x.slot = some i
  s.xlt.walkQueue.any has || s.xlt.walks.any fun kv => match kv.2 with
    | some w => has w
    | none => false

/-- The parking time of a slot has ended (R394). -/
def State.parkExpire (s : State) (i : Nat) : State :=
  if (s.park i).used && !s.parkResuming i then (s.bump C.XLT_PARK_TIMEOUT).parkFail i else s

/-- The parking times that ended in MOSS take effect. -/
def State.parkExpireAll (s : State) : State :=
  ((s.xlt.parks.filter fun kv => kv.2.used && kv.2.expired).map Prod.fst).foldl State.parkExpire s

/-- A completed invalidation reaches whoever asked for it (R365, R387). -/
def State.invalTell (s : State) (v : Inval) : State :=
  match v.src with
  | .expert => (s.wr R.XLT_INV_STAT_BUSY 0).wr R.XLT_INV_STAT_DONE 1
  | .cmd n =>
    match s.startedCmd n with
    | some c => match c.wait with
      | .ctxRelease ctx =>
        let (g, s1) := (s.setCtx ctx {}).mirror (.ctx ctx { s.ctx ctx with valid := false })
        s1.replyAfter g n stOk []
      | _ => s.finalReply n stOk []
    | none => s

end Sys2Proof.Machine
end

