-- ==== Sys2Proof/Machine/PairOps.lean ====
section
/-! DEFINITION. Operations of the pair block (15_pair_operation.md): sessions on CARR, pair states, the full-state stream, shadows, takeovers
and moves. -/

namespace Sys2Proof.Machine

/-! ### Roles and states (R538, Tables 15.7 and 15.9) -/

/-- PAIR_SIDE of the device: bit 0 of c0 (R68, 02_grid_and_addressing.md R69). -/
def State.side (s : State) : Nat := s.ownPid % 2

/-- Host ports of the device's own hosts. -/
def State.ownPort (s : State) (h : Nat) : Bool := h / 2 = s.side

/-- ROLE of a host port in a pair state. -/
def State.roleIn (s : State) (st h : Nat) : Nat :=
  if st = psStart then 3
  else if st = psUnpaired then 0
  else if st = psYielded then 1
  else if s.ownPort h then 0
  else if st = psAdopting then 2
  else 1

/-- Enter a pair state: STATE and ROLE follow. -/
def State.setPair (s : State) (st : Nat) : State :=
  let role := ((List.range 4).map fun h => s.roleIn st h * 4 ^ h).sum
  ((s.wr R.PAIR_STATUS_STATE st).wr R.PAIR_STATUS_ROLE role).whenB (st = psSolo) (·.wr R.PAIR_EVENT_SOLO 1)

/-! ### Effects that waited (Table 15.6) -/

/-- Make an effect whose record has been acknowledged, or need not be. -/
def State.perform (s : State) (g : Gated) : State :=
  match g with
  | .packet e vc p => s.inject e vc p
  | .stage e start p => s.toStaging e start p
  | .entry q idx x => s.writeEntry q idx x
  | .hostWrite req bs o => (s.hostWrite req bs).ownerDone o csOk 0
  | .record tc h x e nak => s.recordSend tc h x e nak
  | .revokeDone w => s.revokeDone w
  | .reply n st r => s.finalReply n st r

/-- Release the effects that meet a test, in the order they began to wait. -/
def State.release (s : State) (f : Nat → Bool) : State :=
  let go := s.pair.waits.filter fun w => f w.1
  let s1 : State := { s with pair := { s.pair with waits := s.pair.waits.filter fun w => !f w.1 } }
  go.foldl (fun s w => s.perform w.2) s1

/-! ### Sessions (R542, R547, R549) -/

/-- Records that have not been sent go out while fewer than 4,096 are unacknowledged (R549). -/
def State.backlog : Nat → State → State
  | 0, s => s
  | fuel + 1, s =>
    let sent := (s.pair.unacked.filter fun x => x.sentAt.isSome).length
    match s.pair.unacked.find? fun x => x.sentAt.isNone with
    | none => s
    | some r =>
      if sent ≥ 4096 then s
      else
        let f := fun x : SentRec => if x.mseq = r.mseq then { x with sentAt := some s.time.cycles } else x
        let s1 : State := { s with pair := { s.pair with unacked := s.pair.unacked.map f } }
        backlog fuel ((s1.mirEmit r.mseq r.body).wr R.PAIR_MSEQ_TX_NEXT ((r.mseq + 1) % 2 ^ 32))

/-- The session is over: nothing waits any more, and an armed move is abandoned (R550, R569). -/
def State.sessionEnd (s : State) : State :=
  let s1 : State := { s with pair := { s.pair with
    session := false, opened := false, hbSeen := false, unacked := [], syncEndSeq := none, syncAcked := false, syncRecv := false
    complete := false, move := none, returnInc := none, idxDirty := [] } }
  (s1.wr R.PAIR_MOVE_GT 0).release fun _ => true

/-- A session opens: MSEQ starts at 0 with this device's INC (R547, Table 15.5). -/
def State.sessionOpen (s : State) : State :=
  let s1 : State := { s with pair := { s.pair with
    opened := true, session := false, ended := false, hbSeen := false, txNext := 0, unacked := [], syncEndSeq := none, syncAcked := false
    syncRecv := false, complete := false, idxDirty := [], idxAt := [] } }
  ((((s1.wr R.PAIR_MSEQ_TX_NEXT 0).wr R.PAIR_MSEQ_TX_ACKED 0).wr R.PAIR_APPLIED_RX_NEXT 0).mirSend (.inc s.nv.inc)).2

/-- Records that are unacknowledged are resent on the other port (R542). -/
def State.resendRecords (s : State) : State :=
  (s.pair.unacked.filter fun x => x.sentAt.isSome).foldl (fun s x =>
    (s.emit (.mirror s.carrPort 0 (mirHeader x.body x.mseq) x.body)).bump C.PAIR_RECORDS_RESENT) s

/-! ### The full-state stream (R553) -/

/-- Host ports whose objects a stream carries: own ones, and adopted ones. -/
def State.streamed (s : State) (k : Nat) : Bool := s.serves (keyPort k)

/-- The records of one QP's state beside its creation. -/
def State.qpRecords (s : State) (q : Nat) : List MirRec :=
  let x := s.qp q
  let h := x.p.hport
  let f := x.p.func
  let started := x.reserves.map fun r => r.record x.p q
  let dones := x.cqLog.map fun e => MirRec.done h f q e.1 e.2.1 e.2.2
  let post := fun r : Recv => MirRec.post h f q r.idx r.post r.desc
  let bound := x.msgs.filterMap fun m => match m.bound with
    | some r => if m.finished then none else some (r, m)
    | none => none
  let un := (x.msgs.filter Msg.open_).zipIdx.map fun mi =>
    let m := mi.1
    let whole := m.kind = .eager && m.allOutcomes && m.mlen ≤ 256
    MirRec.unexp h f q m.comm m.srank m.tag (tcPid m.tc) m.opid m.mlen m.kind mi.2
      (if whole then some (m.stored.flatMap Prod.snd) else none)
  started ++ dones ++ x.posted.map post ++ bound.map (fun b => post b.1) ++
    bound.map (fun b => MirRec.match_ h f q b.1.post (tcPid b.2.tc) b.2.opid) ++ un

/-- The full state of the objects this device serves, from SYNC_BEGIN to SYNC_END. -/
def State.fullState (s : State) : List MirRec :=
  let fns := ((List.range 256).filter fun k => s.streamed k && s.fnState k ≠ fsOff).map fun k =>
    MirRec.func (keyPort k) (keyFunc k) (s.fnState k)
  let ctxs := (s.xlt.ctxs.filter fun kv => kv.2.valid && s.serves kv.2.hport).map fun kv => MirRec.ctx kv.1 kv.2
  let qps := (s.host.qps.filter fun kv => kv.2.valid && s.serves kv.2.p.hport).mergeSort fun a b => a.2.slot ≤ b.2.slot
  let eqs := s.host.eqs.filter fun kv => kv.2.valid && s.serves kv.2.p.hport
  let wins := (s.win.wins.filter fun kv => kv.2.state ≠ wsFree && s.serves kv.2.hport).map fun kv => MirRec.win kv.1 kv.2
  let cnts := (s.trg.tally.filter fun kv => kv.2.alloc && s.serves kv.2.hport).map fun kv =>
    MirRec.cntRange kv.2.hport kv.2.func kv.1 1 true
  let binds := qps.filterMap fun kv => kv.2.cnt.map fun c => MirRec.cntBind kv.2.p.hport kv.2.p.func kv.1 c true
  [.syncBegin] ++ fns ++ ctxs ++ qps.map (fun kv => MirRec.qp kv.1 kv.2.p) ++ eqs.map (fun kv => MirRec.eq kv.2.p) ++
    qps.map (fun kv => s.idxRec kv.1) ++ eqs.map (fun kv => s.idxRec (2 ^ 18 + kv.1)) ++ qps.flatMap (fun kv => s.qpRecords kv.1) ++
    wins ++ cnts ++ binds ++ [.mode (s.on R.PAIR_CTRL_MODE)]

/-- Stream the full state. -/
def State.syncStream (s : State) : State :=
  let s1 := s.fullState.foldl (fun s r => (s.mirSend r).2) s
  let (m, s2) := s1.mirSend .syncEnd
  { s2 with pair := { s2.pair with syncEndSeq := some m, modeSent := s.on R.PAIR_CTRL_MODE } }

/-! ### Shadows (R539, R541) -/

def State.shadow (s : State) (q : Nat) : ShadowQp := tget {} s.pair.shadows q
def State.setShadow (s : State) (q : Nat) (x : ShadowQp) : State := { s with pair := { s.pair with shadows := tput {} s.pair.shadows q x } }

/-- A function has shadow objects. -/
def State.hasShadow (s : State) (k : Nat) : Bool :=
  (s.host.qps.any fun kv => kv.2.valid && kv.2.func = k) || (s.host.eqs.any fun kv => kv.2.valid && kv.2.func = k) ||
    (s.pair.ctxs.any fun kv => fkey kv.2.hport kv.2.func = k) ||
    (s.win.wins.any fun kv => kv.2.state ≠ wsFree && fkey kv.2.hport kv.2.func = k) || (s.trg.tally.any fun kv => kv.2.of k)

/-- The window entry of index `i` when the shadows of function `k` are destroyed: an entry of this device's own half keeps its generation, and one
that cools goes on cooling (02_grid_and_addressing.md R84, R85). -/
def State.dropWindow (s : State) (k i : Nat) (w : WinEntry) : Option WinEntry :=
  let (base, n) := s.ownHalf (s.rd R.WIN_CFG_COUNT)
  if fkey w.hport w.func ≠ k then some w
  else if i < base || i ≥ base + n then none
  else if w.state = wsOpen || w.state = wsRevoking then some { w with state := wsFree }
  else some w

/-- The shadows of a function are destroyed. -/
def State.dropShadow (s : State) (k : Nat) : State :=
  let mine := fun q => s.qpOf q k
  let wins := s.win.wins.filterMap fun kv => (s.dropWindow k kv.1 kv.2).map fun w => (kv.1, w)
  let freed := (wins.filter fun kv => kv.2.state = wsFree && (s.window kv.1).state ≠ wsFree).map Prod.fst
  ({ s with
    host := { s.host with
      qps := s.host.qps.filter fun kv => !(kv.2.valid && kv.2.func = k)
      eqs := s.host.eqs.filter fun kv => !(kv.2.valid && kv.2.func = k) }
    win := { s.win with wins := wins, freed := s.win.freed ++ freed }
    trg := { s.trg with tally := s.trg.tally.filter fun kv => !kv.2.of k }
    pair := { s.pair with
      shadows := s.pair.shadows.filter fun kv => !mine kv.1
      ctxs := s.pair.ctxs.filter fun kv => fkey kv.2.hport kv.2.func ≠ k } } : State).mireEased

/-- Functions of the standby ports. -/
def State.standbyFns (s : State) : List Nat := (List.range 256).filter fun k => s.role (keyPort k) = 1 || s.role (keyPort k) = 3

/-- A DONE record is applied (Table 15.5). -/
def State.shadowDone (s : State) (q idx : Nat) (entry : Flit) (covers : Option Nat) : State :=
  let sh := s.shadow q
  let recv := field entry.toNat 73 3 = 1
  let aux := field entry.toNat 160 32
  let rq := if recv && idxSub (idxAdd aux 1) sh.rqNext < 2 ^ 31 then idxAdd aux 1 else sh.rqNext
  let next := covers.getD sh.next
  s.setShadow q { sh with
    done := sh.done ++ [(idx, entry)], next := next, cqNext := idxAdd idx 1, rqNext := rq
    reserved := sh.reserved.filter fun i => idxSub i next < 2 ^ 31
    bound := if recv then sh.bound.filter fun b => b.1.idx ≠ aux else sh.bound }

/-- A MATCH record is applied: the receive is bound, and an unexpected entry of the message is gone. -/
def State.shadowMatch (s : State) (q post spid opid : Nat) : State :=
  let x := s.qp q
  let sh := s.shadow q
  let is := fun m : Msg => tcPid m.tc = spid && m.opid = opid && m.kind ≠ .dead
  let who := (x.msgs.find? is).map fun m => (m.srank, m.tag)
  let hit := x.posted.filter fun r => r.post = post
  ((s.setQp q { x with posted := x.posted.filter fun r => r.post ≠ post, msgs := x.msgs.filter fun m => !is m }).setShadow q
    { sh with bound := sh.bound ++ hit.map fun r => (r, who) }).mireEased

/-- An UNEXP record is applied: the entry is appended, or changes kind. -/
def State.shadowUnexp (s : State) (q comm srank tag spid opid mlen : Nat) (kind : MsgKind) (order : Nat) (pl : Option (List Byte)) : State :=
  let x := s.qp q
  let m : Msg := {
    tc := tcKey 1 spid, opid := opid, comm := comm, srank := srank, tag := tag, mlen := mlen, kind := kind
    stored := match pl with
      | some b => if b.isEmpty then [] else [(0, b)]
      | none => []
    hdrs := 1, blocks := if kind = .eager then max 1 ((mlen + 4095) / 4096) else 0
    outcomes := if pl.isSome || kind ≠ .eager then [0] else [] }
  let rest := x.msgs.filter fun y => !(tcPid y.tc = spid && y.opid = opid && y.kind ≠ .dead)
  s.setQp q { x with msgs := rest.take order ++ [m] ++ rest.drop order }

/-- An IDX record is applied. -/
def State.shadowIdx (s : State) (k q : Nat) (isEq : Bool) (sqPi rqPi cqCi eqCi : Nat) : State :=
  if isEq then s.setEq k q { s.eqAt k q with ci := eqCi, pi := eqCi }
  else
    let s1 := s.modQp q fun x => { x with sqObs := sqPi, rqObs := rqPi, cqCi := cqCi }
    let sh := s1.shadow q
    s1.setShadow q { sh with done := sh.done.filter fun e => idxSub e.1 cqCi < 2 ^ 31 }

/-- Counters of a range, of a function. -/
def State.setRange (s : State) (h f first n : Nat) (alloc : Bool) : State :=
  let t : Tally := if alloc then { alloc := true, hport := h, func := f } else {}
  { s with trg := { s.trg with tally := tputRun {} s.trg.tally first n t } }

/-! ### Adoption (R555 to R562) -/

/-- The incarnation number after `n`, whose low 16 bits are not 0 (R555, R567). -/
def skipZero (n : Nat) : Nat := if n % 2 ^ 16 = 0 then (n + 1) % 2 ^ 32 else n % 2 ^ 32
def adoptInc (mateInc : Nat) : Nat := skipZero ((mateInc + 0x8000) % 2 ^ 32)

/-- The entry of a bound receive whose message had not finished (R558); what no record names of the message is free (log 4). -/
def State.lostRecv (s : State) (b : Recv × Option (Nat × Nat)) : CqEntry × State :=
  let e : CqEntry := { userId := dUser b.1.desc, status := csIndeterminate, kind := 1, aux := b.1.idx }
  match b.2 with
  | some (srank, tag) => ({ e with srank := srank, tag := tag }, s)
  | none =>
    if b.1.exact then ({ e with srank := b.1.src, tag := b.1.tag }, s)
    else
      let (srank, s1) := s.draw 24
      let (tag, s2) := s1.draw 64
      ({ e with srank := srank, tag := tag }, s2)

def State.lostRecvs (s : State) : List (Recv × Option (Nat × Nat)) → List CqEntry × State
  | [] => ([], s)
  | b :: t =>
    let (e, s1) := s.lostRecv b
    let (es, s2) := s1.lostRecvs t
    (e :: es, s2)

/-- An unexpected entry of an adopted QP: restored whole, or DEAD (R558). -/
def Msg.adopted (m : Msg) (set : Nat) : Msg :=
  let m1 := { m with tc := tcKey set (tcPid m.tc) }
  if m.kind = .eager && m.allOutcomes then m1 else { m1 with kind := .dead, stored := [], blocks := 0 }

/-- One adopted QP (R556 to R558, R560). -/
def State.adoptQp (s : State) (trusted : Bool) (q : Nat) : State :=
  let x := s.qp q
  let sh := s.shadow q
  let from_ := fun i => idxSub i sh.next < 2 ^ 31
  let later := fun a b => if idxSub a b < 2 ^ 31 then a else b
  let lines := s.rd R.HIF_PORT_LINK_SNOOPED x.p.hport
  let snoop := x.p.dbMode = 2
  let base : Qp := { x with
    sqObs := later x.sqObs sh.next, sqFetch := sh.next, sqCi := sh.next, rqObs := later x.rqObs sh.rqNext, rqFetch := sh.rqNext
    rqCi := sh.rqNext, cqNext := sh.cqNext, cqPi := sh.cqNext, rewrite := sh.done.filter fun e => idxSub e.1 x.cqCi < 2 ^ 31
    cqPages := [], cqLog := sh.done.map fun e => (e.1, e.2, none), snooped := snoop && lines < 16384, fallback := snoop && !(lines < 16384) }
  let s1 : State := { s with pair := { s.pair with shadows := s.pair.shadows.filter fun kv => kv.1 ≠ q } }
  let s2 :=
    if trusted then
      let (es, s2) := s1.lostRecvs sh.bound
      s2.setQp q { base with
        indet := sh.reserved.filter from_, ready := es, msgs := x.msgs.map fun m => m.adopted (s.tcSet x.p.hport) }
    else
      let e : CqEntry := { status := csMirrorLost, aux := sh.next, ci := some sh.next }
      s1.setQp q { base with posted := [], msgs := [], ready := [e], lost := true }
  (s2.snoopCount x.p.hport).adoptWalk 1024 false q

/-- The windows of an adopted function (R559, R560). -/
def State.adoptWins (s : State) (trusted : Bool) (k : Nat) : State :=
  let cool := fun w : WinEntry => w.state = wsRevoking || (!trusted && w.state = wsOpen)
  let f := fun kv : Nat × WinEntry =>
    if fkey kv.2.hport kv.2.func = k && cool kv.2 then (kv.1, { kv.2 with state := wsCooling, freeGt := s.gt + s.effLifetime }) else kv
  { s with win := { s.win with wins := s.win.wins.map f } }

/-- The contexts and counters of an adopted function (R559). -/
def State.adoptCtxs (s : State) (k : Nat) : State :=
  let mine := s.pair.ctxs.filter fun kv => fkey kv.2.hport kv.2.func = k
  let s1 := mine.foldl (fun s kv => s.setCtx kv.1 { kv.2 with valid := true }) s
  let cnt := fun kv : Nat × Tally => if kv.2.of k then (kv.1, { kv.2 with value := 0, fail := 0xFFFFFFFF, lastStatus := csMirrorLost, late := false }) else kv
  { s1 with
    pair := { s1.pair with ctxs := s1.pair.ctxs.filter fun kv => fkey kv.2.hport kv.2.func ≠ k }
    trg := { s1.trg with tally := s1.trg.tally.map cnt } }

/-- One standby function is adopted, or its shadows are dropped (R559 to R562): of these its event queue 0 and the context of that stay until
PAIR_ADOPT has been posted there (R561). -/
def State.adoptFn (s : State) (trusted : Bool) (k : Nat) : State :=
  let pid := s.pidOf (s.tcSet (keyPort k))
  let tell := fun s : State => s.postEvent k 0 evPairAdopt 0 (pid + bNat trusted * 2 ^ 20)
  if !s.hasShadow k then s
  else if s.fnState k ≠ fsEnabled then
    let eq := s.eqAt k 0
    let ctx := tget {} s.pair.ctxs eq.p.ctx
    let s1 := ((s.dropShadow k).bump C.PAIR_SHADOW_DROP).wr R.PAIR_EVENT_SHADOW_DROP 1
    if !eq.valid then s1
    else (tell ((s1.setCtx eq.p.ctx { ctx with valid := true }).setEq k 0 { eq with pages := [], pi := eq.ci, leaves := true })).adoptWalk 1024 true (2048 * k)
  else
    let s1 := (s.adoptCtxs k).adoptWins trusted k
    let s2 := s1.wr R.FUNC_STATUS_NQP (s1.qpsOf k).length k
    let eqs := (s2.host.eqs.filter fun kv => kv.2.valid && kv.2.func = k).map Prod.fst
    let s3 := eqs.foldl (fun s key =>
      (s.setEq k (key % 2048) { s.eqAt k (key % 2048) with pages := [], pi := (s.eqAt k (key % 2048)).ci }).adoptWalk 1024 true key) s2
    tell ((s3.qpsOf k).foldl (fun s q => s.adoptQp trusted q) s3)

/-- Every transport context of a set is NEW with KNOWN 0 again (R555). -/
def State.clearTcs (s : State) (set : Nat) : State :=
  { s with tpt := { s.tpt with
    tcs := s.tpt.tcs.filter fun kv => tcSide kv.1 ≠ set
    cache := s.tpt.cache.filter fun k => tcSide k ≠ set } }

/-- The device begins to serve the hosts of standby ports (R554 to R562); `fns`: the functions that were standby. -/
def State.adoptAll (s : State) (trusted : Bool) (fns : List Nat) : State := fns.foldl (fun s k => s.adoptFn trusted k) s

/-- A takeover (R554 to R562); a YIELDED device takes its own position too (R569). -/
def State.takeover (s : State) (trusted : Bool) : State :=
  let fns := s.standbyFns
  let back := s.pairState = psYielded
  let own := skipZero (s.pair.mateAdoptInc + 1)
  let s1 := s.sessionEnd
  let s2 : State := if back then ({ s1 with nv := { s1.nv with inc := own } } : State).clearTcs 0 else s1
  let s3 := ((s2.wr R.PAIR_INC_ADOPT_INC (adoptInc (s2.rd R.PAIR_INC_MATE_INC))).clearTcs 1).setPair psAdopting
  let s4 := (s3.wr R.PAIR_EVENT_TAKEOVER 1).bump C.PAIR_TAKEOVERS
  (s4.raise pgPair 3 s4.matePid).adoptAll trusted fns

/-! ### The two signals (R544 to R546) -/

def State.carrLost (s : State) : Bool := !s.on R.PAIR_STATUS_CARR_OK
def State.mateDead (s : State) : Bool := !s.on R.PAIR_STATUS_ALIVE_OK

/-- A takeover now would be trusted (R554). -/
def State.trusted (s : State) : Bool :=
  s.pair.complete && s.rd R.PAIR_STATUS_MATE_MODE = 0 &&
    (s.pairState = psPaired || s.pairState = psYielded || s.pairState = psAdopting)

/-- Enter SOLO: the mirror of the mate is untrusted, and nothing waits. -/
def State.enterSolo (s : State) : State := s.sessionEnd.setPair psSolo

/-- CARR_LOST is true and an edge of MATE_ALIVE shows that the mate lives: SOLO, and the mirror is untrusted (Table 15.3). -/
def State.aloneNow (s : State) : State :=
  let s1 : State := { s with pair := { s.pair with doubt := false } }
  if s.pairState = psSyncing || s.pairState = psPaired then s1.enterSolo
  else if s.pairState = psSolo then s1
  else s1.sessionEnd

/-- The outcome of a change of CARR_LOST or MATE_DEAD (Table 15.3); before a session has formed nothing follows (log 44). With CARR_LOST
alone the device is in doubt until the next MATE_ALIVE edge or its absence decides (log 45). -/
def State.pairSignals (s : State) : State :=
  let lost := s.carrLost
  let dead := s.mateDead
  let st := s.pairState
  if st = psStart || st = psUnpaired then s
  else
    let s1 := (s.cond pgPair 0 (lost && !dead)).cond pgPair 1 (dead && !lost)
    let s2 := s1.whenB (dead && !lost) (·.wr R.PAIR_EVENT_ALIVE_PIN 1)
    if lost && dead then
      if st = psAdopting then s2.sessionEnd else s2.takeover s.trusted
    else { s2 with pair := { s2.pair with doubt := lost } }

/-- What a session and the mate's heartbeat let the device enter; the two signals count from then on (Tables 15.3 and 15.7). -/
def State.pairDecide (s : State) : State :=
  if !(s.pair.session && s.pair.hbSeen) then s
  else if s.pairState = psStart then
    (if s.pair.mateAdopts then s.setPair psYielded else (s.setPair psSyncing).syncStream).pairSignals
  else if s.pairState = psSolo then (s.setPair psSyncing).syncStream
  else if s.pairState = psSyncing then
    if s.pair.syncAcked && s.pair.syncRecv then s.setPair psPaired else s
  else if s.pairState = psAdopting && s.pair.mateState = psYielded && s.pair.syncEndSeq.isNone then s.syncStream
  else s

/-- CARR_LOST becomes true (R544). The mirror that a takeover at once would use is kept until the outcome is known. -/
def State.loseCarr (s : State) : State :=
  if s.carrLost then s
  else ((s.wr R.PAIR_STATUS_CARR_OK 0).wr R.PAIR_EVENT_CARR_LOST 1).pairSignals

/-- Look at the CARR ports: CARR_LOST at once when neither is UP or LP; unacknowledged records go to the other port when one goes
DOWN (R542, R544). -/
def State.carrWatch (s : State) : State :=
  let a := s.linkState 94
  let b := s.linkState 95
  let ua := decide (a = lkUp || a = lkLp)
  let ub := decide (b = lkUp || b = lkLp)
  if !s.paired || (ua = s.pair.up94 && ub = s.pair.up95 && (s.carrLost || ua || ub)) then s
  else
    let fell := (s.pair.up94 && !ua && ub) || (s.pair.up95 && !ub && ua)
    let s1 : State := { s with pair := { s.pair with up94 := ua, up95 := ub } }
    let s2 := s1.whenB (fell && s1.pair.opened) State.resendRecords
    if ua || ub then s2 else s2.loseCarr

/-- A unit of the mate has been received (R544); a session opens where there is none. -/
def State.unitSeen (s : State) : State :=
  let s1 : State := { s with pair := { s.pair with lastUnit := s.time.cycles } }
  let s2 := if s.pairState = psUnpaired || !s.carrLost then s1 else (s1.wr R.PAIR_STATUS_CARR_OK 1).pairSignals
  if s.pairState = psUnpaired || s2.pair.opened then s2 else s2.sessionOpen

/-- The mirror mode is set, and told to the mate while records are sent (R551); no effect without a pair (R553). -/
def State.pairMode (s : State) (relaxed : Bool) : State :=
  if s.pairState = psUnpaired then s
  else
    let s1 := s.wrB R.PAIR_CTRL_MODE relaxed
    if s1.mirroring && s1.pair.modeSent ≠ relaxed then
      let s2 := (s1.mirSend (.mode relaxed)).2
      { s2 with pair := { s2.pair with modeSent := relaxed } }
    else s1

/-! ### Moves (R564 to R567) -/

/-- A planned move is over on this device. -/
def State.moveOver (s : State) : State :=
  ((({ s with pair := { s.pair with move := none } } : State).wr R.PAIR_MOVE_GT 0).wr R.PAIR_EVENT_MOVE_DONE 1).bump C.PAIR_MOVES

/-- The functions of the moving hosts of a giving device. -/
def State.movingFns (s : State) (isReturn : Bool) : List Nat :=
  (List.range 256).filter fun k => s.role (keyPort k) = (if isReturn then 2 else 0)

/-- What the mirror holds of a QP that this device gives away: its objects become shadows in place. -/
def State.giveQp (s : State) (q : Nat) : State :=
  let x := s.qp q
  let log := x.cqLog.filter fun e => idxSub e.1 x.cqCi < 2 ^ 31
  let msg := fun m : Msg =>
    let m1 := { m with tc := tcKey 1 (tcPid m.tc) }
    if m.kind = .eager && m.allOutcomes && m.mlen ≤ 256 then m1
    else { m1 with stored := [], outcomes := if m.kind = .eager then [] else [0] }
  (s.setQp q { x.emptied with
    posted := x.posted, msgs := (x.msgs.filter Msg.open_).map msg, cnt := x.cnt, sqIn := [], rqIn := [], cqPages := [], snooped := false }).setShadow q
    { reserved := x.reserves.map (·.x), done := log.map fun e => (e.1, e.2.1), next := x.sqCi, cqNext := x.cqNext, rqNext := x.rqCi }

/-- A function whose hosts are given away becomes a standby function. -/
def State.giveFn (s : State) (k : Nat) : State :=
  let qs := s.qpsOf k
  let mine := fun q => qs.contains q
  let keep := fun a : Access => match a with
    | .sqFetch q | .rqFetch q | .record q | .start q _ _ | .mire q _ => !mine q
    | _ => true
  let wins := s.win.wins.filter fun kv => fkey kv.2.hport kv.2.func = k
  let given := fun i : Nat => wins.any fun kv => kv.1 = i
  let ctxs := s.xlt.ctxs.filter fun kv => kv.2.valid && fkey kv.2.hport kv.2.func = k
  let s1 : State := { s with
    xlt := { s.xlt with
      parks := s.xlt.parks.map fun kv => if kv.2.used && mine kv.2.q then (kv.1, { kv.2 with used := false }) else kv
      ctxs := s.xlt.ctxs.filter fun kv => !(kv.2.valid && fkey kv.2.hport kv.2.func = k) }
    trg := { s.trg with armed := s.trg.armed.filter fun a => !mine a.q }
    schd := { s.schd with skipped := s.schd.skipped.filter fun d => !mine d.qp }
    win := { s.win with admitted := s.win.admitted.filter fun kv => !given kv.1, revokes := s.win.revokes.filter fun r => !given r.win }
    pair := { s.pair with
      ctxs := ctxs.foldl (fun t kv => tput {} t kv.1 kv.2) s.pair.ctxs
      waits := s.pair.waits.filter fun w => !w.2.ofQp mine && (match w.2 with
        | .revokeDone i => !given i
        | _ => true) } }
  let s2 := (s1.keepWaiters keep).tlbKeep fun t => !(ctxs.any fun kv => kv.1 = t.ctx)
  (qs.foldl State.giveQp s2).snoopCount (keyPort k)

/-- The receive side of a position that is given up holds none of its packets any more (R565, R566). -/
def State.giveRx (s : State) (set : Nat) : State :=
  let pid := s.pidOf set
  let keep := fun x : RxPkt => tcSide x.tc ≠ set
  let keepS := fun x : SendPkt => tcSide x.tc ≠ set
  let s1 : State := { s with
    tpt := { s.tpt with
      acks := s.tpt.acks.filter keep, hellos := s.tpt.hellos.filter keep, helloResps := s.tpt.helloResps.filter keep
      readResps := s.tpt.readResps.filter keep, reads := s.tpt.reads.filter fun r => tcSide r.tc ≠ set }
    mat := { s.mat with reorder := s.mat.reorder.filter keepS, stage := s.mat.stage.filter keepS, fault := [] } }
  let pipe := fun (s : State) (e : Nat) => if (s.rx e).head?.any fun p => hDpid (p.headD 0) = pid then s.setPipe e {} else s
  ((List.range 10).foldl pipe s1).mireEased

/-- An effect that waits for the mate on behalf of a position that is given up: the mate makes it, or ends its operation (R565). -/
def Gated.ofPosition (g : Gated) (set pid : Nat) : Bool :=
  match g with
  | .packet _ _ p | .stage _ _ p => hSpid (p.headD 0) = pid
  | .record tc _ _ _ _ => tcSide tc = set
  | _ => false

/-- Write every entry that is ready and has room: the DONE records of R565 go before YIELD. -/
def State.flushReady : Nat → State → Nat → State
  | 0, s, _ => s
  | fuel + 1, s, q =>
    let x := s.qp q
    if x.ready.isEmpty || x.cqFree = 0 || !x.staged.isEmpty then s else flushReady fuel (s.nextEntry q) q

/-- At G the giving device ends the moving operations, sends YIELD and stops serving (R565, R566). -/
def State.yieldGive (s : State) (m : Move) : State :=
  let fns := s.movingFns m.isReturn
  let set := bNat m.isReturn
  let pid := s.pidOf set
  let inc := s.incOf set
  let qs := fns.flatMap s.qpsOf
  let groups := (s.coll.groups.filter fun kv => kv.2.valid && (kv.2.p.lqps.take kv.2.p.localCnt).any fun q => qs.contains q).map Prod.fst
  let s1 := groups.foldl State.groupStale s
  let ops := s1.tpt.ops.filterMap fun kv => match kv.2 with
    | some x => if qs.contains x.q then some kv.1 else none
    | none => none
  let s2 := ops.foldl (fun s o => match s.op o with
    | some x => s.opEnd o (x.noteStatus csIndeterminate) (x.noteStatus csIndeterminate).status
    | none => s) s1
  let s3 := qs.foldl (fun s q => s.flushReady ((s.qp q).ready.length + 1) q) s2
  let s4 := (s3.mirSend (.yield_ m.target)).2
  let s5 := ((fns.foldl State.giveFn s4).giveRx set).clearTcs set
  let s6 : State := { s5 with pair := { s5.pair with
    stale := some (pid, inc, m.target + s5.effLifetime), syncEndSeq := none, syncAcked := m.isReturn, complete := s5.pair.complete && m.isReturn
    waits := s5.pair.waits.filter fun w => !w.2.ofPosition set pid } }
  let s7 := if m.isReturn then (s6.wr R.PAIR_INC_ADOPT_INC 0).setPair psPaired else s6.setPair psYielded
  s7.moveOver

/-- The taking device begins at the later of G and its application of YIELD (R565, R567). -/
def State.yieldTake (s : State) (m : Move) : State :=
  let fns := (List.range 256).filter fun k => if m.isReturn then s.ownPort (keyPort k) else s.role (keyPort k) = 1
  let s1 :=
    if m.isReturn then
      (({ s with nv := { s.nv with inc := s.pair.returnInc.getD (skipZero (s.pair.mateAdoptInc + 1)) } } : State).clearTcs 0).setPair psPaired
    else ((s.wr R.PAIR_INC_ADOPT_INC (adoptInc (s.rd R.PAIR_INC_MATE_INC))).clearTcs 1).setPair psAdopting
  let s2 : State := { s1 with pair := { s1.pair with syncEndSeq := none, syncAcked := m.isReturn, returnInc := none } }
  ((s2.adoptAll true fns).moveOver).pairMode (s2.on R.PAIR_CTRL_MODE)

/-! ### Applying records (Table 15.5) -/

/-- The end of the mate's session on a record this device cannot read (R548). -/
def State.sessionBroken (s : State) : State :=
  let s1 := if s.pairState = psSyncing || s.pairState = psPaired then s.enterSolo else s.sessionEnd
  let s2 : State := { s1 with pair := { s1.pair with ended := true } }
  ((s2.wr R.PAIR_STATUS_CARR_OK 0).wr R.PAIR_EVENT_CARR_LOST 1).pairSignals

/-- Apply one record. A MOVE of a return has the returning device write its new incarnation number to MRAM (R567). -/
def State.applyRec (s : State) (r : MirRec) : State :=
  let standby := fun h => s.role h = 1 || s.role h = 3
  match r with
  | .inc i => ({ s with pair := { s.pair with session := true } } : State).wr R.PAIR_INC_MATE_INC i
  | .syncBegin =>
    let s1 := (s.standbyFns.filter s.hasShadow).foldl State.dropShadow s
    { s1 with pair := { s1.pair with complete := false, syncRecv := false, revoked := [] } }
  | .syncEnd => { s with pair := { s.pair with complete := true, syncRecv := true } }
  | .func h f st => if st = fsOff && standby h then s.dropShadow (fkey h f) else s
  | .ctx id c => { s with pair := { s.pair with ctxs := tput {} s.pair.ctxs id (if c.valid then c else {}) } }
  | .qp q p =>
    if !standby p.hport then s
    else
      let slot := (s.freeSlot (fkey p.hport p.func)).getD 0
      (s.setQp q { valid := true, p := p, slot := slot }).setShadow q {}
  | .eq p => if standby p.hport then s.setEq (fkey p.hport p.func) p.vec { valid := true, p := p } else s
  | .idx h f q isEq a b c d => if standby h then s.shadowIdx (fkey h f) q isEq a b c d else s
  | .reserve h _ q x _ _ _ _ _ =>
    if standby h then s.setShadow q { s.shadow q with reserved := (s.shadow q).reserved ++ [x] } else s
  | .done h _ q idx e covers => if standby h then s.shadowDone q idx e covers else s
  | .post h _ q idx post desc =>
    if !standby h then s
    else
      let sh := s.shadow q
      let rq := if idxSub (idxAdd idx 1) sh.rqNext < 2 ^ 31 then idxAdd idx 1 else sh.rqNext
      (s.modQp q fun x => { x with
        posted := x.posted ++ [{ idx := idx, desc := desc, post := post }], nextPost := max x.nextPost (post + 1) }).setShadow q { sh with rqNext := rq }
  | .match_ h _ q post spid opid => if standby h then s.shadowMatch q post spid opid else s
  | .unexp h _ q comm srank tag spid opid mlen kind order pl =>
    if standby h then s.shadowUnexp q comm srank tag spid opid mlen kind order pl else s
  | .win i w =>
    if !standby w.hport then s
    else
      let key := i + w.gen * 2 ^ 24
      let keys := if w.state = wsOpen then s.pair.revoked.filter fun k => keyIndex k ≠ i
        else if w.state = wsRevoking && !s.pair.revoked.contains key then s.pair.revoked ++ [key] else s.pair.revoked
      let freed := if w.state = wsFree then s.win.freed else s.win.freed.filter fun j => j ≠ i
      ({ s with pair := { s.pair with revoked := keys }, win := { s.win with freed := freed } } : State).setWindow i w
  | .cntRange h f first n alloc => if standby h then s.setRange h f first n alloc else s
  | .cntBind h _ q c en => if standby h then (s.keepQpCnt q c).modQp q fun x => { x with cnt := if en then some c else none } else s
  | .mode relaxed => s.wrB R.PAIR_STATUS_MATE_MODE relaxed
  | .move g isReturn =>
    let inc := skipZero (s.pair.mateAdoptInc + 1)
    ({ s with
      nv := if isReturn then { s.nv with inc := inc } else s.nv
      pair := { s.pair with
        move := some { target := g, isReturn := isReturn, giving := false }
        returnInc := if isReturn then some inc else none } } : State).wr R.PAIR_MOVE_GT g
  | .yield_ _ =>
    match s.pair.move with
    | some m =>
      if m.giving then s
      else if s.gt ≥ m.target && (!m.isReturn || m.verified) then s.yieldTake m
      else { s with pair := { s.pair with move := some { m with yielded := true } } }
    | none => s

/-- Acknowledge what has been applied (R543, R549). -/
def State.mirAck (s : State) : State :=
  let n := s.rd R.PAIR_APPLIED_RX_NEXT
  (s.emit (.carr s.carrPort 3 (BitVec.ofNat 256 (0xF0 + n * 2 ^ 32)))).bump C.PAIR_ACKS_TX

/-- A record arrives with its MSEQ (R542, R549). An INC with MSEQ 0 that follows others opens a new session, unless it can be the resent one of
this session: the same FULLINC, while a CARR port is not UP and the mate is not in SOLO (log 195). -/
def State.takeRec (s : State) (mseq : Nat) (r : MirRec) : State :=
  let next := s.rd R.PAIR_APPLIED_RX_NEXT
  let fresh := match r with
    | .inc i =>
      let known := i = s.rd R.PAIR_INC_MATE_INC
      let whole := s.linkState 94 = lkUp && s.linkState 95 = lkUp
      let left := s.pair.mateState = psStart || s.pair.mateState = psSolo
      mseq = 0 && next ≠ 0 && (!known || whole || s.pair.mateState = psSolo) && (1 < next || !known || left)
    | _ => false
  let s0 := if fresh then
      let s1 := if s.pairState = psPaired || s.pairState = psSyncing then s.enterSolo else s.sessionEnd
      s1.sessionOpen
    else s
  let want := s0.rd R.PAIR_APPLIED_RX_NEXT
  if mseq = want then
    let s1 := (s0.bump C.PAIR_RECORDS_RX).wr R.PAIR_APPLIED_RX_NEXT ((want + 1) % 2 ^ 32)
    (s1.applyRec r).mirAck.pairDecide
  else if idxSub mseq want ≥ 2 ^ 31 then (s0.bump C.PAIR_DUP_RECORDS).mirAck
  else s0

/-- An acknowledgement frees records and releases what waits on them (R549, R550). -/
def State.takeAck (s : State) (ackseq : Nat) : State :=
  let covered := fun m => let d := idxSub ackseq m; 1 ≤ d && d < 2 ^ 31
  let sync := match s.pair.syncEndSeq with
    | some m => s.pair.syncAcked || covered m
    | none => s.pair.syncAcked
  let s1 : State := { s with pair := { s.pair with unacked := s.pair.unacked.filter fun x => !covered x.mseq, syncAcked := sync } }
  let s2 := ((s1.wr R.PAIR_MSEQ_TX_ACKED ackseq).bump C.PAIR_ACKS_RX).release covered
  (s2.backlog 4096).pairDecide

/-- A heartbeat flit (Table 15.2). -/
def State.heartbeat (s : State) : Flit :=
  let adopting := s.pairState = psAdopting
  BitVec.ofNat 256 (0xF1 + s.pairState * 2 ^ 8 + bNat (s.on R.PAIR_CTRL_MODE) * 2 ^ 11 + bNat adopting * 2 ^ 12 + s.nv.inc % 2 ^ 32 * 2 ^ 32 +
    (if adopting then s.rd R.PAIR_INC_ADOPT_INC else 0) * 2 ^ 64 + s.pair.txNext * 2 ^ 96 + s.gt % 2 ^ 64 * 2 ^ 128)

/-- What a heartbeat of the mate tells. -/
def State.takeHeartbeat (s : State) (f : Flit) : State :=
  let n := f.toNat
  ({ s with pair := { s.pair with
    hbSeen := true, mateState := field n 8 3, mateAdopts := bitAt n 12, mateAdoptInc := field n 64 32 } } : State).pairDecide

end Sys2Proof.Machine
end

