-- ==== Sys2Proof/Machine/PwrOps.lean ====
section
/-! DEFINITION. Operations of the power sequencer (17_reset_power_supplies.md R611 to R637): wakes, the exits of MOSS and PEAT, the rebuild of
GT (06_timebase.md R231) and the always-on count. -/

namespace Sys2Proof.Machine

/-- Power states (Table 17.4). -/
def psRun : Nat := 0
def psMoss : Nat := 1
def psEntry : Nat := 2
def psPeat : Nat := 3
def psExit : Nat := 4
def State.powerState (s : State) : Nat := s.rd R.PWR_STATUS_STATE

/-! Wake sources (Table 17.8). -/

def wkNetEnergy : Nat := 0
def wkNetRx : Nat := 1
def wkHostReq : Nat := 2
def wkPerst : Nat := 3
def wkWakeIn : Nat := 4
def wkSmbAddr : Nat := 5
def wkAlarm : Nat := 6
def wkGtAction : Nat := 7
def wkMateDead : Nat := 8
def wkSupply : Nat := 9
def wkVrhot : Nat := 10
def wkPktHeld : Nat := 11

/-- The source wakes the device: its enable bit is 1, or it always wakes (R625). -/
def State.wakes (s : State) (bit : Nat) : Bool :=
  bitAt (s.rd R.PWR_WAKE_EN_SOURCES) bit || bit = wkNetRx || bit = wkHostReq || bit = wkPktHeld

/-- Write the last-wake record of an exit from MOSS (1) or PEAT (2) (Table 17.9). -/
def State.wakeRecord (s : State) (st : Nat) : State :=
  let (bit, detail, aon) := s.pwr.first.getD (0, 0, s.aonCount)
  let w := s.rd R.PWR_WAKE_PEND_PEND + bit % 32 * 2 ^ 32 + st * 2 ^ 37 + bNat s.pwr.during * 2 ^ 40 + detail % 128 * 2 ^ 41 +
    aon % 2 ^ 48 * 2 ^ 64 + s.aon.sleeps % 65536 * 2 ^ 112
  let s1 := (s.wr R.PWR_LAST_WAKE0_WORD0 w).wr R.PWR_LAST_WAKE1_WORD1 (w / 2 ^ 64)
  { s1 with pwr := { s1.pwr with first := none, during := false } }

/-- RUN again: TARGET is RUN (log 46), and the cores' WAIT completes (R613). -/
def State.enterRun (s : State) : State :=
  (((s.wr R.PWR_STATUS_STATE psRun).wr R.PWR_STATUS_COMMITTED 0).wr R.PWR_MODE_TARGET 0).wr R.CHIP_CORE_STATE 0

/-- Rebuild GT and UNC after a sleep of PEAT (06_timebase.md R231). -/
def State.rebuildGt (s : State) : State :=
  let lost := s.pwr.gtLost
  let n := (s.aonCount + 2 ^ 48 - s.pwr.savedAon) % 2 ^ 48
  let s0 := (s.wr R.GEYS_SLP_AON_ELAPSED n).wrB R.GEYS_SLP_INFO_VAUX_LOST lost
  if lost then s0.enterGeys gsInvalid
  else
    let used := s.on R.GEYS_SLP_INFO_BACKUP_USED
    let n1 := if used then (s.rd R.GEYS_SLP_INFO_BACKUP_AT + 2 ^ 48 - s.pwr.savedAon) % 2 ^ 48 else n
    let n2 := n - n1
    let learned := s.pwr.savedLearned
    let period := if learned then s.rd R.GEYS_AON_RATE_PERIOD else 640 * 2 ^ 16
    let acc := (s.time.acc + n1 * period * 2 ^ 24 + n2 * 640 * 2 ^ 40) % 2 ^ 104
    let grow := n1 * (if learned then 512 else 10240) + n2 * 10240
    let unc := s.pwr.savedUnc + 10240 + (grow + 9999) / 10000
    let s1 := ({ s0 with time := { s0.time with acc := acc } } : State).setUnc unc
    let s2 := s1.wr R.GEYS_STATUS_STEPPED 1
    s2.enterGeys (if unc ≤ 16 * s.rd R.GEYS_UNC_INV_UNC_INVALID then gsEstimated else gsInvalid)

/-- What PEAT does not keep is empty (Table 17.6), the HBM leaves self-refresh, and GT is rebuilt before any block reads it. -/
def State.peatRestore (s : State) : State :=
  let s1 : State := { s with
    xlt := { s.xlt with l1 := [], l2 := [], wc := [] }
    tpt := { s.tpt with cache := [] }
    trg := { s.trg with hot := [] }
    rout := { s.rout with rows := [], sent := [], throttle := [] } }
  (s1.wr R.HBM_STATUS_SELF_REFRESH 0).rebuildGt

/-- Every LP-DORMANT port requests exit, and the ports that were off for the sleep are enabled again (Table 17.7). -/
def State.peatPorts (s : State) : State :=
  (List.range 96).foldl (fun s p =>
    if s.pst p = tDorm then s.enterSend p true
    else if (s.port p).peatOff then
      let s1 := s.setPort p { s.port p with peatOff := false }
      s1.trainIfOn p
    else s) s

/-- The exit of PEAT starts (R624). -/
def State.peatWake (s : State) : State := ((s.wr R.PWR_STATUS_STATE psExit).peatRestore).peatPorts

/-- The first wake of the sleep is kept for the record. -/
def State.wakeFirst (s : State) (bit detail : Nat) : State :=
  if s.pwr.first.isSome then s else { s with pwr := { s.pwr with first := some (bit, detail, s.aonCount) } }

/-- A wake source latches (R625, R626): it ends MOSS and PEAT where it wakes the device, and is noted during an entry. -/
def State.wakeLatch (s : State) (bit detail : Nat) : State :=
  let s1 := s.wr R.PWR_WAKE_PEND_PEND (setBit (s.rd R.PWR_WAKE_PEND_PEND) bit true)
  let st := s.powerState
  if !s.wakes bit || s.pwr.held then s1
  else if st = psMoss then (((s1.wakeFirst bit detail).enterRun).wakeRecord 1).parkExpireAll
  else if st = psPeat then (s1.wakeFirst bit detail).peatWake
  else if st = psEntry then
    let s2 := (s1.wakeFirst bit detail).wr R.PWR_STATUS_ENTRY_WAKE 1
    if s2.pwr.during then s2 else ({ s2 with pwr := { s2.pwr with during := true } } : State).bump C.PWR_WAKES_DURING_ENTRY
  else s1

/-- PEAT ends at once with source SUPPLY, and GT was lost (R629, R636). -/
def State.peatLost (s : State) : State :=
  let s1 : State := { s with pwr := { s.pwr with gtLost := true } }
  ((s1.wr R.PWR_WAKE_PEND_PEND (setBit (s1.rd R.PWR_WAKE_PEND_PEND) wkSupply true)).wakeFirst wkSupply 0).peatWake

/-! ### The always-on count -/

/-- One CLK_AON cycle: the count, the alarm (Table 17.8), and the cycles spent in MOSS and PEAT (R640). -/
def State.aonTick (s : State) : State :=
  if s.aon.stopped then s
  else
    let n := (s.aonCount + 1) % 2 ^ 48
    let s1 := s.wr R.PWR_AON_COUNT n
    let st := s.powerState
    let s2 := if st = psMoss then s1.bump C.PWR_MOSS_CYCLES else if st = psPeat then s1.bump C.PWR_PEAT_CYCLES else s1
    if s2.on R.PWR_ALARM_EN && s2.rd R.PWR_ALARM_COUNT = n then (s2.wr R.PWR_ALARM_EN 0).wakeLatch wkAlarm 0 else s2

end Sys2Proof.Machine
end

