-- ==== Sys2Proof/Machine/Settle.lean ====
section
/-! DEFINITION. Resets, and what a step still owes when a command's own effect is complete: the reactions of raised faults
(18_faults.md R645 to R651, 17_reset_power_supplies.md R599 to R607). Every meaning ends with `fin`. -/

namespace Sys2Proof.Machine

/-! ### Full reset (R599 to R602, R655) -/

/-- The always-on register fields. -/
def aonFields : List RegField := (R.fieldsPWR ++ R.fieldsPIN).filter fun f => f.aon

/-- The register key belongs to the always-on domain: a POR field, or the fault page of the PIN block, which lies in that
domain (Table 17.3; log 10). -/
def aonKey (k : Nat) : Bool :=
  (aonFields.any fun f => f.key 0 0 = k) || (pgPin * 64 ≤ k && k < (pgPin + 0x48) * 64)

def rcPor : Nat := 0
def rcResetN : Nat := 1
def rcCommand : Nat := 2
def rcExpert : Nat := 3
def rcFault : Nat := 4
def rcWatchdog : Nat := 5
def rcUndervolt : Nat := 6
def rcSaveBad : Nat := 7
def rcFirmware : Nat := 8

/-- The reset record of R655: page and source of a FAULT reset, 0 for WATCHDOG, and the loop count. -/
def resetRecord (s : State) (cause page source : Nat) : State :=
  if cause = rcFault || cause = rcWatchdog then
    let now := s.rd R.PWR_AON_COUNT
    let last := s.rd R.PIN_RSTF1_AON
    let loops := s.rd R.PIN_RSTF0_LOOPS
    let l := if loops ≠ 0 && (now + 2 ^ 48 - last) % 2 ^ 48 < 250000000 then min 255 (loops + 1) else 1
    (((s.wr R.PIN_RSTF0_PAGE page).wr R.PIN_RSTF0_SOURCE source).wr R.PIN_RSTF0_LOOPS l).wr R.PIN_RSTF1_AON now
  else s.wr R.PIN_RSTF0_LOOPS 0

/-- FULL_RESET (R602): every block outside the always-on domain goes to its reset state and is held. -/
def State.fullReset (s : State) (cause detail page source : Nat) : State :=
  let s1 := resetRecord s cause page source
  let s2 := ((s1.wr R.RST_CAUSE_CAUSE cause).wr R.RST_CAUSE_DETAIL detail).wr R.RST_CAUSE_FULL_RESETS
    (min 0xFFFF (s1.rd R.RST_CAUSE_FULL_RESETS + 1))
  let s3 := (s2.wr R.PWR_SUPPLY_ISOL_A 0).wr R.PWR_SUPPLY_ISOL_B 0
  { State.reset with
    pending := s.pending
    free := s.free
    out := .resetStart :: s.out
    nv := s.nv
    aon := s.aon
    deferred := s.deferred.filter fun kv => kv.1 = pgPin
    pin := { tap := s.pin.tap, shift := s.pin.shift, instr := s.pin.instr, cells := s.pin.cells }
    regs := s3.regs.filter fun kv => aonKey kv.1 && kv.1 ≠ R.FLT_FORCE_HOLD.key pgPin 0 }

/-! ### Block reset (R604) -/

/-- Both lanes and the link of a port are reset together; the port enters T_OFF, then T_SEND when EN is 1 and it may train (R604). -/
def State.portReset (s : State) (p : Nat) : State :=
  let s0 := s.enterOff p
  let s1 := [2 * p, 2 * p + 1].foldl (fun s l => (s.setLane l {}).resetRo R.fieldsLANE l) s0
  let s2 := ((s1.setPort p {}).resetRo R.fieldsPORT p).setLink p {}
  let s3 := s2.resetRo R.fieldsLINK p
  let s4 := (List.range 8).foldl (fun s v => s.setInVc p v { s.inVc p v with discarding := false }) s3
  (s4.trainIfOn p).lineUpdate

/-- A block reset of CMD: every started command ends without a reply, and the RO fields but those of CMD_CFG take their reset values, the
MCTP endpoint ID among them (log 75). -/
def State.cmdReset (s : State) : State :=
  let fields := R.fieldsCMD.filter fun f => f.addr ≠ R.CMD_CFG_SMB_ADDR.addr
  ({ s with
    cmd := { s.cmd with waiting := [], started := [], nonces := [], failRun := 0 }
    rout := { s.rout with unadmitted := s.rout.unadmitted.filter fun u => u.e ≠ 11 || hPtype (u.pkt.headD 0) ≠ ptMgmtReq } } : State).resetRo fields 0

/-- Take one owed reaction. -/
def State.takeReaction (s : State) (r : Reaction) : State :=
  match r with
  | .msix h vec => s.msixSend (fkey h 0) vec
  | .blockReset page =>
    let s1 := { s with blockResetAt := tput 0 s.blockResetAt page (s.time.cycles + 1) }
    match pageKind page with
    | some (.lane, l) => s1.portReset (l / 2)
    | some (.link, p) => s1.portReset p
    | some (.geys, _) => s1.geysReset
    | some (.schd, _) => s1.schdReset
    | some (.cmd, _) => s1.cmdReset
    | _ => s1
  | .chipReset page source => s.fullReset rcFault 0 page source

/-- The chip-reset reaction of the lowest page, if any (R648). -/
def chipOf (rs : List Reaction) : Option (Nat × Nat) :=
  rs.foldl (fun b r => match r, b with
    | .chipReset p x, none => some (p, x)
    | .chipReset p x, some (q, y) => if p < q then some (p, x) else some (q, y)
    | _, b => b) none

/-- Take the reactions owed: a chip reset takes the place of every other one. -/
def State.react1 (s : State) : State :=
  let s1 : State := { s with reactions := [] }
  match chipOf s.reactions with
  | some (p, x) => s1.fullReset rcFault 0 p x
  | none => (s.reactions.foldl State.takeReaction s1).carrWatch.groupsWake

/-- Take reactions, and those that these cause, until none is owed; a chain of reactions is shorter than the bound. -/
def State.reactAll : Nat → State → State
  | 0, s => { s with reactions := [] }
  | n + 1, s => if s.reactions.isEmpty then s else s.react1.reactAll n

/-- The blocks outside the always-on domain run: no full reset holds them, and the device is not in PEAT (Table 17.3). -/
def State.runs (s : State) : Bool := s.up && s.rd R.PWR_STATUS_STATE ≠ 3

/-- Caldera serves commands: firmware or the boot ROM's load mode runs, the device is in RUN, and no live activation is on (R590, R596). -/
def State.serving (s : State) : Bool := s.runs && s.powerState = psRun && (s.fwRuns || s.pwr.boot = .load)

/-- The commands whose buffers give them no parameters, and whose turn has come, end (16_command_packets.md R574). -/
def State.refuseBufs (s : State) : State :=
  if !s.serving || s.fw.live.isSome then s else (s.cmd.waiting.filter WaitCmd.bad).foldl State.refuseBuf s

/-- What a command owes when its own effect is complete: the commands that wait for transport contexts go on (14_collectives.md R501),
those without parameters end, and every reaction is taken. -/
def State.settle (s : State) : State := s.groupsWake.refuseBufs.reactAll 8

/-- The state a command leaves: ERR_N_SENSE follows the net, and nothing is owed. -/
def State.ended (s : State) : State := s.senseEval.settle

/-- The end of every meaning. -/
def fin (s : State) : Host.Outcome State Fault Refusal := .next s.ended

/-- A meaning of a block outside the always-on domain: it has no effect while the block is held in reset or gated (R602, R611). -/
def live (s : State) (f : State → State) : Host.Outcome State Fault Refusal := if s.runs then fin (f s) else .next s

/-- A meaning that can change the state of a link: the CARR ports are looked at before it ends (15_pair_operation.md R544). -/
def liveLink (s : State) (f : State → State) : Host.Outcome State Fault Refusal := if s.runs then fin (f s).carrWatch else .next s

/-- A meaning of an engine whose clock MOSS gates (R616): it has no effect in MOSS either, nor before the exit of PEAT is complete. -/
def engine (s : State) (f : State → State) : Host.Outcome State Fault Refusal :=
  if s.runs && s.powerState ≠ psMoss && s.powerState ≠ psExit then fin (f s) else .next s

/-- A request of the host of port `h` to BAR0: in MOSS it is itself a wake and takes effect after the exit (R617). -/
def hostWrites (h : Nat) (s : State) (f : State → State) : Host.Outcome State Fault Refusal :=
  if s.runs then fin (f (if s.powerState = psMoss then s.wakeLatch wkHostReq h else s)) else .next s

end Sys2Proof.Machine
end

