-- ==== Sys2Proof/Machine/Views.lean ====
section
/-! DEFINITION. Reading the register space (22_register_space.md R734 to R743; 00_scope.md R9 to R12): the fields at an address, the fields
that show other state, the tables, the function BARs. -/

namespace Sys2Proof.Machine

/-! ### Fields at an address -/

/-- Instance and index of a field whose word lies at an address. -/
def RegField.at (f : RegField) (a : Nat) : Option (Nat × Nat) :=
  if a < f.addr then none
  else
    let d := a - f.addr
    let i := if f.count = 1 then 0 else d / f.stride
    let r := d - f.stride * i
    if i ≥ f.count then none
    else if f.steps = 1 then (if r = 0 then some (i, 0) else none)
    else if r % f.step = 0 && r / f.step < f.steps then some (i, r / f.step) else none

/-- The fields of the block that holds an address of the global space (Table 22.1); the FUNC and CMD fields of BAR0 lie above 2^32. -/
def blockFields (a : Nat) : List RegField :=
  let b := a / 0x100000
  if a ≥ 2 ^ 32 then R.fieldsFUNC ++ R.fieldsFCMD
  else if b = 0 then R.fieldsCHIP else if b = 1 then R.fieldsPWR else if b = 2 then R.fieldsPIN else if b = 3 then R.fieldsGEYS
  else if b = 4 then R.fieldsCNT else if b = 5 then R.fieldsFWU else if b = 6 then R.fieldsCMD else if b = 7 then R.fieldsPAIR
  else if b < 0x10 then []
  else if b < 0x13 then R.fieldsLANE ++ R.fieldsPORT
  else if 0x20 ≤ b && b < 0x26 then R.fieldsLINK
  else if b < 0x30 then []
  else if b < 0x40 then R.fieldsROUT else if b < 0x50 then R.fieldsSCHD else if b < 0x60 then R.fieldsHIF
  else if b < 0x70 then R.fieldsQUE else if b < 0x80 then R.fieldsXLT else if b < 0x90 then R.fieldsTPT
  else if b < 0xA0 then R.fieldsWIN else if b < 0xB0 then R.fieldsMAT else if b < 0xC0 then R.fieldsTRG
  else if b < 0xD0 then R.fieldsCOLL else if b < 0xE0 then R.fieldsHBM else []

/-- The fields of the word at an address, each with its instance and index. -/
def wordFields (a : Nat) : List (RegField × Nat × Nat) :=
  (blockFields a).filterMap fun f => (f.at a).map fun ij => (f, ij.1, ij.2)

/-! ### Fault pages and counter pages -/

/-- The fault page that holds an address, and the offset in it (Table 22.1). -/
def pageAt (a : Nat) : Option (Nat × Nat) :=
  let inLane := 0x01000000 ≤ a && a < 0x01300000
  let inLink := 0x02000000 ≤ a && a < 0x02600000
  let off := if inLane || inLink then a % 0x1000 else a % 0x10000
  let page := a - off
  if off < 0x48 && (pageKind page).isSome then some (page, off) else none

/-- The words a block's counter page assigns (19_performance_counters.md R660, R664 and the lists of the chapters). -/
def pageWords (base : Nat) : Nat :=
  if base = 0x001E0000 then 10 else if base = 0x003E0000 then 5 else if base = 0x004E0000 then 5 else if base = 0x006E0000 then 12
  else if base = 0x007E0000 then 12 else if base = 0x030E0000 then 17 else if base = 0x040E0000 then 16
  else if base = 0x050E0000 then 17 else if base = 0x060E0000 then 15 else if base = 0x070E0000 then 15
  else if base = 0x080E0000 then 24 else if base = 0x090E0000 then 10 else if base = 0x0A0E0000 then 20
  else if base = 0x0B0E0000 then 13 else if base = 0x0C0E0000 then 15 else if base = 0x0D0E0000 then 5 else 0

/-- Whether a counter word lies at an address. -/
def isCounter (a : Nat) : Bool :=
  if 0x01000000 ≤ a && a < 0x01300000 then a % 8 = 0 && 0x2000 ≤ a % 0x4000 && a % 0x4000 < 0x2000 + 8 * 5
  else if 0x02000000 ≤ a && a < 0x02600000 then a % 8 = 0 && 0x2000 ≤ a % 0x10000 && a % 0x10000 < 0x2000 + 8 * 14
  else if 0x00410000 ≤ a && a < 0x00410000 + 16 * 96 then a % 8 = 0
  else a % 8 = 0 && a % 0x10000 < 8 * pageWords (a - a % 0x10000)

/-- The value and OVF fields of the counter word at an address. -/
def cntField (a : Nat) : RegField := ⟨a, 0, 1, 0, 1, 0, 48, .ro, 0, .any, false⟩

def State.cntWord (s : State) (a : Nat) : Nat := s.rd (cntField a) + s.rd (ovfOf (cntField a)) * 2 ^ 48

/-- The word of a fault page at an offset (18_faults.md Table 18.6). -/
def State.faultWord (s : State) (page off : Nat) : Nat :=
  if off = 0x00 then s.rd R.FLT_STAT_STAT page
  else if off = 0x08 then s.liveOf page
  else if off = 0x10 then s.rd R.FLT_FORCE_HOLD page * 2 ^ 16
  else if off = 0x18 then ((List.range 16).map fun n => s.react page n * 2 ^ (4 * n)).sum
  else if off = 0x20 then s.rd R.FLT_GRACE_GRACE page + s.rd R.FLT_GRACE_RUNNING page * 2 ^ 40
  else if off = 0x28 then s.trapData page / 2 ^ 128 % 2 ^ 64
  else if off = 0x30 then s.rd R.FLT_FIRST_GT_GT page
  else if off = 0x38 then s.rd R.FLT_COUNT_COUNT page
  else if off = 0x40 then s.rd R.FLT_VECTOR_VEC page + s.rd R.FLT_VECTOR_HPORT page * 2 ^ 11 + s.rd R.FLT_VECTOR_EN page * 2 ^ 13
  else 0

/-! ### Fields that show other state -/

/-- Bits that a list of conditions sets. -/
def bitsOf (n : Nat) (f : Nat → Bool) : Nat := ((List.range n).map fun i => bNat (f i) * 2 ^ i).sum

/-- Word j of a window-table entry (Table 11.4). -/
def winWord (w : WinEntry) (j : Nat) : Nat :=
  if j = 0 then
    w.state + bNat w.opened * 2 ^ 2 + bNat w.permRead * 2 ^ 4 + bNat w.permWrite * 2 ^ 5 + bNat w.scopePid * 2 ^ 6 + bNat w.cntEn * 2 ^ 7 +
      w.gen * 2 ^ 8 + w.hport * 2 ^ 16 + w.func * 2 ^ 18 + w.ctx * 2 ^ 24 + w.job * 2 ^ 40
  else if j = 1 then w.peerPid + w.cntIdx * 2 ^ 20
  else if j = 3 then w.base else if j = 4 then w.length else if j = 5 then w.freeGt else 0

/-- XLT_CTX_VIEW of a context (Table 10.8). -/
def ctxView (c : CtxFields) : Nat :=
  bNat c.valid + c.levels * 2 + bNat c.priv * 2 ^ 3 + bNat c.amEn * 2 ^ 4 + bNat c.supDataU * 2 ^ 5 + bNat c.parkEn * 2 ^ 6 + c.hport * 2 ^ 7 +
    c.func * 2 ^ 9 + c.pasid * 2 ^ 15

/-- TPT_TC_VIEW of a peer (Table 11.6). -/
def State.tcView (s : State) (k : Nat) : Nat :=
  let t := s.tc k
  t.txState + bNat t.known * 2 ^ 2 + bNat t.rxSync * 2 ^ 3 + bNat (s.tpt.cache.contains k) * 2 ^ 4 + idxSub t.txNext t.txUna % 2 ^ 11 * 2 ^ 5 +
    t.rtoExp * 2 ^ 16 + t.peerInc * 2 ^ 20

/-- QP_STATE of a queue pair (Table 9.12). -/
def Qp.stateWord (x : Qp) : Nat :=
  bNat x.error + x.cause * 2 + bNat x.cqFull * 2 ^ 4 + bNat x.fallback * 2 ^ 5 + x.staged.length * 2 ^ 6

/-- COLL_GRP_VIEW (Table 14.6). -/
def Group.view (g : Group) (gid : Nat) : Nat :=
  if !g.valid then 0
  else 1 + bNat g.stale * 2 + g.p.dimMask * 2 ^ 2 + g.p.localCnt * 2 ^ 6 + g.p.depth * 2 ^ 10 + gid % 8 * 2 ^ 15 + g.p.job * 2 ^ 18 +
    g.oldest % 4096 * 2 ^ 34

/-- Segments in progress on a reduction unit: those of the phase each unfinished instance is in. -/
def State.unitActive (s : State) (u : Nat) : Nat :=
  ((s.coll.groups.filter fun kv => kv.1 % 8 = u && kv.2.valid).map fun kv =>
    ((kv.2.insts.filter fun i => i.ended.isNone && i.phase.isSome).map fun i => max 1 ((i.vec.length + 4095) / 4096)).sum).sum

/-- MAT_QP_VIEW (Table 12.4); the match unit of R458. -/
def State.matQpView (s : State) (q : Nat) : Nat :=
  let x := s.qp q
  x.posted.length + x.unexpected * 2 ^ 26 + bNat x.prqHeld.isSome * 2 ^ 50 +
    bNat x.valid * (q % 16) * 2 ^ 51

/-- PAIR_STATUS.TRUSTED and the stored fields of a word of the PAIR block. -/
def State.pairWord (s : State) (a w : Nat) : Nat := if a = 0x700010 then setBit w 5 s.trusted else w

/-- Computed words of ROUT: DRAINED, the armed target, the bank CRCs, the usable ports under the exclusion of the active bank (R273; DESIGN
CHOICE, log 204). -/
def State.routWord (s : State) (a w : Nat) : Nat :=
  if a = 0x3000010 then setBit w 3 s.drained
  else if a = 0x3000020 then (match s.rout.armed with
    | some f => f.target
    | none => w)
  else if a = 0x3000058 then s.bankCrc 0 + s.bankCrc 1 * 2 ^ 32
  else if a = 0x3000080 then bitsOf 64 fun p => s.usable s.activeBank p
  else if a = 0x3000088 then bitsOf 32 fun p => s.usable s.activeBank (64 + p)
  else if 0x3100000 ≤ a && a < 0x3110000 then tget 0 (s.aliasBank ((a - 0x3100000) / 0x8000)) ((a - 0x3100000) % 0x8000 / 8)
  else if 0x3200000 ≤ a && a < 0x3200400 then
    s.rowView ((a - 0x3200000) / 0x100) ((a - 0x3200000) % 0x100 / 8)
  else if 0x3300000 ≤ a && a < 0x3300000 + 8 * 1024 then
    (match s.rout.throttle[(a - 0x3300000) / 8]? with
    | some t => t.dpid + (t.rate - 1) * 2 ^ 20 + 2 ^ 28
    | none => 0)
  else w

/-- Computed words of SCHD: START_GT, the position, and the prefetch windows (Table 8.12). -/
def State.schdWord (s : State) (a w : Nat) : Nat :=
  if a = 0x4000008 && s.schdActive then s.schd.startGt
  else if a = 0x4000018 && s.schdState = ssRunning then
    let n := s.imgCycle s.runBuf
    s.iterNow % 2 ^ 44 + (s.slotAt s.gt).toNat % (if n = 0 then 1 else n) * 2 ^ 44
  else if a = 0x4000068 then s.breachCount
  else if 0x4100000 ≤ a && a < 0x4100000 + 0x800 * 106 then s.windowEntry ((a - 0x4100000) / 0x800) ((a - 0x4100000) % 0x800 / 8)
  else w

/-- Computed words of HIF and QUE. -/
def State.queWord (s : State) (a w : Nat) : Nat :=
  if 0x5100000 ≤ a && a < 0x5100000 + 8 * 256 then
    let k := (a - 0x5100000) / 8
    s.fnState k + s.rd R.FUNC_STATUS_PEND k * 4 + s.rd R.FUNC_STATUS_ENABLE_DISCARDED k * 8 + s.rd R.FUNC_STATUS_DMA_ERR k * 16
  else if a = 0x6000008 then s.heldUsed
  else
    let x := s.qp (s.rd R.QUE_QP_SEL_QIDX)
    if a = 0x6000018 then
      if x.valid then x.p.hport + x.p.func * 4 + x.slot * 2 ^ 8 + x.p.dbMode * 2 ^ 21 + 2 ^ 23 else 0
    else if a = 0x6000020 then x.sqObs + x.sqFetch * 2 ^ 32
    else w

/-- Computed words of XLT, TPT and WIN. -/
def State.xltWord (s : State) (a w : Nat) : Nat :=
  if a = 0x7000008 then setField w 34 11 (s.xlt.parks.filter fun kv => kv.2.used).length
  else if a = 0x7000018 then ctxView (s.ctx (s.rd R.XLT_CTX_SEL_CTX))
  else if a = 0x7000020 then (s.ctx (s.rd R.XLT_CTX_SEL_CTX)).root * 4096
  else if a = 0x8000008 then s.effLifetime
  else if 0x8000028 ≤ a && a ≤ 0x8000038 then
    let k := tcKey 0 (s.rd R.TPT_TC_SEL_PID)
    let t := s.tc k
    if a = 0x8000028 then s.tcView k else if a = 0x8000030 then t.txNext + t.txUna * 2 ^ 32
    else if a = 0x8000038 then t.rxExpected + t.nextOpid * 2 ^ 32 else w
  else if a = 0x9000008 then
    let n := fun f : Nat → Bool => (s.win.wins.filter fun kv => f kv.2.state).length
    n (fun t => t = wsOpen || t = wsRevoking) + n (fun t => t = wsCooling) * 2 ^ 25
  else if 0x9000040 ≤ a && a < 0x9000080 then winWord (s.window (s.rd R.WIN_SEL_INDEX)) ((a - 0x9000040) / 8)
  else w

/-- Computed words of MAT, TRG and COLL. -/
def State.matWord (s : State) (a w : Nat) : Nat :=
  if a = 0xA000010 then s.mireHdrUsed + s.mireBlkUsed * 2 ^ 24
  else if a = 0xA000018 then s.prqUsed
  else if a = 0xA000020 then s.mat.reorder.length
  else if a = 0xA000030 then s.matQpView (s.rd R.MAT_QP_SEL_QIDX)
  else if a = 0xA000038 then (s.qp (s.rd R.MAT_QP_SEL_QIDX)).nextPost
  else if a = 0xB000000 then s.pendUsed
  else if a = 0xB000008 then s.cmpUsed + (s.trg.armed.filter fun x => !x.comparator).length * 2 ^ 17
  else if a = 0xB000010 then s.trg.hot.length
  else if a = 0xB000020 then (s.tally (s.rd R.TRG_CNT_SEL_INDEX)).value
  else if a = 0xB000028 then
    let t := s.tally (s.rd R.TRG_CNT_SEL_INDEX)
    t.fail + t.lastStatus * 2 ^ 32 + bNat t.late * 2 ^ 40 + bNat t.alloc * 2 ^ 41 + t.hport * 2 ^ 42 + t.func * 2 ^ 44
  else if a = 0xB000040 then
    s.qpCntWord (s.rd R.TRG_QP_SEL_QIDX)
  else w

def State.collWord (s : State) (a w : Nat) : Nat :=
  let gid := s.rd R.COLL_GRP_SEL_GID
  let g := s.group gid
  if a = 0xC000000 then ((s.coll.groups.filter fun kv => kv.2.valid).map fun kv => kv.2.size).sum
  else if a = 0xC000010 then g.view gid
  else if a = 0xC000018 then bNat g.valid * (g.p.mask0 + g.p.mask1 * 2 ^ 32)
  else if a = 0xC000020 then bNat g.valid * (g.p.mask2 + g.p.mask3 * 2 ^ 32)
  else if a = 0xC000028 then bNat g.valid * (g.base + g.size * 2 ^ 12)
  else if 0xC000040 ≤ a && a < 0xC000080 then s.unitActive ((a - 0xC000040) / 8)
  else w

/-- The anti-rollback floor of a component (20_firmware_and_trust.md R694): the greater of M_c and 256 C_c. -/
def State.svnFloor (s : State) (c : Nat) : Nat := max (tget 0 s.nv.svn c) (256 * tget 0 s.nv.coarse c)

/-- Seconds left of the confirm timer (R693); 25,000,000 always-on cycles are one second. A time that has passed leaves 0. -/
def State.confirmRemain (s : State) : Nat :=
  match s.aon.confirmEnd with
  | some e =>
    let left := (e + 2 ^ 48 - s.aonCount) % 2 ^ 48
    if left ≥ 2 ^ 47 then 0 else (left + 24999999) / 25000000
  | none => 0

/-- ALIVE holds, and FUMAROLE toggles (18_faults.md R653). -/
def State.alive (s : State) : Bool := s.phase ≠ phStartup && s.up && !s.on R.PIN_FUM_STOP

/-- Computed words of the always-on blocks, GEYS, FWU/SEC and CMD. -/
def State.sysWord (s : State) (a w : Nat) : Nat :=
  if a = 0x200008 then setBit w 1 s.alive
  else if a = 0x200010 then setField w 1 2 (bNat s.errAny + 2 * bNat (s.errDriven || s.aon.errLow))
  else if a = 0x300000 then s.gt % 2 ^ 64
  else if a = 0x500000 then
    let n := s.nv
    setField (setField (setField w 2 2 (bNat n.trialImg + 2 * bNat n.trialCfg)) 5 3 (n.trialBoots % 4 + 4 * bNat n.activeCfg)) 12 1 (bNat n.floorPending)
      |> fun w => setBit w 0 n.activeImg
  else if a = 0x500018 then setField w 16 17 s.confirmRemain
  else if 0x500100 ≤ a && a < 0x500180 then
    let c := (a - 0x500100) / 8
    s.svnFloor c + tget 0 s.nv.svn c * 2 ^ 16 + tget 0 s.nv.coarse c * 2 ^ 32 +
      (((s.fw.comps.find? fun x => x.1 = c).map fun x => x.2.1).getD 0) * 2 ^ 40
  else if 0x500200 ≤ a && a < 0x500240 then field s.nv.vkh (64 * ((a - 0x500200) / 8)) 64
  else if 0x500340 ≤ a && a < 0x500380 then field (tget 0 s.nv.journal (s.rd R.SEC_JRN_SEL_INDEX)) (64 * ((a - 0x500340) / 8)) 64
  else if a = 0x600010 then setField w 0 4 (s.inflight .smbus)
  else w

/-- LANE_TXEQ: the coefficients in use while OVR is 0 (04_lanes.md R157). -/
def State.laneWord (s : State) (a w : Nat) : Nat :=
  let l := (a - 0x1000000) / 0x4000
  if a % 0x4000 = 8 && !s.on R.LANE_TXEQ_OVR l then
    let x := s.lane l
    setField (setField (setField w 0 5 x.pre) 5 7 x.main) 12 5 x.post
  else w

/-- What a word shows, from the word of its stored fields. -/
def State.shown (s : State) (a w : Nat) : Nat :=
  let b := a / 0x1000000
  if a < 0x700000 then s.sysWord a w else if b = 0 then s.pairWord a w
  else if b = 1 then s.laneWord a w else if b = 3 then s.routWord a w
  else if b = 4 then s.schdWord a w else if b = 5 || b = 6 then s.queWord a w else if 7 ≤ b && b ≤ 9 then s.xltWord a w
  else if b = 0xA || b = 0xB then s.matWord a w else if b = 0xC then s.collWord a w else w

/-- The stored fields of a word; WO fields read 0 (R12). -/
def State.storedWord (s : State) (fs : List (RegField × Nat × Nat)) : Nat :=
  (fs.map fun x => if x.1.acc = .wo then 0 else s.rd x.1 x.2.1 x.2.2 * 2 ^ x.1.low).sum

/-- The 64-bit register at an aligned address of the global space (R734); what no chapter assigns reads 0. -/
def State.readReg (s : State) (a : Nat) : Nat :=
  match pageAt a with
  | some (page, off) => s.faultWord page off
  | none => if isCounter a then s.cntWord a else s.shown a (s.storedWord (wordFields a))

/-! ### Reads of BAR0 (R741, 09_host_attach_and_queues.md R324, R330) -/

/-- The BAR0 address of a function as the field tables number it. -/
def bar0Base (k : Nat) : Nat := 2 ^ 32 + 2 ^ 20 * k

/-- The 64-bit word at an aligned offset of the BAR0 of a function. -/
def State.readBar0 (s : State) (k off : Nat) : Nat :=
  let w := s.storedWord (wordFields (bar0Base k + off))
  if s.fnState k = fsWedged then (if off = 0x08 then w else 0)
  else if off = 0x10 then keyFunc k + keyPort k * 2 ^ 6 + maxVec k * 2 ^ 8 + 7168 * 2 ^ 20
  else if off = 0x68 then
    setField w 4 5 (s.inflight (.ring ⟨keyPort k % 4, Nat.mod_lt _ (by decide)⟩ ⟨keyFunc k, Nat.mod_lt _ (by decide)⟩)) |> fun w =>
      setBit w 0 (s.cmd.started.any fun c => fnOfPath c.ref.path = some k)
  else if off < 0x88 then w
  else if 0x10000 ≤ off && off < 0x80000 then
    match s.qpAt k ((off - 0x10000) / 64) with
    | none => 0
    | some q =>
      let x := s.qp q
      let r := off % 64
      if r = 0x20 then x.sqCi else if r = 0x28 then x.rqCi else if r = 0x30 then x.cqPi else if r = 0x38 then x.stateWord else 0
  else if 0x80000 ≤ off && off < 0x80000 + 16 * maxVec k then
    let m := s.msixAt k ((off - 0x80000) / 16)
    if off % 16 = 0 then m.addr else m.data + bNat m.masked * 2 ^ 32
  else if 0x88000 ≤ off && off < 0x88100 then
    bitsOf 64 fun i => let v := 8 * (off - 0x88000) + i; v < maxVec k && (s.msixAt k v).pending
  else 0

end Sys2Proof.Machine
end

