-- ==== Sys2Proof/Machine/BootOps.lean ====
section
/-! DEFINITION. MRAM records that commands write (20_firmware_and_trust.md R707 to R709). -/

namespace Sys2Proof.Machine

/-- A command wrote the boot record less than 10 s ago (R708). -/
def State.bootBusy (s : State) : Bool := s.aon.bootAt ≠ 0 && (s.aonCount + 2 ^ 48 - (s.aon.bootAt - 1)) % 2 ^ 48 < 250000000

/-- A command writes the boot record now. -/
def State.bootStamp (s : State) : State := { s with aon := { s.aon with bootAt := s.aonCount + 1 } }

/-- A journal entry whose data bytes the spec does not give: they are a free value (log 4). -/
def State.journalOpen (s : State) (type : Nat) : State :=
  let (d, s1) := s.draw 384
  s1.journal type d

/-- An MRAM write has failed its second read-back (R707). -/
def State.mramFail (s : State) : State := (s.raise pgFwu 2).journalOpen jrMramErr

/-- Set several fields. -/
def State.wrs (s : State) (l : List (RegField × Nat)) : State := l.foldl (fun s x => s.wr x.1 x.2) s

/-- Change the non-volatile state. -/
def State.setNv (s : State) (f : NvState → NvState) : State := { s with nv := f s.nv }

end Sys2Proof.Machine
end

