-- ==== Sys2Proof/Machine/Crypto.lean ====
section
/-! DEFINITION. The hash and the signature check that 20_firmware_and_trust.md R679 and R680 name: SHA-512 (FIPS 180-4) and RSASSA-PSS
verification (RFC 8017, 8.1.2 and 9.1.2) for RSA-4096 with exponent 65,537 (log 61). -/

namespace Sys2Proof.Machine

def isPrime (n : Nat) : Bool := 2 ≤ n && (List.range n).all fun d => d < 2 || n % d ≠ 0

/-- The first 80 primes. -/
def primes80 : List Nat := (List.range 410).filter isPrime

/-- The largest r below 2^72 with r^k ≤ n. -/
def rootOf (k n : Nat) : Nat :=
  (List.range 72).foldl (fun r i => let x := r + 2 ^ (71 - i); if x ^ k ≤ n then x else r) 0

/-- The round constants: the first 64 bits of the fractional parts of the cube roots of the first 80 primes. -/
def shaK : List Word := primes80.map fun p => BitVec.ofNat 64 (rootOf 3 (p * 2 ^ 192))

/-- The initial hash value: the same of the square roots of the first 8 primes. -/
def shaInit : List Word := (primes80.take 8).map fun p => BitVec.ofNat 64 (rootOf 2 (p * 2 ^ 128))

def beNat (bs : List Byte) : Nat := ofBytes bs.reverse
def beBytes (n v : Nat) : List Byte := (toBytes n v).reverse

def rotr (x : Word) (n : Nat) : Word := x.rotateRight n

/-- The eight working variables. -/
structure ShaVars where
  a : Word
  b : Word
  c : Word
  d : Word
  e : Word
  f : Word
  g : Word
  h : Word
  deriving DecidableEq, Repr

/-- One round. -/
def shaRound (v : ShaVars) (kw : Word × Word) : ShaVars :=
  let s1 := rotr v.e 14 ^^^ rotr v.e 18 ^^^ rotr v.e 41
  let ch := (v.e &&& v.f) ^^^ (~~~v.e &&& v.g)
  let t1 := v.h + s1 + ch + kw.1 + kw.2
  let s0 := rotr v.a 28 ^^^ rotr v.a 34 ^^^ rotr v.a 39
  let maj := (v.a &&& v.b) ^^^ (v.a &&& v.c) ^^^ (v.b &&& v.c)
  { a := t1 + s0 + maj, b := v.a, c := v.b, d := v.c, e := v.d + t1, f := v.e, g := v.f, h := v.g }

/-- The message schedule, latest word first. -/
def shaExtend : Nat → List Word → List Word
  | 0, r => r
  | n + 1, r =>
    let x2 := r.getD 1 0
    let x15 := r.getD 14 0
    let s1 := rotr x2 19 ^^^ rotr x2 61 ^^^ (x2 >>> 6)
    let s0 := rotr x15 1 ^^^ rotr x15 8 ^^^ (x15 >>> 7)
    shaExtend n ((s1 + r.getD 6 0 + s0 + r.getD 15 0) :: r)

/-- The words of a 128-byte block. -/
def shaWords (b : List Byte) : List Word := (List.range 16).map fun i => BitVec.ofNat 64 (beNat (bytesAt b (8 * i) 8))

/-- One block. -/
def shaBlock (h : List Word) (b : List Byte) : List Word :=
  let v : ShaVars := {
    a := h.getD 0 0, b := h.getD 1 0, c := h.getD 2 0, d := h.getD 3 0, e := h.getD 4 0, f := h.getD 5 0, g := h.getD 6 0, h := h.getD 7 0 }
  let w := (shaExtend 64 (shaWords b).reverse).reverse
  let r := (shaK.zip w).foldl shaRound v
  List.zipWith (· + ·) h [r.a, r.b, r.c, r.d, r.e, r.f, r.g, r.h]

/-- The blocks of a padded message. -/
def shaBlocks : Nat → List Word → List Byte → List Word
  | 0, h, _ => h
  | n + 1, h, bs => shaBlocks n (shaBlock h (bs.take 128)) (bs.drop 128)

/-- SHA-512 of a string of bytes. -/
def sha512 (m : List Byte) : List Byte :=
  let z := (239 - m.length % 128) % 128
  let p := m ++ 0x80#8 :: (List.replicate z 0#8 ++ beBytes 16 (8 * m.length))
  (shaBlocks (p.length / 128) shaInit p).flatMap fun w => beBytes 8 w.toNat

/-- x^65537 mod n. -/
def powE (x n : Nat) : Nat := ((List.range 16).foldl (fun y _ => y * y % n) (x % n)) * x % n

/-- MGF1 with SHA-512. -/
def mgf1 (seed : List Byte) (len : Nat) : List Byte :=
  ((List.range ((len + 63) / 64)).flatMap fun i => sha512 (seed ++ beBytes 4 i)).take len

/-- EMSA-PSS verification of a 512-byte encoded message of 4,095 bits, salt of 64 bytes. -/
def pssOk (m em : List Byte) : Bool :=
  let masked := em.take 447
  let h := bytesAt em 447 64
  let db := List.zipWith (· ^^^ ·) masked (mgf1 h 447)
  let db1 := (db.headD 0 &&& 0x7F) :: db.drop 1
  let salt := db1.drop 383
  beNat (em.drop 511) = 0xBC && (masked.headD 0).toNat < 0x80 && (db1.take 382).all (fun b => b = 0) && beNat (bytesAt db1 382 1) = 1 &&
    sha512 (List.replicate 8 0#8 ++ sha512 m ++ salt) = h

/-- A signature of R680: RSA-4096 modulus `n` and signature `sig`, 512 octets each, first octet first. -/
def sigOk (n m sig : List Byte) : Bool :=
  let nn := beNat n
  let s := beNat sig
  n.length = 512 && sig.length = 512 && nn ≥ 2 ^ 4095 && s < nn && pssOk m (beBytes 512 (powE s nn))

end Sys2Proof.Machine
end

