-- ==== Sys2Proof/Machine/FwOps.lean ====
section
/-! DEFINITION. Operations over images, packages, configurations and trials (20_firmware_and_trust.md R678 to R703). -/

namespace Sys2Proof.Machine

/-! ### Serial flash and configuration slots (R678, R687) -/

/-- Offset of an image slot in the flash: false A, true B. -/
def slotOff (b : Bool) : Nat := if b then 0x2000000 else 0
def stagingOff : Nat := 0x4000000
def stagingSize : Nat := 0x4000000
def slotSize : Nat := 0x2000000

def State.flashRead (s : State) (a n : Nat) : List Byte := (List.range n).map fun i => tget 0xFF s.nv.flash (a + i)
def State.flashErase (s : State) (a n : Nat) : State :=
  s.setNv fun x => { x with flash := x.flash.filter fun c => c.1 < a || a + n ≤ c.1 }
def State.flashWrite (s : State) (a : Nat) (bs : List Byte) : State := s.setNv fun x => { x with flash := writeCells x.flash 0xFF a bs }

/-- Bytes of an image slot. -/
def State.slotRead (s : State) (b : Bool) (off n : Nat) : List Byte := s.flashRead (slotOff b + off) n

/-- Offset of a configuration slot in the MRAM. -/
def cfgOff (b : Bool) : Nat := if b then 0x20000 else 0
def State.cfgRead (s : State) (b : Bool) (off n : Nat) : List Byte := (List.range n).map fun i => tget 0 s.nv.cfg (cfgOff b + off + i)
def State.cfgBad (s : State) (b : Bool) : Bool := if b then s.nv.cfgBadB else s.nv.cfgBadA

/-- Write a configuration slot. -/
def State.cfgStore (s : State) (b : Bool) (bs : List Byte) : State :=
  s.setNv fun x => { x with
    cfg := writeCells x.cfg 0 (cfgOff b) bs
    cfgBadA := x.cfgBadA && b
    cfgBadB := x.cfgBadB && !b }

/-- Reserved bytes: all 0. -/
def zeros (bs : List Byte) : Bool := bs.all fun b => b = 0

/-! ### Manifests (R682, R683) -/

/-- A component entry of a manifest: ID, SVN, OFFSET, LENGTH, HASH. -/
def mfEntry (m : List Byte) (i : Nat) : List Byte := bytesAt m (0x20 + 80 * i) 80
def entId (e : List Byte) : Nat := leAt e 0 1
def entSvn (e : List Byte) : Nat := leAt e 2 2
def entOff (e : List Byte) : Nat := leAt e 8 4
def entLen (e : List Byte) : Nat := leAt e 12 4
def entHash (e : List Byte) : List Byte := bytesAt e 16 64

/-- The four component entries. -/
def mfComps (m : List Byte) : List (List Byte) := [mfEntry m 0, mfEntry m 1, mfEntry m 2, mfEntry m 3]

/-- The entry of a component. -/
def mfComp (m : List Byte) (c : Nat) : Option (List Byte) := (mfComps m).find? fun e => entId e = c

/-- Two components of an image do not overlap. -/
def entsApart (x y : List Byte) : Bool := entOff x + entLen x ≤ entOff y || entOff y + entLen y ≤ entOff x

def entOk (e : List Byte) : Bool :=
  zeros (bytesAt e 1 1) && zeros (bytesAt e 4 4) && entOff e % 4096 = 0 && 0x6C0 ≤ entOff e && entOff e + entLen e ≤ slotSize

/-- The manifest matches Table 20.3 and R681, its keys and its signature apart. -/
def manifestOk (m : List Byte) : Bool :=
  let es := mfComps m
  leAt m 0 4 = 0x5A964D01 && leAt m 4 2 = 1 && leAt m 6 2 = 0x6C0 && leAt m 0xC 1 = 4 && leAt m 0xD 1 < 4 && zeros (bytesAt m 0x17 9) &&
    zeros (bytesAt m 0x160 320) && zeros (bytesAt m 0x4A4 28) && es.all entOk && [0, 1, 2, 3].all (fun c => es.any fun e => entId e = c) &&
    [(0, 1), (0, 2), (0, 3), (1, 2), (1, 3), (2, 3)].all fun ij => entsApart (mfEntry m ij.1) (mfEntry m ij.2)

def mfRelease (m : List Byte) : Nat := leAt m 8 4
def mfLiveOk (m : List Byte) : Bool := bitAt (leAt m 0xD 1) 0
def mfCoarse (m : List Byte) : Bool := bitAt (leAt m 0xD 1) 1

/-- The manifest of an image slot. -/
def State.manifest (s : State) (b : Bool) : List Byte := s.slotRead b 0 0x6C0

/-- A vendor key is accepted (R679): modulus and exponent as stored. -/
def State.vkeyOk (s : State) (n e : List Byte) : Bool := ofBytes e = 65537 && sha512 (n ++ e) = toBytes 64 s.nv.vkh

/-- The bytes of a component. -/
def State.compBytes (s : State) (b : Bool) (e : List Byte) : List Byte := s.slotRead b (entOff e) (entLen e)

/-- The first rule of R683 that an image slot breaks, as a code of Table 20.6 and a component. -/
def State.slotFault (s : State) (b : Bool) : Option (Nat × Nat) :=
  let m := s.manifest b
  if !manifestOk m then some (6, 0)
  else if !s.vkeyOk (bytesAt m 0x2A0 512) (bytesAt m 0x4A0 4) || !sigOk (bytesAt m 0x2A0 512) (m.take 0x4C0) (bytesAt m 0x4C0 512) then some (7, 0)
  else match (mfComps m).find? fun e => sha512 (s.compBytes b e) ≠ entHash e with
    | some e => some (8, entId e)
    | none => match (mfComps m).find? fun e => entSvn e < s.svnFloor (entId e) with
      | some e => some (9, entId e)
      | none => if bitAt (leAt m 0x10 4) (s.rd R.CHIP_ID_STEPPING) then none else some (0xA, 0)

/-- An image slot verifies (R683). -/
def State.verify (s : State) (b : Bool) : Bool := (s.slotFault b).isNone

/-! ### Trials (R684) -/

def State.trial (s : State) : Bool := s.nv.trialImg || s.nv.trialCfg

/-- A slot has been passed over, or a trial given up: FALLBACK is raised. -/
def State.raiseFallback (s : State) : State :=
  ((s.setNv fun x => { x with fallback := true }).wr R.FWU_STATUS_FALLBACK 1).raise pgFwu 1

/-- The boot record without a trial. -/
def NvState.noTrial (x : NvState) : NvState := { x with trialImg := false, trialCfg := false, trialBoots := 0, trialMin := 0 }

/-- No trial is left: its confirm timer stops. -/
def State.endTrial (s : State) : State :=
  let s1 := s.setNv NvState.noTrial
  { s1 with aon := { s1.aon with confirmEnd := none, confirmDue := none } }

/-- Abandon the trial: the boot record is cleared, FALLBACK, and a journal entry. -/
def State.abandonTrial (s : State) : State := s.endTrial.raiseFallback.journalOpen jrFallback

/-- The confirm time has ended (R693): the trial is abandoned, unless the boot record cannot be written (log 65), and a full reset follows. -/
def State.confirmExpire (s : State) (mramOk : Bool) : State :=
  let s1 := if mramOk then s.abandonTrial else s.mramFail.raiseFallback
  ({ s1 with aon := { s1.aon with confirmEnd := none, confirmDue := none } } : State).fullReset rcFirmware 0 0 0

/-- A confirm time that ended while no firmware ran takes effect (R693; 01_architecture.md R49). -/
def State.confirmLate (s : State) : State :=
  match s.aon.confirmDue with
  | some mramOk => s.confirmExpire mramOk
  | none => s

/-- The count of a trial's start-ups at the head of R684. -/
def State.trialCount (s : State) (mramOk : Bool) : State :=
  if !s.trial then s
  else if s.nv.trialBoots ≥ 3 then s.abandonTrial
  else if !mramOk then s.mramFail.abandonTrial
  else s.setNv fun x => { x with trialBoots := x.trialBoots + 1 }

/-- The image that the boot ROM starts: the slot, or none for ROM load mode; the flag is whether it is the trial's. -/
def State.chooseImage (s : State) (mramOk : Bool) : State × Option (Bool × Bool) :=
  let s1 := s.trialCount mramOk
  let act := s1.nv.activeImg
  if s1.nv.trialImg && s1.verify (!act) then (s1, some (!act, true))
  else
    let s2 := if s1.nv.trialImg then s1.abandonTrial else s1
    if s2.verify act then (s2, some (act, false))
    else if s2.verify (!act) then (s2.raiseFallback, some (!act, false))
    else (s2, none)

/-- Load the components of a slot: what FWU, SEC and CHIP report of the running image. -/
def State.loadImage (s : State) (b : Bool) : State :=
  let m := s.manifest b
  let comps := (mfComps m).map fun e => (entId e, entSvn e, entHash e)
  let s1 : State := { s with fw := { s.fw with comps := comps } }
  s1.wrs [(R.FWU_STATUS_RUN_IMG, bNat b), (R.FWU_RELEASE_RUN, mfRelease m), (R.FWU_FORMAT_CMDSET_MIN, leAt m 0xE 1),
    (R.FWU_FORMAT_CMDSET_MAJ, leAt m 0xF 1), (R.FWU_FORMAT_SCHED_FMT, leAt m 0x16 1), (R.FWU_FORMAT_CFG_FMT_MIN, leAt m 0x14 1),
    (R.FWU_FORMAT_CFG_FMT_MAX, leAt m 0x15 1), (R.CHIP_VER_FW_RELEASE, mfRelease m), (R.CHIP_VER_CMDSET_MIN, leAt m 0xE 1),
    (R.CHIP_VER_CMDSET_MAJ, leAt m 0xF 1), (R.CHIP_VER_SCHED_FMT, leAt m 0x16 1)]

/-- FWU_RELEASE.OTHER: the release in the slot that does not run; 0 when it fails R683. -/
def State.otherRelease (s : State) (b : Bool) : State :=
  s.wr R.FWU_RELEASE_OTHER (if s.verify (!b) then mfRelease (s.manifest (!b)) else 0)

/-- FWU_RELEASE.OTHER again, after the slot that does not run or the floors have changed (Table 20.10); in ROM load mode none runs. -/
def State.otherAgain (s : State) : State := if s.pwr.boot = .load then s else s.otherRelease (s.on R.FWU_STATUS_RUN_IMG)

/-! ### Floors (R694, R695) -/

/-- Step 2 of R695 for the loaded components: M_c, and with COARSE the steps of C_c; the 256th step is never blown. -/
def State.raiseFloors (s : State) (coarse : Bool) : State :=
  s.fw.comps.foldl (fun s x =>
    s.setNv fun v => { v with
      svn := tmod 0 v.svn x.1 (max · x.2.1)
      coarse := if coarse then tmod 0 v.coarse x.1 (max · (min 255 (x.2.1 / 256))) else v.coarse }) s

/-- Steps 2 and 3 of R695, which a start-up with FLOOR_PENDING completes. SVN_c are those of ACTIVE_IMG, the image confirmed: they stay
pending while the start-up runs the other slot (DESIGN CHOICE: log 184). -/
def State.completeFloors (s : State) : State :=
  if !s.nv.floorPending || s.on R.FWU_STATUS_RUN_IMG ≠ s.nv.activeImg then s
  else (s.raiseFloors (mfCoarse (s.manifest s.nv.activeImg))).setNv fun x => { x with floorPending := false }

/-! ### Configurations (R699 to R703) -/

def cfgLen (c : List Byte) : Nat := leAt c 8 4
def cfgSigned (c : List Byte) : Bool := bitAt (leAt c 6 2) 0
def cfgOwner (c : List Byte) : Bool := bitAt (leAt c 6 2) 1
def cfgTopo (c : List Byte) : Nat := leAt c 0x10 8
def cfgOwnerN (c : List Byte) : List Byte := bytesAt c 0x150 512
def cfgOwnerE (c : List Byte) : List Byte := bytesAt c 0x350 4

/-- ALLOC: REGION, OFFSET and size of the entries that are not empty. -/
def cfgAlloc (c : List Byte) : List (Nat × Nat × Nat) :=
  ((List.range 16).map fun i =>
    let w := leAt c (0x30 + 16 * i) 8
    (field w 40 8, field w 0 40, leAt c (0x38 + 16 * i) 8)).filter fun x => x.1 ≠ 0

/-- The default allocation (01_architecture.md Table 1.4). -/
def defaultAlloc : List (Nat × Nat × Nat) :=
  [(1, 0x0, 0x10000000), (2, 0x10000000, 0x4000000), (3, 0x14000000, 0x1000000), (11, 0x15000000, 0x8000000), (4, 0x20000000, 0x10000000),
   (12, 0x30000000, 0x10000000), (5, 0x40000000, 0x40000000), (6, 0x80000000, 0x80000000), (7, 0x100000000, 0x100000000),
   (8, 0x200000000, 0x200000000), (9, 0x400000000, 0x80000000), (10, 0x480000000, 0x80000000)]

/-- The sizes that 01_architecture.md Table 1.8 allows a region. -/
def regionSizeOk (code n : Nat) : Bool :=
  let m := 0x100000
  n % m = 0 &&
    (if code = 1 then n = 256 * m else if code = 2 then n = 64 * m else if code = 3 then n = 16 * m else if code = 4 then n ≥ 256 * m
     else if code = 5 then n = 1024 * m else if code = 6 || code = 10 then m ≤ n && n ≤ 2048 * m else if code = 7 then n ≥ m
     else if code = 8 then 1024 * m ≤ n && n ≤ 8192 * m else if code = 9 then 64 * m ≤ n && n ≤ 2048 * m
     else if code = 11 then n = 128 * m else if code = 12 then n = 256 * m else false)

/-- R35 and R36, and the twelve regions once each. -/
def allocOk (l : List (Nat × Nat × Nat)) : Bool :=
  l.length = 12 && (List.range 12).all (fun i => l.any fun x => x.1 = i + 1) &&
    l.all (fun x => x.2.1 % 0x100000 = 0 && regionSizeOk x.1 x.2.2 && x.2.1 + x.2.2 ≤ 24 * 0x40000000) &&
    l.all fun x => l.all fun y => x.1 = y.1 || x.2.1 + x.2.2 ≤ y.2.1 || y.2.1 + y.2.2 ≤ x.2.1

/-- The CRC of a configuration is valid. -/
def cfgCrcOk (c : List Byte) : Bool := crc32c (c.take 0xC ++ [0, 0, 0, 0] ++ bytesAt c 0x10 0x103F0) = leAt c 0xC 4

/-- A configuration matches Table 20.8. -/
def cfgFormOk (c : List Byte) : Bool :=
  leAt c 0 4 = 0x5A96C0F1 && leAt c 4 2 = 1 && leAt c 6 2 < 4 && cfgLen c = (if cfgSigned c then 0x10600 else 0x10400) && leAt c 0x18 1 ≤ 2 &&
    leAt c 0x19 1 < 128 && leAt c 0x1A 1 ≤ 1 && (List.range 4).all (fun h => field (leAt c 0x1B 1) (2 * h) 2 ≤ 2) && 1 ≤ leAt c 0x1C 2 &&
    leAt c 0x1C 2 ≤ 1440 && zeros (bytesAt c 0x1E 2) && zeros (bytesAt c 0x2C 4) && zeros (bytesAt c 0x354 172) &&
    (if cfgOwner c then ofBytes (cfgOwnerE c) = 65537 else zeros (cfgOwnerN c) && zeros (cfgOwnerE c))

/-- R700 for the bytes of a configuration and the format range of an image. -/
def cfgOk (lo hi : Nat) (c : List Byte) : Bool :=
  cfgFormOk c && lo ≤ 1 && 1 ≤ hi && cfgCrcOk c && topoValid (cfgTopo c) && ((cfgAlloc c).isEmpty || allocOk (cfgAlloc c))

/-- The configuration in a slot, under the running image: none where it does not qualify (R700). -/
def State.slotConfig (s : State) (b : Bool) : Option (List Byte) :=
  let c := s.cfgRead b 0 0x10600
  if s.cfgBad b || !cfgOk (s.rd R.FWU_FORMAT_CFG_FMT_MIN) (s.rd R.FWU_FORMAT_CFG_FMT_MAX) c then none else some (c.take (cfgLen c))

/-- The built-in default configuration (R700; log 62). -/
def defaultConfig : List Byte :=
  let a := toBytes 4 0x5A96C0F1 ++ [1, 0, 0, 0] ++ toBytes 4 0x10400
  let b := toBytes 8 0x01010101 ++ [2, 0x4C, 1, 0, 30, 0, 0, 0] ++ List.replicate 0x103E0 0#8
  a ++ toBytes 4 (crc32c (a ++ [0, 0, 0, 0] ++ b)) ++ b

/-- The configuration that a start-up takes: bytes, slot, whether it is the default; and the state, in which a trial configuration that
fails is discarded. -/
def State.chooseConfig (s : State) : State × List Byte × Option Bool :=
  let act := s.nv.activeCfg
  let trial := if s.nv.trialCfg then s.slotConfig (!act) else none
  match trial with
  | some c => (s, c, some (!act))
  | none =>
    let s1 := if s.nv.trialCfg then (if s.nv.trialImg then s.setNv fun x => { x with trialCfg := false } else s.endTrial).raiseFallback else s
    match s1.slotConfig act, s1.slotConfig (!act) with
    | some c, _ => (s1, c, some act)
    | none, some c => (s1, c, some (!act))
    | none, none => (s1, defaultConfig, none)

/-- The owner key hash of a configuration (Table 20.9, SEC_OKH). -/
def ownerHash (c : List Byte) : List Byte := if cfgOwner c then sha512 (cfgOwnerN c ++ cfgOwnerE c) else List.replicate 64 0#8

/-- Take a configuration into use: the values that firmware sets up before the blocks are configured. -/
def State.useConfig (s : State) (c : List Byte) (slot : Option Bool) : State :=
  let topo := s.nv.topo.getD (cfgTopo c)
  let s1 : State := { s with fw := { s.fw with config := c } }
  let okh := ownerHash c
  let s2 := s1.wrs [(R.FWU_STATUS_RUN_CFG, bNat (slot.getD false)), (R.FWU_STATUS_DEFAULT_CFG, bNat slot.isNone), (R.FWU_FORMAT_CFG_FMT, 1),
    (R.CHIP_VER_CFG_FMT, 1), (R.ROUT_TOPO_TOPO, topo), (R.ROUT_TOPO_PEND_TOPO, topo), (R.CMD_CFG_SMB_ADDR, leAt c 0x19 1),
    (R.CMD_CFG_SMB_POLICY, leAt c 0x1A 1), (R.CMD_CFG_EXPERT_POLICY, leAt c 0x1B 1), (R.FWU_CONFIRM_TMO, leAt c 0x1C 2)]
  (List.range 8).foldl (fun s i => s.wr R.SEC_OKH_HASH (leAt okh (8 * i) 8) 0 i) s2

/-- The owner key under R703: that of the configuration in use, or under the default that of a slot that reads and carries one. -/
def State.ownerKey (s : State) : Option (List Byte) :=
  if cfgOwner s.fw.config then some (cfgOwnerN s.fw.config)
  else if s.on R.FWU_STATUS_DEFAULT_CFG then
    match [s.nv.activeCfg, !s.nv.activeCfg].find? fun b => !s.cfgBad b && leAt (s.cfgRead b 0 8) 0 4 = 0x5A96C0F1 && leAt (s.cfgRead b 0 8) 4 2 = 1 && cfgOwner (s.cfgRead b 0 8) with
    | some b => some (s.cfgRead b 0x150 512)
    | none => none
  else none

/-- A new configuration passes the owner rule (R703). -/
def State.ownerRule (s : State) (c : List Byte) : Bool :=
  match s.ownerKey with
  | none => true
  | some n => cfgSigned c && sigOk n (c.take 0x10400) (bytesAt c 0x10400 512)

/-! ### Packages (R687 to R691) -/

/-- The header of the staged package. -/
def State.pkgHeader (s : State) : List Byte := s.flashRead stagingOff 0x4E0
def pkgKind (h : List Byte) : Nat := leAt h 6 1
def pkgLen (h : List Byte) : Nat := leAt h 8 4
def pkgTarget (h : List Byte) : Nat := leAt h 0xC 4
def pkgBase (h : List Byte) : Nat := leAt h 0x50 4
def pkgOps (h : List Byte) : Nat := leAt h 0x54 4
def pkgOpsOff (h : List Byte) : Nat := leAt h 0x98 4
def pkgDataOff (h : List Byte) : Nat := leAt h 0x9C 4
def pkgDataLen (h : List Byte) : Nat := leAt h 0xA0 4

/-- Check 0x01 of Table 20.6. -/
def pkgFormOk (h : List Byte) (staged : Nat) : Bool :=
  leAt h 0 4 = 0x5A96DE17 && leAt h 4 2 = 1 && pkgKind h ≤ 1 && zeros (bytesAt h 7 1) && 0x4E0 ≤ pkgLen h && pkgLen h ≤ staged &&
    pkgTarget h ≤ slotSize && pkgBase h ≤ slotSize && zeros (bytesAt h 0xA4 28) && zeros (bytesAt h 0x2C4 28) &&
    (pkgOps h = 0 || pkgOpsOff h + 16 * pkgOps h ≤ pkgLen h) && (pkgDataLen h = 0 || pkgDataOff h + pkgDataLen h ≤ pkgLen h) &&
    (pkgKind h ≠ 0 || (pkgOps h = 0 && pkgBase h = 0 && pkgDataLen h = pkgTarget h))

/-- The bytes that one operation writes to the slot: fewer than LEN where it reads beyond BASE_LEN or DATA_LEN, none where OP is reserved
(R689). -/
def opBytes (base data o : List Byte) : List Byte :=
  let n := leAt o 4 4
  let src := leAt o 8 4
  let inBase := (base.drop src).take n
  match leAt o 0 1 with
  | 1 => inBase
  | 2 => List.zipWith (· + ·) inBase ((data.drop (leAt o 12 4)).take n)
  | 3 => (data.drop src).take n
  | _ => []

/-- The operations in order (R689): the bytes written to the slot, and whether check 0x04 holds. -/
def runOps (base data : List Byte) (target : Nat) : List (List Byte) → List Byte → List Byte × Bool
  | [], out => (out, decide (out.length = target))
  | o :: os, out =>
    let n := leAt o 4 4
    let bs := opBytes base data o
    if n = 0 || out.length + n > target then (out, false)
    else if bs.length ≠ n then (out ++ bs, false)
    else runOps base data target os (out ++ bs)

/-- What the staged package writes to the slot, and whether check 0x04 of Table 20.6 holds. -/
def State.pkgImage (s : State) (h : List Byte) : List Byte × Bool :=
  let data := s.flashRead (stagingOff + pkgDataOff h) (pkgDataLen h)
  if pkgKind h = 0 then (data, true)
  else
    let ops := (List.range (pkgOps h)).map fun i => s.flashRead (stagingOff + pkgOpsOff h + 16 * i) 16
    runOps (s.slotRead s.nv.activeImg 0 (pkgBase h)) data (pkgTarget h) ops []

/-- The first check 0x01 to 0x03 of Table 20.6 that fails. -/
def State.pkgFault (s : State) : Option Nat :=
  let h := s.pkgHeader
  if !pkgFormOk h (s.rd R.FWU_STAGE_LEN) then some 1
  else if !s.vkeyOk (bytesAt h 0xC0 512) (bytesAt h 0x2C0 4) || !sigOk (bytesAt h 0xC0 512) (h.take 0x2E0) (bytesAt h 0x2E0 512) then some 2
  else if pkgKind h = 1 && sha512 (s.slotRead s.nv.activeImg 0 (pkgBase h)) ≠ bytesAt h 0x58 64 then some 3
  else none

/-- The format of the configuration in a slot; that of the built-in default where none reads. -/
def State.slotFmt (s : State) (b : Bool) : Nat := if leAt (s.cfgRead b 0 8) 0 4 = 0x5A96C0F1 then leAt (s.cfgRead b 0 8) 4 2 else 1

/-- A component's HASH differs from the active image's. -/
def State.compChanged (s : State) (m : List Byte) (c : Nat) : Bool :=
  match mfComp m c, mfComp (s.manifest s.nv.activeImg) c with
  | some e, some f => entHash e ≠ entHash f
  | _, _ => true

/-- The checks 0x0B to 0x0E on the slot written. -/
def State.lateFault (s : State) (b : Bool) (comps : Nat) (live flashOk : Bool) : Option (Nat × Nat) :=
  let m := s.manifest b
  let fits := fun f => leAt m 0x14 1 ≤ f && f ≤ leAt m 0x15 1
  let changed := (List.range 4).filter fun c => s.compChanged m c
  if !fits (s.slotFmt s.nv.activeCfg) || (s.nv.trialCfg && !fits (s.slotFmt !s.nv.activeCfg)) then some (0xB, 0)
  else match changed.find? fun c => !bitAt comps c with
    | some c => some (0xC, c)
    | none =>
      if live && (changed.any (fun c => c ≠ 0) || !mfLiveOk m || leAt m 0xF 1 ≠ s.rd R.FWU_FORMAT_CMDSET_MAJ || s.nv.trialCfg) then some (0xD, 0)
      else if !flashOk then some (0xE, 0) else none

/-- The checks of Table 20.6 after the slot was written. -/
def State.writtenFault (s : State) (b : Bool) (hash image : List Byte) (comps : Nat) (live flashOk : Bool) : Option (Nat × Nat) :=
  if sha512 image ≠ hash then some (5, 0)
  else match s.slotFault b with
    | some x => some x
    | none => s.lateFault b comps live flashOk

/-- FW_ACTIVATE's checks: the slot other than ACTIVE_IMG is written while check 0x04 runs; when a check fails after a byte of it was written,
its first sector is erased (R689 to R691). -/
def State.activate (s : State) (comps : Nat) (live flashOk : Bool) : State × Option (Nat × Nat) :=
  match s.pkgFault with
  | some code => (s, some (code, 0))
  | none =>
    let h := s.pkgHeader
    let (image, ok) := s.pkgImage h
    let b := !s.nv.activeImg
    let s1 := (s.flashErase (slotOff b) slotSize).flashWrite (slotOff b) image
    if !ok && image.isEmpty then (s, some (4, 0))
    else match if ok then s1.writtenFault b (bytesAt h 0x10 64) image comps live flashOk else some (4, 0) with
      | some f => (s1.flashErase (slotOff b) 4096, some f)
      | none => (s1, none)

end Sys2Proof.Machine
end

