-- ==== Sys2Proof/Machine/Lanes.lean ====
section
/-! DEFINITION. The commands of the lanes (04_lanes.md). -/

namespace Sys2Proof.Machine

/-- GT in 1/64 tick with the sampled fraction, 64 + 6 bits (R145). -/
def State.stampNow (s : State) (frac : Nat) : Nat := (s.gt * 64 + frac) % 2 ^ 70

/-- The receivers of a port adapt (R125): what CTLE, FFE and DFE become, and the eye SNR, are free values. Nothing changes while they are held. -/
def State.adapt (s : State) (l : Nat) (ctle : Bool) : State :=
  if (s.lane l).held then s
  else
    let r := s.draw 268
    let s1 := if ctle then r.2.wr R.LANE_RXEQ_CTLE (field r.1 0 5) l else r.2
    let s2 := (s1.wr R.LANE_RXEQ_DFE (field r.1 5 7) l).wr R.LANE_RXEQ_SNR (field r.1 12 16) l
    (List.range 24).foldl (fun s i => s.wr R.LANE_FFE_TAP (field r.1 (28 + 10 * i) 10) l i) s2

/-- T_COEF ends: FEC, scrambling and comma halves start, with a comma block (Table 4.6, Table 4.7). What the codewords carry until the identity records
is open: free bytes. -/
def State.enterAlign (s : State) (p : Nat) : State :=
  let c := (s.lane (2 * p)).txCidx
  let s1 := [2 * p, 2 * p + 1].foldl (fun s l => s.setLane l { s.lane l with commaRun := 0, lastCidx := none, missRun := 0,
                                                                             cwBad := [], txCidx := c }) s
  let r := s1.draw 2720
  (r.2.setPst p tAlign).emit (.codewords p (toBytes 340 r.1))

/-- A port loses lock or signal: from any state after T_SEND it enters T_SEND (Table 4.6, R153), at START_PRESET and with full limits from LP-DORMANT
too (DESIGN CHOICE, log 170: R151 and R152 give the saved coefficients and the short limits to an exit). T_HOLD and MISWIRED, whose rows name no
such exit, stay (DESIGN CHOICE, log 188). -/
def State.lostLock (s : State) (p : Nat) : State :=
  let t := s.pst p
  if t = tCdr || t = tCoef || t = tAlign || t = tIdent || t = tUp || t = tQuiet || t = tDorm then s.enterSend p false else s

/-- A lane in comma lock leaves it (R134): LOCK_LOSS is live, and its port enters T_SEND. -/
def State.loseComma (s : State) (l : Nat) : State :=
  if !s.on R.LANE_STATUS_COMMA_LOCK l then s
  else
    let s1 := (s.setLane l { s.lane l with commaRun := 0, lastCidx := none, missRun := 0, cwBad := [] }).wr
      R.LANE_STATUS_COMMA_LOCK 0 l
    (s1.cond (pgLane l) 1 true).lostLock (l / 2)

/-- A receiver in T_COEF whose RX_READY has been sent on both lanes sees an FEC stream (R144). -/
def State.fecSeen (s : State) (p : Nat) : State :=
  if s.pst p = tCoef && (s.lane (2 * p)).readySent && (s.lane (2 * p + 1)).readySent then s.enterAlign p else s

/-- The states in which a port follows the comma grid. -/
def onGrid (t : Nat) : Bool := t = tAlign || t = tIdent || t = tUp || t = tQuiet

/-! ### Codewords received -/

/-- The lanes of a port arrive swapped, as the lane numbers in CTAG and the training control word say (R135). -/
def State.swapped (s : State) (p : Nat) : Bool :=
  (s.lane (2 * p)).peerLane = some true || (s.lane (2 * p + 1)).peerLane = some false

/-- A codeword of a port is counted on lane `l`: corrected symbols of that lane are those of even index where it carries the peer's lane 0, and of odd
index where it carries lane 1 (R128, R135, Table 19.2; log 87). -/
def State.countCodeword (s : State) (l : Nat) (places : Option (List Nat)) : State :=
  let x := s.lane l
  let n := x.cwSeen
  let k := l % 2 + bNat (s.swapped (l / 2))
  let bad := (match places with
    | none => [n]
    | some _ => []) ++ x.cwBad
  let s1 := (s.setLane l { x with cwSeen := n + 1, cwBad := bad.filter fun k => k + 4096 > n }).bump C.LANE_CW_RX l
  match places with
  | none => s1.bump C.LANE_CW_UNCORR l
  | some ps =>
    let m := ps.countP fun j => j % 2 = k % 2
    if m = 0 then s1 else (s1.bump C.LANE_CW_CORR l).bump C.LANE_SYM_CORR l m

/-- More than 64 of the last 4,096 codewords were uncorrectable (R134). -/
def State.tooManyBad (s : State) (l : Nat) : Bool := (s.lane l).cwBad.length > 64

/-- One codeword is decoded, counted on both lanes, and its 340 data bytes join the byte stream, with the uncorrectable mark where it cannot be
corrected (R131). -/
def State.takeCodeword (s : State) (p : Nat) (cw : List Nat) : State :=
  let r := rsDecode cw
  let s1 := (s.countCodeword (2 * p) (r.map Prod.snd)).countCodeword (2 * p + 1) (r.map Prod.snd)
  let data := symbolsBytes (((r.map Prod.fst).getD cw).take 272)
  s1.setLink p { s1.link p with rxBytes := (s1.link p).rxBytes ++ data.map fun b => (b, r.isNone) }

/-- The codewords A and B of the levels that the two lanes received at a place of the comma grid (R128 to R130, R135). -/
def State.pairReceived (s : State) (p pair : Nat) (a b : List Level) : List Nat × List Nat :=
  let a := uninvert (s.on R.LANE_STATUS_RX_INV (2 * p)) a
  let b := uninvert (s.on R.LANE_STATUS_RX_INV (2 * p + 1)) b
  let x0 := laneReceived false pair (if s.swapped p then b else a)
  let x1 := laneReceived true pair (if s.swapped p then a else b)
  (pairCodeword false x0 x1, pairCodeword true x0 x1)

/-- A codeword pair is taken: its bytes, the adaptation of R125 in T_UP, and the loss of lock of R134. -/
def State.takePair (s : State) (p pair : Nat) (a b : List Level) : State :=
  let w := s.pairReceived p pair a b
  let s1 := (s.takeCodeword p w.1).takeCodeword p w.2
  let s2 := if s1.pst p = tUp then (s1.adapt (2 * p) false).adapt (2 * p + 1) false else s1
  if s2.tooManyBad (2 * p) then (s2.loseComma (2 * p)).loseComma (2 * p + 1) else s2

/-- CODEWORD_DECODE (R131, R134, R144): a codeword pair arrives on both lanes, at its place of the comma grid. In T_ALIGN the lanes are not yet aligned
with one another, and no pair is formed. -/
def execCodewordDecode (p : Port) (x : PairLevels) (s : State) : Host.Outcome State Fault Refusal :=
  liveLink s fun s =>
    let t := s.pst p.val
    if t = tCoef then s.fecSeen p.val
    else if t = tIdent || t = tUp || t = tQuiet then s.takePair p.val x.pair.val x.first x.second
    else s

/-! ### Comma halves -/

/-- The CTAG a lane sends with a CIDX (Table 4.2). -/
def ctagOf (lane1 : Bool) (cidx : BitVec 10) : Nat := bNat lane1 + (255 - cidx.toNat % 256) * 4

/-- CIDX and CTAG of a comma half, when it is valid: at most 3 marker UIs wrong, and CTAG agrees with CIDX (R133). -/
def commaRead (marker cidxUi ctagUi : List Level) : Option (BitVec 10 × Nat) :=
  let cidx := levelsSymbol cidxUi
  let ctag := levelsSymbol ctagUi
  if levelErrors commaMarker marker ≤ 3 && ctag / 4 = 255 - cidx % 256 then some (BitVec.ofNat 10 cidx, ctag) else none

/-- Both lanes are in comma lock and deskewed: equal CIDX, and a skew of at most 32 ns (53 units of 64 UI) (R136). -/
def State.deskewed (s : State) (p : Nat) : Bool :=
  bothLanes s R.LANE_STATUS_COMMA_LOCK p && (s.lane (2 * p)).lastCidx = (s.lane (2 * p + 1)).lastCidx &&
    s.rd R.PORT_STATUS_SKEW p ≤ 53

/-- The identity record a port sends in T_IDENT (Table 4.5). -/
def State.identityRecord (s : State) (p : Nat) : Nat :=
  let body := 0x5A961D0E + s.ownPid * 2 ^ 32 + p * 2 ^ 52 + bNat s.paired * 2 ^ 59 + bNat (isCarr s.topo p) * 2 ^ 60 + 2 ^ 64
  body + crc32c (toBytes 28 body) * 2 ^ 224

/-- T_ALIGN ends when both lanes are locked and deskewed: every codeword carries the identity record at byte 0, and 0x00 else (R140, Table 4.6). -/
def State.tryIdent (s : State) (p : Nat) : State :=
  if s.pst p = tAlign && s.deskewed p then
    let s1 := (s.setPst p tIdent).setPort p { s.port p with idRecord := none, idRun := 0 }
    (s1.setLink p { s1.link p with rxBytes := [] }).emit (.codewords p (toBytes 340 (s.identityRecord p)))
  else s

/-- The receive timestamp of a comma half of the peer's lane 0 (R145). -/
def State.stampRx (s : State) (p : Nat) (cidx : BitVec 10) (frac : Nat) : State :=
  let ts := (s.stampNow frac + 2 ^ 70 - s.rd R.PORT_DLY_CAL_RX_CAL p) % 2 ^ 70
  let s1 := ((s.wr R.PORT_TS_RX_FRAC ts p).wr R.PORT_TS_RX_GT (ts / 64) p).wr R.PORT_TS_IDX_RX_IDX cidx.toNat p
  let q := s1.port p
  s1.setPort p { q with rxStamps := (⟨cidx, ts, q.stampNo⟩ :: q.rxStamps).take 16, stampNo := q.stampNo + 1 }

/-- A valid comma half on lane `l` of a port that follows the grid: lock after four in a row, swap, skew, and that of lane 0 its timestamp. A run of
missing halves ends at one in its expected place (R134). -/
def State.commaTake (s0 : State) (l : Nat) (cidx : BitVec 10) (ctag : Nat) (grid : Bool) (frac skew : Nat) : State :=
  let p := l / 2
  let x := s0.lane l
  let next := match x.lastCidx with
    | some c => decide (c + 1 = cidx) && grid
    | none => false
  let run := if next then x.commaRun + 1 else 1
  let s1 := (s0.setLane l { x with commaRun := run, lastCidx := some cidx, missRun := if grid then 0 else x.missRun,
                                   peerLane := some (ctag % 2 = 1) }).wr R.LANE_STATUS_CIDX cidx.toNat l
  let s2 := if run ≥ 4 then (s1.wr R.LANE_STATUS_COMMA_LOCK 1 l).cond (pgLane l) 1 false else s1
  let s3 := s2.wrB R.PORT_STATUS_SWAP (s2.swapped p) p
  let s4 := s3.wr R.PORT_STATUS_SKEW skew p
  (if ctag % 2 = 0 then s4.stampRx p cidx frac else s4).tryIdent p

/-- The UIs of a comma half are read: without its marker, or with a symbol that does not decode, they are none (R133). -/
def State.commaHeard (s : State) (l : Nat) (marker cidx ctag : List Level) (grid : Bool) (frac skew : Nat) : State :=
  let inv := s.on R.LANE_STATUS_RX_INV l
  match commaRead (uninvert inv marker) (uninvert inv cidx) (uninvert inv ctag) with
  | some c => if onGrid (s.pst (l / 2)) then s.commaTake l c.1 c.2 grid frac skew else s
  | none => s

/-- COMMA_HALF_RECEIVE (R133, R135, R136, R145): the UIs of a comma half (marker, CIDX and CTAG), whether it stands in its expected place, the sampled
phase and the skew between the lanes. -/
def execCommaHalfReceive (l : Lane) (marker cidx ctag : List Level) (onGrid' : Bool) (frac : BitVec 6) (skew : BitVec 9) (s : State) :
    Host.Outcome State Fault Refusal :=
  liveLink s fun s => (s.fecSeen (l.val / 2)).commaHeard l.val marker cidx ctag onGrid' frac.toNat skew.toNat

/-- An expected comma position holds no valid comma half: the fourth in a row ends comma lock (R134). -/
def State.commaMiss (s : State) (l : Nat) : State :=
  let x := s.lane l
  let s1 := (s.setLane l { x with missRun := x.missRun + 1 }).bump C.LANE_COMMA_MISS l
  if x.missRun + 1 ≥ 4 || s1.tooManyBad l then s1.loseComma l else s1

/-- COMMA_LOCK_LOSS (R134): an expected comma position has held no valid comma half, or too many codewords were bad. A lane that has seen no comma half
expects none. -/
def execCommaLockLoss (l : Lane) (s : State) : Host.Outcome State Fault Refusal :=
  liveLink s fun s => if onGrid (s.pst (l.val / 2)) && (s.lane l.val).lastCidx.isSome then s.commaMiss l.val else s

/-- The transmit timestamp of a comma half of lane 0 (R145). -/
def State.stampTx (s : State) (p : Nat) (cidx : BitVec 10) (frac : Nat) : State :=
  let ts := (s.stampNow frac + s.rd R.PORT_DLY_CAL_TX_CAL p) % 2 ^ 70
  let s1 := ((s.wr R.PORT_TS_TX_FRAC ts p).wr R.PORT_TS_TX_GT (ts / 64) p).wr R.PORT_TS_IDX_TX_IDX cidx.toNat p
  let q := s1.port p
  s1.setPort p { q with txStamps := (⟨cidx, ts, q.stampNo⟩ :: q.txStamps).take 16, stampNo := q.stampNo + 1 }

/-- The comma half of lane `l` is due: the other lane's has gone out alone, or neither has and the port has come to its place of the grid. Outside T_UP
the row is that place: 2,048 codeword pairs have gone since the comma block before (R132). -/
def State.halfDue (s : State) (l : Nat) : Bool :=
  let p := l / 2
  let a := (s.lane l).txCidx
  let b := (s.lane (4 * p + 1 - l)).txCidx
  b = a + 1 || (a = b && (s.pst p ≠ tUp || (s.port p).txPair ≥ 2048))

/-- Both halves of a comma block are out: the scramblers are seeded, the place on the grid is 0, and a wake marker that waited follows and takes that
place (R130, R132, R150). -/
def State.commaDone (s : State) (p : Nat) : State :=
  if !s.halvesEven p then s
  else
    let q := s.port p
    let s1 := s.setPort p { q with txPair := bNat q.wakeHeld, wakeHeld := false }
    if q.wakeHeld then s1.sendWake p else s1

/-- The next comma half of lane `l`, and on lane 0 its timestamp (R132, R145). -/
def State.commaSend (s : State) (l frac : Nat) : State :=
  let p := l / 2
  let x := s.lane l
  let c := x.txCidx
  let tag := ctagOf (l % 2 = 1) c
  let s1 := ((s.setLane l { x with txCidx := c + 1 }).emit (.comma l c.toNat tag)).sendLevels l (commaLevels c.toNat tag)
  (if l % 2 = 0 then s1.stampTx p c frac else s1).commaDone p

/-- COMMA_HALF_TRANSMIT (R132, R145): a comma half is sent on the grid, and lane 0 latches its timestamp. -/
def execCommaHalfTransmit (l : Lane) (frac : BitVec 6) (s : State) : Host.Outcome State Fault Refusal :=
  liveLink s fun s => if onGrid (s.pst (l.val / 2)) && s.halfDue l.val then s.commaSend l.val frac.toNat else s

/-! ### Training -/

/-- The effect of EN: 1 trains a port from T_OFF, 0 turns it off at once in every state (R158). -/
def State.setPortEn (s : State) (p : Nat) (en : Bool) : State :=
  let s1 := s.wrB R.PORT_CTRL_EN en p
  if !en then s1.enterOff p
  else if s1.pst p = tOff then s1.trainIfOn p else s1

/-- PORT_CTRL_EN_WRITE (R158, R66). -/
def execPortCtrlEnWrite (p : Port) (en : Bool) (s : State) : Host.Outcome State Fault Refusal :=
  liveLink s fun s => s.setPortEn p.val en

/-- PORT_CTRL_RETRAIN_WRITE (R158, R200): no effect while EN is 0. -/
def execPortCtrlRetrainWrite (p : Port) (bit : Bool) (s : State) : Host.Outcome State Fault Refusal :=
  liveLink s fun s => if bit then s.retrain p.val false else s

/-- LANE_SIGNAL_DETECT (R142). -/
def execLaneSignalDetect (l : Lane) (s : State) : Host.Outcome State Fault Refusal :=
  liveLink s fun s => ((s.wr R.LANE_STATUS_SIGDET 1 l.val).cond (pgLane l.val) 0 false).tryCdr (l.val / 2)

/-- LANE_SIGNAL_LOSS (R142, R194): signal or, with the signal present, lock is lost; the port enters T_SEND. -/
def execLaneSignalLoss (l : Lane) (lockOnly : Bool) (s : State) : Host.Outcome State Fault Refusal :=
  liveLink s fun s =>
    let l := l.val
    let s1 := (s.wr R.LANE_STATUS_CDR_LOCK 0 l).wr R.LANE_STATUS_COMMA_LOCK 0 l
    let s2 := if lockOnly then s1.cond (pgLane l) 1 true else (s1.wr R.LANE_STATUS_SIGDET 0 l).cond (pgLane l) 0 true
    s2.lostLock (l / 2)

/-- One requested step of a coefficient (R123, R139): the new magnitude, c(0) and the status. -/
def coefStep (req cur main maxMag : Nat) : Nat × Nat × Nat :=
  match req with
  | 1 => if cur + 1 ≤ maxMag && main ≥ 29 then (cur + 1, main - 1, 1) else (cur, main, 3)
  | 2 => if cur ≥ 1 then (cur - 1, main + 1, 1) else (cur, main, 2)
  | _ => (cur, main, 0)

/-- Apply the peer's requests of a control word to a lane's transmitter (R123, R124, R139); ignored while OVR is 1. The reserved request 0b11 acts as
hold, and a preset goes before steps in the same word (DESIGN CHOICE, log 169). -/
def LaneState.applyControl (x : LaneState) (control : Nat) (ovr : Bool) : LaneState :=
  let pr := field control 3 1 = 1
  let preq := field control 4 2
  let qreq := field control 6 2
  if ovr then { x with preSt := 0, postSt := 0, presetDone := false }
  else if pr then
    let c := preset (field control 0 3)
    let x : LaneState := if preq = 0 || preq = 3 then { x with preSt := 0 } else x
    let x : LaneState := if qreq = 0 || qreq = 3 then { x with postSt := 0 } else x
    if x.presetDone then x else { x with pre := c.1, main := c.2.1, post := c.2.2, presetDone := true }
  else
    let x : LaneState := { x with presetDone := false }
    let x : LaneState := if preq = 0 || preq = 3 then { x with preSt := 0 }
      else if x.preSt ≠ 0 then x
      else
        let r := coefStep preq x.pre x.main 16
        { x with pre := r.1, main := r.2.1, preSt := BitVec.ofNat 2 r.2.2 }
    if qreq = 0 || qreq = 3 then { x with postSt := 0 }
    else if x.postSt ≠ 0 then x
    else
      let r := coefStep qreq x.post x.main 20
      { x with post := r.1, main := r.2.1, postSt := BitVec.ofNat 2 r.2.2 }

/-- One request field of the receiver (R139): kept until the peer's status for it is not 0, then hold; a new one is made once the status is 0 again. -/
def nextRequest (cur status wish : Nat) : Nat := if status ≠ 0 then 0 else if cur ≠ 0 then cur else wish

/-- The receiver's requests after a status word of the peer: what the adaptation asks for is an operand (R138, R139). -/
def LaneState.nextRequests (x : LaneState) (status wish : Nat) : LaneState :=
  let step := fun lo => if field wish lo 2 = 3 then 0 else field wish lo 2
  let r := x.req.toNat
  let pr := nextRequest (field r 0 4) (field status 4 1) (if field wish 3 1 = 1 then field wish 0 4 else 0)
  let a := nextRequest (field r 4 2) (field status 0 2) (step 4)
  let b := nextRequest (field r 6 2) (field status 2 2) (step 6)
  { x with req := BitVec.ofNat 8 (pr + a * 2 ^ 4 + b * 2 ^ 6) }

/-- The coefficient exchange of T_COEF on lane `l`, the one the peer's words name (R135), with the words of a training frame; T_ALIGN when RX_READY has gone both ways on both lanes. -/
def State.coefTake (s : State) (l control status : Nat) (wish : Nat) (adapted : Bool) : State :=
  let p := l / 2
  let y := ((s.lane l).applyControl control (s.on R.LANE_TXEQ_OVR l)).nextRequests status wish
  let y := { y with readyGot := y.readyGot || decide (field control 8 1 = 1), readySent := y.readySent || adapted }
  let s1 := (s.setLane l y).sendTraining l
  let a := s1.lane (2 * p)
  let b := s1.lane (2 * p + 1)
  if a.readySent && a.readyGot && b.readySent && b.readyGot then s1.enterAlign p else s1

/-- A training frame that reaches lane `l` of a port in T_CDR or T_COEF, with its marker and its words. -/
def State.trainTake (s : State) (l : Nat) (inverted : Bool) (control status wish : Nat) (adapted : Bool) : State :=
  let p := l / 2
  let x := { s.lane l with marker := true, peerLane := some (field control 15 1 = 1) }
  let s1 := ((s.setLane l x).wr R.LANE_STATUS_CDR_LOCK 1 l).wrB R.LANE_STATUS_RX_INV inverted l
  let s1 := (s1.cond (pgLane l) 1 false).adapt l true
  let s1 := s1.wrB R.PORT_STATUS_SWAP (s1.swapped p) p
  let s2 := if s1.pst p = tCdr && (s1.lane (2 * p)).marker && (s1.lane (2 * p + 1)).marker then s1.setPst p tCoef else s1
  if s2.pst p = tCoef then s2.coefTake (2 * p + field control 15 1) control status wish adapted else s2

/-- The UIs of a training frame are read: without its marker they are none (R135, R137). -/
def State.trainHeard (s : State) (l : Nat) (marker words : List Level) (wish : Nat) (adapted : Bool) : State :=
  match markerInverted marker with
  | none => s
  | some inv =>
    let ui := uninvert inv words
    if s.pst (l / 2) = tCdr || s.pst (l / 2) = tCoef then s.trainTake l inv (readWord ui 0) (readWord ui 128) wish adapted else s

/-- TRAIN_FRAME_RECEIVE (R123, R135, R137 to R139, R142 to R144): the 32 UIs of the marker and the 256 UIs of the words of a training frame, the request
that this receiver's adaptation has for the peer (bits 7 to 0 of a control word), and whether the adaptation has finished. A frame without its marker has
no effect. -/
def execTrainFrameReceive (l : Lane) (marker words : List Level) (wish : BitVec 8) (adapted : Bool) (s : State) :
    Host.Outcome State Fault Refusal :=
  liveLink s fun s => (s.tryCdr (l.val / 2)).trainHeard l.val marker words wish.toNat adapted

/-- TRAIN_LIMIT_EXPIRE (R142): a full training limit runs out. -/
def execTrainLimitExpire (p : Port) (s : State) : Host.Outcome State Fault Refusal :=
  liveLink s fun s =>
    let p := p.val
    let t := s.pst p
    if ((t = tCdr || t = tCoef) && !(s.port p).shortLimits) || t = tAlign || t = tIdent then
      (((s.setPst p tHold).wr R.PORT_STATUS_TRAIN_FAIL 1 p).raise (pgLane (2 * p)) 2).emit (.idle p)
    else s

/-- TRAIN_HOLD_EXPIRE (R142). -/
def execTrainHoldExpire (p : Port) (s : State) : Host.Outcome State Fault Refusal :=
  liveLink s fun s => if s.pst p.val = tHold then s.enterSend p.val false else s

/-- The identity record is well formed: MAGIC, CRC and IDVER (R141). -/
def recordOk (r : Flit) : Bool :=
  fget r 0 32 = 0x5A961D0E && fget r 64 8 = 1 && fget r 224 32 = crc32c (toBytes 28 r.toNat)

/-- The peer's identity is the one R67 and R141 expect on the port. -/
def State.identityOk (s : State) (p : Nat) (r : Flit) : Bool :=
  (expectedPeer s.topo p = some (fget r 32 20)) && (expectedPeerPort s.topo p = some (fget r 52 7)) &&
    (decide (fget r 60 1 = 1) == isCarr s.topo p)

/-- The record of the next codeword received, and whether the codeword carries the uncorrectable mark (R140). -/
def State.nextRecord (s : State) (p : Nat) : Option (Flit × Bool) :=
  let bs := (s.link p).rxBytes
  if bs.length < 340 then none else some (BitVec.ofNat 256 (ofBytes ((bs.take 32).map Prod.fst)), (bs.take 340).any Prod.snd)

/-- A record is counted towards four identical good ones in a row (R141). -/
def PortState.takeRecord (q : PortState) (record : Flit) (marked : Bool) : PortState :=
  let ok := recordOk record && !marked
  { q with
    idRecord := if ok then some record else none
    idRun := if !ok then 0 else if q.idRecord = some record then q.idRun + 1 else 1 }

/-- The identity is accepted: the port is in T_UP, at place `pair` of the comma grid of what it sends (R141, R191). -/
def State.portUp (s : State) (p : Nat) (record : Flit) (pair : Nat) : State :=
  let s1 := ((((s.wr R.PORT_PEER_ID_PEER_PID (fget record 32 20) p).wr R.PORT_PEER_ID_PEER_PORT (fget record 52 7) p).wr
    R.PORT_PEER_ID_PEER_PAIRED (fget record 59 1) p).wr R.PORT_PEER_ID_PEER_CARR (fget record 60 1) p).wr
    R.PORT_PEER_ID_VALID 1 p
  ((s1.setPst p tUp).setPort p { s1.port p with
    shortLimits := false, delays := [], delayCount := 0, txPend := [], txPair := if s1.halvesEven p then pair else 2048 }).sessionStart p

/-- The identity check fails: MISWIRED, with both lanes idle. PORT_PEER_ID keeps its fields (DESIGN CHOICE, log 171: the spec does not say whether they
show the wrong peer). -/
def State.miswire (s : State) (p : Nat) : State :=
  (((s.setPst p tMis).cond (pgLane (2 * p)) 3 true).cond pgRout 0 true p).emit (.idle p)

/-- IDENTITY_RECORD_RECEIVE (R141, R67, R191): the record of the next codeword is taken, and four identical good ones are judged; `pair` is the place of the
transmitters on the comma grid. -/
def execIdentityRecordReceive (p : Port) (pair : Fin 2049) (s : State) : Host.Outcome State Fault Refusal :=
  liveLink s fun s =>
    let p := p.val
    match s.nextRecord p with
    | none => s
    | some (record, marked) =>
      if s.pst p ≠ tIdent then s
      else
        let s0 := s.setLink p { s.link p with rxBytes := (s.link p).rxBytes.drop 340 }
        let s1 := s0.setPort p ((s0.port p).takeRecord record marked)
        if (s1.port p).idRun < 4 then s1 else if s1.identityOk p record then s1.portUp p record pair.val else s1.miswire p

/-- MISWIRED_RETRY (R67, R142). -/
def execMiswiredRetry (p : Port) (s : State) : Host.Outcome State Fault Refusal :=
  liveLink s fun s => if s.pst p.val = tMis then s.enterSend p.val false else s

/-! ### Low power -/

/-- LP_QUIET_EXIT (R150, R199): a direction in LP-QUIET that has work sends a wake marker and resumes from its place of the comma grid on. -/
def execLpQuietExit (x : PortPlace) (s : State) : Host.Outcome State Fault Refusal :=
  liveLink s fun s => if s.pst x.port.val = tQuiet && s.quietWork x.port.val then s.exitQuiet x.port.val x.pair.val else s

/-- LP_DORMANT_ENERGY_WAKE (R151; 17_reset_power_supplies.md R625): a port leaves LP-DORMANT at its saved coefficients: at energy, which latches wake source
NET_ENERGY, or where its own link layer has work (05_link_layer.md R199). In PEAT the wake exit brings the port up. -/
def execLpDormantEnergyWake (p : Port) (local_ : Bool) (s : State) : Host.Outcome State Fault Refusal :=
  if !s.up || s.pst p.val ≠ tDorm || (local_ && !s.quietWork p.val) then .next s
  else
    let s1 := if local_ then s else s.wakeLatch wkNetEnergy p.val
    if s1.runs && s1.pst p.val = tDorm then fin (s1.enterSend p.val true).carrWatch else fin s1

/-- LP_EXIT_SLOW (R152): a shortened limit runs out, and full training restarts. -/
def execLpExitSlow (p : Port) (s : State) : Host.Outcome State Fault Refusal :=
  liveLink s fun s =>
    let p := p.val
    if (s.pst p = tCdr || s.pst p = tCoef) && (s.port p).shortLimits then
      ((s.enterSend p false).wr R.PORT_STATUS_SLOW_EXIT 1 p).bump C.PWR_SLOW_EXITS
    else s

end Sys2Proof.Machine
end

