-- ==== Sys2Proof/Machine/Boot.lean ====
section
/-! DEFINITION. Resets and start-up (17_reset_power_supplies.md R599 to R610), device phases (18_faults.md R649), the boot chain and trials
(20_firmware_and_trust.md R684 to R698). -/

namespace Sys2Proof.Machine

/-! ### Phases (18_faults.md R649, R652, R653) -/

/-- The confirm timer of a trial start-up begins when it first reaches SERVICE (20_firmware_and_trust.md R693). -/
def State.startConfirm (s : State) : State :=
  if s.on R.FWU_STATUS_TRIAL_BOOTED && s.trial && s.phase = phService && s.aon.confirmEnd.isNone then
    { s with aon := { s.aon with confirmEnd := some ((s.aonCount + s.nv.trialMin * 60 * 25000000) % 2 ^ 48) } }
  else s

/-- What only TEST allows ends on leaving it: HOLD of every page, STOP and FORCE. -/
def State.leaveTest (s : State) : State :=
  let s1 := allPages.foldl (fun s p => s.wr R.FLT_FORCE_HOLD 0 p) s
  (s1.wr R.PIN_FUM_STOP 0).wr R.PIN_ERR_FORCE 0

/-- A request for a phase after start-up: an allowed transition of Table 18.3, or none. -/
def State.setPhase (s : State) (p : Nat) : State :=
  if s.phase = phStartup || p = phStartup || p > 3 || p = s.phase then s
  else ((if s.phase = phTest then s.leaveTest else s).wr R.PIN_PHASE_PHASE p).startConfirm

/-! ### Resets (R599 to R603) -/

/-- Every field at its reset value, but for the queue, the stored data of flash, MRAM and OTP, and the inputs that outside circuits drive. -/
def State.powerOn (s : State) : State :=
  let keep := [R.PWR_SUPPLY_A_OK, R.PWR_SUPPLY_B_OK, R.PWR_SUPPLY_VAUX_A, R.PWR_SUPPLY_VAUX_B, R.PWR_SUPPLY_VRHOT]
  { State.reset with
    pending := s.pending
    free := s.free
    out := .resetStart :: s.out
    nv := s.nv
    aon := { errLow := s.aon.errLow, perst := s.aon.perst }
    regs := s.regs.filter fun kv => keep.any fun f => f.key 0 0 = kv.1 }

/-- POWER_ON_RESET: every block, the always-on domain included; what the board drives stays as it is. -/
def execPowerOnReset (s : State) : Host.Outcome State Fault Refusal := fin s.powerOn

/-- RESET_N_ASSERT (R599). -/
def execResetNAssert (s : State) : Host.Outcome State Fault Refusal := fin (s.fullReset rcResetN 0 0 0)

/-- RST_CTRL_FULL_WRITE (R639). -/
def execRstCtrlFullWrite (bit : Bool) (s : State) : Host.Outcome State Fault Refusal :=
  live s fun s => if bit then s.fullReset rcExpert 0 0 0 else s

/-- RESET_DELAY_EXPIRE: the DELAY_US of RESET_FULL has run. -/
def execResetDelayExpire (s : State) : Host.Outcome State Fault Refusal :=
  live s fun s => if s.pwr.delayReset then s.fullReset rcCommand 0 0 0 else s

/-- FIRMWARE_RESET_DELAY: 1 ms after the reply of an activation (20_firmware_and_trust.md R692, R686). -/
def execFirmwareResetDelay (s : State) : Host.Outcome State Fault Refusal :=
  live s fun s => if s.pwr.fwReset then s.fullReset rcFirmware 0 0 0 else s

/-- UNDERVOLTAGE (R634): the device stays in full reset until the rails have recovered. -/
def execUndervoltage (rail : Fin 9) (s : State) : Host.Outcome State Fault Refusal :=
  let s1 := s.fullReset rcUndervolt rail.val 0 0
  fin { s1 with aon := { s1.aon with rails := true } }

/-- RAIL_RECOVERY (R634). -/
def execRailRecovery (s : State) : Host.Outcome State Fault Refusal :=
  fin (if s.on R.PWR_SUPPLY_A_OK || s.on R.PWR_SUPPLY_B_OK then { s with aon := { s.aon with rails := false } } else s)

/-- CALDERA_WATCHDOG_WARN (18_faults.md). -/
def execCalderaWatchdogWarn (s : State) : Host.Outcome State Fault Refusal :=
  live s fun s => (s.wr R.CHIP_WDOG_REMAIN 1000).raise pgChip 1

/-- CALDERA_WATCHDOG_EXPIRE (18_faults.md R655). -/
def execCalderaWatchdogExpire (s : State) : Host.Outcome State Fault Refusal := live s fun s => s.fullReset rcWatchdog 0 0 0

/-! ### Start-up (R603, R608 to R610) -/

/-- The supply condition of R634 that holds the device in full reset after RESET_N rises, and after an undervoltage. -/
def State.mayStart (s : State) : Bool :=
  !s.aon.rails && (s.rd R.RST_CAUSE_CAUSE > rcResetN || s.on R.PWR_SUPPLY_A_OK || s.on R.PWR_SUPPLY_B_OK)

/-- The full reset ends with the straps sampled; the boot ROM starts, or test mode. -/
def State.resetEnd (s : State) (x : Nat) : State :=
  let test := bitAt x 3
  let s1 : State := { s with pwr := { s.pwr with held := false, boot := if test then .test else .rom, t0 := s.time.cycles } }
  let s2 := s1.wrs [(R.RST_STRAP_BOOT_SEL, field x 0 2), (R.RST_STRAP_PAIR_SIDE, field x 2 1), (R.RST_STRAP_TEST_MODE, field x 3 1)]
  let hosts := ([0, 1, 2, 3].filter fun h => !tget false s2.aon.perst h).map Out.hostTrain
  let live := bNat (!s2.on R.PWR_SUPPLY_A_OK) + 2 * bNat (!s2.on R.PWR_SUPPLY_B_OK) +
    4 * bNat (!s2.on R.PWR_SUPPLY_VAUX_A || !s2.on R.PWR_SUPPLY_VAUX_B) + 8 * s2.rd R.PWR_SUPPLY_VRHOT
  let s3 := s2.wr R.FLT_LIVE_LIVE live pgPwr
  if test then s3 else s3.emits hosts

/-- FULL_RESET_RELEASE, T0 (R603, Table 17.2; 21_pins_and_electrical.md R722, R723): bits 1 and 0 of the straps are BOOT_SEL, bit 2
PAIR_SIDE, bit 3 TEST_MODE. -/
def execFullResetRelease (straps : BitVec 4) (s : State) : Host.Outcome State Fault Refusal :=
  if !s.pwr.held || !s.mayStart then .next s else fin (s.resetEnd straps.toNat)

/-- IMAGE_BOOT (20_firmware_and_trust.md R684, R685, R700): the image and the configuration are chosen and taken into use. -/
def State.imageBoot (s : State) (mramOk : Bool) : State :=
  let sel := s.rd R.RST_STRAP_BOOT_SEL
  let stage := fun (s : State) b => ({ s with pwr := { s.pwr with boot := b } } : State)
  let s0 := (s.wrB R.FWU_STATUS_FALLBACK s.nv.fallback).wr R.SEC_JRN_HEAD s.nv.head
  if sel = 3 then stage s0 .load
  else
    let (s1, image) := s0.chooseImage mramOk
    let s2 := s1.setNv fun x => { x with fallback := false }
    match image with
    | none => stage s2 .load
    | some (b, isTrial) =>
      let s3 := ((stage s2 .firmware).loadImage b).otherRelease b
      let (s4, c, slot) := if sel = 2 then (s3, defaultConfig, none) else s3.chooseConfig
      let s5 := s4.setNv fun x => { x with fallback := false }
      let trialCfg := slot.isSome && s5.nv.trialCfg && slot ≠ some s5.nv.activeCfg
      let s6 := (s5.useConfig c slot).wrB R.FWU_STATUS_TRIAL_BOOTED (isTrial || trialCfg)
      { s6 with pwr := { s6.pwr with recovery := sel ≠ 0 || slot.isNone } }

def execImageBoot (mramOk : Bool) (s : State) : Host.Outcome State Fault Refusal :=
  live s fun s => if s.pwr.boot = .rom then s.imageBoot mramOk else s

/-- The incarnation number after an advance (02_grid_and_addressing.md R87). -/
def nextInc (i : Nat) : Nat :=
  let j := (i + 1) % 2 ^ 32
  if j % 2 ^ 16 = 0 then (j + 1) % 2 ^ 32 else j

/-- The allocation in force: REGION, base and size. -/
def State.allocInForce (s : State) : List (Nat × Nat × Nat) :=
  let l := cfgAlloc s.fw.config
  if l.isEmpty then defaultAlloc else l

/-- The 4,096 entries of a routing bank in a configuration. -/
def cfgBank (c : List Byte) (off : Nat) : Tab Nat := (List.range 4096).foldl (fun t i => tput 0 t i (leAt c (off + 8 * i) 8)) []

/-- The configuration is applied to the blocks: allocation, routing banks, and the ports it enables (01_architecture.md R34;
07_dynamic_routing.md R260). -/
def State.configureBlocks (s : State) : State :=
  let c := s.fw.config
  let l := s.allocInForce
  let s1 : State := { s with hbm := [] }
  let s2 := l.foldl (fun s x => (s.wr R.HBM_REGION_BASE_OFFSET x.2.1 x.1).wr R.HBM_REGION_SIZE_SIZE x.2.2 x.1) (s1.wr R.HBM_STATUS_TRAINED 1)
  let s3 := s2.wrs [(R.CNT_RING_BASE, s2.regionBase 4 + 0x8000000), (R.ROUT_CTRL_MODE, leAt c 0x18 1), (R.ROUT_EXCL0_LO_EXCL, leAt c 0x130 8),
    (R.ROUT_EXCL0_HI_EXCL, leAt c 0x138 4), (R.ROUT_EXCL1_LO_EXCL, leAt c 0x140 8), (R.ROUT_EXCL1_HI_EXCL, leAt c 0x148 4)]
  let s4 := (s3.setAliasBank 0 (cfgBank c 0x400)).setAliasBank 1 (cfgBank c 0x8400)
  let s5 := if dims.all (fun d => (dimPorts s4.topo d).isEmpty) then s4.wr R.ROUT_CTRL_ADOPTED 1 else s4
  let ports := (List.range 96).filter fun p => bitAt (leAt c 0x20 16) p
  ports.foldl (fun s p => s.setPortEn p true) s5

/-- The HBM is ready: the incarnation takes its next value in MRAM, and the blocks are configured. -/
def State.hbmReady (s : State) (incOk : Bool) : State :=
  if !incOk then { s.mramFail with pwr := { s.mramFail.pwr with boot := .incFailed } }
  else
    let s1 := ((s.setNv fun x => { x with inc := nextInc x.inc }).completeFloors).configureBlocks
    { s1 with pwr := { s1.pwr with boot := .blocks } }

/-- HBM_INIT_COMPLETE (Table 17.2; 02_grid_and_addressing.md R87, R89; 20_firmware_and_trust.md R695): `incOk` is whether the advanced
incarnation number was written and verified. -/
def execHbmInitComplete (incOk : Bool) (s : State) : Host.Outcome State Fault Refusal :=
  liveLink s fun s => if s.pwr.boot = .firmware then s.hbmReady incOk else s

/-- PAIR_SIDE does not agree with OWN_PID: the device stays in STARTUP (02_grid_and_addressing.md R69). -/
def State.sideMismatch (s : State) : Bool := s.paired && s.ownPid % 2 ≠ s.rd R.RST_STRAP_PAIR_SIDE

/-- START-UP ends: SERVICE, or RECOVERY where the start was a recovery or the loop limit is met. -/
def State.startDone (s : State) : State :=
  let recovery := s.pwr.recovery || s.rd R.PIN_RSTF0_LOOPS ≥ s.rd R.PIN_PHASE_LOOP_MAX
  let s1 : State := { s with pwr := { s.pwr with boot := .done } }
  let s2 := (s1.wr R.PIN_PHASE_PHASE (if recovery then phRecovery else phService)).setPair (if s1.paired then psStart else psUnpaired)
  let s3 := if recovery then s2 else s2.wr R.RST_START_STARTUP_MS ((s2.time.cycles - s2.pwr.t0) / 1600000)
  (s3.journalOpen jrStart).startConfirm.confirmLate

/-- STARTUP_COMPLETE (R608, R609; 18_faults.md R655; 15_pair_operation.md R553). -/
def execStartupComplete (s : State) : Host.Outcome State Fault Refusal :=
  liveLink s fun s => if s.pwr.boot ≠ .blocks || s.sideMismatch then s else s.startDone

/-! ### Trials and live activation (20_firmware_and_trust.md R693, R697, R698) -/

/-- The device sleeps in PEAT or is on its way out of it: no firmware runs. -/
def State.asleep (s : State) : Bool := s.up && (s.powerState = psPeat || s.powerState = psExit)

/-- CONFIRM_TIMEOUT (R693). The time runs on CLK_AON and survives full resets: where it ends while no firmware runs (PEAT, a full reset, the
boot ROM) it takes effect when the exit or the start-up is complete (01_architecture.md R49). -/
def execConfirmTimeout (mramOk : Bool) (s : State) : Host.Outcome State Fault Refusal :=
  if s.aon.confirmEnd.isNone then .next s
  else if s.asleep || !s.up || !s.fwRuns then fin { s with aon := { s.aon with confirmDue := some mramOk } }
  else fin (s.confirmExpire mramOk)

/-- LIVE_ACTIVATION_RESTART (R697, Table 20.7): the other started commands have ended, Caldera restarts, and the boot ROM verifies the
trial slot; a failed verification makes a full reset (R698). -/
def execLiveActivationRestart (s : State) : Host.Outcome State Fault Refusal :=
  live s fun s =>
    match s.fw.live with
    | none => s
    | some n =>
      if s.fw.restarted || s.cmd.started.any (fun c => c.n ≠ n) then s
      else if !s.verify (!s.nv.activeImg) then s.fullReset rcFirmware 0 0 0
      else ({ s with fw := { s.fw with restarted := true } } : State).wr R.CHIP_WDOG_REMAIN 2000

/-- LIVE_ACTIVATION_COMPLETE (R697, Table 20.7). -/
def execLiveActivationComplete (s : State) : Host.Outcome State Fault Refusal :=
  live s fun s =>
    match s.fw.live with
    | none => s
    | some n =>
      if !s.fw.restarted then s
      else
        let b := !s.nv.activeImg
        let s1 := (s.loadImage b).otherRelease b
        let s2 : State := { s1 with fw := { s1.fw with live := none, restarted := false } }
        let s3 := s2.wrs [(R.FWU_STATUS_TRIAL_BOOTED, 1), (R.FWU_STATUS_LIVE, 0), (R.CMD_STAT_LIVE_ACT, 0)]
        (s3.finalReply n stOk []).startConfirm

/-- LIVE_ACTIVATION_TIMEOUT (R698). -/
def execLiveActivationTimeout (s : State) : Host.Outcome State Fault Refusal :=
  live s fun s => if s.fw.live.isSome then s.fullReset rcFirmware 0 0 0 else s

/-- EXPERT_LOCKOUT_EXPIRE (16_command_packets.md R593). -/
def execExpertLockoutExpire (s : State) : Host.Outcome State Fault Refusal := live s fun s => s.wr R.CMD_EXPERT_LOCKOUT 0

end Sys2Proof.Machine
end

