-- ==== Sys2Proof/Machine/CmdOps.lean ====
section
/-! DEFINITION. How a command packet is checked and started (16_command_packets.md R572 to R588, R748). -/

namespace Sys2Proof.Machine

def plensGeneral : List (Nat × Nat) :=
  [(0x0000, 0), (0x0001, 1), (0x0002, 24)]
def plensLanes : List (Nat × Nat) :=
  [(0x0100, 2), (0x0101, 2), (0x0102, 2), (0x0103, 1), (0x0104, 1), (0x0105, 1), (0x0106, 12), (0x0107, 4), (0x0108, 1), (0x0109, 2)]
def plensRouting : List (Nat × Nat) :=
  [(0x0200, 16), (0x0201, 16), (0x0202, 20), (0x0203, 11), (0x0204, 1), (0x0205, 8), (0x0206, 4), (0x0207, 8), (0x0208, 0), (0x0209, 16), (0x020A, 8), (0x020B, 16), (0x020C, 8)]
def plensGeyser : List (Nat × Nat) :=
  [(0x0300, 5), (0x0301, 12), (0x0302, 10), (0x0303, 8), (0x0304, 0), (0x0305, 0)]
def plensSchedule : List (Nat × Nat) :=
  [(0x0400, 20), (0x0401, 24), (0x0402, 8), (0x0403, 0), (0x0404, 0), (0x0405, 0), (0x0406, 9)]
def plensHost : List (Nat × Nat) :=
  [(0x0500, 48), (0x0501, 16), (0x0502, 1), (0x0503, 1), (0x0504, 4), (0x0505, 0), (0x0506, 1), (0x0507, 1), (0x0508, 8), (0x0509, 3), (0x050A, 16), (0x050B, 24), (0x050C, 2)]
def plensXlt : List (Nat × Nat) :=
  [(0x0600, 24), (0x0601, 2), (0x0602, 16), (0x0603, 4), (0x0604, 24), (0x0605, 16), (0x0606, 2)]
def plensTransport : List (Nat × Nat) :=
  [(0x0700, 16), (0x0701, 2), (0x0702, 4), (0x0703, 4), (0x0704, 32), (0x0705, 4), (0x0706, 4)]
def plensMatch : List (Nat × Nat) :=
  [(0x0800, 6), (0x0801, 0), (0x0802, 4)]
def plensTrigger : List (Nat × Nat) :=
  [(0x0900, 4), (0x0901, 8), (0x0902, 9), (0x0903, 4), (0x0904, 16), (0x0905, 60), (0x0906, 2), (0x0907, 2)]
def plensPair : List (Nat × Nat) :=
  [(0x0A00, 1), (0x0A01, 16), (0x0A02, 0), (0x0A03, 0)]
def plensPower : List (Nat × Nat) :=
  [(0x0B00, 4), (0x0B01, 1), (0x0B02, 4), (0x0B03, 0), (0x0B04, 0)]
def plensFaults : List (Nat × Nat) :=
  [(0x0C00, 4), (0x0C01, 16), (0x0C02, 6), (0x0C03, 16), (0x0C04, 4), (0x0C05, 1)]
def plensCounters : List (Nat × Nat) :=
  [(0x0D00, 16), (0x0D01, 4), (0x0D02, 16)]
def plensFirmware : List (Nat × Nat) :=
  [(0x0E00, 12), (0x0E01, 56), (0x0E02, 5), (0x0E03, 0), (0x0E04, 0), (0x0E05, 12), (0x0E06, 40), (0x0E07, 20)]
def plensExpert : List (Nat × Nat) :=
  [(0x0F00, 0), (0x0F01, 0), (0x0F02, 0), (0x0F03, 5), (0x0F04, 16), (0x0F05, 0)]

/-- Every opcode and the packed length of its parameters under R573 (Tables 16.6 to 16.8). -/
def plens : List (Nat × Nat) :=
  plensGeneral ++ plensLanes ++ plensRouting ++ plensGeyser ++ plensSchedule ++ plensHost ++ plensXlt ++ plensTransport ++ plensMatch ++ plensTrigger ++ plensPair ++ plensPower ++ plensFaults ++ plensCounters ++ plensFirmware ++ plensExpert

/-- The padding bytes between the containers of an opcode's parameters (R573), which must be 0 (R576). -/
def padBytes : List (Nat × List Nat) :=
  [(0x0002, [6, 7]), (0x0106, [1, 2, 3]), (0x0107, [1]), (0x0200, [1, 4, 5, 6, 7]), (0x0201, [1, 6, 7]),
   (0x0202, [1, 2, 3, 4, 5, 6, 7]), (0x0209, [1, 2, 3, 4, 5, 6, 7]), (0x020B, [1, 2, 3, 4, 5, 6, 7]), (0x0301, [3]),
   (0x0400, [1, 2, 3, 4, 5, 6, 7]), (0x0401, [1, 2, 3, 4, 5, 6, 7]), (0x0406, [1]), (0x0500, [12, 13, 14, 15]), (0x0501, [5, 6, 7]),
   (0x0508, [2, 3]), (0x050A, [3]), (0x050B, [3, 12, 13, 14, 15]), (0x0600, [5, 6, 7, 12, 13, 14, 15]), (0x0604, [2, 3, 4, 5, 6, 7]),
   (0x0904, [4, 5, 6, 7]), (0x0A01, [1, 2, 3, 4, 5, 6, 7]), (0x0C01, [4, 5, 6, 7]), (0x0C03, [4, 5, 6, 7]), (0x0D00, [4, 5, 6, 7]),
   (0x0D02, [4, 5, 6, 7]), (0x0E01, [5, 6, 7]), (0x0E07, [1, 2, 3, 4, 5, 6, 7]), (0x0F04, [5, 6, 7])]

/-- The padding of a string of parameters is 0. -/
def padOk (code : Nat) (ps : List Byte) : Bool := ((padBytes.lookup code).getD []).all fun i => ps.getD i 0 = 0

/-- Issuer codes (Table 16.5); `px` is "P, SMBus". -/
inductive Issuer
  | a | f | p | d | px
  deriving DecidableEq, Repr

/-- Check 3 of R579: the By column allows the path. Over the network only D opcodes are taken (R591; log 50). -/
def Issuer.allows (b : Issuer) (p : CmdPath) : Bool :=
  match p, b with
  | .ring _ _, .a | .ring _ _, .f => true
  | .ring _ fn, _ => fn.val = 0
  | .smbus, .a | .smbus, .d | .smbus, .px => true
  | .smbus, _ => false
  | .remote _ _, b => b = .d

/-- The path of an expert opcode is unlocked (check 4, R593). -/
def State.unlocked (s : State) (p : CmdPath) : Bool :=
  match p with
  | .ring h _ => bitAt (s.rd R.CMD_EXPERT_EXPERT_EN) h.val
  | .smbus => s.on R.CMD_EXPERT_SMB_EXPERT
  | .remote _ _ => false

/-- Check 5: in STARTUP only these groups, and RESET_FULL, are accepted. -/
def startupOp (code : Nat) : Bool :=
  let g := code / 256
  g = 0x00 || g = 0x0C || g = 0x0E || g = 0x0F || code = 0x0B00

/-- What ROM load mode accepts, from PF rings and SMBus (20_firmware_and_trust.md R686). -/
def loadOp (code : Nat) : Bool := code = 0x0001 || code = 0x0E04 || code = 0x0E00 || code = 0x0E01 || code = 0x0E02 || code = 0x0B00

/-- Checks 3 to 5 of R579 for an opcode; none: they pass. -/
def State.cmdRefusal (s : State) (b : Issuer) (code : Nat) (p : CmdPath) : Option Nat :=
  if !b.allows p then some stNotPermitted
  else if (code = 0x0F03 || code = 0x0F04) && !s.unlocked p then some stNeedsExpert
  else if s.pwr.boot = .load && !loadOp code then some stBusy
  else if s.phase = phStartup && !startupOp code then some stBusy
  else none

/-- The command that a path starts next, when it is `c` with this opcode and these parameters (R584). -/
def State.cmdReady (s : State) (c : CmdRef) (code : Nat) (ps : List Byte) : Option WaitCmd :=
  match s.cmd.waiting.find? fun w => w.ref.path = c.path with
  | some w => if w.ref = c && w.opcode = code && w.params = ps && !w.bad && s.fenceOk w then some w else none
  | none => none

/-- A waiting command has started: it leaves the waiting ones and has the next number, and its extended buffer is read (R574). -/
def State.begun (s : State) (w : WaitCmd) : State :=
  let x : Started := { n := s.cmd.next, ref := w.ref, opcode := w.opcode, sinc := w.sinc }
  ({ s with cmd := { s.cmd with waiting := s.cmd.waiting.erase w, started := s.cmd.started ++ [x], next := s.cmd.next + 1 } } : State).readBuf w

/-- Start a waiting command: it is refused with its final reply, or its effect follows (R578, R579). -/
def State.startCmd (s : State) (b : Issuer) (w : WaitCmd) (f : Nat → State → State) : State :=
  match (s.begun w).cmdRefusal b w.opcode w.ref.path with
  | some st => ((s.begun w).bump C.CMD_REFUSED).finalReply s.cmd.next st []
  | none => f s.cmd.next (s.begun w)

/-- The row of an opcode: the command starts where it is the next one of its path; otherwise nothing happens (log 8). `f` is given the
number of the started command, and gives its final reply or leaves it started. -/
def command (b : Issuer) (code : Nat) (c : CmdRef) (ps : List Byte) (s : State) (f : Nat → State → State) : Host.Outcome State Fault Refusal :=
  if !s.serving || s.fw.live.isSome then .next s
  else match s.cmdReady c code ps with
    | none => .next s
    | some w => fin (s.startCmd b w f)

/-- The row of an opcode that can change the state of a link. -/
def commandLink (b : Issuer) (code : Nat) (c : CmdRef) (ps : List Byte) (s : State) (f : Nat → State → State) : Host.Outcome State Fault Refusal :=
  command b code c ps s fun n s => (f n s).carrWatch

/-- The final reply with a status alone. -/
def State.ends (s : State) (n st : Nat) : State := s.finalReply n st []
/-- The OK reply with a result packed under R573. -/
def State.okay (s : State) (n : Nat) (r : List (Nat × Nat)) : State := s.finalReply n stOk (pack r)

/-- OK after an effect where a condition holds, and BAD_PARAM without one otherwise. -/
def State.okIf (s : State) (n : Nat) (ok : Bool) (f : State → State) : State := if ok then (f s).ends n stOk else s.ends n stBadParam

/-- A create command that names a standby function is refused (15_pair_operation.md R541). -/
def State.forServed (s : State) (n : Nat) (c : CmdRef) (f : State → State) : State :=
  if s.serves (keyPort (pathFn c.path)) then f s else s.ends n stNotPermitted

/-- R748 for an object that exists or not, and belongs to a function. -/
def State.owned (s : State) (n : Nat) (c : CmdRef) (found : Bool) (owner : Nat) (f : State → State) : State :=
  if !found then s.ends n stBadParam
  else if owner ≠ pathFn c.path then s.ends n stNotPermitted
  else f s

/-- The read of a host buffer a command names, whose bytes come with the row; a failed read ends the command FAILED (R749). -/
def State.withBuffer (s : State) (n : Nat) (c : CmdRef) (addr len : Nat) (data : HostRead) (failed : List Byte) (f : State → List Byte → State) : State :=
  let s1 := if len = 0 then s else s.hostRead (cmdReq c addr) len
  match data with
  | some bs => if bs.length = len then f s1 bs else (s1.dmaError (pathFn c.path)).finalReply n stFailed failed
  | none => if len = 0 then f s1 [] else (s1.dmaError (pathFn c.path)).finalReply n stFailed failed

end Sys2Proof.Machine
end

