-- ==== Sys2Proof/Machine/Link.lean ====
section
/-! DEFINITION. The commands of the link layer but for the transmitter (05_link_layer.md). -/

namespace Sys2Proof.Machine

/-! Fields of a frame trailer (Table 5.2) and of a link control word (Table 5.3). -/

def tFcrc (w : Nat) : Nat := field w 0 32
def tLseq (w : Nat) : Nat := field w 32 12
def tChan (w : Nat) : Nat := field w 44 4
def tNflit (w : Nat) : Nat := field w 48 3
def tNext (w : Nat) : Nat := field w 51 4

def wNext (w : Nat) : Nat := field w 0 4
def wKind (w : Nat) : Nat := field w 4 4
def wAckseq (w : Nat) : Nat := field w 8 12
def wXoff (w : Nat) : Nat := field w 20 8
def wArg (w : Nat) : Nat := field w 29 16
def wLcrc (w : Nat) : Nat := field w 48 16

/-- FCRC of a frame: the CRC-32 over its flits and trailer bytes 4 to 7 (R163). -/
def frameCrc (flits : List Flit) (trailer : Nat) : Nat := crc32 (flitsBytes flits ++ (toBytes 8 trailer).drop 4)

/-- A received frame is bad (R168). -/
def frameBad (flits : List Flit) (trailer announced : Nat) (marked : Bool) : Bool :=
  marked || tFcrc trailer ≠ frameCrc flits trailer || tNflit trailer ≠ announced || flits.length ≠ announced + 1 ||
    tChan trailer > 8 || tNext trailer > 9

/-- LCRC of a link control word (R166). -/
def lcwCrc (w : Nat) : Nat := crc16 ((toBytes 8 w).take 6)

/-- A received LCW is bad (R168). -/
def lcwBad (w : Nat) : Bool := wLcrc w ≠ lcwCrc w || wKind w > 6 || wNext w > 9

/-- The reserved bits of a REPLAY or START are 0 (R168): those that Table 5.3 calls RSVD, and the bits of ARG that the KIND does not define
(DESIGN CHOICE, log 165). -/
def lcwRsvdZero (w : Nat) : Bool :=
  field w 28 1 = 0 && field w 45 3 = 0 && (if wKind w = lwReplay then wArg w < 4096 else wArg w < 2)

/-- A good frame cannot be taken in order: the receiver asks for a replay (R171). -/
def State.rxNak (s : State) (p mode : Nat) : State := (s.wr R.LINK_STATUS_RXMODE mode p).lcwPush p lwNak 0

/-- BC types that have a consumer (03_packets.md R120, Table 3.6). -/
def bcKnown (f : Flit) : Bool := 1 ≤ fget f 0 8 && fget f 0 8 ≤ 5

/-- Flits of the bypass channel that an input holds for their consumers (03_packets.md Table 3.5). -/
def bcRoom : Nat := 8

/-- A BC flit is handed to its consumer; one of a reserved type, or one whose consumer cannot take it at once, is dropped into BC_DROP (R186;
03_packets.md R120). -/
def State.bcReceive (s : State) (p : Nat) (f : Flit) : State :=
  if bcKnown f && (s.link p).bcIn.length < bcRoom then s.setLink p { s.link p with bcIn := (s.link p).bcIn ++ [f] } else s.bump C.LINK_BC_DROP p

/-- A consumer takes a BC flit that was handed to it. -/
def State.bcTake (s : State) (p : Nat) (f : Flit) : State :=
  s.setLink p { s.link p with bcIn := (s.link p).bcIn.erase f }

/-- A frame is accepted in order (R171, R172, R183). -/
def State.acceptFrame (s : State) (p chan : Nat) (flits : List Flit) : State :=
  let s1 := if chan = 8 then flits.foldl (fun s f => s.bcReceive p f) s else s.deliver p chan flits
  let s2 := ((s1.wr R.LINK_SEQ_RX_EXPECTED ((s.rxExpected p + 1) % 4096) p).bump C.LINK_FRAMES_RX p).bump
    C.PORT_RXF p flits.length
  let l := s2.link p
  (s2.setLink p { l with sinceLcw := l.sinceLcw + 1, lcwDue := l.lcwDue || decide (l.sinceLcw + 1 ≥ 64) }).xoffUpdate p

/-- R171 for a good frame while the mode is not RESYNC. -/
def State.goodFrame (s : State) (p lseq chan : Nat) (flits : List Flit) : State :=
  let e := s.rxExpected p
  let mode := s.rd R.LINK_STATUS_RXMODE p
  let behind := (e + 4096 - lseq) % 4096
  if lseq = e && mode = 0 then
    if chan < 8 && !s.spaceFor p chan flits.length then
      ((s.bump C.LINK_FC_OVERRUN p).raise (pgLink p) 0).rxNak p 1
    else s.acceptFrame p chan flits
  else if 1 ≤ behind && behind ≤ 256 then
    let s1 := s.bump C.LINK_DUP_RX p
    s1.setLink p { s1.link p with lcwDue := true }
  else if mode = 0 then s.rxNak p 1
  else s

/-- R168 and R171 for a bad unit: the receiver enters RESYNC, and sends a NAK when it was in normal mode (log 14). -/
def State.badUnit (s : State) (p : Nat) (isLcw : Bool) : State :=
  let mode := s.rd R.LINK_STATUS_RXMODE p
  if mode = 2 then s
  else
    let s1 := s.bump (if isLcw then C.LINK_LCW_ERR else C.LINK_FCRC_ERR) p
    if mode = 0 then s1.rxNak p 2 else s1.wr R.LINK_STATUS_RXMODE 2 p

/-- A REPLAY word returns the receiver to normal mode, or forces a fresh retrain (R171). -/
def State.replayWord (s : State) (p start : Nat) : State :=
  if s.rd R.LINK_STATUS_RXMODE p = 0 then s
  else if (s.rxExpected p + 4096 - start) % 4096 ≤ 256 then s.wr R.LINK_STATUS_RXMODE 0 p
  else (s.raise (pgLink p) 5).retrain p true

/-- A NAK starts a replay unless one that is younger than LINK_RTT is running (R173). -/
def State.nakReceive (s : State) (p : Nat) : State :=
  let l := s.link p
  let young := l.replaying && match l.replayStart with
    | some c => decide ((s.time.cycles - c) * 10 < s.rd R.LINK_FC_LINK_RTT p)
    | none => false
  if young then s else s.startReplay p

/-- The answer to an LP_REQ (R196): a DORMANT request that crosses a DORMANT one counts as the LP_ACK of each (R198). -/
def State.lpReqReceive (s : State) (p : Nat) (dorm : Bool) : State :=
  if dorm && (s.link p).lpReq = some true then s.setLink p { s.link p with lpReq := none, lpEntry := some true }
  else if s.outstanding p = 0 && s.on R.LINK_CTRL_LP_EN p then s.lcwPush p lwLpAck (bNat dorm)
  else s.lcwPush p lwLpNak (bNat dorm)

/-- An LP_ACK grants the request that is out: the state is entered at the next codeword-pair boundary (R197). -/
def State.lpAckReceive (s : State) (p : Nat) (dorm : Bool) : State :=
  if (s.link p).lpReq = some dorm then s.setLink p { s.link p with lpReq := none, lpEntry := some dorm } else s

/-- An LP_NAK ends the request that is out (R196). -/
def State.lpNakReceive (s : State) (p : Nat) (dorm : Bool) : State :=
  if (s.link p).lpReq = some dorm then s.setLink p { s.link p with lpReq := none } else s

/-- A START of a session that has begun is answered with a START in place of the next LCW, until an LCW of another kind has
come from the peer (R746). -/
def State.startAgain (s : State) (p : Nat) : State :=
  let l := s.link p
  if l.answer && l.lcws.all (fun k => k.1 ≠ lwStart) then s.lcwPush p lwStart (bNat l.sentFresh) else s

/-- What a good LCW does by its KIND once ACKSEQ and XOFF are applied (Table 5.4, R173). -/
def State.lcwKind (s : State) (p kind arg : Nat) : State :=
  if kind = lwNak then s.nakReceive p
  else if kind = lwReplay then s.replayWord p (arg % 4096)
  else if kind = lwLpReq then s.lpReqReceive p (arg % 2 = 1)
  else if kind = lwLpAck then s.lpAckReceive p (arg % 2 = 1)
  else if kind = lwLpNak then s.lpNakReceive p (arg % 2 = 1)
  else s

/-- A good LCW of a session that has begun (R167, R173, R746). -/
def State.lcwInSession (s : State) (p w : Nat) : State :=
  let kind := wKind w
  let s1 := if kind = lwStart then s.startAgain p else s.setLink p { s.link p with answer := false }
  let s2 := (s1.applyAck p (wAckseq w) (kind = lwNak)).applyXoff p (wXoff w)
  if s2.streaming p then s2.lcwKind p kind (wArg w) else s2

/-- The peer's first START begins the session (R192, R746), and its XOFF takes effect (R167). -/
def State.firstStart (s : State) (p w : Nat) : State :=
  (s.sessionBegin p (wAckseq w) (wArg w % 2 = 1)).applyXoff p (wXoff w)

/-- The unit after this one is of the kind that NEXT says (R161). -/
def State.setRxNext (s : State) (p n : Nat) : State := s.setLink p { s.link p with rxNext := n }

/-- A good LCW: the peer's first START begins the session; every other LCW acts as in a session (R746; log 15). -/
def State.lcwGood (s : State) (p w : Nat) : State :=
  if wKind w = lwStart && !(s.link p).begun then s.firstStart p w else s.lcwInSession p w

/-- Eight bytes that are examined as an LCW (R166 to R168, R171, R173). In RESYNC only a good REPLAY or START is one, and ends RESYNC. -/
def State.lcwIn (s : State) (p w : Nat) : State :=
  if s.rd R.LINK_STATUS_RXMODE p = 2 then
    if lcwBad w || !(wKind w = lwReplay || wKind w = lwStart) || !lcwRsvdZero w then s
    else ((s.setRxNext p (wNext w)).wr R.LINK_STATUS_RXMODE 1 p).lcwGood p w
  else if lcwBad w then s.badUnit p true
  else (s.setRxNext p (wNext w)).lcwGood p w

/-! ### Units in the byte stream received (R159 to R161, R168) -/

/-- A unit of the byte stream received. -/
inductive RxUnit
  /-- no whole unit has arrived -/
  | none
  /-- the flits and trailer of a frame, and whether it overlaps bytes that carry the uncorrectable mark -/
  | frame (flits : List Flit) (trailer : Nat) (marked : Bool)
  /-- the 8 bytes of an LCW; in RESYNC, those at a codeword-pair boundary -/
  | lcw (w : Nat)
  deriving DecidableEq, Repr

/-- The next unit, and how many bytes it takes with the filler, or the bytes discarded, before it: filler and RESYNC go to the next codeword-pair
boundary. -/
def State.rxUnit (s : State) (p : Nat) : RxUnit × Nat :=
  let bs := (s.link p).rxBytes
  let n := (s.link p).rxNext
  let resync := s.rd R.LINK_STATUS_RXMODE p = 2
  let skip := if resync || n = 9 then bs.length % 680 else 0
  let r := bs.drop skip
  let len := if !resync && n < 8 then 32 * (n + 1) + 8 else 8
  if r.length < len then (.none, 0)
  else
    let u := (r.take len).map Prod.fst
    if len = 8 then (.lcw (ofBytes u), skip + 8)
    else (.frame (packFlits (n + 1) u) (leAt u (len - 8) 8) ((r.take len).any Prod.snd), len)

/-- A frame or LCW is bad (R168). -/
def State.unitBad (s : State) (p : Nat) : RxUnit → Bool
  | .none => false
  | .frame fs t marked => frameBad fs t (s.link p).rxNext marked
  | .lcw w => s.rd R.LINK_STATUS_RXMODE p ≠ 2 && lcwBad w

/-- The unit is an LCW. -/
def RxUnit.isLcw : RxUnit → Bool
  | .lcw _ => true
  | _ => false

/-- The bytes of the next unit leave the stream. -/
def State.rxTaken (s : State) (p : Nat) : State :=
  s.setLink p { s.link p with rxBytes := (s.link p).rxBytes.drop (s.rxUnit p).2 }

/-- The receiver takes the next unit (R168, R171, R173). -/
def State.takeUnit (s : State) (p : Nat) : State :=
  let s1 := s.rxTaken p
  match (s.rxUnit p).1 with
  | .none => s
  | .frame fs t marked =>
    if frameBad fs t (s.link p).rxNext marked then s1.badUnit p false
    else (s1.setRxNext p (tNext t)).goodFrame p (tLseq t) (tChan t) fs
  | .lcw w => s1.lcwIn p w

/-- The next unit begins on a codeword-pair boundary. -/
def State.unitAtBoundary (s : State) (p : Nat) (len : Nat) : Bool :=
  ((s.link p).rxBytes.length + len - (s.rxUnit p).2) % 680 = 0

/-- The receiver takes the next unit of a port's byte stream when it is the row's. -/
def State.takeIf (s : State) (p : Nat) (b : Bool) : State := if s.streaming p && b then s.takeUnit p else s

/-- LINK_FRAME_RECEIVE (R168, R171): the next unit is this frame, after one that announced `announced` + 1 flits. -/
def execLinkFrameReceive (p : Port) (flits : List Flit) (trailer : Word) (announced : Fin 8) (marked : Bool) (s : State) :
    Host.Outcome State Fault Refusal :=
  liveLink s fun s => s.takeIf p.val ((s.rxUnit p.val).1 = .frame flits trailer.toNat marked && (s.link p.val).rxNext = announced.val)

/-- LINK_BAD_UNIT (R168): the next unit, a frame or an LCW, is bad. -/
def execLinkBadUnit (p : Port) (isLcw : Bool) (s : State) : Host.Outcome State Fault Refusal :=
  liveLink s fun s => s.takeIf p.val (s.unitBad p.val (s.rxUnit p.val).1 && (s.rxUnit p.val).1.isLcw == isLcw)

/-- LCW_RECEIVE (R168, R173): the next unit is this LCW, or in RESYNC these 8 bytes stand at the next codeword-pair boundary. -/
def execLcwReceive (p : Port) (lcw : Word) (atBoundary : Bool) (s : State) : Host.Outcome State Fault Refusal :=
  liveLink s fun s => s.takeIf p.val ((s.rxUnit p.val).1 = .lcw lcw.toNat && s.unitAtBoundary p.val 8 == atBoundary)

/-- SESSION_START_RECEIVE (R192): the peer's first START. -/
def execSessionStartReceive (p : Port) (lcw : Word) (s : State) : Host.Outcome State Fault Refusal :=
  liveLink s fun s =>
    s.takeIf p.val ((s.rxUnit p.val).1 = .lcw lcw.toNat && !(s.link p.val).begun && wKind lcw.toNat = lwStart)

/-- The link carries a session. -/
def State.inSession (s : State) (p : Nat) : Bool := s.streaming p && (s.link p).begun

/-- REPLAY_TIMER_EXPIRE (R175). -/
def execReplayTimerExpire (p : Port) (s : State) : Host.Outcome State Fault Refusal :=
  liveLink s fun s => if s.inSession p.val && s.outstanding p.val > 0 then s.startReplay p.val else s

/-- STATUS_LCW_DUE (R172): 200 ns without an LCW, while the direction is not in LP-QUIET. -/
def execStatusLcwDue (p : Port) (s : State) : Host.Outcome State Fault Refusal :=
  liveLink s fun s => if s.pst p.val = tUp then s.setLink p.val { s.link p.val with lcwDue := true } else s

/-- XOFF_REPEAT (R184): 32 ns have passed since the last LCW while an XOFF bit is 1. -/
def execXoffRepeat (p : Port) (s : State) : Host.Outcome State Fault Refusal :=
  liveLink s fun s =>
    if s.streaming p.val && (s.link p.val).xoff ≠ 0 then s.setLink p.val { s.link p.val with lcwDue := true } else s

/-- XOFF_WATCHDOG_EXPIRE (R187): XOFF of a VC has been seen without a break for the watchdog time. -/
def execXoffWatchdogExpire (p : Port) (v : Vc) (s : State) : Host.Outcome State Fault Refusal :=
  liveLink s fun s =>
    if s.xoffAt p.val v.val then
      (s.wr R.LINK_STATUS_STALL (setBit (s.rd R.LINK_STATUS_STALL p.val) v.val true) p.val).cond (pgLink p.val) 2 true v.val
    else s

/-- LEAK_RETRAIN (R178): the scheduled retrain starts when the link is idle, or after 10 ms. -/
def execLeakRetrain (p : Port) (expired : Bool) (s : State) : Host.Outcome State Fault Refusal :=
  liveLink s fun s =>
    if (s.link p.val).leakDue && (expired || s.lpIdle p.val) then
      (s.setLink p.val { s.link p.val with leakDue := false }).retrain p.val false
    else s

/-- LINK_CTRL_RETIRE_WRITE (R195): no effect when the link is not DOWN. -/
def execLinkCtrlRetireWrite (p : Port) (bit : Bool) (s : State) : Host.Outcome State Fault Refusal :=
  liveLink s fun s => if bit && s.rd R.LINK_STATUS_STATE p.val = lkDown then s.retireLink p.val else s

/-- LINK_CTRL_FRESH_RETRAIN_WRITE (R200). -/
def execLinkCtrlFreshRetrainWrite (p : Port) (bit : Bool) (s : State) : Host.Outcome State Fault Refusal :=
  liveLink s fun s => if bit then s.retrain p.val true else s

/-- The next LCW of a session that the receiver is in step with is a good one of a KIND and of this DORM bit. -/
def State.nextIsKind (s : State) (p k : Nat) (dorm : Bool) : Bool :=
  s.inSession p && s.rd R.LINK_STATUS_RXMODE p ≠ 2 && match (s.rxUnit p).1 with
    | .lcw w => !lcwBad w && wKind w = k && decide (wArg w % 2 = 1) == dorm
    | _ => false

/-- LP_REQ_RECEIVE (R196, R198): the next unit is a good LP_REQ. -/
def execLpReqReceive (p : Port) (dorm : Bool) (s : State) : Host.Outcome State Fault Refusal :=
  liveLink s fun s => s.takeIf p.val (s.nextIsKind p.val lwLpReq dorm)

/-- LP_ACK_RECEIVE (R197): the next unit is a good LP_ACK. -/
def execLpAckReceive (p : Port) (dorm : Bool) (s : State) : Host.Outcome State Fault Refusal :=
  liveLink s fun s => s.takeIf p.val (s.nextIsKind p.val lwLpAck dorm)

/-- LP_NAK_RECEIVE (R196): the next unit is a good LP_NAK. -/
def execLpNakReceive (p : Port) (dorm : Bool) (s : State) : Host.Outcome State Fault Refusal :=
  liveLink s fun s => s.takeIf p.val (s.nextIsKind p.val lwLpNak dorm)

end Sys2Proof.Machine
end

