-- ==== Sys2Proof/Machine/Router.lean ====
section
/-! DEFINITION. Route decisions, line notices, flips and MARK notices (07_dynamic_routing.md). -/

namespace Sys2Proof.Machine

/-! ### Route decision (R233 to R242, R258) -/

/-- What R238 decides for a packet. -/
inductive Decision
  | badDpid
  | unreach
  | take (r : Route)
  | wait
  deriving DecidableEq, Repr

/-- The adaptive VC of a packet's class. -/
def adaptiveVc (v : Nat) : Nat := if v = 1 || v = 2 then 0 else if v = 4 || v = 5 then 3 else v

/-- The conversion of R258: EPOCH becomes the active bank, STALE is set, and the route restarts on the adaptive VC. -/
def staleHead (h : Flit) (bank : Nat) : Flit := hSetVc (hSetStale (hSetEpoch h bank) true) (adaptiveVc (hVc h))

/-- The data endpoint port with the most free receive buffer among those on which the fit check of the packet passes; ties go to the lowest; none
where it passes on no port (01_architecture.md R24; 08_scheduled_traffic.md R303). -/
def State.ejectPort (s : State) (h : Flit) (whole : Bool) : Option Nat :=
  argmin s.ejectLoad ((List.range 10).filter fun e => s.fitCheck (96 + e) (pktFlits h) whole)

/-- Where a packet addressed to this device goes (R24, R26); none: it waits for a port (R303). -/
def State.ejectTarget (s : State) (h : Flit) (whole : Bool) : Option Target :=
  if hPtype h = ptMgmtReq || hPtype h = ptMgmtResp then some (.out 107)
  else if hPtype h = ptCollContrib then some .tap
  else (s.ejectPort h whole).map fun e => .out (96 + e)

/-- The detour ports of R238: ports to other members of a remaining line that reach coord(t, d). -/
def State.detours (s : State) (b t dv : Nat) : List Nat :=
  (s.remaining t).flatMap fun d =>
    ((dimPorts s.topo d).filter fun p =>
      match portRole s.topo p with
      | some (_, u, _) => u ≠ coord t d && s.choosable b p t && !s.xoffAt p dv && !s.stallAt p dv && s.health d u (coord t d)
      | none => false)

/-- dcost of a detour port (R238). -/
def State.detourCost (s : State) (t p : Nat) : Nat :=
  match portRole s.topo p with
  | some (d, u, _) => s.queued p + 16 * s.depthOf d u (coord t d) + s.rd R.ROUT_COST_DET_BIAS
  | none => 0

/-- The route decision of R238 for a head whose bank is `b`; `whole`: the packet has arrived to its tail. -/
def State.routeFor (s : State) (b : Nat) (h : Flit) (whole : Bool) : Decision :=
  if !s.validPid (hDpid h) then .badDpid
  else match s.effDest b (hDpid h) with
    | none => .unreach
    | some t =>
      let v := hVc h
      if t = s.ownPid then
        match s.ejectTarget h whole with
        | some x => .take { target := x, vc := v }
        | none => .wait
      else if s.deadFromLine t then .unreach
      else
        let dor := s.dorLink t
        let ev := if v ≤ 2 then 2 else 5
        let av := if v ≤ 2 then 0 else 3
        let dv := av + 1
        let onDor := match dor with
          | some p => Decision.take { target := .out p, vc := if v = 6 then 6 else ev }
          | none => .wait
        if v = 6 || v = ev then onDor
        else
          let minimal := (s.remaining t).flatMap fun d => s.portsTo d (coord t d)
          let open_ := minimal.filter fun p => s.choosable b p t && !s.xoffAt p v && !s.stallAt p v
          let best := argmin s.queued open_
          let dets := if v = av then s.detours b t dv else []
          let dbest := argmin (s.detourCost t) dets
          let viaDet := match dbest, best with
            | some _, none => true
            | some q, some p => decide (s.queued p ≥ s.rd R.ROUT_COST_DET_THR) && decide (s.detourCost t q < s.queued p)
            | none, _ => false
          match viaDet, dbest, best with
          | true, some q, _ => .take { target := .out q, vc := dv }
          | _, _, some p => .take { target := .out p, vc := v }
          | _, _, none =>
            match dor with
            | some p => if s.choosable b p t && !s.xoffAt p ev && !s.stallAt p ev then onDor else .wait
            | none => .wait

/-- Discard the front packet of an input VC: flits still to come are dropped as they arrive. -/
def State.dropFront (s : State) (input v : Nat) : State :=
  let x := s.inVc input v
  match x.pkts with
  | [] => s
  | k :: rest =>
    ((s.setInVc input v { x with
      pkts := if k.need = 0 then rest else { k with sent := k.seen.length, dropping := true, route := none } :: rest }).xoffUpdate
      input).leftQueue input

/-- Replace the front packet of an input VC. -/
def State.setFront (s : State) (input v : Nat) (k : BufPkt) : State :=
  let x := s.inVc input v
  s.setInVc input v { x with pkts := k :: x.pkts.drop 1 }

/-- The link of an output can be granted (R234). -/
def State.grantable (s : State) (o : Nat) : Bool :=
  if o ≥ 96 then true else s.linkState o = lkUp || s.linkState o = lkLp || s.linkState o = lkRetired

/-- R114: a malformed head ends its input VC until a retrain of the link, which the router requests. -/
def State.malformedHead (s : State) (input v : Nat) : State :=
  let x := s.inVc input v
  let s1 := ((s.setInVc input v { x with pkts := x.pkts.filter fun k => !k.bad }).bump C.ROUT_BAD_HEADER).raise pgRout 1
    (input + v * 2 ^ 8)
  if input < 96 then (s1.retrain input false).xoffUpdate input else s1

/-- A head waits with no choice that can be granted: NOROUTE_CYCLES counts the cycles in which any head does (Table 7.9; log 157). -/
def State.noRoute (s : State) : State :=
  if s.rout.noRouteAt = some s.time.cycles then s
  else ({ s with rout := { s.rout with noRouteAt := some s.time.cycles } } : State).bump C.ROUT_NOROUTE_CYCLES

/-- A packet that R300 refuses: FIT_DENY counts it once (08_scheduled_traffic.md R319). -/
def State.deny (s : State) (input v : Nat) (k : BufPkt) : State :=
  if k.denied then s
  else
    let x := s.inVc input v
    (s.setInVc input v { x with pkts := x.pkts.replace k { k with denied := true } }).bump C.SCHD_FIT_DENY

/-- A head at the front of an input VC finds no endpoint port on which the fit check passes (R24; 08_scheduled_traffic.md R303): it is refused by R300,
and waits with no choice. -/
def State.ejectWait (s : State) (input v : Nat) (k : BufPkt) : State := (s.deny input v k).noRoute

/-- The decision for the packet at the front of an input VC (R238): R63 comes first, then the bank of R258 with its conversion. Its own flits no
longer count in queued(p) of the port decided before (R237; DESIGN CHOICE, log 199). -/
def State.routeFront (s : State) (input v : Nat) (k : BufPkt) : State :=
  if !s.validPid (hDpid k.head) then (s.bump C.ROUT_BAD_DPID).dropFront input v
  else
  let conv := (s.routingBank (hEpoch k.head)).isNone
  let h := if conv then staleHead k.head s.activeBank else k.head
  let s0 := if conv then s.bump C.ROUT_STALE_CONV else s
  let k0 := { k with seen := h :: k.seen.drop 1 }
  let s1 := s0.setFront input v { k0 with route := none }
  match s1.routeFor (hEpoch h) h (k.need = 0) with
  | .badDpid => (s1.bump C.ROUT_BAD_DPID).dropFront input v
  | .unreach => (s1.bump C.ROUT_UNREACH_DROP).dropFront input v
  | .take r =>
    let s2 := s1.setFront input v { k0 with route := some r }
    match r.target with
    | .out o => if s2.grantable o then s2 else s2.noRoute
    | .tap => s2
  | .wait => if s1.effDest (hEpoch h) (hDpid h) = some s.ownPid then s1.ejectWait input v { k0 with route := none } else s1.noRoute

/-- The copies of the packet at the front choose their DOR links (14_collectives.md R518). -/
def State.routeCopies (s : State) (input v n : Nat) : State :=
  let x := s.inVc input v
  let f : BufPkt → BufPkt := fun k =>
    if k.copy = some n && !k.granted then
      { k with route := (s.dorLink k.copyTo).map fun p => { target := .out p, vc := 6 } }
    else k
  let s1 := s.setInVc input v { x with pkts := x.pkts.map f }
  let stuck := (s1.inVc input v).pkts.any fun k => k.copy = some n && !k.granted && match k.route with
    | some { target := .out o, vc := _ } => !s1.grantable o
    | _ => true
  if stuck then s1.noRoute else s1

/-- A LINE_MCAST or COLL_CONTRIB from a network port is ejected or tapped whatever its DPID, and a COLL_RESULT is ejected where it was formed
(14_collectives.md R519). -/
def collectiveHere (input : Nat) (h : Flit) : Bool :=
  hPtype h = ptCollResult || (input < 96 && (hPtype h = ptCollContrib || hPtype h = ptLineMcast))

/-- What such a packet takes. -/
def State.collectiveTarget (s : State) (h : Flit) (whole : Bool) : Option Target :=
  if hPtype h = ptCollContrib then some .tap else (s.ejectPort h whole).map fun e => .out (96 + e)

/-- The front packet waits for a decision: it is dynamic, and it holds no grant. -/
def BufPkt.undecided (k : BufPkt) : Bool := !k.granted && !k.dropping && !k.bad && hVc k.head ≠ 7

/-- ROUTE_DECISION (R238, R114): the head at the front of an input VC is judged and decided. -/
def execRouteDecision (input : Fin 108) (v : Vc) (s : State) : Host.Outcome State Fault Refusal :=
  live s fun s =>
    let i := input.val
    let x := s.inVc i v.val
    if x.pkts.any (fun k => k.bad) then s.malformedHead i v.val
    else match x.pkts with
      | k :: _ =>
        match k.copy with
        | some n => (s.routeCopies i v.val n).lineUpdate
        | none =>
          if !k.undecided then s
          else if collectiveHere i k.head then
            let k' := { k with route := (s.collectiveTarget k.head (k.need = 0)).map fun t => { target := t, vc := hVc k.head } }
            let s1 := s.setFront i v.val k'
            if k'.route.isNone then s1.ejectWait i v.val k' else s1
          else (s.routeFront i v.val k).lineUpdate
      | [] => s

/-! ### Line notices (R244 to R247, R259 to R261) -/

/-- The first LINE notice adopts the neighbour's bank and flip identifier (R260). -/
def State.adopt (s : State) (bank id : Nat) : State :=
  (((s.wr R.ROUT_BANK_ACTIVE bank).wr R.ROUT_BANK_LAST_ID id).wr R.ROUT_CTRL_ADOPTED 1).admitAll

/-- A flip identifier is newer than LAST_ID (R259). -/
def State.idNewer (s : State) (id : Nat) : Bool :=
  id ≠ s.rd R.ROUT_BANK_LAST_ID && (id + 2 ^ 16 - s.rd R.ROUT_BANK_LAST_ID) % 2 ^ 16 < 2 ^ 15

/-- R259: a neighbour reports a flip this device has not made. -/
def State.missedCheck (s : State) (id : Nat) : State :=
  if s.idNewer id && !(s.rout.armed.any fun a => a.id = id) then (s.wr R.ROUT_BANK_MISSED 1).raise pgRout 4 id else s

/-- A flit is dropped without action into BC_DROP (03_packets.md R120). -/
def State.bcDrop (s : State) (p : Nat) : State := s.bump C.LINK_BC_DROP p

/-- A LINE notice from port `p` (R246). -/
def State.lineNoticeIn (s : State) (p : Nat) (f : Flit) : State :=
  let s1 := s.bump C.ROUT_LINE_RX
  let id := fget f 216 16
  let s2 := if s1.on R.ROUT_CTRL_ADOPTED then s1.missedCheck id else s1.adopt (fget f 21 1) id
  let s3 := match portRole s2.topo p with
    | some (d, u, _) =>
      if fget f 18 2 = d then
        { s2 with rout := { s2.rout with
            rows := tput 0 s2.rout.rows (rowKey d u) f.toNat
            offSeen := tput false s2.rout.offSeen p (fget f (56 + coord s2.ownPid d) 1 = 1) } }
      else s2
    | none => s2
  s3.lineUpdate

/-- LINE_NOTICE_RECEIVE (R246, R259, R260): a CONG_NOTICE with SUB 0; a reserved SUB is dropped (R244). -/
def execLineNoticeReceive (p : Port) (flit : Flit) (s : State) : Host.Outcome State Fault Refusal :=
  live s fun s =>
    let s1 := s.bcTake p.val flit
    if fget flit 0 8 ≠ 2 then s1
    else if fget flit 16 2 ≥ 2 then s1.bcDrop p.val
    else if fget flit 16 2 = 0 then s1.lineNoticeIn p.val flit
    else s1

/-- LINE_NOTICE_REFRESH (R245): the notice that is due every 125 us on a port. -/
def execLineNoticeRefresh (p : Port) (s : State) : Host.Outcome State Fault Refusal :=
  live s fun s => s.lineSendOn p.val

/-! ### Flips -/

/-- R253, expert path: arm and flood, without checks, unless a flip is armed or HOLDING is 1. -/
def State.flipArm (s : State) : State :=
  if s.on R.ROUT_BANK_ARMED || s.on R.ROUT_BANK_HOLDING then s
  else s.originateFlip (s.rd R.ROUT_FLIP_GT_TARGET) (s.rd R.ROUT_FLIP_CTRL_ID) (s.rd R.ROUT_FLIP_CTRL_NEW_MODE)
    (s.rd R.ROUT_FLIP_CTRL_HOPBUD)

/-- FLIP_ARM_WRITE (R253): a write of ROUT_FLIP_CTRL.ARM. -/
def execFlipArmWrite (bit : Bool) (s : State) : Host.Outcome State Fault Refusal :=
  live s fun s => if bit then s.flipArm else s

/-- R255 and R256 for a FLIP_NOTICE from port `p`. -/
def State.flipNoticeIn (s : State) (p : Nat) (f : Flit) : State :=
  let hop := fget f 8 8
  let id := fget f 16 16
  let target := fget f 32 64
  let bank := fget f 96 1
  let mode := fget f 97 2
  let crc := fget f 99 32
  if id = s.rd R.ROUT_BANK_LAST_ID || (s.rout.armed.any fun a => a.id = id) then s
  else if s.on R.ROUT_BANK_ARMED || s.on R.ROUT_BANK_HOLDING then (s.wr R.ROUT_BANK_REFUSED 1).raise pgRout 5 id
  else if bank = s.activeBank then (s.wr R.ROUT_BANK_MISMATCH 1).raise pgRout 3 id
  else
    let s1 := if s.bankCrc bank ≠ crc || !s.bankValid bank then (s.wr R.ROUT_BANK_MISMATCH 1).raise pgRout 3 id else s
    let s2 := if hop > 0 then s1.flood (fset f 8 8 (hop - 1)) (some p) else s1
    s2.armFlip { target := target, bank := bank, mode := mode, id := id }

/-- FLIP_NOTICE_RECEIVE (R255). -/
def execFlipNoticeReceive (p : Port) (flit : Flit) (s : State) : Host.Outcome State Fault Refusal :=
  live s fun s =>
    let s1 := s.bcTake p.val flit
    if fget flit 0 8 = 3 then s1.flipNoticeIn p.val flit else s1

/-- ROUTING_FLIP (R257, 06_timebase.md R225, R226): an armed flip whose target GT has come; LATE when it has passed. -/
def execRoutingFlip (s : State) : Host.Outcome State Fault Refusal :=
  live s fun s =>
    match s.rout.armed with
    | some a => if s.geysState ≠ gsInvalid && s.gt ≥ a.target then s.doFlip (s.lateFor a.target) false else s
    | none => s

/-- BANK_HOLD_EXPIRE (R257): the effective hold time has elapsed; OFF_SEEN may change with it (R245). A hold counted in GT does not end while
INVALID (DESIGN CHOICE, log 201). -/
def execBankHoldExpire (s : State) : Host.Outcome State Fault Refusal :=
  live s fun s =>
    let past := match s.rout.holdEnd with
      | some (.gt t) => decide (s.gt ≥ t) && decide (s.geysState ≠ gsInvalid)
      | some (.local_ c) => decide (s.time.cycles ≥ c)
      | none => false
    if s.on R.ROUT_BANK_HOLDING && past then
      (({ s with rout := { s.rout with holdEnd := none } }).wr R.ROUT_BANK_HOLDING 0).lineUpdate
    else s

/-! ### MARK notices (R262, R263) -/

/-- A MARK notice (Table 7.2). -/
def markNotice (hopbud target cong count : Nat) : Flit :=
  BitVec.ofNat 256 (0x02 + (hopbud % 256) * 2 ^ 8 + 2 ^ 16 + (target % 2 ^ 20) * 2 ^ 24 + (cong % 2 ^ 20) * 2 ^ 44 +
    (count % 256) * 2 ^ 64)

/-- The port a MARK notice takes toward `t`: the DOR link, else any choosable minimal link (R263). -/
def State.markPort (s : State) (t : Nat) : Option Nat :=
  match s.dorLink t with
  | some p =>
    if s.linkState p = lkUp then some p
    else ((s.remaining t).flatMap fun d => s.portsTo d (coord t d)).find? fun p => s.choosable s.activeBank p t
  | none => none

/-- Send or forward a MARK notice, or apply it (R263). `hop`: the budget it arrived with. `fresh`: originated here, so it is
sent with its full budget. -/
def State.markRoute (s : State) (hop target cong count : Nat) (fresh : Bool) : State :=
  match s.effDest s.activeBank target with
  | none => s.bump C.ROUT_MARK_DROP
  | some t =>
    if t = s.ownPid then s.thrMark cong
    else if hop = 0 then s.bump C.ROUT_MARK_DROP
    else match s.markPort t with
      | some p => (s.bcSend p (markNotice (if fresh then hop else hop - 1) target cong count)).bump C.ROUT_MARK_TX
      | none => s.bump C.ROUT_MARK_DROP

/-- MARK_NOTICE_RECEIVE (R263). -/
def execMarkNoticeReceive (p : Port) (flit : Flit) (s : State) : Host.Outcome State Fault Refusal :=
  live s fun s =>
    let s1 := s.bcTake p.val flit
    if fget flit 0 8 = 2 && fget flit 16 2 = 1 then
      s1.markRoute (fget flit 8 8) (fget flit 24 20) (fget flit 44 20) (fget flit 64 8) false
    else s1

/-- ROUT_TRANSIT_OFF_WRITE (R267): notices follow at once. -/
def State.setTransitOff (s : State) (b : Bool) : State := (s.wrB R.ROUT_CTRL_TRANSIT_OFF b).lineUpdate

def execRoutTransitOffWrite (bit : Bool) (s : State) : Host.Outcome State Fault Refusal :=
  live s fun s => s.setTransitOff bit

end Sys2Proof.Machine
end

