-- ==== Sys2Proof/Machine/RxOps.lean ====
section
/-! DEFINITION. The receive pipelines (01_architecture.md R31; 11_transport_and_windows.md R407 to R414, R431, R439; 12_message_matching.md
R456, R457): the checks of a transport packet, in order. -/

namespace Sys2Proof.Machine

/-- The set of transport contexts a destination PID is served with: 0 own position, 1 adopted position; none: not served (15_pair_operation.md
R555). In START and YIELDED the own position is not served (Table 15.7, R568). -/
def State.rxSet (s : State) (dpid : Nat) : Option Nat :=
  if dpid = s.ownPid then (if s.paired && (s.pairState = psStart || s.pairState = psYielded) then none else some 0)
  else if s.pairState = psAdopting && dpid = s.matePid then some 1
  else none

/-- The packet at the front of a pipeline leaves it. -/
def State.rxDrop (s : State) (e : Nat) : State := (s.setRx e ((s.rx e).drop 1)).setPipe e {}

/-- Age of a packet (03_packets.md R113). -/
def State.ageOf (s : State) (birth : Nat) : Nat :=
  let g := s.gt % 2 ^ 40
  if (birth + 2 ^ 40 - g) % 2 ^ 40 < 2 ^ 24 then 0 else (g + 2 ^ 40 - birth) % 2 ^ 40

/-- The lifetime that check 2 allows, in 1/16 tick: in HOLDOVER and ESTIMATED the uncertainty, which is held in that unit, is added (06_timebase.md
R220, Table 6.4). -/
def State.rxLifetime (s : State) : Nat :=
  16 * s.effLifetime + (if s.geysState = gsHoldover || s.geysState = gsEstimated then s.geys.unc else 0)

/-- A packet is older than check 2 allows (03_packets.md R113). -/
def State.tooOld (s : State) (h : Flit) : Bool := decide (16 * s.ageOf (hBirth h) > s.rxLifetime)

/-- What check 1 says of a packet (R407). -/
inductive Check1
  | pass
  | stale (nak : Bool)
  | staleSrc
  deriving DecidableEq, Repr

/-- Check 1 against an incarnation (R407). -/
def State.check1 (s : State) (k inc : Nat) (h ext : Flit) : Check1 :=
  let t := s.tc k
  let pt := hPtype h
  if hDinc h ≠ 0 && hDinc h ≠ inc % 2 ^ 16 then .stale (isTransportRequest pt)
  else if hDinc h = 0 && pt ≠ ptHello then .stale false
  else if pt = ptHello || pt = ptHelloResp then .pass
  else if pt = ptNack && xNakcode ext.toNat = csStaleInc then .pass
  else if !t.known || hSinc h ≠ t.peerInc % 2 ^ 16 then .staleSrc
  else if isTransportRequest pt && !t.rxSync then .staleSrc
  else .pass

/-- A filler by its fields (R406). -/
def isFiller (h ext : Flit) : Bool :=
  hPtype h = ptReadReq && ext = BitVec.ofNat 256 (extRma 0 0 0 0 0xFFFFFF 1) && hJob h = 0 && hDhport h = 0 && hDfunc h = 0 &&
    hDqidx h = 0 && hShport h = 0 && hSfunc h = 0 && hSqidx h = 0

/-- A marked packet has passed check 3 (07_dynamic_routing.md R262): it is counted, and the first one and then every MARK_EVERY-th makes
a MARK notice. -/
def State.markSeen (s : State) (k : Nat) (h : Flit) : State :=
  if !(hCn h && pktClass h = .request) then s
  else
    let send := fun s : State =>
      let n := match (s.tc k).marked with
        | some n => n + 1
        | none => 1
      (s.modTc k fun t => { t with marked := some 0 }).markRoute 8 (hSpid h) (hDpid h) (min 255 n) true
    match (s.tc k).marked with
    | none => send s
    | some n => if n + 1 ≥ s.rd R.ROUT_THR_MARK_EVERY then send s else s.modTc k fun t => { t with marked := some (n + 1) }

/-- The tests of R439 and R456 before any window or queue is looked at; none: they pass. -/
def State.endpointCheck (s : State) (h : Flit) : Option Nat :=
  let k := fkey (hDhport h) (hDfunc h)
  if s.fnGone k then some csCancelled
  else if !s.jobBound (hJob h) then some csPermission
  else if !s.qpOf (hDqidx h) k then some csPermission
  else none

/-- Check 4 of a WRITE_REQ or READ_REQ (R439): a status it is refused with, or the window that admits it. -/
def State.windowCheck (s : State) (h ext : Flit) : Except Nat Nat :=
  match s.endpointCheck h with
  | some st => .error st
  | none =>
    let x := ext.toNat
    let write := hPtype h = ptWriteReq
    let i := keyIndex (xWkey x)
    let g := keyGen (xWkey x)
    let w := s.window i
    if i ≥ s.rd R.WIN_CFG_COUNT || g = 0 then .error csWindowKeyBad
    else if g ≠ w.gen || w.state ≠ wsOpen then .error (if w.opened then csWindowRevoked else csWindowKeyBad)
    else if w.hport ≠ hDhport h || w.func ≠ hDfunc h || w.job ≠ hJob h then .error csPermission
    else if w.scopePid && hSpid h ≠ w.peerPid then .error csPermission
    else if (write && !w.permWrite) || (!write && !w.permRead) then .error csPermission
    else if xWoff x + (if write then hPlen h else xRlen x) > w.length then .error csBounds
    else .ok i

/-- Count a refusal of check 4 (R447). -/
def State.countRefusal (s : State) (st : Nat) : State :=
  if st = csWindowKeyBad then s.bump C.WIN_KEY_BAD
  else if st = csWindowRevoked then s.bump C.WIN_REVOKED_REFUSED
  else if st = csPermission then s.bump C.WIN_PERM_REFUSED
  else if st = csBounds then s.bump C.WIN_BOUNDS_REFUSED
  else s

/-- A remote fault is counted and recorded (10_translation.md R390). -/
def State.remoteFault (s : State) (ctx va kind : Nat) (acc : AccKind) : State :=
  ((((s.bump C.XLT_FAULT_REMOTE).wr R.XLT_RFLT_CTX ctx).wr R.XLT_RFLT_KIND kind).wr R.XLT_RFLT_ACC acc.code).wr R.XLT_RFLT_VA_VA va

/-- The answer to a packet whose translation has faulted (10_translation.md Table 10.5). -/
def State.refuseFault (s : State) (k : Nat) (h ext : Flit) (e ctx va kind : Nat) (acc : AccKind) : State :=
  let s1 := s.remoteFault ctx va kind acc
  if xfRetry kind then s1.refuseRetry k h ext e else s1.refuseFinal k h ext e csXltRemote

/-- A packet admitted to window `i` at check 5: it lands, its reads go out, it waits for a walk, or it is refused (R390, R431, R435). -/
def State.landRma (s : State) (e k i : Nat) (p : List Flit) (again : Bool) : State :=
  let h := p.headD 0
  let ext := pktExtFlit p
  let w := s.window i
  let write := hPtype h = ptWriteReq
  let n := if write then hPlen h else xRlen ext.toNat
  let va := w.base + xWoff ext.toNat
  let acc := if write then AccKind.write else .read
  let leave := fun s : State => (s.rxDrop e).winLeave i
  match (s.pipe e).fault with
  | some (kind, fva) => (leave s).refuseFault k h ext e w.ctx (pageVa va fva) kind acc
  | none =>
    match s.translateSpan (pagesFor n) w.ctx va n acc none (.pipe e) with
    | (.wait, s1) => s1
    | (.fault kind fva, s1) => (leave s1).refuseFault k h ext e w.ctx fva kind acc
    | (.ok segs, s1) =>
      if write then
        let s2 := (s1.writeSegs w.ctx segs (pktPayload p)).bump C.WIN_BYTES_WRITTEN 0 n
        if w.cntEn then
          let u : CntUpdate := {
            cnt := w.cntIdx, amount := n, func := fkey w.hport w.func, fromWindow := true, after := .window k (hSeq h) e i }
          ({ s2 with trg := { s2.trg with updates := s2.trg.updates ++ [u] } } : State).rxDrop e
        else (leave s2).recordSeq k (hSeq h) e
      else if !s.npRoom w.hport va n then s1
      else
        let (id, s2) := s1.newDma
        let s3 := s2.readSegs w.ctx segs
        let r : ServedRead := { id := id, head := h, ext := ext, e := e, tc := k, win := i, ctx := w.ctx, va := va, again := again }
        ({ s3 with tpt := { s3.tpt with reads := s3.tpt.reads ++ [r] } } : State).rxDrop e

/-- Check 4 of a WRITE_REQ or READ_REQ, and what follows (R406, R414, R439). -/
def State.rxRma (s : State) (e k : Nat) (p : List Flit) (again : Bool) : State :=
  let h := p.headD 0
  let ext := pktExtFlit p
  if isFiller h ext then
    let s1 := (s.rxDrop e).bump C.TPT_FILL_RX
    if again then s1.sendAck k e else s1.recordSeq k (hSeq h) e
  else
    let s := s.whenB ((s.endpointCheck h).isNone && keyIndex (xWkey ext.toNat) < s.rd R.WIN_CFG_COUNT) (·.hbmRd 64)
    match s.windowCheck h ext with
    | .error st => ((s.rxDrop e).countRefusal st).refuseFinal k h ext e st
    | .ok i =>
      let s1 := (s.setAdmitted i (s.admittedTo i + 1)).bump (if hPtype h = ptWriteReq then C.WIN_WR_ADMIT else C.WIN_RD_ADMIT)
      (s1.setPipe e { win := some i, again := again }).landRma e k i p again

/-- The first tests of R456 and those of the QP. -/
def State.sendCheck (s : State) (h ext : Flit) : Option Nat :=
  match s.endpointCheck h with
  | some st => some st
  | none =>
    let x := s.qp (hDqidx h)
    if x.p.job ≠ hJob h || x.error then some csPermission
    else if hPtype h ≠ ptSendEager then none
    else
      let m := ext.toNat
      if xMlen m > 65536 || xMoff m % 4096 ≠ 0 || xMoff m + hPlen h > xMlen m then some csBounds else none

/-- Check 4 of a SEND_EAGER, SEND_RTS or RNDV_DONE (R456), and the reorder entries (R457, R469, R470). -/
def State.rxSend (s : State) (e k : Nat) (p : List Flit) : State :=
  let h := p.headD 0
  let ext := pktExtFlit p
  let s0 := s.rxDrop e
  let job := (s.qp (hDqidx h)).p.job ≠ hJob h || (s.qp (hDqidx h)).error
  match (if hPtype h = ptRndvDone then (if (s.endpointCheck h).isSome then s.endpointCheck h else if job then some csPermission else none)
    else s.sendCheck h ext) with
  | some st => s0.refuseFinal k h ext e st
  | none =>
    if hPtype h = ptRndvDone then
      (s0.applyDone (hDqidx h) k (xOpid ext.toNat) (xOplen ext.toNat) (xStatus ext.toNat)).recordSeq k (hSeq h) e
    else if hSeq h = (s.tc k).rxExpected then
      { s0 with mat := { s0.mat with stage := s0.mat.stage ++ [{ pkt := p, e := e, tc := k }] } }
    else if s.mat.reorder.length ≥ 4096 then
      ((s0.cond pgMat 1 true).bump C.MAT_REORDER_REFUSED).refuseRetry k h ext e
    else if !s.mireRoom 0 1 then s0.mireFull.refuseRetry k h ext e
    else if hPlen h > s.mireBucket then (s0.bump C.MAT_MIRE_RATE_REFUSED).refuseRetry k h ext e
    else
      let s1 := (s0.mireTake (hPlen h)).bump C.MAT_REORDER_WAITS
      ({ s1 with mat := { s1.mat with reorder := s1.mat.reorder ++ [{ pkt := p, e := e, tc := k, parked := true }] } } : State).mireEased

/-- Hand a packet that takes no number to the block that answers it (R103). -/
def State.rxHand (s : State) (e k : Nat) (p : List Flit) : State :=
  let x : RxPkt := { pkt := p, e := e, tc := k }
  let t := s.tpt
  let pt := hPtype (p.headD 0)
  let t' := if pt = ptAck || pt = ptNack then { t with acks := t.acks ++ [x] }
    else if pt = ptHello then { t with hellos := t.hellos ++ [x] }
    else if pt = ptHelloResp then { t with helloResps := t.helloResps ++ [x] }
    else { t with readResps := t.readResps ++ [x] }
  { s with tpt := t' }.rxDrop e

/-- Check 3 of a packet that takes a number (R409, R411), and on to check 4. -/
def State.rxCheck3 (s : State) (e k : Nat) (p : List Flit) : State :=
  let h := p.headD 0
  let t := s.tc k
  let off := seqSub (hSeq h) t.rxExpected
  let read := hPtype h = ptReadReq
  let done := off ≥ 2 ^ 31 || (off < 1024 && t.rxBitmap.testBit off)
  if done && !read then ((s.rxDrop e).bump C.TPT_DUP_RX).sendAck k e
  else if done then ((s.whenB (!isFiller h (pktExtFlit p)) (·.bump C.TPT_READ_REEXEC)).markSeen k h).rxRma e k p true
  else if off ≥ 1024 then ((s.rxDrop e).bump C.TPT_SEQ_AHEAD).raise pgTpt 1 (tcPid k)
  else if t.inProg.contains (hSeq h) then (s.rxDrop e).bump C.TPT_DUP_RX
  else
    let s1 := (s.modTc k fun t => { t with inProg := t.inProg ++ [hSeq h] }).markSeen k h
    if read || hPtype h = ptWriteReq then s1.rxRma e k p false else s1.rxSend e k p

/-- Checks 1 and 2 of a transport packet for a position that is served (R407, R408, R113). -/
def State.rxTransport (s : State) (e set : Nat) (p : List Flit) : State :=
  let h := p.headD 0
  let ext := pktExtFlit p
  let k := tcKey set (hSpid h)
  let s0 := s.touchTc k
  match s0.check1 k (s.incOf set) h ext with
  | .stale nak =>
    let s1 := (s0.rxDrop e).bump C.TPT_STALE_INC
    if nak then s1.sendNack k h ext e csStaleInc else s1
  | .staleSrc => (s0.rxDrop e).bump C.TPT_STALE_SRC
  | .pass =>
    let s1 := s0.reachable k
    if s.geysState = gsInvalid then (s1.rxDrop e).bump C.TPT_INVALID_DROP
    else if s.tooOld h then
      let s2 := (s1.rxDrop e).bump C.TPT_LIFE_DROP
      if isTransportRequest (hPtype h) then s2.sendNack k h ext e csLifetime else s2
    else
      let s2 := s1.bump C.TPT_PKT_RX
      if takesSeq (hPtype h) then s2.rxCheck3 e k p else s2.rxHand e k p

/-- A packet for a position this device gave up lately (15_pair_operation.md R566). -/
def State.rxGivenUp (s : State) (e : Nat) (p : List Flit) : State :=
  let h := p.headD 0
  let s1 := (s.rxDrop e).bump C.TPT_STALE_INC
  match s.pair.stale with
  | some (pid, inc, _) =>
    if hDpid h = pid && isTransportRequest (hPtype h) && (hDinc h ≠ 0 || hPtype h = ptHello) && s.canForm then
      let hd : Hdr := {
        ptype := ptNack, ext := true, plen := 0, dpid := hSpid h, spid := pid, dinc := hSinc h, sinc := inc % 2 ^ 16
        birth := s.gt % 2 ^ 40, job := hJob h, vc := 3, dhport := hShport h, dfunc := hSfunc h, dqidx := hSqidx h
        shport := hDhport h, sfunc := hDfunc h, sqidx := hDqidx h }
      let nack := formPacket hd (some (extAck 0 0 (hSeq h) csStaleInc (pktOpid h (pktExtFlit p)))) []
      ((s1.inject e 3 nack).bump C.TPT_NACK_TX).bump C.PAIR_STALE_NACK_TX
    else s1
  | none => s1

/-- A transport packet at the front of pipeline `e`. -/
def State.rxPacket (s : State) (e : Nat) (p : List Flit) : State :=
  let h := p.headD 0
  let k := fun set : Nat => tcKey set (hSpid h)
  match (s.pipe e).win with
  | some i => s.landRma e (k ((s.rxSet (hDpid h)).getD 0)) i p (s.pipe e).again
  | none =>
    match s.rxSet (hDpid h) with
    | some set => s.rxTransport e set p
    | none => s.rxGivenUp e p

end Sys2Proof.Machine
end

