-- ==== Sys2Proof/Machine/Commands.lean ====
section
/-! DEFINITION. How command packets reach Caldera: rings, SMBus, packets of other devices and MGMT_FLITs
(16_command_packets.md R572 to R592). -/

namespace Sys2Proof.Machine

/-! ### Checks 1 and 2 of R579, and the duplicate tag (R580) -/

/-- The command is one of its path that has no final reply. -/
def State.outstandingCmd (s : State) (c : CmdRef) : Bool := s.cmd.waiting.any (fun w => w.ref = c) || s.cmd.started.any fun x => x.ref = c

/-- The parameters of a command of `raw` (64 bytes as a number) under R572 to R576, and its extended buffer, which brings them when the command
starts; or the status of its refusal. `xbuf`: what a read of the buffer then brings. -/
def cmdParams (path : CmdPath) (raw len code : Nat) (xbuf : HostRead) : Except Nat (List Byte × Option CmdBuf) :=
  let flags := field raw 32 8
  let plen := field raw 40 8
  if flags ≥ 4 || field raw 48 16 ≠ 0 || plen > 56 || raw / 2 ^ (64 + 8 * plen) ≠ 0 then .error stBadParam
  else if flags % 2 = 1 then
    let n := field raw 128 32
    let b : CmdBuf := { addr := field raw 64 64, len := n }
    if plen ≠ 12 || n = 0 || n > 4096 then .error stBadParam
    else match path with
      | .ring _ _ =>
        if n ≠ len && !(code = 0x0F01 && n = 544) then .error stBadParam
        else match xbuf with
          | some bs => .ok (bs, some { b with bad := bs.length ≠ n || !padOk code bs })
          | none => .ok ([], some { b with failed := true, bad := true })
      | _ => .error stNotPermitted
  else
    let ps := (toBytes 64 raw).drop 8 |>.take len
    if plen = len && padOk code ps then .ok (ps, none) else .error stBadParam

/-- A command packet reaches Caldera: it is refused at once, or waits to start. `open_`: what R591 asks of the network path holds. -/
def State.arrive (s : State) (path : CmdPath) (sinc raw : Nat) (xbuf : HostRead) (open_ : Bool) : State :=
  let code := field raw 0 16
  let ref : CmdRef := ⟨path, BitVec.ofNat 16 (field raw 16 16)⟩
  if s.outstandingCmd ref then (s.bump C.CMD_DUPTAG).sendReply ref sinc code stBadParam true []
  else match plens.lookup code with
    | none => s.turnAway ref sinc code stBadOpcode
    | some len => match cmdParams path raw len code xbuf with
      | .error st => s.turnAway ref sinc code st
      | .ok (ps, buf) =>
        if !open_ then s.turnAway ref sinc code stNotPermitted
        else
          let w : WaitCmd := { ref := ref, opcode := code, params := ps, fence := bitAt raw 33, sinc := sinc, buf := buf }
          { s with cmd := { s.cmd with waiting := s.cmd.waiting ++ [w] } }

/-! ### Command rings (R583 to R586) -/

/-- The ring sets ERR and stops fetching (R585). -/
def State.ringErr (s : State) (k cause : Nat) : State :=
  if s.on R.CMD_RSTAT_ERR k then s
  else ((s.wr R.CMD_RSTAT_ERR 1 k).wr R.CMD_RSTAT_CAUSE cause k).raise pgCmd 0 (keyPort k + 4 * keyFunc k)

/-- CMD_PI_WRITE (R584, R585): the index is taken under R339. -/
def execCmdPiWrite (h : HPort) (f : Func) (v : W32) (s : State) : Host.Outcome State Fault Refusal :=
  hostWrites h.val s fun s =>
    let k := ringKey h f
    let r := s.ring k
    if s.fnState k = fsWedged || idxSub v.toNat r.pi ≥ 2 ^ 31 then s
    else if idxSub v.toNat (s.rd R.CMD_CI_INDEX k) > 2 ^ s.rd R.CMD_RCFG_CLOG k then s.ringErr k 1
    else s.setRing k { r with pi := v.toNat }

/-- RPL_CI_WRITE (R585). -/
def execRplCiWrite (h : HPort) (f : Func) (v : W32) (s : State) : Host.Outcome State Fault Refusal :=
  hostWrites h.val s fun s =>
    let k := ringKey h f
    if s.fnState k = fsWedged then s
    else if idxSub (s.rd R.RPL_PI_INDEX k) v.toNat > 2 ^ s.rd R.CMD_RCFG_RLOG k then s.ringErr k 2
    else s.setRing k { s.ring k with rplCi := v.toNat }

/-- CMD_ARM_WRITE (R586). -/
def execCmdArmWrite (h : HPort) (f : Func) (arm : Bool) (s : State) : Host.Outcome State Fault Refusal :=
  hostWrites h.val s fun s =>
    let k := ringKey h f
    if arm && s.fnState k ≠ fsWedged then s.setRing k { s.ring k with armed := true } else s

/-- A started command of the ring has not ended (CMD_RSTAT.BUSY). -/
def State.ringBusy (s : State) (k : Nat) : Bool := s.cmd.started.any fun c => fnOfPath c.ref.path = some k

/-- A field that a write may set while the ring is idle; a reserved encoding leaves it (R14). -/
def State.setIf (s : State) (b : Bool) (f : RegField) (v i : Nat) : State := if b && f.allows v then s.wr f v i else s

/-- A write of CMD_RCFG (R583): CLOG, RLOG and VEC only while EN and BUSY are 0; EN 0 clears ERR. -/
def State.rcfgWrite (s : State) (k v : Nat) : State :=
  let idle := !s.on R.CMD_RCFG_EN k && !s.ringBusy k
  let s1 := ((s.setIf idle R.CMD_RCFG_CLOG (field v 0 4) k).setIf idle R.CMD_RCFG_RLOG (field v 4 4) k).setIf idle R.CMD_RCFG_VEC (field v 9 11) k
  let en := field v 8 1
  let s2 := s1.wr R.CMD_RCFG_EN en k
  if en = 0 then (s2.wr R.CMD_RSTAT_ERR 0 k).wr R.CMD_RSTAT_CAUSE 0 k else s2

/-- CMD_RCFG_WRITE (R583). -/
def execCmdRcfgWrite (h : HPort) (f : Func) (v : W32) (s : State) : Host.Outcome State Fault Refusal :=
  hostWrites h.val s fun s => if s.fnState (ringKey h f) = fsWedged then s else s.rcfgWrite (ringKey h f) v.toNat

/-- The limits of R584 allow a fetch. -/
def State.mayFetch (s : State) (k : Nat) (p : CmdPath) : Bool :=
  let n := s.inflight p
  s.on R.CMD_RCFG_EN k && !s.on R.CMD_RSTAT_ERR k && s.fnState k = fsEnabled && n < 16 && s.rplFree k ≥ 2 * (n + 1) &&
    (let d := idxSub (s.ring k).pi (s.rd R.CMD_CI_INDEX k); 1 ≤ d && d ≤ 2 ^ s.rd R.CMD_RCFG_CLOG k)

/-- The next 64 bytes of a command ring are read: the command arrives, or the ring is in error. -/
def State.fetchCmd (s : State) (h : HPort) (f : Func) (data xbuf : HostRead) : State :=
  let k := ringKey h f
  let p : CmdPath := .ring h f
  let x := s.rd R.CMD_CI_INDEX k
  let s1 := s.hostRead (cmdReq ⟨p, 0⟩ (s.rd R.CMD_BASE_BASE k * 4096 + 64 * (x % 2 ^ s.rd R.CMD_RCFG_CLOG k))) 64
  match data with
  | none => (s1.dmaError k).ringErr k 3
  | some bs =>
    ((s1.wr R.CMD_CI_INDEX (idxAdd x 1) k).bump C.CMD_CMD_RING).arrive p 0 (ofBytes (bs.take 64)) xbuf true

/-- COMMAND_FETCH (R574, R579, R584): the command at CMD_CI. `xbuf`: what the read of its extended buffer brings when the command starts. -/
def execCommandFetch (h : HPort) (f : Func) (data xbuf : HostRead) (s : State) : Host.Outcome State Fault Refusal :=
  if !s.serving || s.fw.live.isSome || !s.mayFetch (ringKey h f) (.ring h f) then .next s else fin (s.fetchCmd h f data xbuf)

/-- COMMAND_PROGRESS_TIMER (R578): one IN_PROGRESS reply, and none over the network (R591). -/
def execCommandProgressTimer (c : CmdRef) (s : State) : Host.Outcome State Fault Refusal :=
  live s fun s =>
    match s.cmd.started.find? fun x => x.ref = c with
    | none => s
    | some x =>
      let net := match c.path with
        | .remote _ _ => true
        | _ => false
      if x.progress || net then s
      else
        let mark := fun y : Started => if y.n = x.n then { y with progress := true } else y
        let s1 : State := { s with cmd := { s.cmd with started := s.cmd.started.map mark } }
        if x.silent then s1 else (s1.bump C.CMD_IN_PROGRESS).sendReply c 0 x.opcode stInProgress false []

/-! ### SMBus (R589, R590) -/

/-- The answer to an MCTP control request (DSP0236; log 51): the response's command code, completion code and data, and an endpoint ID
to take. -/
def mctpControl (eid cmd : Nat) (d : List Byte) (ver : Nat) : List Byte × Option Nat :=
  let b := fun i => (d.getD i 0).toNat
  if cmd = 0x01 then
    if b 0 % 4 ≤ 1 && b 1 ≠ 0 && b 1 ≠ 0xFF then ([0, 0, BitVec.ofNat 8 (b 1), 0], some (b 1)) else ([0x02], none)
  else if cmd = 0x02 then ([0, BitVec.ofNat 8 eid, 0, 0], none)
  else if cmd = 0x04 then
    if b 0 = 0xFF || b 0 = 0 then ([0, 1, 0xF1, 0xF3, 0xFF, 0], none) else ([0x80], none)
  else if cmd = 0x05 then ([0, 1, 0x7E], none)
  else if cmd = 0x06 then
    if b 0 = 0 then ([0, 0xFF, 0] ++ toBytes 2 Config.vendorId.toNat ++ toBytes 2 ver, none) else ([0x02], none)
  else ([0x05], none)

/-- An MCTP control message: a request is answered. -/
def State.mctp (s : State) (bytes : List Byte) : State :=
  let hdr := (bytes.getD 1 0).toNat
  if hdr < 0x80 then s
  else
    let cmd := (bytes.getD 2 0).toNat
    let (ver, s0) := if cmd = 0x06 then s.draw 16 else (0, s)
    let (r, eid) := mctpControl (s0.rd R.CMD_STAT_MCTP_EID) cmd (bytes.drop 3) ver
    let s1 := match eid with
      | some e => s0.wr R.CMD_STAT_MCTP_EID e
      | none => s0
    s1.emit (.smbus ([0, BitVec.ofNat 8 (hdr % 128)] ++ [BitVec.ofNat 8 cmd] ++ r))

/-- A command in the vendor body of R589. -/
def State.smbusCmd (s : State) (bytes : List Byte) : State :=
  let raw := ofBytes ((bytes.drop 5).take 64)
  let s1 := s.bump C.CMD_CMD_SMB
  if bytes.length ≠ 69 || ofBytes ((bytes.drop 1).take 2) ≠ Config.vendorId.toNat || bytes.getD 3 0 ≠ 1 then s
  else if s.fw.live.isSome || s.inflight .smbus ≥ 8 then
    s1.turnAway ⟨.smbus, BitVec.ofNat 16 (field raw 16 16)⟩ 0 (field raw 0 16) stBusy
  else s1.arrive .smbus 0 raw none true

/-- SMBUS_MESSAGE (R589, R590): an MCTP message, its message type first. A start with the device's address is a wake source, and outside RUN
the address is not acknowledged (17_reset_power_supplies.md R625, R627). -/
def execSmbusMessage (bytes : List Byte) (pecOk : Bool) (s : State) : Host.Outcome State Fault Refusal :=
  let s1 := s.wakeLatch wkSmbAddr 0
  if !s.serving || !s.on R.CMD_CFG_SMB_EN then fin s1
  else if !pecOk then fin ((s1.bump C.CMD_SMB_PEC).raise pgCmd 1)
  else
    let t := (bytes.headD 0).toNat
    if t = 0 then fin (s1.mctp bytes) else if t = 0x7E then fin (s1.smbusCmd bytes) else fin s1

/-! ### Commands over the network (R591) -/

/-- What Caldera checks of a packet it takes from E11: its CRC and check 2 (R113, 06_timebase.md Table 6.4). -/
def State.mgmtOk (s : State) (p : List Flit) : Bool :=
  pktCrcOk p && s.geysState ≠ gsInvalid && !s.tooOld (p.headD 0)

/-- Take the packet at the front of E11 when it is of a type. -/
def State.mgmtTake (s : State) (ptype : Nat) : Option (List Flit × State) :=
  match s.rx 11 with
  | p :: t => if hPtype (p.headD 0) = ptype then some (p, s.setRx 11 t) else none
  | [] => none

/-- A MGMT_REQ that has reached Caldera. -/
def State.mgmtAsk (s : State) (p : List Flit) : State :=
  if !s.mgmtOk p then s
  else
    let h := p.headD 0
    let path : CmdPath := .remote (BitVec.ofNat 20 (hSpid h)) ⟨hShport h % 4, Nat.mod_lt _ (by decide)⟩
    (s.bump C.CMD_CMD_REMOTE_RX).arrive path (hSinc h) (ofBytes (pktPayload p)) none (s.on R.CMD_CFG_REMOTE_EN && hSfunc h = 0)

/-- MGMT_REQ_RECEIVE (R591): commands over the network are served after a live activation (20_firmware_and_trust.md R697). -/
def execMgmtReqReceive (s : State) : Host.Outcome State Fault Refusal :=
  if !s.serving || s.fw.live.isSome || s.pwr.boot = .load then .next s
  else match s.mgmtTake ptMgmtReq with
    | none => .next s
    | some (p, s1) => fin (s1.mgmtAsk p)

/-- A MGMT_RESP that has reached Caldera ends the REMOTE it answers. -/
def State.mgmtAnswer (s : State) (p : List Flit) : State :=
  let h := p.headD 0
  let raw := ofBytes (pktPayload p)
  let hit := s.cmd.started.find? fun c => match c.wait with
    | .remote pid tag _ => pid = hSpid h && tag = field raw 0 16
    | _ => false
  if !s.mgmtOk p || hDinc h ≠ s.nv.inc % 2 ^ 16 then s
  else match hit with
    | none => s
    | some c => match c.wait with
      | .remote _ _ out => (s.hostWrite (cmdReq c.ref out) (toBytes 32 raw)).finalReply c.n stOk (pack [(2, field raw 16 16)])
      | _ => s

/-- MGMT_RESP_RECEIVE (R591). -/
def execMgmtRespReceive (s : State) : Host.Outcome State Fault Refusal :=
  live s fun s =>
    match s.mgmtTake ptMgmtResp with
    | none => s
    | some (p, s1) => s1.mgmtAnswer p

/-- No answer to a REMOTE has come: what still waits for adoption is dropped, and the command ends FAILED. -/
def State.remoteLost (s : State) (n pid tag : Nat) : State :=
  let stays := fun u : Unadmitted => !(u.e = 11 && hDpid (u.pkt.headD 0) = pid && field (ofBytes (pktPayload u.pkt)) 16 16 = tag)
  let s1 : State := { s with rout := { s.rout with unadmitted := s.rout.unadmitted.filter stays } }
  (s1.bump C.CMD_REMOTE_TIMEOUT).finalReply n stFailed [1]

/-- REMOTE_TIMEOUT (R591). -/
def execRemoteTimeout (c : CmdRef) (s : State) : Host.Outcome State Fault Refusal :=
  live s fun s =>
    match s.cmd.started.find? fun x => x.ref = c with
    | none => s
    | some x => match x.wait with
      | .remote pid tag _ => s.remoteLost x.n pid tag
      | _ => s

/-! ### MGMT_FLIT (R592, Table 16.9) -/

def mgmtFlit (sub qtag : Nat) : Nat := 0x05 + sub * 2 ^ 16 + qtag % 2 ^ 16 * 2 ^ 32

/-- The INFO flit of this device. -/
def State.infoFlit (s : State) (qtag : Nat) : Flit :=
  BitVec.ofNat 256 (mgmtFlit 1 qtag + s.ownPid % 2 ^ 20 * 2 ^ 48 + s.rd R.CHIP_ID_STEPPING % 2 ^ 8 * 2 ^ 68 + s.rd R.CHIP_VER_FW_RELEASE * 2 ^ 76 +
    s.phase * 2 ^ 108 + s.pairState * 2 ^ 110 + s.geysState * 2 ^ 113 + s.rd R.ROUT_CTRL_ADOPTED * 2 ^ 115 + s.rd R.ROUT_CTRL_TRANSIT_OFF * 2 ^ 116)

/-- MGMT_FLIT_QUERY_RECEIVE (R592). -/
def execMgmtFlitQueryReceive (p : Port) (flit : Flit) (s : State) : Host.Outcome State Fault Refusal :=
  live s fun s =>
    let s1 := s.bcTake p.val flit
    if fget flit 0 8 ≠ 0x05 then s
    else if fget flit 16 2 ≥ 2 then s1.bcDrop p.val
    else if fget flit 16 2 ≠ 0 then s
    else (s1.bump C.CMD_MGMT_FLIT_RX).bcSend p.val (s1.infoFlit (fget flit 32 16))

/-- MGMT_FLIT_INFO_RECEIVE (R592). -/
def execMgmtFlitInfoReceive (p : Port) (flit : Flit) (s : State) : Host.Outcome State Fault Refusal :=
  live s fun s =>
    if fget flit 0 8 ≠ 0x05 then s
    else if fget flit 16 2 ≥ 2 then (s.bcTake p.val flit).bcDrop p.val
    else if fget flit 16 2 ≠ 1 then s
    else
      let s1 := (s.bcTake p.val flit).bump C.CMD_MGMT_FLIT_RX
      match s1.cmd.started.find? fun c => c.wait = .neighbour p.val (fget flit 32 16) with
      | none => s1
      | some c => s1.okay c.n [(4, fget flit 48 20), (4, fget flit 76 32), (1, fget flit 68 8), (1, fget flit 108 2), (1, fget flit 110 3),
          (1, fget flit 113 2), (1, fget flit 115 2)]

/-- NEIGHBOUR_INFO_TIMEOUT (R592). -/
def execNeighbourInfoTimeout (c : CmdRef) (s : State) : Host.Outcome State Fault Refusal :=
  live s fun s =>
    match s.cmd.started.find? fun x => x.ref = c with
    | none => s
    | some x => match x.wait with
      | .neighbour _ _ => s.ends x.n stFailed
      | _ => s

end Sys2Proof.Machine
end

