-- ==== Sys2Proof/Machine/Reduce.lean ====
section
/-! DEFINITION. The arithmetic of reductions (14_collectives.md R511 to R516): IEEE 754 with round-to-nearest-even on the formats of
Table 14.4, integer operations, pairs, and the tree of R511. -/

namespace Sys2Proof.Machine

/-! ### Floating point -/

/-- A binary format: exponent bits and fraction bits. -/
structure Fmt where
  eb : Nat
  mb : Nat
  deriving DecidableEq, Repr

def fp16 : Fmt := ⟨5, 10⟩
def bf16 : Fmt := ⟨8, 7⟩
def fp32 : Fmt := ⟨8, 23⟩
def fp64 : Fmt := ⟨11, 52⟩

def Fmt.bits (f : Fmt) : Nat := 1 + f.eb + f.mb
def Fmt.bias (f : Fmt) : Int := 2 ^ (f.eb - 1) - 1
def Fmt.expMax (f : Fmt) : Nat := 2 ^ f.eb - 1
/-- The exponent of the last place of a subnormal. -/
def Fmt.emin (f : Fmt) : Int := 1 - f.bias - f.mb

def Fmt.neg (f : Fmt) (x : Nat) : Bool := x.testBit (f.eb + f.mb)
def Fmt.expo (f : Fmt) (x : Nat) : Nat := field x f.mb f.eb
def Fmt.frac (f : Fmt) (x : Nat) : Nat := field x 0 f.mb
def Fmt.isNan (f : Fmt) (x : Nat) : Bool := f.expo x = f.expMax && f.frac x ≠ 0
def Fmt.isInf (f : Fmt) (x : Nat) : Bool := f.expo x = f.expMax && f.frac x = 0
def Fmt.isZero (f : Fmt) (x : Nat) : Bool := f.expo x = 0 && f.frac x = 0

/-- The canonical quiet NaN (R514). -/
def Fmt.nan (f : Fmt) : Nat := f.expMax * 2 ^ f.mb + 2 ^ (f.mb - 1)
def Fmt.inf (f : Fmt) (neg : Bool) : Nat := bNat neg * 2 ^ (f.eb + f.mb) + f.expMax * 2 ^ f.mb
def Fmt.zero (f : Fmt) (neg : Bool) : Nat := bNat neg * 2 ^ (f.eb + f.mb)

/-- Magnitude of a finite number: m and e of m times 2^e. -/
def Fmt.mag (f : Fmt) (x : Nat) : Nat × Int :=
  if f.expo x = 0 then (f.frac x, f.emin) else (2 ^ f.mb + f.frac x, f.expo x - f.bias - f.mb)

/-- Round m times 2^e to the format, nearest, ties to even. -/
def Fmt.round (f : Fmt) (neg : Bool) (m : Nat) (e : Int) : Nat :=
  if m = 0 then f.zero neg
  else
    let sh : Int := max ((m.log2 : Int) - f.mb) (f.emin - e)
    let q :=
      if sh ≤ 0 then m * 2 ^ (-sh).toNat
      else
        let d := 2 ^ sh.toNat
        let q := m / d
        let r := m % d
        if 2 * r > d || (2 * r = d && q % 2 = 1) then q + 1 else q
    let e1 := e + sh
    let (q2, e2) := if q ≥ 2 ^ (f.mb + 1) then (q / 2, e1 + 1) else (q, e1)
    if q2 < 2 ^ f.mb then f.zero neg + q2
    else
      let ex := (e2 + f.bias + f.mb).toNat
      if ex ≥ f.expMax then f.inf neg else f.zero neg + ex * 2 ^ f.mb + (q2 - 2 ^ f.mb)

/-- SUM of two numbers (R514). -/
def Fmt.add (f : Fmt) (a b : Nat) : Nat :=
  if f.isNan a || f.isNan b then f.nan
  else if f.isInf a then (if f.isInf b && f.neg a ≠ f.neg b then f.nan else f.inf (f.neg a))
  else if f.isInf b then f.inf (f.neg b)
  else
    let (ma, ea) := f.mag a
    let (mb, eb) := f.mag b
    let e := min ea eb
    let va : Int := (if f.neg a then -1 else 1) * (ma * 2 ^ (ea - e).toNat : Nat)
    let vb : Int := (if f.neg b then -1 else 1) * (mb * 2 ^ (eb - e).toNat : Nat)
    let v := va + vb
    if v = 0 then f.zero (f.neg a && f.neg b) else f.round (v < 0) v.natAbs e

/-- PROD of two numbers (R514). -/
def Fmt.mul (f : Fmt) (a b : Nat) : Nat :=
  let sg := f.neg a != f.neg b
  if f.isNan a || f.isNan b then f.nan
  else if f.isInf a || f.isInf b then (if f.isZero a || f.isZero b then f.nan else f.inf sg)
  else
    let (ma, ea) := f.mag a
    let (mb, eb) := f.mag b
    f.round sg (ma * mb) (ea + eb)

/-- The order of R514, with -0 below +0. -/
def Fmt.key (f : Fmt) (x : Nat) : Int :=
  let m : Int := (x % 2 ^ (f.eb + f.mb) : Nat)
  if f.neg x then -1 - m else m

def Fmt.minOf (f : Fmt) (a b : Nat) : Nat := if f.isNan a || f.isNan b then f.nan else if f.key a ≤ f.key b then a else b
def Fmt.maxOf (f : Fmt) (a b : Nat) : Nat := if f.isNan a || f.isNan b then f.nan else if f.key a ≥ f.key b then a else b

/-- Convert between formats, rounding once (R516). -/
def convFmt (f g : Fmt) (x : Nat) : Nat :=
  if f.isNan x then g.nan
  else if f.isInf x then g.inf (f.neg x)
  else g.round (f.neg x) (f.mag x).1 (f.mag x).2

/-! ### Elements -/

/-- Format of a floating-point DTYPE. -/
def fmtOf (t : Nat) : Option Fmt :=
  if t = 4 then some fp16 else if t = 5 then some bf16 else if t = 6 then some fp32 else if t = 7 then some fp64 else none

/-- Bytes of one value of a DTYPE (Table 14.4). -/
def valBytes (t : Nat) : Nat := if t = 1 || t = 3 || t = 7 then 8 else if t = 4 || t = 5 then 2 else 4

/-- MINLOC and MAXLOC. -/
def isLoc (op : Nat) : Bool := op = 7 || op = 8

/-- Bytes of one element. -/
def elemBytes (t op : Nat) : Nat := if isLoc op then 2 * valBytes t else valBytes t

/-- The pairs of DTYPE and ROP that Table 14.4 marks. -/
def pairValid (t op : Nat) : Bool :=
  if op ≤ 3 then t ≤ 7 else if op ≤ 6 then t ≤ 3 else t ≤ 3 || t = 6 || t = 7

/-- A value of an integer DTYPE as it is compared (R513). -/
def intKey (t x : Nat) : Int := if t ≤ 1 then signedOf (8 * valBytes t) x else x

/-- One operation on two values; `a` is the lower input (R511, R513, R514). -/
def opVal (t op a b : Nat) : Nat :=
  match fmtOf t with
  | some f => if op = 0 then f.add a b else if op = 1 then f.mul a b else if op = 2 then f.minOf a b else f.maxOf a b
  | none =>
    let m := 2 ^ (8 * valBytes t)
    if op = 0 then (a + b) % m
    else if op = 1 then a * b % m
    else if op = 2 then (if intKey t a ≤ intKey t b then a else b)
    else if op = 3 then (if intKey t a ≥ intKey t b then a else b)
    else if op = 4 then a &&& b
    else if op = 5 then a ||| b
    else a ^^^ b

/-- The place of a value in the order of R515: a NaN is greater than every number. -/
def locKey (t x : Nat) : Int :=
  match fmtOf t with
  | some f => if f.isNan x then 2 ^ 65 else f.key x
  | none => intKey t x

/-- A NaN result value is the canonical one. -/
def canonVal (t x : Nat) : Nat :=
  match fmtOf t with
  | some f => if f.isNan x then f.nan else x
  | none => x

/-- MINLOC or MAXLOC of two pairs (R515). -/
def opLoc (t op a b : Nat) : Nat :=
  let w := 8 * valBytes t
  let va := a % 2 ^ w
  let vb := b % 2 ^ w
  let ka := locKey t va
  let kb := locKey t vb
  let first := if ka = kb then decide (a / 2 ^ w ≤ b / 2 ^ w) else if op = 7 then decide (ka < kb) else decide (ka > kb)
  if first then canonVal t va + a / 2 ^ w * 2 ^ w else canonVal t vb + b / 2 ^ w * 2 ^ w

/-- One operation on two elements. -/
def opElem (t op a b : Nat) : Nat := if isLoc op then opLoc t op a b else opVal t op a b

/-- The elements of a vector of bytes; `n` bounds them. -/
def elemsOf (w : Nat) : Nat → List Byte → List Nat
  | 0, _ => []
  | n + 1, bs => if bs.isEmpty then [] else ofBytes (bs.take w) :: elemsOf w n (bs.drop w)

def elemList (w : Nat) (bs : List Byte) : List Nat := elemsOf w (bs.length / w) bs
def elemBytesOf (w : Nat) (es : List Nat) : List Byte := es.flatMap (toBytes w)

/-- Two vectors of bytes, element by element. -/
def opVec (t op : Nat) (a b : List Byte) : List Byte :=
  let w := elemBytes t op
  elemBytesOf w (List.zipWith (opElem t op) (elemList w a) (elemList w b))

/-- One level of the tree of R511. -/
def treeLevel (t op : Nat) : List (List Byte) → List (List Byte)
  | a :: b :: rest => opVec t op a b :: treeLevel t op rest
  | l => l

/-- The tree of R511 over ordered inputs; `fuel` bounds its levels. -/
def treeReduce (t op : Nat) : Nat → List (List Byte) → List Byte
  | 0, l => l.headD []
  | _, [] => []
  | _, [a] => a
  | fuel + 1, l => treeReduce t op fuel (treeLevel t op l)

/-- Convert each element of a vector between formats (R516). -/
def convVec (f g : Fmt) (bs : List Byte) : List Byte :=
  elemBytesOf (g.bits / 8) ((elemList (f.bits / 8) bs).map (convFmt f g))

end Sys2Proof.Machine
end

