-- ==== Sys2Proof/Machine/CollOps.lean ====
section
/-! DEFINITION. Collective operations (14_collectives.md R502 to R533): instances, phases, contributions and results. -/

namespace Sys2Proof.Machine

/-! ### Descriptor fields (Table 14.2) -/

def kGid (d : Nat) : Nat := field d 128 12
def kDtype (d : Nat) : Nat := field d 140 4
def kRop (d : Nat) : Nat := field d 144 4
def kAcc (d : Nat) : Bool := field d 148 1 = 1
def kForm (d : Nat) : Nat := field d 149 2
def kBdim (d : Nat) : Nat := field d 151 2
def kBroot (d : Nat) : Nat := field d 153 5
def kCount (d : Nat) : Nat := field d 160 32
def kSaddr (d : Nat) : Nat := field d 192 64
def kDaddr (d : Nat) : Nat := field d 256 64
def kT0 (d : Nat) : Nat := field d 320 64
def kGap (d : Nat) : Nat := field d 384 32

/-- The operation of an opcode (R507). -/
def collKind (op : Nat) : CollKind :=
  if op = 0x30 then .allreduce else if op = 0x31 then .reduceScatter else if op = 0x32 then .allgather
  else if op = 0x33 then .barrier else .lineBcast

/-- Whether the operation reduces. -/
def CollKind.reduces (k : CollKind) : Bool := k = .allreduce || k = .reduceScatter

/-- Bytes of an element in memory and on the wire (R513, R516). -/
def memElem (d : Nat) : Nat := elemBytes (kDtype d) (kRop d)
def wireElem (d : Nat) : Nat := if kAcc d then 4 else memElem d

/-- DTYPE of the elements on the wire. -/
def wireType (d : Nat) : Nat := if kAcc d then 6 else kDtype d

/-- Elements of a contributor's source and of its result (Table 14.3). -/
def srcElems (p : GroupParams) (d : Nat) : Nat :=
  match collKind (dOp d) with
  | .reduceScatter => p.total * kCount d
  | .barrier => 0
  | _ => kCount d

def resElems (p : GroupParams) (d : Nat) : Nat :=
  match collKind (dOp d) with
  | .allgather => p.total * kCount d
  | .barrier => 0
  | _ => kCount d

/-- Dimensions of the line phases, in order (Table 14.3). -/
def phaseDims (p : GroupParams) (d : Nat) : List Nat :=
  match collKind (dOp d) with
  | .allgather => p.dims.reverse
  | .lineBcast => [kBdim d]
  | _ => p.dims

/-- Wire bytes of the current vector at the start of line phase `n` (R509). -/
def phaseBytes (p : GroupParams) (d n : Nat) : Nat :=
  let w := wireElem d
  let before := (phaseDims p d).take n
  let prod := (before.map p.count).foldl (· * ·) 1
  match collKind (dOp d) with
  | .reduceScatter => p.total * kCount d * w / prod
  | .allgather => p.localCnt * kCount d * w * prod
  | .barrier => 0
  | _ => kCount d * w

/-- Wire bytes a member sends to one destination in line phase `n`. -/
def sendBytes (p : GroupParams) (d n : Nat) : Nat :=
  match collKind (dOp d) with
  | .reduceScatter => phaseBytes p d n / max 1 (p.count ((phaseDims p d).getD n 0))
  | _ => phaseBytes p d n

/-- Segments of `n` bytes: at least one, which is empty when there are none (R510). A LINE_BCAST of no bytes has no packet at all, since a
LINE_MCAST carries at least one byte (03_packets.md Table 3.3). -/
def segments (n : Nat) : List Nat := (List.range (max 1 ((n + 4095) / 4096))).map fun i => 4096 * i

/-- Which elements do not count in BARRIER's packets and fields. -/
def segElems (d plen : Nat) : Nat := if wireElem d = 0 then 0 else plen / wireElem d

/-- Tests of R508 on the fields alone; none: they pass. The first component: the fields are bad. -/
def collFieldsBad (p : GroupParams) (d : Nat) : Bool :=
  let k := collKind (dOp d)
  (k.reduces && !pairValid (kDtype d) (kRop d)) || (!k.reduces && kRop d ≠ 0) ||
    (kAcc d && !(k.reduces && (kDtype d = 4 || kDtype d = 5) && kRop d ≤ 3)) || kForm d = 3 ||
    (k = .lineBcast && (!p.includes (kBdim d) || !(p.mask (kBdim d)).testBit (kBroot d)))

/-- Some phase vector is larger than MAXBYTES. -/
def collTooBig (p : GroupParams) (d : Nat) : Bool :=
  phaseBytes p d 0 > p.maxBytes || (List.range (phaseDims p d).length).any fun n => phaseBytes p d n > p.maxBytes

/-- The fields that every local contributor of an instance must give alike (R507). -/
def collSame (a b : Nat) : Bool :=
  dOp a = dOp b && field a 128 64 = field b 128 64 && field a 320 96 = field b 320 96

/-! ### Instances -/

/-- The local slot of a QP in a group. -/
def GroupParams.slotOf (p : GroupParams) (q : Nat) : Option Nat := (p.lqps.take p.localCnt).findIdx? fun x => x = q

/-- The descriptor an instance runs, once a local contributor has started it. -/
def Inst.desc (i : Inst) : Nat := (i.parts.head?.map LocalPart.desc).getD 0

/-- The instance has started on this device: every local contributor has come, and its data has been read. -/
def Inst.ready (i : Inst) (p : GroupParams) : Bool := i.parts.length ≥ p.localCnt && i.parts.all fun x => x.data.isSome

/-- The position's own coordinate of a dimension. -/
def State.ownCoord (s : State) (d : Nat) : Nat := coord s.ownPid d

/-- Line peers of a dimension, ascending: coordinate and PID. -/
def State.linePeers (s : State) (p : GroupParams) (d : Nat) : List (Nat × Nat) :=
  ((p.members d).filter fun u => u ≠ s.ownCoord d).map fun u => (u, withCoord s.ownPid d u)

/-- Position of a coordinate among the members of a dimension. -/
def GroupParams.place (p : GroupParams) (d u : Nat) : Nat := ((p.members d).filter fun v => v < u).length

/-- Collective port of a group: E10 or E11 (log 25). -/
def collPort (gid : Nat) : Nat := 10 + gid % 2

/-- The header and extension of a collective packet (R517). -/
def State.collPacket (s : State) (ptype : Nat) (p : GroupParams) (k d phase dim member segoff dpid dq : Nat) (vc : Nat) (bs : List Byte) :
    List Flit :=
  let x := s.qp dq
  let res := ptype = ptCollResult
  let h : Hdr := {
    ptype := ptype, ext := true, plen := bs.length, dpid := dpid, spid := s.ownPid, dinc := 0, sinc := s.nv.inc % 2 ^ 16
    birth := s.gt % 2 ^ 40, job := p.job, vc := vc, dhport := if res then x.p.hport else 0, dfunc := if res then x.p.func else 0
    dqidx := if res then dq else 0 }
  let cid := p.gid * 4096 + k % 4096
  let esz := if res then memElem d else wireElem d
  let n := if esz = 0 then 0 else bs.length / esz
  formPacket h (some (extColl cid phase (kDtype d) (kRop d) (kAcc d) dim member n segoff)) bs

/-- The launch of line phase `n` of a TIMED operation (R526). -/
def launchAt (gid k d n : Nat) : Option LaunchId :=
  if kForm d = 1 then some { gid := gid, k := k, phase := n, gt := kT0 d + n * kGap d } else none

/-- A phase launched LATE (R526, R528). -/
def State.phaseLate (s : State) : State := (s.bump C.COLL_LATE_PHASES).wr R.COLL_EVENT_LATE 1

/-- Put a slot copy into the staging of a collective port. It is demoted at the source where no schedule is active, or its slot has been served
without it (R531; 08_scheduled_traffic.md R306, R307). -/
def State.collStage (s : State) (e : Nat) (pkt : List Flit) : State :=
  if !s.schdActive then s.demoteSource e pkt
  else match s.rememberedFor (96 + e) (pkt.headD 0) with
    | some m => (s.forgetStart m).demoteSource e pkt
    | none => s.setStaged e (s.staged e ++ [pkt])

/-- A packet of a line phase is staged: with FORM DYNAMIC, and after its launch GT, it is sent at once; before, it waits for the launch (R525, R526). -/
def State.collSend (s : State) (e : Nat) (l : Option LaunchId) (pkt : List Flit) (to_ : List Nat) : State :=
  let held := fun x : TimedLaunch => some x.id = l && s.gt < x.id.gt
  let s1 : State := if s.coll.launches.any held then
      let f := fun x : TimedLaunch => if held x then { x with copies := x.copies ++ [(pkt, to_)] } else x
      { s with coll := { s.coll with launches := s.coll.launches.map f } }
    else s.injectCopies e pkt to_ l
  (s1.bump C.COLL_CONTRIB_TX).bump C.COLL_COPIES 0 to_.length

/-- A TIMED launch that Table 6.4 refuses when its phase is staged is no launch: the phase is sent as under DYNAMIC, and LATE (R528). -/
def State.launchRefuse (s : State) (l : Option LaunchId) : State :=
  let due := fun x : TimedLaunch => some x.id = l && s.gt < x.id.gt
  if !s.launchOk && s.coll.launches.any due then
    ({ s with coll := { s.coll with launches := s.coll.launches.filter fun x => !due x } } : State).phaseLate
  else s

/-- Send the packets of line phase `n` of an instance with the current vector (R509, R510, R518, R525, R526, R531). -/
def State.phaseSend (s : State) (g : Group) (k d n : Nat) (vec : List Byte) : State :=
  let p := g.p
  let dim := (phaseDims p d).getD n 0
  let own := s.ownCoord dim
  let peers := s.linePeers p dim
  let kind := collKind (dOp d)
  let part := sendBytes p d n
  let e := collPort p.gid
  let l := launchAt p.gid k d n
  let s := s.launchRefuse l
  let seg := fun (off : Nat) (base : Nat) => ((vec.drop (base + off)).take (min 4096 (part - off)))
  let send := fun (s : State) (pkt : List Flit) (to_ : List Nat) => s.collSend e l pkt to_
  if kForm d = 2 && kind ≠ .lineBcast then
    let one := fun (s : State) (off : Nat) =>
      (peers.foldl (fun (a : State × Nat) (u : Nat × Nat) =>
        let base := if kind = .reduceScatter then part * p.place dim u.1 else 0
        let pkt := a.1.collPacket ptCollContrib p k d n dim own off u.2 0 7 (seg off base)
        (((a.1.collStage (10 + a.2 % 2) pkt).bump C.COLL_CONTRIB_TX).bump C.COLL_COPIES, a.2 + 1)) (s, 0)).1
    (segments part).foldl one s
  else if kind = .reduceScatter then
    (segments part).foldl (fun s off =>
      peers.foldl (fun s u =>
        send s (s.collPacket ptCollContrib p k d n dim own off u.2 0 6 (seg off (part * p.place dim u.1))) [u.2]) s) s
  else if kind = .lineBcast && (own ≠ kBroot d || part = 0) then s
  else
    let pt := if kind = .lineBcast then ptLineMcast else ptCollContrib
    let mem := if kind = .lineBcast then kBroot d else own
    (segments part).foldl (fun s off => send s (s.collPacket pt p k d n dim mem off s.ownPid 0 6 (seg off 0)) (peers.map Prod.snd)) s

/-- The contributions of line phase `n` that are staged, of one member and segment. -/
def Inst.part (i : Inst) (n member off : Nat) : Option StagedPart :=
  i.staged.find? fun x => x.phase = n && x.member = member && x.segoff = off

/-- The segment of line phase `n` at an offset: reduced, or each member's, as soon as all of its inputs are present (R509, R510). -/
def State.segResult (s : State) (g : Group) (i : Inst) (n off : Nat) : Option (List (List Byte)) :=
  let p := g.p
  let d := i.desc
  let dim := (phaseDims p d).getD n 0
  let own := s.ownCoord dim
  let part := sendBytes p d n
  let kind := collKind (dOp d)
  let mine := if kind = .reduceScatter then (i.vec.drop (part * p.place dim own)).take part else i.vec
  let input := fun u : Nat =>
    if u = own then some ((mine.drop off).take (min 4096 (part - off))) else (i.part n u off).map StagedPart.data
  ((p.members dim).mapM input).map fun l =>
    if kind = .allgather then l else if kind = .barrier then [] else [treeReduce (wireType d) (kRop d) 6 l]

/-- The segments of line phase `n` that have finished, ascending: those kept, and those whose last input has come (R510). -/
def State.segsDone (s : State) (g : Group) (i : Inst) (n : Nat) : List (Nat × List (List Byte)) :=
  (segments (sendBytes g.p i.desc n)).filterMap fun off => match i.segs.find? fun x => x.1 = off with
    | some x => some x
    | none => (s.segResult g i n off).map fun r => (off, r)

/-- The new vector of a phase all of whose segments have finished: the segments in order, for ALLGATHER member by member (R509). -/
def segsVec (kind : CollKind) (members : Nat) (segs : List (Nat × List (List Byte))) : List Byte :=
  if kind = .allgather then (List.range members).flatMap fun m => segs.flatMap fun x => x.2.getD m []
  else segs.flatMap fun x => x.2.flatten

/-- An instance ends OK once all its local contributors are done. -/
def State.instOk (s : State) (gid k : Nat) : State :=
  let g := s.group gid
  match g.inst k with
  | none => s
  | some i =>
    if i.ended.isSome || !(i.parts.length ≥ g.p.localCnt && i.parts.all LocalPart.done) then s
    else
      let g1 := g.setInst { i with ended := some csOk, staged := [], mcasts := [], vec := [], segs := [] }
      s.setGroup gid ({ g1 with oldest := g1.nextOpen 64 g1.oldest } : Group).tidy

/-- A local contributor's operation completes (R532). -/
def State.partDone (s : State) (gid k lslot status : Nat) : State :=
  let g := s.group gid
  match g.inst k with
  | none => s
  | some i =>
    match i.parts.find? fun x => x.lslot = lslot && !x.done with
    | none => s
    | some x =>
      let f := fun y : LocalPart => if y.lslot = lslot then { y with done := true, data := none } else y
      ((s.setGroup gid (g.setInst { i with parts := i.parts.map f })).ownerDone x.owner status x.landed).instOk gid k

/-- The result in a contributor's memory format (R516). -/
def resultMem (d : Nat) (vec : List Byte) : List Byte :=
  if kAcc d then convVec fp32 (if kDtype d = 4 then fp16 else bf16) vec else vec

/-- Send the results of a finished instance to its local contributors, or complete them where there is nothing to land (R509, R517). -/
def State.sendResults (s : State) (gid k : Nat) : State :=
  let g := s.group gid
  match g.inst k with
  | none => s
  | some i =>
    let p := g.p
    let d := i.desc
    let kind := collKind (dOp d)
    let n := (phaseDims p d).length - 1
    let dim := (phaseDims p d).getD n 0
    let s1 := s.setGroup gid (g.setInst { i with sent := true })
    let one := fun (s : State) (x : LocalPart) =>
      let whole := resultMem d i.vec
      let mine := if kind = .reduceScatter then (whole.drop (whole.length / p.localCnt * x.lslot)).take (whole.length / p.localCnt) else whole
      if mine.isEmpty then s.partDone gid k x.lslot csOk
      else
        (segments mine.length).foldl (fun s off =>
          let pkt := s.collPacket ptCollResult p k d n dim (s.ownCoord dim) off s.ownPid x.q 6 ((mine.drop off).take 4096)
          (s.inject (collPort gid) 6 pkt).bump C.COLL_RESULTS) s
    (i.parts.filter fun x => !x.done).foldl one s1

/-- The staged contributions that the segments just finished take from staging. -/
def Inst.freshParts (i : Inst) (n : Nat) (segs : List (Nat × List (List Byte))) : List StagedPart :=
  i.staged.filter fun x => x.phase = n && (segs.any fun y => y.1 = x.segoff) && !i.segs.any fun y => y.1 = x.segoff

/-- Run the phases of an instance as far as its inputs allow; `fuel` bounds them. Staged inputs are read from the HBM
(19_performance_counters.md Table 19.2). -/
def State.collRun : Nat → State → Nat → Nat → State
  | 0, s, _, _ => s
  | fuel + 1, s, gid, k =>
    let g := s.group gid
    match g.inst k with
    | none => s
    | some i =>
      if i.ended.isSome || i.sent then s
      else match i.phase with
        | none => s
        | some n =>
          let d := i.desc
          if n ≥ (phaseDims g.p d).length then s.sendResults gid k
          else
            let segs := s.segsDone g i n
            let s0 := (i.freshParts n segs).foldl (fun s x => s.hbmRd x.data.length) s
            if segs.length < (segments (sendBytes g.p d n)).length then s0.setGroup gid (g.setInst { i with segs := segs })
            else
              let n1 := n + 1
              let v := segsVec (collKind (dOp d)) (g.p.members ((phaseDims g.p d).getD n 0)).length segs
              let s1 := s0.setGroup gid (g.setInst { i with phase := some n1, vec := v, segs := [] })
              let s2 := if n1 < (phaseDims g.p d).length then (s1.bump C.COLL_PHASES).phaseSend g k d n1 v else s1
              collRun fuel s2 gid k

/-- A contribution differs from the local operation (R521). -/
def collDiffers (p : GroupParams) (d : Nat) (dim : Nat) (x : StagedPart) : Bool :=
  let part := sendBytes p d x.phase
  collKind (dOp d) = .lineBcast || x.phase ≥ (phaseDims p d).length || (phaseDims p d).getD x.phase 0 ≠ dim ||
    x.dtype ≠ kDtype d || x.rop ≠ kRop d || x.acc32 ≠ kAcc d || x.segoff % 4096 ≠ 0 || (x.segoff ≠ 0 && x.segoff ≥ part) ||
    x.data.length ≠ min 4096 (part - x.segoff) || x.elems ≠ segElems d x.data.length

/-- A mismatch: counted, raised, and the instance ends BOUNDS (R521, R533). -/
def State.collMismatch (s : State) (gid k : Nat) : State :=
  (((s.bump C.COLL_MISMATCH).wr R.COLL_EVENT_MISMATCH 1).raise pgColl 0 gid).instEnd gid k csBounds

/-- Put a held LINE_MCAST back in front of a receive pipeline, formed anew. -/
def State.mcastAgain (s : State) (gid : Nat) (p : List Flit) : State :=
  s.setRx (gid % 10) (s.rx (gid % 10) ++ [reborn s.gt p])

/-- The instance starts on this device: the local phase, then line phase 0 (R509, R521, R526). -/
def State.collStart (s : State) (gid k : Nat) : State :=
  let g := s.group gid
  match g.inst k with
  | none => s
  | some i =>
    let p := g.p
    let d := i.desc
    let kind := collKind (dOp d)
    let inputs := (List.range p.localCnt).filterMap fun l => (i.parts.find? fun x => x.lslot = l).bind LocalPart.data
    let conv := inputs.map fun v => if kAcc d then convVec (if kDtype d = 4 then fp16 else bf16) fp32 v else v
    let vec := match kind with
      | .allgather => conv.flatten
      | .barrier => []
      | .lineBcast => conv.headD []
      | _ => treeReduce (wireType d) (kRop d) 4 conv
    let bad := i.staged.any fun x => collDiffers p d (x.dim) x
    if bad then s.collMismatch gid k
    else
      let i1 := { i with phase := some 0, vec := vec, mcasts := [] }
      let s1 := s.setGroup gid (g.setInst i1)
      let s2 := i.mcasts.foldl (fun s m => (s.hbmRd (pktPayload m).length).mcastAgain gid m) s1
      let ls := (List.range (phaseDims p d).length).filterMap fun n => (launchAt gid k d n).map fun l => ({ id := l } : TimedLaunch)
      let s3 : State := { s2 with coll := { s2.coll with launches := s2.coll.launches ++ ls } }
      if kind = .lineBcast then
        let s4 := (s3.bump C.COLL_PHASES).phaseSend g k d 0 vec
        if s.ownCoord (kBdim d) = kBroot d || sendBytes p d 0 = 0 then s4.sendResults gid k else s4
      else
        let s4 := if (phaseDims p d).isEmpty then s3 else (s3.bump C.COLL_PHASES).phaseSend g k d 0 vec
        s4.collRun 8 gid k

/-! ### Arrivals -/

/-- Check 1 of a collective packet (R520). -/
def State.collCheck1 (s : State) (h : Flit) : Bool :=
  if hSpid h = s.ownPid then hSinc h = s.nv.inc % 2 ^ 16
  else
    let t := s.tc (tcKey 0 (hSpid h))
    t.known && hSinc h = t.peerInc % 2 ^ 16

/-- The instance that an instance field names, counted from the oldest unfinished one (R502, R521). -/
def Group.named (g : Group) (f : Nat) : Nat := g.oldest + (f + 4096 - g.oldest % 4096) % 4096

/-- The packet's instance lies within DEPTH of the oldest unfinished one, and has not ended. -/
def Group.inWindow (g : Group) (f : Nat) : Bool :=
  (f + 4096 - g.oldest % 4096) % 4096 < g.p.depth && !((g.inst (g.named f)).any fun i => i.ended.isSome)

/-- A packet beyond the window, or of an instance that has ended (R521, R533): EARLY tells of the first. -/
def State.collEarly (s : State) (g : Group) (f : Nat) : State :=
  (s.bump C.COLL_EARLY_DROP).whenB ((f + 4096 - g.oldest % 4096) % 4096 ≥ g.p.depth) (·.wr R.COLL_EVENT_EARLY 1)

/-- The tap takes a contribution (R521, R522). -/
def State.collTake (s : State) (input : Nat) (p : List Flit) : State :=
  let h := p.headD 0
  let x := pktExt p
  let gid := xCid x / 4096
  let f := xCid x % 4096
  let g := s.group gid
  if !s.collCheck1 h then s.bump C.COLL_STALE_DROP
  else if s.geysState = gsInvalid then s.bump C.TPT_INVALID_DROP
  else if s.tooOld h then s.bump C.TPT_LIFE_DROP
  else if !g.valid || g.p.job ≠ hJob h || !g.p.includes (xDim x) || !(g.p.mask (xDim x)).testBit (xMember x) ||
      xMember x = s.ownCoord (xDim x) then s.bump C.COLL_NO_GROUP
  else if g.stale || !g.inWindow f then s.collEarly g f
  else
    let k := g.named f
    let i := (g.inst k).getD { k := k }
    let c : StagedPart := {
      phase := xPhase x, member := xMember x, segoff := xSegoff x, dtype := xDtype x, rop := xRop x, acc32 := xAcc32 x
      elems := xElems x, dim := xDim x, data := pktPayload p }
    if (i.part c.phase c.member c.segoff).isSome then s.bump C.COLL_DUP_DROP
    else
      let s1 := (s.bump C.COLL_CONTRIB_RX).bump C.COLL_STAGE_BYTES 0 c.data.length
      let w : StagingWrite := { input := input, bytes := c.data.length, slot := s.stagingSlot g k }
      let s2 : State := { s1 with coll := { s1.coll with writes := s1.coll.writes ++ [w] } }
      let s3 := s2.setGroup gid (g.setInst { i with staged := i.staged ++ [c] })
      if i.phase.isSome then
        if collDiffers g.p i.desc c.dim c then s3.collMismatch gid k else s3.collRun 8 gid k
      else s3

/-- The landing of collective data in one contributor's memory: done with a status, or waiting for a walk (R523). -/
inductive LandRes
  | done (s : State)
  | wait (s : State)

/-- Land `bs` at DADDR + SEGOFF of a contributor (R523). -/
def State.collLandOne (s : State) (e gid k off : Nat) (bs : List Byte) (x : LocalPart) : LandRes :=
  let ctx := (s.qp x.q).p.ctx
  let bad := fun (s : State) (kind va : Nat) =>
    LandRes.done (((s.setPipe e {}).remoteFault ctx va kind .write).partDone gid k x.lslot csXltLocal)
  match (s.pipe e).fault with
  | some (kind, va) => bad s kind va
  | none =>
    match s.translateSpan (pagesFor bs.length) ctx (kDaddr x.desc + off) bs.length .write none (.pipe e) with
    | (.wait, s1) => .wait s1
    | (.fault kind va, s1) => bad s1 kind va
    | (.ok segs, s1) =>
      let s2 := s1.writeSegs ctx segs bs
      let g := s2.group gid
      match g.inst k with
      | none => .done s2
      | some i =>
        let f := fun y : LocalPart => if y.lslot = x.lslot then { y with landedAt := off :: y.landedAt, landed := y.landed + bs.length } else y
        let s3 := s2.setGroup gid (g.setInst { i with parts := i.parts.map f })
        let full := x.landed + bs.length ≥ resElems g.p x.desc * memElem x.desc
        .done (if full then s3.partDone gid k x.lslot csOk else s3)

/-- Land for each contributor of a list that has not had the segment; stops at the first that waits. -/
def State.collLandAll (s : State) (e gid k off : Nat) (bs : List Byte) : List LocalPart → LandRes
  | [] => .done s
  | x :: t =>
    if x.done || x.landedAt.contains off then s.collLandAll e gid k off bs t
    else match s.collLandOne e gid k off bs x with
      | .done s1 => s1.collLandAll e gid k off bs t
      | .wait s1 => .wait s1

/-- A COLL_RESULT or LINE_MCAST at the front of receive pipeline `e` (R520, R523). -/
def State.rxColl (s : State) (e : Nat) (p : List Flit) : State :=
  let h := p.headD 0
  let x := pktExt p
  let gid := xCid x / 4096
  let g := s.group gid
  let mcast := hPtype h = ptLineMcast
  if !s.collCheck1 h then (s.rxDrop e).bump C.COLL_STALE_DROP
  else if s.geysState = gsInvalid then (s.rxDrop e).bump C.TPT_INVALID_DROP
  else if s.tooOld h then (s.rxDrop e).bump C.TPT_LIFE_DROP
  else if !g.valid || g.p.job ≠ hJob h then (s.rxDrop e).bump C.COLL_NO_GROUP
  else
    let f := xCid x % 4096
    let k := g.named f
    if g.stale || !g.inWindow f then (s.rxDrop e).collEarly g f
    else
      let i := (g.inst k).getD { k := k }
      if mcast && i.phase.isNone then ((s.rxDrop e).hbmWr (pktPayload p).length).setGroup gid (g.setInst { i with mcasts := i.mcasts ++ [p] })
      else if mcast && collKind (dOp i.desc) ≠ .lineBcast then (s.rxDrop e).collMismatch gid k
      else
        let to_ := if mcast then i.parts else i.parts.filter fun y => y.q = hDqidx h
        if to_.isEmpty then (s.rxDrop e).bump C.COLL_NO_GROUP
        else match s.collLandAll e gid k (xSegoff x) (pktPayload p) to_ with
          | .wait s1 => s1
          | .done s1 => (s1.rxDrop e).whenB mcast (·.bump C.COLL_MCAST_RX)

end Sys2Proof.Machine
end

