-- ==== Sys2Proof/Machine/Collect.lean ====
section
/-! DEFINITION. The rows of collectives (14_collectives.md R507 to R533) and the front of the receive pipelines (01_architecture.md R31). -/

namespace Sys2Proof.Machine

/-! ### Descriptors (R507, R508) -/

/-- The status of a collective descriptor whose fields R508 calls BAD_PARAM: the manual gives completion entries no such code, so which
code other than OK stands there is left open (log 42). -/
def State.badParamStatus (s : State) : Nat × State :=
  let (v, s1) := s.draw 8
  (max 1 (v % 255), s1)

/-- Bytes a contributor reads at SADDR when its operation starts. -/
def State.collSrc (s : State) (p : GroupParams) (d lslot : Nat) : Nat :=
  if collKind (dOp d) = .lineBcast && !(lslot = 0 && s.ownCoord (kBdim d) = kBroot d) then 0 else srcElems p d * memElem d

/-- A contributor joins its instance with its data, or without where its read has failed (R502, R509, R533). -/
def State.collJoin (s : State) (q : Nat) (o : Owner) (d lslot k : Nat) (data : Option (List Byte)) : State :=
  let gid := kGid d
  let g := s.group gid
  let s0 := s.begin_ o
  let i := (g.inst k).getD { k := k }
  match i.ended with
  | some st =>
    let part : LocalPart := { lslot := lslot, owner := o, q := q, desc := d, done := true }
    let g1 := { g.setInst { i with parts := i.parts ++ [part] } with started := tput 0 g.started lslot (k + 1) }
    (s0.setGroup gid (g1 : Group).tidy).ownerDone o st 0
  | none =>
    let part : LocalPart := { lslot := lslot, owner := o, q := q, desc := d, data := data }
    let i1 := { i with parts := i.parts ++ [part] }
    let g1 := { g.setInst i1 with started := tput 0 g.started lslot (k + 1) }
    let s1 := (s0.setGroup gid g1).whenB i.parts.isEmpty (·.bump C.COLL_INSTANCES)
    if i1.ready g.p then s1.collStart gid k else s1

/-- The tests of R508, and the local contribution. -/
def State.startColl (s : State) (q : Nat) (o : Owner) (d : Nat) (data : HostRead) : State :=
  let g := s.group (kGid d)
  match (if g.valid then g.p.slotOf q else none) with
  | none => s.beginEnd o csPermission
  | some lslot =>
    let k := tget 0 g.started lslot
    let others := ((g.inst k).map Inst.parts).getD []
    if g.stale then s.beginEnd o csIndeterminate
    else if collFieldsBad g.p d then
      let (st, s1) := s.badParamStatus
      s1.beginEnd o st
    else if collTooBig g.p d || others.any (fun x => !collSame x.desc d) then s.beginEnd o csBounds
    else
      let n := s.collSrc g.p d lslot
      let res := resElems g.p d * memElem d
      s.startSpan o q (kDaddr d) res .write fun s _ =>
        s.startSpan o q (kSaddr d) n .read fun s segs =>
          if n = 0 then s.collJoin q o d lslot k (some [])
          else
            let s1 := s.readSegs (s.qp q).p.ctx segs
            match data with
            | some bs => if bs.length = n then s1.collJoin q o d lslot k (some bs) else s
            | none => ((s1.dmaError (s.qp q).func).collJoin q o d lslot k none).instEnd (kGid d) k csXltLocal

/-- ALLREDUCE (R507, R509). -/
def execAllreduce (q : QIdx) (fired : Bool) (data : HostRead) (s : State) : Host.Outcome State Fault Refusal :=
  engine s fun s => match s.startOf q.val fired 0x30 with
    | some (o, d) => s.startColl q.val o d data
    | none => s

/-- REDUCE_SCATTER (R507, R509). -/
def execReduceScatter (q : QIdx) (fired : Bool) (data : HostRead) (s : State) : Host.Outcome State Fault Refusal :=
  engine s fun s => match s.startOf q.val fired 0x31 with
    | some (o, d) => s.startColl q.val o d data
    | none => s

/-- ALLGATHER (R507, R509). -/
def execAllgather (q : QIdx) (fired : Bool) (data : HostRead) (s : State) : Host.Outcome State Fault Refusal :=
  engine s fun s => match s.startOf q.val fired 0x32 with
    | some (o, d) => s.startColl q.val o d data
    | none => s

/-- BARRIER (R507, R509). -/
def execBarrier (q : QIdx) (fired : Bool) (s : State) : Host.Outcome State Fault Refusal :=
  engine s fun s => match s.startOf q.val fired 0x33 with
    | some (o, d) => s.startColl q.val o d none
    | none => s

/-- LINE_BCAST (R507, R509). -/
def execLineBcast (q : QIdx) (fired : Bool) (data : HostRead) (s : State) : Host.Outcome State Fault Refusal :=
  engine s fun s => match s.startOf q.val fired 0x34 with
    | some (o, d) => s.startColl q.val o d data
    | none => s

/-! ### Arrivals and timers -/

/-- The tap pulls the packet at position `j` of an input VC. -/
def State.tapPull (s : State) (input v j : Nat) (k : BufPkt) : State :=
  let x := s.inVc input v
  let s1 := (s.setInVc input v { x with pkts := x.pkts.eraseIdx j }).xoffUpdate input
  if pktCrcOk k.seen then (s1.collTake input k.seen).xoffUpdate input else s1.bump C.TPT_CRC_E2E

/-- A whole packet of a buffer that is routed to the tap: its position. -/
def InVc.tapped (x : InVc) : Option (Nat × BufPkt) :=
  match x.pkts.findIdx? fun k => k.need = 0 && !k.dropping && k.route.any fun r => r.target = .tap with
  | some j => (x.pkts[j]?).map fun k => (j, k)
  | none => none

/-- COLL_CONTRIB_TAP (R521, R519; 01_architecture.md R26): a contribution routed to the tap leaves its input buffer, VC7 first. -/
def execCollContribTap (input : Port) (s : State) : Host.Outcome State Fault Refusal :=
  engine s fun s =>
    match (s.inVc input.val 7).tapped with
    | some (j, k) => s.tapPull input.val 7 j k
    | none => match (s.inVc input.val 6).tapped with
      | some (j, k) => s.tapPull input.val 6 j k
      | none => s

/-- COLL_STAGING_WRITE_DONE (R522): the oldest staging write completes, and the tap releases its input. -/
def execCollStagingWriteDone (s : State) : Host.Outcome State Fault Refusal :=
  engine s fun s =>
    match s.coll.writes with
    | [] => s
    | w :: rest => (({ s with coll := { s.coll with writes := rest } } : State).hbmWr w.bytes).xoffUpdate w.input

/-- Outputs of a TIMED launch: the DOR links to its line peers; only the root of a LINE_BCAST sends (R509, R518, R527). -/
def State.launchOuts (s : State) (l : LaunchId) : List Nat :=
  let g := s.group l.gid
  match g.inst l.k with
  | some i =>
    let d := i.desc
    let dim := (phaseDims g.p d).getD l.phase 0
    if collKind (dOp d) = .lineBcast && (s.ownCoord dim ≠ kBroot d || sendBytes g.p d l.phase = 0) then []
    else ((s.linePeers g.p dim).filterMap fun u => s.dorLink u.2).eraseDups
  | none => []

/-- TIMED_GUARD_START (R527): 3,200 ticks before a launch. -/
def execTimedGuardStart (s : State) : Host.Outcome State Fault Refusal :=
  engine s fun s =>
    match s.coll.launches.find? fun l => !l.guarded && s.gt + 3200 ≥ l.id.gt && s.geysState ≠ gsInvalid with
    | none => s
    | some l =>
      let f := fun x : TimedLaunch => if x = l then { x with guarded := true } else x
      let gd : Guard := { launch := l.id, outs := s.launchOuts l.id }
      { s with coll := { s.coll with launches := s.coll.launches.map f }, rout := { s.rout with guards := s.rout.guards ++ [gd] } }

/-- A launch is made, or refused by Table 6.4 with its copies staged: they leave. Copies not staged by its GT, a launch that is refused or made late,
mark the phase LATE (R526, R528). -/
def State.timedLaunch (s : State) (l : TimedLaunch) (late : Bool) : State :=
  let s1 : State := { s with coll := { s.coll with launches := s.coll.launches.erase l } }
  let s2 := l.copies.foldl (fun s c => s.injectCopies (collPort l.id.gid) c.1 c.2 (some l.id)) s1
  let staged := !l.copies.isEmpty || match (s.group l.id.gid).inst l.id.k with
    | some i => i.phase.any fun n => n ≥ l.id.phase
    | none => false
  (if !staged || !s.launchOk || late then s2.phaseLate else s2).guardSweep

/-- The launch is due: its GT is reached, which INVALID has none of, or Table 6.4 refuses it while copies wait (R526, R528; 06_timebase.md R226). -/
def State.launchDue (s : State) (l : TimedLaunch) : Bool :=
  (s.gt ≥ l.id.gt && s.geysState ≠ gsInvalid) || (!s.launchOk && !l.copies.isEmpty)

/-- TIMED_PHASE_LAUNCH (R526, R528). -/
def execTimedPhaseLaunch (s : State) : Host.Outcome State Fault Refusal :=
  engine s fun s =>
    match s.coll.launches.find? s.launchDue with
    | none => s
    | some l => s.timedLaunch l (s.lateFor l.id.gt)

/-- COLL_PHASE_TIMEOUT (R533): a phase of instance `k`, the local one among them, has waited TC_GIVEUP since it started locally. -/
def execCollPhaseTimeout (g : Fin 4096) (k : Nat) (s : State) : Host.Outcome State Fault Refusal :=
  engine s fun s =>
    match (s.group g.val).inst k with
    | some i =>
      if !i.parts.isEmpty && i.ended.isNone && !i.sent then
        (((s.bump C.COLL_TIMEOUTS).wr R.COLL_EVENT_TIMEOUT 1).raise pgColl 1 g.val).instEnd g.val k csPeerUnreachable
      else s
    | none => s

/-! ### The receive pipelines -/

/-- The packet at the front of receive pipeline `e`: its CRC and its form first (03_packets.md R111, R115), then R31. A MGMT_REQ, MGMT_RESP or
COLL_CONTRIB, which Table 1.2 ejects elsewhere and which only a slot entry can bring here, has no meaning here: it is dropped into
MALFORMED_RX (DESIGN CHOICE, log 156). -/
def State.rxFront (s : State) (e : Nat) : State :=
  match s.rx e with
  | [] => s
  | p :: _ =>
    let h := p.headD 0
    let pt := hPtype h
    if !pktCrcOk p then (s.rxDrop e).bump C.TPT_CRC_E2E
    else if malformed h then (s.rxDrop e).bump C.TPT_MALFORMED_RX
    else if pt = ptCollResult || pt = ptLineMcast then s.rxColl e p
    else if pt = ptCollContrib || pt = ptMgmtReq || pt = ptMgmtResp then (s.rxDrop e).bump C.TPT_MALFORMED_RX
    else s.rxPacket e p

/-- A packet at the front of pipeline `e` waits: for the landing a window admits, or for a walk of its own landing (14_collectives.md R523). -/
def State.rxWaits (s : State) (e : Nat) : Bool :=
  (s.pipe e).win.isSome || s.walkWaiter (.pipe e)

/-- The position of the first response-class packet behind a packet that waits in the pipeline. -/
def State.rxPasses (s : State) (e : Nat) : Option Nat :=
  if !s.rxWaits e then none else (s.rx e).findIdx? fun p => pktClass (p.headD 0) = .response

/-- The acknowledgements due once a packet has been served: the pipeline may hold no further packet from its sender (11_transport_and_windows.md
R412). -/
def State.rxAcks (s : State) (e : Nat) (p : List Flit) : State :=
  match p with
  | [] => s
  | h :: _ => (s.ackIdle (tcKey 0 (hSpid h)) e).ackIdle (tcKey 1 (hSpid h)) e

/-- RX_PIPELINE_PACKET (R31): the packet at the front of receive pipeline `e`. A response-class packet does not wait behind one that waits for a
translation (03_packets.md R117): it is taken first, and the other keeps its place. -/
def execRxPipelinePacket (e : Fin 10) (s : State) : Host.Outcome State Fault Refusal :=
  engine s fun s =>
    let q := s.rx e.val
    match s.rxPasses e.val with
    | none => (s.rxFront e.val).rxAcks e.val (q.headD [])
    | some j =>
      let p := (q[j]?).getD []
      let s1 := ((s.setRx e.val (p :: q.eraseIdx j)).setPipe e.val {}).rxFront e.val
      (s1.setPipe e.val (s.pipe e.val)).rxAcks e.val p

end Sys2Proof.Machine
end

