-- ==== Sys2Proof/Machine/Reader.lean ====
section
/-! DEFINITION. The counter reader and its snapshots (19_performance_counters.md R666 to R677). -/

namespace Sys2Proof.Machine

/-- A configuration is armed, or with WINDOW_US 0 the reader stops at once (R669). -/
def State.armReader (s : State) (us start : Nat) : State :=
  let s1 := (s.wr R.CNT_WINDOW_WINDOW_US us).wr R.CNT_START_START_GT start
  if us = 0 then
    ({ s1 with cnt := { s1.cnt with next := none, extended := false, slept := false } } : State).wr R.CNT_CTRL_RUN 0
  else
    let idle := !s1.readerSet
    { s1 with cnt := { s1.cnt with
      next := some (us, start)
      nextLate := decide (s1.gt > start)
      extended := s1.cnt.extended && !idle
      slept := s1.cnt.slept && !idle } }

/-! ### Slots (R670 to R674) -/

/-- The counter pages of a slot, in ascending address (Table 19.3). -/
def snapPages : List Nat :=
  (List.range 8).map (fun b => 0x100000 * b + 0xE0000) ++ (List.range 192).map (fun n => 0x1002000 + 0x4000 * n) ++
    (List.range 96).map (fun n => 0x2002000 + 0x10000 * n) ++ (List.range 11).map fun b => 0x1000000 * (b + 3) + 0xE0000

/-- A counter word in a slot: the value, and WRAP. -/
def State.snapWord (s : State) (a : Nat) : Nat :=
  if isCounter a then s.rd (cntField a) + bNat (s.cnt.wraps.contains (64 * a)) * 2 ^ 48 else 0

/-- The count of a port: `i` is 2 p for TX, 2 p + 1 for RX. -/
def portWord (i : Nat) : Nat := 0x410000 + 8 * i

/-- A derived bandwidth (R674): `open_` is what a slot shows whose latch GT is not above that of the slot before (log 69). -/
def State.snapBw (s : State) (first : Bool) (open_ i : Nat) : Nat :=
  let now := s.rd (cntField (portWord i))
  let prev := tget 0 s.cnt.flits i
  let wrap := s.cnt.wraps.contains (64 * portWord i)
  if first then 0
  else if wrap && now ≥ prev then 0xFFFF
  else if s.gt ≤ s.cnt.prevLatch then open_
  else min 0xFFFE ((now + 2 ^ 48 - prev) % 2 ^ 48 * 2560 * 16 / (s.gt - s.cnt.prevLatch))

/-- The bytes of a slot after its header. -/
def State.snapData (s : State) (first : Bool) (open_ : Nat) : List Byte :=
  let bw := (List.range 96).flatMap fun p => toBytes 8 (s.snapBw first open_ (2 * p) + s.snapBw first open_ (2 * p + 1) * 2 ^ 16)
  let pages := snapPages.flatMap fun b => (List.range 32).flatMap fun i => toBytes 8 (s.snapWord (b + 8 * i))
  let ports := (List.range 192).flatMap fun i => toBytes 8 (s.snapWord (portWord i))
  bw ++ pages ++ List.replicate (0x14000 - 0x400 - 256 * 307) 0#8 ++ ports ++ List.replicate (0x20000 - 0x14600) 0#8

/-- HBM offset of the slot of a SEQ (R670). -/
def State.snapSlot (s : State) (seq : Nat) : Nat := s.rd R.CNT_RING_BASE + seq % 512 * 0x20000

/-- The flags of a header from bit 352 on (Table 19.4). -/
def snapFlags (missed : Bool) (gstate : Nat) (late extended peat first : Bool) : Nat :=
  1 + bNat missed * 2 + gstate * 4 + bNat (gstate = 1 || gstate = 2) * 16 + bNat late * 32 + bNat extended * 64 + bNat peat * 128 + bNat first * 256

/-- A boundary is missed (R673): the next slot gets a header without data; what the manual does not give of it is a free value. -/
def State.snapMissed (s : State) (k target : Nat) (late first : Bool) : State :=
  let (open_, s0) := s.draw 160
  let header := s0.cnt.seq % 2 ^ 64 + k % 2 ^ 64 * 2 ^ 64 + target % 2 ^ 64 * 2 ^ 128 + open_ * 2 ^ 192 +
    snapFlags true s0.geysState late s0.cnt.extended s0.cnt.slept first * 2 ^ 352
  let s1 := s0.hbmStore (s0.snapSlot s0.cnt.seq) (toBytes 256 header)
  let s2 := s1.wr R.CNT_SEQ_SEQ s1.cnt.seq
  (({ s2 with cnt := { s2.cnt with seq := s2.cnt.seq + 1 } } : State).bump C.CNT_SNAP_MISS).raise pgCnt 0

/-- The counter pages latch, and the slot is written but for its header (R667, R671, R672). -/
def State.snapLatch (s : State) (k target : Nat) (late first : Bool) : State :=
  let (open_, s0) := s.draw 16
  let c := s0.cnt
  let g := s0.geysState
  let header := c.seq % 2 ^ 64 + k % 2 ^ 64 * 2 ^ 64 + target % 2 ^ 64 * 2 ^ 128 + s0.gt % 2 ^ 64 * 2 ^ 192 +
    (if first then 0 else c.prevLatch) % 2 ^ 64 * 2 ^ 256 + s0.rd R.GEYS_UNC_UNC * 2 ^ 320 + snapFlags false g late c.extended c.slept first * 2 ^ 352
  let a := s0.snapSlot c.seq
  let s1 := (s0.hbmStore (a + 44) [s0.hbmByte (a + 44) &&& 0xFE]).hbmStore (a + 0x100) (s0.snapData first open_)
  let flits := (List.range 192).foldl (fun t i => tput 0 t i (s0.rd (cntField (portWord i)))) []
  let s2 : State := { s1 with cnt := { c with
    seq := c.seq + 1, writing := some { slot := c.seq, header := header }, prevLatch := s0.gt, extended := false, slept := false, wraps := [], flits := flits
    bad := c.bad.filter fun i => i ≠ c.seq % 512 } }
  (((s2.bump C.CNT_SNAPSHOTS).whenB (g = gsHoldover || g = gsEstimated) (·.bump C.CNT_MARKED)).whenB late (·.bump C.CNT_LATE)).whenB c.extended
    (·.bump C.CNT_EXTENDED)

/-- A boundary that fires. -/
def State.snap (s : State) (k target : Nat) (late first : Bool) : State :=
  let s1 : State := if s.cnt.slept then { s with cnt := { s.cnt with extended := true } } else s
  if s1.cnt.writing.isSome then s1.snapMissed k target late first else s1.snapLatch k target late first

/-! ### Rows -/

/-- The latest boundary that GT has reached (R666 to R668); `stepped`: a step of GT has passed it; `passed`: its target
has passed otherwise. None fires in INVALID; after INVALID and after
PEAT the first one that comes fires, and those passed meanwhile do not. -/
def State.boundary (s : State) (stepped : Bool) (passed : Nat → Bool) : State :=
  let c := s.cnt
  let due := s.on R.CNT_CTRL_RUN && c.window ≠ 0 && c.start + c.k * c.window ≤ s.gt
  let k := (s.gt - c.start) / (if c.window = 0 then 1 else c.window)
  let target := c.start + k * c.window
  let replaced := match c.next with
    | some (_, g) => decide (g ≤ target)
    | none => false
  if !due || replaced || s.powerState = psExit then s
  else
    let s1 : State := { s with cnt := { c with k := k + 1 } }
    if s.geysState = gsInvalid || ((c.extended || c.slept) && !stepped && passed target) then s1
    else s1.snap k target (stepped || passed target) false

/-- COUNTER_BOUNDARY (R666 to R668). -/
def execCounterBoundary (s : State) : Host.Outcome State Fault Refusal := live s fun s => s.boundary false s.lateFor

/-- An armed configuration comes into force at its START_GT, with the FIRST snapshot (R669). One armed with a START_GT that had passed is LATE
(06_timebase.md R225), and one that a step has passed too. In INVALID it does not fire (log 68). -/
def State.configDue (s : State) (passed : Nat → Bool) : State :=
  match s.cnt.next with
  | none => s
  | some (us, g) =>
    if s.gt < g || s.geysState = gsInvalid || s.powerState = psExit then s
    else
      let s1 := ({ s with cnt := { s.cnt with window := us * 16000, start := g, k := 1, next := none } } : State).wr R.CNT_CTRL_RUN 1
      s1.snap 0 g (s.cnt.nextLate || passed g) true

/-- READER_CONFIG_START (R669). -/
def execReaderConfigStart (s : State) : Host.Outcome State Fault Refusal := live s fun s => s.configDue s.lateFor

/-- SNAPSHOT_WRITE_COMPLETE (R672): the header is written last. -/
def execSnapshotWriteComplete (s : State) : Host.Outcome State Fault Refusal :=
  live s fun s =>
    match s.cnt.writing with
    | none => s
    | some w =>
      let s1 := (s.hbmStore (s.snapSlot w.slot) (toBytes 256 w.header)).wr R.CNT_SEQ_SEQ w.slot
      { s1 with cnt := { s1.cnt with writing := none } }

/-- CNT_START_WRITE (R669, R677): no lead check. -/
def execCntStartWrite (gt : Word) (s : State) : Host.Outcome State Fault Refusal :=
  live s fun s => s.armReader (s.rd R.CNT_WINDOW_WINDOW_US) gt.toNat

end Sys2Proof.Machine
end

