-- ==== Sys2Proof/Machine/Transmit.lean ====
section
/-! DEFINITION. The transmitter of a link (05_link_layer.md R159 to R164, R169, R170, R188 to R191): each unit announces the next
in its NEXT field. -/

namespace Sys2Proof.Machine

/-- NEXT of Table 5.1 for a planned unit. -/
def NextUnit.code : NextUnit → Nat
  | .lcw => 8
  | .fillLcw => 9
  | .frame _ n => n - 1
  | .replay f => f.flits.length - 1

/-! ### The byte stream on the lanes (04_lanes.md R127 to R132) -/

/-- A codeword pair leaves on both lanes. -/
def State.sendPair (s : State) (p : Nat) (data : List Byte) : State :=
  let n := (s.port p).txPair
  (s.sendLevels (2 * p) (pairLevels false n data)).sendLevels (2 * p + 1) (pairLevels true n data)

/-- Bytes join the byte stream of a port; those that fill a codeword pair leave with it, which is a codeword-pair boundary. -/
def State.sendBytes (s : State) (p : Nat) (bs : List Byte) : State :=
  let q := s.port p
  let t := q.txPend ++ bs
  if t.length < 680 then s.setPort p { q with txPend := t }
  else
    let s1 := s.sendPair p (t.take 680)
    (s1.setPort p { q with txPend := t.drop 680, txPair := q.txPair + 1 }).pairEnd p

/-- Filler to the next codeword-pair boundary; of length 0 on one (R160). -/
def State.sendFill (s : State) (p : Nat) : State :=
  let n := (680 - (s.port p).txPend.length) % 680
  (s.emit (.filler p n)).sendBytes p (List.replicate n 0)

/-- An LCW leaves. -/
def State.putLcw (s : State) (p w : Nat) : State := (s.emit (.lcw p w)).sendBytes p (toBytes 8 w)

/-- A frame leaves. -/
def State.putFrame (s : State) (p : Nat) (flits : List Flit) (trailer : Nat) : State :=
  (s.emit (.frame p flits trailer)).sendBytes p (flitsBytes flits ++ toBytes 8 trailer)

/-- Ticks that `n` bytes of the stream take: 25 bytes in 8 ticks (R181: 50.2 bytes per ns; 08_scheduled_traffic.md R300). -/
def unitTicks (n : Nat) : Nat := (8 * n + 24) / 25

/-! ### The order of R188 -/

/-- A new frame may be started (R170, R174, R182). -/
def State.mayStartFrame (s : State) (p : Nat) : Bool :=
  s.outstanding p < 256 - s.rd R.LINK_SLOTS_RETIRED p && s.on R.LINK_SLOTS_FREE_SLOTS p && (s.link p).replayAt.isNone &&
    !(s.link p).outOfRange

/-- The frame of the packet that holds the output: channel and flits (R164, R184). -/
def State.holderFrame (s : State) (p : Nat) : Option (Holder × Nat) :=
  match s.heldPkt p with
  | some (h, k) =>
    if s.mayStartFrame p && !s.xoffAt p h.outVc && k.here > 0 then some (h, min 8 k.here) else none
  | none => none

/-- The frame that the replay resends next (R174): none while its VC is off (R184) or the port is out of range (R182). -/
def State.replayFrame (s : State) (p : Nat) : Option FrameRec :=
  let l := s.link p
  match l.replayAt with
  | none => none
  | some i => (l.buffer[i]?).filter fun f => !l.outOfRange && !(f.chan < 8 && s.xoffAt p f.chan)

/-- `n` bytes that follow the `cur` bytes of the unit sent now end before the next VC7 slot start of a scheduled output (R188). -/
def State.endsInTime (s : State) (p cur n : Nat) : Bool :=
  !s.scheduled p || (s.vc7Next p).all fun x => decide ((s.gt : Int) + unitTicks (cur + n) ≤ x.1)

/-- The packet that a START entry takes waits at its SRC: the flits of it that can be sent. -/
def State.vc7Flits (s : State) (e : Nat) : Nat :=
  if eSrc e < 96 then
    match s.vc7Head (eSrc e) with
    | some (_, k) => if entryMatches e k.head then k.here else 0
    | none => 0
  else
    match s.staged (eSrc e - 96) with
    | p :: _ => if s.launchOk && entryMatches e (p.headD 0) then p.length else 0
    | [] => 0

/-- A VC7 packet is due when the unit of `cur` bytes that is sent now has ended: the flits of its first frame (R189). Nothing else holds the output
then, and nothing keeps the packet from it. -/
def State.vc7Due (s : State) (p cur : Nat) : Option Nat :=
  let free := (s.holder p).isNone || (s.heldPkt p).any fun x => x.2.need = 0 && x.2.sent = x.2.seen.length
  if s.scheduled p && s.geysState ≠ gsInvalid && free && s.mayStartFrame p && !(s.link p).replaying && !s.xoffAt p 7 then
    (s.vc7Next p).bind fun x =>
      if (s.gt : Int) + unitTicks cur ≥ x.1 && s.vc7Flits x.2 > 0 then some (min 8 (s.vc7Flits x.2)) else none
  else none

/-- The packet that holds the output lies between two of its frames (R190), or on a scheduled output between its grant and its first frame
(08_scheduled_traffic.md R302). -/
def State.inGap (s : State) (p : Nat) : Bool :=
  (s.heldPkt p).any fun x => (x.2.sent > 0 || s.scheduled p) && !(x.2.need = 0 && x.2.sent = x.2.seen.length)

/-- The unit that follows one of `cur` bytes, by the order of R188, with the limits of R190: on LCWs while the packet's next frame could start
(DEDUCED, log 167: an output that waits still sends one LCW in each codeword pair). -/
def State.planUnit (s : State) (p cur : Nat) (afterFrame : Bool) : NextUnit :=
  let l := s.link p
  let held := s.heldPkt p
  let open_ := s.holderFrame p
  let slotPkt := held.any fun x => x.1.slot
  let lcwRoom := open_.isNone || !s.inGap p || decide (l.gapLcw < (if slotPkt then 1 else 2))
  let bcN := min 8 l.bcOut.length
  let bcOk := bcN > 0 && s.mayStartFrame p && !slotPkt && s.endsInTime p cur (32 * bcN + 8) && !(s.inGap p && l.gapBc ≥ 1)
  let bound := match l.lcws with
    | k :: _ => k.1 = lwReplay || k.1 = lwStart
    | [] => false
  if (!l.lcws.isEmpty || decide (l.xoff.toNat ≠ s.rd R.LINK_STATUS_LOCAL_XOFF p)) && lcwRoom then
    (if bound then .fillLcw else .lcw)
  else match open_, slotPkt with
    | some (h, n), true => .frame h.outVc n
    | _, _ =>
      if bcOk then .frame 8 bcN
      else if l.lcwDue && lcwRoom then .lcw
      else match s.replayFrame p, open_ with
        | some f, _ => .replay f
        | none, some (h, n) => .frame h.outVc n
        | none, none => if afterFrame then .lcw else .fillLcw

/-- The most flits, up to `n`, of a frame that ends in time after `cur` bytes. -/
def State.flitsInTime (s : State) (p cur : Nat) : Nat → Nat
  | 0 => 0
  | n + 1 => if s.endsInTime p cur (32 * (n + 1) + 8) then n + 1 else s.flitsInTime p cur n

/-- R189 on a scheduled output: the frame of a VC7 packet that is due comes next; before it, a frame ends at a flit boundary before the slot start,
and STATUS LCWs take the place of what would not end in time (log 167). -/
def State.shapeUnit (s : State) (p cur : Nat) (u : NextUnit) : NextUnit :=
  match s.vc7Due p cur with
  | some n => .frame 7 n
  | none => match u with
    | .lcw => .lcw
    | .frame c n =>
      if c = 7 then u
      else if s.flitsInTime p cur n = 0 then .lcw else .frame c (s.flitsInTime p cur n)
    | .replay f => if s.endsInTime p cur (32 * f.flits.length + 8) then .replay f else .lcw
    | .fillLcw => if s.endsInTime p cur (688 - ((s.port p).txPend.length + cur) % 680) then .fillLcw else .lcw

/-- The trailer of a frame (Table 5.2). -/
def frameTrailer (flits : List Flit) (lseq chan next : Nat) : Nat :=
  let hi := (lseq % 4096) * 2 ^ 32 + chan * 2 ^ 44 + (flits.length - 1) * 2 ^ 48 + next * 2 ^ 51
  hi + frameCrc flits hi

/-- An LCW (Table 5.3). -/
def lcwWord (next kind ackseq xoff arg : Nat) : Nat :=
  let lo := next + kind * 2 ^ 4 + (ackseq % 4096) * 2 ^ 8 + (xoff % 256) * 2 ^ 20 + (arg % 2 ^ 16) * 2 ^ 29
  lo + lcwCrc lo * 2 ^ 48

/-- Announce the unit that follows one of `cur` bytes, and give its NEXT code; a frame of the replay is counted as sent. -/
def State.announce (s : State) (p cur : Nat) (afterFrame : Bool) : Nat × State :=
  let l := s.link p
  let u := s.shapeUnit p cur (s.planUnit p cur afterFrame)
  let at_ := match u with
    | .replay _ => (l.replayAt.map fun i => i + 1).filter fun i => i < l.buffer.length
    | _ => l.replayAt
  (u.code, s.setLink p { l with announced := u, replayAt := at_ })

/-- Send an LCW of a kind; its ACKSEQ and XOFF are the receiver's at this instant (R167, R172, R184). An LP_REQ is now out, and an LP_ACK for
LP-DORMANT leads there (R197). The replay follows a REPLAY word (R174). -/
def State.sendLcw (s : State) (p kind arg : Nat) : State :=
  let l := s.link p
  let dorm := decide (arg % 2 = 1)
  let s1 := s.setLink p { l with
    lcwDue := false, sinceLcw := 0, gapLcw := l.gapLcw + 1
    lpReq := if kind = lwLpReq then some dorm else l.lpReq
    lpEntry := if kind = lwLpAck && dorm then some true else l.lpEntry
    replayAt := if kind = lwReplay then (if l.buffer.isEmpty then none else some 0) else l.replayAt }
  let s2 := s1.wr R.LINK_STATUS_LOCAL_XOFF l.xoff.toNat p
  let s3 := if kind = lwNak then s2.bump C.LINK_NAK_TX p else s2
  let r := s3.announce p 8 false
  r.2.putLcw p (lcwWord r.1 kind (s3.rxExpected p) l.xoff.toNat arg)

/-- The LCW that goes out now: the first of order 1 that may stand here, else STATUS. A REPLAY or START stands only at a codeword-pair boundary, a REPLAY
names the oldest frame (R174), and an LP_REQ that R196 no longer allows is dropped. -/
def State.sendNextLcw (s : State) (p : Nat) (atBoundary : Bool) : State :=
  let l := s.link p
  let ws := l.lcws.filter fun k => k.1 ≠ lwLpReq || s.lpIdle p
  match ws.find? fun k => atBoundary || !(k.1 = lwReplay || k.1 = lwStart) with
  | some k => (s.setLink p { l with lcws := ws.erase k }).sendLcw p k.1 (if k.1 = lwReplay then s.txOldest p else k.2)
  | none => (s.setLink p { l with lcws := ws }).sendLcw p lwStatus 0

/-- Send a new frame (R164, R169, R170). -/
def State.sendFrame (s : State) (p chan : Nat) (flits : List Flit) : State :=
  let l := s.link p
  let lseq := s.txNext p
  let s1 := s.setLink p { l with buffer := l.buffer ++ [{ lseq := BitVec.ofNat 12 lseq, chan := chan, flits := flits }] }
  let s2 := (s1.wr R.LINK_SEQ_TX_NEXT ((lseq + 1) % 4096) p).wr R.LINK_SLOTS_FREE_SLOTS (s1.rd R.LINK_SLOTS_FREE_SLOTS p - 1) p
  let s3 := (s2.bump C.LINK_FRAMES_TX p).bump C.PORT_TXF p flits.length
  let r := s3.announce p (32 * flits.length + 8) true
  r.2.putFrame p flits (frameTrailer flits lseq chan r.1)

/-- Send up to `n` flits of the packet that holds the output. -/
def State.sendHeld (s : State) (p n : Nat) : State :=
  match s.heldPkt p with
  | none => s.setLink p { s.link p with announced := .fillLcw }
  | some (h, k) =>
    let m := min n k.here
    if m = 0 then s.setLink p { s.link p with announced := .fillLcw }
    else
      let fs := (k.seen.drop k.sent).take m
      let x := s.inVc h.input h.vc
      let s1 := (s.setInVc h.input h.vc { x with pkts := x.pkts.replace k { k with sent := k.sent + m } }).xoffUpdate h.input
      let s2 := s1.setLink p { s1.link p with gapBc := 0, gapLcw := 0 }
      s2.lineUpdate.sendFrame p h.outVc fs

/-- Send up to `n` BC flits. -/
def State.sendBc (s : State) (p n : Nat) : State :=
  let l := s.link p
  let fs := l.bcOut.take n
  if fs.isEmpty then s.setLink p { l with announced := .fillLcw }
  else (s.setLink p { l with bcOut := l.bcOut.drop n, gapBc := l.gapBc + 1 }).sendFrame p 8 fs

/-- Resend a frame of the replay buffer (R169, R174): its trailer's NEXT and FCRC are formed anew. -/
def State.sendReplay (s : State) (p : Nat) (f : FrameRec) : State :=
  let s1 := (s.bump C.LINK_FRAMES_TX p).bump C.LINK_FRAMES_REPLAYED p
  let r := s1.announce p (32 * f.flits.length + 8) true
  r.2.putFrame p f.flits (frameTrailer f.flits f.lseq.toNat f.chan r.1)

/-- A START until the peer's first START comes (R191): each at a codeword-pair boundary. -/
def State.sendSessionStart (s : State) (p : Nat) : State :=
  let l := s.link p
  let w := lcwWord 9 lwStart (s.rxExpected p) l.xoff.toNat (bNat l.sentFresh)
  (((s.sendFill p).setLink p { (s.sendFill p).link p with announced := .fillLcw }).wr R.LINK_STATUS_LOCAL_XOFF l.xoff.toNat p).putLcw p w

/-- The unit announced is sent; after filler a low-power state may have been entered at the boundary, and then nothing follows. The first frame of a VC7
packet waits for its SLOT_START. -/
def State.sendAnnounced (s : State) (p : Nat) : State :=
  match (s.link p).announced with
  | .lcw => s.sendNextLcw p false
  | .fillLcw =>
    let s1 := s.sendFill p
    if s1.pst p = tUp then s1.sendNextLcw p true else s1
  | .frame c n =>
    if c = 8 then s.sendBc p n
    else if c = 7 && (s.vc7Due p 8).isSome then s
    else s.sendHeld p n
  | .replay f => s.sendReplay p f

/-- LINK_UNIT_TRANSMIT (R188): the unit announced is sent, and its NEXT field announces the one after it. Until the peer's first START only STARTs are
sent (R191). Nothing is sent while a comma block is due (04_lanes.md R132). -/
def execLinkUnitTransmit (p : Port) (s : State) : Host.Outcome State Fault Refusal :=
  liveLink s fun s =>
    let p := p.val
    if s.pst p ≠ tUp || (s.port p).txPair ≥ 2048 then s
    else if (s.link p).begun then s.sendAnnounced p
    else s.sendSessionStart p

end Sys2Proof.Machine
end

