-- ==== Sys2Proof/Machine/Crossbar.lean ====
section
/-! DEFINITION. The crossbar: grants and releases of outputs (01_architecture.md R28, R29; 07_dynamic_routing.md R233, R234, R240;
08_scheduled_traffic.md R299, R300; 14_collectives.md R518, R527). -/

namespace Sys2Proof.Machine

/-- Rank of a VC in the class order of R28. -/
def vcRank (v : Nat) : Nat := if v = 7 then 0 else if v = 6 then 1 else if v ≥ 3 then 2 else 3

/-- The packets of an input VC that may be granted now: the front one, or every copy of the packet at the front. -/
def InVc.eligible (x : InVc) : List BufPkt :=
  match x.pkts with
  | [] => []
  | k :: _ => match k.copy with
    | some n => x.pkts.filter fun j => j.copy = some n && !j.granted
    | none => if k.undecided then [k] else []

/-- The guard of a TIMED launch lets a packet of `n` flits of VC0 to VC5 start on an output (14_collectives.md R527). -/
def State.guardOk (s : State) (o n v : Nat) (whole : Bool) : Bool :=
  v = 6 || s.rout.guards.all fun g =>
    !g.outs.contains o ||
      ((whole || decide ((g.launch.gt : Int) - s.gt ≥ 16 * s.rd R.SCHD_CFG_CUT_HORIZON)) && decide (s.gt + s.fitNeed n ≤ g.launch.gt))

/-- A packet waits for output `o` on the VC it chose. -/
def BufPkt.wants (k : BufPkt) (o : Nat) : Bool := k.route.any fun r => r.target = .out o

/-- A waiting packet: input, VC of its buffer, and the packet. -/
structure Waiting where
  input : Nat
  vc : Nat
  pkt : BufPkt
  deriving DecidableEq, Repr

/-- Every packet that waits for output `o`. -/
def State.waiting (s : State) (o : Nat) : List Waiting :=
  s.inbuf.flatMap fun kv =>
    ((kv.2.eligible.filter fun k => k.wants o).map fun k =>
      { input := kv.1 / 8, vc := kv.1 % 8, pkt := k })

/-- The check of R300 passes for a waiting packet. -/
def State.fits (s : State) (o : Nat) (w : Waiting) : Bool := s.fitCheck o (pktFlits w.pkt.head) (w.pkt.need = 0)

/-- The checks of R300 and R527 pass for a waiting packet. -/
def State.admits (s : State) (o : Nat) (w : Waiting) : Bool :=
  s.fits o w && s.guardOk o (pktFlits w.pkt.head) (hVc w.pkt.head) (w.pkt.need = 0)

/-- FIT_DENY counts a packet once (08_scheduled_traffic.md R319). -/
def State.markDenied (s : State) (w : Waiting) : State := s.deny w.input w.vc w.pkt

/-- Where the input that an output served last in a class is kept. -/
def rrKey (o c : Nat) : Nat := 4 * o + c

/-- Distance of an input from the one served last in its class, for round-robin (R28). -/
def State.rrDist (s : State) (o c i : Nat) : Nat := (i + 108 - (tget 107 s.rrLast (rrKey o c) + 1)) % 108

/-- The order in which R28 serves waiting packets: the class, then the input by round-robin in the class. Which VC of one input goes first
among packets of one class is open: the lowest (DESIGN CHOICE, log 155). -/
def State.grantRank (s : State) (o : Nat) (w : Waiting) : Nat :=
  let c := vcRank (hVc w.pkt.head)
  c * 1024 + s.rrDist o c w.input * 8 + w.vc

/-- The waiting packet that R28 serves first. -/
def State.nextWaiting (s : State) (o : Nat) (ws : List Waiting) : Option Waiting :=
  match ws with
  | [] => none
  | w :: t => some (t.foldl (fun b x => if s.grantRank o x < s.grantRank o b then x else b) w)

/-- The head of a granted packet: its VC is the one chosen, and CN is set under R240. -/
def State.grantHead (s : State) (o v : Nat) (h : Flit) : Flit × Bool :=
  let mark := o < 96 && hVc h ≤ 2 && pktClass h = .request && decide (s.queued o > s.rd R.ROUT_COST_MARK_THR)
  let h1 := hSetVc h v
  (if mark then hSetCn h1 true else h1, mark)

/-- Grant an output to a waiting packet (R29, R240). One allocated to a port in LP-DORMANT makes it exit (05_link_layer.md R199). -/
def State.grant (s : State) (o : Nat) (w : Waiting) : State :=
  let rv := match w.pkt.route with
    | some r => r.vc
    | none => hVc w.pkt.head
  let hm := s.grantHead o rv w.pkt.head
  let k := { w.pkt with seen := hm.1 :: w.pkt.seen.drop 1, granted := true }
  let x := s.inVc w.input w.vc
  let s1 := s.setInVc w.input w.vc { x with pkts := x.pkts.replace w.pkt k }
  let s2 := { s1.setHolder o (some { input := w.input, vc := w.vc, outVc := rv, since := s.time.cycles }) with
    rrLast := tput 107 s1.rrLast (rrKey o (vcRank (hVc w.pkt.head))) w.input }
  let s3 := if hm.2 then s2.bump C.ROUT_CN_MARKED else s2
  let from_ := hVc w.pkt.head
  let s4 := if o < 96 then s3.bump C.ROUT_PKT_FWD else s3
  let s5 := if o < 96 && rv = from_ + 1 && (from_ = 0 || from_ = 3) then s4.bump C.ROUT_DETOURS else s4
  let s6 := if o < 96 && rv ≠ from_ && (rv = 2 || rv = 5) then s5.bump C.ROUT_ESCAPES else s5
  let s7 := s6.guardSweep
  let s7 := if o < 96 then s7.setLink o { s7.link o with gapBc := 0, gapLcw := 0 } else s7
  let s7 := if o < 96 && s7.pst o = tDorm then s7.enterSend o true else s7
  s7.leftQueue w.input

/-- A packet granted to a RETIRED link is forwarded by the router, and discarded and counted by the link (R234; 05_link_layer.md R195). -/
def State.discardRetired (s : State) (o : Nat) (w : Waiting) : State :=
  let x := s.inVc w.input w.vc
  let pkts := if w.pkt.need = 0 then x.pkts.erase w.pkt
    else x.pkts.replace w.pkt { w.pkt with sent := w.pkt.seen.length, dropping := true, route := none }
  let marked := (s.grantHead o ((w.pkt.route.map Route.vc).getD (hVc w.pkt.head)) w.pkt.head).2
  let s1 := (s.setInVc w.input w.vc { x with pkts := pkts }).guardSweep.bump C.LINK_HELD_DROP o
  ((((s1.bump C.ROUT_PKT_FWD).whenB marked (·.bump C.ROUT_CN_MARKED)).xoffUpdate w.input).leftQueue w.input).lineUpdate

/-- An output may be granted at all: it is free, its link allows it (R234), and no endpoint port is granted in MOSS
(17_reset_power_supplies.md R617), and no network port after a failed incarnation (02_grid_and_addressing.md R89). -/
def State.outputFree (s : State) (o : Nat) : Bool :=
  (s.holder o).isNone && s.grantable o && !(o ≥ 96 && s.powerState = psMoss) && !(o < 96 && s.pwr.boot = .incFailed)

/-- A packet addressed to this device that waits in MOSS ends it (R617, Table 17.8). -/
def State.netRxWake (s : State) (o : Nat) : State :=
  if 96 ≤ o && s.powerState = psMoss then ((s.waiting o).head?.map fun w => s.wakeLatch wkNetRx w.input).getD s else s

/-- CROSSBAR_GRANT (R28): a free output goes to a waiting packet that the fit check admits. -/
def execCrossbarGrant (output : Fin 108) (s : State) : Host.Outcome State Fault Refusal :=
  live s fun s =>
    let o := output.val
    let s := s.netRxWake o
    if !s.outputFree o then s
    else
      let s1 := ((s.waiting o).filter fun w => !s.fits o w).foldl State.markDenied s
      match s1.nextWaiting o ((s1.waiting o).filter (s1.admits o)) with
      | none => s1
      | some w => if o < 96 && s1.linkState o = lkRetired then s1.discardRetired o w else s1.grant o w

/-- The tail of the packet that holds an output has passed: the output is free, and an ejected packet is in its receive
pipeline (R29, R31). -/
def State.tailPass (s : State) (o : Nat) (h : Holder) (k : BufPkt) : State :=
  let x := s.inVc h.input h.vc
  let s1 := ((s.setInVc h.input h.vc { x with pkts := x.pkts.erase k }).setHolder o none).xoffUpdate h.input
  let s2 := if o ≥ 96 then (s1.setRx (o - 96) (s1.rx (o - 96) ++ [k.seen])).bump C.ROUT_PKT_EJECT else s1
  s2.lineUpdate

/-- PACKET_TAIL_PASS (R29): every flit of the packet has arrived, and been sent where the output is a network port. -/
def execPacketTailPass (output : Fin 108) (s : State) : Host.Outcome State Fault Refusal :=
  live s fun s =>
    let o := output.val
    match s.heldPkt o with
    | some (h, k) => if k.need = 0 && (o ≥ 96 || k.sent = k.seen.length) then s.tailPass o h k else s
    | none => s

end Sys2Proof.Machine
end

