-- ==== Sys2Proof/Machine/Schedule.lean ====
section
/-! DEFINITION. The commands of the scheduler but for those that fetch descriptors (08_scheduled_traffic.md). -/

namespace Sys2Proof.Machine

/-! ### Starting, stopping and switching (R286 to R291) -/

/-- The image registers show the image of buffer `b` (Table 8.13). -/
def State.showImage (s : State) (b : Nat) : State :=
  ((((((s.wr R.SCHD_IMG_IMAGE_ID (s.imgId b)).wr R.SCHD_IMG_CYCLE (s.imgCycle b)).wr R.SCHD_IMG_SLOT_LEN (s.imgSlotLen b)).wr
    R.SCHD_HQ_HQ (s.hq b)).wr R.SCHD_HQ_FETCH_LEAD (s.imgFetchLead b)).wr R.SCHD_HQ_LSTEP_LEAD_IMG (s.imgLstepLead b)).wr
    R.SCHD_HASH_MACH_HASH (s.imgHash b)

/-- The state becomes ARMED for buffer `b` at `gt` (R287). -/
def State.armSchedule (s : State) (b gt : Nat) : State :=
  let s1 := ({ s.endRun with schd := { s.endRun.schd with startGt := gt, breachIter := 0, passedTo := 0, steppedTo := 0 } }).showImage b
  ((s1.wr R.SCHD_CTRL_STATE ssArmed).wr R.SCHD_CTRL_RUN_BUF b).wr R.SCHD_BREACH_CNT_COUNT 0

/-- A start while RUNNING is a switch: the other buffer, at s(k, 0) of a future iteration (R291). -/
def State.isSwitch (s : State) (b gt : Nat) : Bool :=
  s.schdState = ssRunning && b ≠ s.runBuf && decide (gt > s.gt) && decide (gt ≥ s.schd.startGt) &&
    (gt - s.schd.startGt) % s.tCyc s.runBuf = 0

/-- Plan a switch: a decision about a burst that the running image would have had from then on is void (R291). -/
def State.planSwitch (s : State) (b gt : Nat) : State :=
  let keep := s.schd.bursts.filter fun x => x.buf = s.runBuf && decide (x.start < gt)
  { s with schd := { s.schd with switch := some (b, gt), fetchedNext := [], bursts := keep } }

/-- The bursts of the new image that were decided before its switch at `gt`, numbered by its own iterations (R291, R315). -/
def State.burstsOf (s : State) (b gt : Nat) : List Burst :=
  let kw := (gt - s.schd.startGt) / s.tCyc s.runBuf
  (s.schd.bursts.filter fun x => x.buf = b).map fun x => { x with iter := x.iter - kw }

/-- SCHD_CTRL.GO (R287): requires only a valid buffer; a switch when R291 holds; otherwise no effect. Slot starts that have passed are LATE. -/
def State.schdGo (s : State) : State :=
  let b := s.rd R.SCHD_CTRL_GO_BUF
  let g := s.rd R.SCHD_START_GT_START_GT
  if !s.bufValid b then s
  else if s.schdState = ssIdle then
    let s1 := s.armSchedule b g
    { s1 with schd := { s1.schd with passedTo := s.gt } }
  else if s.isSwitch b g then s.planSwitch b g
  else s

/-- SCHD_GO_WRITE (R287, R291). -/
def execSchdGoWrite (bit : Bool) (s : State) : Host.Outcome State Fault Refusal :=
  live s fun s => if bit then s.schdGo else s

/-- SCHEDULE_RUN_START (R286): START_GT is reached. -/
def execScheduleRunStart (s : State) : Host.Outcome State Fault Refusal :=
  live s fun s =>
    if s.schdState = ssArmed && s.geysState ≠ gsInvalid && s.gt ≥ s.schd.startGt then s.wr R.SCHD_CTRL_STATE ssRunning else s

/-- The run stops: the buffer stays valid, and what is staged is demoted at the source (R289, R306). -/
def State.stopRun (s : State) : State :=
  let s1 := (s.settleBreach.wr R.SCHD_CTRL_STATE ssIdle).endRun
  (List.range 12).foldl (fun t e => (t.staged e).foldl (fun u k => u.demoteSource e k) (t.setStaged e [])) s1

/-- SCHEDULE_STOP_REACHED (R289): s(k, 0) of the iteration named. -/
def execScheduleStopReached (s : State) : Host.Outcome State Fault Refusal :=
  live s fun s =>
    if s.schdState = ssRunning && s.on R.SCHD_STOP_STOP_EN && s.geysState ≠ gsInvalid &&
        s.gt ≥ s.slotStart (s.rd R.SCHD_STOP_STOP_ITER) 0 then s.stopRun
    else s

/-- SCHEDULE_SWITCH (R291): the old image's reserved time and launches end, and the new image's begin. -/
def execScheduleSwitch (s : State) : Host.Outcome State Fault Refusal :=
  live s fun s =>
    match s.schd.switch with
    | some (b, g) =>
      if s.schdState = ssRunning && s.geysState ≠ gsInvalid && s.gt ≥ g then
        let next := s.schd.fetchedNext
        let s1 := s.armSchedule b g
        ({ s1 with schd := { s1.schd with fetched := next, bursts := s.burstsOf b g } }).wr R.SCHD_CTRL_STATE ssRunning
      else s
    | none => s

/-- SCHD_ABORT_WRITE (R311): an expert abort, REASON 2. -/
def execSchdAbortWrite (bit : Bool) (s : State) : Host.Outcome State Fault Refusal :=
  live s fun s => if bit then s.abortLocal 2 else s

/-- CLEAR: ABORTED becomes IDLE (R286). -/
def State.schdClear (s : State) : State := if s.schdState = ssAborted then s.wr R.SCHD_CTRL_STATE ssIdle else s

/-- SCHD_CLEAR_WRITE (R286). -/
def execSchdClearWrite (bit : Bool) (s : State) : Host.Outcome State Fault Refusal :=
  live s fun s => if bit then s.schdClear else s

/-- SCHED_ABORT_RECEIVE (R309, R310). -/
def execSchedAbortReceive (p : Port) (flit : Flit) (s : State) : Host.Outcome State Fault Refusal :=
  live s fun s =>
    let s0 := s.bcTake p.val flit
    if fget flit 0 8 ≠ 4 then s0
    else if fget flit 48 4 > 2 then s0.bcDrop p.val
    else if s0.schdActive && fget flit 16 32 = s0.imgId s0.runBuf then
      let hop := fget flit 8 8
      let s1 := if hop > 0 then s0.flood (fset flit 8 8 (hop - 1)) (some p.val) else s0
      s1.schdAbort (fget flit 48 4) (fget flit 52 20) false
    else s0.bump C.SCHD_ABORT_IGNORED

/-! ### Slots (R275, R295 to R298, R305 to R307) -/

/-- A prefetch miss of an entry of the running image (R295): table, iteration, slot. -/
def State.prefetchMiss (s : State) (t k i : Nat) : State :=
  let b := s.runBuf
  if !s.schdActive || (s.slotTable b t).isNone || i ≥ s.imgCycle b then s
  else
    let now := s.slotAt s.gt
    let keep := s.schd.misses.filter fun m => (m.2 : Int) ≥ now
    let s1 := { s with schd := { s.schd with misses := (t, k * s.imgCycle b + i) :: keep, missIter := k + 1 } }
    ((s1.bump C.SCHD_PREFETCH_MISS).wr R.SCHD_EVENT_PREFETCH_MISS 1).raise pgSchd 3 t

/-- SLOT_PREFETCH (R295): from 64 ticks before a slot start on, until the slot is served, the entry is in the window, or it is not; whether HBM
has delivered it is not the model's to say (log 159). -/
def execSlotPrefetch (t : Fin 106) (k i : Nat) (hit : Bool) (s : State) : Host.Outcome State Fault Refusal :=
  live s fun s =>
    let a := k * s.imgCycle s.runBuf + i
    if hit || s.geysState = gsInvalid || s.gt + 64 < s.slotStart k i || tget 0 s.schd.served t.val > a ||
        s.schd.misses.any (fun m => m.1 = t.val && m.2 = a) then s
    else s.prefetchMiss t.val k i

/-- Why an output cannot start a packet now, apart from XOFF[7] (Table 8.10). -/
def State.outputBlocked (s : State) (o : Nat) : Bool :=
  (s.holder o).isSome || (o < 96 && (s.linkState o ≠ lkUp || (s.link o).replaying))

/-- Send the VC7 packet at position `j` of an input on its slot's output (R296, R297). -/
def State.slotGrant (s : State) (o input j : Nat) (k : BufPkt) : State :=
  let x := s.inVc input 7
  let k' := { k with granted := true, route := some { target := .out o, vc := 7 } }
  let s1 := (s.setInVc input 7 { x with pkts := x.pkts.set j k' }).setHolder o
    (some { input := input, vc := 7, outVc := 7, slot := true, since := s.time.cycles })
  ((if o < 96 then (s1.setLink o { s1.link o with gapBc := 0, gapLcw := 0 }).bump C.ROUT_PKT_FWD else s1.bump C.SCHD_EJECTS).leftQueue
    input).lineUpdate

/-- A start that the output cannot make within LATE_TOL (Table 8.10): OVERRUN, and a breach when XOFF[7] is the cause. -/
def State.overrun (s : State) (o i dpid : Nat) : State :=
  let x := o < 96 && s.xoffAt o 7 && !s.outputBlocked o
  let s1 := s.bump C.SCHD_OVERRUN
  if x then s1.breach bkResidence o i dpid else s1

/-- The output cannot start a VC7 packet now (Table 8.10). -/
def State.startBlocked (s : State) (o : Nat) : Bool := s.outputBlocked o || (o < 96 && s.xoffAt o 7)

/-- LATE_TOL after the slot start `target` has passed; the cycle in which a start is served may itself lie some ticks after it (R225). -/
def State.pastTol (s : State) (target : Nat) : Bool :=
  s.gt > target + s.rd R.SCHD_CFG_LATE_TOL && (s.lateFor target || decide (target < s.schd.passedTo))

/-- A slot start is LATE: it is served cycles after it, or it had passed when it was armed, when INVALID ended, or at a step (06_timebase.md R225,
R226). -/
def State.slotLate (s : State) (target : Nat) : Bool := s.lateFor target || decide (target < s.schd.passedTo)

/-- A START entry whose SRC is a network port (R296, R297, R307), at slot start `target`. -/
def State.slotTransit (s : State) (o i e target : Nat) : State :=
  let q := eSrc e
  match s.vc7Head q with
  | none => s.missStart o e
  | some (j, k) =>
    if !entryMatches e k.head then (s.demoteTransit q j C.SCHD_DEMOTE_MISMATCH).breach bkMismatch o i (hDpid k.head)
    else if s.schd.pathFailed.contains o || s.schd.pathFailed.contains q then s.demoteTransit q j C.SCHD_DEMOTE_LATE
    else if s.startBlocked o then (s.demoteTransit q j C.SCHD_DEMOTE_LATE).overrun o i (hDpid k.head)
    else if s.pastTol target then s.demoteTransit q j C.SCHD_DEMOTE_LATE
    else
      let s1 := s.slotGrant o q j k
      if o < 96 then s1.bump C.SCHD_FORWARDS else s1

/-- A START entry whose SRC is an endpoint port: the head of its VC7 staging is launched (R296), or demoted at the source; with nothing staged the
entry is remembered (R307). -/
def State.slotLaunch (s : State) (o i e target : Nat) : State :=
  let ep := eSrc e - 96
  match s.staged ep with
  | [] => s.missStart o e
  | pkt :: rest =>
    let h := pkt.headD 0
    let s1 := s.setStaged ep rest
    let late := (s1.injectDyn ep pkt).bump C.SCHD_DEMOTE_LATE |>.wr R.SCHD_EVENT_DEMOTED 1
    if !entryMatches e h then
      ((s1.injectDyn ep pkt).bump C.SCHD_DEMOTE_MISMATCH |>.wr R.SCHD_EVENT_DEMOTED 1).breach bkMismatch o i (hDpid h)
    else if !s.launchOk || s.fabricMode = fmDynamic then s1.demoteSource ep pkt
    else if s.schd.pathFailed.contains o then late
    else if s.startBlocked o then late.overrun o i (hDpid h)
    else if s.pastTol target || target < s.schd.steppedTo then s1.demoteSource ep pkt
    else
      let s2 := s1.inject ep 7 pkt
      let j := (s2.inVc (96 + ep) 7).pkts.length - 1
      match (s2.inVc (96 + ep) 7).pkts[j]? with
      | some k => (s2.slotGrant o (96 + ep) j k).bump C.SCHD_LAUNCHES
      | none => s2

/-- A packet that the entry takes waits at its SRC. -/
def State.slotHead (s : State) (e : Nat) : Bool :=
  if eSrc e < 96 then (s.vc7Head (eSrc e)).any fun x => entryMatches e x.2.head
  else s.launchOk && ((s.staged (eSrc e - 96)).head?.any fun p => entryMatches e (p.headD 0))

/-- Serve slot `i` of iteration `k` of table `t` (R296 to R298). A start that its output blocks is tried until LATE_TOL has passed (R307). While
INVALID a launch is refused, and demoted at the source (06_timebase.md Table 6.4). -/
def State.serveSlot (s : State) (t k i : Nat) : State :=
  let b := s.runBuf
  let a := k * s.imgCycle b + i
  let s0 := ({ s with schd := { s.schd with served := tput 0 s.schd.served t (a + 1) } } : State).whenB (i % 8 = 0) (·.hbmRd 64)
  let e := s.slotEntry b t i
  let target := s.slotStart k i
  if eKind e ≠ ekStart || s.schd.misses.any (fun m => m.1 = t && m.2 = a) then s0
  else if s.startBlocked t && s.slotHead e && !s.pastTol target then s
  else
    let s1 := if s.slotLate target && s.geysState ≠ gsInvalid then s0.wr R.SCHD_EVENT_LATE 1 else s0
    if eSrc e < 96 then s1.slotTransit t i e target else s1.slotLaunch t i e target

/-- Slot `i` of iteration `k` sends what an endpoint port has staged. -/
def State.slotLaunches (s : State) (t i : Nat) : Bool :=
  let e := s.slotEntry s.runBuf t i
  eKind e = ekStart && eSrc e ≥ 96 && !(s.staged (eSrc e - 96)).isEmpty

/-- SLOT_START (R296): the slot start of table `t` at s(k, i); each is served once (R276). While INVALID, GT names no slot start: those of transit
packets are held, and a launch is refused (06_timebase.md Table 6.4, R226). -/
def execSlotStart (t : Fin 106) (k i : Nat) (s : State) : Host.Outcome State Fault Refusal :=
  live s fun s =>
    let b := s.runBuf
    let here := if s.geysState = gsInvalid then s.slotLaunches t.val i else decide (s.gt ≥ s.slotStart k i)
    if s.schdState = ssRunning && (s.slotTable b t.val).isSome && i < s.imgCycle b && here &&
        tget 0 s.schd.served t.val ≤ k * s.imgCycle b + i then s.serveSlot t.val k i
    else s

/-- What is done with one VC7 packet that has arrived at position `j` of an input (R298, R307). -/
def State.vc7Arrive (s : State) (q j : Nat) (k : BufPkt) : State :=
  let x := s.inVc q 7
  let h := k.head
  if tapBound q k then
    s.setInVc q 7 { x with pkts := x.pkts.set j { k with route := some { target := .tap, vc := 7 } } }
  else if !s.schdActive || s.fabricMode = fmDynamic then s.demoteTransit q j C.SCHD_DEMOTE_IDLE
  else match s.rememberedFor q h with
    | some m => (s.forgetStart m).demoteTransit q j C.SCHD_DEMOTE_LATE
    | none => if s.schd.pathFailed.contains q then s.demoteTransit q j C.SCHD_DEMOTE_LATE else s

/-- VC7_HEAD_ARRIVAL (R307): a VC7 head has arrived at an input; each packet there that no slot has taken is judged. -/
def execVc7HeadArrival (input : Port) (s : State) : Host.Outcome State Fault Refusal :=
  live s fun s =>
    let q := input.val
    let n := (s.inVc q 7).pkts.length
    (List.range n).foldr (fun j t =>
      match (t.inVc q 7).pkts[j]? with
      | some k => if k.onSlots && k.route.isNone then t.vc7Arrive q j k else t
      | none => t) s

/-- VC7_ORPHAN_TIMEOUT (R307): the VC7 head of an input is unclaimed HQ after its arrival. -/
def execVc7OrphanTimeout (input : Port) (s : State) : Host.Outcome State Fault Refusal :=
  live s fun s =>
    let q := input.val
    match s.vc7Head q with
    | some (j, k) =>
      if k.route.isSome || s.gt < k.arrival + s.hq s.runBuf then s
      else
        let s1 := s.demoteTransit q j C.SCHD_DEMOTE_ORPHAN
        if s1.schd.missIter = s1.iterNow + 1 then s1
        else s1.breach bkOrphan q ((s.slotAt s.gt).toNat % s.imgCycle s.runBuf) (hDpid k.head)
    | none => s

/-! ### Current pre-warm and LSTEP_N (R313 to R316) -/

/-- Entries of the burst list of a buffer's image, and entry `n`; 0 where there is none (Table 8.5). -/
def State.burstNum (s : State) (b : Nat) : Nat := ((s.burstList b).map Prod.snd).getD 0
def State.burstEntry (s : State) (b n : Nat) : Nat :=
  match s.burstList b with
  | some (o, c) => if n < c then s.img b (o + 8 * n) 8 else 0
  | none => 0

def State.prewarmOn (s : State) (b : Nat) : Bool := field (s.imgFlags b) 0 1 = 1 && s.on R.SCHD_CFG_PREWARM_EN
def State.lstepOn (s : State) (b : Nat) : Bool := field (s.imgFlags b) 1 1 = 1 && s.on R.SCHD_CFG_LSTEP_EN
/-- The LSTEP lead in ticks (R314). -/
def State.lstepLead (s : State) (b : Nat) : Nat :=
  16000 * (if s.imgLstepLead b = 0 then s.rd R.SCHD_CFG_LSTEP_LEAD else s.imgLstepLead b)

/-- The buffer, and the start of the iteration, of iteration `k` as the running image counts it: from a planned switch on those of the new image;
none from the iteration at which the schedule stops (R289, R291). -/
def State.iterAt (s : State) (k : Nat) : Option (Nat × Nat) :=
  let stops := fun n => s.on R.SCHD_STOP_STOP_EN && decide (s.rd R.SCHD_STOP_STOP_ITER ≤ n)
  let own := if stops k then none else some (s.runBuf, s.slotStart k 0)
  match s.schd.switch with
  | none => own
  | some (b, w) =>
    let kw := (w - s.schd.startGt) / s.tCyc s.runBuf
    if k < kw then own else if stops kw || stops (k - kw) then none else some (b, w + (k - kw) * s.tCyc b)

/-- Burst entry `n` in iteration `k` (R313). -/
def State.burstAt (s : State) (n k : Nat) : Option Burst :=
  match s.iterAt k with
  | none => none
  | some (b, g) =>
    let e := s.burstEntry b n
    let start := g + field e 0 20 * s.tSlot b
    if e = 0 then none
    else some { entry := n, iter := k, buf := b, level := field e 41 4, start := start, stop := start + field e 20 21 * s.tSlot b }

/-- The burst after one, into the next iteration (R316). -/
def State.burstNext (s : State) (x : Burst) : Option Burst :=
  if x.entry + 1 < s.burstNum x.buf then s.burstAt (x.entry + 1) x.iter else s.burstAt 0 (x.iter + 1)

/-- The decision about a burst has been made. -/
def State.burstDecided (s : State) (x : Burst) : Option Burst := s.schd.bursts.find? fun y => y.entry = x.entry && y.iter = x.iter

/-- Decisions that no later point needs: no burst follows one within 4 us of its end (R316). -/
def State.burstsKept (s : State) : List Burst := s.schd.bursts.filter fun x => decide (s.gt < x.stop + 64000)

/-- PREWARM_DECIDE (R315): whether to act on burst entry `n` of iteration `k`; not while the die throttles
(21_pins_and_electrical.md R731). -/
def execPrewarmDecide (n k : Nat) (s : State) : Host.Outcome State Fault Refusal :=
  live s fun s =>
    match s.burstAt n k with
    | none => s
    | some x =>
      if !(s.prewarmOn x.buf || s.lstepOn x.buf) || s.geysState = gsInvalid || s.gt + max (s.lstepLead x.buf) 32000 < x.start || s.gt ≥ x.stop ||
          (s.burstDecided x).isSome then s
      else
        let y := { x with acts := s.schdActive && s.launchOk && !s.on R.PIN_THERM_THROTTLE }
        let s1 : State := { s with schd := { s.schd with bursts := s.burstsKept ++ [y] } }
        if y.acts then s1 else s1.wr R.SCHD_EVENT_PREWARM_SKIP 1

/-- A burst holds the level now: from 2 us before its start to its end, and on across a gap of less than 4 us to the next burst, unless the device
does not act on that one (R313, R316). -/
def State.burstHolds (s : State) (x : Burst) : List Burst :=
  if !x.acts then []
  else if s.gt < x.stop then (if x.start ≤ s.gt + 32000 then [x] else [])
  else match s.burstNext x with
    | some c => if s.gt < c.start && c.start < x.stop + 64000 && ((s.burstDecided c).all fun y => y.acts) then [x, c] else []
    | none => []

def State.burstsHolding (s : State) : List Burst := s.schd.bursts.flatMap s.burstHolds

/-- The level the bursts ask for now, in fifteenths of full (R313, R316). -/
def State.burstLevel (s : State) : Nat := ((s.burstsHolding.filter fun x => s.prewarmOn x.buf).map Burst.level).foldl max 0

/-- PREWARM_RAMP_UP (R313): one of the 16 steps of a ramp; while INVALID none is begun, and one that has begun runs on (R315, 06_timebase.md Table
6.4). -/
def execPrewarmRampUp (s : State) : Host.Outcome State Fault Refusal :=
  live s fun s =>
    if s.burstLevel = 0 || (s.geysState = gsInvalid && s.schd.ramp = 0) then s
    else
      let s1 := { s with schd := { s.schd with ramp := min 16 (s.schd.ramp + 1), level := s.burstLevel } }
      let s2 := s1.wr R.SCHD_EVENT_PREWARM_ACTIVE 1
      if s.schd.ramp = 0 then s2.bump C.SCHD_PREWARMS else s2

/-- PREWARM_RAMP_DOWN (R313, R315, R316): one of the 16 steps down, once no burst holds the level. -/
def execPrewarmRampDown (s : State) : Host.Outcome State Fault Refusal :=
  live s fun s =>
    if !s.burstsHolding.isEmpty then s
    else
      let r := s.schd.ramp - 1
      let s1 := { s with schd := { s.schd with ramp := r, level := if r = 0 then 0 else s.schd.level, bursts := s.burstsKept } }
      if r = 0 then s1.wr R.SCHD_EVENT_PREWARM_ACTIVE 0 else s1

/-- The burst keeps LSTEP_N asserted now: from its lead before the start to its end (R314). -/
def State.burstLstep (s : State) (x : Burst) : Bool :=
  x.acts && s.lstepOn x.buf && decide (x.start ≤ s.gt + s.lstepLead x.buf) && decide (s.gt < x.stop)

/-- LSTEP_ASSERT (R314): from b less the lead; not while INVALID (06_timebase.md Table 6.4). -/
def execLstepAssert (s : State) : Host.Outcome State Fault Refusal :=
  live s fun s =>
    if s.geysState ≠ gsInvalid && s.schd.bursts.any s.burstLstep then s.wr R.SCHD_EVENT_LSTEP_ACTIVE 1 else s

/-- LSTEP_RELEASE (R314 to R316): when the ramp-down has ended and no burst keeps the pin asserted. -/
def execLstepRelease (s : State) : Host.Outcome State Fault Refusal :=
  live s fun s =>
    if s.burstsHolding.isEmpty && s.schd.ramp = 0 && !s.schd.bursts.any s.burstLstep then s.wr R.SCHD_EVENT_LSTEP_ACTIVE 0
    else s

end Sys2Proof.Machine
end

