-- ==== Sys2Proof/Machine/Triggers.lean ====
section
/-! DEFINITION. The rows of tally counters and triggers (13_counters_and_triggers.md R479 to R497). -/

namespace Sys2Proof.Machine

/-! ### Descriptors (R484 to R488) -/

/-- CNT_ADD and CNT_SET: one update of the counter the descriptor names, or the status of R483. -/
def State.startCnt (s : State) (q : Nat) (o : Owner) (d : Nat) (f : Tally → Nat → Tally) : State :=
  let c := field d 128 20
  let st := s.cntCheck q c
  if st ≠ csOk then s.beginEnd o st
  else ((s.begin_ o).cntApply c fun t => f t (field d 192 64)).ownerDone o csOk 0

/-- CNT_ADD (R485). -/
def execCntAdd (q : QIdx) (fired : Bool) (s : State) : Host.Outcome State Fault Refusal :=
  engine s fun s =>
    match s.startOf q.val fired 0x20 with
    | some (o, d) => s.startCnt q.val o d Tally.add
    | none => s

/-- CNT_SET (R485). -/
def execCntSet (q : QIdx) (fired : Bool) (s : State) : Host.Outcome State Fault Refusal :=
  engine s fun s =>
    match s.startOf q.val fired 0x21 with
    | some (o, d) => s.startCnt q.val o d Tally.set
    | none => s

/-- The 16 bytes of a CNT_FETCH (R485). -/
def Tally.bytes (t : Tally) : List Byte :=
  toBytes 8 t.value ++ toBytes 4 t.fail ++ toBytes 1 t.lastStatus ++ toBytes 1 (bNat t.late) ++ [0, 0]

/-- The start of a CNT_FETCH: the counter's 16 bytes are written to host memory. -/
def State.startCntFetch (s : State) (q : Nat) (o : Owner) (d : Nat) : State :=
  let c := field d 128 20
  let va := field d 192 64
  let x := s.qp q
  let st := s.cntCheck q c
  if st ≠ csOk then s.beginEnd o st
  else if va % 16 ≠ 0 then s.beginEnd o csBounds
  else
    s.startSpan o q va 16 .write fun s segs =>
      let s1 := (s.begin_ o).touchCnt c
      let bs := (s1.tally c).bytes
      match segs with
      | [] => s1
      | (pa, _, ns) :: _ =>
        let (sqx, fi) := match o with
          | .fired _ i _ => (i, true)
          | .sq _ i => (i, false)
          | _ => (0, false)
        let (g, s2) := s1.reserveRec q { x := sqx, opid := 0, pid := s1.ownPid, seq := 0, count := 0, fired := fi }
        let req := s2.payloadReq x.p.ctx pa ns true
        s2.after g (.hostWrite req bs o) fun s => (s.hostWrite req bs).ownerDone o csOk 0

/-- CNT_FETCH (R485). -/
def execCntFetch (q : QIdx) (fired : Bool) (s : State) : Host.Outcome State Fault Refusal :=
  engine s fun s =>
    match s.startOf q.val fired 0x24 with
    | some (o, d) => s.startCntFetch q.val o d
    | none => s

/-- Arm a pair, hold it, or complete it with the status of R483 (R488, R493). -/
def State.trigStart (s : State) (q : Nat) (d : SqDesc) : State :=
  let w := d.desc
  let m := field w 148 2
  let c := field w 128 20
  let dcEn := field w 150 1 = 1
  let dc := field w 160 20
  let stC := if m = 1 then csOk else s.cntCheck q c
  let stD := if dcEn then s.cntCheck q dc else csOk
  let s0 := s.modQp q fun y => { y with trgHeld := false }
  if stC ≠ csOk then s0.descDone q d.x stC 0
  else if stD ≠ csOk then s0.descDone q d.x stD 0
  else if s.pendUsed ≥ s.pendSize then
    if (s.qp q).trgHeld then s
    else
      let s1 := ((s.modQp q fun y => { y with trgHeld := true }).bump C.TRG_PEND_HOLDS).cond pgTrg 0 true
      s1.qpEvent q evTrgFull (s1.pendUsed % 2 ^ 21)
  else
    let a : Armed := {
      q := q, x := d.x, target := some (w / 2 ^ 512), mode := if m = 0 then .counter else if m = 1 then .time else .both
      cnt := c, thresh := field w 192 64, tgt := field w 256 64, dcnt := if dcEn then some dc else none, comparator := false }
    (s0.descDone q d.x csOk 0).arm a

/-- TRIG (R488): the pair at the front of the queue. -/
def execTrig (q : QIdx) (s : State) : Host.Outcome State Fault Refusal :=
  engine s fun s =>
    match s.nextStart q.val with
    | some d => if dOp d.desc = 0x22 && d.slots = 2 then s.trigStart q.val d else s
    | none => s

/-- PENDING_ENTRY_FREE (R493): a held pair is armed once an entry is free. -/
def execPendingEntryFree (q : QIdx) (s : State) : Host.Outcome State Fault Refusal :=
  engine s fun s =>
    if (s.qp q.val).trgHeld && s.pendUsed < s.pendSize then
      match (s.modQp q.val fun y => { y with trgHeld := false }).nextStart q.val with
      | some d => if dOp d.desc = 0x22 && d.slots = 2 then (s.trigStart q.val d).trgEase else s
      | none => s
    else s

/-- The start of the WAIT at SQ index `x`: it ends at once where the counter has reached its threshold, else it waits. -/
def State.startWait (s : State) (q x d : Nat) : State :=
  let c := field d 128 20
  let st := s.cntCheck q c
  if st ≠ csOk then s.descDone q x st 0
  else
    let s1 := ((s.descStart q x).bump C.TRG_WAITS).touchCnt c
    if reached (s1.tally c).value (field d 192 64) then s1.descDone q x csOk 0
    else
      let a : Armed := {
        q := q, x := x, target := none, mode := .counter, cnt := c, thresh := field d 192 64, tgt := 0, dcnt := none
        comparator := s1.cmpUsed < cmpCount }
      (s1.setArmed (s1.trg.armed ++ [a])).trgEase

/-- WAIT (R486). -/
def execWait (q : QIdx) (s : State) : Host.Outcome State Fault Refusal :=
  engine s fun s =>
    match s.startOf q.val false 0x23 with
    | some (.sq qq x, d) => s.startWait qq x d
    | _ => s

/-! ### Updates and firings (R482, R489 to R492) -/

/-- COUNTER_UPDATE (R482, R483): the oldest update of a window or a completion binding. -/
def execCounterUpdate (s : State) : Host.Outcome State Fault Refusal :=
  engine s fun s =>
    match s.trg.updates with
    | [] => s
    | u :: rest =>
      let s1 : State := { s with trg := { s.trg with updates := rest } }
      let s2 :=
        if (s1.tally u.cnt).of u.func then
          (s1.cntApply u.cnt fun t => t.add u.amount).bump (if u.fromWindow then C.TRG_WIN_UPDATES else C.TRG_CQ_UPDATES)
        else s1.bump C.TRG_CNT_REFUSED
      match u.after with
      | .none => s2
      | .window k seq e i => (s2.recordSeq k seq e).winLeave i

/-- The time condition of one armed item is met. -/
def State.timeFire (s : State) (a : Armed) (late sweep : Bool) : State :=
  match a.mode with
  | .counter => s
  | .time => s.fire a (a.late || late) sweep
  | .both =>
    let b := { a with timeMet := some (a.late || late) }
    let s1 := (s.touchCnt a.cnt).setArmed (s.trg.armed.map fun x => if x = a then b else x)
    if s1.cntMet b then s1.fire b (b.timeMet = some true) sweep else s1

/-- Every armed time condition with a comparator that GT has reached is met, in order of the targets (R489, R491). -/
def State.fireDue (s : State) (late : Armed → Bool) : State :=
  let due := s.trg.armed.filter fun a => a.mode ≠ .counter && a.comparator && a.timeMet.isNone && s.timeDue a
  ((due.mergeSort fun a b => a.tgt ≤ b.tgt).foldl (fun s a => s.timeFire a (late a) false) s).trgEase

/-- A time trigger that comes due in MOSS needs the trigger block: it is a wake of source GT_ACTION (17_reset_power_supplies.md R618). -/
def State.wakeForTrigger (s : State) : State :=
  if s.powerState = psMoss && s.trg.armed.any fun a => a.mode ≠ .counter && a.timeMet.isNone && s.timeDue a then s.wakeLatch wkGtAction 0 else s

/-- TRIGGER_FIRE_TIME (R489, R491; 17_reset_power_supplies.md R618). -/
def execTriggerFireTime (s : State) : Host.Outcome State Fault Refusal :=
  live s fun s =>
    let s1 := s.wakeForTrigger
    if s1.powerState = psMoss || s1.powerState = psExit then s1 else s1.fireDue fun a => s1.lateFor a.tgt

/-- The swept items whose time condition GT has reached meet it, in order of the targets: LATE more than 0.3 ns after the target (R491, R492). -/
def State.sweepTimes (s : State) : State :=
  let due := s.trg.armed.filter fun a => !a.comparator && a.mode ≠ .counter && a.timeMet.isNone && s.timeDue a
  (due.mergeSort fun a b => a.tgt ≤ b.tgt).foldl (fun s a => s.timeFire a (s.gt ≥ a.tgt + 5) true) s

/-- TRIGGER_SWEEP (R492): every item without a comparator is tested. -/
def execTriggerSweep (s : State) : Host.Outcome State Fault Refusal :=
  engine s fun s => s.sweepTimes.sweepCounters.trgEase

/-- FIRED_OP_END (R489, Table 13.2): the oldest fired operation that has ended. -/
def execFiredOpEnd (s : State) : Host.Outcome State Fault Refusal :=
  engine s fun s =>
    match s.trg.ends with
    | [] => s
    | e :: rest =>
      let ok := e.status = csOk
      let s1 := ({ s with trg := { s.trg with ends := rest } } : State).bump (if ok then C.TRG_FIRED_OK else C.TRG_FIRED_FAIL)
      match e.dcnt with
      | none => s1
      | some c => s1.cntApply c fun t =>
          if ok then t.add 1 else { t with fail := min 0xFFFFFFFF (t.fail + 1), lastStatus := e.status }

/-- TRG_CNT_VAL_WRITE (R497): the counter selected in TRG_CNT_SEL. -/
def execTrgCntValWrite (v : Word) (s : State) : Host.Outcome State Fault Refusal :=
  live s fun s => s.cntApply (s.rd R.TRG_CNT_SEL_INDEX) fun t => { t with value := v.toNat }

/-- TRG_CNT_ADD_WRITE (R497). -/
def execTrgCntAddWrite (v : Word) (s : State) : Host.Outcome State Fault Refusal :=
  live s fun s => s.cntApply (s.rd R.TRG_CNT_SEL_INDEX) fun t => t.add v.toNat

end Sys2Proof.Machine
end

