-- ==== Sys2Proof/Machine/TimePass.lean ====
section
/-! DEFINITION. What a forward step of GT, or the end of INVALID, does to the time-triggered actions whose targets it passes
(06_timebase.md R226). -/

namespace Sys2Proof.Machine

/-- The armed flip fires when its target has passed. -/
def State.passFlip (s : State) (stepped : Bool) : State :=
  match s.rout.armed with
  | some a => if s.gt ≥ a.target then s.doFlip (stepped || decide (s.gt > a.target)) false else s
  | none => s

/-- The armed items whose target a step passed, or has passed while INVALID, are LATE, whenever they fire. -/
def State.markPassed (s : State) (stepped : Bool) : State :=
  let mark := fun a : Armed => if a.mode ≠ .counter && a.timeMet.isNone && s.timeDue a && (stepped || decide (s.gt > a.tgt)) then { a with late := true } else a
  s.setArmed (s.trg.armed.map mark)

/-- The time conditions that GT has reached are met; without a clock (17_reset_power_supplies.md R616), or without a comparator (R492), they wait,
marked. -/
def State.passTriggers (s : State) (stepped : Bool) : State :=
  let s1 := s.markPassed stepped
  if s.powerState = psMoss || s.powerState = psExit then s1 else s1.fireDue fun _ => false

/-- The slots of the running image that start at GT or before it, and before a planned switch or stop. -/
def State.slotsUpTo (s : State) : Nat :=
  let a := s.gt + 1
  let b := s.schd.switch.elim a fun w => min a w.2
  let c := if s.on R.SCHD_STOP_STOP_EN then min b (s.slotStart (s.rd R.SCHD_STOP_STOP_ITER) 0) else b
  let ts := s.tSlot s.runBuf
  if ts = 0 then 0 else (c - s.schd.startGt + ts - 1) / ts

/-- The run starts where GT has reached START_GT, and the slot starts up to GT that have not been served are served, LATE where they have passed
(08_scheduled_traffic.md R286, R287, R307). -/
def State.passSlots (s : State) (stepped : Bool) : State :=
  let b := s.runBuf
  let to_ := if stepped then s.gt + 1 else s.gt
  let s0 : State := { s with schd := { s.schd with passedTo := to_, steppedTo := if stepped then to_ else s.schd.steppedTo } }
  let serve := fun (a : Nat) (s : State) (t : Nat) =>
    if (s.slotTable b t).isSome && tget 0 s.schd.served t ≤ a then s.serveSlot t (a / s.imgCycle b) (a % s.imgCycle b) else s
  if !s.schdActive || s.gt < s.schd.startGt then s
  else (List.range s.slotsUpTo).foldl (fun s a => (List.range 106).foldl (serve a) s) (s0.wr R.SCHD_CTRL_STATE ssRunning)

/-- The launches of TIMED phases that GT has reached are made. -/
def State.passLaunches (s : State) (stepped : Bool) : State :=
  if s.powerState = psMoss || s.powerState = psExit then s
  else (s.coll.launches.filter fun l => s.gt ≥ l.id.gt).foldl (fun t l => t.timedLaunch l (stepped || decide (s.gt > l.id.gt))) s

/-- The boundary of the counter reader that GT has reached fires. After INVALID a passed one does not (19_performance_counters.md R668). -/
def State.passBoundary (s : State) (stepped : Bool) : State := let t := s.boundary stepped fun g => decide (s.gt > g)
  t.configDue fun g => stepped || decide (s.gt > g)

/-- R226: after a forward step from `old`, or on leaving INVALID, every time-triggered action whose target GT has reached fires. One that a step
passed is LATE; one held in INVALID is LATE when its target has passed. A backward step fires nothing. -/
def State.timePassed (s old : State) : State :=
  let stepped := decide (s.rd R.GEYS_STATUS_STEP_CNT ≠ old.rd R.GEYS_STATUS_STEP_CNT) && decide (s.gt > old.gt)
  let left := decide (old.geysState = gsInvalid)
  if s.geysState = gsInvalid || !(stepped || left) then s
  else
    let held := stepped && !left
    ((((s.passFlip held).passTriggers held).passSlots held).passLaunches held).passBoundary held

end Sys2Proof.Machine
end

