-- ==== Sys2Proof/Machine/Geyser.lean ====
section
/-! DEFINITION. The commands of the Geyser timebase (06_timebase.md). -/

namespace Sys2Proof.Machine

/-- The interval GT lies in (R207). -/
def State.syncInterval (s : State) : Nat := s.gt / 2000000

/-- The port's flit of the interval is due: GT has reached its place in the interval, and none has been sent in it (R207). -/
def State.syncDue (s : State) (p : Nat) : Bool :=
  s.streaming p && decide (s.gt % 2000000 ≥ 16384 * p) && decide ((s.port p).syncAt ≠ some s.syncInterval)

/-- SYNC_FLIT_SEND (R207 to R209): a port's flit of the interval, EPOCH every 64th. LP-QUIET counts as T_UP (log 12). -/
def execSyncFlitSend (p : Port) (s : State) : Host.Outcome State Fault Refusal :=
  live s fun s =>
    let p := p.val
    if !s.syncDue p then s
    else
      let s1 := s.setPort p { s.port p with syncAt := some s.syncInterval }
      match commaPair (s.port p) with
      | none => s1
      | some c =>
        let f := if s.syncInterval % 64 = 0 then s.epochFlit c.2.2.2.1 c.2.2.2.2 else s.timingFlit c
        (s1.bcSend p f).bump C.GEYS_SYNC_TX

/-- The stamp kept for a CIDX (R210). -/
def stampOf (l : List Stamp) (c : Nat) : Option Nat := (l.find? fun x => x.cidx.toNat = c % 1024).map Stamp.time

/-- The mean of the last d_corr values, and the jump test (04_lanes.md R146, R148); before there are 64 values, the mean of those there are, with the
jump test from the second one on (DESIGN CHOICE, log 172). -/
def State.dlyUpdate (s : State) (p : Nat) (d : Frac) : State :=
  let q := s.port p
  let v := rndDiv d.num d.den
  let n := q.delays.length
  let jump := n > 0 && decide (5 * (v * n - q.delays.sum).natAbs > 1024 * n)
  let l := (v :: q.delays).take 64
  let cnt := min 64 (q.delayCount + 1)
  let was := s.on R.PORT_DLY_VALID p
  let s1 := (s.setPort p { q with delays := l, delayCount := cnt }).wr R.PORT_DLY_DLY (ofSigned 32 (rndDiv l.sum l.length)) p
  let s2 := if jump then (s1.wr R.PORT_DLY_DLY_JUMP 1 p).raise (pgLane (2 * p)) 4 else s1
  let s3 := if cnt = 64 then s2.wr R.PORT_DLY_VALID 1 p else s2
  let s4 := s3.fcUpdate p
  if !was && s4.on R.PORT_DLY_VALID p then s4.pathCheck p else s4

/-- The delay and offset a TIMING flit gives (R211); none when a stamp it names is no longer held. -/
def State.timingOffsets (s : State) (p : Nat) (f : Flit) : Option (Frac × Frac) :=
  let q := s.port p
  let now := s.gt * 64
  match stampOf q.txStamps (fget f 24 10), stampOf q.txStamps (fget f 24 10 + 1), stampOf q.rxStamps (fget f 34 10) with
  | some tk, some tk1, some rm =>
    syncOffsets (nearTime now tk) (nearTime now tk1) (nearTime now rm) (extendStamp now (fget f 44 46)) (extendStamp now (fget f 90 46)) (extendStamp now (fget f 136 46))
      (signedOf 16 (s.rd R.PORT_DLY_CAL_ASYM p))
  | _, _, _ => none

/-- The parent's port, for a device that follows. -/
def State.isParent (s : State) (p : Nat) : Bool := !s.isGm && s.parent = some p

/-- A TIMING flit that the device acts on (R211, R218; 04_lanes.md R146). -/
def State.timingIn (s : State) (p : Nat) (f : Flit) (d th : Frac) : State :=
  let old := s.syncOf p
  let i : PortSync := {
    state := fget f 18 2, dist := fget f 20 4, gmPid := fget f 182 20, gmPrio := fget f 202 8, gmClass := fget f 210 2,
    step := fget f 228 8, unc := fget f 212 16, dcorr := some d, theta := some th,
    epoch := old.bind PortSync.epoch, epochRx := (old.map PortSync.epochRx).getD 0 }
  let s1 := (s.setSync p (some i)).dlyUpdate p d
  if s1.isParent p then (s1.wr R.GEYS_OFS_OFS (ofSigned 40 (rndDiv th.num th.den))).servo i else s1

/-- SYNC_TIMING_RECEIVE (R209 to R211, R218). -/
def execSyncTimingReceive (p : Port) (flit : Flit) (s : State) : Host.Outcome State Fault Refusal :=
  live s fun s =>
    let p := p.val
    let s0 := s.bcTake p flit
    if fget flit 0 8 ≠ 1 || !s0.streaming p then s0
    else if fget flit 16 2 ≥ 2 then s0.bcDrop p
    else if fget flit 16 2 ≠ 0 then s0
    else
      let s1 := s0.bump C.GEYS_SYNC_RX
      match s1.timingOffsets p flit with
      | none => s1.bump C.GEYS_SYNC_IGNORED
      | some (d, th) => (s1.timingIn p flit d th).timePassed s1

/-- The parent's TAI fields are copied (R229). -/
def State.copyTai (s : State) (f : Flit) : State :=
  (((s.wr R.GEYS_TAI_TAI_VALID (fget f 98 1)).wr R.GEYS_TAI_TAI_SEC (fget f 99 48)).wr R.GEYS_TAI_NS_TAI_NS (fget f 147 30)).wr
    R.GEYS_TAI_NS_UTC_OFS (fget f 177 16)

/-- An EPOCH flit (R209, R229): it is kept with the time at which its comma came, and the servo takes the first time from it with the parent's
next TIMING flit (R218). -/
def State.epochIn (s : State) (p : Nat) (f : Flit) : State :=
  let old := s.syncOf p
  let rx := stampOf (s.port p).rxStamps (fget f 24 10)
  let i : PortSync := {
    state := fget f 18 2, dist := fget f 20 4, gmPid := fget f 193 20, gmPrio := fget f 213 8, gmClass := fget f 221 2,
    step := fget f 223 8, unc := (old.map PortSync.unc).getD 0xFFFF, dcorr := old.bind PortSync.dcorr,
    theta := old.bind PortSync.theta, epoch := if rx.isSome then some f else none, epochRx := rx.getD 0 }
  let s1 := s.setSync p (some i)
  if s1.isParent p then s1.copyTai f else s1

/-- SYNC_EPOCH_RECEIVE (R209, R218, R229). -/
def execSyncEpochReceive (p : Port) (flit : Flit) (s : State) : Host.Outcome State Fault Refusal :=
  live s fun s =>
    let p := p.val
    let s0 := s.bcTake p flit
    if fget flit 0 8 ≠ 1 || fget flit 16 2 ≠ 1 || !s0.streaming p then s0
    else (s0.bump C.GEYS_SYNC_RX).epochIn p flit

/-- GM_ELECTION (R212 to R215, R220, R222): once in every interval, at its end. -/
def execGmElection (s : State) : Host.Outcome State Fault Refusal := live s fun s => s.intervalEnd.elect.timePassed s

/-- The device selects again among the ports that name the grandmaster it follows (R215, R216). -/
def State.reselect (s : State) : State :=
  let cands := s.heard.filter fun x =>
    x.2.dist < 15 && x.2.state ≠ gsInvalid && s.geys.followed.any fun f => f.1 = x.2.gmPid
  match s.pickParent cands with
  | some (p, i) => s.takeParent p i
  | none => s.noSource

/-- SYNC_INFO_EXPIRE (R216): 4 intervals without a TIMING flit on a port. -/
def execSyncInfoExpire (p : Port) (s : State) : Host.Outcome State Fault Refusal :=
  live s fun s =>
    let s1 := s.setSync p.val none
    if s.isParent p.val then s1.reselect else s1

/-- HOLDOVER_INTERVAL (R220): an interval without a timing source. -/
def execHoldoverInterval (s : State) : Host.Outcome State Fault Refusal := live s State.holdoverInterval

/-! ### References (R217, R227 to R229) -/

/-- A grandmaster advertises a worse class at once; a better one waits (R217). -/
def State.classWorse (s : State) : State :=
  ({ s with geys := { s.geys with ownClass := max s.geys.ownClass s.refClass, classRun := 0 } } : State).publishClass

/-- The grandmaster's TRIM is 0 apart from PPS steering, which needs PPS_EN and the TAI mapping (R227, R228). -/
def State.trimLocal (s : State) : State :=
  if s.isGm && !s.on R.GEYS_TRIM_OVR && !(s.on R.GEYS_CFG_PPS_EN && s.on R.GEYS_TAI_TAI_VALID) then s.setTrim 0 else s

/-- What a write of the configuration or of TRIM changes at once: the class that the references still enabled give, and the grandmaster's TRIM
(R217, R227). -/
def State.refsChanged (s : State) : State :=
  (if s.refClass > s.geys.ownClass then s.classWorse else s.publishClass).trimLocal

/-- The better class is advertised (R217). -/
def State.classBetter (s : State) : State :=
  if s.isGm && s.refClass < s.geys.ownClass then
    ({ s with geys := { s.geys with ownClass := s.refClass, classRun := 0 } }).publishClass
  else s

/-- REFERENCE_LOCK_CHANGE (R217, R227): a reference comes into lock or loses it. -/
def execReferenceLockChange (pps locked : Bool) (s : State) : Host.Outcome State Fault Refusal :=
  live s fun s =>
    ({ s with geys := if pps then { s.geys with ppsLock := locked } else { s.geys with refLock := locked } }).classWorse

/-- GM_CLASS_UPGRADE (R217): 64 PPS edges, or 64 s where PPS_IN is not used, have passed with the reference in lock. -/
def execGmClassUpgrade (s : State) : Host.Outcome State Fault Refusal :=
  live s fun s => if s.on R.GEYS_CFG_PPS_EN && s.geys.classRun < 64 then s else s.classBetter

/-- Ticks in one second. -/
def secTicks : Nat := 16000000000

/-- e of a PPS edge: GT of the edge minus the GT of the nearest second of the TAI mapping (R228). -/
def State.ppsError (s : State) : Int :=
  let x := (s.gt + 16 * s.rd R.GEYS_TAI_NS_TAI_NS) % secTicks
  if x < secTicks / 2 then x else (x : Int) - secTicks

/-- TRIM is steered toward e = 0 by at most 50 ppb; by how much is open (R227, R228; log 4). -/
def State.ppsSteer (s : State) (e : Int) : State :=
  if s.on R.GEYS_TRIM_OVR then s
  else if e = 0 then s.setTrim 0
  else
    let (v, s1) := s.draw 20
    let d : Int := (v % 549756 : Nat)
    s1.setTrim (if e > 0 then -d else d)

/-- TAI_SET takes effect at this edge (R229): the mapping that gives the edge the pending second. -/
def State.taiLatch (s : State) (sec : Nat) : State :=
  let ns : Int := (sec : Int) * 1000000000 - ((s.gt / 16 : Nat) : Int)
  let t := ns.emod ((2 : Int) ^ 48 * 1000000000)
  let s1 := ((s.wr R.GEYS_TAI_TAI_SEC (t.toNat / 1000000000)).wr R.GEYS_TAI_NS_TAI_NS (t.toNat % 1000000000)).wr
    R.GEYS_TAI_TAI_VALID 1
  { s1 with geys := { s1.geys with taiPending := none } }

/-- PPS_EDGE (R228, R229): an edge of PPS_IN, `falling` or rising. -/
def execPpsEdge (falling : Bool) (s : State) : Host.Outcome State Fault Refusal :=
  live s fun s =>
    if !s.on R.GEYS_CFG_PPS_EN || falling ≠ s.on R.GEYS_CFG_PPS_FALL || !s.isGm then s
    else
      let s1 := ({ s with geys := { s.geys with ppsMissed := 0 } }.wr R.GEYS_PPS_TS_PPS_GT s.gt).cond pgGeys 3 false
      let s2 := match s1.geys.taiPending with
        | some sec => if s1.on R.GEYS_TAI_TAI_VALID then { s1 with geys := { s1.geys with taiPending := none } } else s1.taiLatch sec
        | none => s1
      let s3 := if s2.on R.GEYS_TAI_TAI_VALID then
          let e := s2.ppsError
          let t := (s2.wr R.GEYS_PPS_ERR_E (ofSigned 40 e)).ppsSteer e
          if e.natAbs > 16000 then (t.wr R.GEYS_STATUS_PPS_FAR 1).raise pgGeys 4 else t
        else s2
      if s3.refClass < s3.geys.ownClass then
        let s4 := { s3 with geys := { s3.geys with classRun := s3.geys.classRun + 1 } }
        if s4.geys.classRun ≥ 64 then s4.classBetter else s4
      else s3

/-- PPS_MISSING (R228, R217): an expected edge is missing; the third in a row is a loss. -/
def execPpsMissing (s : State) : Host.Outcome State Fault Refusal :=
  live s fun s =>
    if !s.on R.GEYS_CFG_PPS_EN || !s.isGm then s
    else
      let s1 := { s with geys := { s.geys with ppsMissed := s.geys.ppsMissed + 1, classRun := 0 } }
      if s1.geys.ppsMissed ≥ 3 then
        let s2 := (s1.wr R.GEYS_STATUS_PPS_LOST 1).cond pgGeys 3 true
        ({ s2 with geys := { s2.geys with ppsLock := false } }).classWorse
      else s1

/-- AON_RATE_MEASURE (R230): the period of CLK_AON over the last second, measured while LOCKED. -/
def execAonRateMeasure (period : W32) (s : State) : Host.Outcome State Fault Refusal :=
  live s fun s =>
    if s.geysState = gsLocked then (s.wr R.GEYS_AON_RATE_PERIOD period.toNat).wr R.GEYS_SLP_INFO_RATE_LEARNED 1 else s

/-- A step of the grandmaster's time by signed ticks (R219); no effect on a follower. -/
def State.gmStepBy (s : State) (ticks : Int) : State :=
  if s.isGm then
    (({ s with geys := { s.geys with gmStep := (s.geys.gmStep + 1) % 256 } }).declareStep (Frac.ofInt (64 * ticks))).timePassed s
  else s

/-- GEYS_STEP_WRITE (R219). -/
def execGeysStepWrite (amount : BitVec 48) (s : State) : Host.Outcome State Fault Refusal :=
  live s fun s => s.gmStepBy amount.toInt

end Sys2Proof.Machine
end

