-- ==== Sys2Proof/Machine/CmdNet.lean ====
section
/-! DEFINITION. The opcodes of Table 16.6 but for SCHED_LOAD: general, lanes, routing, Geyser and schedule
(16_command_packets.md R591, R592, R595). -/

namespace Sys2Proof.Machine

/-! ### General -/

/-- NOP. -/
def execNop (c : CmdRef) (s : State) : Host.Outcome State Fault Refusal :=
  command .a 0x0000 c [] s fun n s => s.ends n stOk

/-- The configuration in use is not the one the boot record asks for (DEV_INFO page 0, FLAGS bit 2; log 52). -/
def State.fallbackCfg (s : State) : Bool :=
  s.on R.FWU_STATUS_DEFAULT_CFG || (s.on R.FWU_STATUS_RUN_CFG ≠ s.nv.activeCfg && !s.on R.FWU_STATUS_TRIAL_BOOTED)

/-- The pages of DEV_INFO (Table 16.10). -/
def State.devInfo (s : State) (page : Nat) : List (Nat × Nat) :=
  if page = 0 then
    let mismatch := s.paired && s.ownPid % 2 ≠ s.rd R.RST_STRAP_PAIR_SIDE
    let flags := bNat mismatch + 2 * bNat (decide (s.pwr.boot = .incFailed)) + 4 * bNat s.fallbackCfg +
      8 * bNat (s.rd R.ROUT_TOPO_PEND_TOPO ≠ s.topo)
    [(1, s.rd R.CHIP_ID_STEPPING), (1, s.rd R.CHIP_VER_CMDSET_MAJ), (1, s.rd R.CHIP_VER_CMDSET_MIN), (1, s.rd R.CHIP_VER_SCHED_FMT),
      (1, s.rd R.CHIP_VER_CFG_FMT), (1, s.phase), (2, flags), (4, if s.pwr.boot = .load then 0 else s.rd R.CHIP_VER_FW_RELEASE), (4, s.ownPid)]
  else if page = 1 then [(4, 262144), (4, 65536), (4, 16777216), (4, 32768)]
  else if page = 2 then [(8, s.regionSize 8), (4, s.prqSize), (4, 1048576)]
  else if page = 3 then [(4, 1048576), (4, 65536), (4, 65536), (2, 4096), (2, 4096)]
  else [(8, s.rd R.SEC_SERIAL_SERIAL), (4, s.nv.inc)]

/-- DEV_INFO. -/
def execDevInfo (c : CmdRef) (page : BitVec 8) (s : State) : Host.Outcome State Fault Refusal :=
  command .a 0x0001 c (pack [(1, page.toNat)]) s fun n s =>
    if page.toNat ≤ 4 then s.okay n (s.devInfo page.toNat) else s.ends n stBadParam

/-- REMOTE (R591, R749): a MGMT_REQ on VC0 from E11, which waits to be formed while INVALID (06_timebase.md R224), and the wait for its answer. -/
def execRemote (c : CmdRef) (pid : BitVec 32) (timeoutMs : BitVec 16) (cmdAddr outAddr : BitVec 64) (data : HostRead) (s : State) :
    Host.Outcome State Fault Refusal :=
  command .p 0x0002 c (pack [(4, pid.toNat), (2, timeoutMs.toNat), (8, cmdAddr.toNat), (8, outAddr.toNat)]) s fun n s =>
    if pid.toNat ≥ 2 ^ 20 || !s.validPid pid.toNat || timeoutMs.toNat < 1 || timeoutMs.toNat > 10000 then s.ends n stBadParam
    else s.withBuffer n c cmdAddr.toNat 64 data [2] fun s bs =>
      let h : Hdr := {
        ptype := ptMgmtReq, ext := false, plen := 64, dpid := pid.toNat, spid := s.ownPid, sinc := s.nv.inc % 2 ^ 16, birth := s.gt % 2 ^ 40
        vc := 0, shport := pathPort c.path }
      let s1 := s.setWait n (.remote pid.toNat (field (ofBytes bs) 16 16) outAddr.toNat)
      let s2 := s1.bump C.CMD_REMOTE_TX
      if s.canForm then s2.inject 11 0 (formPacket h none bs) else s2.unadmit { e := 11, vc := 0, pkt := formPacket h none bs }

/-! ### Lanes and links -/

/-- A port parameter. -/
def portParam (p : Nat) : Bool := p < 96

/-- PORT_ENABLE (04_lanes.md R158). -/
def execPortEnable (c : CmdRef) (port en : BitVec 8) (s : State) : Host.Outcome State Fault Refusal :=
  commandLink .d 0x0100 c (pack [(1, port.toNat), (1, en.toNat)]) s fun n s =>
    s.okIf n (portParam port.toNat && en.toNat ≤ 1) fun s => s.setPortEn port.toNat (en.toNat = 1)

/-- PORT_PRESET. -/
def execPortPreset (c : CmdRef) (port preset : BitVec 8) (s : State) : Host.Outcome State Fault Refusal :=
  command .d 0x0101 c (pack [(1, port.toNat), (1, preset.toNat)]) s fun n s =>
    s.okIf n (portParam port.toNat && preset.toNat ≤ 7) fun s => s.wr R.PORT_CTRL_START_PRESET preset.toNat port.toNat

/-- PORT_RETRAIN (05_link_layer.md R200). -/
def execPortRetrain (c : CmdRef) (port fresh : BitVec 8) (s : State) : Host.Outcome State Fault Refusal :=
  commandLink .d 0x0102 c (pack [(1, port.toNat), (1, fresh.toNat)]) s fun n s =>
    s.okIf n (portParam port.toNat && fresh.toNat ≤ 1) fun s =>
      s.retrain port.toNat (fresh.toNat = 1)

def portReg (p off : Nat) : Nat := 0x01000000 + 0x8000 * p + off
def linkReg (p off : Nat) : Nat := 0x02000000 + 0x10000 * p + off

/-- PORT_STATUS. -/
def execPortStatus (c : CmdRef) (port : BitVec 8) (s : State) : Host.Outcome State Fault Refusal :=
  command .d 0x0103 c (pack [(1, port.toNat)]) s fun n s =>
    if portParam port.toNat then s.okay n [(8, s.readReg (portReg port.toNat 0x808)), (8, s.readReg (linkReg port.toNat 8))]
    else s.ends n stBadParam

/-- PORT_PEER. -/
def execPortPeer (c : CmdRef) (port : BitVec 8) (s : State) : Host.Outcome State Fault Refusal :=
  command .d 0x0104 c (pack [(1, port.toNat)]) s fun n s =>
    if portParam port.toNat then s.okay n [(8, s.readReg (portReg port.toNat 0x810)), (8, s.readReg (portReg port.toNat 0x830))]
    else s.ends n stBadParam

/-- PORT_RETIRE (05_link_layer.md R195): of a DOWN port; DROPPED counts what it discards. -/
def execPortRetire (c : CmdRef) (port : BitVec 8) (s : State) : Host.Outcome State Fault Refusal :=
  commandLink .d 0x0105 c (pack [(1, port.toNat)]) s fun n s =>
    let p := port.toNat
    if !portParam p then s.ends n stBadParam
    else if s.rd R.LINK_STATUS_STATE p ≠ lkDown then s.ends n stNotPermitted
    else
      let s1 := s.retireLink p
      s1.okay n [(8, (s1.rd C.LINK_HELD_DROP p + 2 ^ 48 - s.rd C.LINK_HELD_DROP p) % 2 ^ 48)]

/-- LINK_TIMERS (01_architecture.md R54). -/
def execLinkTimers (c : CmdRef) (port : BitVec 8) (replayTmr xoffWdog : BitVec 32) (s : State) : Host.Outcome State Fault Refusal :=
  command .d 0x0106 c (pack [(1, port.toNat), (4, replayTmr.toNat), (4, xoffWdog.toNat)]) s fun n s =>
    let ps := if port.toNat = 255 then List.range 96 else [port.toNat]
    let ok := (portParam port.toNat || port.toNat = 255) && R.LINK_TMR_REPLAY_TMR.allows replayTmr.toNat &&
      R.LINK_TMR_XOFF_WDOG.allows xoffWdog.toNat && ps.all fun p => s.linkRtt p + 3200 ≤ replayTmr.toNat
    s.okIf n ok fun s =>
      ps.foldl (fun s p => (s.wr R.LINK_TMR_REPLAY_TMR replayTmr.toNat p).wr R.LINK_TMR_XOFF_WDOG xoffWdog.toNat p) s

/-- PORT_ASYM. -/
def execPortAsym (c : CmdRef) (port : BitVec 8) (asym : BitVec 16) (s : State) : Host.Outcome State Fault Refusal :=
  command .d 0x0107 c (pack [(1, port.toNat), (2, asym.toNat)]) s fun n s =>
    s.okIf n (portParam port.toNat) fun s => s.wr R.PORT_DLY_CAL_ASYM asym.toNat port.toNat

/-- NEIGHBOUR_INFO (R592): a QUERY on the port; the reply comes with the INFO, or after 100 µs. -/
def execNeighbourInfo (c : CmdRef) (port : BitVec 8) (s : State) : Host.Outcome State Fault Refusal :=
  command .d 0x0108 c (pack [(1, port.toNat)]) s fun n s =>
    if !portParam port.toNat then s.ends n stBadParam
    else
      let q := s.cmd.qtag
      let s1 : State := { s with cmd := { s.cmd with qtag := (q + 1) % 2 ^ 16 } }
      (s1.setWait n (.neighbour port.toNat q)).bcSend port.toNat (BitVec.ofNat 256 (mgmtFlit 0 q))

/-- LP_ENABLE (05_link_layer.md R196). -/
def execLpEnable (c : CmdRef) (port lpEn : BitVec 8) (s : State) : Host.Outcome State Fault Refusal :=
  command .d 0x0109 c (pack [(1, port.toNat), (1, lpEn.toNat)]) s fun n s =>
    s.okIf n (portParam port.toNat && lpEn.toNat ≤ 1) fun s => s.wr R.LINK_CTRL_LP_EN lpEn.toNat port.toNat

/-! ### Routing -/

/-- ALIAS_WRITE (07_dynamic_routing.md R252, R747). -/
def execAliasWrite (c : CmdRef) (bank : BitVec 8) (index : BitVec 16) (entry : BitVec 64) (s : State) : Host.Outcome State Fault Refusal :=
  command .d 0x0200 c (pack [(1, bank.toNat), (2, index.toNat), (8, entry.toNat)]) s fun n s =>
    let b := bank.toNat
    if b > 1 || index.toNat ≥ 4096 then s.ends n stBadParam
    else if s.bankLocked b then s.ends n stBusy
    else s.okIf n (aliasEntryOk s.topo entry.toNat) fun s => s.setAliasBank b (tput 0 (s.aliasBank b) index.toNat entry.toNat)

/-- The 8-byte words of a buffer. -/
def words8 : Nat → List Byte → List Nat
  | 0, _ => []
  | n + 1, bs => ofBytes (bs.take 8) :: words8 n (bs.drop 8)

/-- ALIAS_BULK (07_dynamic_routing.md R252, R747; R749). -/
def execAliasBulk (c : CmdRef) (bank : BitVec 8) (first count : BitVec 16) (addr : BitVec 64) (data : HostRead) (s : State) :
    Host.Outcome State Fault Refusal :=
  command .p 0x0201 c (pack [(1, bank.toNat), (2, first.toNat), (2, count.toNat), (8, addr.toNat)]) s fun n s =>
    let b := bank.toNat
    if b > 1 || first.toNat + count.toNat > 4096 then s.ends n stBadParam
    else if count.toNat = 0 then s.ends n stOk
    else if s.bankLocked b then s.ends n stBusy
    else s.withBuffer n c addr.toNat (8 * count.toNat) data [] fun s bs =>
      let es := words8 count.toNat bs
      s.okIf n (es.all (aliasEntryOk s.topo)) fun s =>
        let put := fun (t : Tab Nat) (ie : Nat × Nat) => tput 0 t (first.toNat + ie.1) ie.2
        s.setAliasBank b (((List.range count.toNat).zip es).foldl put (s.aliasBank b))

/-- Set the exclusion mask of a bank. -/
def State.setExcl (s : State) (b lo hi : Nat) : State :=
  if b = 0 then (s.wr R.ROUT_EXCL0_LO_EXCL lo).wr R.ROUT_EXCL0_HI_EXCL hi else (s.wr R.ROUT_EXCL1_LO_EXCL lo).wr R.ROUT_EXCL1_HI_EXCL hi

/-- EXCL_WRITE (07_dynamic_routing.md R252). -/
def execExclWrite (c : CmdRef) (bank : BitVec 8) (maskLo : BitVec 64) (maskHi : BitVec 32) (s : State) : Host.Outcome State Fault Refusal :=
  command .d 0x0202 c (pack [(1, bank.toNat), (8, maskLo.toNat), (4, maskHi.toNat)]) s fun n s =>
    if bank.toNat > 1 then s.ends n stBadParam
    else if s.bankLocked bank.toNat then s.ends n stBusy
    else (s.setExcl bank.toNat maskLo.toNat maskHi.toNat).ends n stOk

/-- FLIP (07_dynamic_routing.md R253). -/
def execFlip (c : CmdRef) (targetGt : BitVec 64) (flipId : BitVec 16) (newMode : BitVec 8) (s : State) : Host.Outcome State Fault Refusal :=
  command .d 0x0203 c (pack [(8, targetGt.toNat), (2, flipId.toNat), (1, newMode.toNat)]) s fun n s =>
    let g := targetGt.toNat
    if newMode.toNat > 3 || g < s.gt + 1600000 || g > s.gt + 160000000000 || !s.bankValid (1 - s.activeBank) ||
        flipId.toNat ≠ (s.rd R.ROUT_BANK_LAST_ID + 1) % 65536 then s.ends n stBadParam
    else if s.on R.ROUT_BANK_ARMED || s.on R.ROUT_BANK_HOLDING then s.ends n stBusy
    else if s.geysState = gsEstimated || s.geysState = gsInvalid then s.ends n stNotPermitted
    else (s.originateFlip g flipId.toNat newMode.toNat 8).ends n stOk

/-- TRANSIT_OFF (07_dynamic_routing.md R267). -/
def execTransitOff (c : CmdRef) (off : BitVec 8) (s : State) : Host.Outcome State Fault Refusal :=
  command .d 0x0204 c (pack [(1, off.toNat)]) s fun n s => s.okIf n (off.toNat ≤ 1) fun s => s.setTransitOff (off.toNat = 1)

/-- TOPO_SET (02_grid_and_addressing.md R58, R59; 20_firmware_and_trust.md R700, R707, R708): the pending topology word, in the boot
record. -/
def execTopoSet (c : CmdRef) (topo : BitVec 64) (mramOk : Bool) (s : State) : Host.Outcome State Fault Refusal :=
  command .d 0x0205 c (pack [(8, topo.toNat)]) s fun n s =>
    if !topoValid topo.toNat then s.ends n stBadParam
    else if s.bootBusy then s.ends n stBusy
    else if !mramOk then s.bootStamp.mramFail.ends n stFailed
    else ((s.bootStamp.setNv fun x => { x with topo := some topo.toNat }).wr R.ROUT_TOPO_PEND_TOPO topo.toNat).ends n stOk

/-- COST_SET. -/
def execCostSet (c : CmdRef) (markThr : BitVec 16) (detThr detBias : BitVec 8) (s : State) : Host.Outcome State Fault Refusal :=
  command .d 0x0206 c (pack [(2, markThr.toNat), (1, detThr.toNat), (1, detBias.toNat)]) s fun n s =>
    s.okIf n (R.ROUT_COST_MARK_THR.allows markThr.toNat) fun s =>
      ((s.wr R.ROUT_COST_MARK_THR markThr.toNat).wr R.ROUT_COST_DET_THR detThr.toNat).wr R.ROUT_COST_DET_BIAS detBias.toNat

/-- A basic command that sets fields: BAD_PARAM where a value is a reserved encoding. -/
def State.setFields (s : State) (n : Nat) (l : List (RegField × Nat)) : State :=
  s.okIf n (l.all fun x => x.1.allows x.2) fun s => s.wrs l

/-- THROTTLE_SET. -/
def execThrottleSet (c : CmdRef) (aiStep mdShift rateMin aiPkts : BitVec 8) (lqThr : BitVec 16) (markEvery thrEn : BitVec 8) (s : State) :
    Host.Outcome State Fault Refusal :=
  command .d 0x0207 c (pack [(1, aiStep.toNat), (1, mdShift.toNat), (1, rateMin.toNat), (1, aiPkts.toNat), (2, lqThr.toNat),
      (1, markEvery.toNat), (1, thrEn.toNat)]) s fun n s =>
    let l := [(R.ROUT_THR_AI_STEP, aiStep.toNat), (R.ROUT_THR_MD_SHIFT, mdShift.toNat), (R.ROUT_THR_RATE_MIN, rateMin.toNat),
      (R.ROUT_THR_AI_PKTS, aiPkts.toNat), (R.ROUT_THR_LQ_THR, lqThr.toNat), (R.ROUT_THR_MARK_EVERY, markEvery.toNat),
      (R.ROUT_THR_THR_EN, thrEn.toNat)]
    s.okIf n (l.all fun x => x.1.allows x.2) fun s => (s.wrs l).epSettle

/-- ROUTE_STATUS. -/
def execRouteStatus (c : CmdRef) (s : State) : Host.Outcome State Fault Refusal :=
  command .d 0x0208 c [] s fun n s => s.okay n [(8, s.readReg 0x3000018), (4, s.bankCrc 0), (4, s.bankCrc 1)]

/-- Consecutive words of the register space, as bytes. -/
def State.regBytes (s : State) (a n : Nat) : List Byte := (List.range n).flatMap fun i => toBytes 8 (s.readReg (a + 8 * i))

/-- ROWS_READ (07_dynamic_routing.md R246). -/
def execRowsRead (c : CmdRef) (dim : BitVec 8) (outAddr : BitVec 64) (s : State) : Host.Outcome State Fault Refusal :=
  command .p 0x0209 c (pack [(1, dim.toNat), (8, outAddr.toNat)]) s fun n s =>
    s.okIf n (dim.toNat ≤ 3) fun s => s.hostWrite (cmdReq c outAddr.toNat) (s.regBytes (0x3200000 + 0x100 * dim.toNat) 32)

/-- THROTTLE_READ. -/
def execThrottleRead (c : CmdRef) (outAddr : BitVec 64) (s : State) : Host.Outcome State Fault Refusal :=
  command .p 0x020A c (pack [(8, outAddr.toNat)]) s fun n s =>
    (s.hostWrite (cmdReq c outAddr.toNat) (s.regBytes 0x3300000 1024)).ends n stOk

/-- ALIAS_READ. -/
def execAliasRead (c : CmdRef) (bank : BitVec 8) (outAddr : BitVec 64) (s : State) : Host.Outcome State Fault Refusal :=
  command .p 0x020B c (pack [(1, bank.toNat), (8, outAddr.toNat)]) s fun n s =>
    s.okIf n (bank.toNat ≤ 1) fun s => s.hostWrite (cmdReq c outAddr.toNat) (bankBytes (s.aliasBank bank.toNat))

/-- ROUTE_HOLD (01_architecture.md R52, R54). -/
def execRouteHold (c : CmdRef) (hold : BitVec 64) (s : State) : Host.Outcome State Fault Refusal :=
  command .d 0x020C c (pack [(8, hold.toNat)]) s fun n s =>
    s.okIf n (R.ROUT_HOLD_HOLD.allows hold.toNat && hold.toNat ≤ s.effLifetime) fun s => s.wr R.ROUT_HOLD_HOLD hold.toNat

/-! ### Geyser -/

/-- GM_CFG. -/
def execGmCfg (c : CmdRef) (gmPrio gmEn ppsEn ref10mEn ppsFall : BitVec 8) (s : State) : Host.Outcome State Fault Refusal :=
  command .d 0x0300 c (pack [(1, gmPrio.toNat), (1, gmEn.toNat), (1, ppsEn.toNat), (1, ref10mEn.toNat), (1, ppsFall.toNat)]) s fun n s =>
    let l := [(R.GEYS_CFG_GM_PRIO, gmPrio.toNat), (R.GEYS_CFG_GM_EN, gmEn.toNat), (R.GEYS_CFG_PPS_EN, ppsEn.toNat),
      (R.GEYS_CFG_REF10M_EN, ref10mEn.toNat), (R.GEYS_CFG_PPS_FALL, ppsFall.toNat)]
    s.okIf n (l.all fun x => x.1.allows x.2) fun s => (s.wrs l).refsChanged

/-- GEYS_LIMITS. -/
def execGeysLimits (c : CmdRef) (schedUncMax : BitVec 16) (hopUnc : BitVec 8) (stepThr holdPpb : BitVec 16) (uncInvalid : BitVec 32) (s : State) :
    Host.Outcome State Fault Refusal :=
  command .d 0x0301 c (pack [(2, schedUncMax.toNat), (1, hopUnc.toNat), (2, stepThr.toNat), (2, holdPpb.toNat), (4, uncInvalid.toNat)]) s
    fun n s =>
      let l := [(R.GEYS_LIM_SCHED_UNC_MAX, schedUncMax.toNat), (R.GEYS_LIM_HOP_UNC, hopUnc.toNat), (R.GEYS_LIM_STEP_THR, stepThr.toNat),
        (R.GEYS_LIM_HOLD_PPB, holdPpb.toNat), (R.GEYS_UNC_INV_UNC_INVALID, uncInvalid.toNat)]
      s.okIf n (l.all fun x => x.1.allows x.2) fun s => (s.wrs l).uncCheck

/-- TAI_SET (06_timebase.md R229). -/
def execTaiSet (c : CmdRef) (taiSec : BitVec 64) (utcOfs : BitVec 16) (s : State) : Host.Outcome State Fault Refusal :=
  command .d 0x0302 c (pack [(8, taiSec.toNat), (2, utcOfs.toNat)]) s fun n s =>
    if taiSec.toNat ≥ 2 ^ 48 then s.ends n stBadParam
    else if !s.isGm || !s.on R.GEYS_CFG_PPS_EN then s.ends n stNotPermitted
    else
      let s1 : State := if s.on R.GEYS_TAI_TAI_VALID then s else { s with geys := { s.geys with taiPending := some taiSec.toNat } }
      (s1.wr R.GEYS_TAI_NS_UTC_OFS utcOfs.toNat).ends n stOk

/-- GEYS_STEP (06_timebase.md R219; 08_scheduled_traffic.md R292). -/
def execGeysStep (c : CmdRef) (amount : BitVec 64) (s : State) : Host.Outcome State Fault Refusal :=
  command .d 0x0303 c (pack [(8, amount.toNat)]) s fun n s =>
    let a := amount.toInt
    if a < -(2 ^ 47 : Int) || a ≥ 2 ^ 47 then s.ends n stBadParam
    else if !s.isGm || s.schdActive then s.ends n stNotPermitted
    else (s.gmStepBy a).ends n stOk

/-- GEYS_STATUS. -/
def execGeysStatus (c : CmdRef) (s : State) : Host.Outcome State Fault Refusal :=
  command .a 0x0304 c [] s fun n s => s.okay n [(8, s.readReg 0x300008), (4, s.rd R.GEYS_UNC_UNC)]

/-- GEYS_SLEEP. -/
def execGeysSleep (c : CmdRef) (s : State) : Host.Outcome State Fault Refusal :=
  command .d 0x0305 c [] s fun n s =>
    s.okay n [(8, s.rd R.GEYS_SLP_GT_SAVED_GT), (8, s.rd R.GEYS_SLP_AON_ELAPSED + field (s.readReg 0x300070) 48 3 * 2 ^ 48)]

/-! ### Schedule -/

/-- The image's LSTEP lead in ticks, or that of SCHD_CFG where it gives none. -/
def State.leadOf (s : State) (b : Nat) : Nat :=
  16000 * (if s.imgLstepLead b = 0 then s.rd R.SCHD_CFG_LSTEP_LEAD else s.imgLstepLead b)

/-- The lowest port that fails the path check of a buffer (08_scheduled_traffic.md R288). -/
def State.pathFailure (s : State) (b : Nat) : Option Nat := (List.range 96).find? fun q => s.pathCovers b q && !s.pathOk b q

/-- SCHED_START (08_scheduled_traffic.md R287, R288, R291). -/
def execSchedStart (c : CmdRef) (buf : BitVec 8) (startGt machHash : BitVec 64) (s : State) : Host.Outcome State Fault Refusal :=
  command .d 0x0401 c (pack [(1, buf.toNat), (8, startGt.toNat), (8, machHash.toNat)]) s fun n s =>
    let b := buf.toNat
    let g := startGt.toNat
    if b > 1 then s.ends n stBadParam
    else if !s.bufValid b || machHash.toNat ≠ s.imgHash b then s.ends n stBadParam
    else if g < s.gt + 16000 * s.imgFetchLead b + max (s.leadOf b) 32000 + 1600000 || g > s.gt + 160000000000 then s.ends n stBadParam
    else match s.pathFailure b with
      | some q => s.finalReply n stBadParam (pack [(1, q)])
      | none =>
        if s.geysState ≠ gsLocked then s.ends n stNotPermitted
        else if s.schdState = ssIdle then (s.armSchedule b g).ends n stOk
        else if s.isSwitch b g then (s.planSwitch b g).ends n stOk
        else s.ends n stBusy

/-- SCHED_STOP (08_scheduled_traffic.md R289): an iteration later than the current one; without an image ARMED or RUNNING it is refused
(log 53). -/
def execSchedStop (c : CmdRef) (iter : BitVec 64) (s : State) : Host.Outcome State Fault Refusal :=
  command .d 0x0402 c (pack [(8, iter.toNat)]) s fun n s =>
    if iter.toNat ≥ 2 ^ 44 then s.ends n stBadParam
    else if !s.schdActive then s.ends n stNotPermitted
    else if s.schdState = ssRunning && iter.toNat ≤ s.iterNow then s.ends n stBadParam
    else ((s.wr R.SCHD_STOP_STOP_ITER iter.toNat).wr R.SCHD_STOP_STOP_EN 1).ends n stOk

/-- SCHED_ABORT (08_scheduled_traffic.md R309). -/
def execSchedAbort (c : CmdRef) (s : State) : Host.Outcome State Fault Refusal :=
  command .d 0x0403 c [] s fun n s => (s.abortLocal 0).ends n stOk

/-- SCHED_CLEAR. -/
def execSchedClear (c : CmdRef) (s : State) : Host.Outcome State Fault Refusal :=
  command .d 0x0404 c [] s fun n s => s.schdClear.ends n stOk

/-- SCHED_STATUS. -/
def execSchedStatus (c : CmdRef) (s : State) : Host.Outcome State Fault Refusal :=
  command .a 0x0405 c [] s fun n s =>
    s.okay n [(1, s.schdState), (2, s.breachCount), (4, s.rd R.SCHD_IMG_IMAGE_ID), (8, field (s.readReg 0x4000018) 0 44)]

/-- SCHED_CFG. -/
def execSchedCfg (c : CmdRef) (fitGuard : BitVec 8) (cutHorizon : BitVec 16) (lateTol abortThr prewarmEn lstepEn lstepLead : BitVec 8)
    (s : State) : Host.Outcome State Fault Refusal :=
  command .d 0x0406 c (pack [(1, fitGuard.toNat), (2, cutHorizon.toNat), (1, lateTol.toNat), (1, abortThr.toNat), (1, prewarmEn.toNat),
      (1, lstepEn.toNat), (1, lstepLead.toNat)]) s fun n s =>
    s.setFields n [(R.SCHD_CFG_FIT_GUARD, fitGuard.toNat), (R.SCHD_CFG_CUT_HORIZON, cutHorizon.toNat), (R.SCHD_CFG_LATE_TOL, lateTol.toNat),
      (R.SCHD_CFG_ABORT_THR, abortThr.toNat), (R.SCHD_CFG_PREWARM_EN, prewarmEn.toNat), (R.SCHD_CFG_LSTEP_EN, lstepEn.toNat),
      (R.SCHD_CFG_LSTEP_LEAD, lstepLead.toNat)]

end Sys2Proof.Machine
end

