-- ==== Sys2Proof/Machine/Functions.lean ====
section
/-! DEFINITION. The rows of functions (09_host_attach_and_queues.md R323 to R330). -/

namespace Sys2Proof.Machine

/-- FUNC_CTRL_EN_WRITE (R325): EN takes the written value, and the enable condition is evaluated again; a WEDGED function ignores
writes (R330). -/
def execFuncCtrlEnWrite (h : HPort) (f : Func) (en : Bool) (s : State) : Host.Outcome State Fault Refusal :=
  hostWrites h.val s fun s =>
    let k := ringKey h f
    if s.fnState k = fsWedged then s else (s.wrB R.FUNC_CTRL_EN en k).fnEval k

/-- FUNC_ENABLE_EVENT (R325): the host's configuration space takes new controls, and the enable condition becomes true where they
make it so. -/
def execFuncEnableEvent (h : HPort) (f : Func) (cfg : FuncCfg) (s : State) : Host.Outcome State Fault Refusal :=
  live s fun s => s.setCfg (ringKey h f) cfg

/-- FUNC_DISABLE_EVENT (R328): the host's configuration space takes new controls, and a quiesce starts where they make the
condition false. -/
def execFuncDisableEvent (h : HPort) (f : Func) (cfg : FuncCfg) (s : State) : Host.Outcome State Fault Refusal :=
  live s fun s => s.setCfg (ringKey h f) cfg

/-- FLR (R325, R326): EN is cleared and one disable event is made; configuration space goes to its reset values, VF Enable of a PF
among them, and every VF of the PF meets a disable event. -/
def execFlr (h : HPort) (f : Func) (s : State) : Host.Outcome State Fault Refusal :=
  live s fun s =>
    let k := ringKey h f
    let s0 := s.whenB (f.val = 0) (·.expertLock h.val)
    let s1 := s0.setFunc k { s0.func k with cfg := {} }
    (vfsOf k).foldl State.fnEval (s1.fnReset k)

/-- QUIESCE_COMPLETE (R328): every DMA request and revoke of the function has completed. -/
def execQuiesceComplete (h : HPort) (f : Func) (s : State) : Host.Outcome State Fault Refusal :=
  live s fun s =>
    let k := ringKey h f
    if s.fnState k = fsQuiescing && !s.fnBusy k then s.quiesceEnd k else s

/-- QUIESCE_TIMEOUT (R330): 100 ms after the entry to QUIESCING. -/
def execQuiesceTimeout (h : HPort) (f : Func) (s : State) : Host.Outcome State Fault Refusal :=
  live s fun s =>
    let k := ringKey h f
    if s.fnState k = fsQuiescing then s.wedge k else s

/-- DMA_READ_ERROR (R323): DMA_ERR and the HIF source. What follows for the object read is the effect of the row that the read
belongs to, which is then sent without bytes. -/
def execDmaReadError (h : HPort) (f : Func) (s : State) : Host.Outcome State Fault Refusal :=
  live s fun s => s.dmaError (ringKey h f)

end Sys2Proof.Machine
end

