-- ==== Sys2Proof/Machine/Translation.lean ====
section
/-! DEFINITION. The rows of the translation unit (10_translation.md R373, R386 to R394, R398). -/

namespace Sys2Proof.Machine

/-- WALK_ENTRY_RETURN (R373): the entry that walker `w` reads; none: the read failed under R323. -/
def execWalkEntryReturn (w : Fin 4) (entry : Option Word) (s : State) : Host.Outcome State Fault Refusal :=
  engine s fun s =>
    s.walkReturn w.val fun x =>
      if x.stage ≠ .reading then .ok s
      else match entry with
        | some e => s.walkEntry w.val x e.toNat
        | none => .fault xfWalkErr (s.dmaError (fkey x.c.hport x.c.func))

/-- WALK_CAS_RETURN (R373, R375): the old value of the entry whose A or M is being set; none: the request failed. -/
def execWalkCasReturn (w : Fin 4) (old : Option Word) (s : State) : Host.Outcome State Fault Refusal :=
  engine s fun s =>
    s.walkReturn w.val fun x =>
      match x.stage with
      | .reading => .ok s
      | .swapping k => match old with
        | some v => s.walkSwapped w.val x k v.toNat
        | none => .fault xfWalkErr (s.dmaError (fkey x.c.hport x.c.func))

/-- INVALIDATION_COMPLETE (R387): the oldest accepted invalidation, once its conditions hold. -/
def execInvalidationComplete (s : State) : Host.Outcome State Fault Refusal :=
  engine s fun s =>
    match s.xlt.invals with
    | [] => s
    | v :: t =>
      if !s.invalDone v then s
      else (({ s with xlt := { s.xlt with invals := t } } : State).bump C.XLT_INVALIDATIONS).invalTell v

/-- PARK_TIMEOUT (R394). The timer keeps running in MOSS, whose exit then gives the outcome (01_architecture.md R50). -/
def execParkTimeout (slot : Fin 1024) (s : State) : Host.Outcome State Fault Refusal :=
  live s fun s =>
    let i := slot.val
    if s.powerState = psExit then s
    else if s.powerState = psMoss then (if (s.park i).used then s.setPark i { s.park i with expired := true } else s)
    else s.parkExpire i

/-- The scope of a code (Tables 10.4 and 10.8). -/
def scopeOf (c : Nat) : InvScope := if c = 0 then .range else if c = 1 then .ctx else if c = 2 then .ctxNonglobal else .all

/-- XLT_INV_GO_WRITE (R387, R398). -/
def execXltInvGoWrite (bit : Bool) (s : State) : Host.Outcome State Fault Refusal :=
  live s fun s =>
    if !bit || s.on R.XLT_INV_STAT_BUSY then s
    else
      let v : Inval := {
        scope := scopeOf (s.rd R.XLT_INV_CTRL_SCOPE), ctx := s.rd R.XLT_INV_CTRL_CTX, va := s.rd R.XLT_INV_VA_VA * 4096
        pages := s.rd R.XLT_INV_CNT_PAGES, src := .expert, upto := s.host.dma }
      (s.wr R.XLT_INV_STAT_BUSY 1).invalAccept v (s.on R.XLT_INV_CTRL_WC)

end Sys2Proof.Machine
end

