-- ==== Sys2Proof/Machine/CmdHost.lean ====
section
/-! DEFINITION. The opcodes of the groups host and queues, and translation (16_command_packets.md Table 16.7). -/

namespace Sys2Proof.Machine

/-! ### Queue pairs, event queues and functions -/

/-- R748 for a translation context: not VALID, or of another function. -/
def State.ownCtx (s : State) (n : Nat) (c : CmdRef) (ctx : Nat) (f : State → State) : State :=
  let x := s.ctx ctx
  s.owned n c x.valid (fkey x.hport x.func) f

/-- R748 for a queue pair. -/
def State.ownQp (s : State) (n : Nat) (c : CmdRef) (q : Nat) (f : Qp → State) : State :=
  let x := s.qp q
  s.owned n c x.valid x.func fun _ => f x

def ringLog (l : Nat) : Bool := 6 ≤ l && l ≤ 16
def pageAligned (a : Nat) : Bool := a % 4096 = 0

/-- A job is bound with this generation (02_grid_and_addressing.md R74). -/
def State.jobIs (s : State) (job gen : Nat) : Bool := s.jobBound job && s.jobGenOf job = gen

/-- What QP_CREATE checks beside the objects it names (R331, R337, R351, R74). -/
def State.qpParamsOk (s : State) (p : QpParams) : Bool :=
  ringLog p.sqLog && ringLog p.rqLog && ringLog p.cqLog && pageAligned p.sqBase && pageAligned p.rqBase && pageAligned p.cqBase &&
    p.dbMode ≤ 2 && (p.dbMode ≠ 2 || s.on R.HIF_PORT_LINK_CXL p.hport) && (p.dbMode = 0 || p.record % 64 = 0) && p.batchN ≠ 1 &&
    s.jobIs p.job p.gen

/-- QP_CREATE (09_host_attach_and_queues.md R331, R332; 10_translation.md R382; R748). -/
def execQpCreate (c : CmdRef) (ctx job : BitVec 16) (gen sqLog rqLog cqLog dbMode batchN : BitVec 8) (eq : BitVec 16)
    (sqBase rqBase cqBase record : BitVec 64) (s : State) : Host.Outcome State Fault Refusal :=
  command .f 0x0500 c (pack [(2, ctx.toNat), (2, job.toNat), (1, gen.toNat), (1, sqLog.toNat), (1, rqLog.toNat), (1, cqLog.toNat),
      (1, dbMode.toNat), (1, batchN.toNat), (2, eq.toNat), (8, sqBase.toNat), (8, rqBase.toNat), (8, cqBase.toNat), (8, record.toNat)]) s
    fun n s =>
      let k := pathFn c.path
      let p : QpParams := {
        hport := keyPort k, func := keyFunc k, ctx := ctx.toNat, job := job.toNat, gen := gen.toNat, sqLog := sqLog.toNat
        rqLog := rqLog.toNat, cqLog := cqLog.toNat, dbMode := dbMode.toNat, batchN := batchN.toNat, eq := eq.toNat, sqBase := sqBase.toNat
        rqBase := rqBase.toNat, cqBase := cqBase.toNat, record := record.toNat }
      s.forServed n c fun s => s.ownCtx n c p.ctx fun s =>
        if !(s.eqAt k p.eq).valid || !s.qpParamsOk p then s.ends n stBadParam
        else if s.freeQp.isNone || (s.freeSlot k).isNone then s.ends n stExhausted
        else (s.setWait n (.qpRing p [])).ringWalk n

/-- EQ_CREATE (09_host_attach_and_queues.md R354; 10_translation.md R382; R748). The event queue's number is its vector (log 56). -/
def execEqCreate (c : CmdRef) (ctx vec : BitVec 16) (log : BitVec 8) (base : BitVec 64) (s : State) : Host.Outcome State Fault Refusal :=
  command .f 0x0501 c (pack [(2, ctx.toNat), (2, vec.toNat), (1, log.toNat), (8, base.toNat)]) s fun n s =>
    let k := pathFn c.path
    let p : EqParams := { hport := keyPort k, func := keyFunc k, ctx := ctx.toNat, vec := vec.toNat, log := log.toNat, base := base.toNat }
    s.forServed n c fun s => s.ownCtx n c p.ctx fun s =>
      if p.vec ≥ maxVec k || (s.eqAt k p.vec).valid || !ringLog p.log || !pageAligned p.base then s.ends n stBadParam
      else (s.setWait n (.eqRing p [])).ringWalk n

/-- The function a FUNC parameter names (R588): the issuer's own, or a VF of an issuing PF. -/
def State.namedFn (s : State) (n : Nat) (c : CmdRef) (func : Nat) (f : Nat → State) : State :=
  let k := pathFn c.path
  if func > 63 then s.ends n stBadParam
  else if func ≠ keyFunc k && keyFunc k ≠ 0 then s.ends n stNotPermitted
  else f (fkey (keyPort k) func)

/-- FUNC_RESET (09_host_attach_and_queues.md R325; R587). -/
def execFuncReset (c : CmdRef) (func : BitVec 8) (s : State) : Host.Outcome State Fault Refusal :=
  command .f 0x0502 c (pack [(1, func.toNat)]) s fun n s =>
    s.namedFn n c func.toNat fun k =>
      let s1 := (s.setWait n (.funcReset k)).fnReset k
      if s.fnState k = fsWedged then s1.ends n stFailed
      else if s1.fnState k = fsQuiescing then s1 else s1.ends n stOk

/-- FUNC_STATUS. -/
def execFuncStatus (c : CmdRef) (func : BitVec 8) (s : State) : Host.Outcome State Fault Refusal :=
  command .f 0x0503 c (pack [(1, func.toNat)]) s fun n s => s.namedFn n c func.toNat fun k => s.okay n [(8, s.readBar0 k 8)]

/-- QP_STATUS. -/
def execQpStatus (c : CmdRef) (qidx : BitVec 32) (s : State) : Host.Outcome State Fault Refusal :=
  command .f 0x0504 c (pack [(4, qidx.toNat)]) s fun n s =>
    s.ownQp n c qidx.toNat fun x => s.okay n [(8, x.stateWord), (4, x.sqCi), (4, x.cqPi)]

/-- HELD_STATUS. -/
def execHeldStatus (c : CmdRef) (s : State) : Host.Outcome State Fault Refusal :=
  command .p 0x0505 c [] s fun n s => s.okay n [(4, s.heldUsed)]

/-- HPORT_CFG (R321). -/
def execHportCfg (c : CmdRef) (cxlEn : BitVec 8) (s : State) : Host.Outcome State Fault Refusal :=
  command .p 0x0506 c (pack [(1, cxlEn.toNat)]) s fun n s =>
    s.okIf n (cxlEn.toNat ≤ 1) fun s => s.wr R.HIF_PORT_CFG_CXL_EN cxlEn.toNat (pathPort c.path)

/-- POLL_RATE. -/
def execPollRate (c : CmdRef) (rate : BitVec 8) (s : State) : Host.Outcome State Fault Refusal :=
  command .d 0x0507 c (pack [(1, rate.toNat)]) s fun n s => s.setFields n [(R.QUE_CFG_POLL_RATE, rate.toNat)]

/-! ### Jobs (02_grid_and_addressing.md R72 to R82) -/

/-- The bound jobs. -/
def State.jobs (s : State) : List Nat := (s.host.jobSlot.filter fun kv => kv.2 ≠ 0).map Prod.fst

def tableMib (ranks : Nat) : Nat := (ranks + 131071) / 131072

/-- The rank tables in use, in MiB of region 7. -/
def State.tableRuns (s : State) : List (Nat × Nat) :=
  s.jobs.map fun j => ((tget 0 s.host.jobTable j - s.regionBase 7) / 2 ^ 20, tableMib (tget 0 s.host.jobRanks j))

/-- The lowest free job slot. -/
def State.freeJobSlot (s : State) : Option Nat :=
  let used := s.host.jobSlot.map Prod.snd
  ((List.range (used.length + 1)).find? fun i => !used.contains (i + 1)).filter fun i => i < 4096

/-- The cells of a span of HBM read 0. -/
def State.hbmClear (s : State) (a n : Nat) : State := { s with hbm := s.hbm.filter fun kv => !(a ≤ kv.1 && kv.1 < a + n) }

/-- Bind a job: its slot, its generation and an empty rank table (R82). -/
def State.bindJob (s : State) (job ranks slot mib : Nat) : State :=
  let a := s.regionBase 7 + mib * 2 ^ 20
  let s1 := s.hbmClear a (tableMib ranks * 2 ^ 20)
  let last := tget 0 s1.host.jobGen job
  { s1 with host := { s1.host with
    jobGen := tput 0 s1.host.jobGen job (if last = 256 then 1 else last + 1), jobSlot := tput 0 s1.host.jobSlot job (slot + 1)
    jobRanks := tput 0 s1.host.jobRanks job ranks, jobTable := tput 0 s1.host.jobTable job a } }

/-- JOB_BIND (R82). -/
def execJobBind (c : CmdRef) (job : BitVec 16) (ranks : BitVec 32) (s : State) : Host.Outcome State Fault Refusal :=
  command .d 0x0508 c (pack [(2, job.toNat), (4, ranks.toNat)]) s fun n s =>
    let j := job.toNat
    let r := ranks.toNat
    if j = 0 || r < 1 || r > 16777216 then s.ends n stBadParam
    else if s.jobBound j then s.ends n stBusy
    else match s.freeJobSlot, freeRun s.tableRuns 0 (s.regionSize 7 / 2 ^ 20) (tableMib r) with
      | some slot, some mib =>
        let s1 := s.bindJob j r slot mib
        s1.okay n [(1, s1.jobGenOf j), (8, tget 0 s1.host.jobTable j)]
      | _, _ => s.ends n stExhausted

/-- A queue pair, a window that has not been revoked, or a group names the job. -/
def State.jobInUse (s : State) (j : Nat) : Bool :=
  (s.host.qps.any fun kv => kv.2.valid && kv.2.p.job = j) ||
    (s.win.wins.any fun kv => (kv.2.state = wsOpen || kv.2.state = wsRevoking) && kv.2.job = j) ||
    s.coll.groups.any fun kv => kv.2.valid && kv.2.p.job = j

/-- JOB_RELEASE (R82). -/
def execJobRelease (c : CmdRef) (job : BitVec 16) (gen : BitVec 8) (s : State) : Host.Outcome State Fault Refusal :=
  command .d 0x0509 c (pack [(2, job.toNat), (1, gen.toNat)]) s fun n s =>
    let j := job.toNat
    if !s.jobIs j gen.toNat then s.ends n stBadParam
    else if s.jobInUse j then s.ends n stBusy
    else
      let h := s.host
      ({ s with host := { h with
        jobSlot := tput 0 h.jobSlot j 0, jobRanks := tput 0 h.jobRanks j 0, jobTable := tput 0 h.jobTable j 0 } } : State).ends n stOk

/-- A rank-table entry that RANK_WRITE and RANK_BULK take (Table 2.2, R82). -/
def State.rankEntryOk (s : State) (e : Nat) : Bool := field e 46 17 = 0 && (field e 63 1 = 0 || s.validPid (field e 0 20))

/-- RANK_WRITE (R80, R82). -/
def execRankWrite (c : CmdRef) (job : BitVec 16) (gen : BitVec 8) (rank : BitVec 32) (entry : BitVec 64) (s : State) :
    Host.Outcome State Fault Refusal :=
  command .d 0x050A c (pack [(2, job.toNat), (1, gen.toNat), (4, rank.toNat), (8, entry.toNat)]) s fun n s =>
    let j := job.toNat
    s.okIf n (s.jobIs j gen.toNat && rank.toNat < tget 0 s.host.jobRanks j && s.rankEntryOk entry.toNat) fun s =>
      s.hbmStore (tget 0 s.host.jobTable j + 8 * rank.toNat) (toBytes 8 entry.toNat)

/-- RANK_BULK (R82, R749). -/
def execRankBulk (c : CmdRef) (job : BitVec 16) (gen : BitVec 8) (first count : BitVec 32) (addr : BitVec 64) (data : HostRead) (s : State) :
    Host.Outcome State Fault Refusal :=
  command .p 0x050B c (pack [(2, job.toNat), (1, gen.toNat), (4, first.toNat), (4, count.toNat), (8, addr.toNat)]) s fun n s =>
    let j := job.toNat
    if !s.jobIs j gen.toNat || first.toNat + count.toNat > tget 0 s.host.jobRanks j then s.ends n stBadParam
    else s.withBuffer n c addr.toNat (8 * count.toNat) data [] fun s bs =>
      s.okIf n ((words8 count.toNat bs).all s.rankEntryOk) fun s => s.hbmStore (tget 0 s.host.jobTable j + 8 * first.toNat) bs

/-- JOB_STATUS (R82). -/
def execJobStatus (c : CmdRef) (job : BitVec 16) (s : State) : Host.Outcome State Fault Refusal :=
  command .d 0x050C c (pack [(2, job.toNat)]) s fun n s =>
    let j := job.toNat
    if !s.jobBound j then s.ends n stBadParam
    else s.okay n [(1, s.jobGenOf j), (2, tget 0 s.host.jobSlot j - 1), (4, tget 0 s.host.jobRanks j), (8, tget 0 s.host.jobTable j)]

/-! ### Translation contexts (10_translation.md R363 to R365) -/

/-- The lowest free context of the device's own half. -/
def State.freeCtx (s : State) : Option Nat :=
  let (base, n) := s.ownHalf 65536
  let used := (s.xlt.ctxs.filter fun kv => kv.2.valid && base ≤ kv.1 && kv.1 < base + n).map Prod.fst
  ((List.range (used.length + 1)).find? fun i => i < n && !used.contains (base + i)).map fun i => base + i

/-- CTX_CREATE (R363, R364, R748). -/
def execCtxCreate (c : CmdRef) (levels priv supDataU amEn parkEn : BitVec 8) (pasid : BitVec 32) (root : BitVec 64) (s : State) :
    Host.Outcome State Fault Refusal :=
  command .f 0x0600 c (pack [(1, levels.toNat), (1, priv.toNat), (1, supDataU.toNat), (1, amEn.toNat), (1, parkEn.toNat), (4, pasid.toNat),
      (8, root.toNat)]) s fun n s => s.forServed n c fun s =>
    let k := pathFn c.path
    let bits := priv.toNat ≤ 1 && supDataU.toNat ≤ 1 && amEn.toNat ≤ 1 && parkEn.toNat ≤ 1
    if keyFunc k ≠ 0 && priv.toNat ≠ 0 then s.ends n stNotPermitted
    else if levels.toNat > 2 || root.toNat % 4096 ≠ 0 || root.toNat ≥ 2 ^ 52 || !s.inWalkRange (keyPort k) root.toNat ||
        (amEn.toNat = 1 && !(s.func k).cfg.atomicEn) || !bits || pasid.toNat ≥ 2 ^ 20 then s.ends n stBadParam
    else match s.freeCtx with
      | none => s.ends n stExhausted
      | some i =>
        if s.fnState k ≠ fsEnabled then s.ends n stNotPermitted
        else
          let x : CtxFields := {
            valid := true, hport := keyPort k, func := keyFunc k, pasid := pasid.toNat, levels := levels.toNat, root := root.toNat / 4096
            priv := priv.toNat = 1, supDataU := supDataU.toNat = 1, amEn := amEn.toNat = 1, parkEn := parkEn.toNat = 1 }
          let (g, s1) := (s.setCtx i x).mirror (.ctx i x)
          s1.replyAfter g n stOk (pack [(2, i)])

/-- A queue pair, an event queue, a window or a park slot refers to a context (R365). -/
def State.ctxInUse (s : State) (ctx : Nat) : Bool :=
  (s.host.qps.any fun kv => kv.2.valid && kv.2.p.ctx = ctx) || (s.host.eqs.any fun kv => kv.2.valid && kv.2.p.ctx = ctx) ||
    (s.win.wins.any fun kv => (kv.2.state = wsOpen || kv.2.state = wsRevoking) && kv.2.ctx = ctx) || (s.parkedBy fun p => p.ctx = ctx) || s.cmd.started.any fun c => match c.wait with
      | .qpRing p _ => p.ctx = ctx
      | .eqRing p _ => p.ctx = ctx
      | _ => false

/-- CTX_RELEASE (R365): an invalidation with scope CTX, then VALID clears. A second release of the context meets BUSY. -/
def execCtxRelease (c : CmdRef) (ctx : BitVec 16) (s : State) : Host.Outcome State Fault Refusal :=
  command .f 0x0601 c (pack [(2, ctx.toNat)]) s fun n s =>
    let i := ctx.toNat
    s.ownCtx n c i fun s =>
      if s.ctxInUse i || s.cmd.started.any fun x => x.wait = .ctxRelease i then s.ends n stBusy
      else
        let v : Inval := { scope := .ctx, ctx := i, va := 0, pages := 0, src := .cmd n, upto := s.host.dma }
        (s.setWait n (.ctxRelease i)).invalAccept v true

/-- Basic invalidations accepted and not complete (R388). -/
def State.basicInvals (s : State) : Nat := (s.cmd.started.filter fun c => c.wait = .invalidate).length

/-- INVALIDATE (R386 to R388). -/
def execInvalidate (c : CmdRef) (scope wc : BitVec 8) (ctx : BitVec 16) (pages : BitVec 32) (va : BitVec 64) (s : State) :
    Host.Outcome State Fault Refusal :=
  command .f 0x0602 c (pack [(1, scope.toNat), (1, wc.toNat), (2, ctx.toNat), (4, pages.toNat), (8, va.toNat)]) s fun n s =>
    let rest := fun s : State =>
      if scope.toNat > 3 || wc.toNat > 1 || (scope.toNat = 0 && pages.toNat = 0) then s.ends n stBadParam
      else if scope.toNat = 3 && keyFunc (pathFn c.path) ≠ 0 then s.ends n stNotPermitted
      else if s.basicInvals ≥ 16 then s.ends n stBusy
      else
        let v : Inval := {
          scope := scopeOf scope.toNat, ctx := ctx.toNat, va := va.toNat, pages := pages.toNat, src := .cmd n, upto := s.host.dma }
        (s.setWait n .invalidate).invalAccept v (wc.toNat = 1)
    if scope.toNat = 3 then rest s else s.ownCtx n c ctx.toNat rest

/-- PARK_RESOLVE (R393): 0 RESUME, 1 FAIL. -/
def execParkResolve (c : CmdRef) (parkId : BitVec 16) (parkGen action : BitVec 8) (s : State) : Host.Outcome State Fault Refusal :=
  command .f 0x0603 c (pack [(2, parkId.toNat), (1, parkGen.toNat), (1, action.toNat)]) s fun n s =>
    let i := parkId.toNat
    let p := s.park i
    s.owned n c (i < 1024 && p.used) (s.qp p.q).func fun s =>
      s.okIf n (p.gen = parkGen.toNat && action.toNat ≤ 1) fun s => if action.toNat = 0 then s.parkResume i else s.parkFail i

/-- WALK_RANGE (R378, R379). -/
def execWalkRange (c : CmdRef) (index en : BitVec 8) (base limit : BitVec 64) (s : State) : Host.Outcome State Fault Refusal :=
  command .p 0x0604 c (pack [(1, index.toNat), (1, en.toNat), (8, base.toNat), (8, limit.toNat)]) s fun n s =>
    let h := pathPort c.path
    let i := index.toNat
    let page := fun a : Nat => a % 4096 = 0 && a < 2 ^ 52
    s.okIf n (i ≤ 15 && en.toNat ≤ 1 && page base.toNat && page limit.toNat && base.toNat ≤ limit.toNat) fun s =>
      ((s.wr R.XLT_WR_BASE_EN en.toNat h i).wr R.XLT_WR_BASE_BASE (base.toNat / 4096) h i).wr R.XLT_WR_LIMIT_LIMIT (limit.toNat / 4096) h i

/-- XLT_TIMERS. -/
def execXltTimers (c : CmdRef) (maxAge parkTime : BitVec 64) (s : State) : Host.Outcome State Fault Refusal :=
  command .d 0x0605 c (pack [(8, maxAge.toNat), (8, parkTime.toNat)]) s fun n s =>
    s.setFields n [(R.XLT_AGE_MAX_AGE, maxAge.toNat), (R.XLT_PARK_PARK_TIME, parkTime.toNat)]

/-- CTX_STATUS. -/
def execCtxStatus (c : CmdRef) (ctx : BitVec 16) (s : State) : Host.Outcome State Fault Refusal :=
  command .f 0x0606 c (pack [(2, ctx.toNat)]) s fun n s =>
    s.ownCtx n c ctx.toNat fun s => s.okay n [(8, ctxView (s.ctx ctx.toNat)), (8, (s.ctx ctx.toNat).root * 4096)]

end Sys2Proof.Machine
end

