-- ==== Sys2Proof/Machine/Pair.lean ====
section
/-! DEFINITION. The rows of pair operation (15_pair_operation.md R543 to R570). -/

namespace Sys2Proof.Machine

/-- CARR_HEARTBEAT_SEND (R543): on CARR port P94 or P95 while it is UP. -/
def execCarrHeartbeatSend (p : Fin 2) (s : State) : Host.Outcome State Fault Refusal :=
  live s fun s => if s.paired && s.linkState (94 + p.val) = lkUp && s.phase ≠ phStartup then s.emit (.carr (94 + p.val) 3 s.heartbeat) else s

/-- CARR_UNIT_RECEIVE (R543, R544): a unit that is neither record nor acknowledgement; a heartbeat updates what is known of the mate. -/
def execCarrUnitReceive (flit : Flit) (s : State) : Host.Outcome State Fault Refusal :=
  live s fun s =>
    if !s.paired || s.phase = phStartup then s
    else
      let s1 := s.unitSeen
      if field flit.toNat 0 8 = 0xF1 then (s1.bump C.PAIR_HEARTBEATS_RX).takeHeartbeat flit else s1

/-- CARR_SILENCE_EXPIRE (R544): 64 µs (102,400 cycles of CLK_GT) with a CARR link UP and no unit of the mate, or neither link UP or LP. -/
def execCarrSilenceExpire (s : State) : Host.Outcome State Fault Refusal :=
  live s fun s =>
    let a := s.linkState 94
    let b := s.linkState 95
    let silent := (a = lkUp || b = lkUp) && s.time.cycles ≥ s.pair.lastUnit + 102400
    let gone := !(a = lkUp || a = lkLp || b = lkUp || b = lkLp)
    if s.paired && s.pairState ≠ psUnpaired && (silent || gone) then s.loseCarr else s

/-- MATE_ALIVE_EDGE (R545). -/
def execMateAliveEdge (s : State) : Host.Outcome State Fault Refusal :=
  if s.up then
    fin (if s.paired && s.mateDead then (s.wr R.PAIR_STATUS_ALIVE_OK 1).pairSignals
      else if s.pair.doubt then s.aloneNow else s)
  else .next s

/-- MATE_ALIVE_SILENCE (R545): 150 µs without an edge; also a wake source (17_reset_power_supplies.md Table 17.8). -/
def execMateAliveSilence (s : State) : Host.Outcome State Fault Refusal :=
  if s.up then
    fin (if s.paired && !s.mateDead then
      (((s.wr R.PAIR_STATUS_ALIVE_OK 0).wr R.PAIR_EVENT_MATE_DEAD 1).pairSignals).wakeLatch wkMateDead 0 else s)
  else .next s

/-- MIRROR_RECORD_RECEIVE (R542, R548, R549): MSEQ and content; none: a reserved MTYPE, or a reserved bit set to 1. -/
def execMirrorRecordReceive (mseq : W32) (r : Option MirRec) (s : State) : Host.Outcome State Fault Refusal :=
  live s fun s =>
    if !s.paired || s.phase = phStartup || s.pairState = psUnpaired then s
    else match r with
      | none => s.sessionBroken
      | some r => s.unitSeen.takeRec mseq.toNat r

/-- MIRROR_ACK_RECEIVE (R543, R549). -/
def execMirrorAckReceive (flit : Flit) (s : State) : Host.Outcome State Fault Refusal :=
  live s fun s =>
    if !s.paired || s.phase = phStartup || field flit.toNat 0 8 ≠ 0xF0 then s
    else s.unitSeen.takeAck (field flit.toNat 32 32)

/-- MIRROR_TIMEOUT (R553): a record has been unacknowledged for MIRROR_TMO, in µs of 1,600 cycles of CLK_GT. -/
def execMirrorTimeout (s : State) : Host.Outcome State Fault Refusal :=
  live s fun s =>
    let late := fun c : Nat => s.time.cycles ≥ c + 1600 * s.rd R.PAIR_CFG_MIRROR_TMO
    if s.pairState = psPaired && s.pair.unacked.any fun x => x.sentAt.any late then
      ((s.wr R.PAIR_EVENT_MIRROR_TMO 1).raise pgPair 2).enterSolo
    else s

/-- PAIR_START_TIMEOUT (R553): MATE_DEAD for 1 s with no session. In SOLO the two signals count (Table 15.3). -/
def execPairStartTimeout (s : State) : Host.Outcome State Fault Refusal :=
  live s fun s => if s.paired && s.phase ≠ phStartup && s.pairState = psStart && s.mateDead && !s.pair.session then s.enterSolo.pairSignals else s

/-- MOVE_QUIESCE_START (R565): from 1 ms before G the giving device starts no new operation on the moving QPs. -/
def execMoveQuiesceStart (s : State) : Host.Outcome State Fault Refusal :=
  live s fun s => match s.pair.move with
    | some m =>
      if m.giving && s.gt + 16000000 ≥ m.target then { s with pair := { s.pair with move := some { m with quiet := true } } } else s
    | none => s

/-- MOVE_YIELD (R565, R567): GT has reached G. `verified`: the returning device's write of its incarnation to MRAM verified; where it did not,
the return is refused, and what MRAM then holds is free (log 194). -/
def execMoveYield (verified : Bool) (s : State) : Host.Outcome State Fault Refusal :=
  live s fun s => match s.pair.move with
    | some m =>
      if s.gt < m.target then s
      else if m.isReturn && !verified then
        let s1 := ({ s with pair := { s.pair with move := none, returnInc := none } } : State).wr R.PAIR_MOVE_GT 0
        if m.giving then s1
        else
          let (v, s2) := s1.draw 32
          { s2 with nv := { s2.nv with inc := v } }
      else if m.giving then s.yieldGive m
      else if m.yielded then s.yieldTake m
      else { s with pair := { s.pair with move := some { m with verified := true } } }
    | none => s

/-- MOVE_STALE_WINDOW_END (R566). -/
def execMoveStaleWindowEnd (s : State) : Host.Outcome State Fault Refusal :=
  live s fun s => match s.pair.stale with
    | some (_, _, g) => if s.gt ≥ g then { s with pair := { s.pair with stale := none } } else s
    | none => s

/-- PAIR_CTRL_MODE_WRITE (R551, R553). -/
def execPairCtrlModeWrite (relaxed : Bool) (s : State) : Host.Outcome State Fault Refusal :=
  live s fun s => s.pairMode relaxed

/-- PAIR_CTRL_TAKEOVER_WRITE (R553, R560, Table 15.9): effective in SOLO only. -/
def execPairCtrlTakeoverWrite (bit : Bool) (s : State) : Host.Outcome State Fault Refusal :=
  live s fun s => if bit && s.pairState = psSolo then s.takeover false else s

end Sys2Proof.Machine
end

