-- ==== Sys2Proof/Machine/Transport.lean ====
section
/-! DEFINITION. The rows of transport contexts (11_transport_and_windows.md R401 to R432). -/

namespace Sys2Proof.Machine

def tcOf (adopted : Bool) (pid : Pid) : Nat := tcKey (bNat adopted) pid.toNat

/-- TC_CACHE_LOAD (R401). -/
def execTcCacheLoad (adopted : Bool) (pid : Pid) (s : State) : Host.Outcome State Fault Refusal :=
  engine s fun s => s.touchTc (tcOf adopted pid)

/-- TC_DEADLINE_SWEEP (R402): the sweep loses no deadline; what a deadline does is the effect of RETRANSMIT_TIMER_EXPIRE and
TC_GIVEUP_EXPIRE, which are sent when one is met, cached or not. -/
def execTcDeadlineSweep (s : State) : Host.Outcome State Fault Refusal := live s fun s => s

/-! ### Forming packets (R403 to R405, R427, R428) -/

/-- The first of two operations of a QP comes first: by SQ index, or by their start where one is a fired target. -/
def ownerBefore (o p : Nat) (a b : Owner) : Bool :=
  match a, b with
  | .sq _ i, .sq _ j => idxBefore i j
  | _, _ => o < p

/-- A SEND of the SQ before index `i` that has not started, and that no launch has skipped, goes to the peer of a context. -/
def State.sendWaits (s : State) (q i k : Nat) : Bool :=
  let x := s.qp q
  x.sq.any fun d => idxBefore d.x i && d.state = .fetched && dOp d.desc = 0x10 && (s.skipOf q d.x).isNone &&
    match (s.resolveFor (.sq q d.x) x.p.job (field d.desc 128 24)).1 with
    | .ok t => tcKey (s.tcSet x.p.hport) t.pid = k
    | .error _ => false

/-- An earlier send of the same SQ to the same peer has packets still to be formed (12_message_matching.md R454). -/
def State.sendBehind (s : State) (o : Nat) (x : XOp) : Bool :=
  let snd := fun k : OpKind => k = .eager || k = .rts
  snd x.kind && ((s.tpt.ops.any fun kv => match kv.2 with
    | some y => kv.1 ≠ o && ownerBefore kv.1 o y.owner x.owner && y.q = x.q && y.tc = x.tc && snd y.kind && !y.converted && y.status = csOk &&
        (if y.kind = .rts then !y.rtsSent else y.next < y.count)
    | none => false) || match x.owner with
      | .sq q i => s.sendWaits q i x.tc
      | _ => false)

/-- Packets of the operation are still to be formed. -/
def XOp.unformed (x : XOp) : Bool := if x.kind = .rts then !x.rtsSent && (x.status = csOk || x.converted) else x.status = csOk && x.next < x.count

/-- The host memory a packet's forming touches: address, bytes, access; none for a packet without data of its own. -/
def XOp.formSpan (x : XOp) : Option (Nat × Nat × AccKind) :=
  match x.kind with
  | .write | .eager => if x.share x.next = 0 then none else some (x.laddr + 4096 * x.next, x.share x.next, .read)
  | .read => some (x.laddr + 4096 * x.next, x.share x.next, .write)
  | _ => none

/-- The operation's RESERVE record goes out before its first packet (15_pair_operation.md Table 15.6). -/
def State.reserve (s : State) (o : Nat) (x : XOp) (opid seq : Nat) : State :=
  let rec_ := fun sqx fired => s.reserveRec x.q { x := sqx, opid := opid, pid := tcPid x.tc, seq := seq, count := x.count, fired := fired }
  let put := fun r : Option Nat × State =>
    if r.1.isSome then r.2.modOp o fun z => { z with gate := r.1 } else r.2
  match x.owner with
  | .sq _ sqx => put (rec_ sqx false)
  | .fired _ sqx _ => put (rec_ sqx true)
  | _ => s

/-- The first number from `n` on that is not in a list of `fuel` numbers. -/
def skipRun (l : List Nat) : Nat → Nat → Nat
  | 0, n => n
  | fuel + 1, n => if l.contains n then skipRun l fuel (n + 1) else n

/-- Packet `j` of the operation has been formed. -/
def XOp.formed (x : XOp) (j : Nat) : XOp :=
  if j = x.next then
    let n := skipRun x.ahead x.ahead.length (j + 1)
    { x with next := n, ahead := x.ahead.filter fun i => i > n }
  else if j > x.next && !x.ahead.contains j then { x with ahead := j :: x.ahead }
  else x

/-- Form packet `x.next` of an operation, whose payload has been read. -/
def State.formPkt (s : State) (o : Nat) (x : XOp) (payload : List Byte) : State :=
  let j := x.next
  let (seq, s1) := s.assignSeq x.tc
  let (opid, s2) := match x.opid with
    | some n => (n, s1)
    | none => s1.assignOpid x.tc
  let s3 := s2.setOp o (some { x.formed j with opid := some opid, rtsSent := x.kind = .rts })
  let s4 := if x.opid.isNone then s3.reserve o x opid seq else s3
  let p := formPacket (s4.opHdr x j seq 0) (some (x.ext j opid)) payload
  let a : Await := {
    seq := seq, op := some o, head := p.headD 0, ext := pktExtFlit p, laddr := x.laddr + 4096 * j }
  let s5 := s4.modTc x.tc fun t => { t with awaits := t.awaits ++ [a] }
  let e := portOf x.q
  let s6 := s5.bump C.TPT_PKT_TX
  let g := match s6.op o with
    | some z => z.gate
    | none => none
  s6.after g (.packet e 0 p) (·.inject e 0 p)

/-- Read the payload of an operation's next packet and form it. -/
def State.formNext (s : State) (o : Nat) (x : XOp) (data : HostRead) : State :=
  let ctx := (s.qp x.q).p.ctx
  match x.formSpan with
  | none => s.formPkt o x []
  | some (va, n, acc) =>
    match s.translateSpan (pagesFor n) ctx va n acc (some (engineOf x.q)) (.payload o) with
    | (.wait, s1) => s1
    | (.fault kind fva, s1) => s1.localFault (.payload o) x.q ctx fva acc kind none
    | (.ok segs, s1) =>
      if acc = .write then s1.formPkt o x []
      else
        let s2 := s1.readSegs ctx segs
        match data with
        | none => (s2.dmaError (s2.qp x.q).func).opFail o csXltLocal
        | some bs => if bs.length = n then s2.formPkt o x bs else s

/-- The engine forms packets of the operation now: a launch that is due goes first, and only launches form packets of an operation that one made,
while its QP is scheduled (08_scheduled_traffic.md R293, R294). -/
def State.formsHere (s : State) (x : XOp) : Bool := !s.launchFirst (engineOf x.q) && !(x.launched && s.scheduledQp x.q)

/-- PACKET_FORM (R403): the transmit engine forms the next packet of operation `o`; `data`: the payload the host answers. -/
def execPacketForm (o : Nat) (data : HostRead) (s : State) : Host.Outcome State Fault Refusal :=
  engine s fun s =>
    match s.op o with
    | none => s
    | some x =>
      if !x.unformed || x.winWait || !s.canForm || !s.on R.ROUT_CTRL_ADOPTED || !s.formsHere x then s
      else if s.parkedBy (fun p => p.who = .payload o) then s
      else
        let s1 := s.touchTc x.tc
        let t := s1.tc x.tc
        if t.txState = txUnreachable then s1.opFail o csPeerUnreachable
        else if t.txState ≠ txOpen then
          if t.helloOut || !s1.paceReady (tcPort x.tc) (tcPid x.tc) then s1 else s1.sendHello x.tc
        else if !s1.mayAssign x.tc || s1.sendBehind o x || s1.fabricMode = fmScheduled || !s1.paceReady (portOf x.q) (tcPid x.tc) then s1
        else s1.formNext o x data

/-! ### Acknowledgements (R415, R425) -/

/-- Take the next answer of a type: those of one receive pipeline are applied in the order in which they came (R103). -/
def State.takeAnswer (s : State) (ptype : Nat) : Option (RxPkt × State) :=
  let first := fun x : RxPkt => s.tpt.acks.find? (fun y => y.e = x.e) = some x
  match s.tpt.acks.find? fun x => hPtype (x.pkt.headD 0) = ptype && first x with
  | some x => some (x, { s with tpt := { s.tpt with acks := s.tpt.acks.erase x } })
  | none => none

/-- ACK_RECEIVE (R415). -/
def execAckReceive (s : State) : Host.Outcome State Fault Refusal :=
  engine s fun s =>
    match s.takeAnswer ptAck with
    | none => s
    | some (x, s1) =>
      let ext := pktExt x.pkt
      (s1.bump C.TPT_ACK_RX).tptAck x.tc (xCumack ext) (xSack ext)

/-- A NACK with STALE_INCARNATION (R425). -/
def State.staleNack (s : State) (k seq : Nat) : State :=
  let t := s.tc k
  let named := t.awaits.any fun a => a.seq = seq && a.awaited
  if named || (seq = 0 && t.helloOut) then (s.modTc k fun t => { t with known := false, rxSync := false }).endSession k
  else s.bump C.TPT_NACK_IGNORED

/-- A NACK that has passed the checks is applied to the packet it names. -/
def State.takeNack (s : State) (x : RxPkt) : State :=
  let ext := pktExt x.pkt
  let s1 := s.bump C.TPT_NACK_RX
  if xNakcode ext = csStaleInc then s1.staleNack x.tc (xNakseq ext)
  else
    match s1.awaitOf x.tc (xNakseq ext) with
    | some a =>
      if a.awaited && a.opid = xNakopid ext then s1.tptNack x.tc a (xNakcode ext) else s1.bump C.TPT_NACK_IGNORED
    | none => s1.bump C.TPT_NACK_IGNORED

/-- NACK_RECEIVE (R415, R417, R425). -/
def execNackReceive (s : State) : Host.Outcome State Fault Refusal :=
  engine s fun s =>
    match s.takeAnswer ptNack with
    | none => s
    | some (x, s1) => s1.takeNack x

/-! ### Timers (R416 to R419) -/

/-- Resend one awaited packet, with the payload the host answers for it: a copy, a filler, or nothing while its read is parked. -/
def State.resend (s : State) (k : Nat) (a : Await) (data : HostRead) : State :=
  let send := fun (s : State) (p : List Flit) (e : Nat) => (s.inject e 0 p).bump C.TPT_RETRANSMITS
  let fill := fun s : State => (send s (s.fillerPkt k a.seq) (tcPort k)).bump C.TPT_FILL_TX
  let q := hSqidx a.head
  let n := if hPtype a.head = ptWriteReq || hPtype a.head = ptSendEager then hPlen a.head else 0
  if a.parked then s
  else if a.filler || a.op.isNone then fill s
  else if n = 0 then send s (s.reform a []) (portOf q)
  else
    let ctx := (s.qp q).p.ctx
    match s.translateSpan (pagesFor n) ctx a.laddr n .read (some (engineOf q)) (.resend k a.seq) with
    | (.wait, s1) => s1
    | (.fault kind fva, s1) =>
      let s2 := s1.localFault (.resend k a.seq) q ctx fva .read kind none
      match s2.awaitOf k a.seq with
      | some b => if b.filler then fill s2 else s2
      | none => s2
    | (.ok segs, s1) =>
      let s2 := s1.readSegs ctx segs
      match data with
      | some bs => if bs.length = n then send s2 (s2.reform a bs) (portOf q) else s
      | none => fill ((s2.dmaError (s2.qp q).func).packetFill k a csXltLocal)

/-- Some payload page of the packets to resend still waits for a walk. -/
def State.resendWaits (s : State) (k : Nat) : List Await → Bool × State
  | [] => (false, s)
  | a :: t =>
    let q := hSqidx a.head
    let n := if hPtype a.head = ptWriteReq || hPtype a.head = ptSendEager then hPlen a.head else 0
    let r := resendWaits s k t
    if n = 0 || a.filler || a.op.isNone || a.parked then r
    else
      match r.2.translateSpan (pagesFor n) (s.qp q).p.ctx a.laddr n .read (some (engineOf q)) (.resend k a.seq) with
      | (.wait, s1) => (true, s1)
      | (_, s1) => (r.1, s1)

/-- The first copy of an awaited packet waits for the mate still: no copy goes before it (R403; 15_pair_operation.md Table 15.6). -/
def State.heldBack (s : State) (k : Nat) (a : Await) : Bool :=
  let same := fun p : List Flit => let h := p.headD 0
    takesSeq (hPtype h) && hSeq h = a.seq && hDpid h = tcPid k && hSpid h = hSpid a.head
  s.pair.waits.any fun w => match w.2 with
    | .packet _ _ p | .stage _ _ p => same p
    | _ => false

/-- RETRANSMIT_TIMER_EXPIRE (R416): `payloads` are the host's answers for the packets that carry data, in sequence order. The row is sent
again while a walk is still needed. -/
def State.retransmit (s : State) (k : Nat) (payloads : List HostRead) : State :=
  let t := s.tc k
  let due := ((t.awaits.filter fun a => a.awaited && !s.heldBack k a).mergeSort fun a b => seqSub a.seq t.txUna ≤ seqSub b.seq t.txUna).take 64
  if due.isEmpty && !t.helloOut then s
  else if (s.resendWaits k due).1 then (s.resendWaits k due).2
  else
    let s := s.touchTc k
    let carries := fun a : Await => (hPtype a.head = ptWriteReq || hPtype a.head = ptSendEager) && hPlen a.head ≠ 0 &&
      !(a.filler || a.op.isNone || a.parked)
    let step := fun (acc : State × List HostRead) (a : Await) =>
      if carries a then (acc.1.resend k a (acc.2.headD none), acc.2.drop 1) else (acc.1.resend k a none, acc.2)
    let s1 := (due.foldl step (s, payloads)).1
    let s2 := if (s1.tc k).helloOut then s1.sendHello k else s1
    s2.modTc k fun t => { t with rtoExp := min 8 (t.rtoExp + 1) }

def execRetransmitTimerExpire (adopted : Bool) (pid : Pid) (payloads : List HostRead) (s : State) : Host.Outcome State Fault Refusal :=
  engine s fun s => if s.canForm then s.retransmit (tcOf adopted pid) payloads else s

/-- TC_GIVEUP_EXPIRE (R419). -/
def execTcGiveupExpire (adopted : Bool) (pid : Pid) (s : State) : Host.Outcome State Fault Refusal :=
  engine s fun s =>
    let k := tcOf adopted pid
    if (s.tc k).awaits.any Await.awaited || (s.tc k).helloOut then s.giveUp k else s

/-! ### Handshake (R420 to R422) -/

/-- HELLO_RECEIVE (R421). -/
def State.takeHello (s : State) (x : RxPkt) : State :=
  let k := x.tc
  let h := x.pkt.headD 0
  let full := xFullinc (pktExt x.pkt)
  let next := xNextseq (pktExt x.pkt)
  let t := s.tc k
  if t.known && full ≠ t.peerInc && idxSub full t.peerInc ≥ 2 ^ 31 then s.bump C.TPT_STALE_SRC
  else
    let s1 := if t.known && full ≠ t.peerInc then s.endSession k else s
    let t1 := s1.tc k
    let d := seqSub next t1.rxExpected
    let s2 := if !t1.rxSync || (1 ≤ d && d < 2 ^ 31) then
        (s1.setTc k { t1 with peerInc := full, known := true, rxSync := true, rxExpected := next, rxBitmap := 0, inProg := [] }).reorderSweep k
      else s1
    if !s2.canForm then s2
    else
      let hd : Hdr := { s2.answerHdr k ptHelloResp (hSinc h) with }
      s2.inject x.e 3 (formPacket hd (some (extHello (s2.incOf (tcSide k)) (s2.tc k).rxExpected)) [])

def execHelloReceive (s : State) : Host.Outcome State Fault Refusal :=
  engine s fun s =>
    match s.tpt.hellos with
    | [] => s
    | x :: rest => ({ s with tpt := { s.tpt with hellos := rest } } : State).takeHello x

/-- A HELLO_RESP opens a context in HANDSHAKE whose NEXTSEQ it names. -/
def State.takeHelloResp (s : State) (x : RxPkt) : State :=
  let t := s.tc x.tc
  let full := xFullinc (pktExt x.pkt)
  let newer := t.known && full ≠ t.peerInc && idxSub full t.peerInc < 2 ^ 31
  if t.txState = txHandshake && xNextseq (pktExt x.pkt) = t.txNext then
    s.setTc x.tc { t.progress with
      rxSync := t.rxSync && !newer, peerInc := full, known := true, txState := txOpen, helloOut := false }
  else s.bump C.TPT_STALE_SRC

/-- HELLO_RESP_RECEIVE (R422). -/
def execHelloRespReceive (s : State) : Host.Outcome State Fault Refusal :=
  engine s fun s =>
    match s.tpt.helloResps with
    | [] => s
    | x :: rest => ({ s with tpt := { s.tpt with helloResps := rest } } : State).takeHelloResp x

/-! ### Reads (R431, R432) -/

/-- The host reads of a served READ_REQ fail (R323, R431). -/
def State.readFailed (s : State) (r : ServedRead) : State :=
  let s1 := ({ s with tpt := { s.tpt with reads := s.tpt.reads.eraseP fun y => y.id = r.id } } : State).winLeave r.win
  let w := s.window r.win
  (s1.dmaError (fkey w.hport w.func)).refuseFinal r.tc r.head r.ext r.e csXltRemote

/-- The bytes of a served read have been read: its READ_RESP is formed, or the read fails. -/
def State.answerRead (s : State) (r : ServedRead) (data : HostRead) : State :=
  let h := r.head
  let x := r.ext.toNat
  let s1 := ({ s with tpt := { s.tpt with reads := s.tpt.reads.eraseP fun y => y.id = r.id } } : State).winLeave r.win
  match data with
  | none => s.readFailed r
  | some bs =>
    if bs.length ≠ xRlen x then s
    else if !s1.canForm then s1.unrecorded r.tc (hSeq h)
    else
      let hd : Hdr := { s1.answerHdr r.tc ptReadResp (hSinc h) with
        plen := xRlen x, seq := hSeq h, job := hJob h, first := hFirst h, last := hLast h
        dhport := hShport h, dfunc := hSfunc h, dqidx := hSqidx h, shport := hDhport h, sfunc := hDfunc h, sqidx := hDqidx h }
      let p := formPacket hd (some (extResp (xOplen x) (xOpoff x) (xOpid x) 0)) bs
      ((s1.inject r.e 3 p).bump C.WIN_BYTES_READ 0 (xRlen x)).recordSeq r.tc (hSeq h) r.e

/-- READ_RESP_FORM (R431): the host reads numbered `id` return. -/
def execReadRespForm (id : Nat) (data : HostRead) (s : State) : Host.Outcome State Fault Refusal :=
  engine s fun s =>
    match s.tpt.reads.find? fun r => r.id = id with
    | none => s
    | some r => s.answerRead r data

/-- Land the data of an accepted READ_RESP (R395, R415, R429, R432). -/
def State.landResp (s : State) (x : RxPkt) (a : Await) : State :=
  let k := x.tc
  let n := xRlen a.ext.toNat
  let q := hSqidx a.head
  let ctx := (s.qp q).p.ctx
  let drop := fun s : State => ({ s with tpt := { s.tpt with readResps := s.tpt.readResps.drop 1 } } : State)
  match s.translateSpan (pagesFor n) ctx a.laddr n .write none (.landing k a.seq) with
  | (.wait, s1) => s1
  | (.fault _ _, s1) => s1.landingFault k a.seq
  | (.ok segs, s1) =>
    let s2 := (drop s1).writeSegs ctx segs (pktPayload x.pkt)
    let t := s2.tc k
    let f := fun b : Await => if b.seq = a.seq then { b with landed := true } else b
    let t1 := ({ t with awaits := t.awaits.map f } : Tc).progress
    ((s2.setTc k t1).packetDone k a csOk).modTc k Tc.prune

/-- A READ_RESP that has passed the checks is matched with the read it answers. -/
def State.takeReadResp (s : State) (x : RxPkt) : State :=
  let s1 : State := { s with tpt := { s.tpt with readResps := s.tpt.readResps.drop 1 } }
  let h := x.pkt.headD 0
  let ext := pktExt x.pkt
  match s.awaitOf x.tc (hSeq h) with
  | some a =>
    if !(a.awaited && !a.filler && hPtype a.head = ptReadReq && a.opid = xOpid ext) then s1.bump C.TPT_RESP_UNMATCHED
    else if hPlen h ≠ xRlen a.ext.toNat || xStatus ext ≠ 0 then (s1.bump C.TPT_RESP_BAD).raise pgTpt 2 (tcPid x.tc)
    else if a.op.isNone then s1.bump C.TPT_RESP_UNMATCHED
    else s.landResp x a
  | none => s1.bump C.TPT_RESP_UNMATCHED

/-- READ_RESP_RECEIVE (R432). -/
def execReadRespReceive (s : State) : Host.Outcome State Fault Refusal :=
  engine s fun s =>
    match s.tpt.readResps with
    | [] => s
    | x :: _ => s.takeReadResp x

/-! ### Context reset (R444) -/

/-- end_session for a peer, and TX_STATE NEW (Table 11.6, Table 16.10). -/
def State.tcReset (s : State) (k : Nat) : State :=
  (s.endSession k).modTc k fun t => { t with txState := txNew }

/-- TC_CTRL_RESET_WRITE (R444): the peer selected in TPT_TC_SEL. -/
def execTcCtrlResetWrite (bit : Bool) (s : State) : Host.Outcome State Fault Refusal :=
  live s fun s => if bit then s.tcReset (tcKey 0 (s.rd R.TPT_TC_SEL_PID)) else s

end Sys2Proof.Machine
end

