-- ==== Sys2Proof/Machine/Windows.lean ====
section
/-! DEFINITION. The rows of windows (11_transport_and_windows.md R426, R438 to R442, R446). -/

namespace Sys2Proof.Machine

/-- REVOKE_COMPLETE (R441): every packet admitted to a window that is being revoked has finished. -/
def execRevokeComplete (w : Fin 16777216) (s : State) : Host.Outcome State Fault Refusal :=
  engine s fun s =>
    let waiting := s.pair.waits.any fun x => x.2 = .revokeDone w.val
    if (s.window w.val).state = wsRevoking && s.admittedTo w.val = 0 && !waiting then s.revokeFinish w.val else s

/-- REVOKE_DRAIN_SLOW (R441; 18_faults.md Table 18.1): the drain of a revoke has lasted 100 µs. -/
def execRevokeDrainSlow (w : Fin 16777216) (s : State) : Host.Outcome State Fault Refusal :=
  engine s fun s =>
    if (s.window w.val).state = wsRevoking && s.admittedTo w.val ≠ 0 && !s.win.slow.contains w.val then
      ({ s with win := { s.win with slow := s.win.slow ++ [w.val] } } : State).raise pgWin 0 w.val
    else s

/-- WINDOW_COOLING_END (R441): GT has reached FREE_GT. -/
def execWindowCoolingEnd (w : Fin 16777216) (s : State) : Host.Outcome State Fault Refusal :=
  engine s fun s =>
    let x := s.window w.val
    if x.state = wsCooling && s.gt ≥ x.freeGt && s.geysState ≠ gsInvalid then
      let s1 := s.setWindow w.val { x with state := wsFree }
      { s1 with win := { s1.win with freed := s1.win.freed ++ [w.val] } }
    else s

/-- The entry that the expert open names (R446, Table 11.7). -/
def State.expertEntry (s : State) : WinEntry :=
  let a := s.rd R.WIN_OPEN_A_ENTRY0
  let b := s.rd R.WIN_OPEN_B_ENTRY1
  { permRead := bitAt a 4, permWrite := bitAt a 5, scopePid := bitAt a 6, cntEn := bitAt a 7, hport := field a 16 2
    func := field a 18 6, ctx := field a 24 16, job := field a 40 16, peerPid := field b 0 20, cntIdx := field b 20 20
    base := s.rd R.WIN_OPEN_BASE_BASE, length := s.rd R.WIN_OPEN_LEN_LENGTH }

/-- WIN_OPEN_GO_WRITE (R446). -/
def execWinOpenGoWrite (bit : Bool) (s : State) : Host.Outcome State Fault Refusal :=
  engine s fun s =>
    let w := s.expertEntry
    if !bit then s
    else match (if (s.ctx w.ctx).valid && s.windowRanges w then s.freeWindow else none) with
      | some i =>
        let (key, _, s1) := s.openWindow i w
        (s1.wr R.WIN_OPEN_RES_KEY key).wr R.WIN_OPEN_RES_DONE 1
      | none => s.wr R.WIN_OPEN_RES_ERR 1

/-- A revoke asked for by `who`, with the owner it is tested for (R442): started, joined to one in progress, or answered at once. -/
def State.revokeKey (s : State) (key : Nat) (owner : Option Nat) (who : RevokeFor) (now : State → Nat → State) : State :=
  match s.revokeTest key owner with
  | .now st => now s st
  | .later i st => s.awaitRevoke i who st
  | .start i => (s.revokeStart i).awaitRevoke i who csOk

/-- WIN_REVOKE_WRITE (R440, R442, R446): no effect while BUSY. -/
def execWinRevokeWrite (key : W32) (s : State) : Host.Outcome State Fault Refusal :=
  engine s fun s =>
    if s.on R.WIN_REV_STAT_BUSY then s
    else
      (s.wr R.WIN_REV_STAT_BUSY 1).revokeKey key.toNat none .expert fun s st =>
        ((s.wr R.WIN_REV_STAT_BUSY 0).wr R.WIN_REV_STAT_DONE 1).wr R.WIN_REV_STAT_STATUS st

/-- WIN_REVOKE of a send queue (R426, R442). -/
def execWinRevokeDesc (q : QIdx) (s : State) : Host.Outcome State Fault Refusal :=
  engine s fun s =>
    match s.startOf q.val false 0x03 with
    | some (.sq qq x, d) =>
      let key := field d 128 32
      if s.pair.revoked.contains key && (s.window (keyIndex key)).state ≠ wsOpen then
        ({ s with pair := { s.pair with revoked := s.pair.revoked.filter fun k => k ≠ key } } : State).descDone qq x csOk 0
      else (s.descStart qq x).revokeKey key (some (s.qp qq).func) (.sq qq x) fun s st => s.descDone qq x st 0
    | _ => s

/-! ### Descriptors of remote operations (R426 to R428) -/

/-- NOP (09_host_attach_and_queues.md, opcode 0x00). -/
def execNopDesc (q : QIdx) (fired : Bool) (s : State) : Host.Outcome State Fault Refusal :=
  engine s fun s =>
    match s.startOf q.val fired 0x00 with
    | some (o, _) => s.beginEnd o csOk
    | none => s

/-- What a started descriptor becomes: its rank resolved, LADDR translated, and an operation made of it (R428); the pages of a packet are
translated again as it is formed (10_translation.md Table 10.7; log 41). -/
def State.startRma (s : State) (q : Nat) (o : Owner) (d : Nat) (kind : OpKind) : State :=
  let x := s.qp q
  match s.resolveFor o x.p.job (field d 128 24) with
  | (.error st, s) => s.beginEnd o st
  | (.ok t, s) =>
    let acc := if kind = .read then AccKind.write else .read
    s.startPages o q (field d 192 64) (field d 160 32) acc fun s =>
      let op : XOp := {
        owner := o, kind := kind, q := q, tc := tcKey (s.tcSet x.p.hport) t.pid, dhport := t.hport, dfunc := t.func, dqidx := t.qidx
        job := x.p.job
        len := field d 160 32, laddr := field d 192 64, woff := field d 256 64, wkey := field d 320 32 }
      ((s.begin_ o).newOp op).2

/-- WRITE (R426, R428). -/
def execWrite (q : QIdx) (fired : Bool) (s : State) : Host.Outcome State Fault Refusal :=
  engine s fun s =>
    match s.startOf q.val fired 0x01 with
    | some (o, d) => s.startRma q.val o d .write
    | none => s

/-- READ (R426, R428). -/
def execRead (q : QIdx) (fired : Bool) (s : State) : Host.Outcome State Fault Refusal :=
  engine s fun s =>
    match s.startOf q.val fired 0x02 with
    | some (o, d) => s.startRma q.val o d .read
    | none => s

end Sys2Proof.Machine
end

