-- ==== Sys2Proof/Machine/CmdData.lean ====
section
/-! DEFINITION. The opcodes of the groups transport and windows, matching, triggers and collectives, and pair
(16_command_packets.md Table 16.7). -/

namespace Sys2Proof.Machine

/-! ### Transport -/

/-- TPT_TIMERS (01_architecture.md R51, R54): a LIFETIME that R51 would change is refused. -/
def execTptTimers (c : CmdRef) (lifetime giveup : BitVec 64) (s : State) : Host.Outcome State Fault Refusal :=
  command .d 0x0700 c (pack [(8, lifetime.toNat), (8, giveup.toNat)]) s fun n s =>
    let l := lifetime.toNat
    let g := giveup.toNat
    s.okIf n (R.TPT_LIFE_LIFETIME.allows l && R.TPT_GIVEUP_GIVEUP.allows g && l ≤ g) fun s =>
      (s.wr R.TPT_LIFE_LIFETIME l).wr R.TPT_GIVEUP_GIVEUP g

/-- TPT_ACKCFG. -/
def execTptAckcfg (c : CmdRef) (ackEvery retryBudget : BitVec 8) (s : State) : Host.Outcome State Fault Refusal :=
  command .d 0x0701 c (pack [(1, ackEvery.toNat), (1, retryBudget.toNat)]) s fun n s =>
    s.setFields n [(R.TPT_ACK_ACK_EVERY, ackEvery.toNat), (R.TPT_ACK_RETRY_BUDGET, retryBudget.toNat)]

/-- TC_RESET: as TPT_TC_CTRL.RESET, for the peer named. -/
def execTcReset (c : CmdRef) (pid : BitVec 32) (s : State) : Host.Outcome State Fault Refusal :=
  command .d 0x0702 c (pack [(4, pid.toNat)]) s fun n s => s.okIf n (pid.toNat < 2 ^ 20) fun s => s.tcReset (tcKey 0 pid.toNat)

/-- TC_STATUS. -/
def execTcStatus (c : CmdRef) (pid : BitVec 32) (s : State) : Host.Outcome State Fault Refusal :=
  command .d 0x0703 c (pack [(4, pid.toNat)]) s fun n s =>
    let k := tcKey 0 pid.toNat
    if pid.toNat ≥ 2 ^ 20 then s.ends n stBadParam
    else s.okay n [(8, s.tcView k), (4, (s.tc k).txNext), (4, (s.tc k).rxExpected)]

/-! ### Windows -/

/-- WIN_OPEN (11_transport_and_windows.md R438; R748). -/
def execWinOpen (c : CmdRef) (perm scopePid cntEn gen : BitVec 8) (ctx job : BitVec 16) (peerPid cntIdx : BitVec 32)
    (base length : BitVec 64) (s : State) : Host.Outcome State Fault Refusal :=
  command .f 0x0704 c (pack [(1, perm.toNat), (1, scopePid.toNat), (1, cntEn.toNat), (1, gen.toNat), (2, ctx.toNat), (2, job.toNat),
      (4, peerPid.toNat), (4, cntIdx.toNat), (8, base.toNat), (8, length.toNat)]) s fun n s =>
    let k := pathFn c.path
    s.forServed n c fun s => s.ownCtx n c ctx.toNat fun s =>
      let w : WinEntry := {
        permRead := bitAt perm.toNat 0, permWrite := bitAt perm.toNat 1, scopePid := scopePid.toNat = 1, cntEn := cntEn.toNat = 1
        hport := keyPort k, func := keyFunc k, ctx := ctx.toNat, job := job.toNat, peerPid := peerPid.toNat, cntIdx := cntIdx.toNat
        base := base.toNat, length := length.toNat }
      let fits := perm.toNat ≤ 3 && scopePid.toNat ≤ 1 && cntEn.toNat ≤ 1 && peerPid.toNat < 2 ^ 20 && cntIdx.toNat < 2 ^ 20
      if !s.jobIs job.toNat gen.toNat || !fits || !s.windowRanges w then s.ends n stBadParam
      else match s.freeWindow with
        | none => s.ends n stExhausted
        | some i =>
          if s.fnState k ≠ fsEnabled then s.ends n stNotPermitted
          else
            let (key, g, s1) := s.openWindow i w
            s1.replyAfter g n stOk (pack [(4, key)])

/-- WIN_REVOKE (11_transport_and_windows.md R440 to R442): the tests of R442 decide, and their status is the result (log 57). -/
def execWinRevoke (c : CmdRef) (key : BitVec 32) (s : State) : Host.Outcome State Fault Refusal :=
  command .f 0x0705 c (pack [(4, key.toNat)]) s fun n s =>
    let k := key.toNat
    (s.setWait n .revoke).revokeKey k (some (pathFn c.path)) (.cmd n) fun s st => s.okay n [(1, st)]

/-- WIN_STATUS (R748). -/
def execWinStatus (c : CmdRef) (key : BitVec 32) (s : State) : Host.Outcome State Fault Refusal :=
  command .f 0x0706 c (pack [(4, key.toNat)]) s fun n s =>
    let w := s.window (keyIndex key.toNat)
    s.owned n c (keyIndex key.toNat < s.rd R.WIN_CFG_COUNT && w.opened) (fkey w.hport w.func) fun s =>
      s.okay n [(8, winWord w 0), (8, winWord w 5)]

/-! ### Matching -/

/-- MAT_CFG (12_message_matching.md R477). -/
def execMatCfg (c : CmdRef) (eagerLimit : BitVec 32) (mireRate : BitVec 16) (s : State) : Host.Outcome State Fault Refusal :=
  command .d 0x0800 c (pack [(4, eagerLimit.toNat), (2, mireRate.toNat)]) s fun n s =>
    let l := [(R.MAT_CFG_EAGER_LIMIT, eagerLimit.toNat), (R.MAT_MIRE_RATE_RATE, mireRate.toNat)]
    s.okIf n (l.all fun x => x.1.allows x.2) fun s => s.mireSettle.wrs l

/-- MAT_STATUS. -/
def execMatStatus (c : CmdRef) (s : State) : Host.Outcome State Fault Refusal :=
  command .d 0x0801 c [] s fun n s => s.okay n [(4, s.mireHdrUsed), (4, s.mireBlkUsed), (4, s.prqUsed), (2, s.mat.reorder.length)]

/-- MAT_QP_STATUS. -/
def execMatQpStatus (c : CmdRef) (qidx : BitVec 32) (s : State) : Host.Outcome State Fault Refusal :=
  command .f 0x0802 c (pack [(4, qidx.toNat)]) s fun n s =>
    s.ownQp n c qidx.toNat fun x =>
      s.okay n [(4, x.posted.length + bNat x.prqHeld.isSome * 2 ^ 31), (4, x.unexpected), (8, x.nextPost)]

/-! ### Counters (13_counters_and_triggers.md R480 to R483) -/

/-- One more unit at `k` joins the runs, the latest run first. -/
def runAdd (runs : List (Nat × Nat)) (k : Nat) : List (Nat × Nat) :=
  match runs with
  | (a, n) :: t => if a + n = k then (a, n + 1) :: t else (k, 1) :: (a, n) :: t
  | [] => [(k, 1)]

/-- The runs of allocated counters. -/
def State.tallyRuns (s : State) : List (Nat × Nat) :=
  (s.trg.tally.filter fun kv => kv.2.alloc).foldl (fun runs kv => runAdd runs kv.1) []

/-- CNT_ALLOC (R480, R748). -/
def execCntAlloc (c : CmdRef) (count : BitVec 32) (s : State) : Host.Outcome State Fault Refusal :=
  command .f 0x0900 c (pack [(4, count.toNat)]) s fun n s => s.forServed n c fun s =>
    let k := pathFn c.path
    let m := count.toNat
    let (base, total) := s.ownHalf 1048576
    if m < 1 || m > 65536 then s.ends n stBadParam
    else match freeRun s.tallyRuns base total m with
      | none => s.ends n stExhausted
      | some first =>
        if s.fnState k ≠ fsEnabled then s.ends n stNotPermitted
        else
          let (g, s1) := (s.setRange (keyPort k) (keyFunc k) first m true).mirror (.cntRange (keyPort k) (keyFunc k) first m true)
          s1.replyAfter g n stOk (pack [(4, first)])

/-- The counter an operation updates when it ends. -/
def Owner.dcnt : Owner → Option Nat
  | .fired _ _ d => d
  | _ => none

/-- Done counters of fired operations that have not ended. -/
def State.firedCnts (s : State) : List Nat :=
  (s.host.qps.flatMap fun kv => kv.2.fired.filterMap FiredDesc.dcnt) ++
    (s.tpt.ops.filterMap fun kv => kv.2.bind fun x => x.owner.dcnt) ++ s.trg.ends.filterMap FiredEnd.dcnt ++
    (s.coll.groups.flatMap fun kv => kv.2.insts.flatMap fun i => (i.parts.filter fun p => !p.done).filterMap fun p => p.owner.dcnt) ++
    (s.pair.waits.filterMap fun w => match w.2 with
      | .hostWrite _ _ o => o.dcnt
      | _ => none) ++
    s.win.revokes.filterMap fun r => match r.who with
      | .send o _ _ => o.dcnt
      | _ => none

/-- Something refers to a counter of the run (R480). -/
def State.cntInUse (s : State) (first n : Nat) : Bool :=
  let hit := fun c : Nat => first ≤ c && c < first + n
  (s.trg.armed.any fun a => (a.mode ≠ .time && hit a.cnt) || a.dcnt.any hit) || s.firedCnts.any hit ||
    s.host.qps.any fun kv => kv.2.valid && kv.2.cnt.any hit

/-- CNT_FREE (R480). -/
def execCntFree (c : CmdRef) (first count : BitVec 32) (s : State) : Host.Outcome State Fault Refusal :=
  command .f 0x0901 c (pack [(4, first.toNat), (4, count.toNat)]) s fun n s =>
    let k := pathFn c.path
    let f := first.toNat
    let m := count.toNat
    let mine := s.trg.tally.filter fun kv => kv.2.alloc && f ≤ kv.1 && kv.1 < f + m
    if m = 0 || f + m > 1048576 || mine.length < m then s.ends n stBadParam
    else if mine.any fun kv => fkey kv.2.hport kv.2.func ≠ k then s.ends n stNotPermitted
    else if s.cntInUse f m then s.ends n stBusy
    else
      let s1 := s.setRange (keyPort k) (keyFunc k) f m false
      let s2 : State := { s1 with trg := { s1.trg with hot := s1.trg.hot.filter fun i => !(f ≤ i && i < f + m) } }
      let (g, s3) := s2.mirror (.cntRange (keyPort k) (keyFunc k) f m false)
      s3.replyAfter g n stOk []

/-- The issuer may name an object of a function: its own, or for a PF one of its VFs (R588). -/
def mayName (issuer owner : Nat) : Bool := owner = issuer || (keyFunc issuer = 0 && keyPort owner = keyPort issuer)

/-- CNT_BIND (R483): the tests of QIDX and CNT hold for EN 0 also, which without a binding has no effect. -/
def execCntBind (c : CmdRef) (qidx cnt : BitVec 32) (en : BitVec 8) (s : State) : Host.Outcome State Fault Refusal :=
  command .f 0x0902 c (pack [(4, qidx.toNat), (4, cnt.toNat), (1, en.toNat)]) s fun n s =>
    let k := pathFn c.path
    let q := qidx.toNat
    let x := s.qp q
    let t := s.tally cnt.toNat
    if !x.valid || cnt.toNat ≥ 1048576 || !t.alloc || en.toNat > 1 then s.ends n stBadParam
    else if !mayName k x.func || !mayName k (fkey t.hport t.func) || fkey t.hport t.func ≠ x.func then s.ends n stNotPermitted
    else if en.toNat = 0 && x.cnt.isNone then s.ends n stOk
    else
      let on_ := en.toNat = 1
      let s1 := (s.keepQpCnt q cnt.toNat).modQp q fun y => { y with cnt := if on_ then some cnt.toNat else none }
      let (g, s2) := s1.mirror (.cntBind x.p.hport x.p.func q cnt.toNat on_)
      s2.replyAfter g n stOk []

/-- R483 for CNT_READ and CNT_WRITE. -/
def State.ownCnt (s : State) (n : Nat) (c : CmdRef) (i : Nat) (f : State → State) : State :=
  let t := s.tally i
  s.owned n c (i < 1048576 && t.alloc) (fkey t.hport t.func) f

/-- CNT_READ (R483). -/
def execCntRead (c : CmdRef) (cnt : BitVec 32) (s : State) : Host.Outcome State Fault Refusal :=
  command .f 0x0903 c (pack [(4, cnt.toNat)]) s fun n s =>
    let t := s.tally cnt.toNat
    s.ownCnt n c cnt.toNat fun s => s.okay n [(8, t.value), (4, t.fail), (1, t.lastStatus), (1, bNat t.late)]

/-- CNT_WRITE (R482, R483): as a write of TRG_CNT_VAL. -/
def execCntWrite (c : CmdRef) (cnt : BitVec 32) (value : BitVec 64) (s : State) : Host.Outcome State Fault Refusal :=
  command .f 0x0904 c (pack [(4, cnt.toNat), (8, value.toNat)]) s fun n s =>
    s.ownCnt n c cnt.toNat fun s => (s.cntApply cnt.toNat fun t => { t with value := value.toNat }).ends n stOk

/-! ### Groups (14_collectives.md R499 to R505) -/

/-- The own coordinate is a member of every dimension, no member lies outside its dimension, and a dimension not included has the own
coordinate alone (Table 14.1). -/
def State.masksOk (s : State) (p : GroupParams) : Bool :=
  dims.all fun d =>
    let own := coord s.ownPid d
    (p.mask d).testBit own && p.mask d < 2 ^ topoSize s.topo d && (p.includes d || p.mask d = 2 ^ own)

/-- The ranges of Table 14.1. -/
def GroupParams.rangesOk (p : GroupParams) : Bool :=
  p.gid < 4096 && p.dimMask < 16 && 1 ≤ p.localCnt && p.localCnt ≤ 8 && 2 ≤ p.depth && p.depth ≤ 16 && 4096 ≤ p.maxBytes && p.maxBytes ≤ 2 ^ 26

/-- The issuer may use every local queue pair of a group: the status of the first that fails (R748). -/
def State.localQps (s : State) (k : Nat) (p : GroupParams) : Nat :=
  let mine := p.lqps.take p.localCnt
  if mine.any fun q => !(s.qp q).valid then stBadParam
  else if mine.any fun q => (s.qp q).func ≠ k then stNotPermitted
  else stOk

/-- GROUP_CREATE (R499, R501, R504; log 55). -/
def execGroupCreate (c : CmdRef) (gid job : BitVec 16) (gen dimmask localCnt depth : BitVec 8)
    (mask0 mask1 mask2 mask3 maxbytes lqp0 lqp1 lqp2 lqp3 lqp4 lqp5 lqp6 lqp7 : BitVec 32) (s : State) :
    Host.Outcome State Fault Refusal :=
  let lqps := [lqp0, lqp1, lqp2, lqp3, lqp4, lqp5, lqp6, lqp7].map BitVec.toNat
  command .f 0x0905 c (pack ([(2, gid.toNat), (2, job.toNat), (1, gen.toNat), (1, dimmask.toNat), (1, localCnt.toNat), (1, depth.toNat),
      (4, mask0.toNat), (4, mask1.toNat), (4, mask2.toNat), (4, mask3.toNat), (4, maxbytes.toNat)] ++ lqps.map fun q => (4, q))) s
    fun n s => s.forServed n c fun s =>
      let k := pathFn c.path
      let p : GroupParams := {
        gid := gid.toNat, job := job.toNat, gen := gen.toNat, dimMask := dimmask.toNat, localCnt := localCnt.toNat, depth := depth.toNat
        mask0 := mask0.toNat, mask1 := mask1.toNat, mask2 := mask2.toNat, mask3 := mask3.toNat, maxBytes := maxbytes.toNat, lqps := lqps }
      let st := s.localQps k p
      if st ≠ stOk then s.ends n st
      else if p.gid < 4096 && (s.group p.gid).valid then s.ends n stBusy
      else if (freeRun s.stagingRuns 0 (s.regionSize 10 / 2 ^ 20) p.mib).isNone then s.ends n stExhausted
      else if !p.rangesOk || !s.masksOk p || !s.jobIs p.job p.gen || (p.lqps.take p.localCnt).any fun q => (s.qp q).p.job ≠ p.job then
        s.ends n stBadParam
      else s.setWait n (.group p)

/-- R505 and R748 for a group: one of its local queue pairs belongs to the issuer. -/
def State.ownGroup (s : State) (n : Nat) (c : CmdRef) (gid : Nat) (f : Group → State) : State :=
  let g := s.group gid
  if gid ≥ 4096 || !g.valid then s.ends n stBadParam
  else if (g.p.lqps.take g.p.localCnt).all fun q => !((s.qp q).valid && (s.qp q).func = pathFn c.path) then s.ends n stNotPermitted
  else f g

/-- GROUP_DESTROY (R504, R505). -/
def execGroupDestroy (c : CmdRef) (gid : BitVec 16) (s : State) : Host.Outcome State Fault Refusal :=
  command .f 0x0906 c (pack [(2, gid.toNat)]) s fun n s =>
    s.ownGroup n c gid.toNat fun _ =>
      let s1 := s.instsEnd gid.toNat csIndeterminate
      (s1.setGroup gid.toNat {}).ends n stOk

/-- GROUP_STATUS. -/
def execGroupStatus (c : CmdRef) (gid : BitVec 16) (s : State) : Host.Outcome State Fault Refusal :=
  command .f 0x0907 c (pack [(2, gid.toNat)]) s fun n s =>
    s.ownGroup n c gid.toNat fun g => s.okay n [(8, g.view gid.toNat), (8, g.base + g.size * 2 ^ 12)]

/-! ### Pair (15_pair_operation.md R551, R553, R560, R564) -/

/-- PAIR_MODE (R551, R553). -/
def execPairMode (c : CmdRef) (mode : BitVec 8) (s : State) : Host.Outcome State Fault Refusal :=
  command .d 0x0A00 c (pack [(1, mode.toNat)]) s fun n s =>
    if s.pairState = psUnpaired then s.ends n stNotPermitted
    else s.okIf n (mode.toNat ≤ 1) fun s => s.pairMode (mode.toNat = 1)

/-- The status of a PAIR_MOVE, by the table of R564 in its order. -/
def State.moveStatus (s : State) (dir g : Nat) : Nat :=
  if s.pairState = psUnpaired then stNotPermitted
  else if dir > 1 || g < s.gt + 32000000 || g > s.gt + 160000000000 then stBadParam
  else if dir = 0 && s.pairState ≠ psPaired then stNotPermitted
  else if dir = 1 && (s.pairState ≠ psAdopting || s.pair.mateState ≠ psYielded) then stNotPermitted
  else if !s.pair.syncAcked || s.on R.PAIR_CTRL_MODE then stNotPermitted
  else if s.geysState ≠ gsLocked then stNotPermitted
  else if s.pair.move.isSome then stBusy
  else stOk

/-- PAIR_MOVE (R564). -/
def execPairMove (c : CmdRef) (direction : BitVec 8) (g : BitVec 64) (s : State) : Host.Outcome State Fault Refusal :=
  command .d 0x0A01 c (pack [(1, direction.toNat), (8, g.toNat)]) s fun n s =>
    let st := s.moveStatus direction.toNat g.toNat
    if st ≠ stOk then s.ends n st
    else
      let ret := direction.toNat = 1
      let s1 := (s.mirSend (.move g.toNat ret)).2
      let s2 : State := { s1 with pair := { s1.pair with move := some { target := g.toNat, isReturn := ret, giving := true } } }
      (s2.wr R.PAIR_MOVE_GT g.toNat).ends n stOk

/-- PAIR_STATUS (R553). -/
def execPairStatus (c : CmdRef) (s : State) : Host.Outcome State Fault Refusal :=
  command .a 0x0A02 c [] s fun n s => s.okay n [(8, s.readReg 0x700010), (8, s.readReg 0x700018)]

/-- PAIR_TAKEOVER (R560): as PAIR_CTRL.TAKEOVER. -/
def execPairTakeover (c : CmdRef) (s : State) : Host.Outcome State Fault Refusal :=
  command .d 0x0A03 c [] s fun n s =>
    if s.pairState ≠ psSolo then s.ends n stNotPermitted else (s.takeover false).ends n stOk

end Sys2Proof.Machine
end

