-- ==== Sys2Proof/Machine/Power.lean ====
section
/-! DEFINITION. Power states, wakes and supplies (17_reset_power_supplies.md R611 to R637). -/

namespace Sys2Proof.Machine

/-! ### Entry conditions (R614) -/

/-- Condition 1 of Table 17.5 does not hold. -/
def State.enginesBusy (s : State) : Bool :=
  let undone := fun d : SqDesc => match d.state with
    | .done _ _ => false
    | _ => true
  let qp := fun x : Qp => x.sq.any undone || !x.fired.isEmpty || !x.ready.isEmpty || !x.staged.isEmpty
  let tc := fun t : Tc => t.helloOut || t.awaits.any Await.awaited
  (s.host.qps.any fun kv => kv.2.valid && qp kv.2) || !s.tpt.ops.isEmpty || (s.tpt.tcs.any fun kv => tc kv.2) ||
    (s.coll.groups.any fun kv => kv.2.valid && kv.2.insts.any fun i => i.ended.isNone) ||
    (s.win.wins.any fun kv => kv.2.state = wsRevoking) || !s.xlt.invals.isEmpty || !s.rout.unadmitted.isEmpty || (List.range 256).any fun k => s.fnState k = fsQuiescing

/-- A QP is in POLL mode. -/
def State.polling (s : State) : Bool := s.host.qps.any fun kv => kv.2.valid && (kv.2.p.dbMode = 1 || kv.2.fallback)

/-- The link of a host port is down or in L2, or its PERST_N is low. -/
def State.hostQuiet (s : State) (h : Nat) : Bool := !s.on R.HIF_PORT_LINK_UP h || tget false s.pin.l2 h || tget false s.aon.perst h

/-- The rows of Table 17.5: cause, whether it applies to MOSS and to PEAT, and whether the condition holds. -/
def State.entryRows (s : State) : List (Nat × Bool × Bool × Bool) :=
  [(1, true, true, !s.enginesBusy), (2, true, true, s.schdState = ssIdle || s.schdState = ssAborted), (3, true, false, !s.polling),
   (4, false, true, s.drained), (5, false, true, [0, 1, 2, 3].all s.hostQuiet), (6, false, true, !s.on R.GEYS_STATUS_GM),
   (7, true, true, s.pair.unacked.isEmpty), (8, false, true, !s.on R.ROUT_BANK_ARMED),
   (9, false, true, s.on R.PWR_SUPPLY_VAUX_A || s.on R.PWR_SUPPLY_VAUX_B)]

/-- The first condition of Table 17.5 that fails for a target, 1 MOSS or 2 PEAT; 0 when every one holds. -/
def State.entryCause (s : State) (target : Nat) : Nat :=
  match s.entryRows.find? fun r => (if target = 1 then r.2.1 else r.2.2.1) && !r.2.2.2 with
  | some r => r.1
  | none => 0

/-! ### Commit and refusal (R613, R615, R620, R623) -/

/-- The command that waits for an entry: its number and its target. -/
def State.powerWaiter (s : State) : Option (Nat × Nat) :=
  s.cmd.started.findSome? fun c => match c.wait with
    | .power t => some (c.n, t)
    | _ => none

/-- TRANSIT_OFF goes back to 0 where the PEAT request had set it. -/
def State.transitBack (s : State) : State :=
  if s.pwr.transitSet then ({ s with pwr := { s.pwr with transitSet := false } } : State).setTransitOff false else s

/-- A waiting request ends without a commit: TARGET returns to RUN and REFUSE records the cause. -/
def State.powerFail (s : State) (n status cause : Nat) : State :=
  let s1 := ((s.wr R.PWR_MODE_TARGET 0).wr R.PWR_STATUS_REFUSE cause).transitBack
  s1.finalReply n status (pack [(1, cause)])

/-- The earliest target of an armed trigger that waits for a GT. -/
def State.earliestTarget (s : State) : Option Nat :=
  (s.trg.armed.filter fun a => a.target.isSome && a.mode ≠ .counter).foldl (fun m a => match m with
    | none => some a.tgt
    | some t => some (min t a.tgt)) none

/-- PWR_ALARM for a wake 45 ms of GT before the earliest target (R623). -/
def State.setWakeAlarm (s : State) : State :=
  match s.earliestTarget with
  | none => s
  | some t =>
    let period := if s.on R.GEYS_SLP_INFO_RATE_LEARNED then s.rd R.GEYS_AON_RATE_PERIOD else 640 * 2 ^ 16
    let n := (t - 720000000 - s.gt) * 2 ^ 16 / (if period = 0 then 1 else period)
    let left := fun c => (c + 2 ^ 48 - s.aonCount) % 2 ^ 48
    if s.on R.PWR_ALARM_EN && left (s.rd R.PWR_ALARM_COUNT) ≤ n then s
    else (s.wr R.PWR_ALARM_COUNT ((s.aonCount + max 1 n) % 2 ^ 48)).wr R.PWR_ALARM_EN 1

/-- The ports in T_UP are asked for LP-DORMANT (R620, step 1). -/
def State.dormAll (s : State) : State :=
  (List.range 96).foldl (fun s p =>
    if s.pst p = tUp then (s.setPort p { s.port p with peatDorm := true }).lpRequest p true else s) s

/-- The entry is committed: every core is in WAIT, the request's OK reply is written, and the entry is counted. -/
def State.commitEntry (s : State) (target : Nat) : State :=
  let s1 := match s.powerWaiter with
    | some (n, _) => s.finalReply n stOk []
    | none => s
  let s2 : State := { s1 with
    aon := { s1.aon with sleeps := (s1.aon.sleeps + 1) % 65536 }
    pwr := { s1.pwr with first := none, during := false } }
  let s3 := (s2.wr R.PWR_STATUS_COMMITTED 1).wr R.CHIP_CORE_STATE 0x55
  if target = 1 then (s3.wr R.PWR_STATUS_STATE psMoss).bump C.PWR_MOSS_ENTRIES
  else
    let s4 := ((s3.wr R.PWR_STATUS_STATE psEntry).bump C.PWR_PEAT_ENTRIES).setWakeAlarm
    ({ s4 with cnt := { s4.cnt with slept := s4.cnt.slept || s4.readerSet } } : State).dormAll

/-- The power sequencer's test when core 0's WAIT completes (R613): the waiting request's target, or that of PWR_MODE. A PEAT request
goes on waiting while its conditions do not hold (R615; log 59). -/
def State.coreWait (s : State) : State :=
  match s.powerWaiter with
  | some (n, t) =>
    let cause := s.entryCause t
    if cause = 0 then (s.wr R.PWR_MODE_TARGET t).commitEntry t
    else if t = 2 then s
    else ((s.bump C.PWR_ENTRY_REFUSED).raise pgPwr 5 cause).powerFail n stBusy cause
  | none =>
    let t := s.rd R.PWR_MODE_TARGET
    if t = 0 then s
    else
      let cause := s.entryCause t
      if cause = 0 then s.commitEntry t
      else (((s.wr R.PWR_MODE_TARGET 0).wr R.PWR_STATUS_REFUSE cause).bump C.PWR_ENTRY_REFUSED).raise pgPwr 5 cause

/-- CORE_WAIT: every Caldera core is in WAIT. -/
def execCoreWait (s : State) : Host.Outcome State Fault Refusal :=
  liveLink s fun s => if s.powerState = psRun && s.fwRuns then s.coreWait else s

/-- POWER_REQUEST_TIMEOUT (R615): 100 ms after the start of a PEAT request. -/
def execPowerRequestTimeout (s : State) : Host.Outcome State Fault Refusal :=
  liveLink s fun s =>
    match s.powerWaiter with
    | some (n, 2) => if s.powerState = psRun then s.powerFail n stFailed (s.entryCause 2) else s
    | _ => s

/-! ### PEAT (R620 to R624) -/

/-- PEAT_LP_RETRY (R620): a refused LP-DORMANT request is repeated. -/
def execPeatLpRetry (p : Port) (s : State) : Host.Outcome State Fault Refusal :=
  liveLink s fun s => if s.powerState = psEntry && s.pst p.val = tUp then s.lpRequest p.val true else s

/-- PEAT_PORT_OFF (R620): 1 ms after the commit a port that is not in LP-DORMANT goes to T_OFF for the sleep. -/
def execPeatPortOff (p : Port) (s : State) : Host.Outcome State Fault Refusal :=
  liveLink s fun s =>
    if s.powerState = psEntry && s.pst p.val ≠ tDorm && s.pst p.val ≠ tOff then
      (s.setPort p.val { s.port p.val with peatOff := true }).enterOff p.val
    else s

/-- The input port of a packet that waits in an input buffer. -/
def State.heldInput (s : State) : Option Nat :=
  (s.inbuf.find? fun kv => !kv.2.pkts.isEmpty).map fun kv => kv.1 / 8

/-- Both VAUX inputs, or both inputs of the always-on clock, are lost. -/
def State.aonLost (s : State) : Bool := s.aon.stopped || (!s.on R.PWR_SUPPLY_VAUX_A && !s.on R.PWR_SUPPLY_VAUX_B)

/-- Some wake source that wakes the device is pending. -/
def State.wakePending (s : State) : Option Nat :=
  (List.range 12).find? fun b => bitAt (s.rd R.PWR_WAKE_PEND_PEND) b && s.wakes b

/-- The entry is done: GT, the always-on count and UNC are sampled, the HBM is in self-refresh, and the device is in PEAT; a wake that
is pending ends it at once (R620, R621, R626). -/
def State.peatEnter (s : State) : State :=
  let learned := s.on R.GEYS_SLP_INFO_RATE_LEARNED
  let s1 : State := { s with pwr := { s.pwr with savedAon := s.aonCount, savedUnc := s.geys.unc, savedLearned := learned, gtLost := false } }
  let s2 := s1.wrs [(R.GEYS_SLP_GT_SAVED_GT, s1.gt), (R.GEYS_SLP_INFO_BACKUP_USED, 0), (R.GEYS_SLP_INFO_BACKUP_AT, 0),
    (R.GEYS_SLP_INFO_VAUX_LOST, 0), (R.HBM_STATUS_SELF_REFRESH, 1), (R.PWR_STATUS_STATE, psPeat)]
  let s3 := match s2.heldInput with
    | some p => s2.wakeLatch wkPktHeld p
    | none => s2
  if s3.powerState ≠ psPeat then s3
  else if s3.aonLost then s3.peatLost
  else match s3.wakePending with
    | some b => (s3.wakeFirst b 0).peatWake
    | none => s3

/-- PEAT_ENTRY_DONE: every port is in LP-DORMANT or T_OFF, and the state is saved. -/
def execPeatEntryDone (s : State) : Host.Outcome State Fault Refusal :=
  liveLink s fun s =>
    if s.powerState = psEntry && (List.range 96).all fun p => s.pst p = tDorm || s.pst p = tOff then s.peatEnter else s

/-- PEAT ends in RUN; a port that has not come back makes the exit a slow one. -/
def State.peatDone (s : State) : State :=
  let slow := (List.range 96).any fun p => (s.port p).peatDorm && s.on R.PORT_CTRL_EN p && s.pst p ≠ tUp && s.pst p ≠ tQuiet
  let clear := fun (s : State) p => s.setPort p { s.port p with peatDorm := false }
  let s1 := (List.range 96).foldl clear s
  let s2 := if slow then ((s1.wr R.PWR_STATUS_SLOW_EXIT 1).bump C.PWR_SLOW_EXITS).raise pgPwr 4 else s1
  ((s2.transitBack.enterRun).wakeRecord 2).confirmLate

/-- PEAT_EXIT_COMPLETE (R622, R624): `saveOk` is the CRC check of the save area. -/
def execPeatExitComplete (saveOk : Bool) (s : State) : Host.Outcome State Fault Refusal :=
  liveLink s fun s =>
    if s.powerState ≠ psExit then s else if saveOk then s.peatDone else s.fullReset rcSaveBad 0 0 0

/-! ### Wakes (R625, R626) -/

/-- The condition of Table 17.8 under which a source latches, and its DETAIL. -/
def State.wakeSource (s : State) (src detail : Nat) : Option Nat :=
  let st := s.powerState
  if src = wkNetEnergy then (if detail < 96 && s.pst detail = tDorm then some detail else none)
  else if src = wkNetRx then (if st = psMoss then some detail else none)
  else if src = wkHostReq then (if st = psMoss then some (detail % 4) else none)
  else if src = wkPerst then (if st = psMoss || st = psPeat then some (detail % 4) else none)
  else if src = wkWakeIn then (if tget false s.pin.wake (detail % 4) then none else some (detail % 4))
  else if src = wkGtAction then (if st = psMoss then some 0 else none)
  else if src = wkPktHeld then none
  else some 0

/-- WAKE_EVENT. -/
def execWakeEvent (src : Fin 12) (detail : BitVec 7) (s : State) : Host.Outcome State Fault Refusal :=
  match s.wakeSource src.val detail.toNat with
  | some d => fin (s.wakeLatch src.val d)
  | none => .next s

/-! ### The always-on clock (R629) -/

/-- The input of the always-on count has stopped: the count goes on from the backup input, or stops. -/
def State.clockLost (s : State) (backup : Bool) : State :=
  if backup && !s.on R.PWR_AON_BACKUP then
    let s1 := (s.wr R.PWR_AON_BACKUP 1).whenB s.up (·.wr R.GEYS_SLP_INFO_RATE_LEARNED 0)
    if s.powerState = psPeat then (s1.wr R.GEYS_SLP_INFO_BACKUP_USED 1).wr R.GEYS_SLP_INFO_BACKUP_AT s.aonCount else s1
  else
    let s1 := ({ s with aon := { s.aon with stopped := true } } : State).wr R.PWR_AON_CLK_LOST 1
    if s.powerState = psPeat then s1.peatLost else s1

/-- AON_CLOCK_LOSS: the input in use has stopped; `backup` is whether the count goes on from the backup input. -/
def execAonClockLoss (backup : Bool) (s : State) : Host.Outcome State Fault Refusal :=
  if s.aon.stopped then .next s else fin (s.clockLost backup)

/-! ### Supplies (R630 to R637) -/

/-- A condition of the PWR fault page; its page is in reset while the device is held. -/
def State.pwrCond (s : State) (src : Nat) (b : Bool) : State := if s.up then s.cond pgPwr src b else s

/-- The set is isolated: ORING_EN low, the fault recorded, and the switch counted (R631). -/
def State.isolate (s : State) (setB : Bool) : State :=
  let f := if setB then (R.PWR_SUPPLY_ISOL_B, R.PWR_SUPPLY_B_FAIL, R.PWR_SUPPLY_ISOL_A, 2) else (R.PWR_SUPPLY_ISOL_A, R.PWR_SUPPLY_A_FAIL, R.PWR_SUPPLY_ISOL_B, 1)
  let s1 := s.wrs [(f.1, 1), (f.2.1, 1), (f.2.2.1, 0), (R.PWR_SUPPLY_MODE, f.2.2.2)]
  ((s1.whenB s1.up (·.bump C.PWR_SUPPLY_SWITCHES)).pwrCond (bNat setB) true).wakeLatch wkSupply 0

/-- What the always-on domain makes of the two PWR_x_OK inputs (R631 to R633; log 67). -/
def State.supplyEval (s : State) : State :=
  let a := s.on R.PWR_SUPPLY_A_OK
  let b := s.on R.PWR_SUPPLY_B_OK
  if !a && !b then (s.wrs [(R.PWR_SUPPLY_ISOL_A, 0), (R.PWR_SUPPLY_ISOL_B, 0), (R.PWR_SUPPLY_MODE, 3)]).wakeLatch wkSupply 0
  else if !a then (if s.on R.PWR_SUPPLY_ISOL_A then s else s.isolate false)
  else if !b then (if s.on R.PWR_SUPPLY_ISOL_B then s else s.isolate true)
  else if s.on R.PWR_SUPPLY_ISOL_A || s.on R.PWR_SUPPLY_ISOL_B then s
  else s.wr R.PWR_SUPPLY_MODE 0

def okField (setB : Bool) : RegField := if setB then R.PWR_SUPPLY_B_OK else R.PWR_SUPPLY_A_OK

/-- The hold of RESHARE_HOLD runs for a set. -/
def State.setReturned (s : State) (setB v : Bool) : State :=
  { s with aon := if setB then { s.aon with returnedB := v } else { s.aon with returnedA := v } }

/-- SUPPLY_FAIL (R631, R632). -/
def execSupplyFail (setB : Bool) (s : State) : Host.Outcome State Fault Refusal :=
  fin ((s.wr (okField setB) 0).setReturned setB false).supplyEval

/-- SUPPLY_OK_RETURN: the live condition ends and the hold of R633 starts. -/
def execSupplyOkReturn (setB : Bool) (s : State) : Host.Outcome State Fault Refusal :=
  fin (((s.wr (okField setB) 1).setReturned setB true).pwrCond (bNat setB) false).supplyEval

/-- RESHARE_HOLD_EXPIRE (R633). -/
def execReshareHoldExpire (setB : Bool) (s : State) : Host.Outcome State Fault Refusal :=
  let isol := if setB then R.PWR_SUPPLY_ISOL_B else R.PWR_SUPPLY_ISOL_A
  let back := if setB then s.aon.returnedB else s.aon.returnedA
  if !s.on R.PWR_SUPPLY_CFG_AUTO_RESHARE || !back || !s.on isol then .next s
  else
    let s1 := (s.wrs [(isol, 0), (R.PWR_SUPPLY_RESHARED, 1), (R.PWR_SUPPLY_MODE, 0)]).setReturned setB false
    fin ((s1.whenB s1.up (·.bump C.PWR_RESHARES)).wakeLatch wkSupply 0)

/-- An auxiliary supply is lost; with the last one PEAT ends, GT lost. -/
def State.vauxLost (s : State) (setB : Bool) : State :=
  let s1 := if setB then s.wrs [(R.PWR_SUPPLY_VAUX_B, 0), (R.PWR_SUPPLY_VAUX_B_LOST, 1)] else s.wrs [(R.PWR_SUPPLY_VAUX_A, 0), (R.PWR_SUPPLY_VAUX_A_LOST, 1)]
  let s2 := s1.pwrCond 2 true
  if s2.on R.PWR_SUPPLY_VAUX_A || s2.on R.PWR_SUPPLY_VAUX_B then s2.wakeLatch wkSupply 0
  else
    let s3 := s2.wr R.PWR_SUPPLY_VAUX_BOTH_LOST 1
    if s3.powerState = psPeat then s3.peatLost else s3.wakeLatch wkSupply 0

/-- VAUX_LOSS (R636). -/
def execVauxLoss (setB : Bool) (s : State) : Host.Outcome State Fault Refusal := fin (s.vauxLost setB)

/-- VAUX_RETURN (R636). -/
def execVauxReturn (setB : Bool) (s : State) : Host.Outcome State Fault Refusal :=
  let s1 := s.wr (if setB then R.PWR_SUPPLY_VAUX_B else R.PWR_SUPPLY_VAUX_A) 1
  fin (if s1.on R.PWR_SUPPLY_VAUX_A && s1.on R.PWR_SUPPLY_VAUX_B then s1.pwrCond 2 false else s1)

/-- VRHOT_ASSERT (R637). -/
def execVrhotAssert (s : State) : Host.Outcome State Fault Refusal :=
  fin (((s.wrs [(R.PWR_SUPPLY_VRHOT, 1), (R.PWR_SUPPLY_VRHOT_SEEN, 1)]).pwrCond 3 true).wakeLatch wkVrhot 0)

/-- VRHOT_DEASSERT (R637). -/
def execVrhotDeassert (s : State) : Host.Outcome State Fault Refusal := fin ((s.wr R.PWR_SUPPLY_VRHOT 0).pwrCond 3 false)

/-! ### LP-QUIET (R619) -/

/-- QUIET_IDLE_EXPIRE: a transmit direction that has sent no frame for QUIET_IDLE requests LP-QUIET, but for an output with a slot table
in an ARMED or RUNNING image. -/
def execQuietIdleExpire (p : Port) (s : State) : Host.Outcome State Fault Refusal :=
  live s fun s =>
    let q := p.val
    let st := s.powerState
    if !s.on R.PWR_MODE_AUTO_QUIET || (st ≠ psRun && st ≠ psMoss) || s.pst q ≠ tUp || (s.port q).txQuiet ||
        (s.schdActive && (s.slotTable s.runBuf q).isSome) then s
    else
      if s.mayRequest q false then (s.lpRequest q false).bump C.PWR_LP_QUIET_REQ else s

end Sys2Proof.Machine
end

