-- ==== Sys2Proof/Machine/Faults.lean ====
section
/-! DEFINITION. The rows of fault handling (18_faults.md R650 to R656), of the die's and the HBM's temperature and of the shared pins
(21_pins_and_electrical.md R729, R731). -/

namespace Sys2Proof.Machine

/-! ### Grace and forcing (R650 to R652) -/

/-- The deferred sources of a page that still count: STAT is 1, and LIVE too for a condition source. -/
def State.graceHolds (s : State) (page src : Nat) : Bool :=
  bitAt (s.rd R.FLT_STAT_STAT page) src && (!isCondition page src || bitAt (s.liveOf page) src)

/-- The strongest deferred reaction that still holds is taken; a full reset only outside RECOVERY (R651). -/
def State.graceEnd (s : State) (page : Nat) : State :=
  let d := tget 0 s.deferred page
  let s1 := ({ s with deferred := tput 0 s.deferred page 0 } : State).wr R.FLT_GRACE_RUNNING 0 page
  let holds := fun src => s1.graceHolds page src
  let chip := fun src => (bitAt d (16 + src) || (bitAt d src && !hasBlockReset page)) && holds src
  match (List.range 16).find? chip, (List.range 16).find? fun src => bitAt d src && holds src with
  | some src, _ =>
    if s1.phase = phRecovery then takeTrap (s1.wr R.PIN_ERR_LATCHED 1) page true else s1.owe (.chipReset page src)
  | none, some _ => if inResetGrace s1 page then takeTrap s1 page true else s1.owe (.blockReset page)
  | none, none => s1

/-- FAULT_GRACE_EXPIRE (R650). -/
def execFaultGraceExpire (page : BitVec 29) (s : State) : Host.Outcome State Fault Refusal :=
  liveLink s fun s =>
    let a := page.toNat
    if (pageKind a).isSome && s.on R.FLT_GRACE_RUNNING a then s.graceEnd a else s

/-- FLT_FORCE takes a write (R652): effective in TEST only; the HOLD bit of a source the page does not have is RSVD (R642). -/
def State.forceWrite (s : State) (page up hold : Nat) : State :=
  if s.phase ≠ phTest || (pageKind page).isNone then s
  else
    let s1 := s.wr R.FLT_FORCE_HOLD (((List.range 16).filter fun src => bitAt hold src && sourceAssigned page src).foldl (fun n src => n + 2 ^ src) 0) page
    ((List.range 16).filter fun src => bitAt up src && sourceAssigned page src).foldl (fun s src => s.raiseX page src 0 true) s1

/-- FLT_FORCE_WRITE. -/
def execFltForceWrite (page : BitVec 29) (raise hold : BitVec 16) (s : State) : Host.Outcome State Fault Refusal :=
  liveLink s fun s => s.forceWrite page.toNat raise.toNat hold.toNat

/-- PIN_PHASE_WRITE (R649). -/
def execPinPhaseWrite (phase : BitVec 2) (s : State) : Host.Outcome State Fault Refusal := live s fun s => s.setPhase phase.toNat

/-! ### Pins (R653, R654) -/

/-- FUMAROLE_TOGGLE: the 1,250th CLK_AON cycle since the last change. -/
def execFumaroleToggle (s : State) : Host.Outcome State Fault Refusal :=
  if !s.alive || s.aon.stopped then .next s
  else
    let v := !s.on R.PIN_FUM_LEVEL
    fin ((s.wrB R.PIN_FUM_LEVEL v).emit (.pin "FUMAROLE" (if v then none else some false)))

/-- ERR_N_SENSE_CHANGE: another device drives the net low, or releases it. -/
def execErrNSenseChange (low : Bool) (s : State) : Host.Outcome State Fault Refusal := fin { s with aon := { s.aon with errLow := low } }

/-- CALDERA_CORE_EXCEPTION: the core halts (DEDUCED, log 71), and CORE_EXC is raised. -/
def execCalderaCoreException (core : Fin 4) (s : State) : Host.Outcome State Fault Refusal :=
  live s fun s => (s.wr R.CHIP_CORE_STATE (setField (s.rd R.CHIP_CORE_STATE) (2 * core.val) 2 2)).raise pgChip 0 core.val

/-! ### ECC and parity (R656, Table 18.4) -/

/-- The ECC_CE, UE_DATA and UE_STATE sources. -/
def srcCe : Nat := 12
def srcUeData : Nat := 13
def srcUeState : Nat := 14
def srcBus : Nat := 15

/-- The packet at the front of an input VC goes on with its tail CRC inverted. -/
def State.poisonFront (s : State) (input v : Nat) : State :=
  let x := s.inVc input v
  match x.pkts with
  | [] => s
  | k :: rest =>
    let k' := if k.need > 0 then { k with poison := true } else { k with seen := k.seen.dropLast ++ (k.seen.getLast?.map badTail).toList }
    s.setInVc input v { x with pkts := k' :: rest }

/-- The oldest packet of VC7 staging goes on with its tail CRC inverted. -/
def State.poisonStaging (s : State) (e : Nat) : State :=
  match tget [] s.schd.staging e with
  | [] => s
  | p :: rest =>
    { s with schd := { s.schd with staging := tput [] s.schd.staging e ((p.dropLast ++ (p.getLast?.map badTail).toList) :: rest) } }

/-- The page of the block that uses an HBM state region (Table 18.4; log 72); none for the regions whose data the rows below name. -/
def regionPage (code : Nat) : Option Nat :=
  if code = 1 || code = 7 || code = 12 then some pgTpt else if code = 2 then some pgQue else if code = 3 || code = 11 then some pgTrg
  else if code = 4 then some pgChip else if code = 5 then some pgWin else if code = 6 then some pgMat else none

/-- An uncorrectable error of the HBM: UE_DATA of HBM and its address. -/
def State.hbmUe (s : State) (detail : Nat) : State :=
  ((s.wr R.HBM_UE_ADDR_OFFSET detail).bump C.HBM_UE).raise pgHbm srcUeData detail

def State.hbmCe (s : State) (detail : Nat) : State := (s.bump C.HBM_CE).raise pgHbm srcCe detail

/-- The receive that a QP has bound under a post sequence completes INDETERMINATE with the bytes landed. -/
def State.mireLost (s : State) (q post : Nat) : State :=
  let bound := fun m : Msg => match m.bound with
    | some r => r.post = post && !m.finished
    | none => false
  match (s.qp q).msgs.find? bound with
  | none => s
  | some m => match m.bound with
    | none => s
    | some r =>
      let m' := { m with finished := true, status := csIndeterminate, refuse := some csIndeterminate, stored := [], hdrs := 0, blocks := 0 }
      let s1 := s.recvFinish q m' r csIndeterminate
      (if m'.allOutcomes then s1.dropMsg q m' else s1.setMsg q m').mireEased

/-- A correctable error or an uncorrectable one in a structure whose loss is loss of state. -/
def State.eccState (s : State) (page : Nat) (ok : Bool) (d : Nat) : State := s.raise page (if ok then srcCe else srcUeState) d

/-- Table 18.4 for an error at a site. -/
def State.eccAt (s : State) (site : EccSite) (ok : Bool) (d : Nat) : State :=
  match site with
  | .buffer input vc => if ok then s.raise pgRout srcCe d else (s.poisonFront input.val vc.val).raise pgRout srcUeData d
  | .staging e => if ok then s.raise pgRout srcCe d else (s.poisonStaging e.val).raise pgRout srcUeData d
  | .replay p => if ok then s.raise (pgLink p.val) srcCe d else (s.retrain p.val true).raise (pgLink p.val) srcUeData d
  | .routing => s.eccState pgRout ok d
  | .tlb ctx va =>
    let s1 := s.tlbKeep fun t => !t.covers ctx.val va.toNat
    let near := fun x : WcEntry => x.ctx = ctx.val
    ({ s1 with xlt := { s1.xlt with wc := s1.xlt.wc.filter fun x => !near x } } : State).raise pgXlt srcCe d
  | .tcCache => s.eccState pgTpt ok d
  | .qpCache => s.eccState pgQue ok d
  | .hotTally => s.eccState pgTrg ok d
  | .comparators => s.eccState pgTrg ok d
  | .matchBins => s.eccState pgMat ok d
  | .hbm code =>
    if ok then s.hbmCe d
    else match regionPage code.val with
      | some pg => (s.hbmUe d).raise pg srcUeState d
      | none => s.hbmUe d
  | .mire q post => if ok then s.hbmCe d else ((s.hbmUe d).mireLost q.val post.toNat).raise pgMat srcUeData d
  | .collStaging g k => if ok then s.hbmCe d else ((s.hbmUe d).instEnd g.val k csIndeterminate).raise pgColl srcUeData d
  | .schedule t k i => if ok then s.hbmCe d else ((s.hbmUe d).prefetchMiss t.val k i).raise pgSchd srcUeData d
  | .snapshot =>
    if ok then s.hbmCe d
    else
      let slot := (d - s.rd R.CNT_RING_BASE) / 0x20000
      ({ s with cnt := { s.cnt with bad := slot :: s.cnt.bad } } : State).hbmUe d
  | .sram => s.eccState pgChip ok d
  | .mram r =>
    if ok then s.raise pgFwu srcCe d
    else
      let s1 := s.setNv fun x => { x with
        svn := if r.val = 1 then [] else x.svn
        cfgBadA := x.cfgBadA || r.val = 2
        cfgBadB := x.cfgBadB || r.val = 3 }
      s1.mramFail
  | .bus page => if (pageKind page.toNat).isSome then s.raise page.toNat srcBus d else s

/-- ECC_ERROR. -/
def execEccError (site : EccSite) (correctable : Bool) (detail : BitVec 40) (s : State) : Host.Outcome State Fault Refusal :=
  liveLink s fun s => s.eccAt site correctable detail.toNat

/-! ### Temperature (21_pins_and_electrical.md R731) -/

/-- THERMAL_SAMPLE: the hottest sensor, in 1/8 °C above -64 °C. Throttling ends after 10 ms, 1,000 samples, below THR_ON - 5 °C. -/
def State.thermal (s : State) (t : Nat) : State :=
  let on := (s.rd R.PIN_THERM_THR_ON + 64) * 8
  let s1 := (s.wr R.PIN_THERM_TEMP t).wr R.PIN_THERM_PEAK (max t (s.rd R.PIN_THERM_PEAK))
  let cool := if t + 40 < on then s.pin.cool + 1 else 0
  let s2 : State := { s1 with pin := { s1.pin with cool := cool, deep := decide (t ≥ on + 24) } }
  if t ≥ on then (s2.wr R.PIN_THERM_THROTTLE 1).cond pgPwr 6 true
  else if cool ≥ 1000 then (s2.wr R.PIN_THERM_THROTTLE 0).cond pgPwr 6 false
  else s2

def execThermalSample (temp : BitVec 11) (s : State) : Host.Outcome State Fault Refusal := live s fun s => s.thermal temp.toNat

/-- HBM_TEMP_CHANGE: above 85 °C the stack refreshes at double rate, above 95 °C TEMP_HIGH is live. -/
def execHbmTempChange (temp : BitVec 8) (s : State) : Host.Outcome State Fault Refusal :=
  live s fun s => ((s.wr R.HBM_STATUS_TEMP temp.toNat).wrB R.HBM_STATUS_REFRESH_2X (temp.toNat > 85)).cond pgHbm 1 (temp.toNat > 95)

/-- HBM_SCRUB_PASS: every line of the 24 GiB has been scrubbed, a line being one 64-byte burst (log 70). -/
def execHbmScrubPass (s : State) : Host.Outcome State Fault Refusal :=
  live s fun s => (s.wr R.HBM_SCRUB_PASS_GT s.gt).bump C.HBM_SCRUB_LINES 0 0x18000000

/-! ### PPS_OUT (21_pins_and_electrical.md R729) -/

/-- PPS_OUT takes a level. -/
def State.ppsDrive (s : State) (high : Bool) (level : Option Bool) : State :=
  ({ s with pin := { s.pin with pps := high } } : State).emit (.pin "PPS_OUT" level)

/-- PPS_OUT_RISE: the whole second of the selected source that GT has just reached; a second that has passed is not signalled. -/
def execPpsOutRise (s : State) : Host.Outcome State Fault Refusal :=
  live s fun s =>
    let sec := 16000000000
    let shift := if s.on R.PIN_PPS_SRC then 0 else 16 * s.rd R.GEYS_TAI_NS_TAI_NS
    let past := (s.gt + shift) % sec
    let ok := s.on R.PIN_PPS_EN && (s.geysState = gsLocked || s.geysState = gsHoldover) && (s.on R.PIN_PPS_SRC || s.on R.GEYS_TAI_TAI_VALID)
    let at_ := s.gt - past + 1
    if !ok || past ≥ 11 || s.pin.ppsLast = at_ then s
    else ({ s with pin := { s.pin with ppsLast := at_ } } : State).ppsDrive true (some true)

/-- PPS_OUT_FALL: 100 ms after the rise. -/
def execPpsOutFall (s : State) : Host.Outcome State Fault Refusal := live s fun s => if s.pin.pps then s.ppsDrive false (some false) else s

end Sys2Proof.Machine
end

