-- ==== Sys2Proof/Machine/Queues.lean ====
section
/-! DEFINITION. The rows of queue pairs and event queues (09_host_attach_and_queues.md R334 to R357). -/

namespace Sys2Proof.Machine

/-! ### Doorbells -/

/-- A write of a QP doorbell register (R324, R330, R336, R358). -/
def State.doorbell (s : State) (k slot : Nat) (f : State → Nat → State) : State :=
  if s.fnState k = fsWedged then s
  else
    let s1 := s.bump C.QUE_DB_WRITES
    match (if s.fnState k = fsEnabled && s.serves (keyPort k) then s.qpAt k slot else none) with
    | some q => f s1 q
    | none => s1.bump C.QUE_DB_IGNORED

/-- SQ_PI_WRITE (R339). -/
def execSqPiWrite (h : HPort) (f : Func) (slot : Fin 7168) (v : W32) (s : State) : Host.Outcome State Fault Refusal :=
  hostWrites h.val s fun s => s.doorbell (ringKey h f) slot.val fun s q => (s.takePi q false v.toNat true).idxDue q

/-- RQ_PI_WRITE (R339). -/
def execRqPiWrite (h : HPort) (f : Func) (slot : Fin 7168) (v : W32) (s : State) : Host.Outcome State Fault Refusal :=
  hostWrites h.val s fun s => s.doorbell (ringKey h f) slot.val fun s q => (s.takePi q true v.toNat true).idxDue q

/-- CQ_CI_WRITE (R335, R336, R353). -/
def execCqCiWrite (h : HPort) (f : Func) (slot : Fin 7168) (v : W32) (s : State) : Host.Outcome State Fault Refusal :=
  hostWrites h.val s fun s => s.doorbell (ringKey h f) slot.val fun s q => (s.takeCqCi q v.toNat).idxDue q

/-- CQ_ARM_WRITE (R356). -/
def execCqArmWrite (h : HPort) (f : Func) (slot : Fin 7168) (arm : Bool) (s : State) : Host.Outcome State Fault Refusal :=
  hostWrites h.val s fun s => s.doorbell (ringKey h f) slot.val fun s q => if arm then s.modQp q fun x => { x with cqArm := true } else s

/-- A write of an event-queue doorbell register (R354, R358). -/
def State.eqDoorbell (s : State) (k vec : Nat) (f : State → State) : State :=
  if s.fnState k = fsWedged then s
  else
    let s1 := s.bump C.QUE_DB_WRITES
    if s.fnState k = fsEnabled && s.serves (keyPort k) && (s.eqAt k vec).valid then f s1 else s1.bump C.QUE_DB_IGNORED

/-- A new EQ_CI value (R354, R357). -/
def State.takeEqCi (s : State) (k vec v : Nat) : State :=
  let x := s.eqAt k vec
  if idxSub v x.ci ≥ 2 ^ 31 then s.bump C.QUE_DB_STALE
  else if idxSub v x.ci > idxSub x.pi x.ci then s.bump C.QUE_DB_IGNORED
  else
    let s1 := s.setEq k vec { x with ci := v }
    if x.dropped ≠ 0 && idxSub x.pi v < x.size then
      (s1.setEq k vec { x with ci := v, dropped := 0 }).eqWrite k vec evEqOverflow 0 x.dropped
    else s1

/-- EQ_CI_WRITE (R354). -/
def execEqCiWrite (h : HPort) (f : Func) (vec : Fin 2048) (v : W32) (s : State) : Host.Outcome State Fault Refusal :=
  hostWrites h.val s fun s =>
    let k := ringKey h f
    s.eqDoorbell k vec.val fun s => (s.takeEqCi k vec.val v.toNat).idxDue (2 ^ 18 + vkey k vec.val)

/-- EQ_ARM_WRITE (R356). -/
def execEqArmWrite (h : HPort) (f : Func) (vec : Fin 2048) (arm : Bool) (s : State) : Host.Outcome State Fault Refusal :=
  hostWrites h.val s fun s =>
    let k := ringKey h f
    s.eqDoorbell k vec.val fun s => if arm then (s.setEq k vec.val { s.eqAt k vec.val with armed := true }).eqKick k vec.val else s

/-! ### Doorbell records (R337, R338, R340) -/

/-- The QP's record may be read now: its function is served, and no record read of it is parked. -/
def State.recordReady (s : State) (q : Nat) : Bool :=
  let x := s.qp q
  x.valid && s.serves x.p.hport && s.fnState x.func = fsEnabled && !(s.parkedBy fun p => p.who = .record q)

/-- The indices of a record that has been read (R337, R339). -/
def State.takeRecord (s : State) (q : Nat) (bs : List Byte) : State :=
  let w := ofBytes bs
  (((s.takePi q false (field w 0 32) false).takePi q true (field w 32 32) false).takeCqCi q (field w 64 32)).idxDue q

/-- The request for the record of a QP: a line in the Shared state under CXL.cache where it is snooped, else a DMA read (R322, R338). -/
def State.recordRequest (s : State) (q pa : Nat) : State :=
  let x := s.qp q
  let req := ctxReq (s.ctx x.p.ctx) pa
  if x.snooped then (s.emit (.cxlShared req)).setQp q { x with snoopDue := false } else s.hostRead req 64

/-- Read the record of a QP; `data`: what the host answers (R338, R340, R366). -/
def State.readRecord (s : State) (q : Nat) (data : HostRead) : State :=
  let x := s.qp q
  let ctx := x.p.ctx
  match s.translate ctx x.p.record .read none (.record q) with
  | (.wait, s1) => s1
  | (.fault kind, s1) => s1.localFault (.record q) q ctx x.p.record .read kind none
  | (.hit pa _, s1) =>
    let s2 := (s1.recordRequest q pa).bump C.QUE_RECORD_READS
    match data with
    | none => (s2.dmaError x.func).qpError q qeRecordFault
    | some bs => if bs.length = 64 then s2.takeRecord q bs else s

/-- The QPs of a host port that are polled (R338), and those whose snooped line the device does not hold: it was created, or its line was
invalidated while a walk or a parked access held the request back (log 193). -/
def State.polled (s : State) (h : Nat) : List Nat :=
  (s.host.qps.filter fun kv =>
    kv.2.valid && kv.2.p.hport = h && (kv.2.p.dbMode = 1 || (kv.2.p.dbMode = 2 && (kv.2.fallback || kv.2.snoopDue))) &&
      s.recordReady kv.1).map Prod.fst

/-- The QP polled next, in round-robin order. -/
def State.nextPoll (s : State) (h : Nat) : Option Nat :=
  let l := s.polled h
  match l.find? fun q => q ≥ tget 0 s.host.pollLast h with
  | some q => some q
  | none => l.head?

/-- DOORBELL_RECORD_POLL (R338): the next POLL QP of the host port. -/
def execDoorbellRecordPoll (h : HPort) (data : HostRead) (s : State) : Host.Outcome State Fault Refusal :=
  engine s fun s =>
    match s.nextPoll h.val with
    | some q => ({ s with host := { s.host with pollLast := tput 0 s.host.pollLast h.val (q + 1) } } : State).readRecord q data
    | none => s

/-- SNOOP_INVALIDATE (R338): the line of a SNOOP QP's record is invalidated and read again. -/
def execSnoopInvalidate (q : QIdx) (data : HostRead) (s : State) : Host.Outcome State Fault Refusal :=
  hostWrites (s.qp q.val).p.hport s fun s =>
    let x := s.qp q.val
    if !x.valid || !x.snooped || x.snoopDue then s
    else
      let s1 := (s.setQp q.val { x with snoopDue := true }).bump C.QUE_SNOOP_INVAL
      if s1.recordReady q.val then s1.readRecord q.val data else s1

/-! ### Descriptors (R341 to R345) -/

/-- How many descriptors the next read takes: at most 8, up to the observed producer index, the ring's end and the page's. -/
def fetchRun (obs fetch size : Nat) : Nat := min (min 8 (idxSub obs fetch)) (min (size - fetch % size) (64 - fetch % size % 64))

/-- How many send descriptors the next read takes: the run ends at one that a launch has read already (08_scheduled_traffic.md R290). -/
def Qp.sqRun (x : Qp) : Nat := (x.sq.map fun d => idxSub d.x x.sqFetch).foldl min (fetchRun x.sqObs x.sqFetch x.sqSize)

/-- Send descriptors that R343 lets the QP fetch now. -/
def Qp.fetchRoom (x : Qp) : Nat := x.cqFree + 17 - (x.awaiting + x.sqIn.length)

/-- A ring of the QP may be fetched now. -/
def State.fetchReady (s : State) (q : Nat) (rq : Bool) : Bool :=
  let x := s.qp q
  s.qpRuns q && !x.error && !x.trgHeld &&
    if rq then !s.rqStopped q && x.prqHeld.isNone
    else !s.sqStopped q && !x.cqFull && !s.scheduledQp q

/-- `n` descriptors from ring index `i` on are read at an output address. -/
def State.fetchOut (s : State) (q : Nat) (rq : Bool) (n i pa : Nat) : State :=
  let (id, s1) := s.newDma
  let s2 := (s1.hostRead (ctxReq (s1.ctx (s.qp q).p.ctx) pa) (64 * n)).bump C.QUE_DESC_FETCHED 0 n
  let ins := (List.range n).map fun j => ({ x := idxAdd i j, dma := id } : Fetch)
  s2.modQp q fun y =>
    if rq then { y with rqIn := y.rqIn ++ ins, rqFetch := idxAdd i n } else ({ y with sqIn := y.sqIn ++ ins, sqFetch := idxAdd i n }).skipFetched y.sq.length

/-- DESCRIPTOR_FETCH (R341, R343, R344): one read of a run of descriptors, of kind fetch. -/
def execDescriptorFetch (q : QIdx) (rq : Bool) (s : State) : Host.Outcome State Fault Refusal :=
  engine s fun s =>
    let q := q.val
    let x := s.qp q
    let n := if rq then fetchRun x.rqObs x.rqFetch x.rqSize else min x.sqRun x.fetchRoom
    if n = 0 || !s.fetchReady q rq then s
    else
      let i := if rq then x.rqFetch else x.sqFetch
      if !s.npRoom x.p.hport (64 * (i % 64)) (64 * n) then s else
      let va := if rq then x.p.rqBase + 64 * (i % x.rqSize) else x.p.sqBase + 64 * (i % x.sqSize)
      let who := if rq then Access.rqFetch q else .sqFetch q
      match s.translate x.p.ctx va .fetch none who with
      | (.wait, s1) => s1
      | (.fault kind, s1) => s1.localFault who q x.p.ctx va .fetch kind none
      | (.hit pa _, s1) => s1.fetchOut q rq n i pa

/-- Mask of bits `lo` to `hi`. -/
def bits (lo hi : Nat) : Nat := 2 ^ (hi + 1) - 2 ^ lo

/-- Bits of the body of each SQ opcode that are not reserved (Tables 11.3, 12.1, 13.3, 14.2); none: the opcode is reserved. -/
def sqBody (op : Nat) : Option Nat :=
  if op = 0x00 then some 0
  else if op = 0x01 || op = 0x02 then some (bits 128 151 + bits 160 351)
  else if op = 0x03 then some (bits 128 159)
  else if op = 0x10 then some (bits 128 151 + bits 160 368 + bits 384 471)
  else if op = 0x20 || op = 0x21 || op = 0x23 || op = 0x24 then some (bits 128 147 + bits 192 255)
  else if op = 0x22 then some (bits 128 150 + bits 160 179 + bits 192 319)
  else if 0x30 ≤ op && op ≤ 0x34 then some (bits 128 157 + bits 160 415)
  else none

/-- Bits of the body of RECV (Table 12.1). -/
def rqBody : Nat := bits 128 152 + bits 160 407

/-- Reserved codes in fields of a descriptor: LEN 0 of WRITE and READ, MODE 3, DTYPE, ROP and FORM, and PHASE_GAP of a TIMED one
(R426, R484, R508; 01_architecture.md R46). -/
def reservedCode (d : Nat) : Bool :=
  let op := dOp d
  if op = 0x01 || op = 0x02 then field d 160 32 = 0
  else if op = 0x22 then field d 148 2 = 3
  else if 0x30 ≤ op && op ≤ 0x34 then field d 140 4 ≥ 8 || field d 144 4 ≥ 9 || field d 149 2 = 3 ||
    (field d 149 2 = 1 && (field d 384 32 < 2240 || 16000000 < field d 384 32))
  else false

/-- A send descriptor breaks R344. -/
def badSq (d : Nat) : Bool :=
  match sqBody (dOp d) with
  | none => true
  | some m => d &&& (2 ^ 512 - 1 - (m + bits 0 9 + bits 64 127)) ≠ 0 || reservedCode d

/-- A receive descriptor breaks R344. -/
def badRq (d : Nat) : Bool := dOp d ≠ 0x11 || d &&& (2 ^ 512 - 1 - (rqBody + bits 0 9 + bits 64 127)) ≠ 0

/-- Opcodes that a TRIG may release (R487, R507). -/
def targetOp (op : Nat) : Bool :=
  op = 0x00 || op = 0x01 || op = 0x02 || op = 0x10 || op = 0x20 || op = 0x21 || op = 0x24 || (0x30 ≤ op && op ≤ 0x34)

/-- The descriptor before SQ index `i` is a TRIG whose target has not arrived (R487). -/
def Qp.wantsTarget (x : Qp) (i : Nat) : Option SqDesc :=
  x.sq.find? fun d => idxAdd d.x 1 = i && dOp d.desc = 0x22 && d.slots = 1 && d.state = .fetched

/-- A descriptor of an adopted QP that carried an acknowledged RESERVE completes INDETERMINATE (15_pair_operation.md R556). -/
def State.indetDone (s : State) (q i : Nat) : State :=
  let x := s.qp q
  if x.indet.contains i then (s.setQp q { x with indet := x.indet.filter fun j => j ≠ i }).descDone q i csIndeterminate 0 else s

/-- A SEND that the EAGER_LIMIT of its fetch makes a rendezvous keeps that: FORCE_RNDV is set in the copy that the device holds (12_message_matching.md
R451, R477). -/
def State.latchSend (s : State) (d : Nat) : Nat :=
  if dOp d = 0x10 && field d 160 32 > s.rd R.MAT_CFG_EAGER_LIMIT then d ||| 2 ^ 368 else d

/-- A send descriptor of the ring has been fetched: it is taken, joined to its TRIG, or puts the QP in ERROR (R344, R487). -/
def State.sqArrive (s : State) (q i d : Nat) : State :=
  let x := s.qp q
  if x.error then s
  else if badSq d then s.qpError q qeDescBad
  else match x.wantsTarget i with
    | some t =>
      if !targetOp (dOp d) then s.qpError q qeDescBad
      else
        let pair := fun y : SqDesc => if y = t then { t with desc := t.desc + s.latchSend d * 2 ^ 512, slots := 2 } else y
        (s.setQp q { x with sq := x.sq.map pair }).indetDone q t.x
    | none =>
      let s1 := s.setQp q (x.insertSq { x := i, desc := s.latchSend d })
      if dOp d = 0x22 then s1 else s1.indetDone q i

/-- A receive descriptor of the ring has been fetched; RQ_CI passes it (Table 9.4). -/
def State.rqArrive (s : State) (q i d : Nat) : State :=
  let x := s.qp q
  if x.error then s
  else if badRq d then s.qpError q qeDescBad
  else s.setQp q { x with rqCi := idxAdd i 1, rq := x.rq ++ [(i, d)] }

/-- Take the descriptors of a run in order. -/
def State.arriveAll (s : State) (q : Nat) (rq : Bool) : List Fetch → List Byte → State
  | [], _ => s
  | f :: t, bs =>
    let d := ofBytes (bs.take 64)
    (if rq then s.rqArrive q f.x d else s.sqArrive q f.x d).arriveAll q rq t (bs.drop 64)

/-- In ERROR, descriptors that launches have read and that are complete wait no longer for a read that has failed (R336, R346). -/
def State.errorDrain (s : State) (q : Nat) : State := s.modQp q fun x => if x.error then x.drainSq x.sq else x

/-- DESCRIPTOR_ARRIVE (R344): the oldest read of the ring that is out returns; one of a function that is quiescing has no effect (R328). -/
def execDescriptorArrive (q : QIdx) (rq : Bool) (data : HostRead) (s : State) : Host.Outcome State Fault Refusal :=
  engine s fun s =>
    let q := q.val
    let x := s.qp q
    let out := if rq then x.rqIn else x.sqIn
    match out with
    | [] => s
    | f :: _ =>
      let run := out.takeWhile fun g => g.dma = f.dma
      let rest := out.drop run.length
      let s1 := s.setQp q (if rq then { x with rqIn := rest } else { x with sqIn := rest })
      match data with
      | none =>
        let s2 := s1.dmaError x.func
        if s.fnState x.func ≠ fsEnabled then s2 else (s2.qpError q qeFetchFault).errorDrain q
      | some bs =>
        if bs.length ≠ 64 * run.length then s
        else if s.fnState x.func ≠ fsEnabled then s1
        else (s1.arriveAll q rq run bs).errorDrain q

/-- COMPLETION_WRITE (R346 to R353): the next ready entry of the QP; none of a function that is quiescing (R328). -/
def execCompletionWrite (q : QIdx) (s : State) : Host.Outcome State Fault Refusal :=
  engine s fun s => if s.fnState (s.qp q.val).func = fsEnabled then (s.nextEntry q.val).poolEase else s

end Sys2Proof.Machine
end

