-- ==== Sys2Proof/Machine/RegWrite.lean ====
section
/-! DEFINITION. Writes of the register space (00_scope.md R9 to R14, 22_register_space.md R734 to R741): which bits of which fields an access
reaches, and what a write of each field does. -/

namespace Sys2Proof.Machine

/-- The state that a meaning answers. -/
def outcomeState (s : State) (o : Host.Outcome State Fault Refusal) : State :=
  match o with
  | .next t => t
  | _ => s

/-- Bits of a word that an access writes: the lowest, how many, and their values in place. -/
structure WordWrite where
  low : Nat
  bits : Nat
  data : Nat
  deriving DecidableEq, Repr

/-- The access reaches some bit of `n` bits from `lo` on. -/
def WordWrite.hits (w : WordWrite) (lo n : Nat) : Bool := lo < w.low + w.bits && w.low < lo + n

/-- A word with the written bits in the place of its own. -/
def WordWrite.over_ (w : WordWrite) (old : Nat) : Nat := setField old w.low w.bits (field w.data w.low w.bits)

/-- The bits that the access writes as 1. -/
def WordWrite.ones (w : WordWrite) : Nat := w.over_ 0

/-- One field of the word takes a write (R10, R12, R14): an RW field its merged value unless that is reserved, an RW1C bit 0 where it is
written 1, an RW1S bit 1. A write of the other codes sets nothing. -/
def State.writeField (s : State) (w : WordWrite) (f : RegField) (i j : Nat) : State :=
  if !w.hits f.low f.width then s
  else
    let old := s.rd f i j
    let new := field (w.over_ (old * 2 ^ f.low)) f.low f.width
    let ones := field w.ones f.low f.width
    match f.acc with
    | .rw => if f.allows new then s.wr f new i j else s
    | .rw1c => s.wr f (old - (old &&& ones)) i j
    | .rw1s => s.wr f (old ||| ones) i j
    | .ro | .wo | .rc => s

/-- The fields of a word that no rule gives a further effect. -/
def State.writeFields (s : State) (w : WordWrite) (fs : List (RegField × Nat × Nat)) : State :=
  fs.foldl (fun s x => s.writeField w x.1 x.2.1 x.2.2) s

/-- A bit that a write of 1 triggers. -/
def WordWrite.trigger (w : WordWrite) (b : Nat) : Bool := bitAt w.ones b

/-- A field's value after the access, from the word it shows. -/
def WordWrite.value (w : WordWrite) (old lo n : Nat) : Nat := field (w.over_ old) lo n

/-! ### Fault pages (18_faults.md R644, R646, R652, R658) -/

/-- FLT_REACT: each assigned field takes a code that is not reserved; UE_STATE is fixed (R646). -/
def State.writeReact (s : State) (w : WordWrite) (page : Nat) : State :=
  let old := s.faultWord page 0x18
  (List.range 16).foldl (fun s src =>
    let v := w.value old (4 * src) 4
    if !w.hits (4 * src) 4 || !sourceAssigned page src || v % 8 ≥ 6 || src = 14 then s else s.wr (reactField page src) v page) s

/-- A write into a fault page. -/
def State.writeFault (s : State) (w : WordWrite) (page off : Nat) : State :=
  if off = 0x00 then s.writeField w R.FLT_STAT_STAT page 0
  else if off = 0x10 then
    let up := field w.ones 0 16
    let hold := w.value (s.rd R.FLT_FORCE_HOLD page * 2 ^ 16) 16 16
    s.forceWrite page up hold
  else if off = 0x18 then s.writeReact w page
  else if off = 0x20 then s.writeField w R.FLT_GRACE_GRACE page 0
  else if off = 0x28 then s.writeField w R.FLT_FIRST_VALID page 0
  else if off = 0x38 then s.writeField w R.FLT_COUNT_COUNT page 0
  else if off = 0x40 then s.writeFields w [(R.FLT_VECTOR_VEC, page, 0), (R.FLT_VECTOR_HPORT, page, 0), (R.FLT_VECTOR_EN, page, 0)]
  else s

/-! ### Words whose fields do more than hold a value -/

/-- LANE_TXEQ: a write whose PRE, MAIN and POST do not add up to 64 leaves these three as they are (04_lanes.md R157), and with OVR they are
the coefficients in use. -/
def State.writeTxeq (s : State) (w : WordWrite) (fs : List (RegField × Nat × Nat)) (l : Nat) : State :=
  let new := fun f : RegField => w.value (s.rd f l * 2 ^ f.low) f.low f.width
  let sums := new R.LANE_TXEQ_PRE + new R.LANE_TXEQ_MAIN + new R.LANE_TXEQ_POST = 64
  let takes := R.LANE_TXEQ_PRE.allows (new R.LANE_TXEQ_PRE) && R.LANE_TXEQ_MAIN.allows (new R.LANE_TXEQ_MAIN) &&
    R.LANE_TXEQ_POST.allows (new R.LANE_TXEQ_POST) && decide sums
  let s1 := s.writeFields w (if takes then fs else fs.filter fun x => x.1 = R.LANE_TXEQ_OVR)
  let c := s1.coefFor l ((s1.lane l).pre, (s1.lane l).main, (s1.lane l).post)
  s1.setLane l { s1.lane l with pre := c.1, main := c.2.1, post := c.2.2 }

/-- LANE_TXEQ and PORT_CTRL (04_lanes.md R157, R158; 05_link_layer.md R200); PRBS_TEST restarts the port when it changes (log 166). -/
def State.writePort (s : State) (w : WordWrite) (fs : List (RegField × Nat × Nat)) (p : Nat) (a : Nat) : State :=
  if a % 0x4000 = 8 then s.writeTxeq w fs (a / 0x4000)
  else
    let s1 := s.writeFields w (fs.filter fun x => x.1 ≠ R.PORT_CTRL_EN)
    if a % 0x8000 = 0x800 then
      let s2 := if w.hits 0 1 then s1.setPortEn p (w.value (s1.rd R.PORT_CTRL_EN p) 0 1 = 1) else s1
      let test := s2.on R.PORT_CTRL_PRBS_TEST p != s.on R.PORT_CTRL_PRBS_TEST p
      if test || w.trigger 4 then s2.retrain p false else s2
    else s1

/-- LINK_CTRL (05_link_layer.md R195, R200). -/
def State.writeLinkCtrl (s : State) (w : WordWrite) (fs : List (RegField × Nat × Nat)) (p : Nat) : State :=
  let s1 := s.writeFields w fs
  let s2 := if w.trigger 0 && s1.rd R.LINK_STATUS_STATE p = lkDown then s1.retireLink p else s1
  if w.trigger 1 then s2.retrain p true else s2

/-- The device follows a grandmaster (06_timebase.md R215). -/
def State.follower (s : State) : Bool := !s.isGm && s.parent.isSome

/-- GEYS: GEYS_STEP, of which a half not written counts as 0 (DESIGN CHOICE, log 186); TRIM, which takes a write only with OVR and of a value
within R204; the limits that R211 tests; the references that R217 compares; and the TAI fields, which a follower does not take (06_timebase.md R204, R217, R219, R227, R229, R232). -/
def State.writeGeys (s : State) (w : WordWrite) (fs : List (RegField × Nat × Nat)) (a : Nat) : State :=
  if a = 0x300080 then (if w.hits 0 48 then s.gmStepBy (signedOf 48 (field w.ones 0 48)) else s)
  else if a = 0x300020 then
    let new := signedOf 36 (w.value (s.rd R.GEYS_TRIM_TRIM) 0 36)
    let takes := w.value (s.rd R.GEYS_TRIM_OVR * 2 ^ 63) 63 1 = 1 && clampTrim new = new
    (s.writeFields w (if takes then fs else fs.filter fun x => x.1 ≠ R.GEYS_TRIM_TRIM)).refsChanged
  else if a = 0x300028 then (s.writeFields w fs).refsChanged
  else if a = 0x300038 then (s.writeFields w fs).uncCheck
  else if a = 0x300040 || a = 0x300048 then (if s.follower then s else (s.writeFields w fs).refsChanged)
  else s.writeFields w fs

/-- ROUT: the pending topology word, which the next full reset takes into use when it is valid (R273, 02_grid_and_addressing.md R58, R59; log
158), TRANSIT_OFF, ARM, the exclusion masks and the alias tables of an unlocked bank (07_dynamic_routing.md R252, R253, R265, R267, R747). -/
def State.writeRout (s : State) (w : WordWrite) (fs : List (RegField × Nat × Nat)) (a : Nat) : State :=
  if a = 0x3000010 then (if w.hits 2 1 then s.setTransitOff (w.value (s.rd R.ROUT_CTRL_TRANSIT_OFF * 4) 2 1 = 1) else s)
  else if a = 0x3000028 then
    let s1 := s.writeFields w fs
    if w.trigger 0 then s1.flipArm else s1
  else if 0x3000060 ≤ a && a ≤ 0x3000078 then (if s.bankLocked ((a - 0x3000060) / 0x10) then s else s.writeFields w fs)
  else if 0x3100000 ≤ a && a < 0x3110000 then
    let b := (a - 0x3100000) / 0x8000
    let i := (a - 0x3100000) % 0x8000 / 8
    if s.bankLocked b then s else s.setAliasBank b (tput 0 (s.aliasBank b) i (w.over_ (tget 0 (s.aliasBank b) i) % 2 ^ 42))
  else if a = 0x3000008 then
    let s1 := s.writeFields w fs
    let t := s1.rd R.ROUT_TOPO_PEND_TOPO
    if topoValid t then s1.setNv fun x => { x with topo := some t } else s1
  else if a = 0x3000040 then (s.writeFields w fs).epSettle
  else s.writeFields w fs

/-- SCHD_CTRL (08_scheduled_traffic.md R286, R287, R311). -/
def State.writeSchd (s : State) (w : WordWrite) (fs : List (RegField × Nat × Nat)) (a : Nat) : State :=
  let s1 := s.writeFields w fs
  if a ≠ 0x4000000 then s1
  else
    let s2 := if w.trigger 6 then s1.schdGo else s1
    let s3 := if w.trigger 8 then s2.abortLocal 2 else s2
    if w.trigger 9 then s3.schdClear else s3

/-- XLT: GO, and the selected context, whose new fields act on walks begun later (10_translation.md R387, R398). -/
def State.writeXlt (s : State) (w : WordWrite) (fs : List (RegField × Nat × Nat)) (a : Nat) : State :=
  let i := s.rd R.XLT_CTX_SEL_CTX
  let c := s.ctx i
  if a = 0x7000018 then
    let v := w.over_ (ctxView c)
    s.setCtx i { c with
      valid := bitAt v 0, levels := if field v 1 2 = 3 then c.levels else field v 1 2, priv := bitAt v 3, amEn := bitAt v 4, supDataU := bitAt v 5, parkEn := bitAt v 6
      hport := field v 7 2, func := field v 9 6, pasid := field v 15 20 }
  else if a = 0x7000020 then s.setCtx i { c with root := w.value (c.root * 4096) 12 40 }
  else if a = 0x7000028 then
    let s1 := s.writeFields w fs
    outcomeState s1 (execXltInvGoWrite (w.trigger 0) s1)
  else s.writeFields w fs

/-- TPT, WIN (11_transport_and_rma.md R440, R444, R446). -/
def State.writeRma (s : State) (w : WordWrite) (fs : List (RegField × Nat × Nat)) (a : Nat) : State :=
  let s1 := s.writeFields w fs
  if a = 0x8000040 then (if w.trigger 0 then s1.tcReset (tcKey 0 (s1.rd R.TPT_TC_SEL_PID)) else s1)
  else if a = 0x90000A0 then outcomeState s1 (execWinOpenGoWrite (w.trigger 0) s1)
  else if a = 0x90000B0 then (if w.hits 0 32 then outcomeState s1 (execWinRevokeWrite (BitVec.ofNat 32 (field w.ones 0 32)) s1) else s1)
  else s1

/-- TRG: the selected counter and the counter bound to the selected QP (13_counters_and_triggers.md R497; log 74). -/
def State.writeTrg (s : State) (w : WordWrite) (fs : List (RegField × Nat × Nat)) (a : Nat) : State :=
  let i := s.rd R.TRG_CNT_SEL_INDEX
  let t := s.tally i
  if a = 0xB000020 then s.cntApply i fun t => { t with value := w.over_ t.value }
  else if a = 0xB000028 then
    let v := w.over_ (t.fail + t.lastStatus * 2 ^ 32)
    s.setTally i { t with fail := field v 0 32, lastStatus := field v 32 8, late := t.late && !w.trigger 40 }
  else if a = 0xB000030 then s.cntApply i fun t => t.add w.ones
  else if a = 0xB000040 then
    let q := s.rd R.TRG_QP_SEL_QIDX
    let v := w.over_ (s.qpCntWord q)
    let s1 := s.keepQpCnt q (v % 2 ^ 21)
    if (s.qp q).valid then s1.modQp q fun x => { x with cnt := if bitAt v 20 then some (field v 0 20) else none } else s1
  else s.writeFields w fs

/-- PAIR_CTRL (15_pair_operation.md R551, R560). -/
def State.writePair (s : State) (w : WordWrite) (fs : List (RegField × Nat × Nat)) (a : Nat) : State :=
  if a ≠ 0x700000 then s.writeFields w fs
  else
    let s1 := if w.hits 0 1 then s.pairMode (w.value (s.rd R.PAIR_CTRL_MODE) 0 1 = 1) else s
    if w.trigger 1 && s1.pairState = psSolo then s1.takeover false else s1

/-- PIN: the phase, STOP and FORCE, which act in TEST only, and PPS_OUT (18_faults.md R649, R653, R654; 21_pins_and_electrical.md R729). -/
def State.writePin (s : State) (w : WordWrite) (fs : List (RegField × Nat × Nat)) (a : Nat) : State :=
  if a = 0x200000 then
    let s1 := s.writeFields w (fs.filter fun x => x.1 ≠ R.PIN_PHASE_PHASE)
    if w.hits 0 2 then s1.setPhase (w.value s1.phase 0 2) else s1
  else if a = 0x200008 then
    if s.phase ≠ phTest then s
    else
      let s1 := s.writeFields w fs
      if s1.on R.PIN_FUM_STOP && !s1.on R.PIN_FUM_LEVEL then (s1.wr R.PIN_FUM_LEVEL 1).emit (.pin "FUMAROLE" none) else s1
  else if a = 0x200010 then s.writeFields w (if s.phase = phTest then fs else fs.filter fun x => x.1 ≠ R.PIN_ERR_FORCE)
  else if a = 0x200030 then
    let s1 := s.writeFields w fs
    if s1.on R.PIN_PPS_EN = s.on R.PIN_PPS_EN then s1 else s1.ppsDrive false (if s1.on R.PIN_PPS_EN then some false else none)
  else s.writeFields w fs

/-- PWR and CNT: RST_CTRL.FULL, and the new configuration of the counter reader (17_reset_power_supplies.md R599; 19_performance_counters.md R669). -/
def State.writeSys (s : State) (w : WordWrite) (fs : List (RegField × Nat × Nat)) (a : Nat) : State :=
  let s1 := s.writeFields w fs
  if a = 0x100088 then (if w.trigger 0 then s1.fullReset rcExpert 0 0 0 else s1)
  else if a = 0x400010 then s1.armReader (s1.rd R.CNT_WINDOW_WINDOW_US) (s1.rd R.CNT_START_START_GT)
  else s1

/-- A write into the word at an aligned address of the global space (R734). MIRE_RATE has filled its bucket at the old rate up to the write
(12_message_matching.md R470). -/
def State.writeWord (s : State) (w : WordWrite) (a : Nat) : State :=
  match pageAt a with
  | some (page, off) => s.writeFault w page off
  | none =>
    if isCounter a then s.writeField w (ovfOf (cntField a)) 0 0
    else
      let fs := wordFields a
      let b := a / 0x1000000
      if 0x1000000 ≤ a && a < 0x1300000 then s.writePort w fs ((a - 0x1000000) / 0x8000) (a - 0x1000000)
      else if 0x2000000 ≤ a && a < 0x2600000 && a % 0x10000 = 0 then s.writeLinkCtrl w fs ((a - 0x2000000) / 0x10000)
      else if 0x300000 ≤ a && a < 0x400000 then s.writeGeys w fs a
      else if 0x200000 ≤ a && a < 0x300000 then s.writePin w fs a
      else if 0x700000 ≤ a && a < 0x800000 then s.writePair w fs a
      else if a < 0x1000000 then s.writeSys w fs a
      else if b = 3 then s.writeRout w fs a
      else if b = 4 then s.writeSchd w fs a
      else if b = 7 then s.writeXlt w fs a
      else if b = 8 || b = 9 then s.writeRma w fs a
      else if b = 0xA then s.mireSettle.writeFields w fs
      else if b = 0xB then s.writeTrg w fs a
      else s.writeFields w fs

/-- The access is one that a register takes: 32 or 64 bits, aligned to its size (R9 to R11). -/
def sizeOk (a bytes : Nat) : Bool := (bytes = 4 || bytes = 8) && a % bytes = 0

/-- The bits that an access of `bytes` bytes at an address writes in its word. -/
def wordWrite (a bytes data : Nat) : WordWrite :=
  { low := 8 * (a % 8), bits := 8 * bytes, data := data % 2 ^ (8 * bytes) * 2 ^ (8 * (a % 8)) }

/-- A write of the global space. -/
def State.busWrite (s : State) (a bytes data : Nat) : State :=
  if sizeOk a bytes then s.writeWord (wordWrite a bytes data) (a - a % 8) else s

/-- A write of the global space while the blocks outside the always-on domain are in reset or without power: only the fields whose Reset column
reads POR take it (R740). -/
def State.busWriteAon (s : State) (a bytes data : Nat) : State :=
  if sizeOk a bytes then s.writeFields (wordWrite a bytes data) ((wordFields (a - a % 8)).filter fun x => x.1.aon) else s

/-! ### Reads -/

/-- A field with access RC is cleared by a read of it (R736). -/
def State.readClears (s : State) (w : WordWrite) (a : Nat) : State :=
  ((wordFields a).filter fun x => x.1.acc = .rc && w.hits x.1.low x.1.width).foldl (fun s x => s.wr x.1 0 x.2.1 x.2.2) s

/-- What a read of 32 or 64 bits of the global space returns, and its effect. -/
def State.busRead (s : State) (a bytes : Nat) : Nat × State :=
  if sizeOk a bytes then (field (s.readReg (a - a % 8)) (8 * (a % 8)) (8 * bytes), s.readClears (wordWrite a bytes 0) (a - a % 8)) else (0, s)

/-! ### BAR0 (09_host_attach_and_queues.md R324, R330, R359; 16_command_packets.md R583) -/

/-- What a read of BAR0 of a function returns, and its effect: a 32-bit read returns the half addressed, a read that is narrower or not aligned
returns 0 (R10, R11), and a read of a WEDGED function has no effect (09_host_attach_and_queues.md R330). -/
def State.bar0Read (s : State) (h : HPort) (f : Func) (a bytes : Nat) : Nat × State :=
  let k := ringKey h f
  if sizeOk a bytes then
    (field (s.readBar0 k (a - a % 8)) (8 * (a % 8)) (8 * bytes),
      if s.fnState k = fsWedged then s else s.readClears (wordWrite a bytes 0) (bar0Base k + (a - a % 8)))
  else (0, s)

/-- What a read of BAR2 of a host port's PF returns, and its effect: 0 while EXPERT_EN of the PF is 0 (R737; 09_host_attach_and_queues.md R324). -/
def State.bar2Read (s : State) (h : HPort) (a bytes : Nat) : Nat × State :=
  if bitAt (s.rd R.CMD_EXPERT_EXPERT_EN) h.val then s.busRead a bytes else (0, s)


/-- A write of the registers of a function: FUNC_CTRL, FUNC_STATUS and the command ring. -/
def State.writeFunc (s : State) (w : WordWrite) (h : HPort) (f : Func) (off : Nat) : State :=
  let k := ringKey h f
  let out := fun (s : State) (o : Host.Outcome State Fault Refusal) => outcomeState s o
  let idle := !s.on R.CMD_RCFG_EN k && !s.ringBusy k
  let low := w.hits 0 32
  let v32 := BitVec.ofNat 32 (field w.ones 0 32)
  let fs := wordFields (bar0Base k + off)
  if off = 0x00 then
    if w.hits 0 1 then (s.wrB R.FUNC_CTRL_EN (w.value (s.rd R.FUNC_CTRL_EN k) 0 1 = 1) k).fnEval k else s
  else if off = 0x08 then s.writeFields w fs
  else if off = 0x40 || off = 0x48 then (if idle then s.writeFields w fs else s)
  else if off = 0x50 then (if low then s.rcfgWrite k (field w.ones 0 32) else s)
  else if off = 0x58 then (if low then out s (execCmdPiWrite h f v32 s) else s)
  else if off = 0x60 then (if low then out s (execRplCiWrite h f v32 s) else s)
  else if off = 0x80 then out s (execCmdArmWrite h f (w.trigger 0) s)
  else s

/-- A write of a QP's doorbell block: a 32-bit or 64-bit write delivers the index of its low half. -/
def State.writeDoorbell (s : State) (w : WordWrite) (h : HPort) (f : Func) (slot : Fin 7168) (r : Nat) : State :=
  let v := BitVec.ofNat 32 (field w.ones 0 32)
  if !w.hits 0 32 then s
  else if r = 0x00 then outcomeState s (execSqPiWrite h f slot v s)
  else if r = 0x08 then outcomeState s (execRqPiWrite h f slot v s)
  else if r = 0x10 then outcomeState s (execCqCiWrite h f slot v s)
  else if r = 0x18 then outcomeState s (execCqArmWrite h f slot (w.trigger 0) s)
  else s

/-- A write of an event queue's doorbells. -/
def State.writeEqDoorbell (s : State) (w : WordWrite) (h : HPort) (f : Func) (vec : Fin 2048) (r : Nat) : State :=
  if !w.hits 0 32 then s
  else if r = 0 then outcomeState s (execEqCiWrite h f vec (BitVec.ofNat 32 (field w.ones 0 32)) s)
  else outcomeState s (execEqArmWrite h f vec (w.trigger 0) s)

/-- A write of the MSI-X table: a vector that is no longer masked sends its pending message. -/
def State.writeMsix (s : State) (w : WordWrite) (k vec r : Nat) : State :=
  let m := s.msixAt k vec
  if vec ≥ maxVec k then s
  else if r = 0 then s.setMsix k vec { m with addr := w.over_ m.addr }
  else
    let v := w.over_ (m.data + bNat m.masked * 2 ^ 32)
    (s.setMsix k vec { m with data := field v 0 32, masked := bitAt v 32 }).msixFlush k

/-- A write of BAR0 of a function; a WEDGED one ignores it (R330). -/
def State.bar0Write (s : State) (h : HPort) (f : Func) (a bytes data : Nat) : State :=
  let k := ringKey h f
  let w := wordWrite a bytes data
  let off := a - a % 8
  if !sizeOk a bytes || s.fnState k = fsWedged then s
  else if off < 0x88 then s.writeFunc w h f off
  else if 0x8000 ≤ off && off < 0x10000 then
    s.writeEqDoorbell w h f ⟨(off - 0x8000) / 16 % 2048, Nat.mod_lt _ (by decide)⟩ (off % 16)
  else if 0x10000 ≤ off && off < 0x80000 then
    s.writeDoorbell w h f ⟨(off - 0x10000) / 64 % 7168, Nat.mod_lt _ (by decide)⟩ (off % 64)
  else if 0x80000 ≤ off && off < 0x88000 then s.writeMsix w k ((off - 0x80000) / 16) (off % 16)
  else s

/-! ### The row -/

/-- REGISTER_WRITE (00_scope.md R9 to R14). BAR2 reaches the global space while EXPERT_EN of the PF is 1 (09_host_attach_and_queues.md R324,
R737); the register bus serves Caldera. -/
def execRegisterWrite (t : RegTarget) (bytes : Nat) (data : Word) (s : State) : Host.Outcome State Fault Refusal :=
  match t with
  | .bar0 h f a => hostWrites h.val s fun s => s.bar0Write h f a.toNat bytes data.toNat
  | .bar2 h a => hostWrites h.val s fun s =>
    if bitAt (s.rd R.CMD_EXPERT_EXPERT_EN) h.val then (s.busWrite a.toNat bytes data.toNat).carrWatch else s
  | .bus a => if s.runs then fin (s.busWrite a.toNat bytes data.toNat).carrWatch else fin (s.busWriteAon a.toNat bytes data.toNat)

end Sys2Proof.Machine
end

