-- ==== Sys2Proof/Machine/CmdSys.lean ====
section
/-! DEFINITION. The opcodes of Table 16.8: reset and power, faults, counters, firmware and trust, expert (16_command_packets.md R593 to R595). -/

namespace Sys2Proof.Machine

/-! ### Reset and power (17_reset_power_supplies.md R599, R615, R625, R628) -/

/-- RESET_FULL: the reply, then a full reset after DELAY_US (RESET_DELAY_EXPIRE). -/
def execResetFull (c : CmdRef) (delayUs : BitVec 32) (s : State) : Host.Outcome State Fault Refusal :=
  command .d 0x0B00 c (pack [(4, delayUs.toNat)]) s fun n s =>
    s.okIf n (delayUs.toNat ≤ 10000000) fun s => { s with pwr := { s.pwr with delayReset := true } }

/-- POWER_STATE STATE 1 and 2 (R615): MOSS needs its conditions now; PEAT sets TRANSIT_OFF and waits. -/
def State.powerRequest (s : State) (n target : Nat) : State :=
  if s.powerWaiter.isSome then s.ends n stBusy
  else if target = 1 then
    let cause := s.entryCause 1
    if cause ≠ 0 then ((s.wr R.PWR_MODE_TARGET 0).wr R.PWR_STATUS_REFUSE cause).finalReply n stBusy (pack [(1, cause)])
    else (s.wr R.PWR_MODE_TARGET 1).setWait n (.power 1)
  else
    let s1 := if s.on R.ROUT_CTRL_TRANSIT_OFF then s else ({ s with pwr := { s.pwr with transitSet := true } } : State).setTransitOff true
    s1.setWait n (.power 2)

/-- POWER_STATE (R615): STATE 0 cancels a PEAT request that waits. -/
def execPowerState (c : CmdRef) (state : BitVec 8) (s : State) : Host.Outcome State Fault Refusal :=
  command .d 0x0B01 c (pack [(1, state.toNat)]) s fun n s =>
    if state.toNat > 2 then s.ends n stBadParam
    else if state.toNat = 0 then
      match s.powerWaiter with
      | some (m, 2) => (s.powerFail m stFailed 10).ends n stOk
      | _ => s.ends n stOk
    else s.powerRequest n state.toNat

/-- WAKE_CFG (R625). -/
def execWakeCfg (c : CmdRef) (sources : BitVec 32) (s : State) : Host.Outcome State Fault Refusal :=
  command .d 0x0B02 c (pack [(4, sources.toNat)]) s fun n s => (s.wr R.PWR_WAKE_EN_SOURCES sources.toNat).ends n stOk

/-- LAST_WAKE (R628): the 16 bytes of the last-wake record. -/
def execLastWake (c : CmdRef) (s : State) : Host.Outcome State Fault Refusal :=
  command .a 0x0B03 c [] s fun n s => s.okay n [(8, s.rd R.PWR_LAST_WAKE0_WORD0), (8, s.rd R.PWR_LAST_WAKE1_WORD1)]

/-- SUPPLY_STATUS: PWR_SUPPLY. -/
def execSupplyStatus (c : CmdRef) (s : State) : Host.Outcome State Fault Refusal :=
  command .d 0x0B04 c [] s fun n s => s.okay n [(8, s.readReg 0x100040)]

/-! ### Faults (18_faults.md R644, R646, R649) -/

/-- PAGE is the address of a fault page. -/
def isPage (a : Nat) : Bool := (pageKind a).isSome

/-- FAULT_READ. -/
def execFaultRead (c : CmdRef) (page : BitVec 32) (s : State) : Host.Outcome State Fault Refusal :=
  command .d 0x0C00 c (pack [(4, page.toNat)]) s fun n s =>
    if isPage page.toNat then s.okay n [(8, s.faultWord page.toNat 0x00), (8, s.faultWord page.toNat 0x08)] else s.ends n stBadParam

/-- FAULT_CLEAR (R644). -/
def execFaultClear (c : CmdRef) (page : BitVec 32) (bits : BitVec 64) (s : State) : Host.Outcome State Fault Refusal :=
  command .d 0x0C01 c (pack [(4, page.toNat), (8, bits.toNat)]) s fun n s =>
    s.okIf n (isPage page.toNat) fun s => s.writeFault (wordWrite 0 8 bits.toNat) page.toNat 0x00

/-- FAULT_REACT (R645, R646): UE_STATE is fixed at CHIP_RESET with ERR. -/
def execFaultReact (c : CmdRef) (page : BitVec 32) (source reaction : BitVec 8) (s : State) : Host.Outcome State Fault Refusal :=
  command .d 0x0C02 c (pack [(4, page.toNat), (1, source.toNat), (1, reaction.toNat)]) s fun n s =>
    let src := source.toNat
    let r := reaction.toNat
    let ok := isPage page.toNat && src ≤ 15 && sourceAssigned page.toNat src && r < 16 && r % 8 < 6 && (src ≠ 14 || r = 0xC)
    s.okIf n ok fun s => s.wr (reactField page.toNat src) r page.toNat

/-- FAULT_GRACE. -/
def execFaultGrace (c : CmdRef) (page : BitVec 32) (grace : BitVec 64) (s : State) : Host.Outcome State Fault Refusal :=
  command .d 0x0C03 c (pack [(4, page.toNat), (8, grace.toNat)]) s fun n s =>
    s.okIf n (isPage page.toNat && R.FLT_GRACE_GRACE.allows grace.toNat) fun s => s.wr R.FLT_GRACE_GRACE grace.toNat page.toNat

/-- FAULT_FIRST. -/
def execFaultFirst (c : CmdRef) (page : BitVec 32) (s : State) : Host.Outcome State Fault Refusal :=
  command .d 0x0C04 c (pack [(4, page.toNat)]) s fun n s =>
    if isPage page.toNat then s.okay n [(8, s.faultWord page.toNat 0x28), (8, s.faultWord page.toNat 0x30)] else s.ends n stBadParam

/-- DEV_PHASE (R649). -/
def execDevPhase (c : CmdRef) (phase : BitVec 8) (s : State) : Host.Outcome State Fault Refusal :=
  command .d 0x0C05 c (pack [(1, phase.toNat)]) s fun n s =>
    if phase.toNat = 0 || phase.toNat > 3 then s.ends n stBadParam
    else if s.phase = phStartup then s.ends n stNotPermitted
    else (s.setPhase phase.toNat).ends n stOk

/-! ### Counters (19_performance_counters.md R676) -/

/-- READER_CFG: START_GT lies at least 10 µs, 160,000 ticks, ahead. -/
def execReaderCfg (c : CmdRef) (windowUs : BitVec 32) (startGt : BitVec 64) (s : State) : Host.Outcome State Fault Refusal :=
  command .d 0x0D00 c (pack [(4, windowUs.toNat), (8, startGt.toNat)]) s fun n s =>
    if startGt.toNat < s.gt + 160000 then s.ends n stBadParam
    else if s.geysState = gsInvalid then s.ends n stNotPermitted
    else (s.armReader windowUs.toNat startGt.toNat).ends n stOk

/-- PERF_READ. -/
def execPerfRead (c : CmdRef) (addr : BitVec 32) (s : State) : Host.Outcome State Fault Refusal :=
  command .d 0x0D01 c (pack [(4, addr.toNat)]) s fun n s =>
    let a := addr.toNat
    if isCounter a then s.okay n [(8, s.rd (cntField a)), (1, s.rd (ovfOf (cntField a)))] else s.ends n stBadParam

/-- SNAPSHOT_COPY: bytes 0x0_0000 to 0x1_45FF of the slot, from an HBM read that an uncorrectable error fails (Table 19.5). -/
def execSnapshotCopy (c : CmdRef) (index : BitVec 32) (outAddr : BitVec 64) (s : State) : Host.Outcome State Fault Refusal :=
  command .p 0x0D02 c (pack [(4, index.toNat), (8, outAddr.toNat)]) s fun n s =>
    let a := s.snapSlot index.toNat
    if s.hbmNat a 8 ≠ index.toNat || !bitAt (s.hbmNat (a + 44) 1) 0 then s.ends n stBadParam
    else if s.cnt.bad.contains (index.toNat % 512) then s.ends n stFailed
    else ((s.bump C.HBM_RD_64B 0 (hbmBursts a 83456)).hostWrite (cmdReq c outAddr.toNat) (s.hbmRead a 83456)).okay n [(4, 83456)]

/-! ### Firmware and trust (20_firmware_and_trust.md R686 to R706) -/

/-- The staging area is erased. -/
def State.stageErase (s : State) : State := (s.flashErase stagingOff stagingSize).wr R.FWU_STAGE_LEN 0

/-- Bytes written into the staging area: LEN reports one more than the highest offset. -/
def State.stageWrite (s : State) (off : Nat) (bs : List Byte) : State :=
  (s.flashWrite (stagingOff + off) bs).wr R.FWU_STAGE_LEN (max (s.rd R.FWU_STAGE_LEN) (off + bs.length))

/-- FW_STAGE (R687). -/
def execFwStage (c : CmdRef) (addr : BitVec 64) (len : BitVec 32) (data : HostRead) (s : State) : Host.Outcome State Fault Refusal :=
  command .p 0x0E00 c (pack [(8, addr.toNat), (4, len.toNat)]) s fun n s =>
    if len.toNat = 0 || len.toNat > stagingSize then s.ends n stBadParam
    else s.stageErase.withBuffer n c addr.toNat len.toNat data [] fun s bs => (s.stageWrite 0 bs).ends n stOk

/-- FW_STAGE_CHUNK (R687): DATA from LEN on is 0. -/
def execFwStageChunk (c : CmdRef) (offset : BitVec 32) (len : BitVec 8) (data : List Byte) (s : State) : Host.Outcome State Fault Refusal :=
  command .d 0x0E01 c (pack [(4, offset.toNat), (1, len.toNat)] ++ [0, 0, 0] ++ data) s fun n s =>
    let o := offset.toNat
    let l := len.toNat
    if l = 0 || l > 48 || !zeros (data.drop l) || o + l > stagingSize then s.ends n stBadParam
    else (((if o = 0 then s.stageErase else s).stageWrite o (data.take l))).ends n stOk

/-- A trial start-up runs and is not confirmed (R691, R701). -/
def State.trialRuns (s : State) : Bool := s.on R.FWU_STATUS_TRIAL_BOOTED && s.trial

/-- The boot-record write of a command has failed (R707): the trial is abandoned. -/
def State.bootFail (s : State) : State :=
  let s1 := s.bootStamp.mramFail
  if s1.trial then s1.abandonTrial else s1

/-- Every check of FW_ACTIVATE has passed (R692): the trial is recorded, and the reset or the live activation follows. In ROM load mode the slot
becomes active without a trial (R686). -/
def State.activateDone (s : State) (n : Nat) (live : Bool) : State :=
  let s1 := s.bootStamp
  if s1.pwr.boot = .load then
    let s2 := s1.setNv fun x => { x with activeImg := !x.activeImg, trialImg := false }
    ({ s2 with pwr := { s2.pwr with fwReset := true } } : State).ends n stOk
  else
    let min_ := s1.rd R.FWU_CONFIRM_TMO
    let s2 := (s1.setNv fun x => { x with trialImg := true, trialBoots := bNat live, trialMin := min_ }).journalOpen jrActivate
    if live then
      ((({ s2 with fw := { s2.fw with live := some n, restarted := false } } : State).wr R.FWU_STATUS_LIVE 1).wr R.CMD_STAT_LIVE_ACT 1).setWait n .activate
    else ({ s2 with pwr := { s2.pwr with fwReset := true } } : State).ends n stOk

/-- FW_ACTIVATE (R691, R692, R686, R708): `flashOk` is whether the flash write and its read-back succeed, `mramOk` the boot-record write. -/
def execFwActivate (c : CmdRef) (components : BitVec 32) (live : BitVec 8) (flashOk mramOk : Bool) (s : State) : Host.Outcome State Fault Refusal :=
  command .d 0x0E02 c (pack [(4, components.toNat), (1, live.toNat)]) s fun n s =>
    let load := decide (s.pwr.boot = .load)
    if s.trialRuns then s.ends n stBusy
    else if load && (live.toNat ≠ 0 || s.rd R.FWU_STAGE_LEN ≠ 0 && pkgKind s.pkgHeader ≠ 0) then s.ends n stBusy
    else if live.toNat > 1 || components.toNat ≥ 16 || s.rd R.FWU_STAGE_LEN = 0 then s.ends n stBadParam
    else if s.bootBusy then s.ends n stBusy
    else
      match s.activate components.toNat (live.toNat = 1) flashOk with
      | (s1, some (code, comp)) =>
        (((s1.otherAgain.wr R.FWU_ERR_CODE code).wr R.FWU_ERR_COMP comp).raise pgFwu 0 comp).finalReply n stFailed (pack [(1, code)])
      | (s1, none) =>
        if mramOk then s1.otherAgain.activateDone n (live.toNat = 1) else s1.otherAgain.bootFail.finalReply n stFailed (pack [(1, 0)])

/-- FW_CONFIRM (R695, R708): the boot record, the floors, and FLOOR_PENDING again. -/
def execFwConfirm (c : CmdRef) (mramOk : Bool) (s : State) : Host.Outcome State Fault Refusal :=
  command .d 0x0E03 c [] s fun n s =>
    if !s.trialRuns || s.phase ≠ phService then s.ends n stNotPermitted
    else if s.bootBusy then s.ends n stBusy
    else if !mramOk then s.bootFail.ends n stFailed
    else
      let confirm := fun x : NvState => { x.noTrial with
        activeImg := if x.trialImg then !x.activeImg else x.activeImg
        activeCfg := if x.trialCfg then !x.activeCfg else x.activeCfg
        floorPending := true }
      let s1 := (s.bootStamp.setNv confirm).completeFloors.otherAgain
      (({ s1 with aon := { s1.aon with confirmEnd := none, confirmDue := none } } : State).journalOpen jrConfirm).ends n stOk

/-- FW_STATUS (R696). -/
def execFwStatus (c : CmdRef) (s : State) : Host.Outcome State Fault Refusal :=
  command .a 0x0E04 c [] s fun n s =>
    s.okay n [(4, s.rd R.FWU_RELEASE_RUN), (4, s.rd R.FWU_RELEASE_OTHER), (4, field (s.readReg 0x500000) 0 32), (4, s.confirmRemain)]

/-- The status that CFG_WRITE's checks of the bytes give (R701, R703). -/
def State.cfgStatus (s : State) (len : Nat) (c : List Byte) : Nat :=
  let m := s.manifest (!s.nv.activeImg)
  let fmt := leAt c 4 2
  let fits := !s.nv.trialImg || (leAt m 0x14 1 ≤ fmt && fmt ≤ leAt m 0x15 1)
  if cfgLen c ≠ len || !fits || !cfgOk (s.rd R.FWU_FORMAT_CFG_FMT_MIN) (s.rd R.FWU_FORMAT_CFG_FMT_MAX) c then stBadParam
  else if !s.ownerRule c then stNotPermitted
  else stOk

/-- The bytes become a trial configuration, to be used from the next full reset; the pending topology word ends (R700, R701). -/
def State.cfgTake (s : State) (c : List Byte) : State :=
  let min_ := s.rd R.FWU_CONFIRM_TMO
  let take := fun x : NvState => { x with
    trialCfg := true, topo := none, trialMin := if x.trialImg then x.trialMin else min_, trialBoots := if x.trialImg then x.trialBoots else 0 }
  ((s.cfgStore (!s.nv.activeCfg) c).setNv take).wr R.ROUT_TOPO_PEND_TOPO (cfgTopo c)

/-- CFG_WRITE (R701 to R703, R708). -/
def execCfgWrite (c : CmdRef) (addr : BitVec 64) (len : BitVec 32) (data : HostRead) (mramOk : Bool) (s : State) : Host.Outcome State Fault Refusal :=
  command .p 0x0E05 c (pack [(8, addr.toNat), (4, len.toNat)]) s fun n s =>
    if s.trialRuns then s.ends n stBusy
    else s.withBuffer n c addr.toNat len.toNat data [] fun s bs =>
      let st := s.cfgStatus len.toNat bs
      if st ≠ stOk then s.ends n st
      else if s.bootBusy then s.ends n stBusy
      else if mramOk then (s.bootStamp.cfgTake bs).ends n stOk
      else s.bootFail.ends n stFailed

/-- The hashes of the loaded components, which the attestation key is derived from (R705). -/
def State.compHashes (s : State) : List Byte := s.fw.comps.flatMap fun x => x.2.2

/-- A component entry of Table 20.9. -/
def State.attestComp (s : State) (x : Nat × Nat × List Byte) : List Byte :=
  toBytes 1 x.1 ++ [0] ++ toBytes 2 x.2.1 ++ toBytes 2 (s.svnFloor x.1) ++ [0, 0] ++ x.2.2

/-- Bytes 0x000 to 0x37F of the attestation report (Table 20.9). -/
def State.attestBody (s : State) (nonce : List Byte) : List Byte :=
  let state := s.rd R.FWU_STATUS_RUN_IMG + 2 * s.rd R.FWU_STATUS_RUN_CFG + 4 * s.rd R.FWU_STATUS_DEFAULT_CFG + 8 * s.rd R.FWU_STATUS_TRIAL_BOOTED +
    16 * s.rd R.CMD_EXPERT_EXPERT_EN
  let comps := (s.fw.comps.flatMap s.attestComp).take 576
  toBytes 4 0x5A96A77E ++ toBytes 2 1 ++ toBytes 2 992 ++ toBytes 8 (s.rd R.SEC_SERIAL_SERIAL) ++ nonce ++ toBytes 8 (s.gt % 2 ^ 64) ++
    toBytes 4 (s.rd R.FWU_RELEASE_RUN) ++ toBytes 4 s.nv.inc ++ toBytes 1 (s.rd R.CHIP_ID_STEPPING) ++ toBytes 1 s.phase ++
    toBytes 1 (s.rd R.RST_STRAP_BOOT_SEL) ++ toBytes 1 state ++ toBytes 1 (s.rd R.CMD_CFG_EXPERT_POLICY) ++
    toBytes 1 (s.rd R.CMD_CFG_SMB_POLICY + 2 * s.rd R.CMD_EXPERT_SMB_EXPERT) ++ List.replicate 10 0 ++
    comps ++ List.replicate (576 - comps.length) 0 ++ sha512 s.fw.config ++ toBytes 64 s.nv.vkh ++ ownerHash s.fw.config ++ List.replicate 48 0

/-- ATTEST (R706): the signature is a constant of Config (log 48). -/
def execAttest (c : CmdRef) (outAddr : BitVec 64) (nonce : List Byte) (s : State) : Host.Outcome State Fault Refusal :=
  command .p 0x0E06 c (pack [(8, outAddr.toNat)] ++ nonce) s fun n s =>
    let body := s.attestBody nonce
    let sig := toBytes 96 (Config.attestSign s.compHashes body s.free).toNat
    let s1 : State := { s with free := s.free + 1 }
    (s1.hostWrite (cmdReq c outAddr.toNat) (body ++ sig)).okay n [(4, 992)]

/-- The certificate of an index (R704, R705; log 48). -/
def State.certOf (s : State) (i : Nat) : List Byte := if i = 2 then Config.attestCert s.compHashes else Config.certificate i

/-- IDENTITY_READ (R706). -/
def execIdentityRead (c : CmdRef) (index : BitVec 8) (outAddr : BitVec 64) (outLen : BitVec 32) (s : State) : Host.Outcome State Fault Refusal :=
  command .p 0x0E07 c (pack [(1, index.toNat), (8, outAddr.toNat), (4, outLen.toNat)]) s fun n s =>
    let cert := s.certOf index.toNat
    if index.toNat > 2 then s.ends n stBadParam
    else if outLen.toNat < cert.length then s.finalReply n stBadParam (pack [(4, cert.length)])
    else (s.hostWrite (cmdReq c outAddr.toNat) cert).okay n [(4, cert.length)]

/-! ### Expert (R593, R594; 22_register_space.md R738) -/

/-- The unlock a path asks for: the host port of its PF, 4 for SMBus. -/
def unlockKey : CmdPath → Nat
  | .ring h _ => h.val
  | .smbus => 4
  | .remote _ h => h.val

/-- The policy of a path: 0 NEVER, 1 OPEN, 2 SIGNED. -/
def State.unlockPolicy (s : State) (k : Nat) : Nat :=
  if k = 4 then s.rd R.CMD_CFG_SMB_POLICY else field (s.rd R.CMD_CFG_EXPERT_POLICY) (2 * k) 2

/-- Set or clear the expert access of a path. -/
def State.setUnlock (s : State) (k : Nat) (b : Bool) : State :=
  if k = 4 then s.wrB R.CMD_EXPERT_SMB_EXPERT b else s.wr R.CMD_EXPERT_EXPERT_EN (setBit (s.rd R.CMD_EXPERT_EXPERT_EN) k b)

/-- EXPERT_CHALLENGE (R593): a nonce that nothing predicts (log 4). -/
def execExpertChallenge (c : CmdRef) (s : State) : Host.Outcome State Fault Refusal :=
  command .px 0x0F00 c [] s fun n s =>
    if s.on R.CMD_EXPERT_LOCKOUT then s.ends n stBusy
    else
      let (v, s1) := s.draw 128
      let s2 : State := { s1 with cmd := { s1.cmd with nonces := tput none s1.cmd.nonces (unlockKey c.path) (some (v, s1.time.cycles)) } }
      s2.okay n [(8, v % 2 ^ 64), (8, v / 2 ^ 64)]

/-- A token verifies: the nonce of the last challenge, not older than 60 s (96 * 10^9 cycles), the serial number, the host port, and the owner's
signature. -/
def State.tokenOk (s : State) (k : Nat) (t : List Byte) : Bool :=
  let fresh := match tget none s.cmd.nonces k with
    | some (v, at_) => t.take 16 = toBytes 16 v && decide (s.time.cycles < at_ + 96000000000)
    | none => false
  fresh && t.length = 544 && leAt t 16 8 = s.rd R.SEC_SERIAL_SERIAL && leAt t 24 1 = k && zeros (bytesAt t 25 7) &&
    match s.ownerKey with
    | some key => sigOk key (t.take 32) (bytesAt t 32 512)
    | none => false

/-- A failed verification: FAILS, and after 8 of them without a success the lockout. -/
def State.unlockFail (s : State) : State :=
  let s1 := (s.wr R.CMD_EXPERT_FAILS (min 255 (s.rd R.CMD_EXPERT_FAILS + 1))).bump C.CMD_UNLOCK_FAILS
  let run := s1.cmd.failRun + 1
  let s2 : State := { s1 with cmd := { s1.cmd with failRun := if run ≥ 8 then 0 else run } }
  (if run ≥ 8 then s2.wr R.CMD_EXPERT_LOCKOUT 1 else s2).raise pgCmd 2

/-- EXPERT_UNLOCK (R593). -/
def execExpertUnlock (c : CmdRef) (token : List Byte) (s : State) : Host.Outcome State Fault Refusal :=
  command .px 0x0F01 c token s fun n s =>
    let k := unlockKey c.path
    let done := fun s : State =>
      ((({ s with cmd := { s.cmd with failRun := 0 } } : State).setUnlock k true).bump C.CMD_UNLOCKS).ends n stOk
    if s.unlockPolicy k = 1 then done s
    else if s.unlockPolicy k = 2 then
      let ok := s.tokenOk k token
      let s1 : State := { s with cmd := { s.cmd with nonces := tput none s.cmd.nonces k none } }
      if ok then done s1 else s1.unlockFail.ends n stNotPermitted
    else s.ends n stNotPermitted

/-- EXPERT_LOCK (R594). -/
def execExpertLock (c : CmdRef) (s : State) : Host.Outcome State Fault Refusal :=
  command .px 0x0F02 c [] s fun n s => (s.setUnlock (unlockKey c.path) false).ends n stOk

/-- REG_READ and REG_WRITE take an aligned access of 4 or 8 bytes within the global space (R738). -/
def regArgs (a width : Nat) : Bool := sizeOk a width && a + width ≤ 0x20000000

/-- REG_READ. -/
def execRegRead (c : CmdRef) (addr : BitVec 32) (width : BitVec 8) (s : State) : Host.Outcome State Fault Refusal :=
  command .px 0x0F03 c (pack [(4, addr.toNat), (1, width.toNat)]) s fun n s =>
    if !regArgs addr.toNat width.toNat then s.ends n stBadParam
    else
      let (v, s1) := s.busRead addr.toNat width.toNat
      s1.okay n [(8, v)]

/-- REG_WRITE: a write that resets the device leaves no reply (R581, R602). -/
def execRegWrite (c : CmdRef) (addr : BitVec 32) (width : BitVec 8) (value : BitVec 64) (s : State) : Host.Outcome State Fault Refusal :=
  commandLink .px 0x0F04 c (pack [(4, addr.toNat), (1, width.toNat), (8, value.toNat)]) s fun n s =>
    if !regArgs addr.toNat width.toNat then s.ends n stBadParam
    else (s.busWrite addr.toNat width.toNat value.toNat).ends n stOk

/-- EXPERT_STATUS: CMD_EXPERT. -/
def execExpertStatus (c : CmdRef) (s : State) : Host.Outcome State Fault Refusal :=
  command .a 0x0F05 c [] s fun n s => s.okay n [(8, s.readReg 0x600008)]

end Sys2Proof.Machine
end

