-- ==== Sys2Proof/Machine/HostLink.lean ====
section
/-! DEFINITION. The links of the host ports, their PERST_N inputs and the host-port reset (09_host_attach_and_queues.md R321,
17_reset_power_supplies.md R599, R606, R607, R610). -/

namespace Sys2Proof.Machine

/-- A host link that was up leaves its active state: LINK_DOWN of the HIF is true for one more port (R360; log 73). -/
def State.hostDown (s : State) (h : Nat) : State :=
  if s.on R.HIF_PORT_LINK_UP h then
    (({ s with pin := { s.pin with down := tput false s.pin.down h true } } : State).condOf pgHif 2 h).wr R.HIF_PORT_LINK_UP 0 h
  else s

/-- A host link is up: LINK_DOWN holds while some port's link has gone down and has not come up again (log 73). -/
def State.hostUp (s : State) (h : Nat) : State :=
  let s1 : State := { s with pin := { s.pin with down := tput false s.pin.down h false } }
  s1.cond pgHif 2 (s1.pin.down.any fun kv => kv.2) h

/-- The device lets go of WAKE_N (21_pins_and_electrical.md R718). -/
def State.wakeRelease (s : State) (h : Nat) : State :=
  if tget false s.pin.wake h then
    ({ s with pin := { s.pin with wake := tput false s.pin.wake h false } } : State).emit (.pin ("WAKE_N" ++ toString h) none)
  else s

/-- The link leaves L2, or enters it. -/
def State.setL2State (s : State) (h : Nat) (b : Bool) : State := { s with pin := { s.pin with l2 := tput false s.pin.l2 h b } }

/-! ### Host-port reset (R606, R607) -/

/-- The functions of a host port, by key. -/
def portFns (h : Nat) : List Nat := (List.range 64).map fun f => fkey h f

/-- Configuration space takes its reset values, and an ENABLED or QUIESCING function quiesces with PEND cleared. -/
def State.fnPortReset (s : State) (k : Nat) : State :=
  let s1 := s.setFunc k { s.func k with cfg := {}, enabled := false }
  if s1.fnState k = fsEnabled then s1.quiesceStart k
  else if s1.fnState k = fsQuiescing then s1.wr R.FUNC_STATUS_PEND 0 k
  else s1

/-- The descriptor reads of the port that are out have failed. -/
def State.dropFetches (s : State) (h : Nat) : State :=
  let mine := fun x : Qp => x.valid && x.p.hport = h
  let n := fun x : Qp => x.sqIn.length + x.rqIn.length
  let fail := fun (s : State) (x : Qp) => (List.range (n x)).foldl (fun s _ => s.dmaError x.func) s
  let s1 := ((s.host.qps.map Prod.snd).filter mine).foldl fail s
  let clear := fun kv : Nat × Qp => if mine kv.2 then (kv.1, { kv.2 with sqIn := [], rqIn := [] }) else kv
  { s1 with host := { s1.host with qps := s1.host.qps.map clear } }

/-- A walk of a context of the port has lost its read. -/
def State.dropWalk (s : State) (h i : Nat) : State :=
  match s.walk i with
  | none => s
  | some w =>
    let c := w.c
    if c.hport ≠ h then s
    else if w.who.isEmpty then (s.dmaError (fkey h c.func)).setWalk i none
    else (s.dmaError (fkey h c.func)).walkFault i w xfWalkErr

/-- Step 1 of R606: every DMA read of the port that is out is treated as failed. -/
def State.dropDma (s : State) (h : Nat) : State :=
  let s1 := s.dropFetches h
  let s2 := (s1.tpt.reads.filter fun r => (s1.window r.win).hport = h).foldl State.readFailed s1
  ((List.range 4).foldl (fun s i => s.dropWalk h i) s2).walkNext 64

/-- The end of the host-port reset for a function: OFF where nothing is out any more, its registers and its command ring at their reset values;
a WEDGED function stays as it is. -/
def State.fnPortEnd (s : State) (k : Nat) : State :=
  if s.fnState k = fsWedged then s
  else
    let s1 := if s.fnState k = fsQuiescing && !s.fnBusy k then s.quiesceEnd k else s
    (((s1.wr R.FUNC_CTRL_EN 0 k).wr R.FUNC_STATUS_ENABLE_DISCARDED 0 k).wr R.FUNC_STATUS_DMA_ERR 0 k).ringReset k

/-- A host-port reset. -/
def State.hostPortReset (s : State) (h : Nat) : State :=
  let s1 := ((portFns h).foldl State.fnPortReset (s.hostDown h)).dropDma h
  let s2 := ((portFns h).foldl State.fnPortEnd s1).expertLock h
  s2.resetRo [R.HIF_PORT_LINK_UP, R.HIF_PORT_LINK_CXL, R.HIF_PORT_LINK_FLIT, R.HIF_PORT_LINK_RATE, R.HIF_PORT_LINK_WIDTH] h

/-! ### Rows -/

/-- HOST_LINK_UP (R321): the port runs CXL where the host offers it and CXL_EN is 1. A port whose PERST_N is low does not train. -/
def execHostLinkUp (h : HPort) (offersCxl flit : Bool) (rate : Fin 8) (width : Fin 17) (s : State) : Host.Outcome State Fault Refusal :=
  live s fun s =>
    let p := h.val
    if tget false s.aon.perst p then s
    else
      let cxl := offersCxl && s.on R.HIF_PORT_CFG_CXL_EN p
      let s1 := ((((s.wr R.HIF_PORT_LINK_UP 1 p).wrB R.HIF_PORT_LINK_CXL cxl p).wrB R.HIF_PORT_LINK_FLIT flit p).wr
        R.HIF_PORT_LINK_RATE rate.val p).wr R.HIF_PORT_LINK_WIDTH width.val p
      ((s1.setL2State p false).wakeRelease p).hostUp p

/-- HOST_LINK_DOWN (R599): the link goes down, which resets the host port; a link that enters L2 leaves its active state only (log 66). -/
def execHostLinkDown (h : HPort) (l2 : Bool) (s : State) : Host.Outcome State Fault Refusal :=
  live s fun s =>
    let p := h.val
    if l2 then (s.hostDown p).setL2State p true
    else ((s.hostPortReset p).setL2State p false).wakeRelease p

/-- PERST_N[h] takes a level. -/
def State.setPerst (s : State) (h : Nat) (low : Bool) : State := { s with aon := { s.aon with perst := tput false s.aon.perst h low } }

/-- PERST_ASSERT (R599): a wake in MOSS (Table 17.10), then the host-port reset; the level itself outlives every reset of the device. -/
def execPerstAssert (h : HPort) (s : State) : Host.Outcome State Fault Refusal :=
  let s1 := s.setPerst h.val true
  if s1.pwr.held then fin s1
  else fin ((if s1.powerState = psMoss then s1.wakeLatch wkPerst h.val else s1).hostPortReset h.val)

/-- PERST_DEASSERT (R610): the port starts link training; a wake in MOSS and PEAT (Table 17.8). -/
def execPerstDeassert (h : HPort) (s : State) : Host.Outcome State Fault Refusal :=
  let s1 := (s.setPerst h.val false).wakeRelease h.val
  if s1.pwr.held || !tget false s.aon.perst h.val then fin s1
  else
    let st := s1.powerState
    fin ((if st = psMoss || st = psPeat then s1.wakeLatch wkPerst h.val else s1).emit (.hostTrain h.val))

end Sys2Proof.Machine
end

