-- ==== Sys2Proof/Machine/Jtag.lean ====
section
/-! DEFINITION. The TAP controller of IEEE 1149.1 (21_pins_and_electrical.md R721, R723; log 49). -/

namespace Sys2Proof.Machine

/-- The next state of the TAP controller at a rising edge of TCK with TMS. -/
def Tap.next (t : Tap) (tms : Bool) : Tap :=
  match t, tms with
  | .reset, true => .reset
  | .reset, false => .idle
  | .idle, true => .selDr
  | .idle, false => .idle
  | .selDr, true => .selIr
  | .selDr, false => .capDr
  | .capDr, true => .ex1Dr
  | .capDr, false => .shDr
  | .shDr, true => .ex1Dr
  | .shDr, false => .shDr
  | .ex1Dr, true => .updDr
  | .ex1Dr, false => .pauDr
  | .pauDr, true => .ex2Dr
  | .pauDr, false => .pauDr
  | .ex2Dr, true => .updDr
  | .ex2Dr, false => .shDr
  | .updDr, true => .selDr
  | .updDr, false => .idle
  | .selIr, true => .reset
  | .selIr, false => .capIr
  | .capIr, true => .ex1Ir
  | .capIr, false => .shIr
  | .shIr, true => .ex1Ir
  | .shIr, false => .shIr
  | .ex1Ir, true => .updIr
  | .ex1Ir, false => .pauIr
  | .pauIr, true => .ex2Ir
  | .pauIr, false => .pauIr
  | .ex2Ir, true => .updIr
  | .ex2Ir, false => .shIr
  | .updIr, true => .selDr
  | .updIr, false => .idle

def State.setPin (s : State) (f : PinState → PinState) : State := { s with pin := f s.pin }

/-- The `n` low bits of a number, lowest first. -/
def bitList (n v : Nat) : List Bool := (List.range n).map fun i => bitAt v i

/-- What Capture-DR loads: BYPASS one 0, IDCODE its register, the others cells whose values no rule gives. -/
def State.captureDr (s : State) : State :=
  match s.pin.instr with
  | .bypass => s.setPin fun p => { p with shift := [false] }
  | .idcode => s.setPin fun p => { p with shift := bitList 32 Config.jtagIdcode.toNat }
  | .sample | .extest =>
    let (v, s1) := s.draw Config.jtagCells
    s1.setPin fun p => { p with shift := bitList Config.jtagCells v }
  | .internal =>
    let (v, s1) := s.draw Config.jtagScanLen
    s1.setPin fun p => { p with shift := bitList Config.jtagScanLen v }

/-- What Capture-IR loads: the two bits nearest TDO are 1 and 0, as IEEE 1149.1 fixes them. -/
def State.captureIr (s : State) : State :=
  let (v, s1) := s.draw Config.jtagIrLen
  s1.setPin fun p => { p with shift := [true, false] ++ (bitList Config.jtagIrLen v).drop 2 }

/-- The instruction of a code; the internal registers need TEST_MODE (R723). -/
def State.jtagInstr (s : State) (code : List Bool) : JtagInstr :=
  let k := (Config.jtagDecode code).val
  if k = 1 then .idcode else if k = 2 then .sample else if k = 3 then .extest
  else if k = 4 && s.on R.RST_STRAP_TEST_MODE then .internal else .bypass

/-- A rising edge of TCK: what the current state does, then the next state; Test-Logic-Reset selects IDCODE. -/
def State.tckRise (s : State) (tms tdi : Bool) : State :=
  let s1 := match s.pin.tap with
    | .capDr => s.captureDr
    | .capIr => s.captureIr
    | .shDr | .shIr => s.setPin fun p => { p with shift := p.shift.drop 1 ++ [tdi] }
    | _ => s
  s1.setPin fun p =>
    let t := p.tap.next tms
    { p with tap := t, instr := if t = .reset then .idcode else p.instr }

/-- A falling edge of TCK: the Update states act, and TDO follows. -/
def State.tckFall (s : State) : State :=
  let s1 := match s.pin.tap with
    | .updIr => s.setPin fun p => { p with instr := s.jtagInstr p.shift }
    | .updDr => if s.pin.instr = .sample || s.pin.instr = .extest then s.setPin fun p => { p with cells := p.shift } else s
    | _ => s
  let shifting := s1.pin.tap = .shDr || s1.pin.tap = .shIr
  let v := if shifting && s1.up then s1.pin.shift.head? else none
  if s1.pin.tdo = v then s1 else (s1.setPin fun p => { p with tdo := v }).emit (.pin "TDO" v)

/-- JTAG_TAP_CLOCK. -/
def execJtagTapClock (e : TapEdge) (s : State) : Host.Outcome State Fault Refusal :=
  match e with
  | .rise tms tdi => fin (s.tckRise tms tdi)
  | .fall => fin s.tckFall
  | .trst =>
    let s1 := s.setPin fun p => { p with tap := .reset, instr := .idcode }
    fin (if s1.pin.tdo.isNone then s1 else (s1.setPin fun p => { p with tdo := none }).emit (.pin "TDO" none))

end Sys2Proof.Machine
end

