-- ==== Sys2Proof/Machine/Launch.lean ====
section
/-! DEFINITION. The rows that fetch the descriptors of scheduled launches (08_scheduled_traffic.md R290 to R294, R307, R312). -/

namespace Sys2Proof.Machine

/-- The launch has been fetched, or skipped. -/
def State.launchNext (s : State) (e : Nat) (late : Bool) : State :=
  let x := { s.xlt with launchFault := tput 0 s.xlt.launchFault e 0 }
  if late then
    { s with xlt := x, schd := { s.schd with fetchedNext := tput 0 s.schd.fetchedNext e (tget 0 s.schd.fetchedNext e + 1) } }
  else { s with xlt := x, schd := { s.schd with fetched := tput 0 s.schd.fetched e (tget 0 s.schd.fetched e + 1) } }

/-- DPID of the START entry that a launch list entry names (Table 8.4). -/
def State.launchDpid (s : State) (late : Bool) (l : Launch) : Nat :=
  eDpid (s.slotEntry (if late then ((s.schd.switch.map Prod.fst).getD s.runBuf) else s.runBuf) l.port l.slot)

/-- A descriptor whose launch is skipped has still to complete with the skip's status: it is not complete, and no launch of it has been skipped
before (R312). -/
def State.skipOwed (s : State) (q i : Nat) : Bool :=
  let x := s.qp q
  (s.skipOf q i).isNone && !x.spent i && !(x.sq.any fun d => d.x = i && d.isDone)

/-- A launch is skipped, and its descriptor is to complete with a status (R307, R312); without a translation fault it is a breach. -/
def State.launchSkip (s : State) (e : Nat) (late : Bool) (l : Launch) (idx status : Nat) : State :=
  let s1 := ((s.launchNext e late).bump C.SCHD_SKIP_DATA).wr R.SCHD_EVENT_SKIP 1
  let d : SkippedDesc := { qp := l.qidx, idx := idx, status := status }
  let s2 : State := if s.skipOwed l.qidx idx then { s1 with schd := { s1.schd with skipped := s1.schd.skipped ++ [d] } } else s1
  if status = csXltLocal then s2 else s2.breach bkSkip l.port l.slot (s.launchDpid late l)

/-- A launch that finds its descriptor unable to start because a planned move is near is skipped; the descriptor is left to the mate
(15_pair_operation.md R565; log 180). -/
def State.launchPass (s : State) (e : Nat) (late : Bool) (l : Launch) : State :=
  (((s.launchNext e late).bump C.SCHD_SKIP_DATA).wr R.SCHD_EVENT_SKIP 1).breach bkSkip l.port l.slot (s.launchDpid late l)

/-- A descriptor that a launch has read joins the QP's list in SQ order; ordinary fetching goes on from the oldest one that none has read
(R290). -/
def State.launchDesc (s : State) (q idx d : Nat) : State :=
  s.modQp q fun x =>
    let y := (x.insertSq { x := idx, desc := s.latchSend d, launched := true }).skipFetched (x.sq.length + 1)
    y.drainSq y.sq

/-- The operation of SQ index `idx` of a QP, where it has one. -/
def State.sqOp (s : State) (q idx : Nat) : Option (Nat × XOp) :=
  s.tpt.ops.findSome? fun kv => match kv.2 with
    | some x => if x.owner = .sq q idx then some (kv.1, x) else none
    | none => none

/-- What a launch finds for its descriptor. -/
inductive LaunchRes
  /-- a walk is under way -/
  | wait
  /-- the launch is skipped -/
  | skip (status : Nat)
  /-- its operation -/
  | op (o : Nat) (x : XOp)

/-- The operation that a scheduled descriptor becomes. -/
def State.launchedOp (s : State) (q idx d : Nat) (t : RankDest) : XOp :=
  let x := s.qp q
  let send := dOp d = 0x10
  { owner := .sq q idx
    kind := if dOp d = 0x01 then .write else if dOp d = 0x02 then .read else if field d 368 1 = 1 then .rts else .eager
    q := q, launched := true, tc := tcKey (s.tcSet x.p.hport) t.pid, dhport := t.hport, dfunc := t.func, dqidx := t.qidx, job := x.p.job
    len := field d 160 32, laddr := field d 192 64, woff := if send then 0 else field d 256 64, wkey := if send then 0 else field d 320 32
    comm := if send then field d 320 24 else 0, srank := if send then field d 344 24 else 0, tag := if send then field d 256 64 else 0
    convKey := if send then field d 384 32 else 0, convOff := if send then field d 416 56 else 0 }

/-- The operation of a scheduled descriptor: one that runs, or one made of it now; else the status with which the descriptor is skipped: it has no
packets (R294 step 1), its rank names no peer (02_grid_and_addressing.md R62, R79), or the source of a rendezvous does not translate, or has no
window (12_message_matching.md R451, R453). -/
def State.launchOp (s : State) (e q idx d : Nat) : LaunchRes × State :=
  match s.sqOp q idx with
  | some (o, x) => (.op o x, s)
  | none =>
    let x := s.qp q
    if dOp d ≠ 0x01 && dOp d ≠ 0x02 && dOp d ≠ 0x10 then (.skip csBreach, s)
    else
      match s.resolveFor (.sq q idx) x.p.job (field d 128 24) with
      | (.error st, s1) => (.skip st, s1)
      | (.ok t, s1) =>
        let y := s1.launchedOp q idx d t
        if y.kind ≠ .rts then
          let (n, s2) := (s1.descStart q idx).newOp y
          (.op n y, s2)
        else if tget 0 s1.xlt.launchFault e ≠ 0 then (.skip csXltLocal, s1)
        else match s1.spanPages (pagesFor y.len) (.sq q idx) x.p.ctx y.laddr y.len .read e (.launch e) with
          | (.wait, s2) => (.wait, s2)
          | (.fault _ _, s2) => (.skip csXltLocal, s2.bump C.XLT_FAULT_LOCAL)
          | (.ok _, s2) =>
            let (n, s3) := (s2.descStart q idx).newOp y
            let s4 := s3.rtsSetup n y
            match s4.op n with
            | some z => (.op n z, s4)
            | none => (.skip csXltLocal, s4)

/-- Form packet `j` of an operation for a launch (R294 steps 3 to 5). -/
def State.launchForm (s : State) (o : Nat) (x : XOp) (j ep start : Nat) (payload : List Byte) : State :=
  let (seq, s1) := s.assignSeq x.tc
  let (opid, s2) := match x.opid with
    | some n => (n, s1)
    | none => s1.assignOpid x.tc
  let s3 := s2.setOp o (some { x.formed j with opid := some opid, rtsSent := x.kind = .rts })
  let s4 := if x.opid.isNone then s3.reserve o x opid seq else s3
  let p := formPacket (s4.opHdr x j seq 7) (some (x.ext j opid)) payload
  let a : Await := { seq := seq, op := some o, head := p.headD 0, ext := pktExtFlit p, laddr := x.laddr + 4096 * j }
  let s5 := (s4.modTc x.tc fun t => { t with awaits := t.awaits ++ [a] }).bump C.TPT_PKT_TX
  let g := match s5.op o with
    | some z => z.gate
    | none => none
  s5.after g (.stage ep start p) (·.toStaging ep start p)

/-- A launched SEND's packet `j` may not take its sequence number yet: an earlier send to the peer, or an earlier packet of its own, has not been
formed (12_message_matching.md R454). -/
def State.launchBehind (s : State) (o : Nat) (x : XOp) (j : Nat) : Bool := s.sendBehind o x || (x.kind = .eager && decide (x.next < j))

/-- The descriptor is in place: check its packet, read the payload and form it. An operation that has not started waits for what an ordinary start
would wait for (09_host_attach_and_queues.md R345; 10_translation.md R391; 12_message_matching.md R453; 13_counters_and_triggers.md R486, R493). -/
def State.launchRun (s : State) (e : Nat) (late : Bool) (l : Launch) (idx d start : Nat) (payload : HostRead) : State :=
  let ctx := (s.qp l.qidx).p.ctx
  if (s.sqOp l.qidx idx).isNone && (s.startsHeld l.qidx || !(s.qp l.qidx).letsStart idx d) then s
  else match s.launchOp e l.qidx idx d with
  | (.wait, s1) => s1
  | (.skip st, s1) => s1.launchSkip e late l idx st
  | (.op o x, s1) =>
    let s1 := s1.touchTc x.tc
    if x.winWait then s1
    else if l.pkt ≥ x.count || x.status ≠ csOk then s1.launchSkip e late l idx csBreach
    else if (s1.tc x.tc).txState = txUnreachable then s1.launchSkip e late l idx csPeerUnreachable
    else if !s1.canForm then s1
    else if (s1.tc x.tc).txState ≠ txOpen then (if (s1.tc x.tc).helloOut then s1 else s1.sendHello x.tc)
    else if !s1.mayAssign x.tc || s1.launchBehind o x l.pkt then s1
    else
      let y := { x with next := l.pkt }
      match y.formSpan with
      | none => (s1.launchForm o x l.pkt l.eport start []).launchNext e late
      | some (va, n, acc) =>
        if tget 0 s1.xlt.launchFault e ≠ 0 then s1.launchSkip e late l idx csXltLocal
        else match s1.translateSpan (pagesFor n) ctx va n acc (some e) (.launch e) with
          | (.wait, s2) => s2
          | (.fault _ _, s2) => (s2.bump C.XLT_FAULT_LOCAL).launchSkip e late l idx csXltLocal
          | (.ok segs, s2) =>
            if acc = .write then (s2.launchForm o x l.pkt l.eport start []).launchNext e late
            else
              let s3 := s2.readSegs ctx segs
              match payload with
              | none => (s3.dmaError (s3.qp l.qidx).func).launchSkip e late l idx csXltLocal
              | some bs => if bs.length = n then (s3.launchForm o x l.pkt l.eport start bs).launchNext e late else s

/-- SQ index `i` lies under the observed producer index (R294 step 1; 09_host_attach_and_queues.md R341). -/
def Qp.posted_ (x : Qp) (i : Nat) : Bool := decide (1 ≤ idxSub x.sqObs i) && decide (idxSub x.sqObs i ≤ x.sqSize)

/-- The QP fetches send descriptors now, for a launch or for the completion of a skipped one (09_host_attach_and_queues.md R343, R358;
10_translation.md R391; 13_counters_and_triggers.md R493). -/
def State.launchFetches (s : State) (q : Nat) : Bool := (s.qp q).fetchRoom ≠ 0 && !s.sqStopped q && !(s.qp q).trgHeld

/-- A launch reads its descriptor, which has not been read yet, and goes on with it. -/
def State.launchRead (s : State) (e : Nat) (late : Bool) (l : Launch) (idx start : Nat) (data : HostRead) : State :=
  let q := l.qidx
  let x := s.qp q
  let va := x.p.sqBase + 64 * (idx % x.sqSize)
  if tget 0 s.xlt.launchFault e ≠ 0 then s.launchSkip e late l idx csXltLocal
  else match s.translate x.p.ctx va .fetch (some e) (.launch e) with
    | (.wait, s1) => s1
    | (.fault _, s1) => (s1.bump C.XLT_FAULT_LOCAL).launchSkip e late l idx csXltLocal
    | (.hit pa _, s1) =>
      let s2 := (s1.hostRead (ctxReq (s1.ctx x.p.ctx) pa) 64).bump C.QUE_DESC_FETCHED
      match data with
      | none => ((s2.dmaError x.func).qpError q qeFetchFault).launchSkip e late l idx csBreach
      | some bs =>
        let d := ofBytes (bs.take 64)
        if bs.length < 64 then s
        else if badSq d then (s2.qpError q qeDescBad).launchSkip e late l idx csBreach
        else (s2.launchDesc q idx d).launchRun e late l idx (s2.latchSend d) start (some (bs.drop 64))

/-- LAUNCH_FETCH (R294): the next launch of an engine, from s - FETCH_LEAD on. `data`: the 64 bytes of the descriptor, where it has not been
read yet, and then the payload of the packet. No slot is read twice: a launch waits for a read that is out, and one whose descriptor is complete
is skipped. -/
def execLaunchFetch (e : Fin 24) (data : HostRead) (s : State) : Host.Outcome State Fault Refusal :=
  engine s fun s =>
    let e := e.val
    match s.nextLaunch e with
    | none => s
    | some (late, k, l, start) =>
      if !s.launchReady late l start then s
      else
        let q := l.qidx
        let x := s.qp q
        let idx := (l.ringIdx + l.stride * k) % 2 ^ 32
        if !s.qpServed q then s.launchSkip e late l idx csBreach
        else if x.reading idx then s
        else match s.skipOf q idx with
          | some d => s.launchSkip e late l idx d.status
          | none =>
            match x.sq.find? fun y => y.x = idx with
            | some y =>
              if y.isDone then s.launchSkip e late l idx csBreach
              else if s.qpQuiet q && (s.sqOp q idx).isNone then s.launchPass e late l
              else s.launchRun e late l idx y.desc start data
            | none =>
              if x.error || x.spent idx || !x.posted_ idx then s.launchSkip e late l idx csBreach
              else if s.qpQuiet q then s.launchPass e late l
              else if !s.launchFetches q then s
              else s.launchRead e late l idx start data

/-- A skipped descriptor completes with its status. -/
def State.skipDone (s : State) (d : SkippedDesc) : State :=
  match s.sqOp d.qp d.idx with
  | some (o, _) => s.opFail o d.status
  | none => s.descDone d.qp d.idx d.status 0

/-- A skipped descriptor of a QP can complete now: its bytes are there, or can be read; or it never will, its QP being gone, or in ERROR without
having read it (R312; 09_host_attach_and_queues.md R336). -/
def State.skipReady (s : State) (d : SkippedDesc) : Bool :=
  let x := s.qp d.qp
  !x.valid || (x.sq.any fun y => y.x = d.idx) || (!x.reading d.idx && (x.error || x.spent d.idx || (x.posted_ d.idx && s.launchFetches d.qp)))

/-- SKIPPED_DESC_COMPLETE (R312): the oldest skipped descriptor that can complete: the observed producer index has passed it. One that has not been
posted when its QP returns to ordinary fetching completes, without being executed, as soon as it is (log 191). `data`: the descriptor's 64 bytes,
where they have not been read. -/
def execSkippedDescComplete (data : HostRead) (s : State) : Host.Outcome State Fault Refusal :=
  engine s fun s =>
    match s.schd.skipped.find? s.skipReady with
    | none => s
    | some d =>
      let x := s.qp d.qp
      let drop := fun s : State => ({ s with schd := { s.schd with skipped := s.schd.skipped.erase d } } : State)
      if !x.valid then drop s
      else if x.sq.any fun y => y.x = d.idx then (drop s).skipDone d
      else if x.error || x.spent d.idx then drop s
      else
        let va := x.p.sqBase + 64 * (d.idx % x.sqSize)
        match s.translate x.p.ctx va .fetch none (.sqFetch d.qp) with
        | (.wait, s1) => s1
        | (.fault kind, s1) => s1.localFault (.sqFetch d.qp) d.qp x.p.ctx va .fetch kind none
        | (.hit pa _, s1) =>
          let s2 := (s1.hostRead (ctxReq (s1.ctx x.p.ctx) pa) 64).bump C.QUE_DESC_FETCHED
          match data with
          | none => drop ((s2.dmaError x.func).qpError d.qp qeFetchFault)
          | some bs =>
            if bs.length ≠ 64 then s
            else if badSq (ofBytes bs) then drop (s2.qpError d.qp qeDescBad)
            else (drop (s2.launchDesc d.qp d.idx (ofBytes bs))).skipDone d

end Sys2Proof.Machine
end

