-- ==== Sys2Proof/Machine/Matching.lean ====
section
/-! DEFINITION. The rows of message matching (12_message_matching.md R450 to R474). -/

namespace Sys2Proof.Machine

/-- The start of a SEND of queue pair `q`: its rank, the translation of LADDR, and the operation, eager or by rendezvous, which its fetch has
decided (R451). -/
def State.startSend (s : State) (q : Nat) (o : Owner) (d : Nat) : State :=
  let x := s.qp q
  match s.resolveFor o x.p.job (field d 128 24) with
  | (.error st, s) => s.beginEnd o st
  | (.ok t, s) =>
    let len := field d 160 32
    s.startPages o q (field d 192 64) len .read fun s =>
      let rndv := field d 368 1 = 1
      let op : XOp := {
        owner := o, kind := if rndv then .rts else .eager, q := q, tc := tcKey (s.tcSet x.p.hport) t.pid
        dhport := t.hport, dfunc := t.func, dqidx := t.qidx, job := x.p.job, len := len, laddr := field d 192 64
        comm := field d 320 24, srank := field d 344 24, tag := field d 256 64
        convKey := field d 384 32, convOff := field d 416 56 }
      let (n, s1) := (s.begin_ o).newOp op
      if rndv then s1.rtsSetup n op else s1

/-- SEND (R450 to R453). -/
def execSend (q : QIdx) (fired : Bool) (s : State) : Host.Outcome State Fault Refusal :=
  engine s fun s =>
    match s.startOf q.val fired 0x10 with
    | some (o, d) => s.startSend q.val o d
    | none => s

/-- RNDV_WINDOW_OPEN (R453): a window index is free again. -/
def execRndvWindowOpen (o : Nat) (s : State) : Host.Outcome State Fault Refusal :=
  engine s fun s =>
    match s.op o with
    | some x => if x.winWait && s.freeWindow.isSome then s.rtsSetup o { x with winWait := false } else s
    | none => s

/-- RECV (R459): the oldest fetched receive takes a post sequence. A fetched receive has no LADDR translated before data lands. -/
def execRecv (q : QIdx) (s : State) : Host.Outcome State Fault Refusal :=
  engine s fun s =>
    let x := s.qp q.val
    if !s.qpRuns q.val || x.prqHeld.isSome then s
    else match x.rq with
      | [] => s
      | (i, d) :: t =>
        let r : Recv := { idx := i, desc := d, post := x.nextPost }
        ((s.setQp q.val { x with rq := t, nextPost := (x.nextPost + 1) % 2 ^ 64 }).postRecv q.val r).copyBound q.val r.post

/-- PRQ_ENTRY_FREE (R459): a posted-receive entry is free, and the held receive of a QP searches again. -/
def execPrqEntryFree (q : QIdx) (s : State) : Host.Outcome State Fault Refusal :=
  engine s fun s =>
    match (s.qp q.val).prqHeld with
    | some r =>
      if s.prqUsed < s.prqSize then
        let s1 := s.modQp q.val fun x => { x with prqHeld := none }
        ((s1.postRecv q.val r).copyBound q.val r.post).cond pgMat 2 (s1.host.qps.any fun kv => kv.2.prqHeld.isSome)
      else s
    | none => s

/-- REORDER_RELEASE (R457): reorder entry `i`, when its SEQ is RX_EXPECTED. -/
def execReorderRelease (i : Nat) (s : State) : Host.Outcome State Fault Refusal :=
  engine s fun s =>
    match s.mat.reorder[i]? with
    | none => s
    | some p =>
      let h := p.pkt.headD 0
      let ext := pktExtFlit p.pkt
      if hSeq h ≠ (s.tc p.tc).rxExpected then s
      else
        let s1 := ({ s with mat := { s.mat with reorder := s.mat.reorder.eraseIdx i } } : State).hbmRd (hPlen h)
        match s.sendCheck h ext with
        | some st => (s1.mireEased).refuseFinal p.tc h ext p.e st
        | none => ({ s1 with mat := { s1.mat with stage := s1.mat.stage ++ [p] } } : State).mireEased

/-! ### The match stage (R458 to R464, R469, R470, R472 to R474) -/

/-- The match unit of a send packet (R458). -/
def SendPkt.unit (p : SendPkt) : Nat := hDqidx (p.pkt.headD 0) % 16

/-- A packet leaves the match stage. -/
def State.stageDrop (s : State) (p : SendPkt) : State :=
  { s with mat := { s.mat with stage := s.mat.stage.erase p, fault := tput none s.mat.fault p.unit none } }

/-- The packet of the match stage that is applied next: the oldest of its unit, and none that waits for a page (R458). -/
def State.stagePick (s : State) : Option SendPkt :=
  s.mat.stage.find? fun p =>
    s.mat.stage.find? (fun y => y.unit = p.unit) = some p && !(s.xlt.walkQueue.any fun w => w.awaits (.stage p.unit)) &&
      !(s.xlt.walks.any fun kv => kv.2.any fun w => w.awaits (.stage p.unit))

/-- A send packet has its outcome: it is recorded when the mate has acknowledged the record it waits for (R464). -/
def State.sendOutcome (s : State) (p : SendPkt) (g : Option Nat) (nak : Option Nat) : State :=
  let h := p.pkt.headD 0
  let ext := pktExtFlit p.pkt
  (s.stageDrop p).after g (.record p.tc h ext p.e nak) (·.recordSend p.tc h ext p.e nak)

/-- A send packet is refused for a retry. -/
def State.sendRetry (s : State) (p : SendPkt) : State :=
  (s.stageDrop p).refuseRetry p.tc (p.pkt.headD 0) (pktExtFlit p.pkt) p.e

/-- A packet of a bound message lands (R463). -/
def State.landSend (s : State) (p : SendPkt) (m : Msg) (r : Recv) : State :=
  let h := p.pkt.headD 0
  let ext := pktExtFlit p.pkt
  let q := hDqidx h
  let off := xMoff ext.toNat
  let seen := { m with outcomes := m.outcomes ++ [off] }
  let noRoom := fun m : Msg => (m.verdict r).isSome && s.heldFull q
  match m.refuse with
  | some st => if noRoom seen then (s.heldRefuse q).sendRetry p else (s.msgSettle q seen).sendOutcome p m.gate (some st)
  | none =>
    let n := min (hPlen h) (r.len - off)
    let landed := { seen with landed := m.landed + n }
    let ctx := (s.qp q).p.ctx
    let bad := fun (s : State) (kind va : Nat) =>
      let s1 := s.remoteFault ctx va kind .write
      let m1 := { seen with status := csXltRemote, refuse := some csXltRemote }
      if xfRetry kind then s1.sendRetry p
      else if noRoom m1 then (s.heldRefuse q).sendRetry p
      else (s1.msgSettle q m1).sendOutcome p m.gate (some csXltRemote)
    if noRoom landed then (s.heldRefuse q).sendRetry p
    else match tget none s.mat.fault p.unit with
      | some (kind, va) => bad s kind (pageVa (r.laddr + off) va)
      | none =>
        match s.translateSpan (pagesFor n) ctx (r.laddr + off) n .write none (.stage p.unit) with
        | (.wait, s1) => s1
        | (.fault kind va, s1) => bad s1 kind va
        | (.ok segs, s1) =>
          let s2 := s1.writeSegs ctx segs ((pktPayload p.pkt).take n)
          (s2.msgSettle q landed).sendOutcome p m.gate none

/-- A packet's payload is stored with its unexpected message, or refused by the rate limit (R470). -/
def State.storeSend (s : State) (p : SendPkt) (m : Msg) (fresh : Bool) : State :=
  let h := p.pkt.headD 0
  let q := hDqidx h
  let bs := pktPayload p.pkt
  if !p.parked && bs.length > s.mireBucket then (s.bump C.MAT_MIRE_RATE_REFUSED).sendRetry p
  else
    let off := xMoff (pktExt p.pkt)
    let m1 := { m with stored := m.stored ++ [(off, bs)], outcomes := m.outcomes ++ [off] }
    let s1 := if p.parked then s else s.mireTake bs.length
    let s2 := if fresh then (s1.addMsg q m1).bump C.MAT_UNEXP_STORED else s1.setMsg q m1
    let x := s2.qp q
    let all := m1.allOutcomes && m1.mlen ≤ 256
    let order := ((x.msgs.filter Msg.open_).takeWhile fun y => !y.is m.tc m.opid).length
    let (g, s3) := if fresh || all then
        s2.mirror (.unexp x.p.hport x.p.func q m.comm m.srank m.tag (tcPid m.tc) m.opid m.mlen m.kind order
          (if all then some (m1.stored.flatMap Prod.snd) else none))
      else (none, s2)
    (s3.sendOutcome p g none).mireEased

/-- A message that holds no payload joins the unexpected list: SEND_RTS, or CONVERTING with its refusal (R459, R472). -/
def State.appendSend (s : State) (p : SendPkt) (m : Msg) (nak : Option Nat) : State :=
  let q := hDqidx (p.pkt.headD 0)
  let s1 := (s.addMsg q m).bump (if m.kind = .converting then C.MAT_CONVERTED else C.MAT_UNEXP_STORED)
  let x := s1.qp q
  let order := (x.msgs.filter Msg.open_).length - 1
  let (g, s2) := s1.mirror (.unexp x.p.hport x.p.func q m.comm m.srank m.tag (tcPid m.tc) m.opid m.mlen m.kind order none)
  (s2.sendOutcome p g nak).mireEased

/-- A message's first packet finds no receive (R459, R469, R472). -/
def State.unexpected (s : State) (p : SendPkt) (m : Msg) : State :=
  if m.kind = .rts then
    if s.mireRoom 1 0 then (s.hbmWr 64).appendSend p { m with hdrs := 1 } none else s.mireFull.sendRetry p
  else if s.strict && m.mlen > 256 then
    if s.mireRoom 1 0 then (s.hbmWr 64).appendSend p { m with kind := .converting, hdrs := 1 } (some csTruncated) else s.mireFull.sendRetry p
  else
    let blocks := max 1 ((m.mlen + 4095) / 4096)
    if s.mireRoom 1 (blocks - bNat p.parked) then (s.hbmWr 64).storeSend p { m with hdrs := 1, blocks := blocks } true else s.mireFull.sendRetry p

/-- The first packet of a message is matched (R459). -/
def State.matchFirst (s : State) (p : SendPkt) : State :=
  let h := p.pkt.headD 0
  let e := pktExt p.pkt
  let q := hDqidx h
  let rts := hPtype h = ptSendRts
  let m : Msg := {
    tc := p.tc, opid := xSendOpid e, comm := xComm e, srank := xSrank e, tag := xTag e, mlen := xMlen e
    kind := if rts then .rts else .eager, shport := hShport h, sfunc := hSfunc h, sqidx := hSqidx h, job := hJob h
    rvkey := if rts then xMoff e else 0, rvoff := if rts then xRvoff e else 0 }
  let (r, n, wild) := pickRecv (s.qp q).posted m.comm m.srank m.tag
  let s1 := s.bump C.MAT_ENTRIES_EXAMINED 0 n
  match r with
  | none => s1.unexpected p m
  | some r =>
    if s.heldFull q then (s1.heldRefuse q).sendRetry p
    else
      let s2 := ((s1.modQp q fun x => { x with posted := x.posted.erase r }).bump C.MAT_MATCH_POSTED).whenB wild (·.bump C.MAT_WILDCARD_WINS)
      let s3 := (s2.addMsg q m).bindMsg q m r
      if rts then
        let g := match s3.findMsg q m.tc m.opid with
          | some y => y.gate
          | none => if s.strict then some ((s3.pair.txNext + 2 ^ 32 - 1) % 2 ^ 32) else none
        s3.sendOutcome p g none
      else match s3.findMsg q m.tc m.opid with
        | some y => s3.landSend p y r
        | none => s3

/-- A SEND_RTS finds the CONVERTING entry of its message (R474). -/
def State.attachRts (s : State) (p : SendPkt) (m : Msg) : State :=
  let h := p.pkt.headD 0
  let e := pktExt p.pkt
  let q := hDqidx h
  let m1 := { m with
    kind := .rts, rvkey := xMoff e, rvoff := xRvoff e, shport := hShport h, sfunc := hSfunc h, sqidx := hSqidx h, job := hJob h
    mlen := xMlen e }
  match m.bound with
  | some r => if s.heldFull q then (s.heldRefuse q).sendRetry p else ((s.setMsg q m1).rndvStart q m1 r).sendOutcome p m.gate none
  | none =>
    let s1 := s.setMsg q m1
    let x := s1.qp q
    let order := ((x.msgs.filter Msg.open_).takeWhile fun y => !y.is m.tc m.opid).length
    let (g, s2) := s1.mirror (.unexp x.p.hport x.p.func q m.comm m.srank m.tag (tcPid m.tc) m.opid m1.mlen .rts order none)
    s2.sendOutcome p g none

/-- The packet `p` that its match unit has in hand is matched, landed, stored or refused. -/
def State.matchPacket (s : State) (p : SendPkt) : State :=
  let h := p.pkt.headD 0
  let rts := hPtype h = ptSendRts
  match s.endpointCheck h with
  | some st => s.sendOutcome p none (some st)
  | none =>
  match s.findMsg (hDqidx h) p.tc (xSendOpid (pktExt p.pkt)) with
  | some m =>
    if m.kind = .converting then (if rts then s.attachRts p m else s.sendOutcome p m.gate (some csTruncated))
    else if m.kind = .rts then s.sendOutcome p m.gate (if rts then none else some csTruncated)
    else match m.bound with
      | some r => s.landSend p m r
      | none => s.storeSend p m false
  | none =>
    if hFirst h then s.matchFirst p
    else (s.bump C.MAT_DEAD_DISCARD).sendOutcome p none (some csIndeterminate)

/-- MATCH_ARRIVAL (R458 to R460): the next send packet of the match stage. -/
def execMatchArrival (s : State) : Host.Outcome State Fault Refusal :=
  engine s fun s =>
    match s.stagePick with
    | none => s
    | some p => s.matchPacket p

end Sys2Proof.Machine
end

