-- ==== Sys2Proof/Machine/SchedLoad.lean ====
section
/-! DEFINITION. Loading a schedule image (08_scheduled_traffic.md R278 to R285): the load checks of Table 8.6 over the bytes supplied, and the
opcode SCHED_LOAD. -/

namespace Sys2Proof.Machine

/-- The bytes of an image, with the fields of its head that the checks read often. -/
structure Image where
  bs : List Byte
  cycle : Nat
  tslot : Nat

def Image.of (bs : List Byte) : Image := { bs := bs, cycle := leAt bs 0x020 4, tslot := leAt bs 0x024 1 * 512 }

/-- A structure that the head names: the offset of its directory entry, its own offset, its entries and their size. -/
structure ImgPart where
  dir : Nat
  off : Nat
  count : Nat
  size : Nat

def imgPart (bs : List Byte) (dir size : Nat) : Option ImgPart :=
  (dirEntry (leAt bs dir 8)).map fun x => { dir := dir, off := x.1, count := x.2, size := size }

def ImgPart.bytes (p : ImgPart) : Nat := p.count * p.size

/-- The slot table of a table number, the launch list of an engine, the burst list. -/
def Image.table (m : Image) (t : Nat) : Option ImgPart := imgPart m.bs (0x100 + 8 * t) 8
def Image.launches (m : Image) (e : Nat) : Option ImgPart := imgPart m.bs (0x450 + 8 * e) 16
def Image.bursts (m : Image) : Option ImgPart := imgPart m.bs 0x030 8

/-- Directory entries in offset order. -/
def Image.parts (m : Image) : List ImgPart :=
  m.bursts.toList ++ (List.range 106).filterMap m.table ++ (List.range 24).filterMap m.launches

/-- Entry i of a part. -/
def Image.entry (m : Image) (p : ImgPart) (i : Nat) : Nat := leAt m.bs (p.off + p.size * i) p.size

/-- Entry i of a slot table, i counted cyclically. -/
def Image.slot (m : Image) (p : ImgPart) (i : Nat) : Nat := m.entry p (if p.count = 0 then 0 else i % p.count)

/-- The first check that fails, as the offset of the failing byte. -/
def firstBad (l : List (Bool × Nat)) : Option Nat := (l.find? fun x => !x.1).map Prod.snd

/-- The first place that answers the offset of a failing byte. -/
def firstAt (l : List (Option Nat)) : Option Nat := (l.find? Option.isSome).join

/-- The first byte, counted from the lowest, in which `n` bits of a value from bit `lo` on are not all 0; none where they all are. -/
def setByte (v lo n : Nat) : Option Nat := (List.range 16).find? fun k => (field v lo n * 2 ^ lo) / 2 ^ (8 * k) % 256 ≠ 0

/-- The first byte of a field at `off` that differs from the value it must hold. -/
def diffByte (bs : List Byte) (off n v : Nat) : Option Nat :=
  ((List.range n).find? fun k => leAt bs (off + k) 1 ≠ v / 2 ^ (8 * k) % 256).map fun k => off + k

/-- A byte within a structure, by its offset in the image. -/
def shiftBy (off : Nat) (b : Option Nat) : Option Nat := b.map fun k => off + k

def within (v lo hi : Nat) : Bool := lo ≤ v && v ≤ hi

/-- The first byte that is not 0 of `n` reserved bytes. -/
def rsvdByte (bs : List Byte) (off n : Nat) : Option Nat := ((List.range n).find? fun k => leAt bs (off + k) 1 ≠ 0).map fun k => off + k

/-- Check 0x04: the head (Table 8.1), HQ (R277) and the reserved bits of the directory. A value out of range fails in its field's first byte,
a reserved bit in the byte that holds it (log 160). -/
def Image.headBad (m : Image) : Option Nat :=
  let b := m.bs
  let hq := leAt b 0x025 1 * m.tslot
  let head := firstBad [(leAt b 0x008 4 ≠ 0, 0x008), (leAt b 0x00C 4 % 8 = 0 && leAt b 0x00C 4 ≥ 0x510, 0x00C),
    (within (m.cycle % 2 ^ 21) 1 1048576, 0x020)]
  let lens := firstBad [(within (leAt b 0x024 1) 1 32, 0x024), (within (leAt b 0x025 1) 1 64 && within hq 1536 32768, 0x025),
    (within (leAt b 0x026 1) 1 20, 0x026), (leAt b 0x027 1 ≤ 100, 0x027)]
  let dirs := (List.range 130).map fun i => shiftBy (0x100 + 8 * i) (setByte (leAt b (0x100 + 8 * i) 8) 62 2)
  firstAt ([head, shiftBy 0x020 (setByte m.cycle 21 11), lens, shiftBy 0x028 (setByte (leAt b 0x028 4) 2 30), rsvdByte b 0x02C 4,
    shiftBy 0x030 (setByte (leAt b 0x030 8) 62 2), rsvdByte b 0x038 196] ++ dirs)

/-- Check 0x05: alignment, bounds, overlap and the COUNT of slot tables. The head counts as a structure. -/
def Image.placeBad (m : Image) : Option Nat :=
  let ps := m.parts
  let len := leAt m.bs 0x00C 4
  let ok := fun p : ImgPart =>
    p.off % 8 = 0 && p.off ≥ 0x510 && p.off + p.bytes ≤ len &&
      ps.all fun q => q.dir = p.dir || p.off + p.bytes ≤ q.off || q.off + q.bytes ≤ p.off
  firstBad (ps.flatMap fun p => [(ok p, p.dir), (p.dir < 0x100 || p.dir ≥ 0x450 || p.count = m.cycle, p.dir + 5)])

/-- The slot tables present, by number. -/
def Image.tables (m : Image) : List (Nat × ImgPart) := (List.range 106).filterMap fun t => (m.table t).map fun p => (t, p)

/-- A network port that R65 assigns. -/
def gridPort (w p : Nat) : Bool := (portRole w p).isSome && !isCarr w p

/-- Judge every entry of every slot table by the byte of it that fails. -/
def Image.slotsAt (m : Image) (bad : Nat → ImgPart → Nat → Option Nat) : Option Nat :=
  firstAt (m.tables.flatMap fun tp => (List.range tp.2.count).map fun i => shiftBy (tp.2.off + 8 * i) (bad tp.1 tp.2 i))

/-- Check every entry of every slot table; one that fails does so in byte `b`. -/
def Image.slotsBad (m : Image) (b : Nat) (ok : Nat → ImgPart → Nat → Bool) : Option Nat :=
  m.slotsAt fun t p i => if ok t p i then none else some b

/-- Check 0x07: the byte of an entry that fails; SRC begins in byte 0 and NFLIT in byte 1. -/
def slotEntryBad (w t e : Nat) : Option Nat :=
  if eKind e ≠ ekStart then setByte e 2 62
  else firstAt [firstBad [(eSrc e < 108 && (eSrc e ≥ 96 || gridPort w (eSrc e)) && eSrc e ≠ t && (t < 96 || eSrc e < 96), 0),
    (within (eNflit e) 2 131, 1)], setByte e 53 11]

/-- CONT entries that follow a START (R281). -/
def Image.conts (m : Image) (e : Nat) : Nat :=
  let n := eNflit e
  let o := ((32 * n + 16 * ((n + 7) / 8)) * 8 + 24) / 25 + 32
  (o + m.tslot - 1) / m.tslot - 1

/-- Check 0x08. -/
def Image.contOk (m : Image) (_t : Nat) (p : ImgPart) (i : Nat) : Bool :=
  let e := m.slot p i
  let kind := fun k => eKind (m.slot p k)
  if eKind e = ekStart then
    let c := m.conts e
    c < p.count && ((List.range c).all fun d => kind (i + 1 + d) = ekCont) && (c + 1 = p.count || kind (i + 1 + c) ≠ ekCont)
  else if eKind e = ekCont then
    (List.range 3).any fun d =>
      let f := m.slot p (i + p.count - (d + 1) % (max 1 p.count))
      d + 1 < p.count && eKind f = ekStart && m.conts f ≥ d + 1
  else true

/-- Check 0x09: no earlier table has a START of the same slot and SRC. -/
def Image.srcOnce (m : Image) (t : Nat) (p : ImgPart) (i : Nat) : Bool :=
  let e := m.slot p i
  eKind e ≠ ekStart || m.tables.all fun tp =>
    tp.1 ≥ t || (let f := m.slot tp.2 i; eKind f ≠ ekStart || eSrc f ≠ eSrc e)

/-- Check 0x0A. -/
def slotDpidOk (w t e : Nat) : Bool :=
  let own := topoOwnPid w
  eKind e ≠ ekStart || (if t < 96 then eDpid e ≠ own && validPidIn w (eDpid e) else eDpid e = own)

/-- Check 0x0B: from every slot on, a run of FREE entries of 3,072 ticks starts within 10 µs. -/
def Image.freeRuns (m : Image) (_t : Nat) (p : ImgPart) (i : Nat) : Bool :=
  let need := (3072 + m.tslot - 1) / m.tslot
  let run := fun k => (List.range need).all fun d => eKind (m.slot p (k + d)) = ekFree
  (List.range (160000 / m.tslot)).any fun d => run (i + 1 + d)

/-! Launch lists (Table 8.4). -/

def lSlot (x : Nat) : Nat := field x 0 20
def lPort (x : Nat) : Nat := field x 20 7
def lEport (x : Nat) : Nat := field x 27 4
def lQidx (x : Nat) : Nat := field x 32 18

/-- Every launch entry: engine, its part, its index and its value. -/
def Image.allLaunches (m : Image) : List (Nat × ImgPart × Nat × Nat) :=
  (List.range 24).flatMap fun e => match m.launches e with
    | some p => (List.range p.count).map fun i => (e, p, i, m.entry p i)
    | none => []

/-- The START entry that a launch names. -/
def Image.launched (m : Image) (x : Nat) : Option Nat :=
  match (if lPort x < 96 then m.table (lPort x) else none) with
  | some p =>
    let e := m.slot p (lSlot x)
    if lSlot x < p.count && eKind e = ekStart && eSrc e = 96 + lEport x then some e else none
  | none => none

/-- Check 0x0C: each launch entry, and each START that an endpoint sources. -/
def Image.launchBad (m : Image) (qp : Nat → Bool) : Option Nat :=
  let ls := m.allLaunches
  let one := fun l : Nat × ImgPart × Nat × Nat =>
    let x := l.2.2.2
    shiftBy (l.2.1.off + 16 * l.2.2.1) (firstAt [
      firstBad [(l.2.2.1 = 0 || lSlot (m.entry l.2.1 (l.2.2.1 - 1)) < lSlot x, 0), ((m.launched x).isSome, 2),
        (field x 31 1 = 0 && lEport x = l.1 % 10, 3), (qp (lQidx x), 4)], setByte x 112 16])
  match firstAt (ls.map one) with
  | some o => some o
  | none => m.slotsBad 0 fun t p i =>
    let e := m.slot p i
    t ≥ 96 || eKind e ≠ ekStart || !within (eSrc e) 96 105 || (ls.filter fun l => lPort l.2.2.2 = t && lSlot l.2.2.2 = i).length = 1

/-- Starts of a cyclic slot that lie less than `span` ticks after another one. -/
def Image.repeats (m : Image) (fromSlot slot span : Nat) : Nat :=
  let o := (slot + m.cycle - fromSlot) % m.cycle * m.tslot
  if o < span then (span - 1 - o) / (m.cycle * m.tslot) + 1 else 0

/-- Check 0x0D: staging of an endpoint port, and the rate of an engine. -/
def Image.rateBad (m : Image) : Option Nat :=
  let ls := m.allLaunches
  let lead := 16000 * leAt m.bs 0x026 1
  let size := fun x => 32 * eNflit ((m.launched x).getD 0)
  firstBad (ls.map fun l =>
    let s0 := lSlot l.2.2.2
    let bytes := (ls.map fun k => if k.1 % 10 = l.1 % 10 then m.repeats s0 (lSlot k.2.2.2) lead * size k.2.2.2 else 0).sum
    let n := (ls.map fun k => if k.1 = l.1 then m.repeats s0 (lSlot k.2.2.2) 16000 else 0).sum
    (bytes ≤ 131072 && n ≤ 50, l.2.1.off + 16 * l.2.2.1))

/-- Check 0x0E: the burst list (R283); bursts do not overlap, counted cyclically. -/
def Image.burstBad (m : Image) : Option Nat :=
  match m.bursts with
  | none => none
  | some p =>
    let at_ := fun i => m.entry p i
    let start := fun e => field e 0 20
    let len := fun e => field e 20 21
    firstAt ((List.range p.count).map fun i =>
      let e := at_ i
      let next := if i + 1 < p.count then start (at_ (i + 1)) else start (at_ 0) + m.cycle
      shiftBy (p.off + 8 * i) (firstAt [firstBad [(start e < m.cycle, 0), (within (len e) 1 m.cycle && start e + len e ≤ next, 2),
        (field e 41 4 ≠ 0, 5)], setByte e 45 19]))

/-- The load checks in the order of Table 8.6: code and offset of the first that fails. -/
def imageFault (w bufSize : Nat) (qp : Nat → Bool) (bs : List Byte) : Option (Nat × Nat) :=
  let m := Image.of bs
  let len := leAt bs 0x00C 4
  let code := fun (c : Nat) (o : Option Nat) => o.map fun x => (c, x)
  (code 1 (firstAt [diffByte bs 0 4 0x5A965C01, diffByte bs 4 2 1, diffByte bs 6 2 0x510])).orElse fun _ =>
  (code 2 ((firstBad [(len ≤ bs.length && len ≤ 2 ^ 30 && len ≤ bufSize, 0x00C)]).orElse fun _ =>
    diffByte bs 0x0FC 4 (crc32c (bs.take 0x0FC ++ [0, 0, 0, 0] ++ (bs.take len).drop 0x100)))).orElse fun _ =>
  (code 3 (diffByte bs 0x018 8 w)).orElse fun _ =>
  (code 4 m.headBad).orElse fun _ =>
  (code 5 m.placeBad).orElse fun _ =>
  (code 6 (firstBad (m.tables.map fun tp => (tp.1 ≥ 96 || gridPort w tp.1, tp.2.dir + 7)))).orElse fun _ =>
  (code 7 (m.slotsAt fun t p i => slotEntryBad w t (m.slot p i))).orElse fun _ =>
  (code 8 (m.slotsBad 0 m.contOk)).orElse fun _ =>
  (code 9 (m.slotsBad 0 m.srcOnce)).orElse fun _ =>
  (code 10 (m.slotsBad 2 fun t p i => slotDpidOk w t (m.slot p i))).orElse fun _ =>
  (code 11 (m.slotsBad 0 m.freeRuns)).orElse fun _ =>
  (code 12 (m.launchBad qp)).orElse fun _ =>
  (code 13 m.rateBad).orElse fun _ => code 14 m.burstBad

/-- The load of an image into a buffer, after its checks (R284). -/
def State.imageLoad (s : State) (n b : Nat) (bs : List Byte) : State :=
  let s1 := s.hbmStore (s.bufBase b) (bs.take s.bufSize)
  match imageFault s.topo s.bufSize (fun q => (s.qp q).valid) bs with
  | none => (s1.setBufValid b true).ends n stOk
  | some (code, off) =>
    let s2 := ((s1.wr R.SCHD_LOAD_ERR_CODE code).wr R.SCHD_LOAD_ERR_OFFSET off).wr R.SCHD_LOAD_ERR_BUF b
    ((s2.wr R.SCHD_EVENT_LOAD_FAIL 1).raise pgSchd 0).finalReply n stBadParam (pack [(1, code), (8, off)])

/-- SCHED_LOAD (R284, R285; 16_command_packets.md R749). -/
def execSchedLoad (c : CmdRef) (buf : BitVec 8) (addr : BitVec 64) (len : BitVec 32) (data : HostRead) (s : State) :
    Host.Outcome State Fault Refusal :=
  command .p 0x0400 c (pack [(1, buf.toNat), (8, addr.toNat), (4, len.toNat)]) s fun n s =>
    let b := buf.toNat
    if b > 1 then s.ends n stBadParam
    else if s.schdActive && (b = s.runBuf || (s.schd.switch.any fun x => x.1 = b)) then s.ends n stBusy
    else (s.setBufValid b false).withBuffer n c addr.toNat len.toNat data [] fun s bs => s.imageLoad n b bs

end Sys2Proof.Machine
end

