-- ==== Sys2Proof/Machine/Dispatch.lean ====
section
/-! DEFINITION. exec: one arm for each command, each a direct call of its meaning. -/

namespace Sys2Proof.Machine

def exec (i : Instr) (s : State) : Host.Outcome State Fault Refusal :=
  match i with
  | .registerWrite t bytes data => Sys2Proof.Machine.execRegisterWrite t bytes data s
  | .routeDecision input v => Sys2Proof.Machine.execRouteDecision input v s
  | .crossbarGrant output => Sys2Proof.Machine.execCrossbarGrant output s
  | .packetTailPass output => Sys2Proof.Machine.execPacketTailPass output s
  | .rxPipelinePacket e => Sys2Proof.Machine.execRxPipelinePacket e s
  | .codewordDecode p x => Sys2Proof.Machine.execCodewordDecode p x s
  | .commaHalfReceive l marker cidx ctag onGrid frac skew => Sys2Proof.Machine.execCommaHalfReceive l marker cidx ctag onGrid frac skew s
  | .commaLockLoss l => Sys2Proof.Machine.execCommaLockLoss l s
  | .commaHalfTransmit l frac => Sys2Proof.Machine.execCommaHalfTransmit l frac s
  | .portCtrlEnWrite p en => Sys2Proof.Machine.execPortCtrlEnWrite p en s
  | .portCtrlRetrainWrite p bit => Sys2Proof.Machine.execPortCtrlRetrainWrite p bit s
  | .laneSignalDetect l => Sys2Proof.Machine.execLaneSignalDetect l s
  | .laneSignalLoss l lockOnly => Sys2Proof.Machine.execLaneSignalLoss l lockOnly s
  | .trainFrameReceive l marker words wish adapted => Sys2Proof.Machine.execTrainFrameReceive l marker words wish adapted s
  | .trainLimitExpire p => Sys2Proof.Machine.execTrainLimitExpire p s
  | .trainHoldExpire p => Sys2Proof.Machine.execTrainHoldExpire p s
  | .identityRecordReceive p pair => Sys2Proof.Machine.execIdentityRecordReceive p pair s
  | .miswiredRetry p => Sys2Proof.Machine.execMiswiredRetry p s
  | .lpQuietExit x => Sys2Proof.Machine.execLpQuietExit x s
  | .lpDormantEnergyWake p local_ => Sys2Proof.Machine.execLpDormantEnergyWake p local_ s
  | .lpExitSlow p => Sys2Proof.Machine.execLpExitSlow p s
  | .linkFrameReceive p flits trailer announced marked => Sys2Proof.Machine.execLinkFrameReceive p flits trailer announced marked s
  | .linkBadUnit p isLcw => Sys2Proof.Machine.execLinkBadUnit p isLcw s
  | .lcwReceive p lcw atBoundary => Sys2Proof.Machine.execLcwReceive p lcw atBoundary s
  | .replayTimerExpire p => Sys2Proof.Machine.execReplayTimerExpire p s
  | .statusLcwDue p => Sys2Proof.Machine.execStatusLcwDue p s
  | .xoffRepeat p => Sys2Proof.Machine.execXoffRepeat p s
  | .xoffWatchdogExpire p v => Sys2Proof.Machine.execXoffWatchdogExpire p v s
  | .leakRetrain p expired => Sys2Proof.Machine.execLeakRetrain p expired s
  | .linkUnitTransmit p => Sys2Proof.Machine.execLinkUnitTransmit p s
  | .sessionStartReceive p lcw => Sys2Proof.Machine.execSessionStartReceive p lcw s
  | .linkCtrlRetireWrite p bit => Sys2Proof.Machine.execLinkCtrlRetireWrite p bit s
  | .linkCtrlFreshRetrainWrite p bit => Sys2Proof.Machine.execLinkCtrlFreshRetrainWrite p bit s
  | .lpReqReceive p dorm => Sys2Proof.Machine.execLpReqReceive p dorm s
  | .lpAckReceive p dorm => Sys2Proof.Machine.execLpAckReceive p dorm s
  | .lpNakReceive p dorm => Sys2Proof.Machine.execLpNakReceive p dorm s
  | .quietIdleExpire p => Sys2Proof.Machine.execQuietIdleExpire p s
  | .syncFlitSend p => Sys2Proof.Machine.execSyncFlitSend p s
  | .syncTimingReceive p flit => Sys2Proof.Machine.execSyncTimingReceive p flit s
  | .syncEpochReceive p flit => Sys2Proof.Machine.execSyncEpochReceive p flit s
  | .gmElection => Sys2Proof.Machine.execGmElection s
  | .syncInfoExpire p => Sys2Proof.Machine.execSyncInfoExpire p s
  | .holdoverInterval => Sys2Proof.Machine.execHoldoverInterval s
  | .ppsEdge falling => Sys2Proof.Machine.execPpsEdge falling s
  | .ppsMissing => Sys2Proof.Machine.execPpsMissing s
  | .aonRateMeasure period => Sys2Proof.Machine.execAonRateMeasure period s
  | .geysStepWrite amount => Sys2Proof.Machine.execGeysStepWrite amount s
  | .lineNoticeRefresh p => Sys2Proof.Machine.execLineNoticeRefresh p s
  | .lineNoticeReceive p flit => Sys2Proof.Machine.execLineNoticeReceive p flit s
  | .flipArmWrite bit => Sys2Proof.Machine.execFlipArmWrite bit s
  | .flipNoticeReceive p flit => Sys2Proof.Machine.execFlipNoticeReceive p flit s
  | .routingFlip => Sys2Proof.Machine.execRoutingFlip s
  | .bankHoldExpire => Sys2Proof.Machine.execBankHoldExpire s
  | .markNoticeReceive p flit => Sys2Proof.Machine.execMarkNoticeReceive p flit s
  | .routTransitOffWrite bit => Sys2Proof.Machine.execRoutTransitOffWrite bit s
  | .scheduleRunStart => Sys2Proof.Machine.execScheduleRunStart s
  | .scheduleStopReached => Sys2Proof.Machine.execScheduleStopReached s
  | .scheduleSwitch => Sys2Proof.Machine.execScheduleSwitch s
  | .launchFetch e data => Sys2Proof.Machine.execLaunchFetch e data s
  | .slotPrefetch t k ix hit => Sys2Proof.Machine.execSlotPrefetch t k ix hit s
  | .slotStart t k ix => Sys2Proof.Machine.execSlotStart t k ix s
  | .vc7HeadArrival input => Sys2Proof.Machine.execVc7HeadArrival input s
  | .vc7OrphanTimeout input => Sys2Proof.Machine.execVc7OrphanTimeout input s
  | .schedAbortReceive p flit => Sys2Proof.Machine.execSchedAbortReceive p flit s
  | .skippedDescComplete data => Sys2Proof.Machine.execSkippedDescComplete data s
  | .prewarmDecide n k => Sys2Proof.Machine.execPrewarmDecide n k s
  | .prewarmRampUp => Sys2Proof.Machine.execPrewarmRampUp s
  | .prewarmRampDown => Sys2Proof.Machine.execPrewarmRampDown s
  | .lstepAssert => Sys2Proof.Machine.execLstepAssert s
  | .lstepRelease => Sys2Proof.Machine.execLstepRelease s
  | .schdGoWrite bit => Sys2Proof.Machine.execSchdGoWrite bit s
  | .schdAbortWrite bit => Sys2Proof.Machine.execSchdAbortWrite bit s
  | .schdClearWrite bit => Sys2Proof.Machine.execSchdClearWrite bit s
  | .funcCtrlEnWrite h f en => Sys2Proof.Machine.execFuncCtrlEnWrite h f en s
  | .funcEnableEvent h f cfg => Sys2Proof.Machine.execFuncEnableEvent h f cfg s
  | .funcDisableEvent h f cfg => Sys2Proof.Machine.execFuncDisableEvent h f cfg s
  | .flr h f => Sys2Proof.Machine.execFlr h f s
  | .quiesceComplete h f => Sys2Proof.Machine.execQuiesceComplete h f s
  | .quiesceTimeout h f => Sys2Proof.Machine.execQuiesceTimeout h f s
  | .sqPiWrite h f slot v => Sys2Proof.Machine.execSqPiWrite h f slot v s
  | .rqPiWrite h f slot v => Sys2Proof.Machine.execRqPiWrite h f slot v s
  | .cqCiWrite h f slot v => Sys2Proof.Machine.execCqCiWrite h f slot v s
  | .cqArmWrite h f slot arm => Sys2Proof.Machine.execCqArmWrite h f slot arm s
  | .eqCiWrite h f vec v => Sys2Proof.Machine.execEqCiWrite h f vec v s
  | .eqArmWrite h f vec arm => Sys2Proof.Machine.execEqArmWrite h f vec arm s
  | .doorbellRecordPoll h data => Sys2Proof.Machine.execDoorbellRecordPoll h data s
  | .snoopInvalidate q data => Sys2Proof.Machine.execSnoopInvalidate q data s
  | .descriptorFetch q rq => Sys2Proof.Machine.execDescriptorFetch q rq s
  | .descriptorArrive q rq data => Sys2Proof.Machine.execDescriptorArrive q rq data s
  | .dmaReadError h f => Sys2Proof.Machine.execDmaReadError h f s
  | .completionWrite q => Sys2Proof.Machine.execCompletionWrite q s
  | .hostLinkUp h offersCxl flit rate width => Sys2Proof.Machine.execHostLinkUp h offersCxl flit rate width s
  | .hostLinkDown h l2 => Sys2Proof.Machine.execHostLinkDown h l2 s
  | .perstAssert h => Sys2Proof.Machine.execPerstAssert h s
  | .perstDeassert h => Sys2Proof.Machine.execPerstDeassert h s
  | .walkEntryReturn w entry => Sys2Proof.Machine.execWalkEntryReturn w entry s
  | .walkCasReturn w old => Sys2Proof.Machine.execWalkCasReturn w old s
  | .invalidationComplete => Sys2Proof.Machine.execInvalidationComplete s
  | .parkTimeout slot => Sys2Proof.Machine.execParkTimeout slot s
  | .xltInvGoWrite bit => Sys2Proof.Machine.execXltInvGoWrite bit s
  | .tcCacheLoad adopted pid => Sys2Proof.Machine.execTcCacheLoad adopted pid s
  | .tcDeadlineSweep => Sys2Proof.Machine.execTcDeadlineSweep s
  | .packetForm o data => Sys2Proof.Machine.execPacketForm o data s
  | .ackReceive => Sys2Proof.Machine.execAckReceive s
  | .nackReceive => Sys2Proof.Machine.execNackReceive s
  | .retransmitTimerExpire adopted pid payloads => Sys2Proof.Machine.execRetransmitTimerExpire adopted pid payloads s
  | .tcGiveupExpire adopted pid => Sys2Proof.Machine.execTcGiveupExpire adopted pid s
  | .helloReceive => Sys2Proof.Machine.execHelloReceive s
  | .helloRespReceive => Sys2Proof.Machine.execHelloRespReceive s
  | .readRespForm id data => Sys2Proof.Machine.execReadRespForm id data s
  | .readRespReceive => Sys2Proof.Machine.execReadRespReceive s
  | .revokeComplete w => Sys2Proof.Machine.execRevokeComplete w s
  | .revokeDrainSlow w => Sys2Proof.Machine.execRevokeDrainSlow w s
  | .windowCoolingEnd w => Sys2Proof.Machine.execWindowCoolingEnd w s
  | .winOpenGoWrite bit => Sys2Proof.Machine.execWinOpenGoWrite bit s
  | .winRevokeWrite key => Sys2Proof.Machine.execWinRevokeWrite key s
  | .tcCtrlResetWrite bit => Sys2Proof.Machine.execTcCtrlResetWrite bit s
  | .nopDesc q fired => Sys2Proof.Machine.execNopDesc q fired s
  | .write q fired => Sys2Proof.Machine.execWrite q fired s
  | .read q fired => Sys2Proof.Machine.execRead q fired s
  | .winRevokeDesc q => Sys2Proof.Machine.execWinRevokeDesc q s
  | .send q fired => Sys2Proof.Machine.execSend q fired s
  | .rndvWindowOpen o => Sys2Proof.Machine.execRndvWindowOpen o s
  | .recv q => Sys2Proof.Machine.execRecv q s
  | .reorderRelease ix => Sys2Proof.Machine.execReorderRelease ix s
  | .matchArrival => Sys2Proof.Machine.execMatchArrival s
  | .prqEntryFree q => Sys2Proof.Machine.execPrqEntryFree q s
  | .cntAdd q fired => Sys2Proof.Machine.execCntAdd q fired s
  | .cntSet q fired => Sys2Proof.Machine.execCntSet q fired s
  | .trig q => Sys2Proof.Machine.execTrig q s
  | .wait q => Sys2Proof.Machine.execWait q s
  | .cntFetch q fired => Sys2Proof.Machine.execCntFetch q fired s
  | .counterUpdate => Sys2Proof.Machine.execCounterUpdate s
  | .triggerFireTime => Sys2Proof.Machine.execTriggerFireTime s
  | .triggerSweep => Sys2Proof.Machine.execTriggerSweep s
  | .firedOpEnd => Sys2Proof.Machine.execFiredOpEnd s
  | .pendingEntryFree q => Sys2Proof.Machine.execPendingEntryFree q s
  | .trgCntValWrite v => Sys2Proof.Machine.execTrgCntValWrite v s
  | .trgCntAddWrite v => Sys2Proof.Machine.execTrgCntAddWrite v s
  | .allreduce q fired data => Sys2Proof.Machine.execAllreduce q fired data s
  | .reduceScatter q fired data => Sys2Proof.Machine.execReduceScatter q fired data s
  | .allgather q fired data => Sys2Proof.Machine.execAllgather q fired data s
  | .barrier q fired => Sys2Proof.Machine.execBarrier q fired s
  | .lineBcast q fired data => Sys2Proof.Machine.execLineBcast q fired data s
  | .collContribTap input => Sys2Proof.Machine.execCollContribTap input s
  | .timedGuardStart => Sys2Proof.Machine.execTimedGuardStart s
  | .timedPhaseLaunch => Sys2Proof.Machine.execTimedPhaseLaunch s
  | .collPhaseTimeout g k => Sys2Proof.Machine.execCollPhaseTimeout g k s
  | .carrHeartbeatSend p => Sys2Proof.Machine.execCarrHeartbeatSend p s
  | .carrUnitReceive flit => Sys2Proof.Machine.execCarrUnitReceive flit s
  | .carrSilenceExpire => Sys2Proof.Machine.execCarrSilenceExpire s
  | .mateAliveEdge => Sys2Proof.Machine.execMateAliveEdge s
  | .mateAliveSilence => Sys2Proof.Machine.execMateAliveSilence s
  | .mirrorRecordReceive mseq r => Sys2Proof.Machine.execMirrorRecordReceive mseq r s
  | .mirrorAckReceive flit => Sys2Proof.Machine.execMirrorAckReceive flit s
  | .mirrorTimeout => Sys2Proof.Machine.execMirrorTimeout s
  | .pairStartTimeout => Sys2Proof.Machine.execPairStartTimeout s
  | .moveQuiesceStart => Sys2Proof.Machine.execMoveQuiesceStart s
  | .moveYield verified => Sys2Proof.Machine.execMoveYield verified s
  | .moveStaleWindowEnd => Sys2Proof.Machine.execMoveStaleWindowEnd s
  | .pairCtrlModeWrite relaxed => Sys2Proof.Machine.execPairCtrlModeWrite relaxed s
  | .pairCtrlTakeoverWrite bit => Sys2Proof.Machine.execPairCtrlTakeoverWrite bit s
  | .cmdPiWrite h f v => Sys2Proof.Machine.execCmdPiWrite h f v s
  | .rplCiWrite h f v => Sys2Proof.Machine.execRplCiWrite h f v s
  | .cmdArmWrite h f arm => Sys2Proof.Machine.execCmdArmWrite h f arm s
  | .cmdRcfgWrite h f v => Sys2Proof.Machine.execCmdRcfgWrite h f v s
  | .commandFetch h f data xbuf => Sys2Proof.Machine.execCommandFetch h f data xbuf s
  | .commandProgressTimer c => Sys2Proof.Machine.execCommandProgressTimer c s
  | .smbusMessage bytes pecOk => Sys2Proof.Machine.execSmbusMessage bytes pecOk s
  | .mgmtReqReceive => Sys2Proof.Machine.execMgmtReqReceive s
  | .mgmtRespReceive => Sys2Proof.Machine.execMgmtRespReceive s
  | .remoteTimeout c => Sys2Proof.Machine.execRemoteTimeout c s
  | .mgmtFlitQueryReceive p flit => Sys2Proof.Machine.execMgmtFlitQueryReceive p flit s
  | .mgmtFlitInfoReceive p flit => Sys2Proof.Machine.execMgmtFlitInfoReceive p flit s
  | .neighbourInfoTimeout c => Sys2Proof.Machine.execNeighbourInfoTimeout c s
  | .nop c => Sys2Proof.Machine.execNop c s
  | .devInfo c page => Sys2Proof.Machine.execDevInfo c page s
  | .remote c pid timeoutMs cmdAddr outAddr data => Sys2Proof.Machine.execRemote c pid timeoutMs cmdAddr outAddr data s
  | .portEnable c port en => Sys2Proof.Machine.execPortEnable c port en s
  | .portPreset c port preset => Sys2Proof.Machine.execPortPreset c port preset s
  | .portRetrain c port fresh => Sys2Proof.Machine.execPortRetrain c port fresh s
  | .portStatus c port => Sys2Proof.Machine.execPortStatus c port s
  | .portPeer c port => Sys2Proof.Machine.execPortPeer c port s
  | .portRetire c port => Sys2Proof.Machine.execPortRetire c port s
  | .linkTimers c port replayTmr xoffWdog => Sys2Proof.Machine.execLinkTimers c port replayTmr xoffWdog s
  | .portAsym c port asym => Sys2Proof.Machine.execPortAsym c port asym s
  | .neighbourInfo c port => Sys2Proof.Machine.execNeighbourInfo c port s
  | .lpEnable c port lpEn => Sys2Proof.Machine.execLpEnable c port lpEn s
  | .aliasWrite c bank index entry => Sys2Proof.Machine.execAliasWrite c bank index entry s
  | .aliasBulk c bank first count addr data => Sys2Proof.Machine.execAliasBulk c bank first count addr data s
  | .exclWrite c bank maskLo maskHi => Sys2Proof.Machine.execExclWrite c bank maskLo maskHi s
  | .flip c targetGt flipId newMode => Sys2Proof.Machine.execFlip c targetGt flipId newMode s
  | .transitOff c off => Sys2Proof.Machine.execTransitOff c off s
  | .topoSet c topo mramOk => Sys2Proof.Machine.execTopoSet c topo mramOk s
  | .costSet c markThr detThr detBias => Sys2Proof.Machine.execCostSet c markThr detThr detBias s
  | .throttleSet c aiStep mdShift rateMin aiPkts lqThr markEvery thrEn => Sys2Proof.Machine.execThrottleSet c aiStep mdShift rateMin aiPkts lqThr markEvery thrEn s
  | .routeStatus c => Sys2Proof.Machine.execRouteStatus c s
  | .rowsRead c dim outAddr => Sys2Proof.Machine.execRowsRead c dim outAddr s
  | .throttleRead c outAddr => Sys2Proof.Machine.execThrottleRead c outAddr s
  | .aliasRead c bank outAddr => Sys2Proof.Machine.execAliasRead c bank outAddr s
  | .routeHold c hold => Sys2Proof.Machine.execRouteHold c hold s
  | .gmCfg c gmPrio gmEn ppsEn ref10mEn ppsFall => Sys2Proof.Machine.execGmCfg c gmPrio gmEn ppsEn ref10mEn ppsFall s
  | .geysLimits c schedUncMax hopUnc stepThr holdPpb uncInvalid => Sys2Proof.Machine.execGeysLimits c schedUncMax hopUnc stepThr holdPpb uncInvalid s
  | .taiSet c taiSec utcOfs => Sys2Proof.Machine.execTaiSet c taiSec utcOfs s
  | .geysStep c amount => Sys2Proof.Machine.execGeysStep c amount s
  | .geysStatus c => Sys2Proof.Machine.execGeysStatus c s
  | .geysSleep c => Sys2Proof.Machine.execGeysSleep c s
  | .schedLoad c buf addr len data => Sys2Proof.Machine.execSchedLoad c buf addr len data s
  | .schedStart c buf startGt machHash => Sys2Proof.Machine.execSchedStart c buf startGt machHash s
  | .schedStop c iter => Sys2Proof.Machine.execSchedStop c iter s
  | .schedAbort c => Sys2Proof.Machine.execSchedAbort c s
  | .schedClear c => Sys2Proof.Machine.execSchedClear c s
  | .schedStatus c => Sys2Proof.Machine.execSchedStatus c s
  | .schedCfg c fitGuard cutHorizon lateTol abortThr prewarmEn lstepEn lstepLead => Sys2Proof.Machine.execSchedCfg c fitGuard cutHorizon lateTol abortThr prewarmEn lstepEn lstepLead s
  | .qpCreate c ctx job gen sqLog rqLog cqLog dbMode batchN eq sqBase rqBase cqBase record => Sys2Proof.Machine.execQpCreate c ctx job gen sqLog rqLog cqLog dbMode batchN eq sqBase rqBase cqBase record s
  | .eqCreate c ctx vec log base => Sys2Proof.Machine.execEqCreate c ctx vec log base s
  | .funcReset c func => Sys2Proof.Machine.execFuncReset c func s
  | .funcStatus c func => Sys2Proof.Machine.execFuncStatus c func s
  | .qpStatus c qidx => Sys2Proof.Machine.execQpStatus c qidx s
  | .heldStatus c => Sys2Proof.Machine.execHeldStatus c s
  | .hportCfg c cxlEn => Sys2Proof.Machine.execHportCfg c cxlEn s
  | .pollRate c rate => Sys2Proof.Machine.execPollRate c rate s
  | .jobBind c job ranks => Sys2Proof.Machine.execJobBind c job ranks s
  | .jobRelease c job gen => Sys2Proof.Machine.execJobRelease c job gen s
  | .rankWrite c job gen rank entry => Sys2Proof.Machine.execRankWrite c job gen rank entry s
  | .rankBulk c job gen first count addr data => Sys2Proof.Machine.execRankBulk c job gen first count addr data s
  | .jobStatus c job => Sys2Proof.Machine.execJobStatus c job s
  | .ctxCreate c levels priv supDataU amEn parkEn pasid root => Sys2Proof.Machine.execCtxCreate c levels priv supDataU amEn parkEn pasid root s
  | .ctxRelease c ctx => Sys2Proof.Machine.execCtxRelease c ctx s
  | .invalidate c scope wc ctx pages va => Sys2Proof.Machine.execInvalidate c scope wc ctx pages va s
  | .parkResolve c parkId parkGen action => Sys2Proof.Machine.execParkResolve c parkId parkGen action s
  | .walkRange c index en base limit => Sys2Proof.Machine.execWalkRange c index en base limit s
  | .xltTimers c maxAge parkTime => Sys2Proof.Machine.execXltTimers c maxAge parkTime s
  | .ctxStatus c ctx => Sys2Proof.Machine.execCtxStatus c ctx s
  | .tptTimers c lifetime giveup => Sys2Proof.Machine.execTptTimers c lifetime giveup s
  | .tptAckcfg c ackEvery retryBudget => Sys2Proof.Machine.execTptAckcfg c ackEvery retryBudget s
  | .tcReset c pid => Sys2Proof.Machine.execTcReset c pid s
  | .tcStatus c pid => Sys2Proof.Machine.execTcStatus c pid s
  | .winOpen c perm scopePid cntEn gen ctx job peerPid cntIdx base length => Sys2Proof.Machine.execWinOpen c perm scopePid cntEn gen ctx job peerPid cntIdx base length s
  | .winRevoke c key => Sys2Proof.Machine.execWinRevoke c key s
  | .winStatus c key => Sys2Proof.Machine.execWinStatus c key s
  | .matCfg c eagerLimit mireRate => Sys2Proof.Machine.execMatCfg c eagerLimit mireRate s
  | .matStatus c => Sys2Proof.Machine.execMatStatus c s
  | .matQpStatus c qidx => Sys2Proof.Machine.execMatQpStatus c qidx s
  | .cntAlloc c count => Sys2Proof.Machine.execCntAlloc c count s
  | .cntFree c first count => Sys2Proof.Machine.execCntFree c first count s
  | .cntBind c qidx cnt en => Sys2Proof.Machine.execCntBind c qidx cnt en s
  | .cntRead c cnt => Sys2Proof.Machine.execCntRead c cnt s
  | .cntWrite c cnt value => Sys2Proof.Machine.execCntWrite c cnt value s
  | .groupCreate c gid job gen dimmask localCnt depth mask0 mask1 mask2 mask3 maxbytes lqp0 lqp1 lqp2 lqp3 lqp4 lqp5 lqp6 lqp7 => Sys2Proof.Machine.execGroupCreate c gid job gen dimmask localCnt depth mask0 mask1 mask2 mask3 maxbytes lqp0 lqp1 lqp2 lqp3 lqp4 lqp5 lqp6 lqp7 s
  | .groupDestroy c gid => Sys2Proof.Machine.execGroupDestroy c gid s
  | .groupStatus c gid => Sys2Proof.Machine.execGroupStatus c gid s
  | .pairMode c mode => Sys2Proof.Machine.execPairMode c mode s
  | .pairMove c direction g => Sys2Proof.Machine.execPairMove c direction g s
  | .pairStatus c => Sys2Proof.Machine.execPairStatus c s
  | .pairTakeover c => Sys2Proof.Machine.execPairTakeover c s
  | .resetFull c delayUs => Sys2Proof.Machine.execResetFull c delayUs s
  | .resetDelayExpire => Sys2Proof.Machine.execResetDelayExpire s
  | .powerState c state => Sys2Proof.Machine.execPowerState c state s
  | .powerRequestTimeout => Sys2Proof.Machine.execPowerRequestTimeout s
  | .wakeCfg c sources => Sys2Proof.Machine.execWakeCfg c sources s
  | .lastWake c => Sys2Proof.Machine.execLastWake c s
  | .supplyStatus c => Sys2Proof.Machine.execSupplyStatus c s
  | .faultRead c page => Sys2Proof.Machine.execFaultRead c page s
  | .faultClear c page bits => Sys2Proof.Machine.execFaultClear c page bits s
  | .faultReact c page source reaction => Sys2Proof.Machine.execFaultReact c page source reaction s
  | .faultGrace c page grace => Sys2Proof.Machine.execFaultGrace c page grace s
  | .faultFirst c page => Sys2Proof.Machine.execFaultFirst c page s
  | .devPhase c phase => Sys2Proof.Machine.execDevPhase c phase s
  | .readerCfg c windowUs startGt => Sys2Proof.Machine.execReaderCfg c windowUs startGt s
  | .perfRead c addr => Sys2Proof.Machine.execPerfRead c addr s
  | .snapshotCopy c index outAddr => Sys2Proof.Machine.execSnapshotCopy c index outAddr s
  | .fwStage c addr len data => Sys2Proof.Machine.execFwStage c addr len data s
  | .fwStageChunk c offset len data => Sys2Proof.Machine.execFwStageChunk c offset len data s
  | .fwActivate c components live flashOk mramOk => Sys2Proof.Machine.execFwActivate c components live flashOk mramOk s
  | .firmwareResetDelay => Sys2Proof.Machine.execFirmwareResetDelay s
  | .fwConfirm c mramOk => Sys2Proof.Machine.execFwConfirm c mramOk s
  | .fwStatus c => Sys2Proof.Machine.execFwStatus c s
  | .cfgWrite c addr len data mramOk => Sys2Proof.Machine.execCfgWrite c addr len data mramOk s
  | .attest c outAddr nonce => Sys2Proof.Machine.execAttest c outAddr nonce s
  | .identityRead c index outAddr outLen => Sys2Proof.Machine.execIdentityRead c index outAddr outLen s
  | .expertChallenge c => Sys2Proof.Machine.execExpertChallenge c s
  | .expertUnlock c token => Sys2Proof.Machine.execExpertUnlock c token s
  | .expertLock c => Sys2Proof.Machine.execExpertLock c s
  | .regRead c addr width => Sys2Proof.Machine.execRegRead c addr width s
  | .regWrite c addr width value => Sys2Proof.Machine.execRegWrite c addr width value s
  | .expertStatus c => Sys2Proof.Machine.execExpertStatus c s
  | .powerOnReset => Sys2Proof.Machine.execPowerOnReset s
  | .resetNAssert => Sys2Proof.Machine.execResetNAssert s
  | .rstCtrlFullWrite bit => Sys2Proof.Machine.execRstCtrlFullWrite bit s
  | .fullResetRelease straps => Sys2Proof.Machine.execFullResetRelease straps s
  | .imageBoot mramOk => Sys2Proof.Machine.execImageBoot mramOk s
  | .hbmInitComplete incOk => Sys2Proof.Machine.execHbmInitComplete incOk s
  | .startupComplete => Sys2Proof.Machine.execStartupComplete s
  | .calderaWatchdogWarn => Sys2Proof.Machine.execCalderaWatchdogWarn s
  | .calderaWatchdogExpire => Sys2Proof.Machine.execCalderaWatchdogExpire s
  | .undervoltage rail => Sys2Proof.Machine.execUndervoltage rail s
  | .railRecovery => Sys2Proof.Machine.execRailRecovery s
  | .coreWait => Sys2Proof.Machine.execCoreWait s
  | .peatLpRetry p => Sys2Proof.Machine.execPeatLpRetry p s
  | .peatPortOff p => Sys2Proof.Machine.execPeatPortOff p s
  | .peatEntryDone => Sys2Proof.Machine.execPeatEntryDone s
  | .wakeEvent src detail => Sys2Proof.Machine.execWakeEvent src detail s
  | .peatExitComplete saveOk => Sys2Proof.Machine.execPeatExitComplete saveOk s
  | .aonClockLoss backup => Sys2Proof.Machine.execAonClockLoss backup s
  | .supplyFail setB => Sys2Proof.Machine.execSupplyFail setB s
  | .reshareHoldExpire setB => Sys2Proof.Machine.execReshareHoldExpire setB s
  | .vauxLoss setB => Sys2Proof.Machine.execVauxLoss setB s
  | .vrhotAssert => Sys2Proof.Machine.execVrhotAssert s
  | .faultGraceExpire page => Sys2Proof.Machine.execFaultGraceExpire page s
  | .fltForceWrite page raise hold => Sys2Proof.Machine.execFltForceWrite page raise hold s
  | .pinPhaseWrite phase => Sys2Proof.Machine.execPinPhaseWrite phase s
  | .fumaroleToggle => Sys2Proof.Machine.execFumaroleToggle s
  | .eccError site correctable detail => Sys2Proof.Machine.execEccError site correctable detail s
  | .thermalSample temp => Sys2Proof.Machine.execThermalSample temp s
  | .counterBoundary => Sys2Proof.Machine.execCounterBoundary s
  | .snapshotWriteComplete => Sys2Proof.Machine.execSnapshotWriteComplete s
  | .cntStartWrite gt => Sys2Proof.Machine.execCntStartWrite gt s
  | .readerConfigStart => Sys2Proof.Machine.execReaderConfigStart s
  | .confirmTimeout mramOk => Sys2Proof.Machine.execConfirmTimeout mramOk s
  | .liveActivationRestart => Sys2Proof.Machine.execLiveActivationRestart s
  | .liveActivationComplete => Sys2Proof.Machine.execLiveActivationComplete s
  | .liveActivationTimeout => Sys2Proof.Machine.execLiveActivationTimeout s
  | .ppsOutRise => Sys2Proof.Machine.execPpsOutRise s
  | .ppsOutFall => Sys2Proof.Machine.execPpsOutFall s
  | .referenceLockChange pps locked => Sys2Proof.Machine.execReferenceLockChange pps locked s
  | .gmClassUpgrade => Sys2Proof.Machine.execGmClassUpgrade s
  | .expertLockoutExpire => Sys2Proof.Machine.execExpertLockoutExpire s
  | .supplyOkReturn setB => Sys2Proof.Machine.execSupplyOkReturn setB s
  | .vauxReturn setB => Sys2Proof.Machine.execVauxReturn setB s
  | .vrhotDeassert => Sys2Proof.Machine.execVrhotDeassert s
  | .errNSenseChange low => Sys2Proof.Machine.execErrNSenseChange low s
  | .hbmTempChange temp => Sys2Proof.Machine.execHbmTempChange temp s
  | .hbmScrubPass => Sys2Proof.Machine.execHbmScrubPass s
  | .calderaCoreException core => Sys2Proof.Machine.execCalderaCoreException core s
  | .jtagTapClock e => Sys2Proof.Machine.execJtagTapClock e s
  | .collStagingWriteDone => Sys2Proof.Machine.execCollStagingWriteDone s

end Sys2Proof.Machine
end

