-- ==== Sys2Proof/Machine/Tick.lean ====
section
/-! DEFINITION. The passing of one CLK_GT cycle, 0.625 ns, which is what a step does on an empty queue (log 5). -/

namespace Sys2Proof.Machine

/-- The always-on count: 64 steps are one CLK_AON cycle of 40 ns. -/
def State.aonStep (s : State) : State :=
  if s.aon.sub + 1 < 64 then { s with aon := { s.aon with sub := s.aon.sub + 1 } }
  else ({ s with aon := { s.aon with sub := 0 } } : State).aonTick

/-- One CLK_GT cycle: GT advances by ten ticks plus the trim (06_timebase.md R203, R204), and the local cycle count by one. -/
def State.gtStep (s : State) : State :=
  { s with time := { s.time with
      acc := (s.time.acc + (ofSigned 104 (10 * 2 ^ 40 + signedOf 36 (s.rd R.GEYS_TRIM_TRIM)))) % 2 ^ 104
      cycles := s.time.cycles + 1 } }

/-- XOFF_TIME counts the 32 ns intervals, of 512 ticks, in which a port's peer holds a VC (05_link_layer.md). -/
def State.xoffStep (s : State) : State :=
  if (s.time.cycles * 10) % 512 ≥ 10 then s
  else (List.range 96).foldl (fun s p => s.whenB (s.on R.LINK_STATUS_PEER_XOFF p) (·.bump C.LINK_XOFF_TIME p)) s

/-- The packets that wait for their admission are looked at once a cycle, while the engines run. -/
def State.admitWaiting (s : State) : State :=
  if s.rout.unadmitted.isEmpty || s.powerState = psMoss || s.powerState = psExit then s else s.admitAll

/-- What a step does on an empty queue. The GT and the local cycles stand still in reset and in PEAT. -/
def tick (s : State) : State :=
  let s1 := s.aonStep
  if s1.runs then (s1.gtStep.xoffStep).idxFlush.admitWaiting else s1

end Sys2Proof.Machine
end

