-- ==== Sys2Proof/Safety.lean ====
section
/-! DEFINITION. What counts as a safe step, and the terms the statements use: when a command of the block starts, which
commands reach the always-on domain, and what a step may still owe. -/

namespace Sys2Proof.Machine

/-- The engines run: the blocks outside the always-on domain are neither held nor gated, and MOSS does not gate the engines
(17_reset_power_supplies.md R611, R616). -/
def State.engines (s : State) : Bool := s.runs && s.powerState ≠ psMoss && s.powerState ≠ psExit

/-- The state in which a host's request to BAR0 or to a doorbell takes effect: in MOSS the request is first latched as the wake
source it is (17_reset_power_supplies.md R617). -/
def State.hostSeen (s : State) (h : Nat) : State := if s.powerState = psMoss then s.wakeLatch wkHostReq h else s

/-- The opcode row `c` starts: Caldera serves commands, no live activation holds new ones back, the command is the next one of its
path with this opcode and these parameters, and checks 3 to 5 of R579 pass. `n` is the number it gets and `u` the state in which its
effect begins (16_command_packets.md R578, R579, R584). -/
def Starts (s : State) (b : Issuer) (code : Nat) (c : CmdRef) (ps : List Byte) (n : Nat) (u : State) : Prop :=
  ∃ w, s.serving = true ∧ s.fw.live = none ∧ s.cmdReady c code ps = some w ∧ n = s.cmd.next ∧ u = s.begun w ∧
    u.cmdRefusal b code c.path = none

/-- The same, but one of checks 3 to 5 of R579 refuses the command with status `st`. -/
def Refuses (s : State) (b : Issuer) (code : Nat) (c : CmdRef) (ps : List Byte) (n : Nat) (u : State) (st : Nat) : Prop :=
  ∃ w, s.serving = true ∧ s.fw.live = none ∧ s.cmdReady c code ps = some w ∧ n = s.cmd.next ∧ u = s.begun w ∧
    u.cmdRefusal b code c.path = some st

/-- A started command waits for transport contexts of a collective group to be established. -/
def Started.waitsGroup (c : Started) : Bool :=
  match c.wait with
  | .group _ => true
  | _ => false

/-- Nothing is owed when a command's own effect is complete: no reaction of a fault, no command that waits for transport contexts or whose
extended buffer gives it no parameters, and the net ERR_N is high and was seen so. -/
def State.quiet (s : State) : Bool :=
  s.reactions.isEmpty && !(s.cmd.started.any Started.waitsGroup) && !s.aon.errLow && !bitAt (s.rd R.FLT_LIVE_LIVE pgPin) 0 &&
    !(s.cmd.waiting.any WaitCmd.bad)

/-- The rows that act on the always-on domain, on a pin, or on a reset, and so have an effect while a full reset holds every other
block (17_reset_power_supplies.md Table 17.3, R600, R602). -/
def alwaysOn (c : Instr) : Bool :=
  match c with
  | .powerOnReset | .resetNAssert | .undervoltage _ | .railRecovery | .fullResetRelease _ | .fumaroleToggle | .errNSenseChange _
  | .perstAssert _ | .perstDeassert _ | .jtagTapClock _ | .wakeEvent _ _ | .aonClockLoss _ | .supplyFail _ | .supplyOkReturn _
  | .reshareHoldExpire _ | .vauxLoss _ | .vauxReturn _ | .vrhotAssert | .vrhotDeassert | .smbusMessage _ _
  | .confirmTimeout _ => true
  | .registerWrite t _ _ => match t with
    | .bus _ => true
    | _ => false
  | _ => false

/-- The rows of the engines that MOSS gates: the queue engine, the transmit engines, the receive pipelines, the walkers, the match units,
TRG, the reduction units (17_reset_power_supplies.md R616). -/
def engineRow (c : Instr) : Bool :=
  match c with
  | .rxPipelinePacket _ | .launchFetch _ _ | .skippedDescComplete _ | .doorbellRecordPoll _ _ | .descriptorFetch _ _
  | .descriptorArrive _ _ _ | .completionWrite _ | .walkEntryReturn _ _ | .walkCasReturn _ _ | .invalidationComplete
  | .tcCacheLoad _ _ | .packetForm _ _ | .ackReceive | .nackReceive | .retransmitTimerExpire _ _ _ | .tcGiveupExpire _ _
  | .helloReceive | .helloRespReceive | .readRespForm _ _ | .readRespReceive | .revokeComplete _ | .revokeDrainSlow _
  | .windowCoolingEnd _ | .winOpenGoWrite _ | .winRevokeWrite _ | .nopDesc _ _ | .write _ _ | .read _ _ | .winRevokeDesc _
  | .send _ _ | .rndvWindowOpen _ | .recv _ | .reorderRelease _ | .matchArrival | .prqEntryFree _ | .cntAdd _ _ | .cntSet _ _
  | .trig _ | .wait _ | .cntFetch _ _ | .counterUpdate | .triggerSweep | .firedOpEnd | .pendingEntryFree _
  | .allreduce _ _ _ | .reduceScatter _ _ _ | .allgather _ _ _ | .barrier _ _ | .lineBcast _ _ _ | .collContribTap _
  | .timedGuardStart | .timedPhaseLaunch | .collPhaseTimeout _ _ | .collStagingWriteDone => true
  | _ => false

/-! ### What a command leaves unchanged -/

/-- Every register field reads in `t` as in `s`, but those under the keys `ks`. -/
def SameRegs (ks : List Nat) (s t : State) : Prop := ∀ f i j, f.key i j ∉ ks → t.rd f i j = s.rd f i j

/-- The fields that an event of a counter can change: its value and its overflow bit (19_performance_counters.md R661). -/
def counterKeys (f : RegField) (i : Nat) : List Nat := [f.key i 0, (ovfOf f).key i 0]

/-- The register fields that the start and the final reply of a command can change, by the command's path: the reply ring's producer index and
the counters of host reads (of an extended buffer), host writes and MSI-X messages, or the counter of injected packets; and the count of refused
commands (16_command_packets.md R574, R577, R579, R591). -/
def replyKeys (p : CmdPath) : List Nat :=
  counterKeys C.CMD_REFUSED 0 ++
    match p with
    | .ring h f => R.RPL_PI_INDEX.key (ringKey h f) 0 :: (counterKeys C.HIF_WR_REQ h.val ++ counterKeys C.HIF_WR_32B h.val ++
        counterKeys C.QUE_MSIX_SENT 0 ++ counterKeys C.HIF_RD_REQ h.val ++ counterKeys C.HIF_RD_32B h.val)
    | .smbus => []
    | .remote _ _ => counterKeys C.ROUT_PKT_INJ 0

/-- What a reply may change beside registers, outputs and the command table, by the path it takes. -/
def PathFrame (p : CmdPath) (s t : State) : Prop :=
  match p with
  | .ring _ _ => t.host = { s.host with msix := t.host.msix } ∧ t.pin = { s.pin with wake := t.pin.wake } ∧ t.rout = s.rout ∧
      t.inbuf = s.inbuf
  | .smbus => t.host = s.host ∧ t.pin = s.pin ∧ t.rout = s.rout ∧ t.inbuf = s.inbuf
  | .remote _ _ => t.host = s.host ∧ t.pin = s.pin ∧
      t.rout = { s.rout with unadmitted := t.rout.unadmitted } ∧
      ∀ i v, 8 * i + v ≠ 8 * 107 + 3 → t.inVc i v = s.inVc i v

/-- `t` is `s` after no more than the start and the final reply of a command on path `p`, and writes of the register fields under the
keys `ks`: the command table, the outputs, the MSI-X vectors and WAKE_N of a ring's host port, or the endpoint port E11 on which a
reply to another device enters the router; everything else is as it was. -/
structure Replied (p : CmdPath) (ks : List Nat) (s t : State) : Prop where
  regs : SameRegs (replyKeys p ++ ks) s t
  parts : t = { s with
    regs := t.regs, out := t.out, cmd := t.cmd, cnt := t.cnt, host := t.host, pin := t.pin, rout := t.rout, inbuf := t.inbuf }
  cmd : t.cmd = { s.cmd with waiting := t.cmd.waiting, started := t.cmd.started, next := t.cmd.next, rings := t.cmd.rings }
  cnt : t.cnt = { s.cnt with wraps := t.cnt.wraps }
  out : s.out <:+ t.out
  waits : ∀ w ∈ t.cmd.waiting, w ∈ s.cmd.waiting
  path : PathFrame p s t

/-- The outcome is a next state. -/
def answers (o : Host.Outcome State Fault Refusal) : Prop := ∃ t, o = .next t

end Sys2Proof.Machine
end

