-- ==== Sys2Proof/Certificates/Slice0/Obligations.lean ====
section
/-! DEFINITION. The statements for the provers. `Starts`, `State.engines`, `State.hostSeen` and the other terms are those of
Sys2Proof/Safety.lean; `t.ended` is the state a command leaves when what it owes is done (Sys2Proof/Machine/Settle.lean). -/

open Sys2Proof Sys2Proof.Machine

/-- When the command starts, NOP ends OK; DEV_INFO with PAGE 0 to 4 ends OK with that page's result, and with a higher page BAD_PARAM
without another effect; REMOTE with a valid PID and a TIMEOUT_MS of 1 to 10000 whose 64 bytes were read stays started, waits for the
peer's reply, counts REMOTE_TX and injects one MGMT_REQ packet on E11 that carries the 64 bytes. REMOTE with a PID that is not valid
or another TIMEOUT_MS ends BAD_PARAM without another effect; when the read of its bytes fails, DMA_ERR is raised and it ends FAILED
with result byte 2. (16_command_packets.md Table 16.6; 16_command_packets.md R591 R595) -/
def Obligations.GeneralCommandsComplete : Prop :=
  (∀ (c : CmdRef) (s u : State) (n : Nat),
    Starts s .a 0x0000 c [] n u →
    exec (.nop c) s = .next (u.ends n stOk).ended) ∧
  (∀ (c : CmdRef) (page : BitVec 8) (s u : State) (n : Nat),
    Starts s .a 0x0001 c (pack [(1, page.toNat)]) n u → page.toNat ≤ 4 →
    exec (.devInfo c page) s = .next (u.okay n (u.devInfo page.toNat)).ended) ∧
  (∀ (c : CmdRef) (page : BitVec 8) (s u : State) (n : Nat),
    Starts s .a 0x0001 c (pack [(1, page.toNat)]) n u → 4 < page.toNat →
    exec (.devInfo c page) s = .next (u.ends n stBadParam).ended) ∧
  (∀ (c : CmdRef) (pid : BitVec 32) (timeoutMs : BitVec 16) (cmdAddr outAddr : BitVec 64) (data : HostRead) (s u : State) (n : Nat) (bs
    : List Byte) (v w : State) (p : List Flit),
    Starts s .p 0x0002 c (pack [(4, pid.toNat), (2, timeoutMs.toNat), (8, cmdAddr.toNat), (8, outAddr.toNat)]) n u →
    data = some bs → bs.length = 64 → pid.toNat < 2 ^ 20 → u.validPid pid.toNat = true →
    1 ≤ timeoutMs.toNat → timeoutMs.toNat ≤ 10000 → v = u.hostRead (cmdReq c cmdAddr.toNat) 64 →
    w = (v.setWait n (.remote pid.toNat (field (ofBytes bs) 16 16) outAddr.toNat)).bump C.CMD_REMOTE_TX →
    p = formPacket { ptype := ptMgmtReq, ext := false, plen := 64, dpid := pid.toNat, spid := v.ownPid, sinc := v.nv.inc % 2 ^ 16, birth := v.gt % 2 ^ 40, vc := 0, shport := pathPort c.path }
      none bs →
    exec (.remote c pid timeoutMs cmdAddr outAddr data) s =
      .next (if v.canForm then w.inject 11 0 p else w.unadmit { e := 11, vc := 0, pkt := p }).ended) ∧
  (∀ (c : CmdRef) (pid : BitVec 32) (timeoutMs : BitVec 16) (cmdAddr outAddr : BitVec 64) (data : HostRead) (s u : State) (n : Nat),
    Starts s .p 0x0002 c (pack [(4, pid.toNat), (2, timeoutMs.toNat), (8, cmdAddr.toNat), (8, outAddr.toNat)]) n u →
    (2 ^ 20 ≤ pid.toNat ∨ u.validPid pid.toNat = false ∨ timeoutMs.toNat < 1 ∨ 10000 < timeoutMs.toNat) →
    exec (.remote c pid timeoutMs cmdAddr outAddr data) s = .next (u.ends n stBadParam).ended) ∧
  (∀ (c : CmdRef) (pid : BitVec 32) (timeoutMs : BitVec 16) (cmdAddr outAddr : BitVec 64) (data : HostRead) (s u : State) (n : Nat),
    Starts s .p 0x0002 c (pack [(4, pid.toNat), (2, timeoutMs.toNat), (8, cmdAddr.toNat), (8, outAddr.toNat)]) n u →
    data = none → pid.toNat < 2 ^ 20 → u.validPid pid.toNat = true → 1 ≤ timeoutMs.toNat →
    timeoutMs.toNat ≤ 10000 →
    exec (.remote c pid timeoutMs cmdAddr outAddr data) s =
      .next (((u.hostRead (cmdReq c cmdAddr.toNat) 64).dmaError (pathFn c.path)).finalReply n stFailed [2]).ended)

/-- When the command starts and its parameters are in range, PORT_ENABLE sets the port's EN, PORT_PRESET writes START_PRESET,
PORT_RETRAIN retrains a port that may train, PORT_STATUS and PORT_PEER answer the named registers, PORT_RETIRE retires a port in DOWN
and answers the packets dropped, LINK_TIMERS writes both timers of the port or of all ports, PORT_ASYM and LP_ENABLE write their
fields, NEIGHBOUR_INFO sends the query and waits; each ends OK as the table says. Out of range parameters end BAD_PARAM with no other
effect, and PORT_RETIRE of a port not in DOWN ends NOT_PERMITTED. (16_command_packets.md Table 16.6; 01_architecture.md R54;
04_lanes.md R158; 05_link_layer.md R195 R196 R200; 16_command_packets.md R592 R595) -/
def Obligations.PortCommandsComplete : Prop :=
  (∀ (c : CmdRef) (port en : BitVec 8) (s u : State) (n : Nat),
    Starts s .d 0x0100 c (pack [(1, port.toNat), (1, en.toNat)]) n u → portParam port.toNat = true →
    en.toNat ≤ 1 →
    exec (.portEnable c port en) s = .next ((u.setPortEn port.toNat (en.toNat = 1)).ends n stOk).carrWatch.ended) ∧
  (∀ (c : CmdRef) (port en : BitVec 8) (s u : State) (n : Nat),
    Starts s .d 0x0100 c (pack [(1, port.toNat), (1, en.toNat)]) n u →
    (portParam port.toNat = false ∨ 1 < en.toNat) →
    exec (.portEnable c port en) s = .next (u.ends n stBadParam).carrWatch.ended) ∧
  (∀ (c : CmdRef) (port preset : BitVec 8) (s u : State) (n : Nat),
    Starts s .d 0x0101 c (pack [(1, port.toNat), (1, preset.toNat)]) n u → portParam port.toNat = true →
    preset.toNat ≤ 7 →
    exec (.portPreset c port preset) s = .next ((u.wr R.PORT_CTRL_START_PRESET preset.toNat port.toNat).ends n stOk).ended) ∧
  (∀ (c : CmdRef) (port preset : BitVec 8) (s u : State) (n : Nat),
    Starts s .d 0x0101 c (pack [(1, port.toNat), (1, preset.toNat)]) n u →
    (portParam port.toNat = false ∨ 7 < preset.toNat) →
    exec (.portPreset c port preset) s = .next (u.ends n stBadParam).ended) ∧
  (∀ (c : CmdRef) (port fresh : BitVec 8) (s u : State) (n : Nat),
    Starts s .d 0x0102 c (pack [(1, port.toNat), (1, fresh.toNat)]) n u → portParam port.toNat = true →
    fresh.toNat ≤ 1 →
    exec (.portRetrain c port fresh) s = .next ((u.retrain port.toNat (fresh.toNat = 1)).ends n stOk).carrWatch.ended) ∧
  (∀ (c : CmdRef) (port fresh : BitVec 8) (s u : State) (n : Nat),
    Starts s .d 0x0102 c (pack [(1, port.toNat), (1, fresh.toNat)]) n u →
    (portParam port.toNat = false ∨ 1 < fresh.toNat) →
    exec (.portRetrain c port fresh) s = .next (u.ends n stBadParam).carrWatch.ended) ∧
  (∀ (c : CmdRef) (port : BitVec 8) (s u : State) (n : Nat),
    Starts s .d 0x0103 c (pack [(1, port.toNat)]) n u → portParam port.toNat = true →
    exec (.portStatus c port) s =
      .next (u.okay n [(8, u.readReg (portReg port.toNat 0x808)), (8, u.readReg (linkReg port.toNat 8))]).ended) ∧
  (∀ (c : CmdRef) (port : BitVec 8) (s u : State) (n : Nat),
    Starts s .d 0x0103 c (pack [(1, port.toNat)]) n u → portParam port.toNat = false →
    exec (.portStatus c port) s = .next (u.ends n stBadParam).ended) ∧
  (∀ (c : CmdRef) (port : BitVec 8) (s u : State) (n : Nat),
    Starts s .d 0x0104 c (pack [(1, port.toNat)]) n u → portParam port.toNat = true →
    exec (.portPeer c port) s =
      .next (u.okay n [(8, u.readReg (portReg port.toNat 0x810)), (8, u.readReg (portReg port.toNat 0x830))]).ended) ∧
  (∀ (c : CmdRef) (port : BitVec 8) (s u : State) (n : Nat),
    Starts s .d 0x0104 c (pack [(1, port.toNat)]) n u → portParam port.toNat = false →
    exec (.portPeer c port) s = .next (u.ends n stBadParam).ended) ∧
  (∀ (c : CmdRef) (port : BitVec 8) (s u : State) (n : Nat),
    Starts s .d 0x0105 c (pack [(1, port.toNat)]) n u → portParam port.toNat = true →
    u.rd R.LINK_STATUS_STATE port.toNat = lkDown →
    exec (.portRetire c port) s =
      .next ((u.retireLink port.toNat).okay n [(8, ((u.retireLink port.toNat).rd C.LINK_HELD_DROP port.toNat + 2 ^ 48 - u.rd
        C.LINK_HELD_DROP port.toNat) % 2 ^ 48)]).carrWatch.ended) ∧
  (∀ (c : CmdRef) (port : BitVec 8) (s u : State) (n : Nat),
    Starts s .d 0x0105 c (pack [(1, port.toNat)]) n u → portParam port.toNat = true →
    u.rd R.LINK_STATUS_STATE port.toNat ≠ lkDown →
    exec (.portRetire c port) s = .next (u.ends n stNotPermitted).carrWatch.ended) ∧
  (∀ (c : CmdRef) (port : BitVec 8) (s u : State) (n : Nat),
    Starts s .d 0x0105 c (pack [(1, port.toNat)]) n u → portParam port.toNat = false →
    exec (.portRetire c port) s = .next (u.ends n stBadParam).carrWatch.ended) ∧
  (∀ (c : CmdRef) (port : BitVec 8) (replayTmr xoffWdog : BitVec 32) (s u : State) (n : Nat),
    Starts s .d 0x0106 c (pack [(1, port.toNat), (4, replayTmr.toNat), (4, xoffWdog.toNat)]) n u →
    portParam port.toNat = true → R.LINK_TMR_REPLAY_TMR.allows replayTmr.toNat = true →
    R.LINK_TMR_XOFF_WDOG.allows xoffWdog.toNat = true → u.linkRtt port.toNat + 3200 ≤ replayTmr.toNat →
    exec (.linkTimers c port replayTmr xoffWdog) s =
      .next (((u.wr R.LINK_TMR_REPLAY_TMR replayTmr.toNat port.toNat).wr R.LINK_TMR_XOFF_WDOG xoffWdog.toNat port.toNat).ends n
        stOk).ended) ∧
  (∀ (c : CmdRef) (port : BitVec 8) (replayTmr xoffWdog : BitVec 32) (s u : State) (n : Nat),
    Starts s .d 0x0106 c (pack [(1, port.toNat), (4, replayTmr.toNat), (4, xoffWdog.toNat)]) n u →
    port.toNat = 255 → R.LINK_TMR_REPLAY_TMR.allows replayTmr.toNat = true →
    R.LINK_TMR_XOFF_WDOG.allows xoffWdog.toNat = true →
    ((List.range 96).all (fun p => decide (u.linkRtt p + 3200 ≤ replayTmr.toNat)) = true) →
    exec (.linkTimers c port replayTmr xoffWdog) s =
      .next (((List.range 96).foldl (fun t p => (t.wr R.LINK_TMR_REPLAY_TMR replayTmr.toNat p).wr R.LINK_TMR_XOFF_WDOG xoffWdog.toNat p)
        u).ends n stOk).ended) ∧
  (∀ (c : CmdRef) (port : BitVec 8) (replayTmr xoffWdog : BitVec 32) (s u : State) (n : Nat),
    Starts s .d 0x0106 c (pack [(1, port.toNat), (4, replayTmr.toNat), (4, xoffWdog.toNat)]) n u →
    (¬ (R.LINK_TMR_REPLAY_TMR.allows replayTmr.toNat = true ∧ R.LINK_TMR_XOFF_WDOG.allows xoffWdog.toNat = true ∧ (portParam port.toNat
      = true ∧ u.linkRtt port.toNat + 3200 ≤ replayTmr.toNat ∨ port.toNat = 255 ∧ (List.range 96).all (fun p => decide (u.linkRtt p +
      3200 ≤ replayTmr.toNat)) = true))) →
    exec (.linkTimers c port replayTmr xoffWdog) s = .next (u.ends n stBadParam).ended) ∧
  (∀ (c : CmdRef) (port : BitVec 8) (asym : BitVec 16) (s u : State) (n : Nat),
    Starts s .d 0x0107 c (pack [(1, port.toNat), (2, asym.toNat)]) n u → portParam port.toNat = true →
    exec (.portAsym c port asym) s = .next ((u.wr R.PORT_DLY_CAL_ASYM asym.toNat port.toNat).ends n stOk).ended) ∧
  (∀ (c : CmdRef) (port : BitVec 8) (asym : BitVec 16) (s u : State) (n : Nat),
    Starts s .d 0x0107 c (pack [(1, port.toNat), (2, asym.toNat)]) n u → portParam port.toNat = false →
    exec (.portAsym c port asym) s = .next (u.ends n stBadParam).ended) ∧
  (∀ (c : CmdRef) (port : BitVec 8) (s u : State) (n : Nat),
    Starts s .d 0x0108 c (pack [(1, port.toNat)]) n u → portParam port.toNat = true →
    exec (.neighbourInfo c port) s =
      .next (((({ u with cmd := { u.cmd with qtag := (u.cmd.qtag + 1) % 2 ^ 16 } } : State).setWait n (.neighbour port.toNat
        u.cmd.qtag)).bcSend port.toNat (BitVec.ofNat 256 (mgmtFlit 0 u.cmd.qtag)))).ended) ∧
  (∀ (c : CmdRef) (port : BitVec 8) (s u : State) (n : Nat),
    Starts s .d 0x0108 c (pack [(1, port.toNat)]) n u → portParam port.toNat = false →
    exec (.neighbourInfo c port) s = .next (u.ends n stBadParam).ended) ∧
  (∀ (c : CmdRef) (port lpEn : BitVec 8) (s u : State) (n : Nat),
    Starts s .d 0x0109 c (pack [(1, port.toNat), (1, lpEn.toNat)]) n u → portParam port.toNat = true →
    lpEn.toNat ≤ 1 →
    exec (.lpEnable c port lpEn) s = .next ((u.wr R.LINK_CTRL_LP_EN lpEn.toNat port.toNat).ends n stOk).ended) ∧
  (∀ (c : CmdRef) (port lpEn : BitVec 8) (s u : State) (n : Nat),
    Starts s .d 0x0109 c (pack [(1, port.toNat), (1, lpEn.toNat)]) n u →
    (portParam port.toNat = false ∨ 1 < lpEn.toNat) →
    exec (.lpEnable c port lpEn) s = .next (u.ends n stBadParam).ended)

/-- When the command starts, its parameters are in range and nothing is busy, each routing opcode has its effect and ends OK: the
alias entry, entries or exclusion mask are stored in the named unlocked bank; FLIP arms and floods the flip; TRANSIT_OFF, COST_SET,
THROTTLE_SET and ROUTE_HOLD write their fields; TOPO_SET keeps the topology word for the next start; the four reading opcodes answer
or write to host memory. A locked bank ends ALIAS_WRITE, ALIAS_BULK and EXCL_WRITE BUSY, a flip armed or holding ends FLIP BUSY, a due
start ends TOPO_SET BUSY; FLIP in ESTIMATED or INVALID ends NOT_PERMITTED; parameters out of range and alias entries that are not
valid end BAD_PARAM; ALIAS_BULK whose read fails raises DMA_ERR and ends FAILED, and TOPO_SET whose MRAM write fails ends FAILED.
(16_command_packets.md Table 16.6; 01_architecture.md R54; 02_grid_and_addressing.md R59; 07_dynamic_routing.md R246 R252 R253 R267
R747; 16_command_packets.md R595) -/
def Obligations.RoutingCommandsComplete : Prop :=
  (∀ (c : CmdRef) (bank : BitVec 8) (index : BitVec 16) (entry : BitVec 64) (s u : State) (n : Nat),
    Starts s .d 0x0200 c (pack [(1, bank.toNat), (2, index.toNat), (8, entry.toNat)]) n u →
    bank.toNat ≤ 1 → index.toNat < 4096 → u.bankLocked bank.toNat = false →
    aliasEntryOk u.topo entry.toNat = true →
    exec (.aliasWrite c bank index entry) s =
      .next ((u.setAliasBank bank.toNat (tput 0 (u.aliasBank bank.toNat) index.toNat entry.toNat)).ends n stOk).ended) ∧
  (∀ (c : CmdRef) (bank : BitVec 8) (index : BitVec 16) (entry : BitVec 64) (s u : State) (n : Nat),
    Starts s .d 0x0200 c (pack [(1, bank.toNat), (2, index.toNat), (8, entry.toNat)]) n u →
    bank.toNat ≤ 1 → index.toNat < 4096 → u.bankLocked bank.toNat = true →
    exec (.aliasWrite c bank index entry) s = .next (u.ends n stBusy).ended) ∧
  (∀ (c : CmdRef) (bank : BitVec 8) (index : BitVec 16) (entry : BitVec 64) (s u : State) (n : Nat),
    Starts s .d 0x0200 c (pack [(1, bank.toNat), (2, index.toNat), (8, entry.toNat)]) n u →
    (1 < bank.toNat ∨ 4096 ≤ index.toNat) →
    exec (.aliasWrite c bank index entry) s = .next (u.ends n stBadParam).ended) ∧
  (∀ (c : CmdRef) (bank : BitVec 8) (index : BitVec 16) (entry : BitVec 64) (s u : State) (n : Nat),
    Starts s .d 0x0200 c (pack [(1, bank.toNat), (2, index.toNat), (8, entry.toNat)]) n u →
    bank.toNat ≤ 1 → index.toNat < 4096 → u.bankLocked bank.toNat = false →
    aliasEntryOk u.topo entry.toNat = false →
    exec (.aliasWrite c bank index entry) s = .next (u.ends n stBadParam).ended) ∧
  (∀ (c : CmdRef) (bank : BitVec 8) (first count : BitVec 16) (addr : BitVec 64) (data : HostRead) (s u : State) (n : Nat) (bs : List
    Byte) (v : State),
    Starts s .p 0x0201 c (pack [(1, bank.toNat), (2, first.toNat), (2, count.toNat), (8, addr.toNat)]) n u →
    bank.toNat ≤ 1 → first.toNat + count.toNat ≤ 4096 → 0 < count.toNat → u.bankLocked bank.toNat = false →
    data = some bs → bs.length = 8 * count.toNat → v = u.hostRead (cmdReq c addr.toNat) (8 * count.toNat) →
    (words8 count.toNat bs).all (aliasEntryOk v.topo) = true →
    exec (.aliasBulk c bank first count addr data) s =
      .next ((v.setAliasBank bank.toNat (((List.range count.toNat).zip (words8 count.toNat bs)).foldl (fun t ie => tput 0 t (first.toNat
        + ie.1) ie.2) (v.aliasBank bank.toNat))).ends n stOk).ended) ∧
  (∀ (c : CmdRef) (bank : BitVec 8) (first count : BitVec 16) (addr : BitVec 64) (data : HostRead) (s u : State) (n : Nat),
    Starts s .p 0x0201 c (pack [(1, bank.toNat), (2, first.toNat), (2, count.toNat), (8, addr.toNat)]) n u →
    bank.toNat ≤ 1 → first.toNat ≤ 4096 → count.toNat = 0 →
    exec (.aliasBulk c bank first count addr data) s = .next (u.ends n stOk).ended) ∧
  (∀ (c : CmdRef) (bank : BitVec 8) (first count : BitVec 16) (addr : BitVec 64) (data : HostRead) (s u : State) (n : Nat),
    Starts s .p 0x0201 c (pack [(1, bank.toNat), (2, first.toNat), (2, count.toNat), (8, addr.toNat)]) n u →
    (1 < bank.toNat ∨ 4096 < first.toNat + count.toNat) →
    exec (.aliasBulk c bank first count addr data) s = .next (u.ends n stBadParam).ended) ∧
  (∀ (c : CmdRef) (bank : BitVec 8) (first count : BitVec 16) (addr : BitVec 64) (data : HostRead) (s u : State) (n : Nat),
    Starts s .p 0x0201 c (pack [(1, bank.toNat), (2, first.toNat), (2, count.toNat), (8, addr.toNat)]) n u →
    bank.toNat ≤ 1 → first.toNat + count.toNat ≤ 4096 → 0 < count.toNat → u.bankLocked bank.toNat = true →
    exec (.aliasBulk c bank first count addr data) s = .next (u.ends n stBusy).ended) ∧
  (∀ (c : CmdRef) (bank : BitVec 8) (first count : BitVec 16) (addr : BitVec 64) (data : HostRead) (s u : State) (n : Nat),
    Starts s .p 0x0201 c (pack [(1, bank.toNat), (2, first.toNat), (2, count.toNat), (8, addr.toNat)]) n u →
    bank.toNat ≤ 1 → first.toNat + count.toNat ≤ 4096 → 0 < count.toNat → u.bankLocked bank.toNat = false →
    data = none →
    exec (.aliasBulk c bank first count addr data) s =
      .next (((u.hostRead (cmdReq c addr.toNat) (8 * count.toNat)).dmaError (pathFn c.path)).finalReply n stFailed []).ended) ∧
  (∀ (c : CmdRef) (bank : BitVec 8) (first count : BitVec 16) (addr : BitVec 64) (data : HostRead) (s u : State) (n : Nat) (bs : List
    Byte) (v : State),
    Starts s .p 0x0201 c (pack [(1, bank.toNat), (2, first.toNat), (2, count.toNat), (8, addr.toNat)]) n u →
    bank.toNat ≤ 1 → first.toNat + count.toNat ≤ 4096 → 0 < count.toNat → u.bankLocked bank.toNat = false →
    data = some bs → bs.length = 8 * count.toNat → v = u.hostRead (cmdReq c addr.toNat) (8 * count.toNat) →
    (words8 count.toNat bs).all (aliasEntryOk v.topo) = false →
    exec (.aliasBulk c bank first count addr data) s = .next (v.ends n stBadParam).ended) ∧
  (∀ (c : CmdRef) (bank : BitVec 8) (maskLo : BitVec 64) (maskHi : BitVec 32) (s u : State) (n : Nat),
    Starts s .d 0x0202 c (pack [(1, bank.toNat), (8, maskLo.toNat), (4, maskHi.toNat)]) n u →
    bank.toNat ≤ 1 → u.bankLocked bank.toNat = false →
    exec (.exclWrite c bank maskLo maskHi) s = .next ((u.setExcl bank.toNat maskLo.toNat maskHi.toNat).ends n stOk).ended) ∧
  (∀ (c : CmdRef) (bank : BitVec 8) (maskLo : BitVec 64) (maskHi : BitVec 32) (s u : State) (n : Nat),
    Starts s .d 0x0202 c (pack [(1, bank.toNat), (8, maskLo.toNat), (4, maskHi.toNat)]) n u →
    1 < bank.toNat →
    exec (.exclWrite c bank maskLo maskHi) s = .next (u.ends n stBadParam).ended) ∧
  (∀ (c : CmdRef) (bank : BitVec 8) (maskLo : BitVec 64) (maskHi : BitVec 32) (s u : State) (n : Nat),
    Starts s .d 0x0202 c (pack [(1, bank.toNat), (8, maskLo.toNat), (4, maskHi.toNat)]) n u →
    bank.toNat ≤ 1 → u.bankLocked bank.toNat = true →
    exec (.exclWrite c bank maskLo maskHi) s = .next (u.ends n stBusy).ended) ∧
  (∀ (c : CmdRef) (targetGt : BitVec 64) (flipId : BitVec 16) (newMode : BitVec 8) (s u : State) (n : Nat),
    Starts s .d 0x0203 c (pack [(8, targetGt.toNat), (2, flipId.toNat), (1, newMode.toNat)]) n u →
    newMode.toNat ≤ 3 → u.gt + 1600000 ≤ targetGt.toNat → targetGt.toNat ≤ u.gt + 160000000000 →
    u.bankValid (1 - u.activeBank) = true → flipId.toNat = (u.rd R.ROUT_BANK_LAST_ID + 1) % 65536 →
    u.on R.ROUT_BANK_ARMED = false → u.on R.ROUT_BANK_HOLDING = false → u.geysState ≠ gsEstimated →
    u.geysState ≠ gsInvalid →
    exec (.flip c targetGt flipId newMode) s =
      .next ((u.originateFlip targetGt.toNat flipId.toNat newMode.toNat 8).ends n stOk).ended) ∧
  (∀ (c : CmdRef) (targetGt : BitVec 64) (flipId : BitVec 16) (newMode : BitVec 8) (s u : State) (n : Nat),
    Starts s .d 0x0203 c (pack [(8, targetGt.toNat), (2, flipId.toNat), (1, newMode.toNat)]) n u →
    (¬ (newMode.toNat ≤ 3 ∧ u.gt + 1600000 ≤ targetGt.toNat ∧ targetGt.toNat ≤ u.gt + 160000000000 ∧ u.bankValid (1 - u.activeBank) =
      true ∧ flipId.toNat = (u.rd R.ROUT_BANK_LAST_ID + 1) % 65536)) →
    exec (.flip c targetGt flipId newMode) s = .next (u.ends n stBadParam).ended) ∧
  (∀ (c : CmdRef) (targetGt : BitVec 64) (flipId : BitVec 16) (newMode : BitVec 8) (s u : State) (n : Nat),
    Starts s .d 0x0203 c (pack [(8, targetGt.toNat), (2, flipId.toNat), (1, newMode.toNat)]) n u →
    newMode.toNat ≤ 3 → u.gt + 1600000 ≤ targetGt.toNat → targetGt.toNat ≤ u.gt + 160000000000 →
    u.bankValid (1 - u.activeBank) = true → flipId.toNat = (u.rd R.ROUT_BANK_LAST_ID + 1) % 65536 →
    (u.on R.ROUT_BANK_ARMED = true ∨ u.on R.ROUT_BANK_HOLDING = true) →
    exec (.flip c targetGt flipId newMode) s = .next (u.ends n stBusy).ended) ∧
  (∀ (c : CmdRef) (targetGt : BitVec 64) (flipId : BitVec 16) (newMode : BitVec 8) (s u : State) (n : Nat),
    Starts s .d 0x0203 c (pack [(8, targetGt.toNat), (2, flipId.toNat), (1, newMode.toNat)]) n u →
    newMode.toNat ≤ 3 → u.gt + 1600000 ≤ targetGt.toNat → targetGt.toNat ≤ u.gt + 160000000000 →
    u.bankValid (1 - u.activeBank) = true → flipId.toNat = (u.rd R.ROUT_BANK_LAST_ID + 1) % 65536 →
    u.on R.ROUT_BANK_ARMED = false → u.on R.ROUT_BANK_HOLDING = false →
    (u.geysState = gsEstimated ∨ u.geysState = gsInvalid) →
    exec (.flip c targetGt flipId newMode) s = .next (u.ends n stNotPermitted).ended) ∧
  (∀ (c : CmdRef) (off : BitVec 8) (s u : State) (n : Nat),
    Starts s .d 0x0204 c (pack [(1, off.toNat)]) n u → off.toNat ≤ 1 →
    exec (.transitOff c off) s = .next ((u.setTransitOff (off.toNat = 1)).ends n stOk).ended) ∧
  (∀ (c : CmdRef) (off : BitVec 8) (s u : State) (n : Nat),
    Starts s .d 0x0204 c (pack [(1, off.toNat)]) n u → 1 < off.toNat →
    exec (.transitOff c off) s = .next (u.ends n stBadParam).ended) ∧
  (∀ (c : CmdRef) (topo : BitVec 64) (mramOk : Bool) (s u : State) (n : Nat),
    Starts s .d 0x0205 c (pack [(8, topo.toNat)]) n u → topoValid topo.toNat = true → u.bootBusy = false →
    mramOk = true →
    exec (.topoSet c topo mramOk) s =
      .next (((u.bootStamp.setNv fun x => { x with topo := some topo.toNat }).wr R.ROUT_TOPO_PEND_TOPO topo.toNat).ends n stOk).ended) ∧
  (∀ (c : CmdRef) (topo : BitVec 64) (mramOk : Bool) (s u : State) (n : Nat),
    Starts s .d 0x0205 c (pack [(8, topo.toNat)]) n u → topoValid topo.toNat = false →
    exec (.topoSet c topo mramOk) s = .next (u.ends n stBadParam).ended) ∧
  (∀ (c : CmdRef) (topo : BitVec 64) (mramOk : Bool) (s u : State) (n : Nat),
    Starts s .d 0x0205 c (pack [(8, topo.toNat)]) n u → topoValid topo.toNat = true → u.bootBusy = true →
    exec (.topoSet c topo mramOk) s = .next (u.ends n stBusy).ended) ∧
  (∀ (c : CmdRef) (topo : BitVec 64) (mramOk : Bool) (s u : State) (n : Nat),
    Starts s .d 0x0205 c (pack [(8, topo.toNat)]) n u → topoValid topo.toNat = true → u.bootBusy = false →
    mramOk = false →
    exec (.topoSet c topo mramOk) s = .next (u.bootStamp.mramFail.ends n stFailed).ended) ∧
  (∀ (c : CmdRef) (markThr : BitVec 16) (detThr detBias : BitVec 8) (s u : State) (n : Nat),
    Starts s .d 0x0206 c (pack [(2, markThr.toNat), (1, detThr.toNat), (1, detBias.toNat)]) n u →
    R.ROUT_COST_MARK_THR.allows markThr.toNat = true →
    exec (.costSet c markThr detThr detBias) s =
      .next ((((u.wr R.ROUT_COST_MARK_THR markThr.toNat).wr R.ROUT_COST_DET_THR detThr.toNat).wr R.ROUT_COST_DET_BIAS
        detBias.toNat).ends n stOk).ended) ∧
  (∀ (c : CmdRef) (markThr : BitVec 16) (detThr detBias : BitVec 8) (s u : State) (n : Nat),
    Starts s .d 0x0206 c (pack [(2, markThr.toNat), (1, detThr.toNat), (1, detBias.toNat)]) n u →
    R.ROUT_COST_MARK_THR.allows markThr.toNat = false →
    exec (.costSet c markThr detThr detBias) s = .next (u.ends n stBadParam).ended) ∧
  (∀ (c : CmdRef) (aiStep mdShift rateMin aiPkts : BitVec 8) (lqThr : BitVec 16) (markEvery thrEn : BitVec 8) (s u : State) (n : Nat),
    Starts s .d 0x0207 c (pack [(1, aiStep.toNat), (1, mdShift.toNat), (1, rateMin.toNat), (1, aiPkts.toNat), (2, lqThr.toNat), (1,
      markEvery.toNat), (1, thrEn.toNat)]) n u →
    (([(R.ROUT_THR_AI_STEP, aiStep.toNat), (R.ROUT_THR_MD_SHIFT, mdShift.toNat), (R.ROUT_THR_RATE_MIN, rateMin.toNat),
      (R.ROUT_THR_AI_PKTS, aiPkts.toNat), (R.ROUT_THR_LQ_THR, lqThr.toNat), (R.ROUT_THR_MARK_EVERY, markEvery.toNat),
      (R.ROUT_THR_THR_EN, thrEn.toNat)].all fun x => x.1.allows x.2) = true) →
    exec (.throttleSet c aiStep mdShift rateMin aiPkts lqThr markEvery thrEn) s =
      .next ((u.wrs [(R.ROUT_THR_AI_STEP, aiStep.toNat), (R.ROUT_THR_MD_SHIFT, mdShift.toNat), (R.ROUT_THR_RATE_MIN, rateMin.toNat),
        (R.ROUT_THR_AI_PKTS, aiPkts.toNat), (R.ROUT_THR_LQ_THR, lqThr.toNat), (R.ROUT_THR_MARK_EVERY, markEvery.toNat),
        (R.ROUT_THR_THR_EN, thrEn.toNat)]).epSettle.ends n stOk).ended) ∧
  (∀ (c : CmdRef) (aiStep mdShift rateMin aiPkts : BitVec 8) (lqThr : BitVec 16) (markEvery thrEn : BitVec 8) (s u : State) (n : Nat),
    Starts s .d 0x0207 c (pack [(1, aiStep.toNat), (1, mdShift.toNat), (1, rateMin.toNat), (1, aiPkts.toNat), (2, lqThr.toNat), (1,
      markEvery.toNat), (1, thrEn.toNat)]) n u →
    (([(R.ROUT_THR_AI_STEP, aiStep.toNat), (R.ROUT_THR_MD_SHIFT, mdShift.toNat), (R.ROUT_THR_RATE_MIN, rateMin.toNat),
      (R.ROUT_THR_AI_PKTS, aiPkts.toNat), (R.ROUT_THR_LQ_THR, lqThr.toNat), (R.ROUT_THR_MARK_EVERY, markEvery.toNat),
      (R.ROUT_THR_THR_EN, thrEn.toNat)].all fun x => x.1.allows x.2) = false) →
    exec (.throttleSet c aiStep mdShift rateMin aiPkts lqThr markEvery thrEn) s = .next (u.ends n stBadParam).ended) ∧
  (∀ (c : CmdRef) (s u : State) (n : Nat),
    Starts s .d 0x0208 c [] n u →
    exec (.routeStatus c) s = .next (u.okay n [(8, u.readReg 0x3000018), (4, u.bankCrc 0), (4, u.bankCrc 1)]).ended) ∧
  (∀ (c : CmdRef) (dim : BitVec 8) (outAddr : BitVec 64) (s u : State) (n : Nat),
    Starts s .p 0x0209 c (pack [(1, dim.toNat), (8, outAddr.toNat)]) n u → dim.toNat ≤ 3 →
    exec (.rowsRead c dim outAddr) s =
      .next ((u.hostWrite (cmdReq c outAddr.toNat) (u.regBytes (0x3200000 + 0x100 * dim.toNat) 32)).ends n stOk).ended) ∧
  (∀ (c : CmdRef) (dim : BitVec 8) (outAddr : BitVec 64) (s u : State) (n : Nat),
    Starts s .p 0x0209 c (pack [(1, dim.toNat), (8, outAddr.toNat)]) n u → 3 < dim.toNat →
    exec (.rowsRead c dim outAddr) s = .next (u.ends n stBadParam).ended) ∧
  (∀ (c : CmdRef) (outAddr : BitVec 64) (s u : State) (n : Nat),
    Starts s .p 0x020A c (pack [(8, outAddr.toNat)]) n u →
    exec (.throttleRead c outAddr) s =
      .next ((u.hostWrite (cmdReq c outAddr.toNat) (u.regBytes 0x3300000 1024)).ends n stOk).ended) ∧
  (∀ (c : CmdRef) (bank : BitVec 8) (outAddr : BitVec 64) (s u : State) (n : Nat),
    Starts s .p 0x020B c (pack [(1, bank.toNat), (8, outAddr.toNat)]) n u → bank.toNat ≤ 1 →
    exec (.aliasRead c bank outAddr) s =
      .next ((u.hostWrite (cmdReq c outAddr.toNat) (bankBytes (u.aliasBank bank.toNat))).ends n stOk).ended) ∧
  (∀ (c : CmdRef) (bank : BitVec 8) (outAddr : BitVec 64) (s u : State) (n : Nat),
    Starts s .p 0x020B c (pack [(1, bank.toNat), (8, outAddr.toNat)]) n u → 1 < bank.toNat →
    exec (.aliasRead c bank outAddr) s = .next (u.ends n stBadParam).ended) ∧
  (∀ (c : CmdRef) (hold : BitVec 64) (s u : State) (n : Nat),
    Starts s .d 0x020C c (pack [(8, hold.toNat)]) n u → R.ROUT_HOLD_HOLD.allows hold.toNat = true →
    hold.toNat ≤ u.effLifetime →
    exec (.routeHold c hold) s = .next ((u.wr R.ROUT_HOLD_HOLD hold.toNat).ends n stOk).ended) ∧
  (∀ (c : CmdRef) (hold : BitVec 64) (s u : State) (n : Nat),
    Starts s .d 0x020C c (pack [(8, hold.toNat)]) n u →
    (R.ROUT_HOLD_HOLD.allows hold.toNat = false ∨ u.effLifetime < hold.toNat) →
    exec (.routeHold c hold) s = .next (u.ends n stBadParam).ended)

/-- When the command starts and its parameters are in range, GM_CFG and GEYS_LIMITS write their fields (the latter then checks the
uncertainty), TAI_SET by a grandmaster with PPS_EN 1 keeps TAI_SEC for the next edge and writes UTC_OFS, GEYS_STEP by a grandmaster
without an active schedule steps GT, GEYS_STATUS and GEYS_SLEEP answer the named registers; each ends OK. Parameters out of range end
GM_CFG, GEYS_LIMITS, TAI_SET and GEYS_STEP BAD_PARAM without another effect, and GEYS_STEP of a device that is no grandmaster or runs
a schedule ends NOT_PERMITTED. (16_command_packets.md Table 16.6; 06_timebase.md R219 R229; 16_command_packets.md R595) -/
def Obligations.GeyserCommandsComplete : Prop :=
  (∀ (c : CmdRef) (gmPrio gmEn ppsEn ref10mEn ppsFall : BitVec 8) (s u : State) (n : Nat),
    Starts s .d 0x0300 c (pack [(1, gmPrio.toNat), (1, gmEn.toNat), (1, ppsEn.toNat), (1, ref10mEn.toNat), (1, ppsFall.toNat)]) n u →
    (([(R.GEYS_CFG_GM_PRIO, gmPrio.toNat), (R.GEYS_CFG_GM_EN, gmEn.toNat), (R.GEYS_CFG_PPS_EN, ppsEn.toNat), (R.GEYS_CFG_REF10M_EN,
      ref10mEn.toNat), (R.GEYS_CFG_PPS_FALL, ppsFall.toNat)].all fun x => x.1.allows x.2) = true) →
    exec (.gmCfg c gmPrio gmEn ppsEn ref10mEn ppsFall) s =
      .next ((u.wrs [(R.GEYS_CFG_GM_PRIO, gmPrio.toNat), (R.GEYS_CFG_GM_EN, gmEn.toNat), (R.GEYS_CFG_PPS_EN, ppsEn.toNat),
        (R.GEYS_CFG_REF10M_EN, ref10mEn.toNat), (R.GEYS_CFG_PPS_FALL, ppsFall.toNat)]).refsChanged.ends n stOk).ended) ∧
  (∀ (c : CmdRef) (gmPrio gmEn ppsEn ref10mEn ppsFall : BitVec 8) (s u : State) (n : Nat),
    Starts s .d 0x0300 c (pack [(1, gmPrio.toNat), (1, gmEn.toNat), (1, ppsEn.toNat), (1, ref10mEn.toNat), (1, ppsFall.toNat)]) n u →
    (([(R.GEYS_CFG_GM_PRIO, gmPrio.toNat), (R.GEYS_CFG_GM_EN, gmEn.toNat), (R.GEYS_CFG_PPS_EN, ppsEn.toNat), (R.GEYS_CFG_REF10M_EN,
      ref10mEn.toNat), (R.GEYS_CFG_PPS_FALL, ppsFall.toNat)].all fun x => x.1.allows x.2) = false) →
    exec (.gmCfg c gmPrio gmEn ppsEn ref10mEn ppsFall) s = .next (u.ends n stBadParam).ended) ∧
  (∀ (c : CmdRef) (schedUncMax : BitVec 16) (hopUnc : BitVec 8) (stepThr holdPpb : BitVec 16) (uncInvalid : BitVec 32) (s u : State) (n
    : Nat),
    Starts s .d 0x0301 c (pack [(2, schedUncMax.toNat), (1, hopUnc.toNat), (2, stepThr.toNat), (2, holdPpb.toNat), (4,
      uncInvalid.toNat)]) n u →
    (([(R.GEYS_LIM_SCHED_UNC_MAX, schedUncMax.toNat), (R.GEYS_LIM_HOP_UNC, hopUnc.toNat), (R.GEYS_LIM_STEP_THR, stepThr.toNat),
      (R.GEYS_LIM_HOLD_PPB, holdPpb.toNat), (R.GEYS_UNC_INV_UNC_INVALID, uncInvalid.toNat)].all fun x => x.1.allows x.2) = true) →
    exec (.geysLimits c schedUncMax hopUnc stepThr holdPpb uncInvalid) s =
      .next ((u.wrs [(R.GEYS_LIM_SCHED_UNC_MAX, schedUncMax.toNat), (R.GEYS_LIM_HOP_UNC, hopUnc.toNat), (R.GEYS_LIM_STEP_THR,
        stepThr.toNat), (R.GEYS_LIM_HOLD_PPB, holdPpb.toNat), (R.GEYS_UNC_INV_UNC_INVALID, uncInvalid.toNat)]).uncCheck.ends n
        stOk).ended) ∧
  (∀ (c : CmdRef) (schedUncMax : BitVec 16) (hopUnc : BitVec 8) (stepThr holdPpb : BitVec 16) (uncInvalid : BitVec 32) (s u : State) (n
    : Nat),
    Starts s .d 0x0301 c (pack [(2, schedUncMax.toNat), (1, hopUnc.toNat), (2, stepThr.toNat), (2, holdPpb.toNat), (4,
      uncInvalid.toNat)]) n u →
    (([(R.GEYS_LIM_SCHED_UNC_MAX, schedUncMax.toNat), (R.GEYS_LIM_HOP_UNC, hopUnc.toNat), (R.GEYS_LIM_STEP_THR, stepThr.toNat),
      (R.GEYS_LIM_HOLD_PPB, holdPpb.toNat), (R.GEYS_UNC_INV_UNC_INVALID, uncInvalid.toNat)].all fun x => x.1.allows x.2) = false) →
    exec (.geysLimits c schedUncMax hopUnc stepThr holdPpb uncInvalid) s = .next (u.ends n stBadParam).ended) ∧
  (∀ (c : CmdRef) (taiSec : BitVec 64) (utcOfs : BitVec 16) (s u : State) (n : Nat) (t : State),
    Starts s .d 0x0302 c (pack [(8, taiSec.toNat), (2, utcOfs.toNat)]) n u → taiSec.toNat < 2 ^ 48 →
    u.isGm = true → u.on R.GEYS_CFG_PPS_EN = true →
    (t = if u.on R.GEYS_TAI_TAI_VALID then u else { u with geys := { u.geys with taiPending := some taiSec.toNat } }) →
    exec (.taiSet c taiSec utcOfs) s = .next (((t.wr R.GEYS_TAI_NS_UTC_OFS utcOfs.toNat).ends n stOk)).ended) ∧
  (∀ (c : CmdRef) (taiSec : BitVec 64) (utcOfs : BitVec 16) (s u : State) (n : Nat),
    Starts s .d 0x0302 c (pack [(8, taiSec.toNat), (2, utcOfs.toNat)]) n u → taiSec.toNat < 2 ^ 48 →
    (u.isGm = false ∨ u.on R.GEYS_CFG_PPS_EN = false) →
    exec (.taiSet c taiSec utcOfs) s = .next (u.ends n stNotPermitted).ended) ∧
  (∀ (c : CmdRef) (taiSec : BitVec 64) (utcOfs : BitVec 16) (s u : State) (n : Nat),
    Starts s .d 0x0302 c (pack [(8, taiSec.toNat), (2, utcOfs.toNat)]) n u → 2 ^ 48 ≤ taiSec.toNat →
    exec (.taiSet c taiSec utcOfs) s = .next (u.ends n stBadParam).ended) ∧
  (∀ (c : CmdRef) (amount : BitVec 64) (s u : State) (n : Nat),
    Starts s .d 0x0303 c (pack [(8, amount.toNat)]) n u → -(2 ^ 47 : Int) ≤ amount.toInt →
    amount.toInt < (2 ^ 47 : Int) → u.isGm = true → u.schdActive = false →
    exec (.geysStep c amount) s = .next ((u.gmStepBy amount.toInt).ends n stOk).ended) ∧
  (∀ (c : CmdRef) (amount : BitVec 64) (s u : State) (n : Nat),
    Starts s .d 0x0303 c (pack [(8, amount.toNat)]) n u →
    (amount.toInt < -(2 ^ 47 : Int) ∨ (2 ^ 47 : Int) ≤ amount.toInt) →
    exec (.geysStep c amount) s = .next (u.ends n stBadParam).ended) ∧
  (∀ (c : CmdRef) (amount : BitVec 64) (s u : State) (n : Nat),
    Starts s .d 0x0303 c (pack [(8, amount.toNat)]) n u → -(2 ^ 47 : Int) ≤ amount.toInt →
    amount.toInt < (2 ^ 47 : Int) → (u.isGm = false ∨ u.schdActive = true) →
    exec (.geysStep c amount) s = .next (u.ends n stNotPermitted).ended) ∧
  (∀ (c : CmdRef) (s u : State) (n : Nat),
    Starts s .a 0x0304 c [] n u →
    exec (.geysStatus c) s = .next (u.okay n [(8, u.readReg 0x300008), (4, u.rd R.GEYS_UNC_UNC)]).ended) ∧
  (∀ (c : CmdRef) (s u : State) (n : Nat),
    Starts s .d 0x0305 c [] n u →
    exec (.geysSleep c) s =
      .next (u.okay n [(8, u.rd R.GEYS_SLP_GT_SAVED_GT), (8, u.rd R.GEYS_SLP_AON_ELAPSED + field (u.readReg 0x300070) 48 3 * 2 ^
        48)]).ended)

/-- When the command starts, SCHED_LOAD into a buffer that no active schedule uses reads the image and loads it; SCHED_START of a
valid image with the right hash and lead, no path failure and GEYS LOCKED arms an idle schedule; SCHED_STOP of an active schedule sets
the stop; SCHED_ABORT and SCHED_CLEAR act; SCHED_STATUS answers; SCHED_CFG writes its fields; each ends OK. SCHED_LOAD into a bad
buffer ends BAD_PARAM, into one that runs or is switched to BUSY, and with a failed read it leaves the buffer not valid, raises
DMA_ERR and ends FAILED. SCHED_START with a buffer, hash or start time that fails its row ends BAD_PARAM, with a port that fails the
path check BAD_PARAM and that port, outside LOCKED NOT_PERMITTED, and outside IDLE it plans the switch of R291 or ends BUSY.
SCHED_STOP of an iteration out of range or already begun ends BAD_PARAM, and SCHED_CFG out of range too. (16_command_packets.md Table
16.6; 08_scheduled_traffic.md R284 R286 R287 R289 R311; 16_command_packets.md R595) -/
def Obligations.ScheduleCommandsComplete : Prop :=
  (∀ (c : CmdRef) (buf : BitVec 8) (addr : BitVec 64) (len : BitVec 32) (data : HostRead) (s u : State) (n : Nat) (bs : List Byte),
    Starts s .p 0x0400 c (pack [(1, buf.toNat), (8, addr.toNat), (4, len.toNat)]) n u → buf.toNat ≤ 1 →
    (u.schdActive = false ∨ buf.toNat ≠ u.runBuf ∧ u.schd.switch.any (fun x => x.1 = buf.toNat) = false) →
    data = some bs → bs.length = len.toNat → 0 < len.toNat →
    exec (.schedLoad c buf addr len data) s =
      .next ((((u.setBufValid buf.toNat false).hostRead (cmdReq c addr.toNat) len.toNat).imageLoad n buf.toNat bs)).ended) ∧
  (∀ (c : CmdRef) (buf : BitVec 8) (addr : BitVec 64) (len : BitVec 32) (data : HostRead) (s u : State) (n : Nat),
    Starts s .p 0x0400 c (pack [(1, buf.toNat), (8, addr.toNat), (4, len.toNat)]) n u → 1 < buf.toNat →
    exec (.schedLoad c buf addr len data) s = .next (u.ends n stBadParam).ended) ∧
  (∀ (c : CmdRef) (buf : BitVec 8) (addr : BitVec 64) (len : BitVec 32) (data : HostRead) (s u : State) (n : Nat),
    Starts s .p 0x0400 c (pack [(1, buf.toNat), (8, addr.toNat), (4, len.toNat)]) n u → buf.toNat ≤ 1 →
    u.schdActive = true → (buf.toNat = u.runBuf ∨ u.schd.switch.any (fun x => x.1 = buf.toNat) = true) →
    exec (.schedLoad c buf addr len data) s = .next (u.ends n stBusy).ended) ∧
  (∀ (c : CmdRef) (buf : BitVec 8) (addr : BitVec 64) (len : BitVec 32) (data : HostRead) (s u : State) (n : Nat),
    Starts s .p 0x0400 c (pack [(1, buf.toNat), (8, addr.toNat), (4, len.toNat)]) n u → buf.toNat ≤ 1 →
    (u.schdActive = false ∨ buf.toNat ≠ u.runBuf ∧ u.schd.switch.any (fun x => x.1 = buf.toNat) = false) →
    data = none → 0 < len.toNat →
    exec (.schedLoad c buf addr len data) s =
      .next ((((u.setBufValid buf.toNat false).hostRead (cmdReq c addr.toNat) len.toNat).dmaError (pathFn c.path)).finalReply n stFailed
        []).ended) ∧
  (∀ (c : CmdRef) (buf : BitVec 8) (addr : BitVec 64) (len : BitVec 32) (data : HostRead) (s u : State) (n : Nat),
    Starts s .p 0x0400 c (pack [(1, buf.toNat), (8, addr.toNat), (4, len.toNat)]) n u → buf.toNat ≤ 1 →
    (u.schdActive = false ∨ buf.toNat ≠ u.runBuf ∧ u.schd.switch.any (fun x => x.1 = buf.toNat) = false) →
    data = none → len.toNat = 0 →
    exec (.schedLoad c buf addr len data) s = .next ((u.setBufValid buf.toNat false).imageLoad n buf.toNat []).ended) ∧
  (∀ (c : CmdRef) (buf : BitVec 8) (startGt machHash : BitVec 64) (s u : State) (n : Nat),
    Starts s .d 0x0401 c (pack [(1, buf.toNat), (8, startGt.toNat), (8, machHash.toNat)]) n u →
    buf.toNat ≤ 1 → u.bufValid buf.toNat = true → machHash.toNat = u.imgHash buf.toNat →
    u.gt + 16000 * u.imgFetchLead buf.toNat + max (u.leadOf buf.toNat) 32000 + 1600000 ≤ startGt.toNat →
    startGt.toNat ≤ u.gt + 160000000000 → u.pathFailure buf.toNat = none → u.geysState = gsLocked →
    u.schdState = ssIdle →
    exec (.schedStart c buf startGt machHash) s = .next ((u.armSchedule buf.toNat startGt.toNat).ends n stOk).ended) ∧
  (∀ (c : CmdRef) (buf : BitVec 8) (startGt machHash : BitVec 64) (s u : State) (n : Nat),
    Starts s .d 0x0401 c (pack [(1, buf.toNat), (8, startGt.toNat), (8, machHash.toNat)]) n u →
    (¬ (buf.toNat ≤ 1 ∧ u.bufValid buf.toNat = true ∧ machHash.toNat = u.imgHash buf.toNat ∧ u.gt + 16000 * u.imgFetchLead buf.toNat +
      max (u.leadOf buf.toNat) 32000 + 1600000 ≤ startGt.toNat ∧ startGt.toNat ≤ u.gt + 160000000000)) →
    exec (.schedStart c buf startGt machHash) s = .next (u.ends n stBadParam).ended) ∧
  (∀ (c : CmdRef) (buf : BitVec 8) (startGt machHash : BitVec 64) (s u : State) (n : Nat),
    Starts s .d 0x0401 c (pack [(1, buf.toNat), (8, startGt.toNat), (8, machHash.toNat)]) n u →
    buf.toNat ≤ 1 → u.bufValid buf.toNat = true → machHash.toNat = u.imgHash buf.toNat →
    u.gt + 16000 * u.imgFetchLead buf.toNat + max (u.leadOf buf.toNat) 32000 + 1600000 ≤ startGt.toNat →
    startGt.toNat ≤ u.gt + 160000000000 → u.pathFailure buf.toNat = none → u.geysState ≠ gsLocked →
    exec (.schedStart c buf startGt machHash) s = .next (u.ends n stNotPermitted).ended) ∧
  (∀ (c : CmdRef) (buf : BitVec 8) (startGt machHash : BitVec 64) (s u : State) (n : Nat),
    Starts s .d 0x0401 c (pack [(1, buf.toNat), (8, startGt.toNat), (8, machHash.toNat)]) n u →
    buf.toNat ≤ 1 → u.bufValid buf.toNat = true → machHash.toNat = u.imgHash buf.toNat →
    u.gt + 16000 * u.imgFetchLead buf.toNat + max (u.leadOf buf.toNat) 32000 + 1600000 ≤ startGt.toNat →
    startGt.toNat ≤ u.gt + 160000000000 → u.pathFailure buf.toNat = none → u.geysState = gsLocked →
    u.schdState ≠ ssIdle →
    exec (.schedStart c buf startGt machHash) s =
      .next (if u.isSwitch buf.toNat startGt.toNat then (u.planSwitch buf.toNat startGt.toNat).ends n stOk else u.ends n stBusy).ended) ∧
  (∀ (c : CmdRef) (buf : BitVec 8) (startGt machHash : BitVec 64) (s u : State) (n : Nat) (q : Nat),
    Starts s .d 0x0401 c (pack [(1, buf.toNat), (8, startGt.toNat), (8, machHash.toNat)]) n u →
    buf.toNat ≤ 1 → u.bufValid buf.toNat = true → machHash.toNat = u.imgHash buf.toNat →
    u.gt + 16000 * u.imgFetchLead buf.toNat + max (u.leadOf buf.toNat) 32000 + 1600000 ≤ startGt.toNat →
    startGt.toNat ≤ u.gt + 160000000000 → u.pathFailure buf.toNat = some q →
    exec (.schedStart c buf startGt machHash) s = .next (u.finalReply n stBadParam (pack [(1, q)])).ended) ∧
  (∀ (c : CmdRef) (iter : BitVec 64) (s u : State) (n : Nat),
    Starts s .d 0x0402 c (pack [(8, iter.toNat)]) n u → iter.toNat < 2 ^ 44 → u.schdActive = true →
    (u.schdState ≠ ssRunning ∨ u.iterNow < iter.toNat) →
    exec (.schedStop c iter) s =
      .next (((u.wr R.SCHD_STOP_STOP_ITER iter.toNat).wr R.SCHD_STOP_STOP_EN 1).ends n stOk).ended) ∧
  (∀ (c : CmdRef) (iter : BitVec 64) (s u : State) (n : Nat),
    Starts s .d 0x0402 c (pack [(8, iter.toNat)]) n u → iter.toNat < 2 ^ 44 → u.schdActive = false →
    exec (.schedStop c iter) s = .next (u.ends n stNotPermitted).ended) ∧
  (∀ (c : CmdRef) (iter : BitVec 64) (s u : State) (n : Nat),
    Starts s .d 0x0402 c (pack [(8, iter.toNat)]) n u → 2 ^ 44 ≤ iter.toNat →
    exec (.schedStop c iter) s = .next (u.ends n stBadParam).ended) ∧
  (∀ (c : CmdRef) (iter : BitVec 64) (s u : State) (n : Nat),
    Starts s .d 0x0402 c (pack [(8, iter.toNat)]) n u → iter.toNat < 2 ^ 44 → u.schdState = ssRunning →
    iter.toNat ≤ u.iterNow →
    exec (.schedStop c iter) s = .next (u.ends n stBadParam).ended) ∧
  (∀ (c : CmdRef) (s u : State) (n : Nat),
    Starts s .d 0x0403 c [] n u →
    exec (.schedAbort c) s = .next ((u.abortLocal 0).ends n stOk).ended) ∧
  (∀ (c : CmdRef) (s u : State) (n : Nat),
    Starts s .d 0x0404 c [] n u →
    exec (.schedClear c) s = .next (u.schdClear.ends n stOk).ended) ∧
  (∀ (c : CmdRef) (s u : State) (n : Nat),
    Starts s .a 0x0405 c [] n u →
    exec (.schedStatus c) s =
      .next (u.okay n [(1, u.schdState), (2, u.breachCount), (4, u.rd R.SCHD_IMG_IMAGE_ID), (8, field (u.readReg 0x4000018) 0
        44)]).ended) ∧
  (∀ (c : CmdRef) (fitGuard : BitVec 8) (cutHorizon : BitVec 16) (lateTol abortThr prewarmEn lstepEn lstepLead : BitVec 8) (s u : State)
    (n : Nat),
    Starts s .d 0x0406 c (pack [(1, fitGuard.toNat), (2, cutHorizon.toNat), (1, lateTol.toNat), (1, abortThr.toNat), (1,
      prewarmEn.toNat), (1, lstepEn.toNat), (1, lstepLead.toNat)]) n u →
    (([(R.SCHD_CFG_FIT_GUARD, fitGuard.toNat), (R.SCHD_CFG_CUT_HORIZON, cutHorizon.toNat), (R.SCHD_CFG_LATE_TOL, lateTol.toNat),
      (R.SCHD_CFG_ABORT_THR, abortThr.toNat), (R.SCHD_CFG_PREWARM_EN, prewarmEn.toNat), (R.SCHD_CFG_LSTEP_EN, lstepEn.toNat),
      (R.SCHD_CFG_LSTEP_LEAD, lstepLead.toNat)].all fun x => x.1.allows x.2) = true) →
    exec (.schedCfg c fitGuard cutHorizon lateTol abortThr prewarmEn lstepEn lstepLead) s =
      .next ((u.wrs [(R.SCHD_CFG_FIT_GUARD, fitGuard.toNat), (R.SCHD_CFG_CUT_HORIZON, cutHorizon.toNat), (R.SCHD_CFG_LATE_TOL,
        lateTol.toNat), (R.SCHD_CFG_ABORT_THR, abortThr.toNat), (R.SCHD_CFG_PREWARM_EN, prewarmEn.toNat), (R.SCHD_CFG_LSTEP_EN,
        lstepEn.toNat), (R.SCHD_CFG_LSTEP_LEAD, lstepLead.toNat)]).ends n stOk).ended) ∧
  (∀ (c : CmdRef) (fitGuard : BitVec 8) (cutHorizon : BitVec 16) (lateTol abortThr prewarmEn lstepEn lstepLead : BitVec 8) (s u : State)
    (n : Nat),
    Starts s .d 0x0406 c (pack [(1, fitGuard.toNat), (2, cutHorizon.toNat), (1, lateTol.toNat), (1, abortThr.toNat), (1,
      prewarmEn.toNat), (1, lstepEn.toNat), (1, lstepLead.toNat)]) n u →
    (([(R.SCHD_CFG_FIT_GUARD, fitGuard.toNat), (R.SCHD_CFG_CUT_HORIZON, cutHorizon.toNat), (R.SCHD_CFG_LATE_TOL, lateTol.toNat),
      (R.SCHD_CFG_ABORT_THR, abortThr.toNat), (R.SCHD_CFG_PREWARM_EN, prewarmEn.toNat), (R.SCHD_CFG_LSTEP_EN, lstepEn.toNat),
      (R.SCHD_CFG_LSTEP_LEAD, lstepLead.toNat)].all fun x => x.1.allows x.2) = false) →
    exec (.schedCfg c fitGuard cutHorizon lateTol abortThr prewarmEn lstepEn lstepLead) s =
      .next (u.ends n stBadParam).ended)

/-- When the command starts and its operands pass the checks of its row, QP_CREATE and EQ_CREATE start the walk of their rings,
FUNC_RESET resets the named function (a wedged one ends FAILED, one without work ends OK, else the command waits for the quiesce),
FUNC_STATUS, QP_STATUS, HELD_STATUS and JOB_STATUS answer, HPORT_CFG and POLL_RATE write their fields, JOB_BIND takes a slot and a
table, JOB_RELEASE frees an unused job, RANK_WRITE and RANK_BULK store the entries in the job's table; the direct ones end OK. A
create for a host port the mate serves ends NOT_PERMITTED; one that names a context that is not valid, a vector or ring its row
refuses ends BAD_PARAM, a context of another function NOT_PERMITTED, and QP_CREATE without a free queue pair or doorbell slot
RESOURCE_EXHAUSTED. A VF that names another function and a queue pair of another function end NOT_PERMITTED; JOB_BIND of a bound job
ends BUSY and without a slot or table space RESOURCE_EXHAUSTED; other operands out of range end BAD_PARAM; RANK_BULK whose read fails
raises DMA_ERR and ends FAILED. (16_command_packets.md Table 16.7; 02_grid_and_addressing.md R82; 09_host_attach_and_queues.md R321
R325 R331 R354; 16_command_packets.md R595) -/
def Obligations.HostCommandsComplete : Prop :=
  (∀ (c : CmdRef) (ctx job : BitVec 16) (gen sqLog rqLog cqLog dbMode batchN : BitVec 8) (eq : BitVec 16) (sqBase rqBase cqBase record :
    BitVec 64) (s u : State) (n : Nat) (p : QpParams),
    Starts s .f 0x0500 c (pack [(2, ctx.toNat), (2, job.toNat), (1, gen.toNat), (1, sqLog.toNat), (1, rqLog.toNat), (1, cqLog.toNat),
      (1, dbMode.toNat), (1, batchN.toNat), (2, eq.toNat), (8, sqBase.toNat), (8, rqBase.toNat), (8, cqBase.toNat), (8, record.toNat)])
      n u →
    p = { hport := keyPort (pathFn c.path), func := keyFunc (pathFn c.path), ctx := ctx.toNat, job := job.toNat, gen := gen.toNat, sqLog := sqLog.toNat, rqLog := rqLog.toNat, cqLog := cqLog.toNat, dbMode := dbMode.toNat, batchN := batchN.toNat, eq := eq.toNat, sqBase := sqBase.toNat, rqBase := rqBase.toNat, cqBase := cqBase.toNat, record := record.toNat }
      →
    u.serves (keyPort (pathFn c.path)) = true → (u.ctx ctx.toNat).valid = true →
    fkey (u.ctx ctx.toNat).hport (u.ctx ctx.toNat).func = pathFn c.path →
    (u.eqAt (pathFn c.path) eq.toNat).valid = true → u.qpParamsOk p = true → u.freeQp.isSome = true →
    (u.freeSlot (pathFn c.path)).isSome = true →
    exec (.qpCreate c ctx job gen sqLog rqLog cqLog dbMode batchN eq sqBase rqBase cqBase record) s =
      .next ((u.setWait n (.qpRing p [])).ringWalk n).ended) ∧
  (∀ (c : CmdRef) (ctx job : BitVec 16) (gen sqLog rqLog cqLog dbMode batchN : BitVec 8) (eq : BitVec 16) (sqBase rqBase cqBase record :
    BitVec 64) (s u : State) (n : Nat),
    Starts s .f 0x0500 c (pack [(2, ctx.toNat), (2, job.toNat), (1, gen.toNat), (1, sqLog.toNat), (1, rqLog.toNat), (1, cqLog.toNat),
      (1, dbMode.toNat), (1, batchN.toNat), (2, eq.toNat), (8, sqBase.toNat), (8, rqBase.toNat), (8, cqBase.toNat), (8, record.toNat)])
      n u →
    u.serves (keyPort (pathFn c.path)) = false →
    exec (.qpCreate c ctx job gen sqLog rqLog cqLog dbMode batchN eq sqBase rqBase cqBase record) s =
      .next (u.ends n stNotPermitted).ended) ∧
  (∀ (c : CmdRef) (ctx job : BitVec 16) (gen sqLog rqLog cqLog dbMode batchN : BitVec 8) (eq : BitVec 16) (sqBase rqBase cqBase record :
    BitVec 64) (s u : State) (n : Nat),
    Starts s .f 0x0500 c (pack [(2, ctx.toNat), (2, job.toNat), (1, gen.toNat), (1, sqLog.toNat), (1, rqLog.toNat), (1, cqLog.toNat),
      (1, dbMode.toNat), (1, batchN.toNat), (2, eq.toNat), (8, sqBase.toNat), (8, rqBase.toNat), (8, cqBase.toNat), (8, record.toNat)])
      n u →
    u.serves (keyPort (pathFn c.path)) = true → (u.ctx ctx.toNat).valid = false →
    exec (.qpCreate c ctx job gen sqLog rqLog cqLog dbMode batchN eq sqBase rqBase cqBase record) s =
      .next (u.ends n stBadParam).ended) ∧
  (∀ (c : CmdRef) (ctx job : BitVec 16) (gen sqLog rqLog cqLog dbMode batchN : BitVec 8) (eq : BitVec 16) (sqBase rqBase cqBase record :
    BitVec 64) (s u : State) (n : Nat),
    Starts s .f 0x0500 c (pack [(2, ctx.toNat), (2, job.toNat), (1, gen.toNat), (1, sqLog.toNat), (1, rqLog.toNat), (1, cqLog.toNat),
      (1, dbMode.toNat), (1, batchN.toNat), (2, eq.toNat), (8, sqBase.toNat), (8, rqBase.toNat), (8, cqBase.toNat), (8, record.toNat)])
      n u →
    u.serves (keyPort (pathFn c.path)) = true → (u.ctx ctx.toNat).valid = true →
    fkey (u.ctx ctx.toNat).hport (u.ctx ctx.toNat).func ≠ pathFn c.path →
    exec (.qpCreate c ctx job gen sqLog rqLog cqLog dbMode batchN eq sqBase rqBase cqBase record) s =
      .next (u.ends n stNotPermitted).ended) ∧
  (∀ (c : CmdRef) (ctx job : BitVec 16) (gen sqLog rqLog cqLog dbMode batchN : BitVec 8) (eq : BitVec 16) (sqBase rqBase cqBase record :
    BitVec 64) (s u : State) (n : Nat) (p : QpParams),
    Starts s .f 0x0500 c (pack [(2, ctx.toNat), (2, job.toNat), (1, gen.toNat), (1, sqLog.toNat), (1, rqLog.toNat), (1, cqLog.toNat),
      (1, dbMode.toNat), (1, batchN.toNat), (2, eq.toNat), (8, sqBase.toNat), (8, rqBase.toNat), (8, cqBase.toNat), (8, record.toNat)])
      n u →
    p = { hport := keyPort (pathFn c.path), func := keyFunc (pathFn c.path), ctx := ctx.toNat, job := job.toNat, gen := gen.toNat, sqLog := sqLog.toNat, rqLog := rqLog.toNat, cqLog := cqLog.toNat, dbMode := dbMode.toNat, batchN := batchN.toNat, eq := eq.toNat, sqBase := sqBase.toNat, rqBase := rqBase.toNat, cqBase := cqBase.toNat, record := record.toNat }
      →
    u.serves (keyPort (pathFn c.path)) = true → (u.ctx ctx.toNat).valid = true →
    fkey (u.ctx ctx.toNat).hport (u.ctx ctx.toNat).func = pathFn c.path →
    ((u.eqAt (pathFn c.path) eq.toNat).valid = false ∨ u.qpParamsOk p = false) →
    exec (.qpCreate c ctx job gen sqLog rqLog cqLog dbMode batchN eq sqBase rqBase cqBase record) s =
      .next (u.ends n stBadParam).ended) ∧
  (∀ (c : CmdRef) (ctx job : BitVec 16) (gen sqLog rqLog cqLog dbMode batchN : BitVec 8) (eq : BitVec 16) (sqBase rqBase cqBase record :
    BitVec 64) (s u : State) (n : Nat) (p : QpParams),
    Starts s .f 0x0500 c (pack [(2, ctx.toNat), (2, job.toNat), (1, gen.toNat), (1, sqLog.toNat), (1, rqLog.toNat), (1, cqLog.toNat),
      (1, dbMode.toNat), (1, batchN.toNat), (2, eq.toNat), (8, sqBase.toNat), (8, rqBase.toNat), (8, cqBase.toNat), (8, record.toNat)])
      n u →
    p = { hport := keyPort (pathFn c.path), func := keyFunc (pathFn c.path), ctx := ctx.toNat, job := job.toNat, gen := gen.toNat, sqLog := sqLog.toNat, rqLog := rqLog.toNat, cqLog := cqLog.toNat, dbMode := dbMode.toNat, batchN := batchN.toNat, eq := eq.toNat, sqBase := sqBase.toNat, rqBase := rqBase.toNat, cqBase := cqBase.toNat, record := record.toNat }
      →
    u.serves (keyPort (pathFn c.path)) = true → (u.ctx ctx.toNat).valid = true →
    fkey (u.ctx ctx.toNat).hport (u.ctx ctx.toNat).func = pathFn c.path →
    (u.eqAt (pathFn c.path) eq.toNat).valid = true → u.qpParamsOk p = true →
    (u.freeQp.isNone = true ∨ (u.freeSlot (pathFn c.path)).isNone = true) →
    exec (.qpCreate c ctx job gen sqLog rqLog cqLog dbMode batchN eq sqBase rqBase cqBase record) s =
      .next (u.ends n stExhausted).ended) ∧
  (∀ (c : CmdRef) (ctx vec : BitVec 16) (log : BitVec 8) (base : BitVec 64) (s u : State) (n : Nat) (p : EqParams),
    Starts s .f 0x0501 c (pack [(2, ctx.toNat), (2, vec.toNat), (1, log.toNat), (8, base.toNat)]) n u →
    p = { hport := keyPort (pathFn c.path), func := keyFunc (pathFn c.path), ctx := ctx.toNat, vec := vec.toNat, log := log.toNat, base := base.toNat }
      →
    u.serves (keyPort (pathFn c.path)) = true → (u.ctx ctx.toNat).valid = true →
    fkey (u.ctx ctx.toNat).hport (u.ctx ctx.toNat).func = pathFn c.path →
    vec.toNat < maxVec (pathFn c.path) → (u.eqAt (pathFn c.path) vec.toNat).valid = false →
    ringLog log.toNat = true → pageAligned base.toNat = true →
    exec (.eqCreate c ctx vec log base) s = .next ((u.setWait n (.eqRing p [])).ringWalk n).ended) ∧
  (∀ (c : CmdRef) (ctx vec : BitVec 16) (log : BitVec 8) (base : BitVec 64) (s u : State) (n : Nat),
    Starts s .f 0x0501 c (pack [(2, ctx.toNat), (2, vec.toNat), (1, log.toNat), (8, base.toNat)]) n u →
    u.serves (keyPort (pathFn c.path)) = false →
    exec (.eqCreate c ctx vec log base) s = .next (u.ends n stNotPermitted).ended) ∧
  (∀ (c : CmdRef) (ctx vec : BitVec 16) (log : BitVec 8) (base : BitVec 64) (s u : State) (n : Nat),
    Starts s .f 0x0501 c (pack [(2, ctx.toNat), (2, vec.toNat), (1, log.toNat), (8, base.toNat)]) n u →
    u.serves (keyPort (pathFn c.path)) = true → (u.ctx ctx.toNat).valid = false →
    exec (.eqCreate c ctx vec log base) s = .next (u.ends n stBadParam).ended) ∧
  (∀ (c : CmdRef) (ctx vec : BitVec 16) (log : BitVec 8) (base : BitVec 64) (s u : State) (n : Nat),
    Starts s .f 0x0501 c (pack [(2, ctx.toNat), (2, vec.toNat), (1, log.toNat), (8, base.toNat)]) n u →
    u.serves (keyPort (pathFn c.path)) = true → (u.ctx ctx.toNat).valid = true →
    fkey (u.ctx ctx.toNat).hport (u.ctx ctx.toNat).func ≠ pathFn c.path →
    exec (.eqCreate c ctx vec log base) s = .next (u.ends n stNotPermitted).ended) ∧
  (∀ (c : CmdRef) (ctx vec : BitVec 16) (log : BitVec 8) (base : BitVec 64) (s u : State) (n : Nat),
    Starts s .f 0x0501 c (pack [(2, ctx.toNat), (2, vec.toNat), (1, log.toNat), (8, base.toNat)]) n u →
    u.serves (keyPort (pathFn c.path)) = true → (u.ctx ctx.toNat).valid = true →
    fkey (u.ctx ctx.toNat).hport (u.ctx ctx.toNat).func = pathFn c.path →
    (maxVec (pathFn c.path) ≤ vec.toNat ∨ (u.eqAt (pathFn c.path) vec.toNat).valid = true ∨ ringLog log.toNat = false ∨ pageAligned
      base.toNat = false) →
    exec (.eqCreate c ctx vec log base) s = .next (u.ends n stBadParam).ended) ∧
  (∀ (c : CmdRef) (func : BitVec 8) (s u : State) (n : Nat) (k : Nat) (v : State),
    Starts s .f 0x0502 c (pack [(1, func.toNat)]) n u → func.toNat ≤ 63 →
    (func.toNat = keyFunc (pathFn c.path) ∨ keyFunc (pathFn c.path) = 0) →
    k = fkey (keyPort (pathFn c.path)) func.toNat → v = (u.setWait n (.funcReset k)).fnReset k →
    exec (.funcReset c func) s =
      .next (if u.fnState k = fsWedged then v.ends n stFailed else if v.fnState k = fsQuiescing then v else v.ends n stOk).ended) ∧
  (∀ (c : CmdRef) (func : BitVec 8) (s u : State) (n : Nat),
    Starts s .f 0x0502 c (pack [(1, func.toNat)]) n u → 63 < func.toNat →
    exec (.funcReset c func) s = .next (u.ends n stBadParam).ended) ∧
  (∀ (c : CmdRef) (func : BitVec 8) (s u : State) (n : Nat),
    Starts s .f 0x0502 c (pack [(1, func.toNat)]) n u → func.toNat ≤ 63 →
    func.toNat ≠ keyFunc (pathFn c.path) → keyFunc (pathFn c.path) ≠ 0 →
    exec (.funcReset c func) s = .next (u.ends n stNotPermitted).ended) ∧
  (∀ (c : CmdRef) (func : BitVec 8) (s u : State) (n : Nat),
    Starts s .f 0x0503 c (pack [(1, func.toNat)]) n u → func.toNat ≤ 63 →
    (func.toNat = keyFunc (pathFn c.path) ∨ keyFunc (pathFn c.path) = 0) →
    exec (.funcStatus c func) s = .next (u.okay n [(8, u.readBar0 (fkey (keyPort (pathFn c.path)) func.toNat) 8)]).ended) ∧
  (∀ (c : CmdRef) (func : BitVec 8) (s u : State) (n : Nat),
    Starts s .f 0x0503 c (pack [(1, func.toNat)]) n u → 63 < func.toNat →
    exec (.funcStatus c func) s = .next (u.ends n stBadParam).ended) ∧
  (∀ (c : CmdRef) (func : BitVec 8) (s u : State) (n : Nat),
    Starts s .f 0x0503 c (pack [(1, func.toNat)]) n u → func.toNat ≤ 63 →
    func.toNat ≠ keyFunc (pathFn c.path) → keyFunc (pathFn c.path) ≠ 0 →
    exec (.funcStatus c func) s = .next (u.ends n stNotPermitted).ended) ∧
  (∀ (c : CmdRef) (qidx : BitVec 32) (s u : State) (n : Nat),
    Starts s .f 0x0504 c (pack [(4, qidx.toNat)]) n u → (u.qp qidx.toNat).valid = true →
    (u.qp qidx.toNat).func = pathFn c.path →
    exec (.qpStatus c qidx) s =
      .next (u.okay n [(8, (u.qp qidx.toNat).stateWord), (4, (u.qp qidx.toNat).sqCi), (4, (u.qp qidx.toNat).cqPi)]).ended) ∧
  (∀ (c : CmdRef) (qidx : BitVec 32) (s u : State) (n : Nat),
    Starts s .f 0x0504 c (pack [(4, qidx.toNat)]) n u → (u.qp qidx.toNat).valid = false →
    exec (.qpStatus c qidx) s = .next (u.ends n stBadParam).ended) ∧
  (∀ (c : CmdRef) (qidx : BitVec 32) (s u : State) (n : Nat),
    Starts s .f 0x0504 c (pack [(4, qidx.toNat)]) n u → (u.qp qidx.toNat).valid = true →
    (u.qp qidx.toNat).func ≠ pathFn c.path →
    exec (.qpStatus c qidx) s = .next (u.ends n stNotPermitted).ended) ∧
  (∀ (c : CmdRef) (s u : State) (n : Nat),
    Starts s .p 0x0505 c [] n u →
    exec (.heldStatus c) s = .next (u.okay n [(4, u.heldUsed)]).ended) ∧
  (∀ (c : CmdRef) (cxlEn : BitVec 8) (s u : State) (n : Nat),
    Starts s .p 0x0506 c (pack [(1, cxlEn.toNat)]) n u → cxlEn.toNat ≤ 1 →
    exec (.hportCfg c cxlEn) s = .next ((u.wr R.HIF_PORT_CFG_CXL_EN cxlEn.toNat (pathPort c.path)).ends n stOk).ended) ∧
  (∀ (c : CmdRef) (cxlEn : BitVec 8) (s u : State) (n : Nat),
    Starts s .p 0x0506 c (pack [(1, cxlEn.toNat)]) n u → 1 < cxlEn.toNat →
    exec (.hportCfg c cxlEn) s = .next (u.ends n stBadParam).ended) ∧
  (∀ (c : CmdRef) (rate : BitVec 8) (s u : State) (n : Nat),
    Starts s .d 0x0507 c (pack [(1, rate.toNat)]) n u → R.QUE_CFG_POLL_RATE.allows rate.toNat = true →
    exec (.pollRate c rate) s = .next ((u.wr R.QUE_CFG_POLL_RATE rate.toNat).ends n stOk).ended) ∧
  (∀ (c : CmdRef) (rate : BitVec 8) (s u : State) (n : Nat),
    Starts s .d 0x0507 c (pack [(1, rate.toNat)]) n u → R.QUE_CFG_POLL_RATE.allows rate.toNat = false →
    exec (.pollRate c rate) s = .next (u.ends n stBadParam).ended) ∧
  (∀ (c : CmdRef) (job : BitVec 16) (ranks : BitVec 32) (s u : State) (n : Nat) (slot mib : Nat),
    Starts s .d 0x0508 c (pack [(2, job.toNat), (4, ranks.toNat)]) n u → job.toNat ≠ 0 → 1 ≤ ranks.toNat →
    ranks.toNat ≤ 16777216 → u.jobBound job.toNat = false → u.freeJobSlot = some slot →
    freeRun u.tableRuns 0 (u.regionSize 7 / 2 ^ 20) (tableMib ranks.toNat) = some mib →
    exec (.jobBind c job ranks) s =
      .next ((u.bindJob job.toNat ranks.toNat slot mib).okay n [(1, (u.bindJob job.toNat ranks.toNat slot mib).jobGenOf job.toNat), (8,
        tget 0 (u.bindJob job.toNat ranks.toNat slot mib).host.jobTable job.toNat)]).ended) ∧
  (∀ (c : CmdRef) (job : BitVec 16) (ranks : BitVec 32) (s u : State) (n : Nat),
    Starts s .d 0x0508 c (pack [(2, job.toNat), (4, ranks.toNat)]) n u →
    (job.toNat = 0 ∨ ranks.toNat < 1 ∨ 16777216 < ranks.toNat) →
    exec (.jobBind c job ranks) s = .next (u.ends n stBadParam).ended) ∧
  (∀ (c : CmdRef) (job : BitVec 16) (ranks : BitVec 32) (s u : State) (n : Nat),
    Starts s .d 0x0508 c (pack [(2, job.toNat), (4, ranks.toNat)]) n u → job.toNat ≠ 0 → 1 ≤ ranks.toNat →
    ranks.toNat ≤ 16777216 → u.jobBound job.toNat = true →
    exec (.jobBind c job ranks) s = .next (u.ends n stBusy).ended) ∧
  (∀ (c : CmdRef) (job : BitVec 16) (ranks : BitVec 32) (s u : State) (n : Nat),
    Starts s .d 0x0508 c (pack [(2, job.toNat), (4, ranks.toNat)]) n u → job.toNat ≠ 0 → 1 ≤ ranks.toNat →
    ranks.toNat ≤ 16777216 → u.jobBound job.toNat = false →
    (u.freeJobSlot = none ∨ freeRun u.tableRuns 0 (u.regionSize 7 / 2 ^ 20) (tableMib ranks.toNat) = none) →
    exec (.jobBind c job ranks) s = .next (u.ends n stExhausted).ended) ∧
  (∀ (c : CmdRef) (job : BitVec 16) (gen : BitVec 8) (s u : State) (n : Nat),
    Starts s .d 0x0509 c (pack [(2, job.toNat), (1, gen.toNat)]) n u → u.jobIs job.toNat gen.toNat = true →
    u.jobInUse job.toNat = false →
    exec (.jobRelease c job gen) s =
      .next (({ u with host := { u.host with jobSlot := tput 0 u.host.jobSlot job.toNat 0, jobRanks := tput 0 u.host.jobRanks job.toNat 0, jobTable := tput 0 u.host.jobTable job.toNat 0 } }
        : State).ends n stOk).ended) ∧
  (∀ (c : CmdRef) (job : BitVec 16) (gen : BitVec 8) (s u : State) (n : Nat),
    Starts s .d 0x0509 c (pack [(2, job.toNat), (1, gen.toNat)]) n u → u.jobIs job.toNat gen.toNat = true →
    u.jobInUse job.toNat = true →
    exec (.jobRelease c job gen) s = .next (u.ends n stBusy).ended) ∧
  (∀ (c : CmdRef) (job : BitVec 16) (gen : BitVec 8) (s u : State) (n : Nat),
    Starts s .d 0x0509 c (pack [(2, job.toNat), (1, gen.toNat)]) n u →
    u.jobIs job.toNat gen.toNat = false →
    exec (.jobRelease c job gen) s = .next (u.ends n stBadParam).ended) ∧
  (∀ (c : CmdRef) (job : BitVec 16) (gen : BitVec 8) (rank : BitVec 32) (entry : BitVec 64) (s u : State) (n : Nat),
    Starts s .d 0x050A c (pack [(2, job.toNat), (1, gen.toNat), (4, rank.toNat), (8, entry.toNat)]) n u →
    u.jobIs job.toNat gen.toNat = true → rank.toNat < tget 0 u.host.jobRanks job.toNat →
    u.rankEntryOk entry.toNat = true →
    exec (.rankWrite c job gen rank entry) s =
      .next ((u.hbmStore (tget 0 u.host.jobTable job.toNat + 8 * rank.toNat) (toBytes 8 entry.toNat)).ends n stOk).ended) ∧
  (∀ (c : CmdRef) (job : BitVec 16) (gen : BitVec 8) (rank : BitVec 32) (entry : BitVec 64) (s u : State) (n : Nat),
    Starts s .d 0x050A c (pack [(2, job.toNat), (1, gen.toNat), (4, rank.toNat), (8, entry.toNat)]) n u →
    (u.jobIs job.toNat gen.toNat = false ∨ tget 0 u.host.jobRanks job.toNat ≤ rank.toNat ∨ u.rankEntryOk entry.toNat = false) →
    exec (.rankWrite c job gen rank entry) s = .next (u.ends n stBadParam).ended) ∧
  (∀ (c : CmdRef) (job : BitVec 16) (gen : BitVec 8) (first count : BitVec 32) (addr : BitVec 64) (data : HostRead) (s u : State) (n :
    Nat) (bs : List Byte) (v : State),
    Starts s .p 0x050B c (pack [(2, job.toNat), (1, gen.toNat), (4, first.toNat), (4, count.toNat), (8, addr.toNat)]) n u →
    u.jobIs job.toNat gen.toNat = true → first.toNat + count.toNat ≤ tget 0 u.host.jobRanks job.toNat →
    0 < count.toNat → data = some bs → bs.length = 8 * count.toNat →
    v = u.hostRead (cmdReq c addr.toNat) (8 * count.toNat) →
    (words8 count.toNat bs).all v.rankEntryOk = true →
    exec (.rankBulk c job gen first count addr data) s =
      .next ((v.hbmStore (tget 0 v.host.jobTable job.toNat + 8 * first.toNat) bs).ends n stOk).ended) ∧
  (∀ (c : CmdRef) (job : BitVec 16) (gen : BitVec 8) (first count : BitVec 32) (addr : BitVec 64) (data : HostRead) (s u : State) (n :
    Nat),
    Starts s .p 0x050B c (pack [(2, job.toNat), (1, gen.toNat), (4, first.toNat), (4, count.toNat), (8, addr.toNat)]) n u →
    (u.jobIs job.toNat gen.toNat = false ∨ tget 0 u.host.jobRanks job.toNat < first.toNat + count.toNat) →
    exec (.rankBulk c job gen first count addr data) s = .next (u.ends n stBadParam).ended) ∧
  (∀ (c : CmdRef) (job : BitVec 16) (gen : BitVec 8) (first count : BitVec 32) (addr : BitVec 64) (data : HostRead) (s u : State) (n :
    Nat),
    Starts s .p 0x050B c (pack [(2, job.toNat), (1, gen.toNat), (4, first.toNat), (4, count.toNat), (8, addr.toNat)]) n u →
    u.jobIs job.toNat gen.toNat = true → first.toNat + count.toNat ≤ tget 0 u.host.jobRanks job.toNat →
    0 < count.toNat → data = none →
    exec (.rankBulk c job gen first count addr data) s =
      .next (((u.hostRead (cmdReq c addr.toNat) (8 * count.toNat)).dmaError (pathFn c.path)).finalReply n stFailed []).ended) ∧
  (∀ (c : CmdRef) (job : BitVec 16) (gen : BitVec 8) (first count : BitVec 32) (addr : BitVec 64) (data : HostRead) (s u : State) (n :
    Nat),
    Starts s .p 0x050B c (pack [(2, job.toNat), (1, gen.toNat), (4, first.toNat), (4, count.toNat), (8, addr.toNat)]) n u →
    u.jobIs job.toNat gen.toNat = true → first.toNat + count.toNat ≤ tget 0 u.host.jobRanks job.toNat →
    count.toNat = 0 → data = none →
    exec (.rankBulk c job gen first count addr data) s =
      .next ((u.hbmStore (tget 0 u.host.jobTable job.toNat + 8 * first.toNat) []).ends n stOk).ended) ∧
  (∀ (c : CmdRef) (job : BitVec 16) (gen : BitVec 8) (first count : BitVec 32) (addr : BitVec 64) (data : HostRead) (s u : State) (n :
    Nat) (bs : List Byte) (v : State),
    Starts s .p 0x050B c (pack [(2, job.toNat), (1, gen.toNat), (4, first.toNat), (4, count.toNat), (8, addr.toNat)]) n u →
    u.jobIs job.toNat gen.toNat = true → first.toNat + count.toNat ≤ tget 0 u.host.jobRanks job.toNat →
    0 < count.toNat → data = some bs → bs.length = 8 * count.toNat →
    v = u.hostRead (cmdReq c addr.toNat) (8 * count.toNat) →
    (words8 count.toNat bs).all v.rankEntryOk = false →
    exec (.rankBulk c job gen first count addr data) s = .next (v.ends n stBadParam).ended) ∧
  (∀ (c : CmdRef) (job : BitVec 16) (s u : State) (n : Nat),
    Starts s .d 0x050C c (pack [(2, job.toNat)]) n u → u.jobBound job.toNat = true →
    exec (.jobStatus c job) s =
      .next (u.okay n [(1, u.jobGenOf job.toNat), (2, tget 0 u.host.jobSlot job.toNat - 1), (4, tget 0 u.host.jobRanks job.toNat), (8,
        tget 0 u.host.jobTable job.toNat)]).ended) ∧
  (∀ (c : CmdRef) (job : BitVec 16) (s u : State) (n : Nat),
    Starts s .d 0x050C c (pack [(2, job.toNat)]) n u → u.jobBound job.toNat = false →
    exec (.jobStatus c job) s = .next (u.ends n stBadParam).ended)

/-- When the command starts and its operands pass the checks of its row, CTX_CREATE fills a free context and answers its index after
the mirror record, CTX_RELEASE of an unused context and INVALIDATE are accepted as invalidations and answered at their end,
PARK_RESOLVE resumes or fails the parked access, WALK_RANGE and XLT_TIMERS write their fields, CTX_STATUS answers; each direct one
ends OK. Operands a row refuses, a context that is not valid and a park slot that is free or of another PARK_GEN end BAD_PARAM; a
context or parked access of another function, a SUPERVISOR context or a global invalidation of a VF, a create for a host port the mate
serves or a function that is not ENABLED ends NOT_PERMITTED; a context in use ends CTX_RELEASE BUSY, sixteen basic invalidations under
way end INVALIDATE BUSY, and without a free context CTX_CREATE ends RESOURCE_EXHAUSTED. (16_command_packets.md Table 16.7;
10_translation.md R364 R365 R379 R386 R393; 16_command_packets.md R595) -/
def Obligations.TranslationCommandsComplete : Prop :=
  (∀ (c : CmdRef) (levels priv supDataU amEn parkEn : BitVec 8) (pasid : BitVec 32) (root : BitVec 64) (s u : State) (n : Nat) (i : Nat)
    (x : CtxFields),
    Starts s .f 0x0600 c (pack [(1, levels.toNat), (1, priv.toNat), (1, supDataU.toNat), (1, amEn.toNat), (1, parkEn.toNat), (4,
      pasid.toNat), (8, root.toNat)]) n u →
    (keyFunc (pathFn c.path) = 0 ∨ priv.toNat = 0) → levels.toNat ≤ 2 → root.toNat % 4096 = 0 →
    root.toNat < 2 ^ 52 → u.inWalkRange (keyPort (pathFn c.path)) root.toNat = true →
    (amEn.toNat = 0 ∨ (u.func (pathFn c.path)).cfg.atomicEn = true) → priv.toNat ≤ 1 → supDataU.toNat ≤ 1 →
    amEn.toNat ≤ 1 → parkEn.toNat ≤ 1 → pasid.toNat < 2 ^ 20 → u.freeCtx = some i →
    u.fnState (pathFn c.path) = fsEnabled → u.serves (keyPort (pathFn c.path)) = true →
    x = { valid := true, hport := keyPort (pathFn c.path), func := keyFunc (pathFn c.path), pasid := pasid.toNat, levels := levels.toNat, root := root.toNat / 4096, priv := priv.toNat = 1, supDataU := supDataU.toNat = 1, amEn := amEn.toNat = 1, parkEn := parkEn.toNat = 1 }
      →
    exec (.ctxCreate c levels priv supDataU amEn parkEn pasid root) s =
      .next (((u.setCtx i x).mirror (.ctx i x)).2.replyAfter ((u.setCtx i x).mirror (.ctx i x)).1 n stOk (pack [(2, i)])).ended) ∧
  (∀ (c : CmdRef) (levels priv supDataU amEn parkEn : BitVec 8) (pasid : BitVec 32) (root : BitVec 64) (s u : State) (n : Nat),
    Starts s .f 0x0600 c (pack [(1, levels.toNat), (1, priv.toNat), (1, supDataU.toNat), (1, amEn.toNat), (1, parkEn.toNat), (4,
      pasid.toNat), (8, root.toNat)]) n u →
    u.serves (keyPort (pathFn c.path)) = false →
    exec (.ctxCreate c levels priv supDataU amEn parkEn pasid root) s = .next (u.ends n stNotPermitted).ended) ∧
  (∀ (c : CmdRef) (levels priv supDataU amEn parkEn : BitVec 8) (pasid : BitVec 32) (root : BitVec 64) (s u : State) (n : Nat),
    Starts s .f 0x0600 c (pack [(1, levels.toNat), (1, priv.toNat), (1, supDataU.toNat), (1, amEn.toNat), (1, parkEn.toNat), (4,
      pasid.toNat), (8, root.toNat)]) n u →
    u.serves (keyPort (pathFn c.path)) = true → keyFunc (pathFn c.path) ≠ 0 → priv.toNat ≠ 0 →
    exec (.ctxCreate c levels priv supDataU amEn parkEn pasid root) s = .next (u.ends n stNotPermitted).ended) ∧
  (∀ (c : CmdRef) (levels priv supDataU amEn parkEn : BitVec 8) (pasid : BitVec 32) (root : BitVec 64) (s u : State) (n : Nat),
    Starts s .f 0x0600 c (pack [(1, levels.toNat), (1, priv.toNat), (1, supDataU.toNat), (1, amEn.toNat), (1, parkEn.toNat), (4,
      pasid.toNat), (8, root.toNat)]) n u →
    u.serves (keyPort (pathFn c.path)) = true → (keyFunc (pathFn c.path) = 0 ∨ priv.toNat = 0) →
    (¬ (levels.toNat ≤ 2 ∧ root.toNat % 4096 = 0 ∧ root.toNat < 2 ^ 52 ∧ u.inWalkRange (keyPort (pathFn c.path)) root.toNat = true ∧
      (amEn.toNat = 0 ∨ (u.func (pathFn c.path)).cfg.atomicEn = true) ∧ priv.toNat ≤ 1 ∧ supDataU.toNat ≤ 1 ∧ amEn.toNat ≤ 1 ∧
      parkEn.toNat ≤ 1 ∧ pasid.toNat < 2 ^ 20)) →
    exec (.ctxCreate c levels priv supDataU amEn parkEn pasid root) s = .next (u.ends n stBadParam).ended) ∧
  (∀ (c : CmdRef) (levels priv supDataU amEn parkEn : BitVec 8) (pasid : BitVec 32) (root : BitVec 64) (s u : State) (n : Nat),
    Starts s .f 0x0600 c (pack [(1, levels.toNat), (1, priv.toNat), (1, supDataU.toNat), (1, amEn.toNat), (1, parkEn.toNat), (4,
      pasid.toNat), (8, root.toNat)]) n u →
    u.serves (keyPort (pathFn c.path)) = true → (keyFunc (pathFn c.path) = 0 ∨ priv.toNat = 0) →
    levels.toNat ≤ 2 → root.toNat % 4096 = 0 → root.toNat < 2 ^ 52 →
    u.inWalkRange (keyPort (pathFn c.path)) root.toNat = true →
    ((amEn.toNat = 0 ∨ (u.func (pathFn c.path)).cfg.atomicEn = true)) → priv.toNat ≤ 1 →
    supDataU.toNat ≤ 1 → amEn.toNat ≤ 1 → parkEn.toNat ≤ 1 → pasid.toNat < 2 ^ 20 → u.freeCtx = none →
    exec (.ctxCreate c levels priv supDataU amEn parkEn pasid root) s = .next (u.ends n stExhausted).ended) ∧
  (∀ (c : CmdRef) (levels priv supDataU amEn parkEn : BitVec 8) (pasid : BitVec 32) (root : BitVec 64) (s u : State) (n : Nat) (i :
    Nat),
    Starts s .f 0x0600 c (pack [(1, levels.toNat), (1, priv.toNat), (1, supDataU.toNat), (1, amEn.toNat), (1, parkEn.toNat), (4,
      pasid.toNat), (8, root.toNat)]) n u →
    u.serves (keyPort (pathFn c.path)) = true → (keyFunc (pathFn c.path) = 0 ∨ priv.toNat = 0) →
    levels.toNat ≤ 2 → root.toNat % 4096 = 0 → root.toNat < 2 ^ 52 →
    u.inWalkRange (keyPort (pathFn c.path)) root.toNat = true →
    ((amEn.toNat = 0 ∨ (u.func (pathFn c.path)).cfg.atomicEn = true)) → priv.toNat ≤ 1 →
    supDataU.toNat ≤ 1 → amEn.toNat ≤ 1 → parkEn.toNat ≤ 1 → pasid.toNat < 2 ^ 20 → u.freeCtx = some i →
    u.fnState (pathFn c.path) ≠ fsEnabled →
    exec (.ctxCreate c levels priv supDataU amEn parkEn pasid root) s = .next (u.ends n stNotPermitted).ended) ∧
  (∀ (c : CmdRef) (ctx : BitVec 16) (s u : State) (n : Nat),
    Starts s .f 0x0601 c (pack [(2, ctx.toNat)]) n u → (u.ctx ctx.toNat).valid = true →
    fkey (u.ctx ctx.toNat).hport (u.ctx ctx.toNat).func = pathFn c.path → u.ctxInUse ctx.toNat = false →
    (u.cmd.started.any (fun x => x.wait = .ctxRelease ctx.toNat) = false) →
    exec (.ctxRelease c ctx) s =
      .next ((u.setWait n (.ctxRelease ctx.toNat)).invalAccept { scope := .ctx, ctx := ctx.toNat, va := 0, pages := 0, src := .cmd n, upto := u.host.dma }
        true).ended) ∧
  (∀ (c : CmdRef) (ctx : BitVec 16) (s u : State) (n : Nat),
    Starts s .f 0x0601 c (pack [(2, ctx.toNat)]) n u → (u.ctx ctx.toNat).valid = false →
    exec (.ctxRelease c ctx) s = .next (u.ends n stBadParam).ended) ∧
  (∀ (c : CmdRef) (ctx : BitVec 16) (s u : State) (n : Nat),
    Starts s .f 0x0601 c (pack [(2, ctx.toNat)]) n u → (u.ctx ctx.toNat).valid = true →
    fkey (u.ctx ctx.toNat).hport (u.ctx ctx.toNat).func ≠ pathFn c.path →
    exec (.ctxRelease c ctx) s = .next (u.ends n stNotPermitted).ended) ∧
  (∀ (c : CmdRef) (ctx : BitVec 16) (s u : State) (n : Nat),
    Starts s .f 0x0601 c (pack [(2, ctx.toNat)]) n u → (u.ctx ctx.toNat).valid = true →
    fkey (u.ctx ctx.toNat).hport (u.ctx ctx.toNat).func = pathFn c.path →
    (u.ctxInUse ctx.toNat = true ∨ u.cmd.started.any (fun x => x.wait = .ctxRelease ctx.toNat) = true) →
    exec (.ctxRelease c ctx) s = .next (u.ends n stBusy).ended) ∧
  (∀ (c : CmdRef) (scope wc : BitVec 8) (ctx : BitVec 16) (pages : BitVec 32) (va : BitVec 64) (s u : State) (n : Nat),
    Starts s .f 0x0602 c (pack [(1, scope.toNat), (1, wc.toNat), (2, ctx.toNat), (4, pages.toNat), (8, va.toNat)]) n u →
    scope.toNat < 3 → (u.ctx ctx.toNat).valid = true →
    fkey (u.ctx ctx.toNat).hport (u.ctx ctx.toNat).func = pathFn c.path → wc.toNat ≤ 1 →
    (scope.toNat ≠ 0 ∨ pages.toNat ≠ 0) → u.basicInvals < 16 →
    exec (.invalidate c scope wc ctx pages va) s =
      .next ((u.setWait n .invalidate).invalAccept { scope := scopeOf scope.toNat, ctx := ctx.toNat, va := va.toNat, pages := pages.toNat, src := .cmd n, upto := u.host.dma }
        (wc.toNat = 1)).ended) ∧
  (∀ (c : CmdRef) (scope wc : BitVec 8) (ctx : BitVec 16) (pages : BitVec 32) (va : BitVec 64) (s u : State) (n : Nat),
    Starts s .f 0x0602 c (pack [(1, scope.toNat), (1, wc.toNat), (2, ctx.toNat), (4, pages.toNat), (8, va.toNat)]) n u →
    scope.toNat = 3 → keyFunc (pathFn c.path) = 0 → wc.toNat ≤ 1 → u.basicInvals < 16 →
    exec (.invalidate c scope wc ctx pages va) s =
      .next ((u.setWait n .invalidate).invalAccept { scope := scopeOf scope.toNat, ctx := ctx.toNat, va := va.toNat, pages := pages.toNat, src := .cmd n, upto := u.host.dma }
        (wc.toNat = 1)).ended) ∧
  (∀ (c : CmdRef) (scope wc : BitVec 8) (ctx : BitVec 16) (pages : BitVec 32) (va : BitVec 64) (s u : State) (n : Nat),
    Starts s .f 0x0602 c (pack [(1, scope.toNat), (1, wc.toNat), (2, ctx.toNat), (4, pages.toNat), (8, va.toNat)]) n u →
    scope.toNat ≠ 3 → (u.ctx ctx.toNat).valid = false →
    exec (.invalidate c scope wc ctx pages va) s = .next (u.ends n stBadParam).ended) ∧
  (∀ (c : CmdRef) (scope wc : BitVec 8) (ctx : BitVec 16) (pages : BitVec 32) (va : BitVec 64) (s u : State) (n : Nat),
    Starts s .f 0x0602 c (pack [(1, scope.toNat), (1, wc.toNat), (2, ctx.toNat), (4, pages.toNat), (8, va.toNat)]) n u →
    scope.toNat ≠ 3 → (u.ctx ctx.toNat).valid = true →
    fkey (u.ctx ctx.toNat).hport (u.ctx ctx.toNat).func ≠ pathFn c.path →
    exec (.invalidate c scope wc ctx pages va) s = .next (u.ends n stNotPermitted).ended) ∧
  (∀ (c : CmdRef) (scope wc : BitVec 8) (ctx : BitVec 16) (pages : BitVec 32) (va : BitVec 64) (s u : State) (n : Nat),
    Starts s .f 0x0602 c (pack [(1, scope.toNat), (1, wc.toNat), (2, ctx.toNat), (4, pages.toNat), (8, va.toNat)]) n u →
    scope.toNat ≠ 3 → (u.ctx ctx.toNat).valid = true →
    fkey (u.ctx ctx.toNat).hport (u.ctx ctx.toNat).func = pathFn c.path →
    (3 < scope.toNat ∨ 1 < wc.toNat ∨ scope.toNat = 0 ∧ pages.toNat = 0) →
    exec (.invalidate c scope wc ctx pages va) s = .next (u.ends n stBadParam).ended) ∧
  (∀ (c : CmdRef) (scope wc : BitVec 8) (ctx : BitVec 16) (pages : BitVec 32) (va : BitVec 64) (s u : State) (n : Nat),
    Starts s .f 0x0602 c (pack [(1, scope.toNat), (1, wc.toNat), (2, ctx.toNat), (4, pages.toNat), (8, va.toNat)]) n u →
    scope.toNat = 3 → 1 < wc.toNat →
    exec (.invalidate c scope wc ctx pages va) s = .next (u.ends n stBadParam).ended) ∧
  (∀ (c : CmdRef) (scope wc : BitVec 8) (ctx : BitVec 16) (pages : BitVec 32) (va : BitVec 64) (s u : State) (n : Nat),
    Starts s .f 0x0602 c (pack [(1, scope.toNat), (1, wc.toNat), (2, ctx.toNat), (4, pages.toNat), (8, va.toNat)]) n u →
    scope.toNat = 3 → wc.toNat ≤ 1 → keyFunc (pathFn c.path) ≠ 0 →
    exec (.invalidate c scope wc ctx pages va) s = .next (u.ends n stNotPermitted).ended) ∧
  (∀ (c : CmdRef) (scope wc : BitVec 8) (ctx : BitVec 16) (pages : BitVec 32) (va : BitVec 64) (s u : State) (n : Nat),
    Starts s .f 0x0602 c (pack [(1, scope.toNat), (1, wc.toNat), (2, ctx.toNat), (4, pages.toNat), (8, va.toNat)]) n u →
    scope.toNat < 3 → (u.ctx ctx.toNat).valid = true →
    fkey (u.ctx ctx.toNat).hport (u.ctx ctx.toNat).func = pathFn c.path → wc.toNat ≤ 1 →
    (scope.toNat ≠ 0 ∨ pages.toNat ≠ 0) → 16 ≤ u.basicInvals →
    exec (.invalidate c scope wc ctx pages va) s = .next (u.ends n stBusy).ended) ∧
  (∀ (c : CmdRef) (scope wc : BitVec 8) (ctx : BitVec 16) (pages : BitVec 32) (va : BitVec 64) (s u : State) (n : Nat),
    Starts s .f 0x0602 c (pack [(1, scope.toNat), (1, wc.toNat), (2, ctx.toNat), (4, pages.toNat), (8, va.toNat)]) n u →
    scope.toNat = 3 → keyFunc (pathFn c.path) = 0 → wc.toNat ≤ 1 → 16 ≤ u.basicInvals →
    exec (.invalidate c scope wc ctx pages va) s = .next (u.ends n stBusy).ended) ∧
  (∀ (c : CmdRef) (parkId : BitVec 16) (parkGen action : BitVec 8) (s u : State) (n : Nat),
    Starts s .f 0x0603 c (pack [(2, parkId.toNat), (1, parkGen.toNat), (1, action.toNat)]) n u →
    parkId.toNat < 1024 → (u.park parkId.toNat).used = true →
    (u.qp (u.park parkId.toNat).q).func = pathFn c.path → (u.park parkId.toNat).gen = parkGen.toNat →
    action.toNat = 0 →
    exec (.parkResolve c parkId parkGen action) s = .next ((u.parkResume parkId.toNat).ends n stOk).ended) ∧
  (∀ (c : CmdRef) (parkId : BitVec 16) (parkGen action : BitVec 8) (s u : State) (n : Nat),
    Starts s .f 0x0603 c (pack [(2, parkId.toNat), (1, parkGen.toNat), (1, action.toNat)]) n u →
    parkId.toNat < 1024 → (u.park parkId.toNat).used = true →
    (u.qp (u.park parkId.toNat).q).func = pathFn c.path → (u.park parkId.toNat).gen = parkGen.toNat →
    action.toNat = 1 →
    exec (.parkResolve c parkId parkGen action) s = .next ((u.parkFail parkId.toNat).ends n stOk).ended) ∧
  (∀ (c : CmdRef) (parkId : BitVec 16) (parkGen action : BitVec 8) (s u : State) (n : Nat),
    Starts s .f 0x0603 c (pack [(2, parkId.toNat), (1, parkGen.toNat), (1, action.toNat)]) n u →
    (1024 ≤ parkId.toNat ∨ (u.park parkId.toNat).used = false) →
    exec (.parkResolve c parkId parkGen action) s = .next (u.ends n stBadParam).ended) ∧
  (∀ (c : CmdRef) (parkId : BitVec 16) (parkGen action : BitVec 8) (s u : State) (n : Nat),
    Starts s .f 0x0603 c (pack [(2, parkId.toNat), (1, parkGen.toNat), (1, action.toNat)]) n u →
    parkId.toNat < 1024 → (u.park parkId.toNat).used = true →
    (u.qp (u.park parkId.toNat).q).func ≠ pathFn c.path →
    exec (.parkResolve c parkId parkGen action) s = .next (u.ends n stNotPermitted).ended) ∧
  (∀ (c : CmdRef) (parkId : BitVec 16) (parkGen action : BitVec 8) (s u : State) (n : Nat),
    Starts s .f 0x0603 c (pack [(2, parkId.toNat), (1, parkGen.toNat), (1, action.toNat)]) n u →
    parkId.toNat < 1024 → (u.park parkId.toNat).used = true →
    (u.qp (u.park parkId.toNat).q).func = pathFn c.path →
    ((u.park parkId.toNat).gen ≠ parkGen.toNat ∨ 1 < action.toNat) →
    exec (.parkResolve c parkId parkGen action) s = .next (u.ends n stBadParam).ended) ∧
  (∀ (c : CmdRef) (index en : BitVec 8) (base limit : BitVec 64) (s u : State) (n : Nat),
    Starts s .p 0x0604 c (pack [(1, index.toNat), (1, en.toNat), (8, base.toNat), (8, limit.toNat)]) n u →
    index.toNat ≤ 15 → en.toNat ≤ 1 → base.toNat % 4096 = 0 → base.toNat < 2 ^ 52 →
    limit.toNat % 4096 = 0 → limit.toNat < 2 ^ 52 → base.toNat ≤ limit.toNat →
    exec (.walkRange c index en base limit) s =
      .next ((((u.wr R.XLT_WR_BASE_EN en.toNat (pathPort c.path) index.toNat).wr R.XLT_WR_BASE_BASE (base.toNat / 4096) (pathPort
        c.path) index.toNat).wr R.XLT_WR_LIMIT_LIMIT (limit.toNat / 4096) (pathPort c.path) index.toNat).ends n stOk).ended) ∧
  (∀ (c : CmdRef) (index en : BitVec 8) (base limit : BitVec 64) (s u : State) (n : Nat),
    Starts s .p 0x0604 c (pack [(1, index.toNat), (1, en.toNat), (8, base.toNat), (8, limit.toNat)]) n u →
    (¬ (index.toNat ≤ 15 ∧ en.toNat ≤ 1 ∧ base.toNat % 4096 = 0 ∧ base.toNat < 2 ^ 52 ∧ limit.toNat % 4096 = 0 ∧ limit.toNat < 2 ^ 52 ∧
      base.toNat ≤ limit.toNat)) →
    exec (.walkRange c index en base limit) s = .next (u.ends n stBadParam).ended) ∧
  (∀ (c : CmdRef) (maxAge parkTime : BitVec 64) (s u : State) (n : Nat),
    Starts s .d 0x0605 c (pack [(8, maxAge.toNat), (8, parkTime.toNat)]) n u →
    (([(R.XLT_AGE_MAX_AGE, maxAge.toNat), (R.XLT_PARK_PARK_TIME, parkTime.toNat)].all fun x => x.1.allows x.2) = true) →
    exec (.xltTimers c maxAge parkTime) s =
      .next ((u.wrs [(R.XLT_AGE_MAX_AGE, maxAge.toNat), (R.XLT_PARK_PARK_TIME, parkTime.toNat)]).ends n stOk).ended) ∧
  (∀ (c : CmdRef) (maxAge parkTime : BitVec 64) (s u : State) (n : Nat),
    Starts s .d 0x0605 c (pack [(8, maxAge.toNat), (8, parkTime.toNat)]) n u →
    (([(R.XLT_AGE_MAX_AGE, maxAge.toNat), (R.XLT_PARK_PARK_TIME, parkTime.toNat)].all fun x => x.1.allows x.2) = false) →
    exec (.xltTimers c maxAge parkTime) s = .next (u.ends n stBadParam).ended) ∧
  (∀ (c : CmdRef) (ctx : BitVec 16) (s u : State) (n : Nat),
    Starts s .f 0x0606 c (pack [(2, ctx.toNat)]) n u → (u.ctx ctx.toNat).valid = true →
    fkey (u.ctx ctx.toNat).hport (u.ctx ctx.toNat).func = pathFn c.path →
    exec (.ctxStatus c ctx) s = .next (u.okay n [(8, ctxView (u.ctx ctx.toNat)), (8, (u.ctx ctx.toNat).root * 4096)]).ended) ∧
  (∀ (c : CmdRef) (ctx : BitVec 16) (s u : State) (n : Nat),
    Starts s .f 0x0606 c (pack [(2, ctx.toNat)]) n u → (u.ctx ctx.toNat).valid = false →
    exec (.ctxStatus c ctx) s = .next (u.ends n stBadParam).ended) ∧
  (∀ (c : CmdRef) (ctx : BitVec 16) (s u : State) (n : Nat),
    Starts s .f 0x0606 c (pack [(2, ctx.toNat)]) n u → (u.ctx ctx.toNat).valid = true →
    fkey (u.ctx ctx.toNat).hport (u.ctx ctx.toNat).func ≠ pathFn c.path →
    exec (.ctxStatus c ctx) s = .next (u.ends n stNotPermitted).ended)

/-- When the command starts and its operands pass the checks of its row, TPT_TIMERS, TPT_ACKCFG and MAT_CFG write their fields,
TC_RESET resets the connection and TC_STATUS answers its view, WIN_OPEN opens a free window and answers its key after the mirror
record, WIN_REVOKE revokes the key and ends OK with R442's status, WIN_STATUS, MAT_STATUS and MAT_QP_STATUS answer. Operands a row
refuses, an object that does not exist and a GIVEUP below LIFETIME end BAD_PARAM; an object of another function, and WIN_OPEN for a
host port the mate serves or a function that is not ENABLED, end NOT_PERMITTED; WIN_OPEN without a free window ends
RESOURCE_EXHAUSTED. (16_command_packets.md Table 16.7; 01_architecture.md R54; 11_transport_and_windows.md R438 R442 R444;
12_message_matching.md R477; 16_command_packets.md R595 R748) -/
def Obligations.TransportCommandsComplete : Prop :=
  (∀ (c : CmdRef) (lifetime giveup : BitVec 64) (s u : State) (n : Nat),
    Starts s .d 0x0700 c (pack [(8, lifetime.toNat), (8, giveup.toNat)]) n u →
    R.TPT_LIFE_LIFETIME.allows lifetime.toNat = true → R.TPT_GIVEUP_GIVEUP.allows giveup.toNat = true →
    lifetime.toNat ≤ giveup.toNat →
    exec (.tptTimers c lifetime giveup) s =
      .next (((u.wr R.TPT_LIFE_LIFETIME lifetime.toNat).wr R.TPT_GIVEUP_GIVEUP giveup.toNat).ends n stOk).ended) ∧
  (∀ (c : CmdRef) (lifetime giveup : BitVec 64) (s u : State) (n : Nat),
    Starts s .d 0x0700 c (pack [(8, lifetime.toNat), (8, giveup.toNat)]) n u →
    (R.TPT_LIFE_LIFETIME.allows lifetime.toNat = false ∨ R.TPT_GIVEUP_GIVEUP.allows giveup.toNat = false ∨ giveup.toNat <
      lifetime.toNat) →
    exec (.tptTimers c lifetime giveup) s = .next (u.ends n stBadParam).ended) ∧
  (∀ (c : CmdRef) (ackEvery retryBudget : BitVec 8) (s u : State) (n : Nat),
    Starts s .d 0x0701 c (pack [(1, ackEvery.toNat), (1, retryBudget.toNat)]) n u →
    (([(R.TPT_ACK_ACK_EVERY, ackEvery.toNat), (R.TPT_ACK_RETRY_BUDGET, retryBudget.toNat)].all fun x => x.1.allows x.2) = true) →
    exec (.tptAckcfg c ackEvery retryBudget) s =
      .next ((u.wrs [(R.TPT_ACK_ACK_EVERY, ackEvery.toNat), (R.TPT_ACK_RETRY_BUDGET, retryBudget.toNat)]).ends n stOk).ended) ∧
  (∀ (c : CmdRef) (ackEvery retryBudget : BitVec 8) (s u : State) (n : Nat),
    Starts s .d 0x0701 c (pack [(1, ackEvery.toNat), (1, retryBudget.toNat)]) n u →
    (([(R.TPT_ACK_ACK_EVERY, ackEvery.toNat), (R.TPT_ACK_RETRY_BUDGET, retryBudget.toNat)].all fun x => x.1.allows x.2) = false) →
    exec (.tptAckcfg c ackEvery retryBudget) s = .next (u.ends n stBadParam).ended) ∧
  (∀ (c : CmdRef) (pid : BitVec 32) (s u : State) (n : Nat),
    Starts s .d 0x0702 c (pack [(4, pid.toNat)]) n u → pid.toNat < 2 ^ 20 →
    exec (.tcReset c pid) s = .next ((u.tcReset (tcKey 0 pid.toNat)).ends n stOk).ended) ∧
  (∀ (c : CmdRef) (pid : BitVec 32) (s u : State) (n : Nat),
    Starts s .d 0x0702 c (pack [(4, pid.toNat)]) n u → 2 ^ 20 ≤ pid.toNat →
    exec (.tcReset c pid) s = .next (u.ends n stBadParam).ended) ∧
  (∀ (c : CmdRef) (pid : BitVec 32) (s u : State) (n : Nat),
    Starts s .d 0x0703 c (pack [(4, pid.toNat)]) n u → pid.toNat < 2 ^ 20 →
    exec (.tcStatus c pid) s =
      .next (u.okay n [(8, u.tcView (tcKey 0 pid.toNat)), (4, (u.tc (tcKey 0 pid.toNat)).txNext), (4, (u.tc (tcKey 0
        pid.toNat)).rxExpected)]).ended) ∧
  (∀ (c : CmdRef) (pid : BitVec 32) (s u : State) (n : Nat),
    Starts s .d 0x0703 c (pack [(4, pid.toNat)]) n u → 2 ^ 20 ≤ pid.toNat →
    exec (.tcStatus c pid) s = .next (u.ends n stBadParam).ended) ∧
  (∀ (c : CmdRef) (perm scopePid cntEn gen : BitVec 8) (ctx job : BitVec 16) (peerPid cntIdx : BitVec 32) (base length : BitVec 64) (s u
    : State) (n : Nat) (w : WinEntry) (i : Nat),
    Starts s .f 0x0704 c (pack [(1, perm.toNat), (1, scopePid.toNat), (1, cntEn.toNat), (1, gen.toNat), (2, ctx.toNat), (2, job.toNat),
      (4, peerPid.toNat), (4, cntIdx.toNat), (8, base.toNat), (8, length.toNat)]) n u →
    u.serves (keyPort (pathFn c.path)) = true → (u.ctx ctx.toNat).valid = true →
    fkey (u.ctx ctx.toNat).hport (u.ctx ctx.toNat).func = pathFn c.path →
    w = { permRead := bitAt perm.toNat 0, permWrite := bitAt perm.toNat 1, scopePid := scopePid.toNat = 1, cntEn := cntEn.toNat = 1, hport := keyPort (pathFn c.path), func := keyFunc (pathFn c.path), ctx := ctx.toNat, job := job.toNat, peerPid := peerPid.toNat, cntIdx := cntIdx.toNat, base := base.toNat, length := length.toNat }
      →
    u.jobIs job.toNat gen.toNat = true → perm.toNat ≤ 3 → scopePid.toNat ≤ 1 → cntEn.toNat ≤ 1 →
    peerPid.toNat < 2 ^ 20 → cntIdx.toNat < 2 ^ 20 → u.windowRanges w = true → u.freeWindow = some i →
    u.fnState (pathFn c.path) = fsEnabled →
    exec (.winOpen c perm scopePid cntEn gen ctx job peerPid cntIdx base length) s =
      .next ((u.openWindow i w).2.2.replyAfter (u.openWindow i w).2.1 n stOk (pack [(4, (u.openWindow i w).1)])).ended) ∧
  (∀ (c : CmdRef) (perm scopePid cntEn gen : BitVec 8) (ctx job : BitVec 16) (peerPid cntIdx : BitVec 32) (base length : BitVec 64) (s u
    : State) (n : Nat),
    Starts s .f 0x0704 c (pack [(1, perm.toNat), (1, scopePid.toNat), (1, cntEn.toNat), (1, gen.toNat), (2, ctx.toNat), (2, job.toNat),
      (4, peerPid.toNat), (4, cntIdx.toNat), (8, base.toNat), (8, length.toNat)]) n u →
    u.serves (keyPort (pathFn c.path)) = false →
    exec (.winOpen c perm scopePid cntEn gen ctx job peerPid cntIdx base length) s = .next (u.ends n stNotPermitted).ended) ∧
  (∀ (c : CmdRef) (perm scopePid cntEn gen : BitVec 8) (ctx job : BitVec 16) (peerPid cntIdx : BitVec 32) (base length : BitVec 64) (s u
    : State) (n : Nat),
    Starts s .f 0x0704 c (pack [(1, perm.toNat), (1, scopePid.toNat), (1, cntEn.toNat), (1, gen.toNat), (2, ctx.toNat), (2, job.toNat),
      (4, peerPid.toNat), (4, cntIdx.toNat), (8, base.toNat), (8, length.toNat)]) n u →
    u.serves (keyPort (pathFn c.path)) = true → (u.ctx ctx.toNat).valid = false →
    exec (.winOpen c perm scopePid cntEn gen ctx job peerPid cntIdx base length) s = .next (u.ends n stBadParam).ended) ∧
  (∀ (c : CmdRef) (perm scopePid cntEn gen : BitVec 8) (ctx job : BitVec 16) (peerPid cntIdx : BitVec 32) (base length : BitVec 64) (s u
    : State) (n : Nat),
    Starts s .f 0x0704 c (pack [(1, perm.toNat), (1, scopePid.toNat), (1, cntEn.toNat), (1, gen.toNat), (2, ctx.toNat), (2, job.toNat),
      (4, peerPid.toNat), (4, cntIdx.toNat), (8, base.toNat), (8, length.toNat)]) n u →
    u.serves (keyPort (pathFn c.path)) = true → (u.ctx ctx.toNat).valid = true →
    fkey (u.ctx ctx.toNat).hport (u.ctx ctx.toNat).func ≠ pathFn c.path →
    exec (.winOpen c perm scopePid cntEn gen ctx job peerPid cntIdx base length) s = .next (u.ends n stNotPermitted).ended) ∧
  (∀ (c : CmdRef) (perm scopePid cntEn gen : BitVec 8) (ctx job : BitVec 16) (peerPid cntIdx : BitVec 32) (base length : BitVec 64) (s u
    : State) (n : Nat) (w : WinEntry),
    Starts s .f 0x0704 c (pack [(1, perm.toNat), (1, scopePid.toNat), (1, cntEn.toNat), (1, gen.toNat), (2, ctx.toNat), (2, job.toNat),
      (4, peerPid.toNat), (4, cntIdx.toNat), (8, base.toNat), (8, length.toNat)]) n u →
    u.serves (keyPort (pathFn c.path)) = true → (u.ctx ctx.toNat).valid = true →
    fkey (u.ctx ctx.toNat).hport (u.ctx ctx.toNat).func = pathFn c.path →
    w = { permRead := bitAt perm.toNat 0, permWrite := bitAt perm.toNat 1, scopePid := scopePid.toNat = 1, cntEn := cntEn.toNat = 1, hport := keyPort (pathFn c.path), func := keyFunc (pathFn c.path), ctx := ctx.toNat, job := job.toNat, peerPid := peerPid.toNat, cntIdx := cntIdx.toNat, base := base.toNat, length := length.toNat }
      →
    (¬ (u.jobIs job.toNat gen.toNat = true ∧ perm.toNat ≤ 3 ∧ scopePid.toNat ≤ 1 ∧ cntEn.toNat ≤ 1 ∧ peerPid.toNat < 2 ^ 20 ∧
      cntIdx.toNat < 2 ^ 20 ∧ u.windowRanges w = true)) →
    exec (.winOpen c perm scopePid cntEn gen ctx job peerPid cntIdx base length) s = .next (u.ends n stBadParam).ended) ∧
  (∀ (c : CmdRef) (perm scopePid cntEn gen : BitVec 8) (ctx job : BitVec 16) (peerPid cntIdx : BitVec 32) (base length : BitVec 64) (s u
    : State) (n : Nat) (w : WinEntry),
    Starts s .f 0x0704 c (pack [(1, perm.toNat), (1, scopePid.toNat), (1, cntEn.toNat), (1, gen.toNat), (2, ctx.toNat), (2, job.toNat),
      (4, peerPid.toNat), (4, cntIdx.toNat), (8, base.toNat), (8, length.toNat)]) n u →
    u.serves (keyPort (pathFn c.path)) = true → (u.ctx ctx.toNat).valid = true →
    fkey (u.ctx ctx.toNat).hport (u.ctx ctx.toNat).func = pathFn c.path →
    w = { permRead := bitAt perm.toNat 0, permWrite := bitAt perm.toNat 1, scopePid := scopePid.toNat = 1, cntEn := cntEn.toNat = 1, hport := keyPort (pathFn c.path), func := keyFunc (pathFn c.path), ctx := ctx.toNat, job := job.toNat, peerPid := peerPid.toNat, cntIdx := cntIdx.toNat, base := base.toNat, length := length.toNat }
      →
    u.jobIs job.toNat gen.toNat = true → perm.toNat ≤ 3 → scopePid.toNat ≤ 1 → cntEn.toNat ≤ 1 →
    peerPid.toNat < 2 ^ 20 → cntIdx.toNat < 2 ^ 20 → u.windowRanges w = true → u.freeWindow = none →
    exec (.winOpen c perm scopePid cntEn gen ctx job peerPid cntIdx base length) s = .next (u.ends n stExhausted).ended) ∧
  (∀ (c : CmdRef) (perm scopePid cntEn gen : BitVec 8) (ctx job : BitVec 16) (peerPid cntIdx : BitVec 32) (base length : BitVec 64) (s u
    : State) (n : Nat) (w : WinEntry) (i : Nat),
    Starts s .f 0x0704 c (pack [(1, perm.toNat), (1, scopePid.toNat), (1, cntEn.toNat), (1, gen.toNat), (2, ctx.toNat), (2, job.toNat),
      (4, peerPid.toNat), (4, cntIdx.toNat), (8, base.toNat), (8, length.toNat)]) n u →
    u.serves (keyPort (pathFn c.path)) = true → (u.ctx ctx.toNat).valid = true →
    fkey (u.ctx ctx.toNat).hport (u.ctx ctx.toNat).func = pathFn c.path →
    w = { permRead := bitAt perm.toNat 0, permWrite := bitAt perm.toNat 1, scopePid := scopePid.toNat = 1, cntEn := cntEn.toNat = 1, hport := keyPort (pathFn c.path), func := keyFunc (pathFn c.path), ctx := ctx.toNat, job := job.toNat, peerPid := peerPid.toNat, cntIdx := cntIdx.toNat, base := base.toNat, length := length.toNat }
      →
    u.jobIs job.toNat gen.toNat = true → perm.toNat ≤ 3 → scopePid.toNat ≤ 1 → cntEn.toNat ≤ 1 →
    peerPid.toNat < 2 ^ 20 → cntIdx.toNat < 2 ^ 20 → u.windowRanges w = true → u.freeWindow = some i →
    u.fnState (pathFn c.path) ≠ fsEnabled →
    exec (.winOpen c perm scopePid cntEn gen ctx job peerPid cntIdx base length) s = .next (u.ends n stNotPermitted).ended) ∧
  (∀ (c : CmdRef) (key : BitVec 32) (s u : State) (n : Nat),
    Starts s .f 0x0705 c (pack [(4, key.toNat)]) n u →
    exec (.winRevoke c key) s =
      .next ((u.setWait n .revoke).revokeKey key.toNat (some (pathFn c.path)) (.cmd n) fun t st => t.okay n [(1, st)]).ended) ∧
  (∀ (c : CmdRef) (key : BitVec 32) (s u : State) (n : Nat),
    Starts s .f 0x0706 c (pack [(4, key.toNat)]) n u → keyIndex key.toNat < u.rd R.WIN_CFG_COUNT →
    (u.window (keyIndex key.toNat)).opened = true →
    fkey (u.window (keyIndex key.toNat)).hport (u.window (keyIndex key.toNat)).func = pathFn c.path →
    exec (.winStatus c key) s =
      .next (u.okay n [(8, winWord (u.window (keyIndex key.toNat)) 0), (8, winWord (u.window (keyIndex key.toNat)) 5)]).ended) ∧
  (∀ (c : CmdRef) (key : BitVec 32) (s u : State) (n : Nat),
    Starts s .f 0x0706 c (pack [(4, key.toNat)]) n u →
    (u.rd R.WIN_CFG_COUNT ≤ keyIndex key.toNat ∨ (u.window (keyIndex key.toNat)).opened = false) →
    exec (.winStatus c key) s = .next (u.ends n stBadParam).ended) ∧
  (∀ (c : CmdRef) (key : BitVec 32) (s u : State) (n : Nat),
    Starts s .f 0x0706 c (pack [(4, key.toNat)]) n u → keyIndex key.toNat < u.rd R.WIN_CFG_COUNT →
    (u.window (keyIndex key.toNat)).opened = true →
    fkey (u.window (keyIndex key.toNat)).hport (u.window (keyIndex key.toNat)).func ≠ pathFn c.path →
    exec (.winStatus c key) s = .next (u.ends n stNotPermitted).ended) ∧
  (∀ (c : CmdRef) (eagerLimit : BitVec 32) (mireRate : BitVec 16) (s u : State) (n : Nat),
    Starts s .d 0x0800 c (pack [(4, eagerLimit.toNat), (2, mireRate.toNat)]) n u →
    (([(R.MAT_CFG_EAGER_LIMIT, eagerLimit.toNat), (R.MAT_MIRE_RATE_RATE, mireRate.toNat)].all fun x => x.1.allows x.2) = true) →
    exec (.matCfg c eagerLimit mireRate) s =
      .next ((u.mireSettle.wrs [(R.MAT_CFG_EAGER_LIMIT, eagerLimit.toNat), (R.MAT_MIRE_RATE_RATE, mireRate.toNat)]).ends n stOk).ended) ∧
  (∀ (c : CmdRef) (eagerLimit : BitVec 32) (mireRate : BitVec 16) (s u : State) (n : Nat),
    Starts s .d 0x0800 c (pack [(4, eagerLimit.toNat), (2, mireRate.toNat)]) n u →
    (([(R.MAT_CFG_EAGER_LIMIT, eagerLimit.toNat), (R.MAT_MIRE_RATE_RATE, mireRate.toNat)].all fun x => x.1.allows x.2) = false) →
    exec (.matCfg c eagerLimit mireRate) s = .next (u.ends n stBadParam).ended) ∧
  (∀ (c : CmdRef) (s u : State) (n : Nat),
    Starts s .d 0x0801 c [] n u →
    exec (.matStatus c) s =
      .next (u.okay n [(4, u.mireHdrUsed), (4, u.mireBlkUsed), (4, u.prqUsed), (2, u.mat.reorder.length)]).ended) ∧
  (∀ (c : CmdRef) (qidx : BitVec 32) (s u : State) (n : Nat) (x : Qp),
    Starts s .f 0x0802 c (pack [(4, qidx.toNat)]) n u → x = u.qp qidx.toNat → x.valid = true →
    x.func = pathFn c.path →
    exec (.matQpStatus c qidx) s =
      .next (u.okay n [(4, x.posted.length + bNat x.prqHeld.isSome * 2 ^ 31), (4, x.unexpected), (8, x.nextPost)]).ended) ∧
  (∀ (c : CmdRef) (qidx : BitVec 32) (s u : State) (n : Nat),
    Starts s .f 0x0802 c (pack [(4, qidx.toNat)]) n u → (u.qp qidx.toNat).valid = false →
    exec (.matQpStatus c qidx) s = .next (u.ends n stBadParam).ended) ∧
  (∀ (c : CmdRef) (qidx : BitVec 32) (s u : State) (n : Nat),
    Starts s .f 0x0802 c (pack [(4, qidx.toNat)]) n u → (u.qp qidx.toNat).valid = true →
    (u.qp qidx.toNat).func ≠ pathFn c.path →
    exec (.matQpStatus c qidx) s = .next (u.ends n stNotPermitted).ended)

/-- When the command starts and its operands pass the checks of its row, CNT_ALLOC takes the lowest free run and answers its first
index after the mirror record, CNT_FREE frees unused counters, CNT_BIND binds or unbinds a counter to a queue pair, CNT_READ answers
and CNT_WRITE sets a counter, GROUP_CREATE waits for the transport contexts of the members, GROUP_DESTROY ends the group's instances
INDETERMINATE and clears it, GROUP_STATUS answers. A create for a host port the mate serves and objects of another function end
NOT_PERMITTED; counters in use end CNT_FREE BUSY and a valid group GROUP_CREATE BUSY; without a free run CNT_ALLOC, and without
staging space GROUP_CREATE, end RESOURCE_EXHAUSTED; objects that do not exist and operands a row refuses end BAD_PARAM.
(16_command_packets.md Table 16.7; 13_counters_and_triggers.md R480 R483; 14_collectives.md R501 R505) -/
def Obligations.CounterCommandsComplete : Prop :=
  (∀ (c : CmdRef) (count : BitVec 32) (s u : State) (n : Nat) (first : Nat),
    Starts s .f 0x0900 c (pack [(4, count.toNat)]) n u → 1 ≤ count.toNat → count.toNat ≤ 65536 →
    freeRun u.tallyRuns (u.ownHalf 1048576).1 (u.ownHalf 1048576).2 count.toNat = some first →
    u.fnState (pathFn c.path) = fsEnabled → u.serves (keyPort (pathFn c.path)) = true →
    exec (.cntAlloc c count) s =
      .next (((u.setRange (keyPort (pathFn c.path)) (keyFunc (pathFn c.path)) first count.toNat true).mirror (.cntRange (keyPort (pathFn
        c.path)) (keyFunc (pathFn c.path)) first count.toNat true)).2.replyAfter ((u.setRange (keyPort (pathFn c.path)) (keyFunc (pathFn
        c.path)) first count.toNat true).mirror (.cntRange (keyPort (pathFn c.path)) (keyFunc (pathFn c.path)) first count.toNat
        true)).1 n stOk (pack [(4, first)])).ended) ∧
  (∀ (c : CmdRef) (count : BitVec 32) (s u : State) (n : Nat),
    Starts s .f 0x0900 c (pack [(4, count.toNat)]) n u → u.serves (keyPort (pathFn c.path)) = true →
    (count.toNat < 1 ∨ 65536 < count.toNat) →
    exec (.cntAlloc c count) s = .next (u.ends n stBadParam).ended) ∧
  (∀ (c : CmdRef) (count : BitVec 32) (s u : State) (n : Nat),
    Starts s .f 0x0900 c (pack [(4, count.toNat)]) n u → u.serves (keyPort (pathFn c.path)) = false →
    exec (.cntAlloc c count) s = .next (u.ends n stNotPermitted).ended) ∧
  (∀ (c : CmdRef) (count : BitVec 32) (s u : State) (n : Nat),
    Starts s .f 0x0900 c (pack [(4, count.toNat)]) n u → u.serves (keyPort (pathFn c.path)) = true →
    1 ≤ count.toNat → count.toNat ≤ 65536 →
    freeRun u.tallyRuns (u.ownHalf 1048576).1 (u.ownHalf 1048576).2 count.toNat = none →
    exec (.cntAlloc c count) s = .next (u.ends n stExhausted).ended) ∧
  (∀ (c : CmdRef) (count : BitVec 32) (s u : State) (n : Nat) (first : Nat),
    Starts s .f 0x0900 c (pack [(4, count.toNat)]) n u → u.serves (keyPort (pathFn c.path)) = true →
    1 ≤ count.toNat → count.toNat ≤ 65536 →
    freeRun u.tallyRuns (u.ownHalf 1048576).1 (u.ownHalf 1048576).2 count.toNat = some first →
    u.fnState (pathFn c.path) ≠ fsEnabled →
    exec (.cntAlloc c count) s = .next (u.ends n stNotPermitted).ended) ∧
  (∀ (c : CmdRef) (first count : BitVec 32) (s u : State) (n : Nat) (mine : List (Nat × Tally)) (t : State) (m : Option Nat × State),
    Starts s .f 0x0901 c (pack [(4, first.toNat), (4, count.toNat)]) n u →
    (mine = u.trg.tally.filter (fun kv => kv.2.alloc && first.toNat ≤ kv.1 && kv.1 < first.toNat + count.toNat)) →
    0 < count.toNat → first.toNat + count.toNat ≤ 1048576 → count.toNat ≤ mine.length →
    (mine.any (fun kv => fkey kv.2.hport kv.2.func ≠ pathFn c.path) = false) →
    u.cntInUse first.toNat count.toNat = false →
    t = u.setRange (keyPort (pathFn c.path)) (keyFunc (pathFn c.path)) first.toNat count.toNat false →
    (m = ({ t with trg := { t.trg with hot := t.trg.hot.filter fun i => !(first.toNat ≤ i && i < first.toNat + count.toNat) } } :
      State).mirror (.cntRange (keyPort (pathFn c.path)) (keyFunc (pathFn c.path)) first.toNat count.toNat false)) →
    exec (.cntFree c first count) s = .next (m.2.replyAfter m.1 n stOk []).ended) ∧
  (∀ (c : CmdRef) (first count : BitVec 32) (s u : State) (n : Nat) (mine : List (Nat × Tally)),
    Starts s .f 0x0901 c (pack [(4, first.toNat), (4, count.toNat)]) n u →
    (mine = u.trg.tally.filter (fun kv => kv.2.alloc && first.toNat ≤ kv.1 && kv.1 < first.toNat + count.toNat)) →
    (count.toNat = 0 ∨ 1048576 < first.toNat + count.toNat ∨ mine.length < count.toNat) →
    exec (.cntFree c first count) s = .next (u.ends n stBadParam).ended) ∧
  (∀ (c : CmdRef) (first count : BitVec 32) (s u : State) (n : Nat) (mine : List (Nat × Tally)),
    Starts s .f 0x0901 c (pack [(4, first.toNat), (4, count.toNat)]) n u →
    (mine = u.trg.tally.filter (fun kv => kv.2.alloc && first.toNat ≤ kv.1 && kv.1 < first.toNat + count.toNat)) →
    0 < count.toNat → first.toNat + count.toNat ≤ 1048576 → count.toNat ≤ mine.length →
    (mine.any (fun kv => fkey kv.2.hport kv.2.func ≠ pathFn c.path) = true) →
    exec (.cntFree c first count) s = .next (u.ends n stNotPermitted).ended) ∧
  (∀ (c : CmdRef) (first count : BitVec 32) (s u : State) (n : Nat) (mine : List (Nat × Tally)),
    Starts s .f 0x0901 c (pack [(4, first.toNat), (4, count.toNat)]) n u →
    (mine = u.trg.tally.filter (fun kv => kv.2.alloc && first.toNat ≤ kv.1 && kv.1 < first.toNat + count.toNat)) →
    0 < count.toNat → first.toNat + count.toNat ≤ 1048576 → count.toNat ≤ mine.length →
    (mine.any (fun kv => fkey kv.2.hport kv.2.func ≠ pathFn c.path) = false) →
    u.cntInUse first.toNat count.toNat = true →
    exec (.cntFree c first count) s = .next (u.ends n stBusy).ended) ∧
  (∀ (c : CmdRef) (qidx cnt : BitVec 32) (en : BitVec 8) (s u : State) (n : Nat) (x : Qp) (m : Option Nat × State),
    Starts s .f 0x0902 c (pack [(4, qidx.toNat), (4, cnt.toNat), (1, en.toNat)]) n u →
    x = u.qp qidx.toNat → x.valid = true → cnt.toNat < 1048576 → (u.tally cnt.toNat).alloc = true →
    (en.toNat = 1 ∨ en.toNat = 0 ∧ x.cnt.isSome = true) → mayName (pathFn c.path) x.func = true →
    fkey (u.tally cnt.toNat).hport (u.tally cnt.toNat).func = x.func →
    (m = ((u.keepQpCnt qidx.toNat cnt.toNat).modQp qidx.toNat fun y => { y with cnt := if en.toNat = 1 then some cnt.toNat else none }).mirror
      (.cntBind x.p.hport x.p.func qidx.toNat cnt.toNat (en.toNat = 1))) →
    exec (.cntBind c qidx cnt en) s = .next (m.2.replyAfter m.1 n stOk []).ended) ∧
  (∀ (c : CmdRef) (qidx cnt : BitVec 32) (en : BitVec 8) (s u : State) (n : Nat) (x : Qp),
    Starts s .f 0x0902 c (pack [(4, qidx.toNat), (4, cnt.toNat), (1, en.toNat)]) n u →
    x = u.qp qidx.toNat → x.valid = true → cnt.toNat < 1048576 → (u.tally cnt.toNat).alloc = true →
    mayName (pathFn c.path) x.func = true →
    fkey (u.tally cnt.toNat).hport (u.tally cnt.toNat).func = x.func → en.toNat = 0 → x.cnt = none →
    exec (.cntBind c qidx cnt en) s = .next (u.ends n stOk).ended) ∧
  (∀ (c : CmdRef) (qidx cnt : BitVec 32) (en : BitVec 8) (s u : State) (n : Nat),
    Starts s .f 0x0902 c (pack [(4, qidx.toNat), (4, cnt.toNat), (1, en.toNat)]) n u →
    (¬ ((u.qp qidx.toNat).valid = true ∧ cnt.toNat < 1048576 ∧ (u.tally cnt.toNat).alloc = true ∧ en.toNat ≤ 1)) →
    exec (.cntBind c qidx cnt en) s = .next (u.ends n stBadParam).ended) ∧
  (∀ (c : CmdRef) (qidx cnt : BitVec 32) (en : BitVec 8) (s u : State) (n : Nat),
    Starts s .f 0x0902 c (pack [(4, qidx.toNat), (4, cnt.toNat), (1, en.toNat)]) n u →
    (u.qp qidx.toNat).valid = true → cnt.toNat < 1048576 → (u.tally cnt.toNat).alloc = true →
    en.toNat ≤ 1 →
    (mayName (pathFn c.path) (u.qp qidx.toNat).func = false ∨ mayName (pathFn c.path) (fkey (u.tally cnt.toNat).hport (u.tally
      cnt.toNat).func) = false ∨ fkey (u.tally cnt.toNat).hport (u.tally cnt.toNat).func ≠ (u.qp qidx.toNat).func) →
    exec (.cntBind c qidx cnt en) s = .next (u.ends n stNotPermitted).ended) ∧
  (∀ (c : CmdRef) (cnt : BitVec 32) (s u : State) (n : Nat),
    Starts s .f 0x0903 c (pack [(4, cnt.toNat)]) n u → cnt.toNat < 1048576 →
    (u.tally cnt.toNat).alloc = true →
    fkey (u.tally cnt.toNat).hport (u.tally cnt.toNat).func = pathFn c.path →
    exec (.cntRead c cnt) s =
      .next (u.okay n [(8, (u.tally cnt.toNat).value), (4, (u.tally cnt.toNat).fail), (1, (u.tally cnt.toNat).lastStatus), (1, bNat
        (u.tally cnt.toNat).late)]).ended) ∧
  (∀ (c : CmdRef) (cnt : BitVec 32) (s u : State) (n : Nat),
    Starts s .f 0x0903 c (pack [(4, cnt.toNat)]) n u →
    (1048576 ≤ cnt.toNat ∨ (u.tally cnt.toNat).alloc = false) →
    exec (.cntRead c cnt) s = .next (u.ends n stBadParam).ended) ∧
  (∀ (c : CmdRef) (cnt : BitVec 32) (s u : State) (n : Nat),
    Starts s .f 0x0903 c (pack [(4, cnt.toNat)]) n u → cnt.toNat < 1048576 →
    (u.tally cnt.toNat).alloc = true →
    fkey (u.tally cnt.toNat).hport (u.tally cnt.toNat).func ≠ pathFn c.path →
    exec (.cntRead c cnt) s = .next (u.ends n stNotPermitted).ended) ∧
  (∀ (c : CmdRef) (cnt : BitVec 32) (value : BitVec 64) (s u : State) (n : Nat),
    Starts s .f 0x0904 c (pack [(4, cnt.toNat), (8, value.toNat)]) n u → cnt.toNat < 1048576 →
    (u.tally cnt.toNat).alloc = true →
    fkey (u.tally cnt.toNat).hport (u.tally cnt.toNat).func = pathFn c.path →
    exec (.cntWrite c cnt value) s =
      .next ((u.cntApply cnt.toNat fun t => { t with value := value.toNat }).ends n stOk).ended) ∧
  (∀ (c : CmdRef) (cnt : BitVec 32) (value : BitVec 64) (s u : State) (n : Nat),
    Starts s .f 0x0904 c (pack [(4, cnt.toNat), (8, value.toNat)]) n u →
    (1048576 ≤ cnt.toNat ∨ (u.tally cnt.toNat).alloc = false) →
    exec (.cntWrite c cnt value) s = .next (u.ends n stBadParam).ended) ∧
  (∀ (c : CmdRef) (cnt : BitVec 32) (value : BitVec 64) (s u : State) (n : Nat),
    Starts s .f 0x0904 c (pack [(4, cnt.toNat), (8, value.toNat)]) n u → cnt.toNat < 1048576 →
    (u.tally cnt.toNat).alloc = true →
    fkey (u.tally cnt.toNat).hport (u.tally cnt.toNat).func ≠ pathFn c.path →
    exec (.cntWrite c cnt value) s = .next (u.ends n stNotPermitted).ended) ∧
  (∀ (c : CmdRef) (gid job : BitVec 16) (gen dimmask localCnt depth : BitVec 8) (mask0 mask1 mask2 mask3 maxbytes lqp0 lqp1 lqp2 lqp3
    lqp4 lqp5 lqp6 lqp7 : BitVec 32) (s u : State) (n : Nat) (p : GroupParams),
    Starts s .f 0x0905 c (pack ([(2, gid.toNat), (2, job.toNat), (1, gen.toNat), (1, dimmask.toNat), (1, localCnt.toNat), (1,
      depth.toNat), (4, mask0.toNat), (4, mask1.toNat), (4, mask2.toNat), (4, mask3.toNat), (4, maxbytes.toNat)] ++ [(4, lqp0.toNat),
      (4, lqp1.toNat), (4, lqp2.toNat), (4, lqp3.toNat), (4, lqp4.toNat), (4, lqp5.toNat), (4, lqp6.toNat), (4, lqp7.toNat)])) n u →
    p = { gid := gid.toNat, job := job.toNat, gen := gen.toNat, dimMask := dimmask.toNat, localCnt := localCnt.toNat, depth := depth.toNat, mask0 := mask0.toNat, mask1 := mask1.toNat, mask2 := mask2.toNat, mask3 := mask3.toNat, maxBytes := maxbytes.toNat, lqps := [lqp0, lqp1, lqp2, lqp3, lqp4, lqp5, lqp6, lqp7].map BitVec.toNat }
      →
    u.serves (keyPort (pathFn c.path)) = true → u.localQps (pathFn c.path) p = stOk →
    (4096 ≤ p.gid ∨ (u.group p.gid).valid = false) → p.rangesOk = true → u.masksOk p = true →
    u.jobIs p.job p.gen = true → ((p.lqps.take p.localCnt).any (fun q => (u.qp q).p.job ≠ p.job) = false) →
    (freeRun u.stagingRuns 0 (u.regionSize 10 / 2 ^ 20) p.mib).isSome = true →
    exec (.groupCreate c gid job gen dimmask localCnt depth mask0 mask1 mask2 mask3 maxbytes lqp0 lqp1 lqp2 lqp3 lqp4 lqp5 lqp6 lqp7) s
      =
      .next (u.setWait n (.group p)).ended) ∧
  (∀ (c : CmdRef) (gid job : BitVec 16) (gen dimmask localCnt depth : BitVec 8) (mask0 mask1 mask2 mask3 maxbytes lqp0 lqp1 lqp2 lqp3
    lqp4 lqp5 lqp6 lqp7 : BitVec 32) (s u : State) (n : Nat),
    Starts s .f 0x0905 c (pack ([(2, gid.toNat), (2, job.toNat), (1, gen.toNat), (1, dimmask.toNat), (1, localCnt.toNat), (1,
      depth.toNat), (4, mask0.toNat), (4, mask1.toNat), (4, mask2.toNat), (4, mask3.toNat), (4, maxbytes.toNat)] ++ [(4, lqp0.toNat),
      (4, lqp1.toNat), (4, lqp2.toNat), (4, lqp3.toNat), (4, lqp4.toNat), (4, lqp5.toNat), (4, lqp6.toNat), (4, lqp7.toNat)])) n u →
    u.serves (keyPort (pathFn c.path)) = false →
    exec (.groupCreate c gid job gen dimmask localCnt depth mask0 mask1 mask2 mask3 maxbytes lqp0 lqp1 lqp2 lqp3 lqp4 lqp5 lqp6 lqp7) s
      =
      .next (u.ends n stNotPermitted).ended) ∧
  (∀ (c : CmdRef) (gid job : BitVec 16) (gen dimmask localCnt depth : BitVec 8) (mask0 mask1 mask2 mask3 maxbytes lqp0 lqp1 lqp2 lqp3
    lqp4 lqp5 lqp6 lqp7 : BitVec 32) (s u : State) (n : Nat) (p : GroupParams),
    Starts s .f 0x0905 c (pack ([(2, gid.toNat), (2, job.toNat), (1, gen.toNat), (1, dimmask.toNat), (1, localCnt.toNat), (1,
      depth.toNat), (4, mask0.toNat), (4, mask1.toNat), (4, mask2.toNat), (4, mask3.toNat), (4, maxbytes.toNat)] ++ [(4, lqp0.toNat),
      (4, lqp1.toNat), (4, lqp2.toNat), (4, lqp3.toNat), (4, lqp4.toNat), (4, lqp5.toNat), (4, lqp6.toNat), (4, lqp7.toNat)])) n u →
    p = { gid := gid.toNat, job := job.toNat, gen := gen.toNat, dimMask := dimmask.toNat, localCnt := localCnt.toNat, depth := depth.toNat, mask0 := mask0.toNat, mask1 := mask1.toNat, mask2 := mask2.toNat, mask3 := mask3.toNat, maxBytes := maxbytes.toNat, lqps := [lqp0, lqp1, lqp2, lqp3, lqp4, lqp5, lqp6, lqp7].map BitVec.toNat }
      →
    u.serves (keyPort (pathFn c.path)) = true → u.localQps (pathFn c.path) p ≠ stOk →
    exec (.groupCreate c gid job gen dimmask localCnt depth mask0 mask1 mask2 mask3 maxbytes lqp0 lqp1 lqp2 lqp3 lqp4 lqp5 lqp6 lqp7) s
      =
      .next (u.ends n (u.localQps (pathFn c.path) p)).ended) ∧
  (∀ (c : CmdRef) (gid job : BitVec 16) (gen dimmask localCnt depth : BitVec 8) (mask0 mask1 mask2 mask3 maxbytes lqp0 lqp1 lqp2 lqp3
    lqp4 lqp5 lqp6 lqp7 : BitVec 32) (s u : State) (n : Nat) (p : GroupParams),
    Starts s .f 0x0905 c (pack ([(2, gid.toNat), (2, job.toNat), (1, gen.toNat), (1, dimmask.toNat), (1, localCnt.toNat), (1,
      depth.toNat), (4, mask0.toNat), (4, mask1.toNat), (4, mask2.toNat), (4, mask3.toNat), (4, maxbytes.toNat)] ++ [(4, lqp0.toNat),
      (4, lqp1.toNat), (4, lqp2.toNat), (4, lqp3.toNat), (4, lqp4.toNat), (4, lqp5.toNat), (4, lqp6.toNat), (4, lqp7.toNat)])) n u →
    p = { gid := gid.toNat, job := job.toNat, gen := gen.toNat, dimMask := dimmask.toNat, localCnt := localCnt.toNat, depth := depth.toNat, mask0 := mask0.toNat, mask1 := mask1.toNat, mask2 := mask2.toNat, mask3 := mask3.toNat, maxBytes := maxbytes.toNat, lqps := [lqp0, lqp1, lqp2, lqp3, lqp4, lqp5, lqp6, lqp7].map BitVec.toNat }
      →
    u.serves (keyPort (pathFn c.path)) = true → u.localQps (pathFn c.path) p = stOk → p.gid < 4096 →
    (u.group p.gid).valid = true →
    exec (.groupCreate c gid job gen dimmask localCnt depth mask0 mask1 mask2 mask3 maxbytes lqp0 lqp1 lqp2 lqp3 lqp4 lqp5 lqp6 lqp7) s
      =
      .next (u.ends n stBusy).ended) ∧
  (∀ (c : CmdRef) (gid job : BitVec 16) (gen dimmask localCnt depth : BitVec 8) (mask0 mask1 mask2 mask3 maxbytes lqp0 lqp1 lqp2 lqp3
    lqp4 lqp5 lqp6 lqp7 : BitVec 32) (s u : State) (n : Nat) (p : GroupParams),
    Starts s .f 0x0905 c (pack ([(2, gid.toNat), (2, job.toNat), (1, gen.toNat), (1, dimmask.toNat), (1, localCnt.toNat), (1,
      depth.toNat), (4, mask0.toNat), (4, mask1.toNat), (4, mask2.toNat), (4, mask3.toNat), (4, maxbytes.toNat)] ++ [(4, lqp0.toNat),
      (4, lqp1.toNat), (4, lqp2.toNat), (4, lqp3.toNat), (4, lqp4.toNat), (4, lqp5.toNat), (4, lqp6.toNat), (4, lqp7.toNat)])) n u →
    p = { gid := gid.toNat, job := job.toNat, gen := gen.toNat, dimMask := dimmask.toNat, localCnt := localCnt.toNat, depth := depth.toNat, mask0 := mask0.toNat, mask1 := mask1.toNat, mask2 := mask2.toNat, mask3 := mask3.toNat, maxBytes := maxbytes.toNat, lqps := [lqp0, lqp1, lqp2, lqp3, lqp4, lqp5, lqp6, lqp7].map BitVec.toNat }
      →
    u.serves (keyPort (pathFn c.path)) = true → u.localQps (pathFn c.path) p = stOk →
    (4096 ≤ p.gid ∨ (u.group p.gid).valid = false) →
    freeRun u.stagingRuns 0 (u.regionSize 10 / 2 ^ 20) p.mib = none →
    exec (.groupCreate c gid job gen dimmask localCnt depth mask0 mask1 mask2 mask3 maxbytes lqp0 lqp1 lqp2 lqp3 lqp4 lqp5 lqp6 lqp7) s
      =
      .next (u.ends n stExhausted).ended) ∧
  (∀ (c : CmdRef) (gid job : BitVec 16) (gen dimmask localCnt depth : BitVec 8) (mask0 mask1 mask2 mask3 maxbytes lqp0 lqp1 lqp2 lqp3
    lqp4 lqp5 lqp6 lqp7 : BitVec 32) (s u : State) (n : Nat) (p : GroupParams),
    Starts s .f 0x0905 c (pack ([(2, gid.toNat), (2, job.toNat), (1, gen.toNat), (1, dimmask.toNat), (1, localCnt.toNat), (1,
      depth.toNat), (4, mask0.toNat), (4, mask1.toNat), (4, mask2.toNat), (4, mask3.toNat), (4, maxbytes.toNat)] ++ [(4, lqp0.toNat),
      (4, lqp1.toNat), (4, lqp2.toNat), (4, lqp3.toNat), (4, lqp4.toNat), (4, lqp5.toNat), (4, lqp6.toNat), (4, lqp7.toNat)])) n u →
    p = { gid := gid.toNat, job := job.toNat, gen := gen.toNat, dimMask := dimmask.toNat, localCnt := localCnt.toNat, depth := depth.toNat, mask0 := mask0.toNat, mask1 := mask1.toNat, mask2 := mask2.toNat, mask3 := mask3.toNat, maxBytes := maxbytes.toNat, lqps := [lqp0, lqp1, lqp2, lqp3, lqp4, lqp5, lqp6, lqp7].map BitVec.toNat }
      →
    u.serves (keyPort (pathFn c.path)) = true → u.localQps (pathFn c.path) p = stOk →
    (4096 ≤ p.gid ∨ (u.group p.gid).valid = false) →
    (freeRun u.stagingRuns 0 (u.regionSize 10 / 2 ^ 20) p.mib).isSome = true →
    (¬ (p.rangesOk = true ∧ u.masksOk p = true ∧ u.jobIs p.job p.gen = true ∧ (p.lqps.take p.localCnt).any (fun q => (u.qp q).p.job ≠
      p.job) = false)) →
    exec (.groupCreate c gid job gen dimmask localCnt depth mask0 mask1 mask2 mask3 maxbytes lqp0 lqp1 lqp2 lqp3 lqp4 lqp5 lqp6 lqp7) s
      =
      .next (u.ends n stBadParam).ended) ∧
  (∀ (c : CmdRef) (gid : BitVec 16) (s u : State) (n : Nat),
    Starts s .f 0x0906 c (pack [(2, gid.toNat)]) n u → gid.toNat < 4096 →
    (u.group gid.toNat).valid = true →
    (((u.group gid.toNat).p.lqps.take (u.group gid.toNat).p.localCnt).all (fun q => !((u.qp q).valid && (u.qp q).func = pathFn c.path))
      = false) →
    exec (.groupDestroy c gid) s = .next (((u.instsEnd gid.toNat csIndeterminate).setGroup gid.toNat {}).ends n stOk).ended) ∧
  (∀ (c : CmdRef) (gid : BitVec 16) (s u : State) (n : Nat),
    Starts s .f 0x0906 c (pack [(2, gid.toNat)]) n u →
    (4096 ≤ gid.toNat ∨ (u.group gid.toNat).valid = false) →
    exec (.groupDestroy c gid) s = .next (u.ends n stBadParam).ended) ∧
  (∀ (c : CmdRef) (gid : BitVec 16) (s u : State) (n : Nat),
    Starts s .f 0x0906 c (pack [(2, gid.toNat)]) n u → gid.toNat < 4096 →
    (u.group gid.toNat).valid = true →
    (((u.group gid.toNat).p.lqps.take (u.group gid.toNat).p.localCnt).all (fun q => !((u.qp q).valid && (u.qp q).func = pathFn c.path))
      = true) →
    exec (.groupDestroy c gid) s = .next (u.ends n stNotPermitted).ended) ∧
  (∀ (c : CmdRef) (gid : BitVec 16) (s u : State) (n : Nat),
    Starts s .f 0x0907 c (pack [(2, gid.toNat)]) n u → gid.toNat < 4096 →
    (u.group gid.toNat).valid = true →
    (((u.group gid.toNat).p.lqps.take (u.group gid.toNat).p.localCnt).all (fun q => !((u.qp q).valid && (u.qp q).func = pathFn c.path))
      = false) →
    exec (.groupStatus c gid) s =
      .next (u.okay n [(8, (u.group gid.toNat).view gid.toNat), (8, (u.group gid.toNat).base + (u.group gid.toNat).size * 2 ^
        12)]).ended) ∧
  (∀ (c : CmdRef) (gid : BitVec 16) (s u : State) (n : Nat),
    Starts s .f 0x0907 c (pack [(2, gid.toNat)]) n u →
    (4096 ≤ gid.toNat ∨ (u.group gid.toNat).valid = false) →
    exec (.groupStatus c gid) s = .next (u.ends n stBadParam).ended) ∧
  (∀ (c : CmdRef) (gid : BitVec 16) (s u : State) (n : Nat),
    Starts s .f 0x0907 c (pack [(2, gid.toNat)]) n u → gid.toNat < 4096 →
    (u.group gid.toNat).valid = true →
    (((u.group gid.toNat).p.lqps.take (u.group gid.toNat).p.localCnt).all (fun q => !((u.qp q).valid && (u.qp q).func = pathFn c.path))
      = true) →
    exec (.groupStatus c gid) s = .next (u.ends n stNotPermitted).ended)

/-- When the command starts and the device is in the state the row asks for, PAIR_MODE sets the mirroring mode, PAIR_MOVE records the
move and sends its record to the mate, PAIR_TAKEOVER takes over the mate's functions and PAIR_STATUS answers; each ends OK. In
UNPAIRED, PAIR_MODE ends NOT_PERMITTED, and outside SOLO so does PAIR_TAKEOVER; a mode above 1 ends PAIR_MODE BAD_PARAM, and PAIR_MOVE
that its tests refuse ends with the status of the first that fails. (16_command_packets.md Table 16.7; 15_pair_operation.md R551 R553
R560 R564) -/
def Obligations.PairCommandsComplete : Prop :=
  (∀ (c : CmdRef) (mode : BitVec 8) (s u : State) (n : Nat),
    Starts s .d 0x0A00 c (pack [(1, mode.toNat)]) n u → u.pairState ≠ psUnpaired → mode.toNat ≤ 1 →
    exec (.pairMode c mode) s = .next ((u.pairMode (mode.toNat = 1)).ends n stOk).ended) ∧
  (∀ (c : CmdRef) (mode : BitVec 8) (s u : State) (n : Nat),
    Starts s .d 0x0A00 c (pack [(1, mode.toNat)]) n u → u.pairState = psUnpaired →
    exec (.pairMode c mode) s = .next (u.ends n stNotPermitted).ended) ∧
  (∀ (c : CmdRef) (mode : BitVec 8) (s u : State) (n : Nat),
    Starts s .d 0x0A00 c (pack [(1, mode.toNat)]) n u → u.pairState ≠ psUnpaired → 1 < mode.toNat →
    exec (.pairMode c mode) s = .next (u.ends n stBadParam).ended) ∧
  (∀ (c : CmdRef) (direction : BitVec 8) (g : BitVec 64) (s u : State) (n : Nat) (t : State),
    Starts s .d 0x0A01 c (pack [(1, direction.toNat), (8, g.toNat)]) n u →
    u.moveStatus direction.toNat g.toNat = stOk → t = (u.mirSend (.move g.toNat (direction.toNat = 1))).2 →
    exec (.pairMove c direction g) s =
      .next ((({ t with pair := { t.pair with move := some { target := g.toNat, isReturn := direction.toNat = 1, giving := true } } } :
        State).wr R.PAIR_MOVE_GT g.toNat).ends n stOk).ended) ∧
  (∀ (c : CmdRef) (direction : BitVec 8) (g : BitVec 64) (s u : State) (n : Nat),
    Starts s .d 0x0A01 c (pack [(1, direction.toNat), (8, g.toNat)]) n u →
    u.moveStatus direction.toNat g.toNat ≠ stOk →
    exec (.pairMove c direction g) s = .next (u.ends n (u.moveStatus direction.toNat g.toNat)).ended) ∧
  (∀ (c : CmdRef) (s u : State) (n : Nat),
    Starts s .a 0x0A02 c [] n u →
    exec (.pairStatus c) s = .next (u.okay n [(8, u.readReg 0x700010), (8, u.readReg 0x700018)]).ended) ∧
  (∀ (c : CmdRef) (s u : State) (n : Nat),
    Starts s .d 0x0A03 c [] n u → u.pairState = psSolo →
    exec (.pairTakeover c) s = .next ((u.takeover false).ends n stOk).ended) ∧
  (∀ (c : CmdRef) (s u : State) (n : Nat),
    Starts s .d 0x0A03 c [] n u → u.pairState ≠ psSolo →
    exec (.pairTakeover c) s = .next (u.ends n stNotPermitted).ended)

/-- When the command starts and its operands pass the checks of its row, RESET_FULL ends OK and leaves a full reset due, POWER_STATE
RUN abandons a pending PEAT request and ends OK and MOSS or PEAT is requested, WAKE_CFG writes the wake sources, LAST_WAKE,
SUPPLY_STATUS, FAULT_READ and FAULT_FIRST answer, FAULT_CLEAR clears status bits, FAULT_REACT and FAULT_GRACE write their fields,
DEV_PHASE sets the phase; out of range operands end BAD_PARAM. (16_command_packets.md Table 16.8; 16_command_packets.md R595;
17_reset_power_supplies.md R599 R615 R628; 18_faults.md R644 R646 R649) -/
def Obligations.PowerCommandsComplete : Prop :=
  (∀ (c : CmdRef) (delayUs : BitVec 32) (s u : State) (n : Nat),
    Starts s .d 0x0B00 c (pack [(4, delayUs.toNat)]) n u → delayUs.toNat ≤ 10000000 →
    exec (.resetFull c delayUs) s = .next (({ u with pwr := { u.pwr with delayReset := true } } : State).ends n stOk).ended) ∧
  (∀ (c : CmdRef) (delayUs : BitVec 32) (s u : State) (n : Nat),
    Starts s .d 0x0B00 c (pack [(4, delayUs.toNat)]) n u → 10000000 < delayUs.toNat →
    exec (.resetFull c delayUs) s = .next (u.ends n stBadParam).ended) ∧
  (∀ (c : CmdRef) (state : BitVec 8) (s u : State) (n : Nat),
    Starts s .d 0x0B01 c (pack [(1, state.toNat)]) n u → state.toNat = 0 → u.powerWaiter = none →
    exec (.powerState c state) s = .next (u.ends n stOk).ended) ∧
  (∀ (c : CmdRef) (state : BitVec 8) (s u : State) (n : Nat) (m : Nat),
    Starts s .d 0x0B01 c (pack [(1, state.toNat)]) n u → state.toNat = 0 → u.powerWaiter = some (m, 2) →
    exec (.powerState c state) s = .next ((u.powerFail m stFailed 10).ends n stOk).ended) ∧
  (∀ (c : CmdRef) (state : BitVec 8) (s u : State) (n : Nat),
    Starts s .d 0x0B01 c (pack [(1, state.toNat)]) n u → (state.toNat = 1 ∨ state.toNat = 2) →
    exec (.powerState c state) s = .next (u.powerRequest n state.toNat).ended) ∧
  (∀ (c : CmdRef) (state : BitVec 8) (s u : State) (n : Nat),
    Starts s .d 0x0B01 c (pack [(1, state.toNat)]) n u → 2 < state.toNat →
    exec (.powerState c state) s = .next (u.ends n stBadParam).ended) ∧
  (∀ (c : CmdRef) (state : BitVec 8) (s u : State) (n : Nat) (m k : Nat),
    Starts s .d 0x0B01 c (pack [(1, state.toNat)]) n u → state.toNat = 0 → u.powerWaiter = some (m, k) →
    k ≠ 2 →
    exec (.powerState c state) s = .next (u.ends n stOk).ended) ∧
  (∀ (c : CmdRef) (sources : BitVec 32) (s u : State) (n : Nat),
    Starts s .d 0x0B02 c (pack [(4, sources.toNat)]) n u →
    exec (.wakeCfg c sources) s = .next ((u.wr R.PWR_WAKE_EN_SOURCES sources.toNat).ends n stOk).ended) ∧
  (∀ (c : CmdRef) (s u : State) (n : Nat),
    Starts s .a 0x0B03 c [] n u →
    exec (.lastWake c) s = .next (u.okay n [(8, u.rd R.PWR_LAST_WAKE0_WORD0), (8, u.rd R.PWR_LAST_WAKE1_WORD1)]).ended) ∧
  (∀ (c : CmdRef) (s u : State) (n : Nat),
    Starts s .d 0x0B04 c [] n u →
    exec (.supplyStatus c) s = .next (u.okay n [(8, u.readReg 0x100040)]).ended) ∧
  (∀ (c : CmdRef) (page : BitVec 32) (s u : State) (n : Nat),
    Starts s .d 0x0C00 c (pack [(4, page.toNat)]) n u → isPage page.toNat = true →
    exec (.faultRead c page) s = .next (u.okay n [(8, u.faultWord page.toNat 0x00), (8, u.faultWord page.toNat 0x08)]).ended) ∧
  (∀ (c : CmdRef) (page : BitVec 32) (s u : State) (n : Nat),
    Starts s .d 0x0C00 c (pack [(4, page.toNat)]) n u → isPage page.toNat = false →
    exec (.faultRead c page) s = .next (u.ends n stBadParam).ended) ∧
  (∀ (c : CmdRef) (page : BitVec 32) (bits : BitVec 64) (s u : State) (n : Nat),
    Starts s .d 0x0C01 c (pack [(4, page.toNat), (8, bits.toNat)]) n u → isPage page.toNat = true →
    exec (.faultClear c page bits) s = .next ((u.writeFault (wordWrite 0 8 bits.toNat) page.toNat 0x00).ends n stOk).ended) ∧
  (∀ (c : CmdRef) (page : BitVec 32) (bits : BitVec 64) (s u : State) (n : Nat),
    Starts s .d 0x0C01 c (pack [(4, page.toNat), (8, bits.toNat)]) n u → isPage page.toNat = false →
    exec (.faultClear c page bits) s = .next (u.ends n stBadParam).ended) ∧
  (∀ (c : CmdRef) (page : BitVec 32) (source reaction : BitVec 8) (s u : State) (n : Nat),
    Starts s .d 0x0C02 c (pack [(4, page.toNat), (1, source.toNat), (1, reaction.toNat)]) n u →
    isPage page.toNat = true → source.toNat ≤ 15 → sourceAssigned page.toNat source.toNat = true →
    reaction.toNat < 16 → reaction.toNat % 8 < 6 → (source.toNat ≠ 14 ∨ reaction.toNat = 0xC) →
    exec (.faultReact c page source reaction) s =
      .next ((u.wr (reactField page.toNat source.toNat) reaction.toNat page.toNat).ends n stOk).ended) ∧
  (∀ (c : CmdRef) (page : BitVec 32) (source reaction : BitVec 8) (s u : State) (n : Nat),
    Starts s .d 0x0C02 c (pack [(4, page.toNat), (1, source.toNat), (1, reaction.toNat)]) n u →
    (¬ (isPage page.toNat = true ∧ source.toNat ≤ 15 ∧ sourceAssigned page.toNat source.toNat = true ∧ reaction.toNat < 16 ∧
      reaction.toNat % 8 < 6 ∧ (source.toNat ≠ 14 ∨ reaction.toNat = 0xC))) →
    exec (.faultReact c page source reaction) s = .next (u.ends n stBadParam).ended) ∧
  (∀ (c : CmdRef) (page : BitVec 32) (grace : BitVec 64) (s u : State) (n : Nat),
    Starts s .d 0x0C03 c (pack [(4, page.toNat), (8, grace.toNat)]) n u → isPage page.toNat = true →
    R.FLT_GRACE_GRACE.allows grace.toNat = true →
    exec (.faultGrace c page grace) s = .next ((u.wr R.FLT_GRACE_GRACE grace.toNat page.toNat).ends n stOk).ended) ∧
  (∀ (c : CmdRef) (page : BitVec 32) (grace : BitVec 64) (s u : State) (n : Nat),
    Starts s .d 0x0C03 c (pack [(4, page.toNat), (8, grace.toNat)]) n u →
    (isPage page.toNat = false ∨ R.FLT_GRACE_GRACE.allows grace.toNat = false) →
    exec (.faultGrace c page grace) s = .next (u.ends n stBadParam).ended) ∧
  (∀ (c : CmdRef) (page : BitVec 32) (s u : State) (n : Nat),
    Starts s .d 0x0C04 c (pack [(4, page.toNat)]) n u → isPage page.toNat = true →
    exec (.faultFirst c page) s =
      .next (u.okay n [(8, u.faultWord page.toNat 0x28), (8, u.faultWord page.toNat 0x30)]).ended) ∧
  (∀ (c : CmdRef) (page : BitVec 32) (s u : State) (n : Nat),
    Starts s .d 0x0C04 c (pack [(4, page.toNat)]) n u → isPage page.toNat = false →
    exec (.faultFirst c page) s = .next (u.ends n stBadParam).ended) ∧
  (∀ (c : CmdRef) (phase : BitVec 8) (s u : State) (n : Nat),
    Starts s .d 0x0C05 c (pack [(1, phase.toNat)]) n u → 1 ≤ phase.toNat → phase.toNat ≤ 3 →
    u.phase ≠ phStartup →
    exec (.devPhase c phase) s = .next ((u.setPhase phase.toNat).ends n stOk).ended) ∧
  (∀ (c : CmdRef) (phase : BitVec 8) (s u : State) (n : Nat),
    Starts s .d 0x0C05 c (pack [(1, phase.toNat)]) n u → 1 ≤ phase.toNat → phase.toNat ≤ 3 →
    u.phase = phStartup →
    exec (.devPhase c phase) s = .next (u.ends n stNotPermitted).ended) ∧
  (∀ (c : CmdRef) (phase : BitVec 8) (s u : State) (n : Nat),
    Starts s .d 0x0C05 c (pack [(1, phase.toNat)]) n u → (phase.toNat = 0 ∨ 3 < phase.toNat) →
    exec (.devPhase c phase) s = .next (u.ends n stBadParam).ended)

/-- When the command starts, READER_CFG with a START_GT at least 10 us ahead outside INVALID arms the reader, PERF_READ of a counter
answers its value and overflow bit, SNAPSHOT_COPY of a written snapshot puts its 83456 bytes at OUT_ADDR and answers the length; a
nearer START_GT, an address that is no counter and an index that is not held end BAD_PARAM, INVALID ends READER_CFG NOT_PERMITTED, and
a snapshot with an uncorrectable error ends SNAPSHOT_COPY FAILED. (16_command_packets.md Table 16.8; 19_performance_counters.md R676)
-/
def Obligations.ReaderCommandsComplete : Prop :=
  (∀ (c : CmdRef) (windowUs : BitVec 32) (startGt : BitVec 64) (s u : State) (n : Nat),
    Starts s .d 0x0D00 c (pack [(4, windowUs.toNat), (8, startGt.toNat)]) n u →
    u.gt + 160000 ≤ startGt.toNat → u.geysState ≠ gsInvalid →
    exec (.readerCfg c windowUs startGt) s = .next ((u.armReader windowUs.toNat startGt.toNat).ends n stOk).ended) ∧
  (∀ (c : CmdRef) (windowUs : BitVec 32) (startGt : BitVec 64) (s u : State) (n : Nat),
    Starts s .d 0x0D00 c (pack [(4, windowUs.toNat), (8, startGt.toNat)]) n u →
    startGt.toNat < u.gt + 160000 →
    exec (.readerCfg c windowUs startGt) s = .next (u.ends n stBadParam).ended) ∧
  (∀ (c : CmdRef) (windowUs : BitVec 32) (startGt : BitVec 64) (s u : State) (n : Nat),
    Starts s .d 0x0D00 c (pack [(4, windowUs.toNat), (8, startGt.toNat)]) n u →
    u.gt + 160000 ≤ startGt.toNat → u.geysState = gsInvalid →
    exec (.readerCfg c windowUs startGt) s = .next (u.ends n stNotPermitted).ended) ∧
  (∀ (c : CmdRef) (addr : BitVec 32) (s u : State) (n : Nat),
    Starts s .d 0x0D01 c (pack [(4, addr.toNat)]) n u → isCounter addr.toNat = true →
    exec (.perfRead c addr) s =
      .next (u.okay n [(8, u.rd (cntField addr.toNat)), (1, u.rd (ovfOf (cntField addr.toNat)))]).ended) ∧
  (∀ (c : CmdRef) (addr : BitVec 32) (s u : State) (n : Nat),
    Starts s .d 0x0D01 c (pack [(4, addr.toNat)]) n u → isCounter addr.toNat = false →
    exec (.perfRead c addr) s = .next (u.ends n stBadParam).ended) ∧
  (∀ (c : CmdRef) (index : BitVec 32) (outAddr : BitVec 64) (s u : State) (n : Nat),
    Starts s .p 0x0D02 c (pack [(4, index.toNat), (8, outAddr.toNat)]) n u →
    u.hbmNat (u.snapSlot index.toNat) 8 = index.toNat →
    bitAt (u.hbmNat (u.snapSlot index.toNat + 44) 1) 0 = true →
    u.cnt.bad.contains (index.toNat % 512) = false →
    exec (.snapshotCopy c index outAddr) s =
      .next (((u.bump C.HBM_RD_64B 0 (hbmBursts (u.snapSlot index.toNat) 83456)).hostWrite (cmdReq c outAddr.toNat) (u.hbmRead
        (u.snapSlot index.toNat) 83456)).okay n [(4, 83456)]).ended) ∧
  (∀ (c : CmdRef) (index : BitVec 32) (outAddr : BitVec 64) (s u : State) (n : Nat),
    Starts s .p 0x0D02 c (pack [(4, index.toNat), (8, outAddr.toNat)]) n u →
    (u.hbmNat (u.snapSlot index.toNat) 8 ≠ index.toNat ∨ bitAt (u.hbmNat (u.snapSlot index.toNat + 44) 1) 0 = false) →
    exec (.snapshotCopy c index outAddr) s = .next (u.ends n stBadParam).ended) ∧
  (∀ (c : CmdRef) (index : BitVec 32) (outAddr : BitVec 64) (s u : State) (n : Nat),
    Starts s .p 0x0D02 c (pack [(4, index.toNat), (8, outAddr.toNat)]) n u →
    u.hbmNat (u.snapSlot index.toNat) 8 = index.toNat →
    bitAt (u.hbmNat (u.snapSlot index.toNat + 44) 1) 0 = true →
    u.cnt.bad.contains (index.toNat % 512) = true →
    exec (.snapshotCopy c index outAddr) s = .next (u.ends n stFailed).ended)

/-- When the command starts and its operands pass the checks of its row, FW_STAGE and FW_STAGE_CHUNK write the staging area,
FW_ACTIVATE of a package that passes its checks activates it, FW_CONFIRM confirms the running trial, FW_STATUS answers, CFG_WRITE
takes a configuration that passes its checks, ATTEST signs its body over the nonce and puts 992 bytes at OUT_ADDR, IDENTITY_READ puts
the certificate there when it fits; each ends OK, and out of range operands end BAD_PARAM. A trial that runs ends FW_ACTIVATE and
CFG_WRITE BUSY, a start that is due ends FW_ACTIVATE, FW_CONFIRM and CFG_WRITE BUSY, as does FW_ACTIVATE in ROM load mode of a live
activation or of a staged package; FW_CONFIRM without a trial or outside SERVICE ends NOT_PERMITTED; a failed read of a buffer raises
DMA_ERR and ends FW_STAGE and CFG_WRITE FAILED, and a failed MRAM write ends FW_ACTIVATE, FW_CONFIRM and CFG_WRITE FAILED.
(16_command_packets.md Table 16.8; 20_firmware_and_trust.md R687 R691 R695 R696 R701 R706) -/
def Obligations.FirmwareCommandsComplete : Prop :=
  (∀ (c : CmdRef) (addr : BitVec 64) (len : BitVec 32) (data : HostRead) (s u : State) (n : Nat) (bs : List Byte),
    Starts s .p 0x0E00 c (pack [(8, addr.toNat), (4, len.toNat)]) n u → 0 < len.toNat →
    len.toNat ≤ stagingSize → data = some bs → bs.length = len.toNat →
    exec (.fwStage c addr len data) s =
      .next (((u.stageErase.hostRead (cmdReq c addr.toNat) len.toNat).stageWrite 0 bs).ends n stOk).ended) ∧
  (∀ (c : CmdRef) (addr : BitVec 64) (len : BitVec 32) (data : HostRead) (s u : State) (n : Nat),
    Starts s .p 0x0E00 c (pack [(8, addr.toNat), (4, len.toNat)]) n u →
    (len.toNat = 0 ∨ stagingSize < len.toNat) →
    exec (.fwStage c addr len data) s = .next (u.ends n stBadParam).ended) ∧
  (∀ (c : CmdRef) (addr : BitVec 64) (len : BitVec 32) (data : HostRead) (s u : State) (n : Nat),
    Starts s .p 0x0E00 c (pack [(8, addr.toNat), (4, len.toNat)]) n u → 0 < len.toNat →
    len.toNat ≤ stagingSize → data = none →
    exec (.fwStage c addr len data) s =
      .next (((u.stageErase.hostRead (cmdReq c addr.toNat) len.toNat).dmaError (pathFn c.path)).finalReply n stFailed []).ended) ∧
  (∀ (c : CmdRef) (offset : BitVec 32) (len : BitVec 8) (data : List Byte) (s u : State) (n : Nat),
    Starts s .d 0x0E01 c (pack [(4, offset.toNat), (1, len.toNat)] ++ [0, 0, 0] ++ data) n u →
    1 ≤ len.toNat → len.toNat ≤ 48 → zeros (data.drop len.toNat) = true →
    offset.toNat + len.toNat ≤ stagingSize →
    exec (.fwStageChunk c offset len data) s =
      .next (((if offset.toNat = 0 then u.stageErase else u).stageWrite offset.toNat (data.take len.toNat)).ends n stOk).ended) ∧
  (∀ (c : CmdRef) (offset : BitVec 32) (len : BitVec 8) (data : List Byte) (s u : State) (n : Nat),
    Starts s .d 0x0E01 c (pack [(4, offset.toNat), (1, len.toNat)] ++ [0, 0, 0] ++ data) n u →
    (len.toNat = 0 ∨ 48 < len.toNat ∨ zeros (data.drop len.toNat) = false ∨ stagingSize < offset.toNat + len.toNat) →
    exec (.fwStageChunk c offset len data) s = .next (u.ends n stBadParam).ended) ∧
  (∀ (c : CmdRef) (components : BitVec 32) (live : BitVec 8) (flashOk mramOk : Bool) (s u : State) (n : Nat),
    Starts s .d 0x0E02 c (pack [(4, components.toNat), (1, live.toNat)]) n u → u.trialRuns = false →
    (u.pwr.boot ≠ .load ∨ live.toNat = 0 ∧ (u.rd R.FWU_STAGE_LEN = 0 ∨ pkgKind u.pkgHeader = 0)) →
    live.toNat ≤ 1 → components.toNat < 16 → u.rd R.FWU_STAGE_LEN ≠ 0 → u.bootBusy = false →
    mramOk = true →
    exec (.fwActivate c components live flashOk mramOk) s =
      .next (match u.activate components.toNat (live.toNat = 1) flashOk with | (t, none) => t.otherAgain.activateDone n (live.toNat = 1) | (t, some (code, comp)) => (((t.otherAgain.wr R.FWU_ERR_CODE code).wr R.FWU_ERR_COMP comp).raise pgFwu 0 comp).finalReply n stFailed (pack [(1, code)])).ended) ∧
  (∀ (c : CmdRef) (components : BitVec 32) (live : BitVec 8) (flashOk mramOk : Bool) (s u : State) (n : Nat),
    Starts s .d 0x0E02 c (pack [(4, components.toNat), (1, live.toNat)]) n u → u.trialRuns = true →
    exec (.fwActivate c components live flashOk mramOk) s = .next (u.ends n stBusy).ended) ∧
  (∀ (c : CmdRef) (components : BitVec 32) (live : BitVec 8) (flashOk mramOk : Bool) (s u : State) (n : Nat),
    Starts s .d 0x0E02 c (pack [(4, components.toNat), (1, live.toNat)]) n u → u.trialRuns = false →
    u.pwr.boot = .load → (live.toNat ≠ 0 ∨ u.rd R.FWU_STAGE_LEN ≠ 0 ∧ pkgKind u.pkgHeader ≠ 0) →
    exec (.fwActivate c components live flashOk mramOk) s = .next (u.ends n stBusy).ended) ∧
  (∀ (c : CmdRef) (components : BitVec 32) (live : BitVec 8) (flashOk mramOk : Bool) (s u : State) (n : Nat),
    Starts s .d 0x0E02 c (pack [(4, components.toNat), (1, live.toNat)]) n u → u.trialRuns = false →
    (u.pwr.boot ≠ .load ∨ live.toNat = 0 ∧ (u.rd R.FWU_STAGE_LEN = 0 ∨ pkgKind u.pkgHeader = 0)) →
    (1 < live.toNat ∨ 16 ≤ components.toNat ∨ u.rd R.FWU_STAGE_LEN = 0) →
    exec (.fwActivate c components live flashOk mramOk) s = .next (u.ends n stBadParam).ended) ∧
  (∀ (c : CmdRef) (components : BitVec 32) (live : BitVec 8) (flashOk mramOk : Bool) (s u : State) (n : Nat),
    Starts s .d 0x0E02 c (pack [(4, components.toNat), (1, live.toNat)]) n u → u.trialRuns = false →
    (u.pwr.boot ≠ .load ∨ live.toNat = 0 ∧ (u.rd R.FWU_STAGE_LEN = 0 ∨ pkgKind u.pkgHeader = 0)) →
    live.toNat ≤ 1 → components.toNat < 16 → u.rd R.FWU_STAGE_LEN ≠ 0 → u.bootBusy = true →
    exec (.fwActivate c components live flashOk mramOk) s = .next (u.ends n stBusy).ended) ∧
  (∀ (c : CmdRef) (components : BitVec 32) (live : BitVec 8) (flashOk mramOk : Bool) (s u : State) (n : Nat),
    Starts s .d 0x0E02 c (pack [(4, components.toNat), (1, live.toNat)]) n u → u.trialRuns = false →
    (u.pwr.boot ≠ .load ∨ live.toNat = 0 ∧ (u.rd R.FWU_STAGE_LEN = 0 ∨ pkgKind u.pkgHeader = 0)) →
    live.toNat ≤ 1 → components.toNat < 16 → u.rd R.FWU_STAGE_LEN ≠ 0 → u.bootBusy = false →
    mramOk = false →
    exec (.fwActivate c components live flashOk mramOk) s =
      .next (match u.activate components.toNat (live.toNat = 1) flashOk with | (t, none) => t.otherAgain.bootFail.finalReply n stFailed (pack [(1, 0)]) | (t, some (code, comp)) => (((t.otherAgain.wr R.FWU_ERR_CODE code).wr R.FWU_ERR_COMP comp).raise pgFwu 0 comp).finalReply n stFailed (pack [(1, code)])).ended) ∧
  (∀ (c : CmdRef) (mramOk : Bool) (s u : State) (n : Nat) (v : State),
    Starts s .d 0x0E03 c [] n u → u.trialRuns = true → u.phase = phService → u.bootBusy = false →
    mramOk = true →
    (v = (u.bootStamp.setNv fun x => { x.noTrial with activeImg := if x.trialImg then !x.activeImg else x.activeImg, activeCfg := if x.trialCfg then !x.activeCfg else x.activeCfg, floorPending := true }).completeFloors.otherAgain)
      →
    exec (.fwConfirm c mramOk) s =
      .next ((({ v with aon := { v.aon with confirmEnd := none, confirmDue := none } } : State).journalOpen jrConfirm).ends n
        stOk).ended) ∧
  (∀ (c : CmdRef) (mramOk : Bool) (s u : State) (n : Nat),
    Starts s .d 0x0E03 c [] n u → u.trialRuns = false →
    exec (.fwConfirm c mramOk) s = .next (u.ends n stNotPermitted).ended) ∧
  (∀ (c : CmdRef) (mramOk : Bool) (s u : State) (n : Nat),
    Starts s .d 0x0E03 c [] n u → u.trialRuns = true → u.phase ≠ phService →
    exec (.fwConfirm c mramOk) s = .next (u.ends n stNotPermitted).ended) ∧
  (∀ (c : CmdRef) (mramOk : Bool) (s u : State) (n : Nat),
    Starts s .d 0x0E03 c [] n u → u.trialRuns = true → u.phase = phService → u.bootBusy = true →
    exec (.fwConfirm c mramOk) s = .next (u.ends n stBusy).ended) ∧
  (∀ (c : CmdRef) (mramOk : Bool) (s u : State) (n : Nat),
    Starts s .d 0x0E03 c [] n u → u.trialRuns = true → u.phase = phService → u.bootBusy = false →
    mramOk = false →
    exec (.fwConfirm c mramOk) s = .next (u.bootFail.ends n stFailed).ended) ∧
  (∀ (c : CmdRef) (s u : State) (n : Nat),
    Starts s .a 0x0E04 c [] n u →
    exec (.fwStatus c) s =
      .next (u.okay n [(4, u.rd R.FWU_RELEASE_RUN), (4, u.rd R.FWU_RELEASE_OTHER), (4, field (u.readReg 0x500000) 0 32), (4,
        u.confirmRemain)]).ended) ∧
  (∀ (c : CmdRef) (addr : BitVec 64) (len : BitVec 32) (data : HostRead) (mramOk : Bool) (s u : State) (n : Nat) (bs : List Byte) (v :
    State),
    Starts s .p 0x0E05 c (pack [(8, addr.toNat), (4, len.toNat)]) n u → u.trialRuns = false →
    data = some bs → bs.length = len.toNat → 0 < len.toNat →
    v = u.hostRead (cmdReq c addr.toNat) len.toNat → v.bootBusy = false → mramOk = true →
    exec (.cfgWrite c addr len data mramOk) s =
      .next (if v.cfgStatus len.toNat bs = stOk then (v.bootStamp.cfgTake bs).ends n stOk else v.ends n (v.cfgStatus len.toNat
        bs)).ended) ∧
  (∀ (c : CmdRef) (addr : BitVec 64) (len : BitVec 32) (data : HostRead) (mramOk : Bool) (s u : State) (n : Nat),
    Starts s .p 0x0E05 c (pack [(8, addr.toNat), (4, len.toNat)]) n u → u.trialRuns = true →
    exec (.cfgWrite c addr len data mramOk) s = .next (u.ends n stBusy).ended) ∧
  (∀ (c : CmdRef) (addr : BitVec 64) (len : BitVec 32) (data : HostRead) (mramOk : Bool) (s u : State) (n : Nat),
    Starts s .p 0x0E05 c (pack [(8, addr.toNat), (4, len.toNat)]) n u → u.trialRuns = false → data = none →
    0 < len.toNat →
    exec (.cfgWrite c addr len data mramOk) s =
      .next (((u.hostRead (cmdReq c addr.toNat) len.toNat).dmaError (pathFn c.path)).finalReply n stFailed []).ended) ∧
  (∀ (c : CmdRef) (addr : BitVec 64) (len : BitVec 32) (data : HostRead) (mramOk : Bool) (s u : State) (n : Nat) (bs : List Byte) (v :
    State),
    Starts s .p 0x0E05 c (pack [(8, addr.toNat), (4, len.toNat)]) n u → u.trialRuns = false →
    data = some bs → bs.length = len.toNat → 0 < len.toNat →
    v = u.hostRead (cmdReq c addr.toNat) len.toNat → (v.bootBusy = true ∨ mramOk = false) →
    exec (.cfgWrite c addr len data mramOk) s =
      .next (if v.cfgStatus len.toNat bs ≠ stOk then v.ends n (v.cfgStatus len.toNat bs) else if v.bootBusy then v.ends n stBusy else
        v.bootFail.ends n stFailed).ended) ∧
  (∀ (c : CmdRef) (addr : BitVec 64) (len : BitVec 32) (data : HostRead) (mramOk : Bool) (s u : State) (n : Nat),
    Starts s .p 0x0E05 c (pack [(8, addr.toNat), (4, len.toNat)]) n u → u.trialRuns = false → data = none →
    len.toNat = 0 →
    exec (.cfgWrite c addr len data mramOk) s =
      .next (if u.cfgStatus 0 [] ≠ stOk then u.ends n (u.cfgStatus 0 []) else if u.bootBusy then u.ends n stBusy else if mramOk then
        (u.bootStamp.cfgTake []).ends n stOk else u.bootFail.ends n stFailed).ended) ∧
  (∀ (c : CmdRef) (outAddr : BitVec 64) (nonce : List Byte) (s u : State) (n : Nat),
    Starts s .p 0x0E06 c (pack [(8, outAddr.toNat)] ++ nonce) n u →
    exec (.attest c outAddr nonce) s =
      .next ((({ u with free := u.free + 1 } : State).hostWrite (cmdReq c outAddr.toNat) (u.attestBody nonce ++ toBytes 96
        (Config.attestSign u.compHashes (u.attestBody nonce) u.free).toNat)).okay n [(4, 992)]).ended) ∧
  (∀ (c : CmdRef) (index : BitVec 8) (outAddr : BitVec 64) (outLen : BitVec 32) (s u : State) (n : Nat),
    Starts s .p 0x0E07 c (pack [(1, index.toNat), (8, outAddr.toNat), (4, outLen.toNat)]) n u →
    index.toNat ≤ 2 →
    exec (.identityRead c index outAddr outLen) s =
      .next (if outLen.toNat < (u.certOf index.toNat).length then u.finalReply n stBadParam (pack [(4, (u.certOf index.toNat).length)])
        else (u.hostWrite (cmdReq c outAddr.toNat) (u.certOf index.toNat)).okay n [(4, (u.certOf index.toNat).length)]).ended) ∧
  (∀ (c : CmdRef) (index : BitVec 8) (outAddr : BitVec 64) (outLen : BitVec 32) (s u : State) (n : Nat),
    Starts s .p 0x0E07 c (pack [(1, index.toNat), (8, outAddr.toNat), (4, outLen.toNat)]) n u →
    2 < index.toNat →
    exec (.identityRead c index outAddr outLen) s = .next (u.ends n stBadParam).ended)

/-- When the command starts, EXPERT_CHALLENGE outside a lockout draws a new 128-bit nonce, keeps it for the path and answers it,
EXPERT_UNLOCK unlocks the path when its policy is OPEN and, with policy SIGNED, when the token is right, EXPERT_LOCK locks it,
REG_READ and REG_WRITE with a valid address and width act on the register space, EXPERT_STATUS answers; each ends OK. In a lockout
EXPERT_CHALLENGE ends BUSY and with policy NEVER, or a value above it, EXPERT_UNLOCK ends NOT_PERMITTED. (16_command_packets.md Table
16.8; 16_command_packets.md R593 R594 R595; 22_register_space.md R738) -/
def Obligations.ExpertCommandsComplete : Prop :=
  (∀ (c : CmdRef) (s u : State) (n : Nat) (t : State),
    Starts s .px 0x0F00 c [] n u → u.on R.CMD_EXPERT_LOCKOUT = false → t = (u.draw 128).2 →
    exec (.expertChallenge c) s =
      .next (({ t with cmd := { t.cmd with nonces := tput none t.cmd.nonces (unlockKey c.path) (some ((u.draw 128).1, t.time.cycles)) } }
        : State).okay n [(8, (u.draw 128).1 % 2 ^ 64), (8, (u.draw 128).1 / 2 ^ 64)]).ended) ∧
  (∀ (c : CmdRef) (s u : State) (n : Nat),
    Starts s .px 0x0F00 c [] n u → u.on R.CMD_EXPERT_LOCKOUT = true →
    exec (.expertChallenge c) s = .next (u.ends n stBusy).ended) ∧
  (∀ (c : CmdRef) (token : List Byte) (s u : State) (n : Nat),
    Starts s .px 0x0F01 c token n u → u.unlockPolicy (unlockKey c.path) = 1 →
    exec (.expertUnlock c token) s =
      .next (((({ u with cmd := { u.cmd with failRun := 0 } } : State).setUnlock (unlockKey c.path) true).bump C.CMD_UNLOCKS).ends n
        stOk).ended) ∧
  (∀ (c : CmdRef) (token : List Byte) (s u : State) (n : Nat),
    Starts s .px 0x0F01 c token n u → u.unlockPolicy (unlockKey c.path) = 2 →
    exec (.expertUnlock c token) s =
      .next (if u.tokenOk (unlockKey c.path) token = true then ((({ u with cmd := { u.cmd with failRun := 0, nonces := tput none u.cmd.nonces (unlockKey c.path) none } }
        : State).setUnlock (unlockKey c.path) true).bump C.CMD_UNLOCKS).ends n stOk else ({ u with cmd := { u.cmd with nonces := tput none u.cmd.nonces (unlockKey c.path) none } }
        : State).unlockFail.ends n stNotPermitted).ended) ∧
  (∀ (c : CmdRef) (token : List Byte) (s u : State) (n : Nat),
    Starts s .px 0x0F01 c token n u → u.unlockPolicy (unlockKey c.path) = 0 →
    exec (.expertUnlock c token) s = .next (u.ends n stNotPermitted).ended) ∧
  (∀ (c : CmdRef) (token : List Byte) (s u : State) (n : Nat),
    Starts s .px 0x0F01 c token n u → 2 < u.unlockPolicy (unlockKey c.path) →
    exec (.expertUnlock c token) s = .next (u.ends n stNotPermitted).ended) ∧
  (∀ (c : CmdRef) (s u : State) (n : Nat),
    Starts s .px 0x0F02 c [] n u →
    exec (.expertLock c) s = .next ((u.setUnlock (unlockKey c.path) false).ends n stOk).ended) ∧
  (∀ (c : CmdRef) (addr : BitVec 32) (width : BitVec 8) (s u : State) (n : Nat),
    Starts s .px 0x0F03 c (pack [(4, addr.toNat), (1, width.toNat)]) n u →
    regArgs addr.toNat width.toNat = true →
    exec (.regRead c addr width) s =
      .next ((u.busRead addr.toNat width.toNat).2.okay n [(8, (u.busRead addr.toNat width.toNat).1)]).ended) ∧
  (∀ (c : CmdRef) (addr : BitVec 32) (width : BitVec 8) (s u : State) (n : Nat),
    Starts s .px 0x0F03 c (pack [(4, addr.toNat), (1, width.toNat)]) n u →
    regArgs addr.toNat width.toNat = false →
    exec (.regRead c addr width) s = .next (u.ends n stBadParam).ended) ∧
  (∀ (c : CmdRef) (addr : BitVec 32) (width : BitVec 8) (value : BitVec 64) (s u : State) (n : Nat),
    Starts s .px 0x0F04 c (pack [(4, addr.toNat), (1, width.toNat), (8, value.toNat)]) n u →
    regArgs addr.toNat width.toNat = true →
    exec (.regWrite c addr width value) s =
      .next ((u.busWrite addr.toNat width.toNat value.toNat).ends n stOk).carrWatch.ended) ∧
  (∀ (c : CmdRef) (addr : BitVec 32) (width : BitVec 8) (value : BitVec 64) (s u : State) (n : Nat),
    Starts s .px 0x0F04 c (pack [(4, addr.toNat), (1, width.toNat), (8, value.toNat)]) n u →
    regArgs addr.toNat width.toNat = false →
    exec (.regWrite c addr width value) s = .next (u.ends n stBadParam).carrWatch.ended) ∧
  (∀ (c : CmdRef) (s u : State) (n : Nat),
    Starts s .a 0x0F05 c [] n u →
    exec (.expertStatus c) s = .next (u.okay n [(8, u.readReg 0x600008)]).ended)

/-- While the device runs, a packet for an endpoint port wakes the device from MOSS, and a free output marks the packets it may not
take and grants the one that round-robin serves next (one whose link is RETIRED is discarded instead); a complete packet at the head
of its output passes its tail; a receive pipeline hands on a well-formed packet with a right end-to-end CRC, and drops and counts one
with a wrong CRC. (01_architecture.md R28 R29 R31) -/
def Obligations.CrossbarCommandsComplete : Prop :=
  (∀ (output : Fin 108) (s t v : State) (w : Waiting),
    s.runs = true → t = s.netRxWake output.val → t.outputFree output.val = true →
    (v = ((t.waiting output.val).filter fun x => !t.fits output.val x).foldl State.markDenied t) →
    v.nextWaiting output.val ((v.waiting output.val).filter (v.admits output.val)) = some w →
    exec (.crossbarGrant output) s =
      .next (if output.val < 96 ∧ v.linkState output.val = lkRetired then v.discardRetired output.val w else v.grant output.val w).ended) ∧
  (∀ (output : Fin 108) (s : State) (h : Holder) (k : BufPkt),
    s.runs = true → s.heldPkt output.val = some (h, k) → k.need = 0 →
    (96 ≤ output.val ∨ k.sent = k.seen.length) →
    exec (.packetTailPass output) s = .next (s.tailPass output.val h k).ended) ∧
  (∀ (e : Fin 10) (s : State) (p : List Flit) (rest : List (List Flit)),
    s.engines = true → s.rxPasses e.val = none → s.rx e.val = p :: rest → pktCrcOk p = true →
    malformed (p.headD 0) = false →
    hPtype (p.headD 0) ∉ ([ptCollContrib, ptCollResult, ptLineMcast, ptMgmtReq, ptMgmtResp] : List Nat) →
    exec (.rxPipelinePacket e) s = .next ((s.rxPacket e.val p).rxAcks e.val p).ended) ∧
  (∀ (e : Fin 10) (s : State) (p : List Flit) (rest : List (List Flit)),
    s.engines = true → s.rxPasses e.val = none → s.rx e.val = p :: rest → pktCrcOk p = true →
    malformed (p.headD 0) = false →
    (hPtype (p.headD 0) = ptCollResult ∨ hPtype (p.headD 0) = ptLineMcast) →
    exec (.rxPipelinePacket e) s = .next ((s.rxColl e.val p).rxAcks e.val p).ended) ∧
  (∀ (e : Fin 10) (s : State) (p : List Flit) (rest : List (List Flit)),
    s.engines = true → s.rxPasses e.val = none → s.rx e.val = p :: rest → pktCrcOk p = false →
    exec (.rxPipelinePacket e) s = .next (((s.rxDrop e.val).bump C.TPT_CRC_E2E).rxAcks e.val p).ended) ∧
  (∀ (e : Fin 10) (s : State) (j : Nat) (p : List Flit) (v : State),
    s.engines = true → s.rxPasses e.val = some j → (s.rx e.val)[j]? = some p →
    v = ((s.setRx e.val (p :: (s.rx e.val).eraseIdx j)).setPipe e.val {}).rxFront e.val →
    exec (.rxPipelinePacket e) s = .next ((v.setPipe e.val (s.pipe e.val)).rxAcks e.val p).ended)

/-- While the device runs, the undecided packet at the front of an input buffer is routed (a collective packet to its tap or
endpoint); a LINE, FLIP or MARK notice is taken and has its effect; the writes of FLIP_ARM and TRANSIT_OFF act; an armed flip whose GT
has come outside INVALID flips the banks, late where GT is past it; HOLDING clears when its time has come. (07_dynamic_routing.md R238
R245 R246 R253 R255 R257 R263 R267) -/
def Obligations.RouterCommandsComplete : Prop :=
  (∀ (input : Fin 108) (v : Vc) (s : State) (k : BufPkt) (rest : List BufPkt),
    s.runs = true → (s.inVc input.val v.val).pkts = k :: rest →
    ((s.inVc input.val v.val).pkts.any (fun x => x.bad) = false) → k.copy = none → k.undecided = true →
    collectiveHere input.val k.head = false →
    exec (.routeDecision input v) s = .next ((s.routeFront input.val v.val k).lineUpdate).ended) ∧
  (∀ (input : Fin 108) (v : Vc) (s : State) (k : BufPkt) (rest : List BufPkt) (t : Option Target),
    s.runs = true → (s.inVc input.val v.val).pkts = k :: rest →
    ((s.inVc input.val v.val).pkts.any (fun x => x.bad) = false) → k.copy = none → k.undecided = true →
    collectiveHere input.val k.head = true → t.isSome = true → t = s.collectiveTarget k.head (k.need = 0) →
    exec (.routeDecision input v) s =
      .next (s.setFront input.val v.val { k with route := t.map fun y => { target := y, vc := hVc k.head } }).ended) ∧
  (∀ (p : Port) (flit : Flit) (s : State),
    s.runs = true → fget flit 0 8 = 2 → fget flit 16 2 = 0 →
    exec (.lineNoticeReceive p flit) s = .next ((s.bcTake p.val flit).lineNoticeIn p.val flit).ended) ∧
  (∀ (p : Port) (s : State),
    s.runs = true →
    exec (.lineNoticeRefresh p) s = .next (s.lineSendOn p.val).ended) ∧
  (∀ (bit : Bool) (s : State),
    s.runs = true →
    exec (.flipArmWrite bit) s = .next (if bit then s.flipArm else s).ended) ∧
  (∀ (p : Port) (flit : Flit) (s : State),
    s.runs = true → fget flit 0 8 = 3 →
    exec (.flipNoticeReceive p flit) s = .next ((s.bcTake p.val flit).flipNoticeIn p.val flit).ended) ∧
  (∀ (s : State) (a : ArmedFlip),
    s.runs = true → s.rout.armed = some a → s.geysState ≠ gsInvalid → a.target ≤ s.gt →
    exec (.routingFlip) s = .next (s.doFlip (s.lateFor a.target) false).ended) ∧
  (∀ (s : State) (t : Nat),
    s.runs = true → s.on R.ROUT_BANK_HOLDING = true → s.rout.holdEnd = some (.gt t) → t ≤ s.gt →
    s.geysState ≠ gsInvalid →
    exec (.bankHoldExpire) s =
      .next ((({ s with rout := { s.rout with holdEnd := none } } : State).wr R.ROUT_BANK_HOLDING 0).lineUpdate).ended) ∧
  (∀ (s : State) (t : Nat),
    s.runs = true → s.on R.ROUT_BANK_HOLDING = true → s.rout.holdEnd = some (.local_ t) →
    t ≤ s.time.cycles →
    exec (.bankHoldExpire) s =
      .next ((({ s with rout := { s.rout with holdEnd := none } } : State).wr R.ROUT_BANK_HOLDING 0).lineUpdate).ended) ∧
  (∀ (p : Port) (flit : Flit) (s : State),
    s.runs = true → fget flit 0 8 = 2 → fget flit 16 2 = 1 →
    exec (.markNoticeReceive p flit) s =
      .next ((s.bcTake p.val flit).markRoute (fget flit 8 8) (fget flit 24 20) (fget flit 44 20) (fget flit 64 8) false).ended) ∧
  (∀ (bit : Bool) (s : State),
    s.runs = true →
    exec (.routTransitOffWrite bit) s = .next (s.setTransitOff bit).ended)

/-- While the device runs: a codeword pair received is decoded, counted on both lanes and hands its data to the byte stream, and in
T_COEF it may end the exchange; a comma half on the grid is counted towards lock, an off-grid loss counts a miss and the fourth in a
row loses lock, and a sent comma carries its index; EN and RETRAIN writes turn the port on, off or retrain it; signal detect and loss
set and clear the lane's status; a training frame in T_CDR or T_COEF advances training. (04_lanes.md R131 R133 R134 R142 R145 R158) -/
def Obligations.LaneCommandsComplete : Prop :=
  (∀ (p : Port) (x : PairLevels) (s : State) (w : List Nat × List Nat) (v t : State),
    s.runs = true → (s.pst p.val = tIdent ∨ s.pst p.val = tUp ∨ s.pst p.val = tQuiet) →
    w = s.pairReceived p.val x.pair.val x.first x.second →
    v = (s.takeCodeword p.val w.1).takeCodeword p.val w.2 →
    (t = if v.pst p.val = tUp then (v.adapt (2 * p.val) false).adapt (2 * p.val + 1) false else v) →
    exec (.codewordDecode p x) s =
      .next (if t.tooManyBad (2 * p.val) then (t.loseComma (2 * p.val)).loseComma (2 * p.val + 1) else t).carrWatch.ended) ∧
  (∀ (p : Port) (x : PairLevels) (s : State),
    s.runs = true → s.pst p.val = tCoef →
    exec (.codewordDecode p x) s = .next (s.fecSeen p.val).carrWatch.ended) ∧
  (∀ (l : Lane) (marker cidx ctag : List Level) (grid : Bool) (frac : BitVec 6) (skew : BitVec 9) (s : State),
    s.runs = true →
    commaRead (uninvert ((s.fecSeen (l.val / 2)).on R.LANE_STATUS_RX_INV l.val) marker) (uninvert ((s.fecSeen (l.val / 2)).on
      R.LANE_STATUS_RX_INV l.val) cidx) (uninvert ((s.fecSeen (l.val / 2)).on R.LANE_STATUS_RX_INV l.val) ctag) = none →
    exec (.commaHalfReceive l marker cidx ctag grid frac skew) s = .next (s.fecSeen (l.val / 2)).carrWatch.ended) ∧
  (∀ (l : Lane) (marker cidx ctag : List Level) (grid : Bool) (frac : BitVec 6) (skew : BitVec 9) (s : State) (x : BitVec 10 × Nat),
    s.runs = true → onGrid ((s.fecSeen (l.val / 2)).pst (l.val / 2)) = true →
    commaRead (uninvert ((s.fecSeen (l.val / 2)).on R.LANE_STATUS_RX_INV l.val) marker) (uninvert ((s.fecSeen (l.val / 2)).on
      R.LANE_STATUS_RX_INV l.val) cidx) (uninvert ((s.fecSeen (l.val / 2)).on R.LANE_STATUS_RX_INV l.val) ctag) = some x →
    exec (.commaHalfReceive l marker cidx ctag grid frac skew) s =
      .next ((s.fecSeen (l.val / 2)).commaTake l.val x.1 x.2 grid frac.toNat skew.toNat).carrWatch.ended) ∧
  (∀ (l : Lane) (s : State),
    s.runs = true → onGrid (s.pst (l.val / 2)) = true → (s.lane l.val).lastCidx ≠ none →
    4 ≤ (s.lane l.val).missRun + 1 →
    exec (.commaLockLoss l) s =
      .next (((s.setLane l.val { s.lane l.val with missRun := (s.lane l.val).missRun + 1 }).bump C.LANE_COMMA_MISS l.val).loseComma
        l.val).carrWatch.ended) ∧
  (∀ (l : Lane) (frac : BitVec 6) (s : State),
    s.runs = true → onGrid (s.pst (l.val / 2)) = true → s.halfDue l.val = true →
    exec (.commaHalfTransmit l frac) s = .next (s.commaSend l.val frac.toNat).carrWatch.ended) ∧
  (∀ (p : Port) (en : Bool) (s : State),
    s.runs = true →
    exec (.portCtrlEnWrite p en) s = .next (s.setPortEn p.val en).carrWatch.ended) ∧
  (∀ (p : Port) (bit : Bool) (s : State),
    s.runs = true →
    exec (.portCtrlRetrainWrite p bit) s = .next (if bit then s.retrain p.val false else s).carrWatch.ended) ∧
  (∀ (l : Lane) (s : State),
    s.runs = true →
    exec (.laneSignalDetect l) s =
      .next (((s.wr R.LANE_STATUS_SIGDET 1 l.val).cond (pgLane l.val) 0 false).tryCdr (l.val / 2)).carrWatch.ended) ∧
  (∀ (l : Lane) (lockOnly : Bool) (s v : State),
    s.runs = true → v = (s.wr R.LANE_STATUS_CDR_LOCK 0 l.val).wr R.LANE_STATUS_COMMA_LOCK 0 l.val →
    exec (.laneSignalLoss l lockOnly) s =
      .next ((if lockOnly then v.cond (pgLane l.val) 1 true else (v.wr R.LANE_STATUS_SIGDET 0 l.val).cond (pgLane l.val) 0
        true).lostLock (l.val / 2)).carrWatch.ended)

/-- While the device runs: a training frame with a marker received in T_CDR or T_COEF locks the lane's marker and its words act; a
limit that expires in T_ALIGN or T_IDENT, or unshortened in T_CDR or T_COEF, holds the port in T_HOLD and raises TRAIN_FAIL; the hold
and the miswired wait end in T_SEND; the fourth identical good record that R67 accepts brings the port to T_UP with the peer's
identity, one it refuses to T_MISWIRED; work ends LP-QUIET, energy ends LP-DORMANT and latches the wake, and a shortened exit that
runs out becomes a slow one. (02_grid_and_addressing.md R67; 04_lanes.md R139 R141 R142 R150 R151 R152) -/
def Obligations.TrainingCommandsComplete : Prop :=
  (∀ (l : Lane) (marker words : List Level) (wish : BitVec 8) (adapted : Bool) (s : State) (inv : Bool),
    s.runs = true → markerInverted marker = some inv →
    ((s.tryCdr (l.val / 2)).pst (l.val / 2) = tCdr ∨ (s.tryCdr (l.val / 2)).pst (l.val / 2) = tCoef) →
    exec (.trainFrameReceive l marker words wish adapted) s =
      .next ((s.tryCdr (l.val / 2)).trainTake l.val inv (readWord (uninvert inv words) 0) (readWord (uninvert inv words) 128) wish.toNat
        adapted).carrWatch.ended) ∧
  (∀ (p : Port) (s : State),
    s.runs = true →
    (((s.pst p.val = tCdr ∨ s.pst p.val = tCoef) ∧ (s.port p.val).shortLimits = false) ∨ s.pst p.val = tAlign ∨ s.pst p.val = tIdent) →
    exec (.trainLimitExpire p) s =
      .next ((((s.setPst p.val tHold).wr R.PORT_STATUS_TRAIN_FAIL 1 p.val).raise (pgLane (2 * p.val)) 2).emit (.idle
        p.val)).carrWatch.ended) ∧
  (∀ (p : Port) (s : State),
    s.runs = true → s.pst p.val = tHold →
    exec (.trainHoldExpire p) s = .next (s.enterSend p.val false).carrWatch.ended) ∧
  (∀ (p : Port) (pair : Fin 2049) (s : State) (record : Flit) (marked : Bool) (v t : State),
    s.runs = true → s.pst p.val = tIdent → s.nextRecord p.val = some (record, marked) →
    v = s.setLink p.val { s.link p.val with rxBytes := (s.link p.val).rxBytes.drop 340 } →
    t = v.setPort p.val ((v.port p.val).takeRecord record marked) → (t.port p.val).idRun < 4 →
    exec (.identityRecordReceive p pair) s = .next t.carrWatch.ended) ∧
  (∀ (p : Port) (pair : Fin 2049) (s : State) (record : Flit) (marked : Bool) (v t : State),
    s.runs = true → s.pst p.val = tIdent → s.nextRecord p.val = some (record, marked) →
    v = s.setLink p.val { s.link p.val with rxBytes := (s.link p.val).rxBytes.drop 340 } →
    t = v.setPort p.val ((v.port p.val).takeRecord record marked) → 4 ≤ (t.port p.val).idRun →
    t.identityOk p.val record = false →
    exec (.identityRecordReceive p pair) s =
      .next ((((t.setPst p.val tMis).cond (pgLane (2 * p.val)) 3 true).cond pgRout 0 true p.val).emit (.idle p.val)).carrWatch.ended) ∧
  (∀ (p : Port) (pair : Fin 2049) (s : State) (record : Flit) (marked : Bool) (v t : State),
    s.runs = true → s.pst p.val = tIdent → s.nextRecord p.val = some (record, marked) →
    v = s.setLink p.val { s.link p.val with rxBytes := (s.link p.val).rxBytes.drop 340 } →
    t = v.setPort p.val ((v.port p.val).takeRecord record marked) → 4 ≤ (t.port p.val).idRun →
    t.identityOk p.val record = true →
    exec (.identityRecordReceive p pair) s = .next (t.portUp p.val record pair.val).carrWatch.ended) ∧
  (∀ (p : Port) (s : State),
    s.runs = true → s.pst p.val = tMis →
    exec (.miswiredRetry p) s = .next (s.enterSend p.val false).carrWatch.ended) ∧
  (∀ (x : PortPlace) (s : State),
    s.runs = true → s.pst x.port.val = tQuiet → s.quietWork x.port.val = true →
    exec (.lpQuietExit x) s = .next (s.exitQuiet x.port.val x.pair.val).carrWatch.ended) ∧
  (∀ (s : State) (p : Port),
    s.runs = true → s.pst p.val = tDorm → s.quietWork p.val = true →
    exec (.lpDormantEnergyWake p true) s = .next (s.enterSend p.val true).carrWatch.ended) ∧
  (∀ (s : State) (p : Port),
    s.up = true → s.pst p.val = tDorm → (s.wakeLatch wkNetEnergy p.val).runs = false →
    exec (.lpDormantEnergyWake p false) s = .next (s.wakeLatch wkNetEnergy p.val).ended) ∧
  (∀ (p : Port) (s : State),
    s.runs = true → (s.pst p.val = tCdr ∨ s.pst p.val = tCoef) → (s.port p.val).shortLimits = true →
    exec (.lpExitSlow p) s =
      .next (((s.enterSend p.val false).wr R.PORT_STATUS_SLOW_EXIT 1 p.val).bump C.PWR_SLOW_EXITS).carrWatch.ended)

/-- While the device runs: in T_UP the next unit of the byte stream is taken: a good frame is taken in and a bad unit starts recovery,
a control word is read, the first START begins the session; the replay timer with frames outstanding starts a replay; a due status
word or XOFF repeat is scheduled; a stalled VC raises STALL; a scheduled leak retrain happens; the RETIRE and FRESH_RETRAIN writes
act; the low-power requests and answers of a session are taken. (05_link_layer.md R168 R171 R172 R173 R175 R178 R184 R187 R188 R192
R195 R196 R197 R200) -/
def Obligations.LinkCommandsComplete : Prop :=
  (∀ (p : Port) (flits : List Flit) (trailer : Word) (announced : Fin 8) (marked : Bool) (s : State),
    s.runs = true → s.streaming p.val = true → (s.rxUnit p.val).1 = .frame flits trailer.toNat marked →
    (s.link p.val).rxNext = announced.val → frameBad flits trailer.toNat announced.val marked = false →
    exec (.linkFrameReceive p flits trailer announced marked) s =
      .next (((s.rxTaken p.val).setRxNext p.val (tNext trailer.toNat)).goodFrame p.val (tLseq trailer.toNat) (tChan trailer.toNat)
        flits).carrWatch.ended) ∧
  (∀ (p : Port) (flits : List Flit) (trailer : Word) (announced : Fin 8) (marked : Bool) (s : State),
    s.runs = true → s.streaming p.val = true → (s.rxUnit p.val).1 = .frame flits trailer.toNat marked →
    (s.link p.val).rxNext = announced.val → frameBad flits trailer.toNat announced.val marked = true →
    exec (.linkFrameReceive p flits trailer announced marked) s =
      .next ((s.rxTaken p.val).badUnit p.val false).carrWatch.ended) ∧
  (∀ (p : Port) (isLcw : Bool) (s : State),
    s.runs = true → s.streaming p.val = true → s.unitBad p.val (s.rxUnit p.val).1 = true →
    (s.rxUnit p.val).1.isLcw = isLcw →
    exec (.linkBadUnit p isLcw) s = .next ((s.rxTaken p.val).badUnit p.val isLcw).carrWatch.ended) ∧
  (∀ (p : Port) (lcw : Word) (atBoundary : Bool) (s : State),
    s.runs = true → s.streaming p.val = true → (s.rxUnit p.val).1 = .lcw lcw.toNat →
    s.unitAtBoundary p.val 8 = atBoundary →
    exec (.lcwReceive p lcw atBoundary) s = .next ((s.rxTaken p.val).lcwIn p.val lcw.toNat).carrWatch.ended) ∧
  (∀ (p : Port) (lcw : Word) (s : State),
    s.runs = true → s.streaming p.val = true → (s.rxUnit p.val).1 = .lcw lcw.toNat →
    (s.link p.val).begun = false → wKind lcw.toNat = lwStart →
    exec (.sessionStartReceive p lcw) s = .next ((s.rxTaken p.val).lcwIn p.val lcw.toNat).carrWatch.ended) ∧
  (∀ (p : Port) (s : State),
    s.runs = true → s.inSession p.val = true → 0 < s.outstanding p.val →
    exec (.replayTimerExpire p) s = .next (s.startReplay p.val).carrWatch.ended) ∧
  (∀ (p : Port) (s : State),
    s.runs = true → s.pst p.val = tUp →
    exec (.statusLcwDue p) s = .next (s.setLink p.val { s.link p.val with lcwDue := true }).carrWatch.ended) ∧
  (∀ (p : Port) (s : State),
    s.runs = true → s.streaming p.val = true → (s.link p.val).xoff ≠ 0 →
    exec (.xoffRepeat p) s = .next (s.setLink p.val { s.link p.val with lcwDue := true }).carrWatch.ended) ∧
  (∀ (p : Port) (v : Vc) (s : State),
    s.runs = true → s.xoffAt p.val v.val = true →
    exec (.xoffWatchdogExpire p v) s =
      .next ((s.wr R.LINK_STATUS_STALL (setBit (s.rd R.LINK_STATUS_STALL p.val) v.val true) p.val).cond (pgLink p.val) 2 true
        v.val).carrWatch.ended) ∧
  (∀ (p : Port) (expired : Bool) (s : State),
    s.runs = true → (s.link p.val).leakDue = true → (expired = true ∨ s.lpIdle p.val = true) →
    exec (.leakRetrain p expired) s =
      .next ((s.setLink p.val { s.link p.val with leakDue := false }).retrain p.val false).carrWatch.ended) ∧
  (∀ (p : Port) (bit : Bool) (s : State),
    s.runs = true → s.rd R.LINK_STATUS_STATE p.val = lkDown →
    exec (.linkCtrlRetireWrite p bit) s = .next (if bit then s.retireLink p.val else s).carrWatch.ended) ∧
  (∀ (p : Port) (bit : Bool) (s : State),
    s.runs = true →
    exec (.linkCtrlFreshRetrainWrite p bit) s = .next (if bit then s.retrain p.val true else s).carrWatch.ended) ∧
  (∀ (p : Port) (dorm : Bool) (s : State) (w : Nat),
    s.runs = true → s.inSession p.val = true → s.rd R.LINK_STATUS_RXMODE p.val ≠ 2 →
    (s.rxUnit p.val).1 = .lcw w → lcwBad w = false → wKind w = lwLpReq → decide (wArg w % 2 = 1) = dorm →
    exec (.lpReqReceive p dorm) s =
      .next (((s.rxTaken p.val).setRxNext p.val (wNext w)).lcwInSession p.val w).carrWatch.ended) ∧
  (∀ (p : Port) (dorm : Bool) (s : State) (w : Nat),
    s.runs = true → s.inSession p.val = true → s.rd R.LINK_STATUS_RXMODE p.val ≠ 2 →
    (s.rxUnit p.val).1 = .lcw w → lcwBad w = false → wKind w = lwLpAck → decide (wArg w % 2 = 1) = dorm →
    exec (.lpAckReceive p dorm) s =
      .next (((s.rxTaken p.val).setRxNext p.val (wNext w)).lcwInSession p.val w).carrWatch.ended) ∧
  (∀ (p : Port) (dorm : Bool) (s : State) (w : Nat),
    s.runs = true → s.inSession p.val = true → s.rd R.LINK_STATUS_RXMODE p.val ≠ 2 →
    (s.rxUnit p.val).1 = .lcw w → lcwBad w = false → wKind w = lwLpNak → decide (wArg w % 2 = 1) = dorm →
    exec (.lpNakReceive p dorm) s =
      .next (((s.rxTaken p.val).setRxNext p.val (wNext w)).lcwInSession p.val w).carrWatch.ended) ∧
  (∀ (p : Port) (s : State),
    s.runs = true → s.pst p.val = tUp → (s.port p.val).txPair < 2048 → (s.link p.val).begun = false →
    exec (.linkUnitTransmit p) s = .next (s.sendSessionStart p.val).carrWatch.ended) ∧
  (∀ (p : Port) (s : State),
    s.runs = true → s.pst p.val = tUp → (s.port p.val).txPair < 2048 → (s.link p.val).begun = true →
    exec (.linkUnitTransmit p) s =
      .next (match (s.link p.val).announced with | .lcw => s.sendNextLcw p.val false | .fillLcw => (if (s.sendFill p.val).pst p.val = tUp then (s.sendFill p.val).sendNextLcw p.val true else s.sendFill p.val) | .frame ch m => if ch = 8 then s.sendBc p.val m else if ch = 7 && (s.vc7Due p.val 8).isSome then s else s.sendHeld p.val m | .replay f => s.sendReplay p.val f).carrWatch.ended)

/-- While the device runs: a port that streams and has a pair of comma stamps sends a TIMING flit, or an EPOCH flit every 64
intervals, and counts it; TIMING and EPOCH flits received with known commas are used and counted; election, sync expiry, holdover and
reference changes act; a PPS edge at a grandmaster latches its GT, a third missing one raises PPS_LOST; the AON rate is learned in
LOCKED; GEYS_STEP steps GT. (06_timebase.md R207 R211 R213 R216 R217 R218 R219 R220 R228 R230) -/
def Obligations.GeyserEventsComplete : Prop :=
  (∀ (p : Port) (s : State) (q : Nat × Nat × Nat × Nat × Nat),
    s.runs = true → s.syncDue p.val = true → commaPair (s.port p.val) = some q →
    exec (.syncFlitSend p) s =
      .next (((s.setPort p.val { s.port p.val with syncAt := some s.syncInterval }).bcSend p.val (if s.syncInterval % 64 = 0 then
        s.epochFlit q.2.2.2.1 q.2.2.2.2 else s.timingFlit q)).bump C.GEYS_SYNC_TX).ended) ∧
  (∀ (p : Port) (flit : Flit) (s : State) (d th : Frac) (v : State),
    s.runs = true → v = (s.bcTake p.val flit).bump C.GEYS_SYNC_RX → fget flit 0 8 = 1 →
    fget flit 16 2 = 0 → (s.bcTake p.val flit).streaming p.val = true →
    v.timingOffsets p.val flit = some (d, th) →
    exec (.syncTimingReceive p flit) s = .next ((v.timingIn p.val flit d th).timePassed v).ended) ∧
  (∀ (p : Port) (flit : Flit) (s v : State),
    s.runs = true → v = (s.bcTake p.val flit).bump C.GEYS_SYNC_RX → fget flit 0 8 = 1 →
    fget flit 16 2 = 0 → (s.bcTake p.val flit).streaming p.val = true → v.timingOffsets p.val flit = none →
    exec (.syncTimingReceive p flit) s = .next (v.bump C.GEYS_SYNC_IGNORED).ended) ∧
  (∀ (p : Port) (flit : Flit) (s : State),
    s.runs = true → fget flit 0 8 = 1 → fget flit 16 2 = 1 → (s.bcTake p.val flit).streaming p.val = true →
    exec (.syncEpochReceive p flit) s = .next (((s.bcTake p.val flit).bump C.GEYS_SYNC_RX).epochIn p.val flit).ended) ∧
  (∀ (s : State),
    s.runs = true →
    exec (.gmElection) s = .next (s.intervalEnd.elect.timePassed s).ended) ∧
  (∀ (p : Port) (s : State),
    s.runs = true →
    exec (.syncInfoExpire p) s =
      .next (if s.isParent p.val then (s.setSync p.val none).reselect else s.setSync p.val none).ended) ∧
  (∀ (s : State),
    s.runs = true →
    exec (.holdoverInterval) s = .next s.holdoverInterval.ended) ∧
  (∀ (pps locked : Bool) (s : State),
    s.runs = true →
    exec (.referenceLockChange pps locked) s =
      .next (({ s with geys := if pps then { s.geys with ppsLock := locked } else { s.geys with refLock := locked } } :
        State).classWorse).ended) ∧
  (∀ (s : State),
    s.runs = true → (s.on R.GEYS_CFG_PPS_EN = false ∨ 64 ≤ s.geys.classRun) →
    exec (.gmClassUpgrade) s = .next s.classBetter.ended) ∧
  (∀ (falling : Bool) (s v : State),
    s.runs = true → s.on R.GEYS_CFG_PPS_EN = true → falling = s.on R.GEYS_CFG_PPS_FALL → s.isGm = true →
    v = (({ s with geys := { s.geys with ppsMissed := 0 } } : State).wr R.GEYS_PPS_TS_PPS_GT s.gt).cond pgGeys 3 false →
    v.geys.taiPending = none → v.on R.GEYS_TAI_TAI_VALID = false → v.geys.ownClass ≤ v.refClass →
    exec (.ppsEdge falling) s = .next v.ended) ∧
  (∀ (s v : State),
    s.runs = true → s.on R.GEYS_CFG_PPS_EN = true → s.isGm = true → s.geys.ppsMissed = 2 →
    v = ((({ s with geys := { s.geys with ppsMissed := 3, classRun := 0 } } : State).wr R.GEYS_STATUS_PPS_LOST 1).cond pgGeys 3 true) →
    exec (.ppsMissing) s = .next (({ v with geys := { v.geys with ppsLock := false } } : State).classWorse).ended) ∧
  (∀ (s : State),
    s.runs = true → s.on R.GEYS_CFG_PPS_EN = true → s.isGm = true → s.geys.ppsMissed < 2 →
    exec (.ppsMissing) s =
      .next (({ s with geys := { s.geys with ppsMissed := s.geys.ppsMissed + 1, classRun := 0 } } : State)).ended) ∧
  (∀ (period : W32) (s : State),
    s.runs = true → s.geysState = gsLocked →
    exec (.aonRateMeasure period) s =
      .next ((s.wr R.GEYS_AON_RATE_PERIOD period.toNat).wr R.GEYS_SLP_INFO_RATE_LEARNED 1).ended) ∧
  (∀ (amount : BitVec 48) (s : State),
    s.runs = true →
    exec (.geysStepWrite amount) s = .next (s.gmStepBy amount.toInt).ended)

/-- While the device runs and outside INVALID where a GT is compared: GO, ABORT and CLEAR writes act; an ARMED schedule whose start
has come runs; a stop whose iteration has come stops it; a switch whose GT has come makes the next buffer run; an ABORT flit of the
running image floods on with one hop less and aborts; prefetch, slot starts, VC7 heads and orphans are served; bursts of prewarm and
load-step are decided, ramped up and down, asserted and released; launches are fetched and the completions of skipped descriptors
written. (08_scheduled_traffic.md R286 R287 R289 R291 R294 R295 R296 R307 R310 R311 R312 R313 R314 R315) -/
def Obligations.ScheduleEventsComplete : Prop :=
  (∀ (bit : Bool) (s : State),
    s.runs = true →
    exec (.schdGoWrite bit) s = .next (if bit then s.schdGo else s).ended) ∧
  (∀ (s : State),
    s.runs = true → s.schdState = ssArmed → s.geysState ≠ gsInvalid → s.schd.startGt ≤ s.gt →
    exec (.scheduleRunStart) s = .next (s.wr R.SCHD_CTRL_STATE ssRunning).ended) ∧
  (∀ (s : State),
    s.runs = true → s.schdState = ssRunning → s.on R.SCHD_STOP_STOP_EN = true → s.geysState ≠ gsInvalid →
    s.slotStart (s.rd R.SCHD_STOP_STOP_ITER) 0 ≤ s.gt →
    exec (.scheduleStopReached) s = .next s.stopRun.ended) ∧
  (∀ (s : State) (b g : Nat),
    s.runs = true → s.schd.switch = some (b, g) → s.schdState = ssRunning → s.geysState ≠ gsInvalid →
    g ≤ s.gt →
    exec (.scheduleSwitch) s =
      .next (({ s.armSchedule b g with schd := { (s.armSchedule b g).schd with fetched := s.schd.fetchedNext, bursts := s.burstsOf b g } }
        : State).wr R.SCHD_CTRL_STATE ssRunning).ended) ∧
  (∀ (bit : Bool) (s : State),
    s.runs = true →
    exec (.schdAbortWrite bit) s = .next (if bit then s.abortLocal 2 else s).ended) ∧
  (∀ (bit : Bool) (s : State),
    s.runs = true →
    exec (.schdClearWrite bit) s = .next (if bit then s.schdClear else s).ended) ∧
  (∀ (p : Port) (flit : Flit) (s v : State),
    s.runs = true → v = s.bcTake p.val flit → fget flit 0 8 = 4 → fget flit 48 4 ≤ 2 →
    v.schdActive = true → fget flit 16 32 = v.imgId v.runBuf → 0 < fget flit 8 8 →
    exec (.schedAbortReceive p flit) s =
      .next ((v.flood (fset flit 8 8 (fget flit 8 8 - 1)) (some p.val)).schdAbort (fget flit 48 4) (fget flit 52 20) false).ended) ∧
  (∀ (p : Port) (flit : Flit) (s v : State),
    s.runs = true → v = s.bcTake p.val flit → fget flit 0 8 = 4 → fget flit 48 4 ≤ 2 →
    v.schdActive = false →
    exec (.schedAbortReceive p flit) s = .next (v.bump C.SCHD_ABORT_IGNORED).ended) ∧
  (∀ (t : Fin 106) (k i : Nat) (hit : Bool) (s : State),
    s.runs = true → (hit = true ∨ s.gt + 64 < s.slotStart k i ∨ s.geysState = gsInvalid) →
    exec (.slotPrefetch t k i hit) s = .next s.ended) ∧
  (∀ (t : Fin 106) (k i : Nat) (hit : Bool) (s : State) (a : Nat),
    s.runs = true → a = k * s.imgCycle s.runBuf + i → hit = false → s.geysState ≠ gsInvalid →
    s.slotStart k i ≤ s.gt + 64 → tget 0 s.schd.served t.val ≤ a →
    (s.schd.misses.any (fun m => m.1 = t.val && m.2 = a) = false) →
    exec (.slotPrefetch t k i hit) s = .next (s.prefetchMiss t.val k i).ended) ∧
  (∀ (t : Fin 106) (k i : Nat) (s : State),
    s.runs = true → s.schdState = ssRunning → s.geysState ≠ gsInvalid →
    (s.slotTable s.runBuf t.val).isSome = true → i < s.imgCycle s.runBuf → s.slotStart k i ≤ s.gt →
    tget 0 s.schd.served t.val ≤ k * s.imgCycle s.runBuf + i →
    exec (.slotStart t k i) s = .next (s.serveSlot t.val k i).ended) ∧
  (∀ (input : Port) (s : State) (k : BufPkt),
    s.runs = true → (s.inVc input.val 7).pkts = [k] → k.onSlots = true → k.route = none →
    exec (.vc7HeadArrival input) s = .next (s.vc7Arrive input.val 0 k).ended) ∧
  (∀ (input : Port) (s : State) (j : Nat) (k : BufPkt) (v : State),
    s.runs = true → s.vc7Head input.val = some (j, k) → k.route = none → k.arrival + s.hq s.runBuf ≤ s.gt →
    v = s.demoteTransit input.val j C.SCHD_DEMOTE_ORPHAN → v.schd.missIter = v.iterNow + 1 →
    exec (.vc7OrphanTimeout input) s = .next v.ended) ∧
  (∀ (input : Port) (s : State) (j : Nat) (k : BufPkt) (v : State),
    s.runs = true → s.vc7Head input.val = some (j, k) → k.route = none → k.arrival + s.hq s.runBuf ≤ s.gt →
    v = s.demoteTransit input.val j C.SCHD_DEMOTE_ORPHAN → v.schd.missIter ≠ v.iterNow + 1 →
    exec (.vc7OrphanTimeout input) s =
      .next (v.breach bkOrphan input.val ((s.slotAt s.gt).toNat % s.imgCycle s.runBuf) (hDpid k.head)).ended) ∧
  (∀ (n0 k : Nat) (s : State) (x : Burst),
    s.runs = true → s.burstAt n0 k = some x → (s.prewarmOn x.buf = true ∨ s.lstepOn x.buf = true) →
    s.geysState ≠ gsInvalid → x.start ≤ s.gt + max (s.lstepLead x.buf) 32000 → s.gt < x.stop →
    s.burstDecided x = none → s.schdActive = true → s.launchOk = true → s.on R.PIN_THERM_THROTTLE = false →
    exec (.prewarmDecide n0 k) s =
      .next ({ s with schd := { s.schd with bursts := s.burstsKept ++ [{ x with acts := true }] } }).ended) ∧
  (∀ (n0 k : Nat) (s : State) (x : Burst),
    s.runs = true → s.burstAt n0 k = some x → (s.prewarmOn x.buf = true ∨ s.lstepOn x.buf = true) →
    s.geysState ≠ gsInvalid → x.start ≤ s.gt + max (s.lstepLead x.buf) 32000 → s.gt < x.stop →
    s.burstDecided x = none → (s.schdActive && s.launchOk && !s.on R.PIN_THERM_THROTTLE) = false →
    exec (.prewarmDecide n0 k) s =
      .next (({ s with schd := { s.schd with bursts := s.burstsKept ++ [{ x with acts := false }] } } : State).wr
        R.SCHD_EVENT_PREWARM_SKIP 1).ended) ∧
  (∀ (s v : State),
    s.runs = true → s.burstLevel ≠ 0 → (s.geysState ≠ gsInvalid ∨ s.schd.ramp ≠ 0) →
    v = ({ s with schd := { s.schd with ramp := min 16 (s.schd.ramp + 1), level := s.burstLevel } } : State).wr
      R.SCHD_EVENT_PREWARM_ACTIVE 1 →
    exec (.prewarmRampUp) s = .next (if s.schd.ramp = 0 then v.bump C.SCHD_PREWARMS else v).ended) ∧
  (∀ (s : State),
    s.runs = true → s.burstsHolding = [] → 2 ≤ s.schd.ramp →
    exec (.prewarmRampDown) s =
      .next ({ s with schd := { s.schd with ramp := s.schd.ramp - 1, bursts := s.burstsKept } }).ended) ∧
  (∀ (s : State),
    s.runs = true → s.geysState ≠ gsInvalid → s.schd.bursts.any s.burstLstep = true →
    exec (.lstepAssert) s = .next (s.wr R.SCHD_EVENT_LSTEP_ACTIVE 1).ended) ∧
  (∀ (s : State),
    s.runs = true → s.burstsHolding = [] → s.schd.ramp = 0 → s.schd.bursts.any s.burstLstep = false →
    exec (.lstepRelease) s = .next (s.wr R.SCHD_EVENT_LSTEP_ACTIVE 0).ended) ∧
  (∀ (e : Fin 24) (data : HostRead) (s : State) (late : Bool) (k start idx : Nat) (l : Launch) (y : SqDesc),
    s.engines = true → s.nextLaunch e.val = some (late, k, l, start) → s.launchReady late l start = true →
    idx = (l.ringIdx + l.stride * k) % 2 ^ 32 → s.qpServed l.qidx = true →
    (s.qp l.qidx).reading idx = false → s.skipOf l.qidx idx = none →
    ((s.qp l.qidx).sq.find? (fun z => z.x = idx) = some y) → y.isDone = false →
    (s.qpQuiet l.qidx = false ∨ (s.sqOp l.qidx idx).isSome = true) →
    exec (.launchFetch e data) s = .next (s.launchRun e.val late l idx y.desc start data).ended) ∧
  (∀ (data : HostRead) (s : State) (d : SkippedDesc),
    s.engines = true → s.schd.skipped.find? s.skipReady = some d → (s.qp d.qp).valid = true →
    ((s.qp d.qp).sq.any (fun z => z.x = d.idx) = true) →
    exec (.skippedDescComplete data) s =
      .next (({ s with schd := { s.schd with skipped := s.schd.skipped.erase d } } : State).skipDone d).ended)

/-- While the device runs: an idle transmit direction requests LP-QUIET; a write of FUNC_CTRL.EN outside WEDGED stores the bit and
re-evaluates the function; the host's enables and disables take the function's configuration; FLR resets the function and its VFs; a
function with no work left finishes its quiesce, one that runs out of time is WEDGED; a failed read raises DMA_ERR; a host link that
comes up while PERST is high is recorded, and down it resets the port or parks it in L2. PERST acts at any time.
(09_host_attach_and_queues.md R321 R323 R325 R326 R328 R330; 17_reset_power_supplies.md R599 R610 R619) -/
def Obligations.FunctionEventsComplete : Prop :=
  (∀ (p : Port) (s : State),
    s.runs = true → s.on R.PWR_MODE_AUTO_QUIET = true → (s.powerState = psRun ∨ s.powerState = psMoss) →
    s.pst p.val = tUp → (s.port p.val).txQuiet = false →
    (s.schdActive && (s.slotTable s.runBuf p.val).isSome) = false →
    exec (.quietIdleExpire p) s =
      .next (if s.mayRequest p.val false then (s.lpRequest p.val false).bump C.PWR_LP_QUIET_REQ else s).ended) ∧
  (∀ (h : HPort) (f : Func) (en : Bool) (s u : State),
    s.runs = true → u = s.hostSeen h.val → u.fnState (ringKey h f) ≠ fsWedged →
    exec (.funcCtrlEnWrite h f en) s = .next ((u.wrB R.FUNC_CTRL_EN en (ringKey h f)).fnEval (ringKey h f)).ended) ∧
  (∀ (h : HPort) (f : Func) (cfg : FuncCfg) (s : State),
    s.runs = true →
    exec (.funcEnableEvent h f cfg) s = .next (s.setCfg (ringKey h f) cfg).ended) ∧
  (∀ (h : HPort) (f : Func) (cfg : FuncCfg) (s : State),
    s.runs = true →
    exec (.funcDisableEvent h f cfg) s = .next (s.setCfg (ringKey h f) cfg).ended) ∧
  (∀ (h : HPort) (f : Func) (s : State) (k : Nat) (v : State),
    s.runs = true → k = ringKey h f → v = s.whenB (f.val = 0) (·.expertLock h.val) →
    exec (.flr h f) s = .next ((vfsOf k).foldl State.fnEval ((v.setFunc k { v.func k with cfg := {} }).fnReset k)).ended) ∧
  (∀ (h : HPort) (f : Func) (s : State),
    s.runs = true → s.fnState (ringKey h f) = fsQuiescing → s.fnBusy (ringKey h f) = false →
    exec (.quiesceComplete h f) s = .next (s.quiesceEnd (ringKey h f)).ended) ∧
  (∀ (h : HPort) (f : Func) (s : State),
    s.runs = true → s.fnState (ringKey h f) = fsQuiescing →
    exec (.quiesceTimeout h f) s = .next (s.wedge (ringKey h f)).ended) ∧
  (∀ (h : HPort) (f : Func) (s : State),
    s.runs = true →
    exec (.dmaReadError h f) s = .next (s.dmaError (ringKey h f)).ended) ∧
  (∀ (h : HPort) (offersCxl flit : Bool) (rate : Fin 8) (width : Fin 17) (s v : State),
    s.runs = true → tget false s.aon.perst h.val = false →
    v = ((((s.wr R.HIF_PORT_LINK_UP 1 h.val).wrB R.HIF_PORT_LINK_CXL (offersCxl && s.on R.HIF_PORT_CFG_CXL_EN h.val) h.val).wrB
      R.HIF_PORT_LINK_FLIT flit h.val).wr R.HIF_PORT_LINK_RATE rate.val h.val).wr R.HIF_PORT_LINK_WIDTH width.val h.val →
    exec (.hostLinkUp h offersCxl flit rate width) s =
      .next (((v.setL2State h.val false).wakeRelease h.val).hostUp h.val).ended) ∧
  (∀ (h : HPort) (l2 : Bool) (s : State),
    s.runs = true →
    exec (.hostLinkDown h l2) s =
      .next (if l2 then (s.hostDown h.val).setL2State h.val true else ((s.hostPortReset h.val).setL2State h.val false).wakeRelease
        h.val).ended) ∧
  (∀ (h : HPort) (s v : State),
    v = s.setPerst h.val true →
    exec (.perstAssert h) s =
      .next (if v.pwr.held then v else (if v.powerState = psMoss then v.wakeLatch wkPerst h.val else v).hostPortReset h.val).ended) ∧
  (∀ (h : HPort) (s v : State),
    v = (s.setPerst h.val false).wakeRelease h.val →
    exec (.perstDeassert h) s =
      .next (if v.pwr.held ∨ tget false s.aon.perst h.val = false then v else (if v.powerState = psMoss ∨ v.powerState = psPeat then
        v.wakeLatch wkPerst h.val else v).emit (.hostTrain h.val)).ended)

/-- While the device runs: a doorbell of a queue of an enabled function is counted and takes the index or the arm; a doorbell of no
queue counts as ignored; the next polled record, and an invalidated record line, is read; a run of descriptors is fetched at its
translated address and, when it arrives, taken in order; the next ready completion entry is written or held.
(09_host_attach_and_queues.md R335 R338 R339 R341 R344 R346 R354 R356) -/
def Obligations.QueueEventsComplete : Prop :=
  (∀ (h : HPort) (f : Func) (slot : Fin 7168) (v : W32) (s u : State) (q : Nat),
    s.runs = true → u = s.hostSeen h.val → u.fnState (ringKey h f) = fsEnabled →
    u.serves (keyPort (ringKey h f)) = true → u.qpAt (ringKey h f) slot.val = some q →
    exec (.sqPiWrite h f slot v) s = .next (((u.bump C.QUE_DB_WRITES).takePi q false v.toNat true).idxDue q).ended) ∧
  (∀ (h : HPort) (f : Func) (slot : Fin 7168) (v : W32) (s u : State),
    s.runs = true → u = s.hostSeen h.val → u.fnState (ringKey h f) ≠ fsWedged →
    (u.fnState (ringKey h f) ≠ fsEnabled ∨ u.serves (keyPort (ringKey h f)) = false ∨ u.qpAt (ringKey h f) slot.val = none) →
    exec (.sqPiWrite h f slot v) s = .next ((u.bump C.QUE_DB_WRITES).bump C.QUE_DB_IGNORED).ended) ∧
  (∀ (h : HPort) (f : Func) (slot : Fin 7168) (v : W32) (s u : State) (q : Nat),
    s.runs = true → u = s.hostSeen h.val → u.fnState (ringKey h f) = fsEnabled →
    u.serves (keyPort (ringKey h f)) = true → u.qpAt (ringKey h f) slot.val = some q →
    exec (.rqPiWrite h f slot v) s = .next (((u.bump C.QUE_DB_WRITES).takePi q true v.toNat true).idxDue q).ended) ∧
  (∀ (h : HPort) (f : Func) (slot : Fin 7168) (v : W32) (s u : State) (q : Nat),
    s.runs = true → u = s.hostSeen h.val → u.fnState (ringKey h f) = fsEnabled →
    u.serves (keyPort (ringKey h f)) = true → u.qpAt (ringKey h f) slot.val = some q →
    exec (.cqCiWrite h f slot v) s = .next (((u.bump C.QUE_DB_WRITES).takeCqCi q v.toNat).idxDue q).ended) ∧
  (∀ (h : HPort) (f : Func) (slot : Fin 7168) (arm : Bool) (s u : State) (q : Nat),
    s.runs = true → u = s.hostSeen h.val → u.fnState (ringKey h f) = fsEnabled →
    u.serves (keyPort (ringKey h f)) = true → u.qpAt (ringKey h f) slot.val = some q →
    exec (.cqArmWrite h f slot arm) s =
      .next (if arm then (u.bump C.QUE_DB_WRITES).modQp q fun x => { x with cqArm := true } else u.bump C.QUE_DB_WRITES).ended) ∧
  (∀ (h : HPort) (f : Func) (vec : Fin 2048) (v : W32) (s u : State),
    s.runs = true → u = s.hostSeen h.val → u.fnState (ringKey h f) = fsEnabled →
    u.serves (keyPort (ringKey h f)) = true → (u.eqAt (ringKey h f) vec.val).valid = true →
    exec (.eqCiWrite h f vec v) s =
      .next (((u.bump C.QUE_DB_WRITES).takeEqCi (ringKey h f) vec.val v.toNat).idxDue (2 ^ 18 + vkey (ringKey h f) vec.val)).ended) ∧
  (∀ (h : HPort) (f : Func) (vec : Fin 2048) (arm : Bool) (s u : State),
    s.runs = true → u = s.hostSeen h.val → u.fnState (ringKey h f) = fsEnabled →
    u.serves (keyPort (ringKey h f)) = true → (u.eqAt (ringKey h f) vec.val).valid = true →
    exec (.eqArmWrite h f vec arm) s =
      .next (if arm then ((u.bump C.QUE_DB_WRITES).setEq (ringKey h f) vec.val { (u.bump C.QUE_DB_WRITES).eqAt (ringKey h f) vec.val with armed := true }).eqKick
        (ringKey h f) vec.val else u.bump C.QUE_DB_WRITES).ended) ∧
  (∀ (h : HPort) (data : HostRead) (s : State) (q : Nat),
    s.engines = true → s.nextPoll h.val = some q →
    exec (.doorbellRecordPoll h data) s =
      .next (({ s with host := { s.host with pollLast := tput 0 s.host.pollLast h.val (q + 1) } } : State).readRecord q data).ended) ∧
  (∀ (q : QIdx) (data : HostRead) (s u v : State),
    s.runs = true → u = s.hostSeen (s.qp q.val).p.hport → (u.qp q.val).valid = true →
    (u.qp q.val).snooped = true → (u.qp q.val).snoopDue = false →
    v = (u.setQp q.val { u.qp q.val with snoopDue := true }).bump C.QUE_SNOOP_INVAL →
    exec (.snoopInvalidate q data) s = .next (if v.recordReady q.val then v.readRecord q.val data else v).ended) ∧
  (∀ (q : QIdx) (rq : Bool) (s : State) (n va pa : Nat) (ns : Bool) (w : Access) (v : State),
    s.engines = true →
    (n = if rq then fetchRun (s.qp q.val).rqObs (s.qp q.val).rqFetch (s.qp q.val).rqSize else min (s.qp q.val).sqRun (s.qp
      q.val).fetchRoom) →
    n ≠ 0 → s.fetchReady q.val rq = true →
    (s.npRoom (s.qp q.val).p.hport (64 * ((if rq then (s.qp q.val).rqFetch else (s.qp q.val).sqFetch) % 64)) (64 * n) = true) →
    (va = if rq then (s.qp q.val).p.rqBase + 64 * ((s.qp q.val).rqFetch % (s.qp q.val).rqSize) else (s.qp q.val).p.sqBase + 64 * ((s.qp
      q.val).sqFetch % (s.qp q.val).sqSize)) →
    (w = if rq then .rqFetch q.val else .sqFetch q.val) →
    (s.translate (s.qp q.val).p.ctx va .fetch none w).1 = .hit pa ns →
    v = (s.translate (s.qp q.val).p.ctx va .fetch none w).2 →
    exec (.descriptorFetch q rq) s =
      .next (v.fetchOut q.val rq n (if rq then (s.qp q.val).rqFetch else (s.qp q.val).sqFetch) pa).ended) ∧
  (∀ (q : QIdx) (rq : Bool) (data : HostRead) (s : State) (ins run : List Fetch) (f : Fetch) (bs : List Byte),
    s.engines = true → (ins = if rq then (s.qp q.val).rqIn else (s.qp q.val).sqIn) → ins.head? = some f →
    (run = ins.takeWhile fun g => g.dma = f.dma) → data = some bs → bs.length = 64 * run.length →
    s.fnState (s.qp q.val).func = fsEnabled →
    exec (.descriptorArrive q rq data) s =
      .next ((s.setQp q.val (if rq then { s.qp q.val with rqIn := ins.drop run.length } else { s.qp q.val with sqIn := ins.drop run.length })).arriveAll
        q.val rq run bs |>.errorDrain q.val).ended) ∧
  (∀ (q : QIdx) (s : State),
    s.engines = true → s.fnState (s.qp q.val).func = fsEnabled →
    exec (.completionWrite q) s = .next ((s.nextEntry q.val).poolEase).ended)

/-- While the engines run: the entry, or the compare-and-swap, that a walk waits for advances the walk, and a failed one is a walk
fault and a DMA error; the oldest invalidation, when nothing it covers is left, is counted and told; a park slot in use that no resume
holds fails after PARK_TIME; GO starts the expert invalidation when none is busy. (10_translation.md R373 R387 R394) -/
def Obligations.TranslationEventsComplete : Prop :=
  (∀ (w : Fin 4) (entry : Option Word) (s : State) (x : Walk),
    s.engines = true → s.walk w.val = some x → x.who.isEmpty = false → x.stale = false →
    x.stage = .reading →
    exec (.walkEntryReturn w entry) s =
      .next ((s.walkStep w.val x (match entry with | some e => s.walkEntry w.val x e.toNat | none => .fault xfWalkErr (s.dmaError (fkey x.c.hport x.c.func)))).walkNext 64).ended) ∧
  (∀ (w : Fin 4) (old : Option Word) (s : State) (x : Walk) (k : Nat),
    s.engines = true → s.walk w.val = some x → x.who.isEmpty = false → x.stale = false →
    x.stage = .swapping k →
    exec (.walkCasReturn w old) s =
      .next ((s.walkStep w.val x (match old with | some v => s.walkSwapped w.val x k v.toNat | none => .fault xfWalkErr (s.dmaError (fkey x.c.hport x.c.func)))).walkNext 64).ended) ∧
  (∀ (s : State) (v : Inval) (t : List Inval),
    s.engines = true → s.xlt.invals = v :: t → s.invalDone v = true →
    exec (.invalidationComplete) s =
      .next ((({ s with xlt := { s.xlt with invals := t } } : State).bump C.XLT_INVALIDATIONS).invalTell v).ended) ∧
  (∀ (slot : Fin 1024) (s : State),
    s.runs = true → s.powerState ≠ psMoss → s.powerState ≠ psExit → (s.park slot.val).used = true →
    s.parkResuming slot.val = false →
    exec (.parkTimeout slot) s = .next ((s.bump C.XLT_PARK_TIMEOUT).parkFail slot.val).ended) ∧
  (∀ (slot : Fin 1024) (s : State),
    s.runs = true → s.powerState = psMoss → (s.park slot.val).used = true →
    exec (.parkTimeout slot) s = .next (s.setPark slot.val { s.park slot.val with expired := true }).ended) ∧
  (∀ (bit : Bool) (s : State) (v : Inval),
    s.runs = true → bit = true → s.on R.XLT_INV_STAT_BUSY = false →
    v = { scope := scopeOf (s.rd R.XLT_INV_CTRL_SCOPE), ctx := s.rd R.XLT_INV_CTRL_CTX, va := s.rd R.XLT_INV_VA_VA * 4096, pages := s.rd R.XLT_INV_CNT_PAGES, src := .expert, upto := s.host.dma }
      →
    exec (.xltInvGoWrite bit) s = .next ((s.wr R.XLT_INV_STAT_BUSY 1).invalAccept v (s.on R.XLT_INV_CTRL_WC)).ended)

/-- While the engines run: a context is cached; an operation with packets to form, in an OPEN context that may assign a number, forms
its next packet, and in another context sends a HELLO; the oldest ACK, NACK, HELLO, HELLO_RESP and READ_RESP handed over is taken; a
retransmission is made outside INVALID; a context with packets awaited gives up; a served read is answered or fails; the expert reset
of a context acts. The deadline sweep changes nothing of its own. (11_transport_and_windows.md R401 R402 R403 R415 R416 R419 R421 R422
R431 R432 R444) -/
def Obligations.TransportEventsComplete : Prop :=
  (∀ (adopted : Bool) (pid : Pid) (s : State),
    s.engines = true →
    exec (.tcCacheLoad adopted pid) s = .next (s.touchTc (tcOf adopted pid)).ended) ∧
  (∀ (s : State),
    s.runs = true →
    exec (.tcDeadlineSweep) s = .next s.ended) ∧
  (∀ (o : Nat) (data : HostRead) (s : State) (x : XOp) (t : State),
    s.engines = true → s.op o = some x → x.unformed = true → x.winWait = false → s.canForm = true →
    s.formsHere x = true → s.on R.ROUT_CTRL_ADOPTED = true →
    (s.parkedBy (fun p => p.who = .payload o) = false) → t = s.touchTc x.tc →
    (t.tc x.tc).txState = txOpen → t.mayAssign x.tc = true → t.sendBehind o x = false →
    t.fabricMode ≠ fmScheduled → t.paceReady (portOf x.q) (tcPid x.tc) = true →
    exec (.packetForm o data) s = .next (t.formNext o x data).ended) ∧
  (∀ (o : Nat) (data : HostRead) (s : State) (x : XOp) (t : State),
    s.engines = true → s.op o = some x → x.unformed = true → x.winWait = false → s.canForm = true →
    s.formsHere x = true → s.on R.ROUT_CTRL_ADOPTED = true →
    (s.parkedBy (fun p => p.who = .payload o) = false) → t = s.touchTc x.tc →
    ((t.tc x.tc).txState = txNew ∨ (t.tc x.tc).txState = txHandshake) → (t.tc x.tc).helloOut = false →
    t.paceReady (tcPort x.tc) (tcPid x.tc) = true →
    exec (.packetForm o data) s = .next (t.sendHello x.tc).ended) ∧
  (∀ (s : State) (x : RxPkt) (v : State),
    s.engines = true → s.takeAnswer ptAck = some (x, v) →
    exec (.ackReceive) s = .next ((v.bump C.TPT_ACK_RX).tptAck x.tc (xCumack (pktExt x.pkt)) (xSack (pktExt x.pkt))).ended) ∧
  (∀ (s : State) (x : RxPkt) (v : State),
    s.engines = true → s.takeAnswer ptNack = some (x, v) →
    exec (.nackReceive) s = .next (v.takeNack x).ended) ∧
  (∀ (adopted : Bool) (pid : Pid) (payloads : List HostRead) (s : State),
    s.engines = true → s.canForm = true →
    exec (.retransmitTimerExpire adopted pid payloads) s = .next (s.retransmit (tcOf adopted pid) payloads).ended) ∧
  (∀ (adopted : Bool) (pid : Pid) (s : State),
    s.engines = true →
    ((s.tc (tcOf adopted pid)).awaits.any Await.awaited = true ∨ (s.tc (tcOf adopted pid)).helloOut = true) →
    exec (.tcGiveupExpire adopted pid) s = .next (s.giveUp (tcOf adopted pid)).ended) ∧
  (∀ (s : State) (x : RxPkt) (rest : List RxPkt),
    s.engines = true → s.tpt.hellos = x :: rest →
    exec (.helloReceive) s = .next (({ s with tpt := { s.tpt with hellos := rest } } : State).takeHello x).ended) ∧
  (∀ (s : State) (x : RxPkt) (rest : List RxPkt),
    s.engines = true → s.tpt.helloResps = x :: rest →
    exec (.helloRespReceive) s = .next (({ s with tpt := { s.tpt with helloResps := rest } } : State).takeHelloResp x).ended) ∧
  (∀ (id : Nat) (data : HostRead) (s : State) (r : ServedRead),
    s.engines = true → (s.tpt.reads.find? (fun y => y.id = id) = some r) →
    exec (.readRespForm id data) s = .next (s.answerRead r data).ended) ∧
  (∀ (s : State) (x : RxPkt) (rest : List RxPkt),
    s.engines = true → s.tpt.readResps = x :: rest →
    exec (.readRespReceive) s = .next (s.takeReadResp x).ended) ∧
  (∀ (bit : Bool) (s : State),
    s.runs = true →
    exec (.tcCtrlResetWrite bit) s = .next (if bit then s.tcReset (tcKey 0 (s.rd R.TPT_TC_SEL_PID)) else s).ended)

/-- While the engines run: a REVOKING window that no packet holds finishes, one that drains too slowly is reported once, and a COOLING
one whose time has come outside INVALID is FREE; the expert open writes the key or ERR, the expert revoke revokes its key; the next
descriptor of a queue pair starts when it is a NOP, WRITE, READ or WIN_REVOKE, queued or fired. (09_host_attach_and_queues.md R345;
11_transport_and_windows.md R427 R440 R441 R442 R446) -/
def Obligations.WindowEventsComplete : Prop :=
  (∀ (w : Fin 16777216) (s : State),
    s.engines = true → (s.window w.val).state = wsRevoking → s.admittedTo w.val = 0 →
    ((s.pair.waits.any fun x => x.2 = .revokeDone w.val) = false) →
    exec (.revokeComplete w) s = .next (s.revokeFinish w.val).ended) ∧
  (∀ (w : Fin 16777216) (s : State),
    s.engines = true → (s.window w.val).state = wsRevoking → s.admittedTo w.val ≠ 0 →
    s.win.slow.contains w.val = false →
    exec (.revokeDrainSlow w) s =
      .next (({ s with win := { s.win with slow := s.win.slow ++ [w.val] } } : State).raise pgWin 0 w.val).ended) ∧
  (∀ (w : Fin 16777216) (s v : State),
    s.engines = true → (s.window w.val).state = wsCooling → (s.window w.val).freeGt ≤ s.gt →
    s.geysState ≠ gsInvalid → v = s.setWindow w.val { s.window w.val with state := wsFree } →
    exec (.windowCoolingEnd w) s = .next ({ v with win := { v.win with freed := v.win.freed ++ [w.val] } }).ended) ∧
  (∀ (bit : Bool) (s : State) (i : Nat),
    s.engines = true → bit = true → (s.ctx s.expertEntry.ctx).valid = true →
    s.windowRanges s.expertEntry = true → s.freeWindow = some i →
    exec (.winOpenGoWrite bit) s =
      .next (((s.openWindow i s.expertEntry).2.2.wr R.WIN_OPEN_RES_KEY (s.openWindow i s.expertEntry).1).wr R.WIN_OPEN_RES_DONE 1).ended) ∧
  (∀ (bit : Bool) (s : State),
    s.engines = true → bit = true →
    (((s.ctx s.expertEntry.ctx).valid && s.windowRanges s.expertEntry) = false ∨ s.freeWindow = none) →
    exec (.winOpenGoWrite bit) s = .next (s.wr R.WIN_OPEN_RES_ERR 1).ended) ∧
  (∀ (key : W32) (s : State),
    s.engines = true → s.on R.WIN_REV_STAT_BUSY = false →
    exec (.winRevokeWrite key) s =
      .next ((s.wr R.WIN_REV_STAT_BUSY 1).revokeKey key.toNat none .expert fun t st => ((t.wr R.WIN_REV_STAT_BUSY 0).wr
        R.WIN_REV_STAT_DONE 1).wr R.WIN_REV_STAT_STATUS st).ended) ∧
  (∀ (q : QIdx) (fired : Bool) (s : State) (w : Owner) (d : Nat),
    s.engines = true → s.startOf q.val fired 0x00 = some (w, d) →
    exec (.nopDesc q fired) s = .next (s.beginEnd w csOk).ended) ∧
  (∀ (q : QIdx) (fired : Bool) (s : State) (w : Owner) (d : Nat),
    s.engines = true → s.startOf q.val fired 0x01 = some (w, d) →
    exec (.write q fired) s = .next (s.startRma q.val w d .write).ended) ∧
  (∀ (q : QIdx) (fired : Bool) (s : State) (w : Owner) (d : Nat),
    s.engines = true → s.startOf q.val fired 0x02 = some (w, d) →
    exec (.read q fired) s = .next (s.startRma q.val w d .read).ended) ∧
  (∀ (q : QIdx) (s : State) (x d : Nat),
    s.engines = true → s.startOf q.val false 0x03 = some (.sq q.val x, d) →
    s.pair.revoked.contains (field d 128 32) = false →
    exec (.winRevokeDesc q) s =
      .next ((s.descStart q.val x).revokeKey (field d 128 32) (some (s.qp q.val).func) (.sq q.val x) fun t st => t.descDone q.val x st
        0).ended)

/-- While the engines run: a SEND descriptor starts; a rendezvous send that waited for a window gets one when an index is free; the
next receive descriptor of a queue pair is posted; a reorder entry whose turn has come goes to the match stage, or is refused; the
packet at the front of the match stage is matched; a receive held for want of a posted-receive entry is posted when one is free.
(12_message_matching.md R451 R453 R457 R459) -/
def Obligations.MatchingEventsComplete : Prop :=
  (∀ (q : QIdx) (fired : Bool) (s : State) (w : Owner) (d : Nat),
    s.engines = true → s.startOf q.val fired 0x10 = some (w, d) →
    exec (.send q fired) s = .next (s.startSend q.val w d).ended) ∧
  (∀ (o : Nat) (s : State) (x : XOp),
    s.engines = true → s.op o = some x → x.winWait = true → s.freeWindow.isSome = true →
    exec (.rndvWindowOpen o) s = .next (s.rtsSetup o { x with winWait := false }).ended) ∧
  (∀ (q : QIdx) (s : State) (i d : Nat) (t : List (Nat × Nat)) (r : Recv),
    s.engines = true → s.qpRuns q.val = true → (s.qp q.val).prqHeld = none →
    (s.qp q.val).rq = (i, d) :: t → r = { idx := i, desc := d, post := (s.qp q.val).nextPost } →
    exec (.recv q) s =
      .next (((s.setQp q.val { s.qp q.val with rq := t, nextPost := ((s.qp q.val).nextPost + 1) % 2 ^ 64 }).postRecv q.val r).copyBound
        q.val r.post).ended) ∧
  (∀ (i : Nat) (s : State) (p : SendPkt) (t : State),
    s.engines = true → s.mat.reorder[i]? = some p → hSeq (p.pkt.headD 0) = (s.tc p.tc).rxExpected →
    t = ({ s with mat := { s.mat with reorder := s.mat.reorder.eraseIdx i } } : State).hbmRd (hPlen (p.pkt.headD 0)) →
    exec (.reorderRelease i) s =
      .next (match s.sendCheck (p.pkt.headD 0) (pktExtFlit p.pkt) with | some st => t.mireEased.refuseFinal p.tc (p.pkt.headD 0) (pktExtFlit p.pkt) p.e st | none => ({ t with mat := { t.mat with stage := t.mat.stage ++ [p] } } : State).mireEased).ended) ∧
  (∀ (s : State) (p : SendPkt),
    s.engines = true → s.stagePick = some p →
    exec (.matchArrival) s = .next (s.matchPacket p).ended) ∧
  (∀ (q : QIdx) (s : State) (r : Recv) (t : State),
    s.engines = true → (s.qp q.val).prqHeld = some r → s.prqUsed < s.prqSize →
    (t = s.modQp q.val fun x => { x with prqHeld := none }) →
    exec (.prqEntryFree q) s =
      .next (((t.postRecv q.val r).copyBound q.val r.post).cond pgMat 2 (t.host.qps.any fun kv => kv.2.prqHeld.isSome)).ended)

/-- While the engines run: CNT_ADD, CNT_SET, CNT_FETCH, TRIG and WAIT descriptors start; the oldest counter update is applied to a
counter of its function, or counted as refused; triggers whose time has come fire in time order, swept ones are compared; the oldest
ended fired operation is counted and updates its done counter; a queue pair held for want of a pending entry goes on when one is free.
The expert counter writes set and add while the device runs. (13_counters_and_triggers.md R482 R485 R486 R488 R489 R492 R493 R497) -/
def Obligations.TriggerEventsComplete : Prop :=
  (∀ (q : QIdx) (fired : Bool) (s : State) (w : Owner) (d : Nat),
    s.engines = true → s.startOf q.val fired 0x20 = some (w, d) →
    exec (.cntAdd q fired) s = .next (s.startCnt q.val w d Tally.add).ended) ∧
  (∀ (q : QIdx) (fired : Bool) (s : State) (w : Owner) (d : Nat),
    s.engines = true → s.startOf q.val fired 0x21 = some (w, d) →
    exec (.cntSet q fired) s = .next (s.startCnt q.val w d Tally.set).ended) ∧
  (∀ (q : QIdx) (fired : Bool) (s : State) (w : Owner) (d : Nat),
    s.engines = true → s.startOf q.val fired 0x24 = some (w, d) →
    exec (.cntFetch q fired) s = .next (s.startCntFetch q.val w d).ended) ∧
  (∀ (q : QIdx) (s : State) (d : SqDesc),
    s.engines = true → s.nextStart q.val = some d → dOp d.desc = 0x22 → d.slots = 2 →
    exec (.trig q) s = .next (s.trigStart q.val d).ended) ∧
  (∀ (q : QIdx) (s : State) (x d : Nat),
    s.engines = true → s.startOf q.val false 0x23 = some (.sq q.val x, d) →
    exec (.wait q) s = .next (s.startWait q.val x d).ended) ∧
  (∀ (s : State) (x : CntUpdate) (rest : List CntUpdate) (t v : State),
    s.engines = true → s.trg.updates = x :: rest → t = { s with trg := { s.trg with updates := rest } } →
    (v = if (t.tally x.cnt).of x.func then (t.cntApply x.cnt fun y => y.add x.amount).bump (if x.fromWindow then C.TRG_WIN_UPDATES else
      C.TRG_CQ_UPDATES) else t.bump C.TRG_CNT_REFUSED) →
    exec (.counterUpdate) s =
      .next (match x.after with | .none => v | .window k seq e i => (v.recordSeq k seq e).winLeave i).ended) ∧
  (∀ (s : State),
    s.runs = true → s.powerState ≠ psMoss → s.powerState ≠ psExit →
    exec (.triggerFireTime) s =
      .next ((((s.trg.armed.filter fun a => a.mode ≠ .counter && a.comparator && a.timeMet.isNone && s.timeDue a).mergeSort fun a b =>
        a.tgt ≤ b.tgt).foldl (fun t a => t.timeFire a (s.lateFor a.tgt) false) s).trgEase).ended) ∧
  (∀ (s v : State),
    s.runs = true → s.powerState = psMoss →
    ((s.trg.armed.any fun a => a.mode ≠ TrigMode.counter && a.timeMet.isNone && s.timeDue a) = true) →
    s.wakes wkGtAction = true → s.pwr.held = false → v = s.wakeLatch wkGtAction 0 → v.powerState = psRun →
    exec (.triggerFireTime) s = .next (v.fireDue fun a => v.lateFor a.tgt).ended) ∧
  (∀ (s : State),
    s.engines = true →
    exec (.triggerSweep) s = .next s.sweepTimes.sweepCounters.trgEase.ended) ∧
  (∀ (s : State) (e : FiredEnd) (rest : List FiredEnd) (t : State),
    s.engines = true → s.trg.ends = e :: rest →
    (t = ({ s with trg := { s.trg with ends := rest } } : State).bump (if e.status = csOk then C.TRG_FIRED_OK else C.TRG_FIRED_FAIL)) →
    exec (.firedOpEnd) s =
      .next (match e.dcnt with | none => t | some c => t.cntApply c fun y => if e.status = csOk then y.add 1 else { y with fail := min 0xFFFFFFFF (y.fail + 1), lastStatus := e.status }).ended) ∧
  (∀ (q : QIdx) (s : State) (d : SqDesc),
    s.engines = true → (s.qp q.val).trgHeld = true → s.pendUsed < s.pendSize →
    ((s.modQp q.val fun y => { y with trgHeld := false }).nextStart q.val = some d) → dOp d.desc = 0x22 →
    d.slots = 2 →
    exec (.pendingEntryFree q) s = .next ((s.trigStart q.val d).trgEase).ended) ∧
  (∀ (v : Word) (s : State),
    s.runs = true →
    exec (.trgCntValWrite v) s = .next (s.cntApply (s.rd R.TRG_CNT_SEL_INDEX) fun t => { t with value := v.toNat }).ended) ∧
  (∀ (v : Word) (s : State),
    s.runs = true →
    exec (.trgCntAddWrite v) s = .next (s.cntApply (s.rd R.TRG_CNT_SEL_INDEX) fun t => t.add v.toNat).ended)

/-- While the engines run: the five collective descriptors start; a contribution that reaches the tap, on VC7 before VC6, is taken; a
staging write frees its input; a TIMED launch gets its guard 200 ns before its GT and goes, or is late, at its GT; an instance that
waits for a phase too long ends PEER_UNREACHABLE, counted and reported. (14_collectives.md R509 R521 R522 R526 R527 R533) -/
def Obligations.CollectiveEventsComplete : Prop :=
  (∀ (q : QIdx) (fired : Bool) (data : HostRead) (s : State) (w : Owner) (d : Nat),
    s.engines = true → s.startOf q.val fired 0x30 = some (w, d) →
    exec (.allreduce q fired data) s = .next (s.startColl q.val w d data).ended) ∧
  (∀ (q : QIdx) (fired : Bool) (data : HostRead) (s : State) (w : Owner) (d : Nat),
    s.engines = true → s.startOf q.val fired 0x31 = some (w, d) →
    exec (.reduceScatter q fired data) s = .next (s.startColl q.val w d data).ended) ∧
  (∀ (q : QIdx) (fired : Bool) (data : HostRead) (s : State) (w : Owner) (d : Nat),
    s.engines = true → s.startOf q.val fired 0x32 = some (w, d) →
    exec (.allgather q fired data) s = .next (s.startColl q.val w d data).ended) ∧
  (∀ (q : QIdx) (fired : Bool) (s : State) (w : Owner) (d : Nat),
    s.engines = true → s.startOf q.val fired 0x33 = some (w, d) →
    exec (.barrier q fired) s = .next (s.startColl q.val w d none).ended) ∧
  (∀ (q : QIdx) (fired : Bool) (data : HostRead) (s : State) (w : Owner) (d : Nat),
    s.engines = true → s.startOf q.val fired 0x34 = some (w, d) →
    exec (.lineBcast q fired data) s = .next (s.startColl q.val w d data).ended) ∧
  (∀ (input : Port) (s : State) (j : Nat) (k : BufPkt),
    s.engines = true → (s.inVc input.val 7).tapped = some (j, k) →
    exec (.collContribTap input) s = .next (s.tapPull input.val 7 j k).ended) ∧
  (∀ (input : Port) (s : State) (j : Nat) (k : BufPkt),
    s.engines = true → (s.inVc input.val 7).tapped = none → (s.inVc input.val 6).tapped = some (j, k) →
    exec (.collContribTap input) s = .next (s.tapPull input.val 6 j k).ended) ∧
  (∀ (s : State) (w : StagingWrite) (rest : List StagingWrite),
    s.engines = true → s.coll.writes = w :: rest →
    exec (.collStagingWriteDone) s =
      .next (({ s with coll := { s.coll with writes := rest } } : State).hbmWr w.bytes |>.xoffUpdate w.input).ended) ∧
  (∀ (s : State) (l : TimedLaunch),
    s.engines = true →
    (s.coll.launches.find? (fun y => !y.guarded && s.gt + 3200 ≥ y.id.gt && s.geysState ≠ gsInvalid) = some l) →
    exec (.timedGuardStart) s =
      .next ({ s with coll := { s.coll with launches := s.coll.launches.map fun y => if y = l then { y with guarded := true } else y }, rout := { s.rout with guards := s.rout.guards ++ [({ launch := l.id, outs := s.launchOuts l.id } : Guard)] } }).ended) ∧
  (∀ (s : State) (l : TimedLaunch),
    s.engines = true → s.coll.launches.find? s.launchDue = some l →
    exec (.timedPhaseLaunch) s = .next (s.timedLaunch l (s.lateFor l.id.gt)).ended) ∧
  (∀ (g : Fin 4096) (k : Nat) (s : State) (i : Inst),
    s.engines = true → (s.group g.val).inst k = some i → i.parts ≠ [] → i.ended = none → i.sent = false →
    exec (.collPhaseTimeout g k) s =
      .next ((((s.bump C.COLL_TIMEOUTS).wr R.COLL_EVENT_TIMEOUT 1).raise pgColl 1 g.val).instEnd g.val k csPeerUnreachable).ended)

/-- While the device runs: a CARR port that is UP sends the heartbeat; CARR units, mirror records and acknowledgements of a paired
device outside START are taken, a reserved record ends the session; silence on CARR loses it; an unacknowledged record past its time
puts the device in SOLO with MIRROR_TMO, a mate that stays dead from the start too; a planned move quiesces, yields and ends; the mode
and takeover writes act. MATE_ALIVE edges and silence act whenever the device is out of reset. (15_pair_operation.md R543 R544 R545
R549 R551 R553 R560 R565 R566) -/
def Obligations.PairEventsComplete : Prop :=
  (∀ (p : Fin 2) (s : State),
    s.runs = true → s.paired = true → s.linkState (94 + p.val) = lkUp → s.phase ≠ phStartup →
    exec (.carrHeartbeatSend p) s = .next (s.emit (.carr (94 + p.val) 3 s.heartbeat)).ended) ∧
  (∀ (flit : Flit) (s : State),
    s.runs = true → s.paired = true → s.phase ≠ phStartup →
    exec (.carrUnitReceive flit) s =
      .next (if field flit.toNat 0 8 = 0xF1 then (s.unitSeen.bump C.PAIR_HEARTBEATS_RX).takeHeartbeat flit else s.unitSeen).ended) ∧
  (∀ (s : State),
    s.runs = true → s.paired = true → s.pairState ≠ psUnpaired →
    (s.linkState 94 = lkUp ∨ s.linkState 95 = lkUp) → s.pair.lastUnit + 102400 ≤ s.time.cycles →
    exec (.carrSilenceExpire) s = .next s.loseCarr.ended) ∧
  (∀ (s : State),
    s.runs = true → s.paired = true → s.pairState ≠ psUnpaired → s.linkState 94 ≠ lkUp →
    s.linkState 95 ≠ lkUp → s.linkState 94 ≠ lkLp → s.linkState 95 ≠ lkLp →
    exec (.carrSilenceExpire) s = .next s.loseCarr.ended) ∧
  (∀ (s : State),
    s.up = true →
    exec (.mateAliveEdge) s =
      .next (if s.paired && s.mateDead then (s.wr R.PAIR_STATUS_ALIVE_OK 1).pairSignals else if s.pair.doubt then s.aloneNow else
        s).ended) ∧
  (∀ (s : State),
    s.up = true → s.paired = true → s.mateDead = false →
    exec (.mateAliveSilence) s =
      .next ((((s.wr R.PAIR_STATUS_ALIVE_OK 0).wr R.PAIR_EVENT_MATE_DEAD 1).pairSignals).wakeLatch wkMateDead 0).ended) ∧
  (∀ (mseq : W32) (r : Option MirRec) (s : State),
    s.runs = true → s.paired = true → s.phase ≠ phStartup → s.pairState ≠ psUnpaired →
    exec (.mirrorRecordReceive mseq r) s =
      .next (match r with | none => s.sessionBroken | some x => s.unitSeen.takeRec mseq.toNat x).ended) ∧
  (∀ (flit : Flit) (s : State),
    s.runs = true → s.paired = true → s.phase ≠ phStartup → field flit.toNat 0 8 = 0xF0 →
    exec (.mirrorAckReceive flit) s = .next (s.unitSeen.takeAck (field flit.toNat 32 32)).ended) ∧
  (∀ (s : State),
    s.runs = true → s.pairState = psPaired →
    ((s.pair.unacked.any fun x => x.sentAt.any fun c => s.time.cycles ≥ c + 1600 * s.rd R.PAIR_CFG_MIRROR_TMO) = true) →
    exec (.mirrorTimeout) s = .next (((s.wr R.PAIR_EVENT_MIRROR_TMO 1).raise pgPair 2).enterSolo).ended) ∧
  (∀ (s : State),
    s.runs = true → s.paired = true → s.phase ≠ phStartup → s.pairState = psStart → s.mateDead = true →
    s.pair.session = false →
    exec (.pairStartTimeout) s = .next s.enterSolo.pairSignals.ended) ∧
  (∀ (s : State) (m : Move),
    s.runs = true → s.pair.move = some m → m.giving = true → m.target ≤ s.gt + 16000000 →
    exec (.moveQuiesceStart) s = .next ({ s with pair := { s.pair with move := some { m with quiet := true } } }).ended) ∧
  (∀ (verified : Bool) (s : State) (m : Move),
    s.runs = true → s.pair.move = some m → m.target ≤ s.gt → (m.isReturn && !verified) = false →
    exec (.moveYield verified) s =
      .next (if m.giving then s.yieldGive m else if m.yielded then s.yieldTake m else { s with pair := { s.pair with move := some { m with verified := true } } }).ended) ∧
  (∀ (verified : Bool) (s : State) (m : Move) (v : State),
    s.runs = true → s.pair.move = some m → m.target ≤ s.gt → m.isReturn = true → verified = false →
    v = ({ s with pair := { s.pair with move := none, returnInc := none } } : State).wr R.PAIR_MOVE_GT 0 →
    exec (.moveYield verified) s =
      .next (if m.giving then v else { (v.draw 32).2 with nv := { v.nv with inc := (v.draw 32).1 } }).ended) ∧
  (∀ (s : State) (a b g : Nat),
    s.runs = true → s.pair.stale = some (a, b, g) → g ≤ s.gt →
    exec (.moveStaleWindowEnd) s = .next ({ s with pair := { s.pair with stale := none } }).ended) ∧
  (∀ (relaxed : Bool) (s : State),
    s.runs = true →
    exec (.pairCtrlModeWrite relaxed) s = .next (s.pairMode relaxed).ended) ∧
  (∀ (bit : Bool) (s : State),
    s.runs = true → s.pairState = psSolo →
    exec (.pairCtrlTakeoverWrite bit) s = .next (if bit then s.takeover false else s).ended)

/-- A host write of a command ring's PI, CI, arm or configuration acts on a function that is not WEDGED, an index out of range puts
the ring in error. While the service runs, a ring that may be fetched is read, SMBus messages with a right PEC and management requests
are taken; a command that is not done in time is told IN_PROGRESS once; management answers, neighbour flits and their timeouts end the
commands that wait for them. (16_command_packets.md R578 R583 R584 R585 R586 R589 R591 R592) -/
def Obligations.CommandPathEventsComplete : Prop :=
  (∀ (h : HPort) (f : Func) (v : W32) (s u : State),
    s.runs = true → u = s.hostSeen h.val → u.fnState (ringKey h f) ≠ fsWedged →
    idxSub v.toNat (u.ring (ringKey h f)).pi < 2 ^ 31 →
    exec (.cmdPiWrite h f v) s =
      .next (if idxSub v.toNat (u.rd R.CMD_CI_INDEX (ringKey h f)) > 2 ^ u.rd R.CMD_RCFG_CLOG (ringKey h f) then u.ringErr (ringKey h f)
        1 else u.setRing (ringKey h f) { u.ring (ringKey h f) with pi := v.toNat }).ended) ∧
  (∀ (h : HPort) (f : Func) (v : W32) (s u : State),
    s.runs = true → u = s.hostSeen h.val → u.fnState (ringKey h f) ≠ fsWedged →
    exec (.rplCiWrite h f v) s =
      .next (if idxSub (u.rd R.RPL_PI_INDEX (ringKey h f)) v.toNat > 2 ^ u.rd R.CMD_RCFG_RLOG (ringKey h f) then u.ringErr (ringKey h f)
        2 else u.setRing (ringKey h f) { u.ring (ringKey h f) with rplCi := v.toNat }).ended) ∧
  (∀ (h : HPort) (f : Func) (arm : Bool) (s u : State),
    s.runs = true → u = s.hostSeen h.val → u.fnState (ringKey h f) ≠ fsWedged →
    exec (.cmdArmWrite h f arm) s =
      .next (if arm then u.setRing (ringKey h f) { u.ring (ringKey h f) with armed := true } else u).ended) ∧
  (∀ (h : HPort) (f : Func) (v : W32) (s u : State),
    s.runs = true → u = s.hostSeen h.val → u.fnState (ringKey h f) ≠ fsWedged →
    exec (.cmdRcfgWrite h f v) s = .next (u.rcfgWrite (ringKey h f) v.toNat).ended) ∧
  (∀ (h : HPort) (f : Func) (data xbuf : HostRead) (s : State),
    s.serving = true → s.fw.live = none → s.mayFetch (ringKey h f) (.ring h f) = true →
    exec (.commandFetch h f data xbuf) s = .next (s.fetchCmd h f data xbuf).ended) ∧
  (∀ (c : CmdRef) (s : State) (x : Started) (v : State),
    s.runs = true → (s.cmd.started.find? (fun y => y.ref = c) = some x) → x.progress = false →
    ((match c.path with | .remote _ _ => true | _ => false) = false) →
    (v = { s with cmd := { s.cmd with started := s.cmd.started.map fun y => if y.n = x.n then { y with progress := true } else y } }) →
    exec (.commandProgressTimer c) s =
      .next (if x.silent then v else (v.bump C.CMD_IN_PROGRESS).sendReply c 0 x.opcode stInProgress false []).ended) ∧
  (∀ (bytes : List Byte) (pecOk : Bool) (s : State),
    s.serving = true → s.on R.CMD_CFG_SMB_EN = true → bytes ≠ [] →
    exec (.smbusMessage bytes pecOk) s =
      .next (if pecOk then (if (bytes.headD 0).toNat = 0 then (s.wakeLatch wkSmbAddr 0).mctp bytes else if (bytes.headD 0).toNat = 0x7E
        then (s.wakeLatch wkSmbAddr 0).smbusCmd bytes else s.wakeLatch wkSmbAddr 0) else ((s.wakeLatch wkSmbAddr 0).bump
        C.CMD_SMB_PEC).raise pgCmd 1).ended) ∧
  (∀ (s : State) (p : List Flit) (v : State),
    s.serving = true → s.fw.live = none → s.pwr.boot ≠ .load → s.mgmtTake ptMgmtReq = some (p, v) →
    exec (.mgmtReqReceive) s = .next (v.mgmtAsk p).ended) ∧
  (∀ (s : State) (p : List Flit) (v : State),
    s.runs = true → s.mgmtTake ptMgmtResp = some (p, v) →
    exec (.mgmtRespReceive) s = .next (v.mgmtAnswer p).ended) ∧
  (∀ (c : CmdRef) (s : State) (x : Started) (pid tag a : Nat),
    s.runs = true → (s.cmd.started.find? (fun y => y.ref = c) = some x) → x.wait = .remote pid tag a →
    exec (.remoteTimeout c) s = .next (s.remoteLost x.n pid tag).ended) ∧
  (∀ (p : Port) (flit : Flit) (s : State),
    s.runs = true → fget flit 0 8 = 0x05 → fget flit 16 2 = 0 →
    exec (.mgmtFlitQueryReceive p flit) s =
      .next (((s.bcTake p.val flit).bump C.CMD_MGMT_FLIT_RX).bcSend p.val ((s.bcTake p.val flit).infoFlit (fget flit 32 16))).ended) ∧
  (∀ (p : Port) (flit : Flit) (s : State) (x : Started) (v : State),
    s.runs = true → fget flit 0 8 = 0x05 → fget flit 16 2 = 1 →
    v = (s.bcTake p.val flit).bump C.CMD_MGMT_FLIT_RX →
    (v.cmd.started.find? (fun y => y.wait = .neighbour p.val (fget flit 32 16)) = some x) →
    exec (.mgmtFlitInfoReceive p flit) s =
      .next (v.okay x.n [(4, fget flit 48 20), (4, fget flit 76 32), (1, fget flit 68 8), (1, fget flit 108 2), (1, fget flit 110 3),
        (1, fget flit 113 2), (1, fget flit 115 2)]).ended) ∧
  (∀ (c : CmdRef) (s : State) (x : Started) (p t : Nat),
    s.runs = true → (s.cmd.started.find? (fun y => y.ref = c) = some x) → x.wait = .neighbour p t →
    exec (.neighbourInfoTimeout c) s = .next (s.ends x.n stFailed).ended)

/-- At any time: a wake source latches, the always-on clock loses its input, supplies fail and return, auxiliary supplies are lost and
return, VRHOT is asserted and released, and a set that has returned is shared again after its hold. While the device runs: the cores'
WAIT commits a waiting entry, PEAT entry retries, switches off and ends its ports, PEAT exit ends in RUN or resets on a bad save area,
and a request that runs out of time fails. (17_reset_power_supplies.md R613 R615 R620 R624 R625 R629 R631 R633 R636 R637) -/
def Obligations.PowerEventsComplete : Prop :=
  (∀ (src : Fin 12) (detail : BitVec 7) (s : State) (d : Nat),
    s.wakeSource src.val detail.toNat = some d →
    exec (.wakeEvent src detail) s = .next (s.wakeLatch src.val d).ended) ∧
  (∀ (backup : Bool) (s : State),
    s.aon.stopped = false →
    exec (.aonClockLoss backup) s = .next (s.clockLost backup).ended) ∧
  (∀ (setB : Bool) (s : State),
    exec (.supplyFail setB) s = .next (((s.wr (okField setB) 0).setReturned setB false).supplyEval).ended) ∧
  (∀ (setB : Bool) (s : State),
    exec (.supplyOkReturn setB) s =
      .next ((((s.wr (okField setB) 1).setReturned setB true).pwrCond (bNat setB) false).supplyEval).ended) ∧
  (∀ (setB : Bool) (s : State) (f : RegField) (v : State),
    (f = if setB then R.PWR_SUPPLY_ISOL_B else R.PWR_SUPPLY_ISOL_A) →
    s.on R.PWR_SUPPLY_CFG_AUTO_RESHARE = true →
    ((if setB then s.aon.returnedB else s.aon.returnedA) = true) → s.on f = true →
    v = (s.wrs [(f, 0), (R.PWR_SUPPLY_RESHARED, 1), (R.PWR_SUPPLY_MODE, 0)]).setReturned setB false →
    exec (.reshareHoldExpire setB) s = .next ((v.whenB v.up (·.bump C.PWR_RESHARES)).wakeLatch wkSupply 0).ended) ∧
  (∀ (setB : Bool) (s : State),
    exec (.vauxLoss setB) s = .next (s.vauxLost setB).ended) ∧
  (∀ (setB : Bool) (s v : State),
    (v = s.wr (if setB then R.PWR_SUPPLY_VAUX_B else R.PWR_SUPPLY_VAUX_A) 1) →
    exec (.vauxReturn setB) s =
      .next (if v.on R.PWR_SUPPLY_VAUX_A && v.on R.PWR_SUPPLY_VAUX_B then v.pwrCond 2 false else v).ended) ∧
  (∀ (s : State),
    exec (.vrhotAssert) s =
      .next (((s.wrs [(R.PWR_SUPPLY_VRHOT, 1), (R.PWR_SUPPLY_VRHOT_SEEN, 1)]).pwrCond 3 true).wakeLatch wkVrhot 0).ended) ∧
  (∀ (s : State),
    exec (.vrhotDeassert) s = .next ((s.wr R.PWR_SUPPLY_VRHOT 0).pwrCond 3 false).ended) ∧
  (∀ (s : State),
    s.runs = true → s.powerState = psRun → s.fwRuns = true →
    exec (.coreWait) s = .next s.coreWait.carrWatch.ended) ∧
  (∀ (p : Port) (s : State),
    s.runs = true → s.powerState = psEntry → s.pst p.val = tUp →
    exec (.peatLpRetry p) s = .next (s.lpRequest p.val true).carrWatch.ended) ∧
  (∀ (p : Port) (s : State),
    s.runs = true → s.powerState = psEntry → s.pst p.val ≠ tDorm → s.pst p.val ≠ tOff →
    exec (.peatPortOff p) s = .next ((s.setPort p.val { s.port p.val with peatOff := true }).enterOff p.val).carrWatch.ended) ∧
  (∀ (s : State),
    s.runs = true → s.powerState = psEntry →
    (((List.range 96).all fun p => s.pst p = tDorm || s.pst p = tOff) = true) →
    exec (.peatEntryDone) s = .next s.peatEnter.carrWatch.ended) ∧
  (∀ (saveOk : Bool) (s : State),
    s.runs = true → s.powerState = psExit →
    exec (.peatExitComplete saveOk) s = .next (if saveOk then s.peatDone else s.fullReset rcSaveBad 0 0 0).carrWatch.ended) ∧
  (∀ (s : State) (n : Nat),
    s.runs = true → s.powerWaiter = some (n, 2) → s.powerState = psRun →
    exec (.powerRequestTimeout) s = .next (s.powerFail n stFailed (s.entryCause 2)).carrWatch.ended)

/-- At any time power-on reset, RESET_N and an undervoltage reset the device, the rails recover, and a held device that may start is
released with its straps sampled. While it runs: expert, delayed, watchdog and firmware resets act, an image boots, the HBM becomes
ready, START-UP ends, the trial's confirm timer, and a live activation that restarts, completes or runs out of time, have their
effect. (17_reset_power_supplies.md R599 R603 R608 R609 R634; 18_faults.md R642; 20_firmware_and_trust.md R684 R692 R693 R697 R698) -/
def Obligations.ResetEventsComplete : Prop :=
  (∀ (s : State),
    exec (.powerOnReset) s = .next s.powerOn.ended) ∧
  (∀ (s : State),
    exec (.resetNAssert) s = .next (s.fullReset rcResetN 0 0 0).ended) ∧
  (∀ (rail : Fin 9) (s v : State),
    v = s.fullReset rcUndervolt rail.val 0 0 →
    exec (.undervoltage rail) s = .next ({ v with aon := { v.aon with rails := true } }).ended) ∧
  (∀ (s : State),
    exec (.railRecovery) s =
      .next (if s.on R.PWR_SUPPLY_A_OK || s.on R.PWR_SUPPLY_B_OK then { s with aon := { s.aon with rails := false } } else s).ended) ∧
  (∀ (straps : BitVec 4) (s : State),
    s.pwr.held = true → s.mayStart = true →
    exec (.fullResetRelease straps) s = .next (s.resetEnd straps.toNat).ended) ∧
  (∀ (bit : Bool) (s : State),
    s.runs = true →
    exec (.rstCtrlFullWrite bit) s = .next (if bit then s.fullReset rcExpert 0 0 0 else s).ended) ∧
  (∀ (s : State),
    s.runs = true → s.pwr.delayReset = true →
    exec (.resetDelayExpire) s = .next (s.fullReset rcCommand 0 0 0).ended) ∧
  (∀ (s : State),
    s.runs = true → s.pwr.fwReset = true →
    exec (.firmwareResetDelay) s = .next (s.fullReset rcFirmware 0 0 0).ended) ∧
  (∀ (mramOk : Bool) (s : State),
    s.runs = true → s.pwr.boot = .rom →
    exec (.imageBoot mramOk) s = .next (s.imageBoot mramOk).ended) ∧
  (∀ (incOk : Bool) (s : State),
    s.runs = true → s.pwr.boot = .firmware →
    exec (.hbmInitComplete incOk) s = .next (s.hbmReady incOk).carrWatch.ended) ∧
  (∀ (s : State),
    s.runs = true → s.pwr.boot = .blocks → s.sideMismatch = false →
    exec (.startupComplete) s = .next s.startDone.carrWatch.ended) ∧
  (∀ (s : State),
    s.runs = true →
    exec (.calderaWatchdogWarn) s = .next ((s.wr R.CHIP_WDOG_REMAIN 1000).raise pgChip 1).ended) ∧
  (∀ (s : State),
    s.runs = true →
    exec (.calderaWatchdogExpire) s = .next (s.fullReset rcWatchdog 0 0 0).ended) ∧
  (∀ (mramOk : Bool) (s : State),
    s.aon.confirmEnd.isSome = true → s.asleep = false → s.up = true → s.fwRuns = true →
    exec (.confirmTimeout mramOk) s = .next (s.confirmExpire mramOk).ended) ∧
  (∀ (mramOk : Bool) (s : State),
    s.aon.confirmEnd.isSome = true → (s.asleep = true ∨ s.up = false ∨ s.fwRuns = false) →
    exec (.confirmTimeout mramOk) s = .next ({ s with aon := { s.aon with confirmDue := some mramOk } }).ended) ∧
  (∀ (s : State) (n : Nat),
    s.runs = true → s.fw.live = some n → s.fw.restarted = false →
    ((s.cmd.started.any fun c => c.n ≠ n) = false) →
    exec (.liveActivationRestart) s =
      .next (if s.verify (!s.nv.activeImg) then ({ s with fw := { s.fw with restarted := true } } : State).wr R.CHIP_WDOG_REMAIN 2000
        else s.fullReset rcFirmware 0 0 0).ended) ∧
  (∀ (s : State) (n : Nat) (t v : State),
    s.runs = true → s.fw.live = some n → s.fw.restarted = true →
    t = (s.loadImage (!s.nv.activeImg)).otherRelease (!s.nv.activeImg) →
    v = ({ t with fw := { t.fw with live := none, restarted := false } } : State).wrs [(R.FWU_STATUS_TRIAL_BOOTED, 1),
      (R.FWU_STATUS_LIVE, 0), (R.CMD_STAT_LIVE_ACT, 0)] →
    exec (.liveActivationComplete) s = .next ((v.finalReply n stOk []).startConfirm).ended) ∧
  (∀ (s : State),
    s.runs = true → s.fw.live.isSome = true →
    exec (.liveActivationTimeout) s = .next (s.fullReset rcFirmware 0 0 0).ended)

/-- While the device runs: a grace time ends, forces are written, the phase is set, ECC errors, core exceptions and temperatures have
their reactions, the scrubber counts its pass, the PPS output is driven at its second and released, and expert lockout ends. FUMAROLE
toggles while its clock runs, ERR_N is followed at any time, and the JTAG TAP follows its edges at any time. (16_command_packets.md
R593; 18_faults.md R642 R649 R650 R652 R653 R656; 21_pins_and_electrical.md R721 R729 R731 R732) -/
def Obligations.FaultEventsComplete : Prop :=
  (∀ (page : BitVec 29) (s : State),
    s.runs = true → (pageKind page.toNat).isSome = true → s.on R.FLT_GRACE_RUNNING page.toNat = true →
    exec (.faultGraceExpire page) s = .next (s.graceEnd page.toNat).carrWatch.ended) ∧
  (∀ (page : BitVec 29) (raise hold : BitVec 16) (s : State),
    s.runs = true →
    exec (.fltForceWrite page raise hold) s = .next (s.forceWrite page.toNat raise.toNat hold.toNat).carrWatch.ended) ∧
  (∀ (phase : BitVec 2) (s : State),
    s.runs = true →
    exec (.pinPhaseWrite phase) s = .next (s.setPhase phase.toNat).ended) ∧
  (∀ (site : EccSite) (correctable : Bool) (detail : BitVec 40) (s : State),
    s.runs = true →
    exec (.eccError site correctable detail) s = .next (s.eccAt site correctable detail.toNat).carrWatch.ended) ∧
  (∀ (temp : BitVec 11) (s : State),
    s.runs = true →
    exec (.thermalSample temp) s = .next (s.thermal temp.toNat).ended) ∧
  (∀ (core : Fin 4) (s : State),
    s.runs = true →
    exec (.calderaCoreException core) s =
      .next ((s.wr R.CHIP_CORE_STATE (setField (s.rd R.CHIP_CORE_STATE) (2 * core.val) 2 2)).raise pgChip 0 core.val).ended) ∧
  (∀ (temp : BitVec 8) (s : State),
    s.runs = true →
    exec (.hbmTempChange temp) s =
      .next (((s.wr R.HBM_STATUS_TEMP temp.toNat).wrB R.HBM_STATUS_REFRESH_2X (temp.toNat > 85)).cond pgHbm 1 (temp.toNat > 95)).ended) ∧
  (∀ (s : State),
    s.runs = true →
    exec (.hbmScrubPass) s = .next ((s.wr R.HBM_SCRUB_PASS_GT s.gt).bump C.HBM_SCRUB_LINES 0 0x18000000).ended) ∧
  (∀ (s : State) (past : Nat),
    s.runs = true →
    (past = (s.gt + (if s.on R.PIN_PPS_SRC then 0 else 16 * s.rd R.GEYS_TAI_NS_TAI_NS)) % 16000000000) →
    s.on R.PIN_PPS_EN = true → (s.geysState = gsLocked ∨ s.geysState = gsHoldover) →
    (s.on R.PIN_PPS_SRC = true ∨ s.on R.GEYS_TAI_TAI_VALID = true) → past < 11 →
    s.pin.ppsLast ≠ s.gt - past + 1 →
    exec (.ppsOutRise) s =
      .next (({ s with pin := { s.pin with ppsLast := s.gt - past + 1 } } : State).ppsDrive true (some true)).ended) ∧
  (∀ (s : State),
    s.runs = true → s.pin.pps = true →
    exec (.ppsOutFall) s = .next (s.ppsDrive false (some false)).ended) ∧
  (∀ (s : State),
    s.runs = true →
    exec (.expertLockoutExpire) s = .next (s.wr R.CMD_EXPERT_LOCKOUT 0).ended) ∧
  (∀ (s : State) (v : Bool),
    s.alive = true → s.aon.stopped = false → v = !s.on R.PIN_FUM_LEVEL →
    exec (.fumaroleToggle) s =
      .next ((s.wrB R.PIN_FUM_LEVEL v).emit (.pin "FUMAROLE" (if v then none else some false))).ended) ∧
  (∀ (low : Bool) (s : State),
    exec (.errNSenseChange low) s = .next ({ s with aon := { s.aon with errLow := low } }).ended) ∧
  (∀ (s : State) (tms tdi : Bool),
    exec (.jtagTapClock (.rise tms tdi)) s = .next (s.tckRise tms tdi).ended) ∧
  (∀ (s : State),
    exec (.jtagTapClock .fall) s = .next s.tckFall.ended) ∧
  (∀ (s v : State),
    (v = s.setPin fun p => { p with tap := .reset, instr := .idcode }) →
    exec (.jtagTapClock .trst) s =
      .next (if v.pin.tdo.isNone then v else (v.setPin fun p => { p with tdo := none }).emit (.pin "TDO" none)).ended)

/-- While the device runs: a window boundary that is due and not replaced takes its snapshot, outside INVALID; a written snapshot
becomes the newest; a START write arms the reader, and the new configuration starts at its GT. A register write on a page of a host
port's BAR, or on the bus while the device runs, has the effect of its register. (00_scope.md R12; 19_performance_counters.md R667
R669 R672) -/
def Obligations.ReaderEventsComplete : Prop :=
  (∀ (s : State) (k : Nat) (t : State),
    s.runs = true → s.on R.CNT_CTRL_RUN = true → s.cnt.window ≠ 0 →
    s.cnt.start + s.cnt.k * s.cnt.window ≤ s.gt → k = (s.gt - s.cnt.start) / s.cnt.window →
    ((s.cnt.next.any fun g => g.2 ≤ s.cnt.start + k * s.cnt.window) = false) → s.powerState ≠ psExit →
    s.geysState ≠ gsInvalid →
    ((s.cnt.extended || s.cnt.slept) && s.lateFor (s.cnt.start + k * s.cnt.window)) = false →
    t = { s with cnt := { s.cnt with k := k + 1 } } →
    exec (.counterBoundary) s =
      .next (t.snap k (s.cnt.start + k * s.cnt.window) (s.lateFor (s.cnt.start + k * s.cnt.window)) false).ended) ∧
  (∀ (s : State) (w : SnapWrite) (t : State),
    s.runs = true → s.cnt.writing = some w →
    t = (s.hbmStore (s.snapSlot w.slot) (toBytes 256 w.header)).wr R.CNT_SEQ_SEQ w.slot →
    exec (.snapshotWriteComplete) s = .next ({ t with cnt := { t.cnt with writing := none } }).ended) ∧
  (∀ (gt : Word) (s : State),
    s.runs = true →
    exec (.cntStartWrite gt) s = .next (s.armReader (s.rd R.CNT_WINDOW_WINDOW_US) gt.toNat).ended) ∧
  (∀ (s : State) (us g : Nat),
    s.runs = true → s.cnt.next = some (us, g) → g ≤ s.gt → s.geysState ≠ gsInvalid →
    s.powerState ≠ psExit →
    exec (.readerConfigStart) s =
      .next ((({ s with cnt := { s.cnt with window := us * 16000, start := g, k := 1, next := none } } : State).wr R.CNT_CTRL_RUN
        1).snap 0 g (s.cnt.nextLate || s.lateFor g) true).ended) ∧
  (∀ (s : State) (h : HPort) (f : Func) (a : BitVec 20) (bytes : Nat) (data : Word) (u : State),
    s.runs = true → u = s.hostSeen h.val →
    exec (.registerWrite (.bar0 h f a) bytes data) s = .next (u.bar0Write h f a.toNat bytes data.toNat).ended) ∧
  (∀ (s : State) (h : HPort) (a : BitVec 29) (bytes : Nat) (data : Word) (u : State),
    s.runs = true → u = s.hostSeen h.val →
    exec (.registerWrite (.bar2 h a) bytes data) s = .next (if bitAt (u.rd R.CMD_EXPERT_EXPERT_EN) h.val then (u.busWrite a.toNat bytes
      data.toNat).carrWatch else u).ended) ∧
  (∀ (s : State) (a : BitVec 29) (bytes : Nat) (data : Word),
    exec (.registerWrite (.bus a) bytes data) s = .next (if s.runs then (s.busWrite a.toNat bytes data.toNat).carrWatch else
      s.busWriteAon a.toNat bytes data.toNat).ended)

/-- While nothing is owed (Safety.lean, quiet), each command that only answers or writes a host buffer, NOP, DEV_INFO, the STATUS and
READ commands of every group and SNAPSHOT_COPY, IDENTITY_READ, PERF_READ, LAST_WAKE among them, leaves a state in which, whether it
was started, refused or was not the next command of its path, nothing differs but the command table, the outputs, and what a reply on
its path writes: for a ring the producer index, the counters of host writes and messages, the MSI-X vectors and WAKE_N; for another
device the injection of one packet on E11. SNAPSHOT_COPY counts the HBM bursts it reads besides. (16_command_packets.md R577 R579
R595) -/
def Obligations.AnswersChangeNothingElse : Prop :=
  ∀ (c : CmdRef) (s t : State), s.quiet = true →
      (exec (.nop c) s = .next t → Replied c.path [] s t) ∧
      (∀ (page : BitVec 8), exec (.devInfo c page) s = .next t → Replied c.path [] s t) ∧
      (∀ (port : BitVec 8), exec (.portStatus c port) s = .next t → Replied c.path [] s t) ∧
      (∀ (port : BitVec 8), exec (.portPeer c port) s = .next t → Replied c.path [] s t) ∧
      (exec (.routeStatus c) s = .next t → Replied c.path [] s t) ∧
      (∀ (dim : BitVec 8) (outAddr : BitVec 64), exec (.rowsRead c dim outAddr) s = .next t → Replied c.path [] s t) ∧
      (∀ (outAddr : BitVec 64), exec (.throttleRead c outAddr) s = .next t → Replied c.path [] s t) ∧
      (∀ (bank : BitVec 8) (outAddr : BitVec 64), exec (.aliasRead c bank outAddr) s = .next t → Replied c.path [] s t) ∧
      (exec (.geysStatus c) s = .next t → Replied c.path [] s t) ∧
      (exec (.geysSleep c) s = .next t → Replied c.path [] s t) ∧
      (exec (.schedStatus c) s = .next t → Replied c.path [] s t) ∧
      (∀ (func : BitVec 8), exec (.funcStatus c func) s = .next t → Replied c.path [] s t) ∧
      (∀ (qidx : BitVec 32), exec (.qpStatus c qidx) s = .next t → Replied c.path [] s t) ∧
      (exec (.heldStatus c) s = .next t → Replied c.path [] s t) ∧
      (∀ (job : BitVec 16), exec (.jobStatus c job) s = .next t → Replied c.path [] s t) ∧
      (∀ (ctx : BitVec 16), exec (.ctxStatus c ctx) s = .next t → Replied c.path [] s t) ∧
      (∀ (pid : BitVec 32), exec (.tcStatus c pid) s = .next t → Replied c.path [] s t) ∧
      (∀ (key : BitVec 32), exec (.winStatus c key) s = .next t → Replied c.path [] s t) ∧
      (exec (.matStatus c) s = .next t → Replied c.path [] s t) ∧
      (∀ (qidx : BitVec 32), exec (.matQpStatus c qidx) s = .next t → Replied c.path [] s t) ∧
      (∀ (cnt : BitVec 32), exec (.cntRead c cnt) s = .next t → Replied c.path [] s t) ∧
      (∀ (gid : BitVec 16), exec (.groupStatus c gid) s = .next t → Replied c.path [] s t) ∧
      (exec (.pairStatus c) s = .next t → Replied c.path [] s t) ∧
      (exec (.lastWake c) s = .next t → Replied c.path [] s t) ∧
      (exec (.supplyStatus c) s = .next t → Replied c.path [] s t) ∧
      (∀ (page : BitVec 32), exec (.faultRead c page) s = .next t → Replied c.path [] s t) ∧
      (∀ (page : BitVec 32), exec (.faultFirst c page) s = .next t → Replied c.path [] s t) ∧
      (∀ (addr : BitVec 32), exec (.perfRead c addr) s = .next t → Replied c.path [] s t) ∧
      (∀ (index : BitVec 32) (outAddr : BitVec 64), exec (.snapshotCopy c index outAddr) s = .next t →
        Replied c.path (counterKeys C.HBM_RD_64B 0) s t) ∧
      (exec (.fwStatus c) s = .next t → Replied c.path [] s t) ∧
      (∀ (index : BitVec 8) (outAddr : BitVec 64) (outLen : BitVec 32), exec (.identityRead c index outAddr outLen) s = .next t →
        Replied c.path [] s t) ∧
      (exec (.expertStatus c) s = .next t → Replied c.path [] s t)

/-- While nothing is owed, each of PORT_PRESET, LINK_TIMERS, PORT_ASYM, LP_ENABLE, COST_SET, THROTTLE_SET, ROUTE_HOLD, GM_CFG,
SCHED_STOP, SCHED_CFG, HPORT_CFG, POLL_RATE, WALK_RANGE, XLT_TIMERS, TPT_TIMERS, TPT_ACKCFG, MAT_CFG, WAKE_CFG, FAULT_REACT and
FAULT_GRACE leaves a state that differs only in the fields of its row (of the named port, host port, range or page), and in what a
reply on its path writes (AnswersChangeNothingElse). LINK_TIMERS may name all ports, so its clause names the two timers of every port.
Three rows may change what follows from their fields at once: THROTTLE_SET which endpoint queues count as above LQ_THR (R265), GM_CFG
the class advertised and the grandmaster's TRIM (R217, R227), MAT_CFG the bucket of R470, filled up to now at the old rate.
(16_command_packets.md R577 R579 R595) -/
def Obligations.SettingsChangeOnlyTheirFields : Prop :=
  ∀ (c : CmdRef) (s t : State), s.quiet = true →
      (∀ (port preset : BitVec 8), exec (.portPreset c port preset) s = .next t → Replied c.path [R.PORT_CTRL_START_PRESET.key
        port.toNat 0] s t) ∧
      (∀ (port : BitVec 8) (replayTmr xoffWdog : BitVec 32), exec (.linkTimers c port replayTmr xoffWdog) s = .next t → Replied
        c.path ((List.range 96).flatMap fun p => [R.LINK_TMR_REPLAY_TMR.key p 0, R.LINK_TMR_XOFF_WDOG.key p 0]) s t) ∧
      (∀ (port : BitVec 8) (asym : BitVec 16), exec (.portAsym c port asym) s = .next t → Replied c.path [R.PORT_DLY_CAL_ASYM.key
        port.toNat 0] s t) ∧
      (∀ (port lpEn : BitVec 8), exec (.lpEnable c port lpEn) s = .next t → Replied c.path [R.LINK_CTRL_LP_EN.key port.toNat 0] s t) ∧
      (∀ (markThr : BitVec 16) (detThr detBias : BitVec 8), exec (.costSet c markThr detThr detBias) s = .next t → Replied c.path
        [R.ROUT_COST_MARK_THR.key 0 0, R.ROUT_COST_DET_THR.key 0 0, R.ROUT_COST_DET_BIAS.key 0 0] s t) ∧
      (∀ (aiStep mdShift rateMin aiPkts : BitVec 8) (lqThr : BitVec 16) (markEvery thrEn : BitVec 8), exec (.throttleSet c aiStep
        mdShift rateMin aiPkts lqThr markEvery thrEn) s = .next t → Replied c.path [R.ROUT_THR_AI_STEP.key 0 0,
        R.ROUT_THR_MD_SHIFT.key 0 0, R.ROUT_THR_RATE_MIN.key 0 0, R.ROUT_THR_AI_PKTS.key 0 0, R.ROUT_THR_LQ_THR.key 0 0,
        R.ROUT_THR_MARK_EVERY.key 0 0, R.ROUT_THR_THR_EN.key 0 0]
        { s with rout := { s.rout with epAbove := t.rout.epAbove } } t) ∧
      (∀ (hold : BitVec 64), exec (.routeHold c hold) s = .next t → Replied c.path [R.ROUT_HOLD_HOLD.key 0 0] s t) ∧
      (∀ (gmPrio gmEn ppsEn ref10mEn ppsFall : BitVec 8), exec (.gmCfg c gmPrio gmEn ppsEn ref10mEn ppsFall) s = .next t → Replied
        c.path [R.GEYS_CFG_GM_PRIO.key 0 0, R.GEYS_CFG_GM_EN.key 0 0, R.GEYS_CFG_PPS_EN.key 0 0, R.GEYS_CFG_REF10M_EN.key 0 0,
        R.GEYS_CFG_PPS_FALL.key 0 0, R.GEYS_STATUS_GM_CLASS.key 0 0, R.GEYS_TRIM_TRIM.key 0 0]
        { s with geys := { s.geys with ownClass := t.geys.ownClass, classRun := t.geys.classRun } } t) ∧
      (∀ (iter : BitVec 64), exec (.schedStop c iter) s = .next t → Replied c.path [R.SCHD_STOP_STOP_ITER.key 0 0,
        R.SCHD_STOP_STOP_EN.key 0 0] s t) ∧
      (∀ (fitGuard : BitVec 8) (cutHorizon : BitVec 16) (lateTol abortThr prewarmEn lstepEn lstepLead : BitVec 8), exec (.schedCfg c
        fitGuard cutHorizon lateTol abortThr prewarmEn lstepEn lstepLead) s = .next t → Replied c.path [R.SCHD_CFG_FIT_GUARD.key 0
        0, R.SCHD_CFG_CUT_HORIZON.key 0 0, R.SCHD_CFG_LATE_TOL.key 0 0, R.SCHD_CFG_ABORT_THR.key 0 0, R.SCHD_CFG_PREWARM_EN.key 0 0,
        R.SCHD_CFG_LSTEP_EN.key 0 0, R.SCHD_CFG_LSTEP_LEAD.key 0 0] s t) ∧
      (∀ (cxlEn : BitVec 8), exec (.hportCfg c cxlEn) s = .next t → Replied c.path [R.HIF_PORT_CFG_CXL_EN.key (pathPort c.path) 0] s
        t) ∧
      (∀ (rate : BitVec 8), exec (.pollRate c rate) s = .next t → Replied c.path [R.QUE_CFG_POLL_RATE.key 0 0] s t) ∧
      (∀ (index en : BitVec 8) (base limit : BitVec 64), exec (.walkRange c index en base limit) s = .next t → Replied c.path
        [R.XLT_WR_BASE_EN.key (pathPort c.path) index.toNat, R.XLT_WR_BASE_BASE.key (pathPort c.path) index.toNat,
        R.XLT_WR_LIMIT_LIMIT.key (pathPort c.path) index.toNat] s t) ∧
      (∀ (maxAge parkTime : BitVec 64), exec (.xltTimers c maxAge parkTime) s = .next t → Replied c.path [R.XLT_AGE_MAX_AGE.key 0 0,
        R.XLT_PARK_PARK_TIME.key 0 0] s t) ∧
      (∀ (lifetime giveup : BitVec 64), exec (.tptTimers c lifetime giveup) s = .next t → Replied c.path [R.TPT_LIFE_LIFETIME.key 0
        0, R.TPT_GIVEUP_GIVEUP.key 0 0] s t) ∧
      (∀ (ackEvery retryBudget : BitVec 8), exec (.tptAckcfg c ackEvery retryBudget) s = .next t → Replied c.path
        [R.TPT_ACK_ACK_EVERY.key 0 0, R.TPT_ACK_RETRY_BUDGET.key 0 0] s t) ∧
      (∀ (eagerLimit : BitVec 32) (mireRate : BitVec 16), exec (.matCfg c eagerLimit mireRate) s = .next t → Replied c.path
        [R.MAT_CFG_EAGER_LIMIT.key 0 0, R.MAT_MIRE_RATE_RATE.key 0 0]
        { s with mat := { s.mat with bucket := t.mat.bucket, bucketAt := t.mat.bucketAt } } t) ∧
      (∀ (sources : BitVec 32), exec (.wakeCfg c sources) s = .next t → Replied c.path [R.PWR_WAKE_EN_SOURCES.key 0 0] s t) ∧
      (∀ (page : BitVec 32) (source reaction : BitVec 8), exec (.faultReact c page source reaction) s = .next t → Replied c.path
        [(reactField page.toNat source.toNat).key page.toNat 0] s t) ∧
      (∀ (page : BitVec 32) (grace : BitVec 64), exec (.faultGrace c page grace) s = .next t → Replied c.path [R.FLT_GRACE_GRACE.key
        page.toNat 0] s t)

/-- For every command c and state s, a step of s with c at the front of its queue is exec of c on s with the queue's rest.
(00_scope.md; 16_command_packets.md R578 R584) -/
def Obligations.StepRunsFrontCommand : Prop :=
  ∀ (c : Instr) (rest : List Instr) (s : State), s.pending = c :: rest → step s = exec c { s with pending := rest }

/-- With nothing waiting, a step lets one CLK_GT cycle pass and ends as every command does. In that cycle GT's accumulator, of 64
whole and 40 fractional bits, advances by ten ticks and the signed TRIM modulo 2^104, while the blocks run. That an idle block ticks
is the model's design choice, log entry 5. (06_timebase.md R203; 01_architecture.md R47) -/
def Obligations.EmptyQueueIsOneClockCycle : Prop :=
  (∀ (s : State), s.pending = [] → step s = .next (tick s).ended) ∧
  (∀ (s : State), ((s.gtStep.time.acc : Nat) : Int) =
    ((s.time.acc : Nat) + 10 * 2 ^ 40 + signedOf 36 (s.rd R.GEYS_TRIM_TRIM)) % 2 ^ 104 ∧ s.gtStep.gt = s.gtStep.time.acc / 2 ^ 40) ∧
  (∀ (s : State), s.aonStep.runs = true → (tick s).time = s.aonStep.gtStep.time)

/-- The spec names no event on which the device stops, and no row of the table is left without a meaning: from every state, reachable
or not, a step answers a next state, never a fault and never a refusal. (00_scope.md R12; 16_command_packets.md R578 R579;
95_what_each_step_holds.md) -/
def Obligations.EveryStepAnswers : Prop :=
  ∀ (s : State), answers (step s)

/-- From every state in which no reaction of a fault is owed, whatever a step answers owes none either: every block reset, message and
chip reset that the step's faults ask for has been made. (18_faults.md R643 R645 R647 R648) -/
def Obligations.NothingOwedAfterStep : Prop :=
  ∀ (s t : State), s.reactions = [] → step s = .next t → t.reactions = []

/-- After reset every register field reads its reset value, nothing is owed, no command waits or has started, the device is held and
in STARTUP, GT is 0 and INVALID, no schedule is loaded or active, the HBM lists nothing, every port is off; and some fields whose
reset values the register tables state read those. (06_timebase.md R205; 08_scheduled_traffic.md R286; 17_reset_power_supplies.md R599
R602; 18_faults.md R646 R649) -/
def Obligations.ResetState : Prop :=
  (∀ f i j, State.reset.rd f i j = f.resetVal) ∧ State.reset.reactions = [] ∧ State.reset.quiet = true ∧ State.reset.pending = [] ∧
  State.reset.cmd.waiting = [] ∧ State.reset.cmd.started = [] ∧ State.reset.up = false ∧ State.reset.phase = phStartup ∧
  State.reset.time.acc = 0 ∧ State.reset.geysState = gsInvalid ∧ State.reset.schdState = ssIdle ∧ State.reset.bufValid 0 = false ∧
  State.reset.bufValid 1 = false ∧ State.reset.hbm = [] ∧ (∀ p, State.reset.pst p = tOff) ∧ State.reset.rd R.GEYS_UNC_UNC = 0xFFFFFFFF ∧
  State.reset.rd R.LINK_TMR_REPLAY_TMR 95 = 32000 ∧ State.reset.rd R.ROUT_HOLD_HOLD = 160000000 ∧
  State.reset.rd R.TPT_ACK_ACK_EVERY = 16 ∧ State.reset.rd R.MAT_CFG_EAGER_LIMIT = 8192 ∧ State.reset.rd R.CNT_WINDOW_WINDOW_US = 1000 ∧
  State.reset.rd R.FLT_GRACE_GRACE pgHbm = 160000000

/-- While the device is held in full reset, every row but those of the always-on domain, of a pin or of a reset (Safety.lean,
alwaysOn) leaves the state exactly as it was. (17_reset_power_supplies.md R599 R602 Table 17.3) -/
def Obligations.HeldDeviceIsStill : Prop :=
  ∀ (c : Instr) (s : State), s.up = false → alwaysOn c = false → exec c s = .next s

/-- In MOSS, and until the exit of PEAT is complete, every row of the queue engine, the transmit engines, the receive pipelines, the
walkers, the match units, TRG and the reduction units (Safety.lean, engineRow) leaves the state exactly as it was.
(17_reset_power_supplies.md R611 R616) -/
def Obligations.GatedEnginesAreStill : Prop :=
  ∀ (c : Instr) (s : State), engineRow c = true → s.powerState = psMoss ∨ s.powerState = psExit → exec c s = .next s

/-- For every header whose fields fit Table 3.1, every extension flit and every payload of PLEN bytes up to 4,096, the packet formed
of them has 2 + EXT + ceil(PLEN / 32) flits; its head gives back every field, with EPOCH, STALE and CN 0 and the reserved bits 0; its
payload and its extension are those given; and its end-to-end CRC is right. (03_packets.md R92 R93 R96 R98 R105 R108 R109 R110 R111;
03_packets.md Table 3.1; 03_packets.md Table 3.2) -/
def Obligations.PacketReadsBack : Prop :=
  ∀ (h : Hdr) (ext : Option Nat) (bs : List Byte),
    h.ptype < 64 → h.ext = ext.isSome → h.plen = bs.length → h.plen ≤ 4096 → h.dpid < 2 ^ 20 → h.spid < 2 ^ 20 → h.dinc < 2 ^ 16 →
    h.sinc < 2 ^ 16 → h.seq < 2 ^ 32 → h.birth < 2 ^ 40 → h.job < 2 ^ 16 → h.vc < 8 → h.dhport < 4 → h.dfunc < 64 → h.dqidx < 2 ^ 18 →
    h.shport < 4 → h.sfunc < 64 → h.sqidx < 2 ^ 18 → (∀ e, ext = some e → e < 2 ^ 256) →
    let p := formPacket h ext bs
    let x := p.headD 0
    hPtype x = h.ptype ∧ hExt x = h.ext ∧ hPlen x = h.plen ∧ hFirst x = h.first ∧ hLast x = h.last ∧ hDpid x = h.dpid ∧
    hSpid x = h.spid ∧ hDinc x = h.dinc ∧ hSinc x = h.sinc ∧ hSeq x = h.seq ∧ hBirth x = h.birth ∧ hJob x = h.job ∧
    hRstate x = h.vc ∧ hDhport x = h.dhport ∧ hDfunc x = h.dfunc ∧ hDqidx x = h.dqidx ∧ hShport x = h.shport ∧
    hSfunc x = h.sfunc ∧ hSqidx x = h.sqidx ∧ fget x 7 1 = 0 ∧ fget x 23 1 = 0 ∧ fget x 244 12 = 0 ∧
    p.length = pktFlits x ∧ p.length = 2 + ext.toList.length + (bs.length + 31) / 32 ∧ pktExt p = ext.getD 0 ∧ pktPayload p = bs ∧
    pktCrcOk p = true

/-- For every value that fits its field, the RMA, RESP, SEND, ACK, HELLO and COLL extensions of Table 3.4 give back every field they
were formed of. (03_packets.md R105 Table 3.4) -/
def Obligations.ExtensionsReadBack : Prop :=
  (∀ wkey woff oplen opoff opid rlen : Nat, wkey < 2 ^ 32 → woff < 2 ^ 64 → oplen < 2 ^ 32 → opoff < 2 ^ 32 → opid < 2 ^ 24 → rlen < 2 ^ 13 →
      let e := extRma wkey woff oplen opoff opid rlen
      e < 2 ^ 256 ∧ xWkey e = wkey ∧ xWoff e = woff ∧ xOplen e = oplen ∧ xOpoff e = opoff ∧ xOpid e = opid ∧ xRlen e = rlen) ∧
  (∀ oplen opoff opid status : Nat, oplen < 2 ^ 32 → opoff < 2 ^ 32 → opid < 2 ^ 24 → status < 256 →
      let e := extResp oplen opoff opid status
      e < 2 ^ 256 ∧ xOplen e = oplen ∧ xOpoff e = opoff ∧ xOpid e = opid ∧ xStatus e = status) ∧
  (∀ comm srank tag mlen moff opid rvoff : Nat, comm < 2 ^ 24 → srank < 2 ^ 24 → tag < 2 ^ 64 → mlen < 2 ^ 32 → moff < 2 ^ 32 →
      opid < 2 ^ 24 → rvoff < 2 ^ 56 →
      let e := extSend comm srank tag mlen moff opid rvoff
      e < 2 ^ 256 ∧ xComm e = comm ∧ xSrank e = srank ∧ xTag e = tag ∧ xMlen e = mlen ∧ xMoff e = moff ∧ xSendOpid e = opid ∧
      xRvoff e = rvoff) ∧
  (∀ cumack sack nakseq nakcode nakopid : Nat, cumack < 2 ^ 32 → sack < 2 ^ 64 → nakseq < 2 ^ 32 → nakcode < 256 → nakopid < 2 ^ 24 →
      let e := extAck cumack sack nakseq nakcode nakopid
      e < 2 ^ 256 ∧ xCumack e = cumack ∧ xSack e = sack ∧ xNakseq e = nakseq ∧ xNakcode e = nakcode ∧ xNakopid e = nakopid) ∧
  (∀ fullinc nextseq : Nat, fullinc < 2 ^ 32 → nextseq < 2 ^ 32 →
      let e := extHello fullinc nextseq
      e < 2 ^ 256 ∧ xFullinc e = fullinc ∧ xNextseq e = nextseq) ∧
  (∀ (cid phase dtype rop : Nat) (acc32 : Bool) (dim member elems segoff : Nat), cid < 2 ^ 24 → phase < 256 → dtype < 16 → rop < 16 →
      dim < 4 → member < 32 → elems < 2 ^ 12 → segoff < 2 ^ 32 →
      let e := extColl cid phase dtype rop acc32 dim member elems segoff
      e < 2 ^ 256 ∧ xCid e = cid ∧ xPhase e = phase ∧ xDtype e = dtype ∧ xRop e = rop ∧ xAcc32 e = acc32 ∧ xDim e = dim ∧
      xMember e = member ∧ xElems e = elems ∧ xSegoff e = segoff)

/-- For every NEXT code up to 9, KIND up to 6, ACKSEQ, XOFF and ARG that fit Table 5.3, the LCW formed of them is below 2^64, gives
back each field, has its reserved bits 0 and is not bad. For every frame of 1 to 8 flits, every LSEQ, CHAN up to 8 and NEXT up to 9,
the trailer formed of them gives back each field and the frame is not bad for a receiver that was announced its number of flits and
took no mark. (05_link_layer.md R162 R163 R165 R166 R168; 05_link_layer.md Tables 5.2 to 5.4) -/
def Obligations.LinkUnitsReadBack : Prop :=
  (∀ next kind ackseq xoff arg : Nat, next ≤ 9 → kind ≤ 6 → ackseq < 4096 → xoff < 256 → arg < 2 ^ 16 →
      let w := lcwWord next kind ackseq xoff arg
      w < 2 ^ 64 ∧ wNext w = next ∧ wKind w = kind ∧ wAckseq w = ackseq ∧ wXoff w = xoff ∧ wArg w = arg ∧ field w 28 1 = 0 ∧
      field w 45 3 = 0 ∧ lcwBad w = false) ∧
  (∀ (flits : List Flit) (n lseq chan next : Nat), flits.length = n + 1 → n ≤ 7 → lseq < 4096 → chan ≤ 8 → next ≤ 9 →
      let w := frameTrailer flits lseq chan next
      w < 2 ^ 64 ∧ tLseq w = lseq ∧ tChan w = chan ∧ tNflit w = n ∧ tNext w = next ∧ frameBad flits w n false = false)

/-- Raising source s below 16 of an existing fault page sets bit s of FLT_STAT and no other, increments FLT_COUNT up to 0xFFFF, and,
when FLT_FIRST.VALID is 0, captures the source, the detail, the phase and the GT and sets VALID; when VALID is 1, FLT_FIRST and
FLT_FIRST_GT stay. These are steps 1 to 3 of R643; step 4 is the reaction. (18_faults.md R643 R644) -/
def Obligations.RaiseRecordsTheSource : Prop :=
  ∀ (s : State) (page src detail : Nat), (pageKind page).isSome = true → src < 16 →
    let t := s.raise page src detail
    (∀ j, j < 16 → bitAt (t.rd R.FLT_STAT_STAT page) j = (decide (j = src) || bitAt (s.rd R.FLT_STAT_STAT page) j)) ∧
    t.rd R.FLT_COUNT_COUNT page = min 0xFFFF (s.rd R.FLT_COUNT_COUNT page + 1) ∧
    (s.on R.FLT_FIRST_VALID page = false → t.rd R.FLT_FIRST_VALID page = 1 ∧ t.rd R.FLT_FIRST_SOURCE page = src ∧
      t.rd R.FLT_FIRST_DETAIL page = detail % 2 ^ R.FLT_FIRST_DETAIL.width ∧ t.rd R.FLT_FIRST_PHASE page = s.phase % 4 ∧
      t.rd R.FLT_FIRST_GT_GT page = s.gt % 2 ^ 64) ∧
    (s.on R.FLT_FIRST_VALID page = true → t.rd R.FLT_FIRST_VALID page = s.rd R.FLT_FIRST_VALID page ∧
      t.rd R.FLT_FIRST_SOURCE page = s.rd R.FLT_FIRST_SOURCE page ∧ t.rd R.FLT_FIRST_DETAIL page = s.rd R.FLT_FIRST_DETAIL page ∧
      t.rd R.FLT_FIRST_PHASE page = s.rd R.FLT_FIRST_PHASE page ∧ t.rd R.FLT_FIRST_GT_GT page = s.rd R.FLT_FIRST_GT_GT page)

/-- For a 48-bit counter field in the low bits of its word, n events leave VALUE as the sum modulo 2^48; OVF is 1 after a wrap and as
it was otherwise; no other register field changes. (01_architecture.md R42; 19_performance_counters.md R660 R661) -/
def Obligations.CounterCounts : Prop :=
  ∀ (s : State) (f : RegField) (i n : Nat), f.low = 0 → f.width = 48 →
    (s.bump f i n).rd f i = (s.rd f i + n) % 2 ^ 48 ∧
    (s.bump f i n).rd (ovfOf f) i = (if s.rd f i + n < 2 ^ 48 then s.rd (ovfOf f) i else 1) ∧
    SameRegs (counterKeys f i) s (s.bump f i n)

/-- For every accepted topology word and every port that it gives a peer: the peer's PID is valid and is not the own one; the peer's
own topology word (the same word with its PID) is accepted too; and the port that the own assignment names at the peer is, by the
peer's assignment, joined to the own PID and to this very port. (02_grid_and_addressing.md R58 R65 Table 2.1) -/
def Obligations.WiringIsSymmetric : Prop :=
  ∀ (w p peer q : Nat), w < 2 ^ 64 → topoValid w = true → p < 96 → expectedPeer w p = some peer → expectedPeerPort w p = some q →
    validPidIn w peer = true ∧ peer ≠ topoOwnPid w ∧ q < 96 ∧ topoValid (setField w 32 20 peer) = true ∧
    expectedPeer (setField w 32 20 peer) q = some (topoOwnPid w) ∧ expectedPeerPort (setField w 32 20 peer) q = some p

/-- Whatever receives are posted, the one that matching picks for a first packet matches it and has the lowest post sequence of all
that match, exact or wildcard; none is picked only where none matches. (12_message_matching.md R449 R459) -/
def Obligations.MatchingTakesTheEarliest : Prop :=
  ∀ (posted : List Recv) (comm srank tag : Nat),
    (∀ r, (pickRecv posted comm srank tag).1 = some r → r ∈ posted ∧ r.takes comm srank tag = true ∧
      ∀ q ∈ posted, q.takes comm srank tag = true → r.post ≤ q.post) ∧
    ((pickRecv posted comm srank tag).1 = none → ∀ q ∈ posted, q.takes comm srank tag = false)

/-- When one of checks 3 to 5 of R579 refuses a command with a status, FLIP as one of the D commands, EXPERT_UNLOCK as one of the P
commands and REG_WRITE as an expert one give the reply with that status and the count of refused commands, and nothing else; and no
path but one the opcode's issuer code allows gets another answer than NOT_PERMITTED. (16_command_packets.md R577 R579 Table 16.5) -/
def Obligations.RefusedCommandOnlyReplies : Prop :=
  (∀ (c : CmdRef) (g : BitVec 64) (id : BitVec 16) (m : BitVec 8) (s u : State) (n st : Nat),
      Refuses s .d 0x0203 c (pack [(8, g.toNat), (2, id.toNat), (1, m.toNat)]) n u st →
      exec (.flip c g id m) s = .next ((u.bump C.CMD_REFUSED).ends n st).ended) ∧
  (∀ (c : CmdRef) (token : List Byte) (s u : State) (n st : Nat), Refuses s .px 0x0F01 c token n u st →
      exec (.expertUnlock c token) s = .next ((u.bump C.CMD_REFUSED).ends n st).ended) ∧
  (∀ (c : CmdRef) (addr : BitVec 32) (width : BitVec 8) (v : BitVec 64) (s u : State) (n st : Nat),
      Refuses s .px 0x0F04 c (pack [(4, addr.toNat), (1, width.toNat), (8, v.toNat)]) n u st →
      exec (.regWrite c addr width v) s = .next ((u.bump C.CMD_REFUSED).ends n st).ended) ∧
  (∀ (s : State) (b : Issuer) (code : Nat) (p : CmdPath), b.allows p = false → s.cmdRefusal b code p = some stNotPermitted)

/-- While nothing is owed, each of ALIAS_WRITE, EXCL_WRITE, TAI_SET, JOB_RELEASE, RESET_FULL, FW_STAGE_CHUNK, EXPERT_LOCK, RANK_WRITE
and JOB_BIND leaves either no more than a reply, or the state with the one entry, mask, pending value, job, flag, flash bytes, lock,
rank-table bytes or rank table that it writes, and no more than a reply from there. The bytes of the HBM that RANK_WRITE writes are 8
at 8 times the rank from the job's table; every other byte reads as before, and the counter of bursts written counts them; JOB_BIND
clears its own table of whole MiB and no other byte. R82 gives every entry of a new rank table V 0; that all its bits read 0 is the
model's choice (log 84), and so is which free slot and run it takes (log 24). (02_grid_and_addressing.md R78 R80 R82;
07_dynamic_routing.md R250 R252; 16_command_packets.md R577 R595; 20_firmware_and_trust.md R687) -/
def Obligations.TablesChangeOnlyTheirEntries : Prop :=
  (∀ (c : CmdRef) (s t : State), s.quiet = true →
      (∀ (bank : BitVec 8) (index : BitVec 16) (entry : BitVec 64), exec (.aliasWrite c bank index entry) s = .next t → Replied
        c.path [] s t ∨ Replied c.path [] (s.setAliasBank bank.toNat (tput 0 (s.aliasBank bank.toNat) index.toNat entry.toNat)) t) ∧
      (∀ (bank : BitVec 8) (maskLo : BitVec 64) (maskHi : BitVec 32), exec (.exclWrite c bank maskLo maskHi) s = .next t → Replied
        c.path [] s t ∨ Replied c.path [] (s.setExcl bank.toNat maskLo.toNat maskHi.toNat) t) ∧
      (∀ (taiSec : BitVec 64) (utcOfs : BitVec 16), exec (.taiSet c taiSec utcOfs) s = .next t → Replied c.path [] s t ∨ Replied
        c.path [R.GEYS_TAI_NS_UTC_OFS.key 0 0] { s with geys := { s.geys with taiPending := some taiSec.toNat } } t) ∧
      (∀ (job : BitVec 16) (gen : BitVec 8), exec (.jobRelease c job gen) s = .next t → Replied c.path [] s t ∨ Replied c.path [] { s with host := { s.host with jobSlot := tput 0 s.host.jobSlot job.toNat 0, jobRanks := tput 0 s.host.jobRanks job.toNat 0, jobTable := tput 0 s.host.jobTable job.toNat 0 } }
        t) ∧
      (∀ (delayUs : BitVec 32), exec (.resetFull c delayUs) s = .next t → Replied c.path [] s t ∨ Replied c.path [] { s with pwr := { s.pwr with delayReset := true } }
        t) ∧
      (∀ (offset : BitVec 32) (len : BitVec 8) (data : List Byte), exec (.fwStageChunk c offset len data) s = .next t → Replied
        c.path [] s t ∨ Replied c.path [R.FWU_STAGE_LEN.key 0 0] ((if offset.toNat = 0 then s.flashErase stagingOff stagingSize else
        s).flashWrite (stagingOff + offset.toNat) (data.take len.toNat)) t) ∧
      (exec (.expertLock c) s = .next t → Replied c.path [] s t ∨ Replied c.path [] (s.setUnlock (unlockKey c.path) false) t)) ∧
  (∀ (c : CmdRef) (s t : State), s.quiet = true →
      (∀ (job : BitVec 16) (gen : BitVec 8) (rank : BitVec 32) (entry : BitVec 64), exec (.rankWrite c job gen rank entry) s = .next
        t → Replied c.path [] s t ∨ Replied c.path (counterKeys C.HBM_WR_64B 0) (s.hbmWrite (tget 0 s.host.jobTable job.toNat +
        8 * rank.toNat) (toBytes 8 entry.toNat)) t) ∧
      (∀ (job : BitVec 16) (ranks : BitVec 32), exec (.jobBind c job ranks) s = .next t → Replied c.path [] s t ∨ ∃ slot mib,
        s.freeJobSlot = some slot ∧ freeRun s.tableRuns 0 (s.regionSize 7 / 2 ^ 20) (tableMib ranks.toNat) = some mib ∧ Replied
        c.path [] (s.bindJob job.toNat ranks.toNat slot mib) t)) ∧
  (∀ (s : State) (a : Nat) (bs : List Byte) (b : Nat),
      (s.hbmWrite a bs).hbmByte b = if a ≤ b ∧ b < a + bs.length then bs.getD (b - a) 0 else s.hbmByte b) ∧
  (∀ (s : State) (job ranks slot mib b : Nat), (s.bindJob job ranks slot mib).hbmByte b =
      if s.regionBase 7 + mib * 2 ^ 20 ≤ b ∧ b < s.regionBase 7 + mib * 2 ^ 20 + tableMib ranks * 2 ^ 20 then 0 else s.hbmByte b)

/-- While nothing is owed: the measurement of the always-on period, the end of the expert lock-out, the end of the bank hold, the
start of a schedule's run, the step of the pre-warm ramp up or down, the assertion and release of LSTEP_N, the HBM scrub pass, the end
of a window's cooling, the start of a move's quiet time, the end of its stale-window time, the start of a TIMED launch's guard, and
the completion of a snapshot write (which counts its bursts) leave every register field but those named, every byte of the HBM but the
256 of the snapshot's header, and every other part of the state as they were. (02_grid_and_addressing.md R85; 06_timebase.md R230;
07_dynamic_routing.md R257; 08_scheduled_traffic.md R287 R313 R314; 14_collectives.md R527; 15_pair_operation.md R565 R566;
16_command_packets.md R593; 19_performance_counters.md R672; 22_register_space.md R743) -/
def Obligations.EventsChangeOnlyTheirState : Prop :=
  ∀ (s t : State), s.quiet = true →
      (∀ period : W32, exec (.aonRateMeasure period) s = .next t →
        SameRegs [R.GEYS_AON_RATE_PERIOD.key 0 0, R.GEYS_SLP_INFO_RATE_LEARNED.key 0 0] s t ∧ t = { s with regs := t.regs }) ∧
      (exec .expertLockoutExpire s = .next t → SameRegs [R.CMD_EXPERT_LOCKOUT.key 0 0] s t ∧ t = { s with regs := t.regs }) ∧
      (exec .bankHoldExpire s = .next t → SameRegs [R.ROUT_BANK_HOLDING.key 0 0] s t ∧
        t = { s with regs := t.regs, rout := { s.rout with holdEnd := t.rout.holdEnd } }) ∧
      (exec .scheduleRunStart s = .next t → SameRegs [R.SCHD_CTRL_STATE.key 0 0] s t ∧ t = { s with regs := t.regs }) ∧
      (exec .prewarmRampUp s = .next t → SameRegs (R.SCHD_EVENT_PREWARM_ACTIVE.key 0 0 :: counterKeys C.SCHD_PREWARMS 0) s t ∧
        t = { s with regs := t.regs, cnt := { s.cnt with wraps := t.cnt.wraps }, schd := { s.schd with ramp := t.schd.ramp, level := t.schd.level } }) ∧
      (exec .prewarmRampDown s = .next t → SameRegs [R.SCHD_EVENT_PREWARM_ACTIVE.key 0 0] s t ∧
        t = { s with regs := t.regs, schd := { s.schd with ramp := t.schd.ramp, level := t.schd.level, bursts := t.schd.bursts } }) ∧
      (exec .lstepAssert s = .next t → SameRegs [R.SCHD_EVENT_LSTEP_ACTIVE.key 0 0] s t ∧ t = { s with regs := t.regs }) ∧
      (exec .lstepRelease s = .next t → SameRegs [R.SCHD_EVENT_LSTEP_ACTIVE.key 0 0] s t ∧ t = { s with regs := t.regs }) ∧
      (exec .hbmScrubPass s = .next t → SameRegs (R.HBM_SCRUB_PASS_GT.key 0 0 :: counterKeys C.HBM_SCRUB_LINES 0) s t ∧
        t = { s with regs := t.regs, cnt := { s.cnt with wraps := t.cnt.wraps } }) ∧
      (∀ w : Fin 16777216, exec (.windowCoolingEnd w) s = .next t → SameRegs [] s t ∧
        t = { s with win := { s.win with wins := t.win.wins, freed := t.win.freed } } ∧ ∀ i, i ≠ w.val → t.window i = s.window i) ∧
      (exec .moveQuiesceStart s = .next t → t = { s with pair := { s.pair with move := t.pair.move } }) ∧
      (exec .moveStaleWindowEnd s = .next t → t = { s with pair := { s.pair with stale := t.pair.stale } }) ∧
      (exec .timedGuardStart s = .next t →
        t = { s with coll := { s.coll with launches := t.coll.launches }, rout := { s.rout with guards := t.rout.guards } }) ∧
      (exec .snapshotWriteComplete s = .next t → SameRegs (R.CNT_SEQ_SEQ.key 0 0 :: counterKeys C.HBM_WR_64B 0) s t ∧
        t = { s with regs := t.regs, hbm := t.hbm, cnt := { s.cnt with writing := t.cnt.writing, wraps := t.cnt.wraps } } ∧
        (s.cnt.writing = none → t = s) ∧
        ∀ w, s.cnt.writing = some w → ∀ a, t.hbmByte a =
          if s.runs = true ∧ s.snapSlot w.slot ≤ a ∧ a < s.snapSlot w.slot + 256 then (toBytes 256 w.header).getD (a - s.snapSlot w.slot) 0
          else s.hbmByte a)

/-- For every topology word and PID, the PID is valid exactly when each of its four coordinates is below the size of its dimension.
(R61) -/
def Obligations.ValidPid : Prop :=
  ∀ (s : State) (pid : Nat), s.validPid pid = true ↔ ∀ d, d < 4 → coord pid d < topoSize s.topo d

/-- Each operation takes the context's NEXT_OPID, which advances by 1 modulo 2^24, a result of 0xFF_FFFF going on to 0; no other
context, and nothing else of this one, changes. (R404) -/
def Obligations.NextOpid : Prop :=
  ∀ (s : State) (k : Nat),
    (s.assignOpid k).1 = (s.tc k).nextOpid ∧
    ((s.assignOpid k).2.tc k).nextOpid =
      (if ((s.tc k).nextOpid + 1) % 2 ^ 24 = 0xFFFFFF then 0 else ((s.tc k).nextOpid + 1) % 2 ^ 24) ∧
    ((s.assignOpid k).2.tc k).nextOpid ≠ 0xFFFFFF ∧
    (s.assignOpid k).2.tc k = { s.tc k with nextOpid := ((s.assignOpid k).2.tc k).nextOpid } ∧
    (∀ j, j ≠ k → (s.assignOpid k).2.tc j = s.tc j) ∧
    (s.assignOpid k).2 = { s with tpt := { s.tpt with tcs := (s.assignOpid k).2.tpt.tcs } }

/-- After a block reset of GEYS, a full reset from any source and a power-on reset alike, GT and its fraction are 0 (the accumulator
holds both), TRIM is 0 and the state is INVALID. (R205) -/
def Obligations.GeyserResetClearsTime : Prop :=
  (∀ s : State, (s.takeReaction (.blockReset pgGeys)).time.acc = 0 ∧ (s.takeReaction (.blockReset pgGeys)).rd R.GEYS_TRIM_TRIM = 0 ∧
      (s.takeReaction (.blockReset pgGeys)).geysState = gsInvalid) ∧
  (∀ (s : State) (cause detail page source : Nat), (s.fullReset cause detail page source).time.acc = 0 ∧
      (s.fullReset cause detail page source).rd R.GEYS_TRIM_TRIM = 0 ∧ (s.fullReset cause detail page source).geysState = gsInvalid) ∧
  (∀ s : State, s.powerOn.time.acc = 0 ∧ s.powerOn.rd R.GEYS_TRIM_TRIM = 0 ∧ s.powerOn.geysState = gsInvalid)

/-- For a function in QUIESCING an enable event leaves PEND 1 and a disable event leaves PEND 0, and neither changes anything but that
field, so that neither restarts the quiesce or its limit. (R329) -/
def Obligations.PendDuringQuiescing : Prop :=
  ∀ (s : State) (k : Nat), s.fnState k = fsQuiescing →
    (s.enableEvent k).rd R.FUNC_STATUS_PEND k = 1 ∧ (s.disableEvent k).rd R.FUNC_STATUS_PEND k = 0 ∧
    SameRegs [R.FUNC_STATUS_PEND.key k 0] s (s.enableEvent k) ∧ s.enableEvent k = { s with regs := (s.enableEvent k).regs } ∧
    SameRegs [R.FUNC_STATUS_PEND.key k 0] s (s.disableEvent k) ∧ s.disableEvent k = { s with regs := (s.disableEvent k).regs }

/-- When SCHED_LOAD names the buffer of the image that is ARMED or RUNNING, whatever its other parameters and whatever the host's
bytes, it gets the reply BUSY and, while nothing else is owed, nothing but its own reply changes. (R285) -/
def Obligations.LoadIntoActiveBuffer : Prop :=
  ∀ (c : CmdRef) (buf : BitVec 8) (addr : BitVec 64) (len : BitVec 32) (data : HostRead) (s u : State) (n : Nat),
    Starts s .p 0x0400 c (pack [(1, buf.toNat), (8, addr.toNat), (4, len.toNat)]) n u →
    u.schdState = ssArmed ∨ u.schdState = ssRunning → buf.toNat = u.runBuf → buf.toNat ≤ 1 → s.quiet = true →
    exec (.schedLoad c buf addr len data) s = .next (u.ends n stBusy) ∧ Replied c.path [] s (u.ends n stBusy)

/-- An access narrower than 32 bits, or not aligned to its size, changes nothing, whether it names the global register space, on
either part of the bus, or BAR0 or BAR2 of a function; such a read of any of them returns 0. (R11) -/
def Obligations.NarrowAccessHasNoEffect : Prop :=
  ∀ (s : State) (h : HPort) (f : Func) (a bytes data : Nat), bytes < 4 ∨ a % bytes ≠ 0 →
    s.busWrite a bytes data = s ∧ s.busWriteAon a bytes data = s ∧ s.bar0Write h f a bytes data = s ∧
    s.busRead a bytes = (0, s) ∧ s.bar0Read h f a bytes = (0, s) ∧ s.bar2Read h a bytes = (0, s)
end

