-- ==== Sys2Proof/Laws/Tab.lean ====
section
/-! SUPPORT. Laws of the tables: a read after a write, and that every operation keeps the canonical form. -/

namespace Sys2Proof.Machine

section
variable {α : Type}

theorem tget_append_skip (d : α) (k : Nat) (l r : Tab α) (h : ∀ e ∈ l, e.1 ≠ k) : tget d (l ++ r) k = tget d r k := by
  induction l with
  | nil => rfl
  | cons e l ih =>
    have h1 : e.1 ≠ k := h e (by simp)
    simp only [List.cons_append, tget, if_neg h1]
    exact ih fun x hx => h x (by simp [hx])

theorem tget_absent (d : α) (k : Nat) (l : Tab α) (h : ∀ e ∈ l, e.1 ≠ k) : tget d l k = d := by
  simpa [tget] using tget_append_skip d k l [] h

/-- A filter on keys that keeps `k` does not change what is read at `k`. -/
theorem tget_filter_keep (d : α) (k : Nat) (p : Nat → Bool) (l : Tab α) (hk : p k = true) :
    tget d (l.filter fun e => p e.1) k = tget d l k := by
  induction l with
  | nil => rfl
  | cons e l ih =>
    obtain ⟨a, v⟩ := e
    by_cases ha : a = k
    · subst ha; simp [hk, tget]
    · by_cases hp : p a = true
      · simp [hp, tget, ha, ih]
      · simp [hp, tget, ha, ih]

variable [DecidableEq α]

theorem tget_tput_same (d : α) (t : Tab α) (k : Nat) (v : α) : tget d (tput d t k v) k = v := by
  unfold tput
  rw [List.append_assoc, tget_append_skip _ _ _ _ (by intro e he; simp at he; omega)]
  by_cases hv : v = d
  · simp only [if_pos hv, List.nil_append]
    rw [tget_absent _ _ _ (by intro e he; simp at he; omega), hv]
  · simp [if_neg hv, tget]

omit [DecidableEq α] in
/-- A key below `a` or at or above `b`, read from a table whose keys from `a` to `b` were replaced. -/
theorem tget_replace_other (d : α) (t m : Tab α) (a b k : Nat) (hab : a ≤ b) (hm : ∀ e ∈ m, e.1 ≠ k) (hk : k < a ∨ b ≤ k) :
    tget d ((t.filter fun e => e.1 < a) ++ m ++ t.filter fun e => b ≤ e.1) k = tget d t k := by
  rcases hk with hk | hk
  · have e1 : tget d (t.filter fun e => decide (e.1 < a)) k = tget d t k :=
      tget_filter_keep d k (fun x => decide (x < a)) t (by simpa using hk)
    rw [List.append_assoc]
    by_cases hin : ∃ e ∈ t, e.1 = k
    · rw [← e1]
      clear e1
      obtain ⟨e, he, rfl⟩ := hin
      generalize (t.filter fun e => decide (b ≤ e.1)) = r
      have hmem : e ∈ t.filter fun e => decide (e.1 < a) := by simp [he, hk]
      revert hmem
      generalize (t.filter fun e => decide (e.1 < a)) = l
      intro hmem
      induction l with
      | nil => simp at hmem
      | cons x l ih =>
        obtain ⟨y, w⟩ := x
        by_cases hy : y = e.1
        · simp [tget, hy]
        · have : e ∈ l := by
            rcases List.mem_cons.mp hmem with h | h
            · exact absurd (by rw [h]) hy
            · exact h
          simp [tget, hy, ih this]
    · have hno : ∀ e ∈ t, e.1 ≠ k := fun e he h => hin ⟨e, he, h⟩
      rw [tget_absent d k t hno]
      refine tget_absent d k _ ?_
      intro e he
      simp only [List.mem_append, List.mem_filter] at he
      rcases he with he | he | he
      · exact hno e he.1
      · exact hm e he
      · exact hno e he.1
  · rw [List.append_assoc, tget_append_skip _ _ _ _ (by intro e he; simp at he; omega), tget_append_skip _ _ _ _ hm]
    exact tget_filter_keep d k (fun x => decide (b ≤ x)) t (by simpa using hk)

theorem tget_tput_other (d : α) (t : Tab α) (k j : Nat) (v : α) (h : j ≠ k) : tget d (tput d t k v) j = tget d t j := by
  have := tget_replace_other d t (if v = d then [] else [(k, v)]) k (k + 1) j (by omega)
    (by intro e he; split at he <;> simp at he; subst he; exact fun h' => h h'.symm) (by omega)
  simpa [tput, Nat.succ_le_iff] using this

/-- A table is canonical from `lo` on: the form as a proposition. -/
theorem twfFrom_iff (d : α) (lo : Option Nat) (t : Tab α) :
    twfFrom d lo t = true ↔ (t.Pairwise fun x y => x.1 < y.1) ∧ (∀ e ∈ t, e.2 ≠ d) ∧ ∀ b, lo = some b → ∀ e ∈ t, b < e.1 := by
  induction t generalizing lo with
  | nil => simp [twfFrom]
  | cons x t ih =>
    obtain ⟨a, v⟩ := x
    simp only [twfFrom, Bool.and_eq_true, ih, decide_eq_true_eq, List.pairwise_cons, List.mem_cons, forall_eq_or_imp]
    constructor
    · rintro ⟨⟨h1, h2⟩, h3, h4, h5⟩
      refine ⟨⟨fun e he => h5 a rfl e he, h3⟩, ⟨h2, h4⟩, ?_⟩
      intro b hb
      subst hb
      have hb : b < a := by simpa using h1
      exact ⟨hb, fun e he => lt_trans hb (h5 a rfl e he)⟩
    · rintro ⟨⟨h1, h3⟩, ⟨h2, h4⟩, h5⟩
      refine ⟨⟨?_, h2⟩, h3, h4, ?_⟩
      · cases lo with
        | none => rfl
        | some b => simpa using (h5 b rfl).1
      · intro b hb e he
        cases hb
        exact h1 e he

theorem twf_iff (d : α) (t : Tab α) : twf d t = true ↔ (t.Pairwise fun x y => x.1 < y.1) ∧ ∀ e ∈ t, e.2 ≠ d := by
  simp [twf, twfFrom_iff]

/-- Replacing the keys from `a` to `b` by canonical entries within them keeps the canonical form. -/
theorem twf_replace (d : α) (t m : Tab α) (a b : Nat) (hab : a ≤ b) (ht : twf d t = true) (hm : twf d m = true)
    (hin : ∀ e ∈ m, a ≤ e.1 ∧ e.1 < b) :
    twf d ((t.filter fun e => e.1 < a) ++ m ++ t.filter fun e => b ≤ e.1) = true := by
  rw [twf_iff] at *
  obtain ⟨h1, h2⟩ := ht
  obtain ⟨h3, h4⟩ := hm
  constructor
  · rw [List.pairwise_append, List.pairwise_append]
    refine ⟨⟨h1.filter _, h3, ?_⟩, h1.filter _, ?_⟩
    · intro x hx y hy
      simp at hx
      have := hin y hy
      omega
    · intro x hx y hy
      simp only [List.mem_append, List.mem_filter, decide_eq_true_eq] at hx hy
      rcases hx with hx | hx
      · omega
      · have := hin x hx
        omega
  · intro e he
    simp only [List.mem_append, List.mem_filter] at he
    rcases he with (he | he) | he
    · exact h2 e he.1
    · exact h4 e he
    · exact h2 e he.1

theorem twf_tput (d : α) (t : Tab α) (k : Nat) (v : α) (ht : twf d t = true) : twf d (tput d t k v) = true := by
  have := twf_replace d t (if v = d then [] else [(k, v)]) k (k + 1) (by omega) ht
    (by split <;> simp_all [twf, twfFrom]) (by intro e he; split at he <;> simp at he; subst he; exact ⟨le_rfl, by simp⟩)
  simpa [tput, Nat.succ_le_iff] using this

theorem twf_tmod (d : α) (t : Tab α) (k : Nat) (f : α → α) (ht : twf d t = true) : twf d (tmod d t k f) = true := twf_tput d t k _ ht

theorem twf_tputRun (d : α) (t : Tab α) (first n : Nat) (v : α) (ht : twf d t = true) : twf d (tputRun d t first n v) = true := by
  unfold tputRun
  by_cases hv : v = d
  · simp only [if_pos hv]
    exact twf_replace d t [] first (first + n) (by omega) ht rfl (by simp)
  · simp only [if_neg hv]
    refine twf_replace d t _ first (first + n) (by omega) ht ?_ ?_
    · rw [twf_iff]
      refine ⟨?_, by simp [hv]⟩
      rw [List.pairwise_map]
      exact (List.pairwise_lt_range).imp (by omega)
    · intro e he
      simp at he
      obtain ⟨i, hi, rfl⟩ := he
      exact ⟨by simp, by simpa using hi⟩

end

/-! ### Bytes -/

theorem zipIdx_key_lt (bs : List Byte) (a : Nat) (e : Byte × Nat) (he : e ∈ bs.zipIdx a) : a ≤ e.2 ∧ e.2 < a + bs.length := by
  obtain ⟨x, i⟩ := e
  have := List.mem_zipIdx he
  omega

theorem twf_writeCells (m : Tab Byte) (d : Byte) (a : Nat) (bs : List Byte) (hm : twf d m = true) : twf d (writeCells m d a bs) = true := by
  unfold writeCells
  refine twf_replace d m _ a (a + bs.length) (by omega) hm ?_ ?_
  · rw [twf_iff]
    constructor
    · induction bs generalizing a with
      | nil => simp
      | cons b bs ih =>
        simp only [List.zipIdx_cons, List.filterMap_cons]
        split
        · exact ih (a + 1)
        · rename_i e he
          split at he
          · simp at he
          · simp at he
            subst he
            refine List.pairwise_cons.mpr ⟨?_, ih (a + 1)⟩
            intro y hy
            simp only [List.mem_filterMap] at hy
            obtain ⟨x, hx, hxy⟩ := hy
            have := zipIdx_key_lt bs (a + 1) x hx
            split at hxy <;> simp at hxy
            subst hxy
            simp
            omega
    · intro e he
      simp only [List.mem_filterMap] at he
      obtain ⟨x, hx, hxy⟩ := he
      split at hxy <;> simp at hxy
      subst hxy
      assumption
  · intro e he
    simp only [List.mem_filterMap] at he
    obtain ⟨x, hx, hxy⟩ := he
    have := zipIdx_key_lt bs a x hx
    split at hxy <;> simp at hxy
    subst hxy
    simpa using this

theorem hbmWrite_wf (s : State) (a : Nat) (bs : List Byte) (h : twf 0 s.hbm = true) : twf 0 (s.hbmWrite a bs).hbm = true :=
  twf_writeCells s.hbm 0 a bs h

/-- A byte outside those written reads as before. -/
theorem hbmByte_hbmWrite_other (s : State) (a : Nat) (bs : List Byte) (b : Nat) (h : b < a ∨ a + bs.length ≤ b) :
    (s.hbmWrite a bs).hbmByte b = s.hbmByte b := by
  refine tget_replace_other 0 s.hbm _ a (a + bs.length) b (by omega) ?_ h
  intro e he
  simp only [List.mem_filterMap] at he
  obtain ⟨x, hx, hxy⟩ := he
  have := zipIdx_key_lt bs a x hx
  split at hxy <;> simp at hxy
  subst hxy
  simp
  omega

theorem reset_hbm_wf : twf 0 State.reset.hbm = true := rfl

end Sys2Proof.Machine
end

