-- ==== Sys2Proof/Laws/State.lean ====
section
/-! SUPPORT. One lemma for each field of the state and each update: what the update leaves as it is, and what it writes. -/

namespace Sys2Proof.Machine

section wr
variable (s : State) (f : RegField) (v i j : Nat)

@[simp] theorem wr_pending : (s.wr f v i j).pending = s.pending := rfl
@[simp] theorem wr_out : (s.wr f v i j).out = s.out := rfl
@[simp] theorem wr_free : (s.wr f v i j).free = s.free := rfl
@[simp] theorem wr_time : (s.wr f v i j).time = s.time := rfl
@[simp] theorem wr_pwr : (s.wr f v i j).pwr = s.pwr := rfl
@[simp] theorem wr_reactions : (s.wr f v i j).reactions = s.reactions := rfl
@[simp] theorem wr_deferred : (s.wr f v i j).deferred = s.deferred := rfl
@[simp] theorem wr_blockResetAt : (s.wr f v i j).blockResetAt = s.blockResetAt := rfl
@[simp] theorem wr_lanes : (s.wr f v i j).lanes = s.lanes := rfl
@[simp] theorem wr_ports : (s.wr f v i j).ports = s.ports := rfl
@[simp] theorem wr_links : (s.wr f v i j).links = s.links := rfl
@[simp] theorem wr_inbuf : (s.wr f v i j).inbuf = s.inbuf := rfl
@[simp] theorem wr_holders : (s.wr f v i j).holders = s.holders := rfl
@[simp] theorem wr_rrLast : (s.wr f v i j).rrLast = s.rrLast := rfl
@[simp] theorem wr_rout : (s.wr f v i j).rout = s.rout := rfl
@[simp] theorem wr_rxq : (s.wr f v i j).rxq = s.rxq := rfl
@[simp] theorem wr_geys : (s.wr f v i j).geys = s.geys := rfl
@[simp] theorem wr_schd : (s.wr f v i j).schd = s.schd := rfl
@[simp] theorem wr_host : (s.wr f v i j).host = s.host := rfl
@[simp] theorem wr_xlt : (s.wr f v i j).xlt = s.xlt := rfl
@[simp] theorem wr_tpt : (s.wr f v i j).tpt = s.tpt := rfl
@[simp] theorem wr_win : (s.wr f v i j).win = s.win := rfl
@[simp] theorem wr_mat : (s.wr f v i j).mat = s.mat := rfl
@[simp] theorem wr_trg : (s.wr f v i j).trg = s.trg := rfl
@[simp] theorem wr_coll : (s.wr f v i j).coll = s.coll := rfl
@[simp] theorem wr_pair : (s.wr f v i j).pair = s.pair := rfl
@[simp] theorem wr_cmd : (s.wr f v i j).cmd = s.cmd := rfl
@[simp] theorem wr_aon : (s.wr f v i j).aon = s.aon := rfl
@[simp] theorem wr_nv : (s.wr f v i j).nv = s.nv := rfl
@[simp] theorem wr_fw : (s.wr f v i j).fw = s.fw := rfl
@[simp] theorem wr_cnt : (s.wr f v i j).cnt = s.cnt := rfl
@[simp] theorem wr_pin : (s.wr f v i j).pin = s.pin := rfl
@[simp] theorem wr_hbm : (s.wr f v i j).hbm = s.hbm := rfl
end wr

section wrB
variable (s : State) (f : RegField) (b : Bool) (i j : Nat)

@[simp] theorem wrB_pending : (s.wrB f b i j).pending = s.pending := rfl
@[simp] theorem wrB_out : (s.wrB f b i j).out = s.out := rfl
@[simp] theorem wrB_free : (s.wrB f b i j).free = s.free := rfl
@[simp] theorem wrB_time : (s.wrB f b i j).time = s.time := rfl
@[simp] theorem wrB_pwr : (s.wrB f b i j).pwr = s.pwr := rfl
@[simp] theorem wrB_reactions : (s.wrB f b i j).reactions = s.reactions := rfl
@[simp] theorem wrB_deferred : (s.wrB f b i j).deferred = s.deferred := rfl
@[simp] theorem wrB_blockResetAt : (s.wrB f b i j).blockResetAt = s.blockResetAt := rfl
@[simp] theorem wrB_lanes : (s.wrB f b i j).lanes = s.lanes := rfl
@[simp] theorem wrB_ports : (s.wrB f b i j).ports = s.ports := rfl
@[simp] theorem wrB_links : (s.wrB f b i j).links = s.links := rfl
@[simp] theorem wrB_inbuf : (s.wrB f b i j).inbuf = s.inbuf := rfl
@[simp] theorem wrB_holders : (s.wrB f b i j).holders = s.holders := rfl
@[simp] theorem wrB_rrLast : (s.wrB f b i j).rrLast = s.rrLast := rfl
@[simp] theorem wrB_rout : (s.wrB f b i j).rout = s.rout := rfl
@[simp] theorem wrB_rxq : (s.wrB f b i j).rxq = s.rxq := rfl
@[simp] theorem wrB_geys : (s.wrB f b i j).geys = s.geys := rfl
@[simp] theorem wrB_schd : (s.wrB f b i j).schd = s.schd := rfl
@[simp] theorem wrB_host : (s.wrB f b i j).host = s.host := rfl
@[simp] theorem wrB_xlt : (s.wrB f b i j).xlt = s.xlt := rfl
@[simp] theorem wrB_tpt : (s.wrB f b i j).tpt = s.tpt := rfl
@[simp] theorem wrB_win : (s.wrB f b i j).win = s.win := rfl
@[simp] theorem wrB_mat : (s.wrB f b i j).mat = s.mat := rfl
@[simp] theorem wrB_trg : (s.wrB f b i j).trg = s.trg := rfl
@[simp] theorem wrB_coll : (s.wrB f b i j).coll = s.coll := rfl
@[simp] theorem wrB_pair : (s.wrB f b i j).pair = s.pair := rfl
@[simp] theorem wrB_cmd : (s.wrB f b i j).cmd = s.cmd := rfl
@[simp] theorem wrB_aon : (s.wrB f b i j).aon = s.aon := rfl
@[simp] theorem wrB_nv : (s.wrB f b i j).nv = s.nv := rfl
@[simp] theorem wrB_fw : (s.wrB f b i j).fw = s.fw := rfl
@[simp] theorem wrB_cnt : (s.wrB f b i j).cnt = s.cnt := rfl
@[simp] theorem wrB_pin : (s.wrB f b i j).pin = s.pin := rfl
@[simp] theorem wrB_hbm : (s.wrB f b i j).hbm = s.hbm := rfl
end wrB

section emit
variable (s : State) (o : Out)

@[simp] theorem emit_pending : (s.emit o).pending = s.pending := rfl
@[simp] theorem emit_regs : (s.emit o).regs = s.regs := rfl
@[simp] theorem emit_free : (s.emit o).free = s.free := rfl
@[simp] theorem emit_time : (s.emit o).time = s.time := rfl
@[simp] theorem emit_pwr : (s.emit o).pwr = s.pwr := rfl
@[simp] theorem emit_reactions : (s.emit o).reactions = s.reactions := rfl
@[simp] theorem emit_deferred : (s.emit o).deferred = s.deferred := rfl
@[simp] theorem emit_blockResetAt : (s.emit o).blockResetAt = s.blockResetAt := rfl
@[simp] theorem emit_lanes : (s.emit o).lanes = s.lanes := rfl
@[simp] theorem emit_ports : (s.emit o).ports = s.ports := rfl
@[simp] theorem emit_links : (s.emit o).links = s.links := rfl
@[simp] theorem emit_inbuf : (s.emit o).inbuf = s.inbuf := rfl
@[simp] theorem emit_holders : (s.emit o).holders = s.holders := rfl
@[simp] theorem emit_rrLast : (s.emit o).rrLast = s.rrLast := rfl
@[simp] theorem emit_rout : (s.emit o).rout = s.rout := rfl
@[simp] theorem emit_rxq : (s.emit o).rxq = s.rxq := rfl
@[simp] theorem emit_geys : (s.emit o).geys = s.geys := rfl
@[simp] theorem emit_schd : (s.emit o).schd = s.schd := rfl
@[simp] theorem emit_host : (s.emit o).host = s.host := rfl
@[simp] theorem emit_xlt : (s.emit o).xlt = s.xlt := rfl
@[simp] theorem emit_tpt : (s.emit o).tpt = s.tpt := rfl
@[simp] theorem emit_win : (s.emit o).win = s.win := rfl
@[simp] theorem emit_mat : (s.emit o).mat = s.mat := rfl
@[simp] theorem emit_trg : (s.emit o).trg = s.trg := rfl
@[simp] theorem emit_coll : (s.emit o).coll = s.coll := rfl
@[simp] theorem emit_pair : (s.emit o).pair = s.pair := rfl
@[simp] theorem emit_cmd : (s.emit o).cmd = s.cmd := rfl
@[simp] theorem emit_aon : (s.emit o).aon = s.aon := rfl
@[simp] theorem emit_nv : (s.emit o).nv = s.nv := rfl
@[simp] theorem emit_fw : (s.emit o).fw = s.fw := rfl
@[simp] theorem emit_cnt : (s.emit o).cnt = s.cnt := rfl
@[simp] theorem emit_pin : (s.emit o).pin = s.pin := rfl
@[simp] theorem emit_hbm : (s.emit o).hbm = s.hbm := rfl
end emit

section emits
variable (s : State) (os : List Out)

@[simp] theorem emits_pending : (s.emits os).pending = s.pending := rfl
@[simp] theorem emits_regs : (s.emits os).regs = s.regs := rfl
@[simp] theorem emits_free : (s.emits os).free = s.free := rfl
@[simp] theorem emits_time : (s.emits os).time = s.time := rfl
@[simp] theorem emits_pwr : (s.emits os).pwr = s.pwr := rfl
@[simp] theorem emits_reactions : (s.emits os).reactions = s.reactions := rfl
@[simp] theorem emits_deferred : (s.emits os).deferred = s.deferred := rfl
@[simp] theorem emits_blockResetAt : (s.emits os).blockResetAt = s.blockResetAt := rfl
@[simp] theorem emits_lanes : (s.emits os).lanes = s.lanes := rfl
@[simp] theorem emits_ports : (s.emits os).ports = s.ports := rfl
@[simp] theorem emits_links : (s.emits os).links = s.links := rfl
@[simp] theorem emits_inbuf : (s.emits os).inbuf = s.inbuf := rfl
@[simp] theorem emits_holders : (s.emits os).holders = s.holders := rfl
@[simp] theorem emits_rrLast : (s.emits os).rrLast = s.rrLast := rfl
@[simp] theorem emits_rout : (s.emits os).rout = s.rout := rfl
@[simp] theorem emits_rxq : (s.emits os).rxq = s.rxq := rfl
@[simp] theorem emits_geys : (s.emits os).geys = s.geys := rfl
@[simp] theorem emits_schd : (s.emits os).schd = s.schd := rfl
@[simp] theorem emits_host : (s.emits os).host = s.host := rfl
@[simp] theorem emits_xlt : (s.emits os).xlt = s.xlt := rfl
@[simp] theorem emits_tpt : (s.emits os).tpt = s.tpt := rfl
@[simp] theorem emits_win : (s.emits os).win = s.win := rfl
@[simp] theorem emits_mat : (s.emits os).mat = s.mat := rfl
@[simp] theorem emits_trg : (s.emits os).trg = s.trg := rfl
@[simp] theorem emits_coll : (s.emits os).coll = s.coll := rfl
@[simp] theorem emits_pair : (s.emits os).pair = s.pair := rfl
@[simp] theorem emits_cmd : (s.emits os).cmd = s.cmd := rfl
@[simp] theorem emits_aon : (s.emits os).aon = s.aon := rfl
@[simp] theorem emits_nv : (s.emits os).nv = s.nv := rfl
@[simp] theorem emits_fw : (s.emits os).fw = s.fw := rfl
@[simp] theorem emits_cnt : (s.emits os).cnt = s.cnt := rfl
@[simp] theorem emits_pin : (s.emits os).pin = s.pin := rfl
@[simp] theorem emits_hbm : (s.emits os).hbm = s.hbm := rfl
end emits

section setLane
variable (s : State) (l : Nat) (x : LaneState)

@[simp] theorem setLane_pending : (s.setLane l x).pending = s.pending := rfl
@[simp] theorem setLane_regs : (s.setLane l x).regs = s.regs := rfl
@[simp] theorem setLane_out : (s.setLane l x).out = s.out := rfl
@[simp] theorem setLane_free : (s.setLane l x).free = s.free := rfl
@[simp] theorem setLane_time : (s.setLane l x).time = s.time := rfl
@[simp] theorem setLane_pwr : (s.setLane l x).pwr = s.pwr := rfl
@[simp] theorem setLane_reactions : (s.setLane l x).reactions = s.reactions := rfl
@[simp] theorem setLane_deferred : (s.setLane l x).deferred = s.deferred := rfl
@[simp] theorem setLane_blockResetAt : (s.setLane l x).blockResetAt = s.blockResetAt := rfl
@[simp] theorem setLane_ports : (s.setLane l x).ports = s.ports := rfl
@[simp] theorem setLane_links : (s.setLane l x).links = s.links := rfl
@[simp] theorem setLane_inbuf : (s.setLane l x).inbuf = s.inbuf := rfl
@[simp] theorem setLane_holders : (s.setLane l x).holders = s.holders := rfl
@[simp] theorem setLane_rrLast : (s.setLane l x).rrLast = s.rrLast := rfl
@[simp] theorem setLane_rout : (s.setLane l x).rout = s.rout := rfl
@[simp] theorem setLane_rxq : (s.setLane l x).rxq = s.rxq := rfl
@[simp] theorem setLane_geys : (s.setLane l x).geys = s.geys := rfl
@[simp] theorem setLane_schd : (s.setLane l x).schd = s.schd := rfl
@[simp] theorem setLane_host : (s.setLane l x).host = s.host := rfl
@[simp] theorem setLane_xlt : (s.setLane l x).xlt = s.xlt := rfl
@[simp] theorem setLane_tpt : (s.setLane l x).tpt = s.tpt := rfl
@[simp] theorem setLane_win : (s.setLane l x).win = s.win := rfl
@[simp] theorem setLane_mat : (s.setLane l x).mat = s.mat := rfl
@[simp] theorem setLane_trg : (s.setLane l x).trg = s.trg := rfl
@[simp] theorem setLane_coll : (s.setLane l x).coll = s.coll := rfl
@[simp] theorem setLane_pair : (s.setLane l x).pair = s.pair := rfl
@[simp] theorem setLane_cmd : (s.setLane l x).cmd = s.cmd := rfl
@[simp] theorem setLane_aon : (s.setLane l x).aon = s.aon := rfl
@[simp] theorem setLane_nv : (s.setLane l x).nv = s.nv := rfl
@[simp] theorem setLane_fw : (s.setLane l x).fw = s.fw := rfl
@[simp] theorem setLane_cnt : (s.setLane l x).cnt = s.cnt := rfl
@[simp] theorem setLane_pin : (s.setLane l x).pin = s.pin := rfl
@[simp] theorem setLane_hbm : (s.setLane l x).hbm = s.hbm := rfl
end setLane

section setPort
variable (s : State) (p : Nat) (x : PortState)

@[simp] theorem setPort_pending : (s.setPort p x).pending = s.pending := rfl
@[simp] theorem setPort_regs : (s.setPort p x).regs = s.regs := rfl
@[simp] theorem setPort_out : (s.setPort p x).out = s.out := rfl
@[simp] theorem setPort_free : (s.setPort p x).free = s.free := rfl
@[simp] theorem setPort_time : (s.setPort p x).time = s.time := rfl
@[simp] theorem setPort_pwr : (s.setPort p x).pwr = s.pwr := rfl
@[simp] theorem setPort_reactions : (s.setPort p x).reactions = s.reactions := rfl
@[simp] theorem setPort_deferred : (s.setPort p x).deferred = s.deferred := rfl
@[simp] theorem setPort_blockResetAt : (s.setPort p x).blockResetAt = s.blockResetAt := rfl
@[simp] theorem setPort_lanes : (s.setPort p x).lanes = s.lanes := rfl
@[simp] theorem setPort_links : (s.setPort p x).links = s.links := rfl
@[simp] theorem setPort_inbuf : (s.setPort p x).inbuf = s.inbuf := rfl
@[simp] theorem setPort_holders : (s.setPort p x).holders = s.holders := rfl
@[simp] theorem setPort_rrLast : (s.setPort p x).rrLast = s.rrLast := rfl
@[simp] theorem setPort_rout : (s.setPort p x).rout = s.rout := rfl
@[simp] theorem setPort_rxq : (s.setPort p x).rxq = s.rxq := rfl
@[simp] theorem setPort_geys : (s.setPort p x).geys = s.geys := rfl
@[simp] theorem setPort_schd : (s.setPort p x).schd = s.schd := rfl
@[simp] theorem setPort_host : (s.setPort p x).host = s.host := rfl
@[simp] theorem setPort_xlt : (s.setPort p x).xlt = s.xlt := rfl
@[simp] theorem setPort_tpt : (s.setPort p x).tpt = s.tpt := rfl
@[simp] theorem setPort_win : (s.setPort p x).win = s.win := rfl
@[simp] theorem setPort_mat : (s.setPort p x).mat = s.mat := rfl
@[simp] theorem setPort_trg : (s.setPort p x).trg = s.trg := rfl
@[simp] theorem setPort_coll : (s.setPort p x).coll = s.coll := rfl
@[simp] theorem setPort_pair : (s.setPort p x).pair = s.pair := rfl
@[simp] theorem setPort_cmd : (s.setPort p x).cmd = s.cmd := rfl
@[simp] theorem setPort_aon : (s.setPort p x).aon = s.aon := rfl
@[simp] theorem setPort_nv : (s.setPort p x).nv = s.nv := rfl
@[simp] theorem setPort_fw : (s.setPort p x).fw = s.fw := rfl
@[simp] theorem setPort_cnt : (s.setPort p x).cnt = s.cnt := rfl
@[simp] theorem setPort_pin : (s.setPort p x).pin = s.pin := rfl
@[simp] theorem setPort_hbm : (s.setPort p x).hbm = s.hbm := rfl
end setPort

section setLink
variable (s : State) (p : Nat) (x : LinkState)

@[simp] theorem setLink_pending : (s.setLink p x).pending = s.pending := rfl
@[simp] theorem setLink_regs : (s.setLink p x).regs = s.regs := rfl
@[simp] theorem setLink_out : (s.setLink p x).out = s.out := rfl
@[simp] theorem setLink_free : (s.setLink p x).free = s.free := rfl
@[simp] theorem setLink_time : (s.setLink p x).time = s.time := rfl
@[simp] theorem setLink_pwr : (s.setLink p x).pwr = s.pwr := rfl
@[simp] theorem setLink_reactions : (s.setLink p x).reactions = s.reactions := rfl
@[simp] theorem setLink_deferred : (s.setLink p x).deferred = s.deferred := rfl
@[simp] theorem setLink_blockResetAt : (s.setLink p x).blockResetAt = s.blockResetAt := rfl
@[simp] theorem setLink_lanes : (s.setLink p x).lanes = s.lanes := rfl
@[simp] theorem setLink_ports : (s.setLink p x).ports = s.ports := rfl
@[simp] theorem setLink_inbuf : (s.setLink p x).inbuf = s.inbuf := rfl
@[simp] theorem setLink_holders : (s.setLink p x).holders = s.holders := rfl
@[simp] theorem setLink_rrLast : (s.setLink p x).rrLast = s.rrLast := rfl
@[simp] theorem setLink_rout : (s.setLink p x).rout = s.rout := rfl
@[simp] theorem setLink_rxq : (s.setLink p x).rxq = s.rxq := rfl
@[simp] theorem setLink_geys : (s.setLink p x).geys = s.geys := rfl
@[simp] theorem setLink_schd : (s.setLink p x).schd = s.schd := rfl
@[simp] theorem setLink_host : (s.setLink p x).host = s.host := rfl
@[simp] theorem setLink_xlt : (s.setLink p x).xlt = s.xlt := rfl
@[simp] theorem setLink_tpt : (s.setLink p x).tpt = s.tpt := rfl
@[simp] theorem setLink_win : (s.setLink p x).win = s.win := rfl
@[simp] theorem setLink_mat : (s.setLink p x).mat = s.mat := rfl
@[simp] theorem setLink_trg : (s.setLink p x).trg = s.trg := rfl
@[simp] theorem setLink_coll : (s.setLink p x).coll = s.coll := rfl
@[simp] theorem setLink_pair : (s.setLink p x).pair = s.pair := rfl
@[simp] theorem setLink_cmd : (s.setLink p x).cmd = s.cmd := rfl
@[simp] theorem setLink_aon : (s.setLink p x).aon = s.aon := rfl
@[simp] theorem setLink_nv : (s.setLink p x).nv = s.nv := rfl
@[simp] theorem setLink_fw : (s.setLink p x).fw = s.fw := rfl
@[simp] theorem setLink_cnt : (s.setLink p x).cnt = s.cnt := rfl
@[simp] theorem setLink_pin : (s.setLink p x).pin = s.pin := rfl
@[simp] theorem setLink_hbm : (s.setLink p x).hbm = s.hbm := rfl
end setLink

section setInVc
variable (s : State) (q v : Nat) (x : InVc)

@[simp] theorem setInVc_pending : (s.setInVc q v x).pending = s.pending := rfl
@[simp] theorem setInVc_regs : (s.setInVc q v x).regs = s.regs := rfl
@[simp] theorem setInVc_out : (s.setInVc q v x).out = s.out := rfl
@[simp] theorem setInVc_free : (s.setInVc q v x).free = s.free := rfl
@[simp] theorem setInVc_time : (s.setInVc q v x).time = s.time := rfl
@[simp] theorem setInVc_pwr : (s.setInVc q v x).pwr = s.pwr := rfl
@[simp] theorem setInVc_reactions : (s.setInVc q v x).reactions = s.reactions := rfl
@[simp] theorem setInVc_deferred : (s.setInVc q v x).deferred = s.deferred := rfl
@[simp] theorem setInVc_blockResetAt : (s.setInVc q v x).blockResetAt = s.blockResetAt := rfl
@[simp] theorem setInVc_lanes : (s.setInVc q v x).lanes = s.lanes := rfl
@[simp] theorem setInVc_ports : (s.setInVc q v x).ports = s.ports := rfl
@[simp] theorem setInVc_links : (s.setInVc q v x).links = s.links := rfl
@[simp] theorem setInVc_holders : (s.setInVc q v x).holders = s.holders := rfl
@[simp] theorem setInVc_rrLast : (s.setInVc q v x).rrLast = s.rrLast := rfl
@[simp] theorem setInVc_rout : (s.setInVc q v x).rout = s.rout := rfl
@[simp] theorem setInVc_rxq : (s.setInVc q v x).rxq = s.rxq := rfl
@[simp] theorem setInVc_geys : (s.setInVc q v x).geys = s.geys := rfl
@[simp] theorem setInVc_schd : (s.setInVc q v x).schd = s.schd := rfl
@[simp] theorem setInVc_host : (s.setInVc q v x).host = s.host := rfl
@[simp] theorem setInVc_xlt : (s.setInVc q v x).xlt = s.xlt := rfl
@[simp] theorem setInVc_tpt : (s.setInVc q v x).tpt = s.tpt := rfl
@[simp] theorem setInVc_win : (s.setInVc q v x).win = s.win := rfl
@[simp] theorem setInVc_mat : (s.setInVc q v x).mat = s.mat := rfl
@[simp] theorem setInVc_trg : (s.setInVc q v x).trg = s.trg := rfl
@[simp] theorem setInVc_coll : (s.setInVc q v x).coll = s.coll := rfl
@[simp] theorem setInVc_pair : (s.setInVc q v x).pair = s.pair := rfl
@[simp] theorem setInVc_cmd : (s.setInVc q v x).cmd = s.cmd := rfl
@[simp] theorem setInVc_aon : (s.setInVc q v x).aon = s.aon := rfl
@[simp] theorem setInVc_nv : (s.setInVc q v x).nv = s.nv := rfl
@[simp] theorem setInVc_fw : (s.setInVc q v x).fw = s.fw := rfl
@[simp] theorem setInVc_cnt : (s.setInVc q v x).cnt = s.cnt := rfl
@[simp] theorem setInVc_pin : (s.setInVc q v x).pin = s.pin := rfl
@[simp] theorem setInVc_hbm : (s.setInVc q v x).hbm = s.hbm := rfl
end setInVc

section setHolder
variable (s : State) (o : Nat) (x : Option Holder)

@[simp] theorem setHolder_pending : (s.setHolder o x).pending = s.pending := rfl
@[simp] theorem setHolder_regs : (s.setHolder o x).regs = s.regs := rfl
@[simp] theorem setHolder_out : (s.setHolder o x).out = s.out := rfl
@[simp] theorem setHolder_free : (s.setHolder o x).free = s.free := rfl
@[simp] theorem setHolder_time : (s.setHolder o x).time = s.time := rfl
@[simp] theorem setHolder_pwr : (s.setHolder o x).pwr = s.pwr := rfl
@[simp] theorem setHolder_reactions : (s.setHolder o x).reactions = s.reactions := rfl
@[simp] theorem setHolder_deferred : (s.setHolder o x).deferred = s.deferred := rfl
@[simp] theorem setHolder_blockResetAt : (s.setHolder o x).blockResetAt = s.blockResetAt := rfl
@[simp] theorem setHolder_lanes : (s.setHolder o x).lanes = s.lanes := rfl
@[simp] theorem setHolder_ports : (s.setHolder o x).ports = s.ports := rfl
@[simp] theorem setHolder_links : (s.setHolder o x).links = s.links := rfl
@[simp] theorem setHolder_inbuf : (s.setHolder o x).inbuf = s.inbuf := rfl
@[simp] theorem setHolder_rrLast : (s.setHolder o x).rrLast = s.rrLast := rfl
@[simp] theorem setHolder_rout : (s.setHolder o x).rout = s.rout := rfl
@[simp] theorem setHolder_rxq : (s.setHolder o x).rxq = s.rxq := rfl
@[simp] theorem setHolder_geys : (s.setHolder o x).geys = s.geys := rfl
@[simp] theorem setHolder_schd : (s.setHolder o x).schd = s.schd := rfl
@[simp] theorem setHolder_host : (s.setHolder o x).host = s.host := rfl
@[simp] theorem setHolder_xlt : (s.setHolder o x).xlt = s.xlt := rfl
@[simp] theorem setHolder_tpt : (s.setHolder o x).tpt = s.tpt := rfl
@[simp] theorem setHolder_win : (s.setHolder o x).win = s.win := rfl
@[simp] theorem setHolder_mat : (s.setHolder o x).mat = s.mat := rfl
@[simp] theorem setHolder_trg : (s.setHolder o x).trg = s.trg := rfl
@[simp] theorem setHolder_coll : (s.setHolder o x).coll = s.coll := rfl
@[simp] theorem setHolder_pair : (s.setHolder o x).pair = s.pair := rfl
@[simp] theorem setHolder_cmd : (s.setHolder o x).cmd = s.cmd := rfl
@[simp] theorem setHolder_aon : (s.setHolder o x).aon = s.aon := rfl
@[simp] theorem setHolder_nv : (s.setHolder o x).nv = s.nv := rfl
@[simp] theorem setHolder_fw : (s.setHolder o x).fw = s.fw := rfl
@[simp] theorem setHolder_cnt : (s.setHolder o x).cnt = s.cnt := rfl
@[simp] theorem setHolder_pin : (s.setHolder o x).pin = s.pin := rfl
@[simp] theorem setHolder_hbm : (s.setHolder o x).hbm = s.hbm := rfl
end setHolder

section setRx
variable (s : State) (e : Nat) (x : List (List Flit))

@[simp] theorem setRx_pending : (s.setRx e x).pending = s.pending := rfl
@[simp] theorem setRx_regs : (s.setRx e x).regs = s.regs := rfl
@[simp] theorem setRx_out : (s.setRx e x).out = s.out := rfl
@[simp] theorem setRx_free : (s.setRx e x).free = s.free := rfl
@[simp] theorem setRx_time : (s.setRx e x).time = s.time := rfl
@[simp] theorem setRx_pwr : (s.setRx e x).pwr = s.pwr := rfl
@[simp] theorem setRx_reactions : (s.setRx e x).reactions = s.reactions := rfl
@[simp] theorem setRx_deferred : (s.setRx e x).deferred = s.deferred := rfl
@[simp] theorem setRx_blockResetAt : (s.setRx e x).blockResetAt = s.blockResetAt := rfl
@[simp] theorem setRx_lanes : (s.setRx e x).lanes = s.lanes := rfl
@[simp] theorem setRx_ports : (s.setRx e x).ports = s.ports := rfl
@[simp] theorem setRx_links : (s.setRx e x).links = s.links := rfl
@[simp] theorem setRx_inbuf : (s.setRx e x).inbuf = s.inbuf := rfl
@[simp] theorem setRx_holders : (s.setRx e x).holders = s.holders := rfl
@[simp] theorem setRx_rrLast : (s.setRx e x).rrLast = s.rrLast := rfl
@[simp] theorem setRx_rout : (s.setRx e x).rout = s.rout := rfl
@[simp] theorem setRx_geys : (s.setRx e x).geys = s.geys := rfl
@[simp] theorem setRx_schd : (s.setRx e x).schd = s.schd := rfl
@[simp] theorem setRx_host : (s.setRx e x).host = s.host := rfl
@[simp] theorem setRx_xlt : (s.setRx e x).xlt = s.xlt := rfl
@[simp] theorem setRx_tpt : (s.setRx e x).tpt = s.tpt := rfl
@[simp] theorem setRx_win : (s.setRx e x).win = s.win := rfl
@[simp] theorem setRx_mat : (s.setRx e x).mat = s.mat := rfl
@[simp] theorem setRx_trg : (s.setRx e x).trg = s.trg := rfl
@[simp] theorem setRx_coll : (s.setRx e x).coll = s.coll := rfl
@[simp] theorem setRx_pair : (s.setRx e x).pair = s.pair := rfl
@[simp] theorem setRx_cmd : (s.setRx e x).cmd = s.cmd := rfl
@[simp] theorem setRx_aon : (s.setRx e x).aon = s.aon := rfl
@[simp] theorem setRx_nv : (s.setRx e x).nv = s.nv := rfl
@[simp] theorem setRx_fw : (s.setRx e x).fw = s.fw := rfl
@[simp] theorem setRx_cnt : (s.setRx e x).cnt = s.cnt := rfl
@[simp] theorem setRx_pin : (s.setRx e x).pin = s.pin := rfl
@[simp] theorem setRx_hbm : (s.setRx e x).hbm = s.hbm := rfl
end setRx

section resetRo
variable (s : State) (fs : List RegField) (i : Nat)

@[simp] theorem resetRo_pending : (s.resetRo fs i).pending = s.pending := rfl
@[simp] theorem resetRo_out : (s.resetRo fs i).out = s.out := rfl
@[simp] theorem resetRo_free : (s.resetRo fs i).free = s.free := rfl
@[simp] theorem resetRo_time : (s.resetRo fs i).time = s.time := rfl
@[simp] theorem resetRo_pwr : (s.resetRo fs i).pwr = s.pwr := rfl
@[simp] theorem resetRo_reactions : (s.resetRo fs i).reactions = s.reactions := rfl
@[simp] theorem resetRo_deferred : (s.resetRo fs i).deferred = s.deferred := rfl
@[simp] theorem resetRo_blockResetAt : (s.resetRo fs i).blockResetAt = s.blockResetAt := rfl
@[simp] theorem resetRo_lanes : (s.resetRo fs i).lanes = s.lanes := rfl
@[simp] theorem resetRo_ports : (s.resetRo fs i).ports = s.ports := rfl
@[simp] theorem resetRo_links : (s.resetRo fs i).links = s.links := rfl
@[simp] theorem resetRo_inbuf : (s.resetRo fs i).inbuf = s.inbuf := rfl
@[simp] theorem resetRo_holders : (s.resetRo fs i).holders = s.holders := rfl
@[simp] theorem resetRo_rrLast : (s.resetRo fs i).rrLast = s.rrLast := rfl
@[simp] theorem resetRo_rout : (s.resetRo fs i).rout = s.rout := rfl
@[simp] theorem resetRo_rxq : (s.resetRo fs i).rxq = s.rxq := rfl
@[simp] theorem resetRo_geys : (s.resetRo fs i).geys = s.geys := rfl
@[simp] theorem resetRo_schd : (s.resetRo fs i).schd = s.schd := rfl
@[simp] theorem resetRo_host : (s.resetRo fs i).host = s.host := rfl
@[simp] theorem resetRo_xlt : (s.resetRo fs i).xlt = s.xlt := rfl
@[simp] theorem resetRo_tpt : (s.resetRo fs i).tpt = s.tpt := rfl
@[simp] theorem resetRo_win : (s.resetRo fs i).win = s.win := rfl
@[simp] theorem resetRo_mat : (s.resetRo fs i).mat = s.mat := rfl
@[simp] theorem resetRo_trg : (s.resetRo fs i).trg = s.trg := rfl
@[simp] theorem resetRo_coll : (s.resetRo fs i).coll = s.coll := rfl
@[simp] theorem resetRo_pair : (s.resetRo fs i).pair = s.pair := rfl
@[simp] theorem resetRo_cmd : (s.resetRo fs i).cmd = s.cmd := rfl
@[simp] theorem resetRo_aon : (s.resetRo fs i).aon = s.aon := rfl
@[simp] theorem resetRo_nv : (s.resetRo fs i).nv = s.nv := rfl
@[simp] theorem resetRo_fw : (s.resetRo fs i).fw = s.fw := rfl
@[simp] theorem resetRo_cnt : (s.resetRo fs i).cnt = s.cnt := rfl
@[simp] theorem resetRo_pin : (s.resetRo fs i).pin = s.pin := rfl
@[simp] theorem resetRo_hbm : (s.resetRo fs i).hbm = s.hbm := rfl
end resetRo

section hbmWrite
variable (s : State) (a : Nat) (bs : List Byte)

@[simp] theorem hbmWrite_pending : (s.hbmWrite a bs).pending = s.pending := rfl
@[simp] theorem hbmWrite_regs : (s.hbmWrite a bs).regs = s.regs := rfl
@[simp] theorem hbmWrite_out : (s.hbmWrite a bs).out = s.out := rfl
@[simp] theorem hbmWrite_free : (s.hbmWrite a bs).free = s.free := rfl
@[simp] theorem hbmWrite_time : (s.hbmWrite a bs).time = s.time := rfl
@[simp] theorem hbmWrite_pwr : (s.hbmWrite a bs).pwr = s.pwr := rfl
@[simp] theorem hbmWrite_reactions : (s.hbmWrite a bs).reactions = s.reactions := rfl
@[simp] theorem hbmWrite_deferred : (s.hbmWrite a bs).deferred = s.deferred := rfl
@[simp] theorem hbmWrite_blockResetAt : (s.hbmWrite a bs).blockResetAt = s.blockResetAt := rfl
@[simp] theorem hbmWrite_lanes : (s.hbmWrite a bs).lanes = s.lanes := rfl
@[simp] theorem hbmWrite_ports : (s.hbmWrite a bs).ports = s.ports := rfl
@[simp] theorem hbmWrite_links : (s.hbmWrite a bs).links = s.links := rfl
@[simp] theorem hbmWrite_inbuf : (s.hbmWrite a bs).inbuf = s.inbuf := rfl
@[simp] theorem hbmWrite_holders : (s.hbmWrite a bs).holders = s.holders := rfl
@[simp] theorem hbmWrite_rrLast : (s.hbmWrite a bs).rrLast = s.rrLast := rfl
@[simp] theorem hbmWrite_rout : (s.hbmWrite a bs).rout = s.rout := rfl
@[simp] theorem hbmWrite_rxq : (s.hbmWrite a bs).rxq = s.rxq := rfl
@[simp] theorem hbmWrite_geys : (s.hbmWrite a bs).geys = s.geys := rfl
@[simp] theorem hbmWrite_schd : (s.hbmWrite a bs).schd = s.schd := rfl
@[simp] theorem hbmWrite_host : (s.hbmWrite a bs).host = s.host := rfl
@[simp] theorem hbmWrite_xlt : (s.hbmWrite a bs).xlt = s.xlt := rfl
@[simp] theorem hbmWrite_tpt : (s.hbmWrite a bs).tpt = s.tpt := rfl
@[simp] theorem hbmWrite_win : (s.hbmWrite a bs).win = s.win := rfl
@[simp] theorem hbmWrite_mat : (s.hbmWrite a bs).mat = s.mat := rfl
@[simp] theorem hbmWrite_trg : (s.hbmWrite a bs).trg = s.trg := rfl
@[simp] theorem hbmWrite_coll : (s.hbmWrite a bs).coll = s.coll := rfl
@[simp] theorem hbmWrite_pair : (s.hbmWrite a bs).pair = s.pair := rfl
@[simp] theorem hbmWrite_cmd : (s.hbmWrite a bs).cmd = s.cmd := rfl
@[simp] theorem hbmWrite_aon : (s.hbmWrite a bs).aon = s.aon := rfl
@[simp] theorem hbmWrite_nv : (s.hbmWrite a bs).nv = s.nv := rfl
@[simp] theorem hbmWrite_fw : (s.hbmWrite a bs).fw = s.fw := rfl
@[simp] theorem hbmWrite_cnt : (s.hbmWrite a bs).cnt = s.cnt := rfl
@[simp] theorem hbmWrite_pin : (s.hbmWrite a bs).pin = s.pin := rfl
end hbmWrite

section setNv
variable (s : State) (g : NvState → NvState)

@[simp] theorem setNv_pending : (s.setNv g).pending = s.pending := rfl
@[simp] theorem setNv_regs : (s.setNv g).regs = s.regs := rfl
@[simp] theorem setNv_out : (s.setNv g).out = s.out := rfl
@[simp] theorem setNv_free : (s.setNv g).free = s.free := rfl
@[simp] theorem setNv_time : (s.setNv g).time = s.time := rfl
@[simp] theorem setNv_pwr : (s.setNv g).pwr = s.pwr := rfl
@[simp] theorem setNv_reactions : (s.setNv g).reactions = s.reactions := rfl
@[simp] theorem setNv_deferred : (s.setNv g).deferred = s.deferred := rfl
@[simp] theorem setNv_blockResetAt : (s.setNv g).blockResetAt = s.blockResetAt := rfl
@[simp] theorem setNv_lanes : (s.setNv g).lanes = s.lanes := rfl
@[simp] theorem setNv_ports : (s.setNv g).ports = s.ports := rfl
@[simp] theorem setNv_links : (s.setNv g).links = s.links := rfl
@[simp] theorem setNv_inbuf : (s.setNv g).inbuf = s.inbuf := rfl
@[simp] theorem setNv_holders : (s.setNv g).holders = s.holders := rfl
@[simp] theorem setNv_rrLast : (s.setNv g).rrLast = s.rrLast := rfl
@[simp] theorem setNv_rout : (s.setNv g).rout = s.rout := rfl
@[simp] theorem setNv_rxq : (s.setNv g).rxq = s.rxq := rfl
@[simp] theorem setNv_geys : (s.setNv g).geys = s.geys := rfl
@[simp] theorem setNv_schd : (s.setNv g).schd = s.schd := rfl
@[simp] theorem setNv_host : (s.setNv g).host = s.host := rfl
@[simp] theorem setNv_xlt : (s.setNv g).xlt = s.xlt := rfl
@[simp] theorem setNv_tpt : (s.setNv g).tpt = s.tpt := rfl
@[simp] theorem setNv_win : (s.setNv g).win = s.win := rfl
@[simp] theorem setNv_mat : (s.setNv g).mat = s.mat := rfl
@[simp] theorem setNv_trg : (s.setNv g).trg = s.trg := rfl
@[simp] theorem setNv_coll : (s.setNv g).coll = s.coll := rfl
@[simp] theorem setNv_pair : (s.setNv g).pair = s.pair := rfl
@[simp] theorem setNv_cmd : (s.setNv g).cmd = s.cmd := rfl
@[simp] theorem setNv_aon : (s.setNv g).aon = s.aon := rfl
@[simp] theorem setNv_fw : (s.setNv g).fw = s.fw := rfl
@[simp] theorem setNv_cnt : (s.setNv g).cnt = s.cnt := rfl
@[simp] theorem setNv_pin : (s.setNv g).pin = s.pin := rfl
@[simp] theorem setNv_hbm : (s.setNv g).hbm = s.hbm := rfl
end setNv

section startStamp
variable (s : State) (e : Nat)

@[simp] theorem startStamp_pending : (s.startStamp e).pending = s.pending := rfl
@[simp] theorem startStamp_regs : (s.startStamp e).regs = s.regs := rfl
@[simp] theorem startStamp_out : (s.startStamp e).out = s.out := rfl
@[simp] theorem startStamp_free : (s.startStamp e).free = s.free := rfl
@[simp] theorem startStamp_time : (s.startStamp e).time = s.time := rfl
@[simp] theorem startStamp_pwr : (s.startStamp e).pwr = s.pwr := rfl
@[simp] theorem startStamp_reactions : (s.startStamp e).reactions = s.reactions := rfl
@[simp] theorem startStamp_deferred : (s.startStamp e).deferred = s.deferred := rfl
@[simp] theorem startStamp_blockResetAt : (s.startStamp e).blockResetAt = s.blockResetAt := rfl
@[simp] theorem startStamp_lanes : (s.startStamp e).lanes = s.lanes := rfl
@[simp] theorem startStamp_ports : (s.startStamp e).ports = s.ports := rfl
@[simp] theorem startStamp_links : (s.startStamp e).links = s.links := rfl
@[simp] theorem startStamp_inbuf : (s.startStamp e).inbuf = s.inbuf := rfl
@[simp] theorem startStamp_holders : (s.startStamp e).holders = s.holders := rfl
@[simp] theorem startStamp_rrLast : (s.startStamp e).rrLast = s.rrLast := rfl
@[simp] theorem startStamp_rout : (s.startStamp e).rout = s.rout := rfl
@[simp] theorem startStamp_rxq : (s.startStamp e).rxq = s.rxq := rfl
@[simp] theorem startStamp_geys : (s.startStamp e).geys = s.geys := rfl
@[simp] theorem startStamp_schd : (s.startStamp e).schd = s.schd := rfl
@[simp] theorem startStamp_host : (s.startStamp e).host = s.host := rfl
@[simp] theorem startStamp_xlt : (s.startStamp e).xlt = s.xlt := rfl
@[simp] theorem startStamp_tpt : (s.startStamp e).tpt = s.tpt := rfl
@[simp] theorem startStamp_win : (s.startStamp e).win = s.win := rfl
@[simp] theorem startStamp_mat : (s.startStamp e).mat = s.mat := rfl
@[simp] theorem startStamp_trg : (s.startStamp e).trg = s.trg := rfl
@[simp] theorem startStamp_coll : (s.startStamp e).coll = s.coll := rfl
@[simp] theorem startStamp_pair : (s.startStamp e).pair = s.pair := rfl
@[simp] theorem startStamp_cmd : (s.startStamp e).cmd = s.cmd := rfl
@[simp] theorem startStamp_aon : (s.startStamp e).aon = s.aon := rfl
@[simp] theorem startStamp_nv : (s.startStamp e).nv = s.nv := rfl
@[simp] theorem startStamp_fw : (s.startStamp e).fw = s.fw := rfl
@[simp] theorem startStamp_cnt : (s.startStamp e).cnt = s.cnt := rfl
@[simp] theorem startStamp_hbm : (s.startStamp e).hbm = s.hbm := rfl
end startStamp

section bump
variable (s : State) (f : RegField) (i n : Nat)

@[simp] theorem bump_pending : (s.bump f i n).pending = s.pending := by unfold State.bump; dsimp only; split <;> rfl
@[simp] theorem bump_out : (s.bump f i n).out = s.out := by unfold State.bump; dsimp only; split <;> rfl
@[simp] theorem bump_free : (s.bump f i n).free = s.free := by unfold State.bump; dsimp only; split <;> rfl
@[simp] theorem bump_time : (s.bump f i n).time = s.time := by unfold State.bump; dsimp only; split <;> rfl
@[simp] theorem bump_pwr : (s.bump f i n).pwr = s.pwr := by unfold State.bump; dsimp only; split <;> rfl
@[simp] theorem bump_reactions : (s.bump f i n).reactions = s.reactions := by unfold State.bump; dsimp only; split <;> rfl
@[simp] theorem bump_deferred : (s.bump f i n).deferred = s.deferred := by unfold State.bump; dsimp only; split <;> rfl
@[simp] theorem bump_blockResetAt : (s.bump f i n).blockResetAt = s.blockResetAt := by unfold State.bump; dsimp only; split <;> rfl
@[simp] theorem bump_lanes : (s.bump f i n).lanes = s.lanes := by unfold State.bump; dsimp only; split <;> rfl
@[simp] theorem bump_ports : (s.bump f i n).ports = s.ports := by unfold State.bump; dsimp only; split <;> rfl
@[simp] theorem bump_links : (s.bump f i n).links = s.links := by unfold State.bump; dsimp only; split <;> rfl
@[simp] theorem bump_inbuf : (s.bump f i n).inbuf = s.inbuf := by unfold State.bump; dsimp only; split <;> rfl
@[simp] theorem bump_holders : (s.bump f i n).holders = s.holders := by unfold State.bump; dsimp only; split <;> rfl
@[simp] theorem bump_rrLast : (s.bump f i n).rrLast = s.rrLast := by unfold State.bump; dsimp only; split <;> rfl
@[simp] theorem bump_rout : (s.bump f i n).rout = s.rout := by unfold State.bump; dsimp only; split <;> rfl
@[simp] theorem bump_rxq : (s.bump f i n).rxq = s.rxq := by unfold State.bump; dsimp only; split <;> rfl
@[simp] theorem bump_geys : (s.bump f i n).geys = s.geys := by unfold State.bump; dsimp only; split <;> rfl
@[simp] theorem bump_schd : (s.bump f i n).schd = s.schd := by unfold State.bump; dsimp only; split <;> rfl
@[simp] theorem bump_host : (s.bump f i n).host = s.host := by unfold State.bump; dsimp only; split <;> rfl
@[simp] theorem bump_xlt : (s.bump f i n).xlt = s.xlt := by unfold State.bump; dsimp only; split <;> rfl
@[simp] theorem bump_tpt : (s.bump f i n).tpt = s.tpt := by unfold State.bump; dsimp only; split <;> rfl
@[simp] theorem bump_win : (s.bump f i n).win = s.win := by unfold State.bump; dsimp only; split <;> rfl
@[simp] theorem bump_mat : (s.bump f i n).mat = s.mat := by unfold State.bump; dsimp only; split <;> rfl
@[simp] theorem bump_trg : (s.bump f i n).trg = s.trg := by unfold State.bump; dsimp only; split <;> rfl
@[simp] theorem bump_coll : (s.bump f i n).coll = s.coll := by unfold State.bump; dsimp only; split <;> rfl
@[simp] theorem bump_pair : (s.bump f i n).pair = s.pair := by unfold State.bump; dsimp only; split <;> rfl
@[simp] theorem bump_cmd : (s.bump f i n).cmd = s.cmd := by unfold State.bump; dsimp only; split <;> rfl
@[simp] theorem bump_aon : (s.bump f i n).aon = s.aon := by unfold State.bump; dsimp only; split <;> rfl
@[simp] theorem bump_nv : (s.bump f i n).nv = s.nv := by unfold State.bump; dsimp only; split <;> rfl
@[simp] theorem bump_fw : (s.bump f i n).fw = s.fw := by unfold State.bump; dsimp only; split <;> rfl
@[simp] theorem bump_pin : (s.bump f i n).pin = s.pin := by unfold State.bump; dsimp only; split <;> rfl
@[simp] theorem bump_hbm : (s.bump f i n).hbm = s.hbm := by unfold State.bump; dsimp only; split <;> rfl
end bump

section hbmStore
variable (s : State) (a : Nat) (bs : List Byte)

@[simp] theorem hbmStore_pending : (s.hbmStore a bs).pending = (s.hbmWrite a bs).pending := by simp [State.hbmStore]
@[simp] theorem hbmStore_out : (s.hbmStore a bs).out = (s.hbmWrite a bs).out := by simp [State.hbmStore]
@[simp] theorem hbmStore_free : (s.hbmStore a bs).free = (s.hbmWrite a bs).free := by simp [State.hbmStore]
@[simp] theorem hbmStore_time : (s.hbmStore a bs).time = (s.hbmWrite a bs).time := by simp [State.hbmStore]
@[simp] theorem hbmStore_pwr : (s.hbmStore a bs).pwr = (s.hbmWrite a bs).pwr := by simp [State.hbmStore]
@[simp] theorem hbmStore_reactions : (s.hbmStore a bs).reactions = (s.hbmWrite a bs).reactions := by simp [State.hbmStore]
@[simp] theorem hbmStore_deferred : (s.hbmStore a bs).deferred = (s.hbmWrite a bs).deferred := by simp [State.hbmStore]
@[simp] theorem hbmStore_blockResetAt : (s.hbmStore a bs).blockResetAt = (s.hbmWrite a bs).blockResetAt := by simp [State.hbmStore]
@[simp] theorem hbmStore_lanes : (s.hbmStore a bs).lanes = (s.hbmWrite a bs).lanes := by simp [State.hbmStore]
@[simp] theorem hbmStore_ports : (s.hbmStore a bs).ports = (s.hbmWrite a bs).ports := by simp [State.hbmStore]
@[simp] theorem hbmStore_links : (s.hbmStore a bs).links = (s.hbmWrite a bs).links := by simp [State.hbmStore]
@[simp] theorem hbmStore_inbuf : (s.hbmStore a bs).inbuf = (s.hbmWrite a bs).inbuf := by simp [State.hbmStore]
@[simp] theorem hbmStore_holders : (s.hbmStore a bs).holders = (s.hbmWrite a bs).holders := by simp [State.hbmStore]
@[simp] theorem hbmStore_rrLast : (s.hbmStore a bs).rrLast = (s.hbmWrite a bs).rrLast := by simp [State.hbmStore]
@[simp] theorem hbmStore_rout : (s.hbmStore a bs).rout = (s.hbmWrite a bs).rout := by simp [State.hbmStore]
@[simp] theorem hbmStore_rxq : (s.hbmStore a bs).rxq = (s.hbmWrite a bs).rxq := by simp [State.hbmStore]
@[simp] theorem hbmStore_geys : (s.hbmStore a bs).geys = (s.hbmWrite a bs).geys := by simp [State.hbmStore]
@[simp] theorem hbmStore_schd : (s.hbmStore a bs).schd = (s.hbmWrite a bs).schd := by simp [State.hbmStore]
@[simp] theorem hbmStore_host : (s.hbmStore a bs).host = (s.hbmWrite a bs).host := by simp [State.hbmStore]
@[simp] theorem hbmStore_xlt : (s.hbmStore a bs).xlt = (s.hbmWrite a bs).xlt := by simp [State.hbmStore]
@[simp] theorem hbmStore_tpt : (s.hbmStore a bs).tpt = (s.hbmWrite a bs).tpt := by simp [State.hbmStore]
@[simp] theorem hbmStore_win : (s.hbmStore a bs).win = (s.hbmWrite a bs).win := by simp [State.hbmStore]
@[simp] theorem hbmStore_mat : (s.hbmStore a bs).mat = (s.hbmWrite a bs).mat := by simp [State.hbmStore]
@[simp] theorem hbmStore_trg : (s.hbmStore a bs).trg = (s.hbmWrite a bs).trg := by simp [State.hbmStore]
@[simp] theorem hbmStore_coll : (s.hbmStore a bs).coll = (s.hbmWrite a bs).coll := by simp [State.hbmStore]
@[simp] theorem hbmStore_pair : (s.hbmStore a bs).pair = (s.hbmWrite a bs).pair := by simp [State.hbmStore]
@[simp] theorem hbmStore_cmd : (s.hbmStore a bs).cmd = (s.hbmWrite a bs).cmd := by simp [State.hbmStore]
@[simp] theorem hbmStore_aon : (s.hbmStore a bs).aon = (s.hbmWrite a bs).aon := by simp [State.hbmStore]
@[simp] theorem hbmStore_nv : (s.hbmStore a bs).nv = (s.hbmWrite a bs).nv := by simp [State.hbmStore]
@[simp] theorem hbmStore_fw : (s.hbmStore a bs).fw = (s.hbmWrite a bs).fw := by simp [State.hbmStore]
@[simp] theorem hbmStore_pin : (s.hbmStore a bs).pin = (s.hbmWrite a bs).pin := by simp [State.hbmStore]
@[simp] theorem hbmStore_hbm : (s.hbmStore a bs).hbm = (s.hbmWrite a bs).hbm := by simp [State.hbmStore]
end hbmStore

/-- A run of outputs changes nothing else. -/
theorem foldl_emit {α : Type} (g : α → Out) (l : List α) (s : State) :
    l.foldl (fun s x => s.emit (g x)) s = { s with out := (l.foldl (fun s x => s.emit (g x)) s).out } := by
  induction l generalizing s with
  | nil => rfl
  | cons x l ih =>
    simp only [List.foldl_cons]
    rw [ih]
    rfl

section hostRead
variable (s : State) (req : BusReq) (n : Nat) (w : WaitCmd)

@[simp] theorem hostRead_pending : (s.hostRead req n).pending = s.pending := by
  unfold State.hostRead
  simp only [bump_pending]
  rw [foldl_emit]
@[simp] theorem hostRead_free : (s.hostRead req n).free = s.free := by
  unfold State.hostRead
  simp only [bump_free]
  rw [foldl_emit]
@[simp] theorem hostRead_time : (s.hostRead req n).time = s.time := by
  unfold State.hostRead
  simp only [bump_time]
  rw [foldl_emit]
@[simp] theorem hostRead_pwr : (s.hostRead req n).pwr = s.pwr := by
  unfold State.hostRead
  simp only [bump_pwr]
  rw [foldl_emit]
@[simp] theorem hostRead_reactions : (s.hostRead req n).reactions = s.reactions := by
  unfold State.hostRead
  simp only [bump_reactions]
  rw [foldl_emit]
@[simp] theorem hostRead_deferred : (s.hostRead req n).deferred = s.deferred := by
  unfold State.hostRead
  simp only [bump_deferred]
  rw [foldl_emit]
@[simp] theorem hostRead_blockResetAt : (s.hostRead req n).blockResetAt = s.blockResetAt := by
  unfold State.hostRead
  simp only [bump_blockResetAt]
  rw [foldl_emit]
@[simp] theorem hostRead_lanes : (s.hostRead req n).lanes = s.lanes := by
  unfold State.hostRead
  simp only [bump_lanes]
  rw [foldl_emit]
@[simp] theorem hostRead_ports : (s.hostRead req n).ports = s.ports := by
  unfold State.hostRead
  simp only [bump_ports]
  rw [foldl_emit]
@[simp] theorem hostRead_links : (s.hostRead req n).links = s.links := by
  unfold State.hostRead
  simp only [bump_links]
  rw [foldl_emit]
@[simp] theorem hostRead_inbuf : (s.hostRead req n).inbuf = s.inbuf := by
  unfold State.hostRead
  simp only [bump_inbuf]
  rw [foldl_emit]
@[simp] theorem hostRead_holders : (s.hostRead req n).holders = s.holders := by
  unfold State.hostRead
  simp only [bump_holders]
  rw [foldl_emit]
@[simp] theorem hostRead_rrLast : (s.hostRead req n).rrLast = s.rrLast := by
  unfold State.hostRead
  simp only [bump_rrLast]
  rw [foldl_emit]
@[simp] theorem hostRead_rout : (s.hostRead req n).rout = s.rout := by
  unfold State.hostRead
  simp only [bump_rout]
  rw [foldl_emit]
@[simp] theorem hostRead_rxq : (s.hostRead req n).rxq = s.rxq := by
  unfold State.hostRead
  simp only [bump_rxq]
  rw [foldl_emit]
@[simp] theorem hostRead_geys : (s.hostRead req n).geys = s.geys := by
  unfold State.hostRead
  simp only [bump_geys]
  rw [foldl_emit]
@[simp] theorem hostRead_schd : (s.hostRead req n).schd = s.schd := by
  unfold State.hostRead
  simp only [bump_schd]
  rw [foldl_emit]
@[simp] theorem hostRead_host : (s.hostRead req n).host = s.host := by
  unfold State.hostRead
  simp only [bump_host]
  rw [foldl_emit]
@[simp] theorem hostRead_xlt : (s.hostRead req n).xlt = s.xlt := by
  unfold State.hostRead
  simp only [bump_xlt]
  rw [foldl_emit]
@[simp] theorem hostRead_tpt : (s.hostRead req n).tpt = s.tpt := by
  unfold State.hostRead
  simp only [bump_tpt]
  rw [foldl_emit]
@[simp] theorem hostRead_win : (s.hostRead req n).win = s.win := by
  unfold State.hostRead
  simp only [bump_win]
  rw [foldl_emit]
@[simp] theorem hostRead_mat : (s.hostRead req n).mat = s.mat := by
  unfold State.hostRead
  simp only [bump_mat]
  rw [foldl_emit]
@[simp] theorem hostRead_trg : (s.hostRead req n).trg = s.trg := by
  unfold State.hostRead
  simp only [bump_trg]
  rw [foldl_emit]
@[simp] theorem hostRead_coll : (s.hostRead req n).coll = s.coll := by
  unfold State.hostRead
  simp only [bump_coll]
  rw [foldl_emit]
@[simp] theorem hostRead_pair : (s.hostRead req n).pair = s.pair := by
  unfold State.hostRead
  simp only [bump_pair]
  rw [foldl_emit]
@[simp] theorem hostRead_cmd : (s.hostRead req n).cmd = s.cmd := by
  unfold State.hostRead
  simp only [bump_cmd]
  rw [foldl_emit]
@[simp] theorem hostRead_aon : (s.hostRead req n).aon = s.aon := by
  unfold State.hostRead
  simp only [bump_aon]
  rw [foldl_emit]
@[simp] theorem hostRead_nv : (s.hostRead req n).nv = s.nv := by
  unfold State.hostRead
  simp only [bump_nv]
  rw [foldl_emit]
@[simp] theorem hostRead_fw : (s.hostRead req n).fw = s.fw := by
  unfold State.hostRead
  simp only [bump_fw]
  rw [foldl_emit]
@[simp] theorem hostRead_pin : (s.hostRead req n).pin = s.pin := by
  unfold State.hostRead
  simp only [bump_pin]
  rw [foldl_emit]
@[simp] theorem hostRead_hbm : (s.hostRead req n).hbm = s.hbm := by
  unfold State.hostRead
  simp only [bump_hbm]
  rw [foldl_emit]
@[simp] theorem hostWrite_pending (bs : List Byte) : (s.hostWrite req bs).pending = s.pending := by
  unfold State.hostWrite
  simp only [bump_pending]
  rw [foldl_emit]
@[simp] theorem hostWrite_free (bs : List Byte) : (s.hostWrite req bs).free = s.free := by
  unfold State.hostWrite
  simp only [bump_free]
  rw [foldl_emit]
@[simp] theorem hostWrite_time (bs : List Byte) : (s.hostWrite req bs).time = s.time := by
  unfold State.hostWrite
  simp only [bump_time]
  rw [foldl_emit]
@[simp] theorem hostWrite_pwr (bs : List Byte) : (s.hostWrite req bs).pwr = s.pwr := by
  unfold State.hostWrite
  simp only [bump_pwr]
  rw [foldl_emit]
@[simp] theorem hostWrite_reactions (bs : List Byte) : (s.hostWrite req bs).reactions = s.reactions := by
  unfold State.hostWrite
  simp only [bump_reactions]
  rw [foldl_emit]
@[simp] theorem hostWrite_deferred (bs : List Byte) : (s.hostWrite req bs).deferred = s.deferred := by
  unfold State.hostWrite
  simp only [bump_deferred]
  rw [foldl_emit]
@[simp] theorem hostWrite_blockResetAt (bs : List Byte) : (s.hostWrite req bs).blockResetAt = s.blockResetAt := by
  unfold State.hostWrite
  simp only [bump_blockResetAt]
  rw [foldl_emit]
@[simp] theorem hostWrite_lanes (bs : List Byte) : (s.hostWrite req bs).lanes = s.lanes := by
  unfold State.hostWrite
  simp only [bump_lanes]
  rw [foldl_emit]
@[simp] theorem hostWrite_ports (bs : List Byte) : (s.hostWrite req bs).ports = s.ports := by
  unfold State.hostWrite
  simp only [bump_ports]
  rw [foldl_emit]
@[simp] theorem hostWrite_links (bs : List Byte) : (s.hostWrite req bs).links = s.links := by
  unfold State.hostWrite
  simp only [bump_links]
  rw [foldl_emit]
@[simp] theorem hostWrite_inbuf (bs : List Byte) : (s.hostWrite req bs).inbuf = s.inbuf := by
  unfold State.hostWrite
  simp only [bump_inbuf]
  rw [foldl_emit]
@[simp] theorem hostWrite_holders (bs : List Byte) : (s.hostWrite req bs).holders = s.holders := by
  unfold State.hostWrite
  simp only [bump_holders]
  rw [foldl_emit]
@[simp] theorem hostWrite_rrLast (bs : List Byte) : (s.hostWrite req bs).rrLast = s.rrLast := by
  unfold State.hostWrite
  simp only [bump_rrLast]
  rw [foldl_emit]
@[simp] theorem hostWrite_rout (bs : List Byte) : (s.hostWrite req bs).rout = s.rout := by
  unfold State.hostWrite
  simp only [bump_rout]
  rw [foldl_emit]
@[simp] theorem hostWrite_rxq (bs : List Byte) : (s.hostWrite req bs).rxq = s.rxq := by
  unfold State.hostWrite
  simp only [bump_rxq]
  rw [foldl_emit]
@[simp] theorem hostWrite_geys (bs : List Byte) : (s.hostWrite req bs).geys = s.geys := by
  unfold State.hostWrite
  simp only [bump_geys]
  rw [foldl_emit]
@[simp] theorem hostWrite_schd (bs : List Byte) : (s.hostWrite req bs).schd = s.schd := by
  unfold State.hostWrite
  simp only [bump_schd]
  rw [foldl_emit]
@[simp] theorem hostWrite_host (bs : List Byte) : (s.hostWrite req bs).host = s.host := by
  unfold State.hostWrite
  simp only [bump_host]
  rw [foldl_emit]
@[simp] theorem hostWrite_xlt (bs : List Byte) : (s.hostWrite req bs).xlt = s.xlt := by
  unfold State.hostWrite
  simp only [bump_xlt]
  rw [foldl_emit]
@[simp] theorem hostWrite_tpt (bs : List Byte) : (s.hostWrite req bs).tpt = s.tpt := by
  unfold State.hostWrite
  simp only [bump_tpt]
  rw [foldl_emit]
@[simp] theorem hostWrite_win (bs : List Byte) : (s.hostWrite req bs).win = s.win := by
  unfold State.hostWrite
  simp only [bump_win]
  rw [foldl_emit]
@[simp] theorem hostWrite_mat (bs : List Byte) : (s.hostWrite req bs).mat = s.mat := by
  unfold State.hostWrite
  simp only [bump_mat]
  rw [foldl_emit]
@[simp] theorem hostWrite_trg (bs : List Byte) : (s.hostWrite req bs).trg = s.trg := by
  unfold State.hostWrite
  simp only [bump_trg]
  rw [foldl_emit]
@[simp] theorem hostWrite_coll (bs : List Byte) : (s.hostWrite req bs).coll = s.coll := by
  unfold State.hostWrite
  simp only [bump_coll]
  rw [foldl_emit]
@[simp] theorem hostWrite_pair (bs : List Byte) : (s.hostWrite req bs).pair = s.pair := by
  unfold State.hostWrite
  simp only [bump_pair]
  rw [foldl_emit]
@[simp] theorem hostWrite_cmd (bs : List Byte) : (s.hostWrite req bs).cmd = s.cmd := by
  unfold State.hostWrite
  simp only [bump_cmd]
  rw [foldl_emit]
@[simp] theorem hostWrite_aon (bs : List Byte) : (s.hostWrite req bs).aon = s.aon := by
  unfold State.hostWrite
  simp only [bump_aon]
  rw [foldl_emit]
@[simp] theorem hostWrite_nv (bs : List Byte) : (s.hostWrite req bs).nv = s.nv := by
  unfold State.hostWrite
  simp only [bump_nv]
  rw [foldl_emit]
@[simp] theorem hostWrite_fw (bs : List Byte) : (s.hostWrite req bs).fw = s.fw := by
  unfold State.hostWrite
  simp only [bump_fw]
  rw [foldl_emit]
@[simp] theorem hostWrite_pin (bs : List Byte) : (s.hostWrite req bs).pin = s.pin := by
  unfold State.hostWrite
  simp only [bump_pin]
  rw [foldl_emit]
@[simp] theorem hostWrite_hbm (bs : List Byte) : (s.hostWrite req bs).hbm = s.hbm := by
  unfold State.hostWrite
  simp only [bump_hbm]
  rw [foldl_emit]
@[simp] theorem readBuf_pending : (s.readBuf w).pending = s.pending := by
  unfold State.readBuf
  split
  · exact hostRead_pending _ _ _
  · rfl
@[simp] theorem readBuf_free : (s.readBuf w).free = s.free := by
  unfold State.readBuf
  split
  · exact hostRead_free _ _ _
  · rfl
@[simp] theorem readBuf_time : (s.readBuf w).time = s.time := by
  unfold State.readBuf
  split
  · exact hostRead_time _ _ _
  · rfl
@[simp] theorem readBuf_pwr : (s.readBuf w).pwr = s.pwr := by
  unfold State.readBuf
  split
  · exact hostRead_pwr _ _ _
  · rfl
@[simp] theorem readBuf_reactions : (s.readBuf w).reactions = s.reactions := by
  unfold State.readBuf
  split
  · exact hostRead_reactions _ _ _
  · rfl
@[simp] theorem readBuf_deferred : (s.readBuf w).deferred = s.deferred := by
  unfold State.readBuf
  split
  · exact hostRead_deferred _ _ _
  · rfl
@[simp] theorem readBuf_blockResetAt : (s.readBuf w).blockResetAt = s.blockResetAt := by
  unfold State.readBuf
  split
  · exact hostRead_blockResetAt _ _ _
  · rfl
@[simp] theorem readBuf_lanes : (s.readBuf w).lanes = s.lanes := by
  unfold State.readBuf
  split
  · exact hostRead_lanes _ _ _
  · rfl
@[simp] theorem readBuf_ports : (s.readBuf w).ports = s.ports := by
  unfold State.readBuf
  split
  · exact hostRead_ports _ _ _
  · rfl
@[simp] theorem readBuf_links : (s.readBuf w).links = s.links := by
  unfold State.readBuf
  split
  · exact hostRead_links _ _ _
  · rfl
@[simp] theorem readBuf_inbuf : (s.readBuf w).inbuf = s.inbuf := by
  unfold State.readBuf
  split
  · exact hostRead_inbuf _ _ _
  · rfl
@[simp] theorem readBuf_holders : (s.readBuf w).holders = s.holders := by
  unfold State.readBuf
  split
  · exact hostRead_holders _ _ _
  · rfl
@[simp] theorem readBuf_rrLast : (s.readBuf w).rrLast = s.rrLast := by
  unfold State.readBuf
  split
  · exact hostRead_rrLast _ _ _
  · rfl
@[simp] theorem readBuf_rout : (s.readBuf w).rout = s.rout := by
  unfold State.readBuf
  split
  · exact hostRead_rout _ _ _
  · rfl
@[simp] theorem readBuf_rxq : (s.readBuf w).rxq = s.rxq := by
  unfold State.readBuf
  split
  · exact hostRead_rxq _ _ _
  · rfl
@[simp] theorem readBuf_geys : (s.readBuf w).geys = s.geys := by
  unfold State.readBuf
  split
  · exact hostRead_geys _ _ _
  · rfl
@[simp] theorem readBuf_schd : (s.readBuf w).schd = s.schd := by
  unfold State.readBuf
  split
  · exact hostRead_schd _ _ _
  · rfl
@[simp] theorem readBuf_host : (s.readBuf w).host = s.host := by
  unfold State.readBuf
  split
  · exact hostRead_host _ _ _
  · rfl
@[simp] theorem readBuf_xlt : (s.readBuf w).xlt = s.xlt := by
  unfold State.readBuf
  split
  · exact hostRead_xlt _ _ _
  · rfl
@[simp] theorem readBuf_tpt : (s.readBuf w).tpt = s.tpt := by
  unfold State.readBuf
  split
  · exact hostRead_tpt _ _ _
  · rfl
@[simp] theorem readBuf_win : (s.readBuf w).win = s.win := by
  unfold State.readBuf
  split
  · exact hostRead_win _ _ _
  · rfl
@[simp] theorem readBuf_mat : (s.readBuf w).mat = s.mat := by
  unfold State.readBuf
  split
  · exact hostRead_mat _ _ _
  · rfl
@[simp] theorem readBuf_trg : (s.readBuf w).trg = s.trg := by
  unfold State.readBuf
  split
  · exact hostRead_trg _ _ _
  · rfl
@[simp] theorem readBuf_coll : (s.readBuf w).coll = s.coll := by
  unfold State.readBuf
  split
  · exact hostRead_coll _ _ _
  · rfl
@[simp] theorem readBuf_pair : (s.readBuf w).pair = s.pair := by
  unfold State.readBuf
  split
  · exact hostRead_pair _ _ _
  · rfl
@[simp] theorem readBuf_cmd : (s.readBuf w).cmd = s.cmd := by
  unfold State.readBuf
  split
  · exact hostRead_cmd _ _ _
  · rfl
@[simp] theorem readBuf_aon : (s.readBuf w).aon = s.aon := by
  unfold State.readBuf
  split
  · exact hostRead_aon _ _ _
  · rfl
@[simp] theorem readBuf_nv : (s.readBuf w).nv = s.nv := by
  unfold State.readBuf
  split
  · exact hostRead_nv _ _ _
  · rfl
@[simp] theorem readBuf_fw : (s.readBuf w).fw = s.fw := by
  unfold State.readBuf
  split
  · exact hostRead_fw _ _ _
  · rfl
@[simp] theorem readBuf_pin : (s.readBuf w).pin = s.pin := by
  unfold State.readBuf
  split
  · exact hostRead_pin _ _ _
  · rfl
@[simp] theorem readBuf_hbm : (s.readBuf w).hbm = s.hbm := by
  unfold State.readBuf
  split
  · exact hostRead_hbm _ _ _
  · rfl
@[simp] theorem begun_pending : (s.begun w).pending = s.pending := readBuf_pending _ w
@[simp] theorem begun_free : (s.begun w).free = s.free := readBuf_free _ w
@[simp] theorem begun_time : (s.begun w).time = s.time := readBuf_time _ w
@[simp] theorem begun_pwr : (s.begun w).pwr = s.pwr := readBuf_pwr _ w
@[simp] theorem begun_reactions : (s.begun w).reactions = s.reactions := readBuf_reactions _ w
@[simp] theorem begun_deferred : (s.begun w).deferred = s.deferred := readBuf_deferred _ w
@[simp] theorem begun_blockResetAt : (s.begun w).blockResetAt = s.blockResetAt := readBuf_blockResetAt _ w
@[simp] theorem begun_lanes : (s.begun w).lanes = s.lanes := readBuf_lanes _ w
@[simp] theorem begun_ports : (s.begun w).ports = s.ports := readBuf_ports _ w
@[simp] theorem begun_links : (s.begun w).links = s.links := readBuf_links _ w
@[simp] theorem begun_inbuf : (s.begun w).inbuf = s.inbuf := readBuf_inbuf _ w
@[simp] theorem begun_holders : (s.begun w).holders = s.holders := readBuf_holders _ w
@[simp] theorem begun_rrLast : (s.begun w).rrLast = s.rrLast := readBuf_rrLast _ w
@[simp] theorem begun_rout : (s.begun w).rout = s.rout := readBuf_rout _ w
@[simp] theorem begun_rxq : (s.begun w).rxq = s.rxq := readBuf_rxq _ w
@[simp] theorem begun_geys : (s.begun w).geys = s.geys := readBuf_geys _ w
@[simp] theorem begun_schd : (s.begun w).schd = s.schd := readBuf_schd _ w
@[simp] theorem begun_host : (s.begun w).host = s.host := readBuf_host _ w
@[simp] theorem begun_xlt : (s.begun w).xlt = s.xlt := readBuf_xlt _ w
@[simp] theorem begun_tpt : (s.begun w).tpt = s.tpt := readBuf_tpt _ w
@[simp] theorem begun_win : (s.begun w).win = s.win := readBuf_win _ w
@[simp] theorem begun_mat : (s.begun w).mat = s.mat := readBuf_mat _ w
@[simp] theorem begun_trg : (s.begun w).trg = s.trg := readBuf_trg _ w
@[simp] theorem begun_coll : (s.begun w).coll = s.coll := readBuf_coll _ w
@[simp] theorem begun_pair : (s.begun w).pair = s.pair := readBuf_pair _ w
@[simp] theorem begun_aon : (s.begun w).aon = s.aon := readBuf_aon _ w
@[simp] theorem begun_nv : (s.begun w).nv = s.nv := readBuf_nv _ w
@[simp] theorem begun_fw : (s.begun w).fw = s.fw := readBuf_fw _ w
@[simp] theorem begun_pin : (s.begun w).pin = s.pin := readBuf_pin _ w
@[simp] theorem begun_hbm : (s.begun w).hbm = s.hbm := readBuf_hbm _ w
end hostRead

@[simp] theorem emit_out (s : State) (o : Out) : (s.emit o).out = o :: s.out := rfl
@[simp] theorem emits_out (s : State) (os : List Out) : (s.emits os).out = os.reverse ++ s.out := rfl

/-- A field reads as it was written, cut to its width. -/
theorem rd_wr_same (s : State) (f : RegField) (v i j : Nat) : (s.wr f v i j).rd f i j = v % 2 ^ f.width := tget_tput_same _ _ _ _

/-- Writing one field leaves every field under another key as it was. -/
theorem rd_wr_other (s : State) (f g : RegField) (v i j a b : Nat) (h : g.key a b ≠ f.key i j) :
    (s.wr f v i j).rd g a b = s.rd g a b := by
  have key : ∀ (d e : Nat) (t : Tab Nat) (k m w : Nat), m ≠ k → tget d (tput e t k w) m = tget d t m := by
    intro d e t k m w hm
    have := tget_replace_other d t (if w = e then [] else [(k, w)]) k (k + 1) m (by omega)
      (by intro x hx; split at hx <;> simp at hx; subst hx; exact fun h' => hm h'.symm) (by omega)
    simpa [tput, Nat.succ_le_iff] using this
  exact key _ _ _ _ _ _ h

@[simp] theorem port_setPort_same (s : State) (p : Nat) (x : PortState) : (s.setPort p x).port p = x := tget_tput_same _ _ _ _
@[simp] theorem lane_setLane_same (s : State) (l : Nat) (x : LaneState) : (s.setLane l x).lane l = x := tget_tput_same _ _ _ _
@[simp] theorem link_setLink_same (s : State) (p : Nat) (x : LinkState) : (s.setLink p x).link p = x := tget_tput_same _ _ _ _
theorem port_setPort_other (s : State) (p q : Nat) (x : PortState) (h : q ≠ p) : (s.setPort p x).port q = s.port q := tget_tput_other _ _ _ _ _ h
theorem lane_setLane_other (s : State) (l m : Nat) (x : LaneState) (h : m ≠ l) : (s.setLane l x).lane m = s.lane m := tget_tput_other _ _ _ _ _ h
theorem link_setLink_other (s : State) (p q : Nat) (x : LinkState) (h : q ≠ p) : (s.setLink p x).link q = s.link q := tget_tput_other _ _ _ _ _ h

end Sys2Proof.Machine
end

