-- ==== Sys2Proof/Laws/Fault.lean ====
section
/-! SUPPORT. What raising a fault source can change: register fields, what leaves the device, the reactions owed, the deferred
reactions, and the event journal. -/

namespace Sys2Proof.Machine

/-- Two states agree but for what raising a fault source writes. -/
def Raised (s t : State) : Prop :=
  t = { s with regs := t.regs, out := t.out, reactions := t.reactions, deferred := t.deferred, fw := t.fw, nv := t.nv }

theorem Raised.refl (s : State) : Raised s s := rfl

theorem Raised.trans {s t u : State} (h : Raised s t) (k : Raised t u) : Raised s u := by
  unfold Raised at *
  rw [k, h]

theorem wr_raised (s : State) (f : RegField) (v i j : Nat) : Raised s (s.wr f v i j) := rfl
theorem emit_raised (s : State) (o : Out) : Raised s (s.emit o) := rfl
theorem owe_raised (s : State) (r : Reaction) : Raised s (s.owe r) := rfl

theorem journal_raised (s : State) (t d : Nat) : Raised s (s.journal t d) := by
  unfold State.journal
  dsimp only
  split <;> rfl

theorem takeTrap_raised (s : State) (p : Nat) (b : Bool) : Raised s (takeTrap s p b) := by
  unfold takeTrap
  split
  · rfl
  · dsimp only
    split
    · exact (emit_raised s _).trans (journal_raised _ _ _)
    · rfl

theorem captureFirst_raised (s : State) (p c d : Nat) (x y : Bool) : Raised s (captureFirst s p c d x y) := by
  unfold captureFirst
  split
  · exact Raised.refl s
  · exact (((((((wr_raised _ _ _ _ _).trans (wr_raised _ _ _ _ _)).trans (wr_raised _ _ _ _ _)).trans (wr_raised _ _ _ _ _)).trans
      (wr_raised _ _ _ _ _)).trans (wr_raised _ _ _ _ _)).trans (wr_raised _ _ _ _ _))

theorem applyReaction_raised (s : State) (p c : Nat) (b : Bool) : Raised s (applyReaction s p c b) := by
  unfold applyReaction
  dsimp only
  split
  · rfl
  · have h : Raised s (if s.react p c ≥ 8 || s.react p c % 8 = 5 then s.wr R.PIN_ERR_LATCHED 1 else s) := by split <;> rfl
    refine h.trans ?_
    generalize (if (decide (s.react p c ≥ 8) || decide (s.react p c % 8 = 5)) = true then s.wr R.PIN_ERR_LATCHED 1 else s) = t
    split
    · split
      · split <;> rfl
      · rfl
    · split
      · exact takeTrap_raised _ _ _
      · split
        · split
          · exact (takeTrap_raised t p b).trans rfl
          · split
            · rfl
            · split
              · exact takeTrap_raised _ _ _
              · rfl
        · rfl

theorem raiseX_raised (s : State) (p c d : Nat) (f : Bool) : Raised s (s.raiseX p c d f) := by
  unfold State.raiseX
  dsimp only
  exact ((wr_raised s _ _ _ _).trans (wr_raised _ _ _ _ _)).trans ((captureFirst_raised _ _ _ _ _ _).trans (applyReaction_raised _ _ _ _))

theorem raise_raised (s : State) (p c d : Nat) : Raised s (s.raise p c d) := raiseX_raised s p c d false

theorem cond_raised (s : State) (p c : Nat) (b : Bool) (d : Nat) : Raised s (s.cond p c b d) := by
  unfold State.cond
  dsimp only
  split
  · exact (wr_raised s _ _ _ _).trans (raise_raised _ _ _ _)
  · exact wr_raised s _ _ _ _

theorem senseEval_raised (s : State) : Raised s s.senseEval := by
  unfold State.senseEval
  split
  · exact Raised.refl s
  · exact cond_raised _ _ _ _ _

section raise
variable (s : State) (p c d : Nat)

@[simp] theorem raise_pending : (s.raise p c d).pending = s.pending := by rw [raise_raised s p c d]
@[simp] theorem raise_free : (s.raise p c d).free = s.free := by rw [raise_raised s p c d]
@[simp] theorem raise_time : (s.raise p c d).time = s.time := by rw [raise_raised s p c d]
@[simp] theorem raise_pwr : (s.raise p c d).pwr = s.pwr := by rw [raise_raised s p c d]
@[simp] theorem raise_blockResetAt : (s.raise p c d).blockResetAt = s.blockResetAt := by rw [raise_raised s p c d]
@[simp] theorem raise_lanes : (s.raise p c d).lanes = s.lanes := by rw [raise_raised s p c d]
@[simp] theorem raise_ports : (s.raise p c d).ports = s.ports := by rw [raise_raised s p c d]
@[simp] theorem raise_links : (s.raise p c d).links = s.links := by rw [raise_raised s p c d]
@[simp] theorem raise_inbuf : (s.raise p c d).inbuf = s.inbuf := by rw [raise_raised s p c d]
@[simp] theorem raise_holders : (s.raise p c d).holders = s.holders := by rw [raise_raised s p c d]
@[simp] theorem raise_rrLast : (s.raise p c d).rrLast = s.rrLast := by rw [raise_raised s p c d]
@[simp] theorem raise_rout : (s.raise p c d).rout = s.rout := by rw [raise_raised s p c d]
@[simp] theorem raise_rxq : (s.raise p c d).rxq = s.rxq := by rw [raise_raised s p c d]
@[simp] theorem raise_geys : (s.raise p c d).geys = s.geys := by rw [raise_raised s p c d]
@[simp] theorem raise_schd : (s.raise p c d).schd = s.schd := by rw [raise_raised s p c d]
@[simp] theorem raise_host : (s.raise p c d).host = s.host := by rw [raise_raised s p c d]
@[simp] theorem raise_xlt : (s.raise p c d).xlt = s.xlt := by rw [raise_raised s p c d]
@[simp] theorem raise_tpt : (s.raise p c d).tpt = s.tpt := by rw [raise_raised s p c d]
@[simp] theorem raise_win : (s.raise p c d).win = s.win := by rw [raise_raised s p c d]
@[simp] theorem raise_mat : (s.raise p c d).mat = s.mat := by rw [raise_raised s p c d]
@[simp] theorem raise_trg : (s.raise p c d).trg = s.trg := by rw [raise_raised s p c d]
@[simp] theorem raise_coll : (s.raise p c d).coll = s.coll := by rw [raise_raised s p c d]
@[simp] theorem raise_pair : (s.raise p c d).pair = s.pair := by rw [raise_raised s p c d]
@[simp] theorem raise_cmd : (s.raise p c d).cmd = s.cmd := by rw [raise_raised s p c d]
@[simp] theorem raise_aon : (s.raise p c d).aon = s.aon := by rw [raise_raised s p c d]
@[simp] theorem raise_cnt : (s.raise p c d).cnt = s.cnt := by rw [raise_raised s p c d]
@[simp] theorem raise_pin : (s.raise p c d).pin = s.pin := by rw [raise_raised s p c d]
@[simp] theorem raise_hbm : (s.raise p c d).hbm = s.hbm := by rw [raise_raised s p c d]

end raise

section cond
variable (s : State) (p c : Nat) (b : Bool) (d : Nat)

@[simp] theorem cond_pending : (s.cond p c b d).pending = s.pending := by rw [cond_raised s p c b d]
@[simp] theorem cond_free : (s.cond p c b d).free = s.free := by rw [cond_raised s p c b d]
@[simp] theorem cond_time : (s.cond p c b d).time = s.time := by rw [cond_raised s p c b d]
@[simp] theorem cond_pwr : (s.cond p c b d).pwr = s.pwr := by rw [cond_raised s p c b d]
@[simp] theorem cond_blockResetAt : (s.cond p c b d).blockResetAt = s.blockResetAt := by rw [cond_raised s p c b d]
@[simp] theorem cond_lanes : (s.cond p c b d).lanes = s.lanes := by rw [cond_raised s p c b d]
@[simp] theorem cond_ports : (s.cond p c b d).ports = s.ports := by rw [cond_raised s p c b d]
@[simp] theorem cond_links : (s.cond p c b d).links = s.links := by rw [cond_raised s p c b d]
@[simp] theorem cond_inbuf : (s.cond p c b d).inbuf = s.inbuf := by rw [cond_raised s p c b d]
@[simp] theorem cond_holders : (s.cond p c b d).holders = s.holders := by rw [cond_raised s p c b d]
@[simp] theorem cond_rrLast : (s.cond p c b d).rrLast = s.rrLast := by rw [cond_raised s p c b d]
@[simp] theorem cond_rout : (s.cond p c b d).rout = s.rout := by rw [cond_raised s p c b d]
@[simp] theorem cond_rxq : (s.cond p c b d).rxq = s.rxq := by rw [cond_raised s p c b d]
@[simp] theorem cond_geys : (s.cond p c b d).geys = s.geys := by rw [cond_raised s p c b d]
@[simp] theorem cond_schd : (s.cond p c b d).schd = s.schd := by rw [cond_raised s p c b d]
@[simp] theorem cond_host : (s.cond p c b d).host = s.host := by rw [cond_raised s p c b d]
@[simp] theorem cond_xlt : (s.cond p c b d).xlt = s.xlt := by rw [cond_raised s p c b d]
@[simp] theorem cond_tpt : (s.cond p c b d).tpt = s.tpt := by rw [cond_raised s p c b d]
@[simp] theorem cond_win : (s.cond p c b d).win = s.win := by rw [cond_raised s p c b d]
@[simp] theorem cond_mat : (s.cond p c b d).mat = s.mat := by rw [cond_raised s p c b d]
@[simp] theorem cond_trg : (s.cond p c b d).trg = s.trg := by rw [cond_raised s p c b d]
@[simp] theorem cond_coll : (s.cond p c b d).coll = s.coll := by rw [cond_raised s p c b d]
@[simp] theorem cond_pair : (s.cond p c b d).pair = s.pair := by rw [cond_raised s p c b d]
@[simp] theorem cond_cmd : (s.cond p c b d).cmd = s.cmd := by rw [cond_raised s p c b d]
@[simp] theorem cond_aon : (s.cond p c b d).aon = s.aon := by rw [cond_raised s p c b d]
@[simp] theorem cond_cnt : (s.cond p c b d).cnt = s.cnt := by rw [cond_raised s p c b d]
@[simp] theorem cond_pin : (s.cond p c b d).pin = s.pin := by rw [cond_raised s p c b d]
@[simp] theorem cond_hbm : (s.cond p c b d).hbm = s.hbm := by rw [cond_raised s p c b d]

end cond

end Sys2Proof.Machine
end

