-- ==== Sys2Proof/Laws/Fec.lean ====
section
/-! SUPPORT. The all-zero word is a codeword of the forward error correction (04_lanes.md R126). -/

namespace Sys2Proof.Machine

theorem gfMulN_zero (b n : Nat) : gfMulN n 0 b 0 = 0 := by
  induction n with
  | zero => rfl
  | succ n ih =>
    have e : gfX 0 = 0 := by decide
    simp [gfMulN, e, ih]

theorem polyEval_zeros (x n : Nat) : polyEval (List.replicate n 0) x = 0 := by
  induction n with
  | zero => rfl
  | succ n ih =>
    have e : gfMul 0 x ^^^ 0 = 0 := by simp [gfMul, gfMulN_zero]
    simpa only [polyEval, List.replicate_succ, List.foldl_cons, e] using ih

theorem rsDecode_zeros (n : Nat) : rsDecode (List.replicate n 0) = some (List.replicate n 0, []) := by
  have h : ((syndromes (List.replicate n 0)).all fun x => x = 0) = true := by simp [syndromes, polyEval_zeros]
  simp only [rsDecode, h, if_true]

end Sys2Proof.Machine
end

