-- ==== Sys2Proof/Laws/Memory.lean ====
section
/-! SUPPORT. The operations that clear stored bytes keep the canonical form of the HBM and of the flash; those that write bytes are in
Sys2Proof/Laws/Tab.lean. -/

namespace Sys2Proof.Machine

theorem twf_filter {α : Type} [DecidableEq α] (d : α) (t : Tab α) (p : Nat × α → Bool) (h : twf d t = true) :
    twf d (t.filter p) = true := by
  rw [twf_iff] at h ⊢
  exact ⟨h.1.filter _, fun e he => h.2 e (List.mem_of_mem_filter he)⟩

theorem hbmClear_wf (s : State) (a n : Nat) (h : twf 0 s.hbm = true) : twf 0 (s.hbmClear a n).hbm = true := twf_filter 0 _ _ h

theorem bindJob_wf (s : State) (j r slot mib : Nat) (h : twf 0 s.hbm = true) : twf 0 (s.bindJob j r slot mib).hbm = true :=
  hbmClear_wf s _ _ h

theorem flashErase_wf (s : State) (a n : Nat) (h : twf 0xFF s.nv.flash = true) : twf 0xFF (s.flashErase a n).nv.flash = true :=
  twf_filter _ _ _ h

theorem flashWrite_wf (s : State) (a : Nat) (bs : List Byte) (h : twf 0xFF s.nv.flash = true) :
    twf 0xFF (s.flashWrite a bs).nv.flash = true := twf_writeCells _ _ _ _ h

theorem reset_flash_wf : twf 0xFF State.reset.nv.flash = true := rfl

end Sys2Proof.Machine
end

