-- ==== Sys2Proof/Laws/Step.lean ====
section
/-! SUPPORT. What the shared parts of every meaning can do: each is said once here, and cited instead of unfolded. -/

namespace Sys2Proof.Machine

/-! ### The end of a command -/

theorem foldl_same {α β : Type} (f : α → β → α) (a : α) (l : List β) (h : ∀ x ∈ l, f a x = a) : l.foldl f a = a := by
  induction l with
  | nil => rfl
  | cons x l ih =>
    rw [List.foldl_cons, h x (by simp)]
    exact ih fun y hy => h y (by simp [hy])

/-- No command waits for a group: the look at them changes nothing. -/
theorem groupsWake_none (s : State) (h : s.cmd.started.any Started.waitsGroup = false) : s.groupsWake = s := by
  refine foldl_same _ s _ ?_
  intro c hc
  have hw : c.waitsGroup = false := by simpa using (List.any_eq_false.mp h) c hc
  unfold Started.waitsGroup at hw
  split
  · rename_i p hp
    simp [hp] at hw
  · rfl

theorem reactAll_idle (n : Nat) (s : State) (h : s.reactions = []) : s.reactAll n = s := by
  cases n with
  | zero =>
    show ({ s with reactions := [] } : State) = s
    rw [← h]
  | succ n => simp [State.reactAll, h]

/-- Every end of a command leaves no reaction owed, whatever it began with. -/
theorem reactAll_clear (n : Nat) (s : State) : (s.reactAll n).reactions = [] := by
  induction n generalizing s with
  | zero => rfl
  | succ n ih =>
    unfold State.reactAll
    split
    · rename_i h
      simpa using h
    · exact ih _

/-! ### The gates of the meanings -/

theorem live_runs (s : State) (f : State → State) (h : s.runs = true) : live s f = .next (f s).ended := by simp [live, h, fin]

theorem live_held (s : State) (f : State → State) (h : s.runs = false) : live s f = .next s := by simp [live, h]

theorem liveLink_runs (s : State) (f : State → State) (h : s.runs = true) : liveLink s f = .next (f s).carrWatch.ended := by
  simp [liveLink, h, fin]

theorem liveLink_held (s : State) (f : State → State) (h : s.runs = false) : liveLink s f = .next s := by simp [liveLink, h]

theorem engine_runs (s : State) (f : State → State) (h : s.engines = true) : engine s f = .next (f s).ended := by
  unfold engine fin
  exact if_pos h

theorem engine_gated (s : State) (f : State → State) (h : s.engines = false) : engine s f = .next s := by
  unfold engine
  exact if_neg (fun hc => by simp [State.engines] at h hc; exact hc.2 (h hc.1.1 hc.1.2))

theorem hostWrites_runs (h : Nat) (s : State) (f : State → State) (hr : s.runs = true) :
    hostWrites h s f = .next (f (s.hostSeen h)).ended := by simp [hostWrites, hr, fin, State.hostSeen]

theorem hostWrites_held (h : Nat) (s : State) (f : State → State) (hr : s.runs = false) : hostWrites h s f = .next s := by
  simp [hostWrites, hr]

/-! ### The start of a command -/

/-- The command that is ready is the one the row names. -/
theorem cmdReady_is (s : State) (c : CmdRef) (code : Nat) (ps : List Byte) (w : WaitCmd) (h : s.cmdReady c code ps = some w) :
    w.ref = c ∧ w.opcode = code ∧ w.params = ps := by
  unfold State.cmdReady at h
  split at h
  · rename_i w' hw'
    split at h
    · rename_i hc
      simp at h
      subst h
      simp at hc
      exact ⟨hc.1.1.1.1, hc.1.1.1.2, hc.1.1.2⟩
    · simp at h
  · simp at h

/-- The row of an opcode whose command starts has its effect. -/
theorem command_starts {b : Issuer} {code : Nat} {c : CmdRef} {ps : List Byte} {s u : State} {n : Nat} (f : Nat → State → State)
    (h : Starts s b code c ps n u) : command b code c ps s f = .next (f n u).ended := by
  obtain ⟨w, h1, h2, h3, rfl, rfl, h4⟩ := h
  obtain ⟨r1, r2, -⟩ := cmdReady_is s c code ps w h3
  have hb : (s.begun w).cmdRefusal b w.opcode w.ref.path = none := by rw [r1, r2]; exact h4
  simp [command, h1, h2, h3, State.startCmd, hb, fin]

theorem commandLink_starts {b : Issuer} {code : Nat} {c : CmdRef} {ps : List Byte} {s u : State} {n : Nat} (f : Nat → State → State)
    (h : Starts s b code c ps n u) : commandLink b code c ps s f = .next (f n u).carrWatch.ended :=
  command_starts (fun n s => (f n s).carrWatch) h

/-- The row of an opcode whose command is refused by checks 3 to 5 gives the final reply alone. -/
theorem command_refuses {b : Issuer} {code : Nat} {c : CmdRef} {ps : List Byte} {s u : State} {n st : Nat} (f : Nat → State → State)
    (h : Refuses s b code c ps n u st) : command b code c ps s f = .next ((u.bump C.CMD_REFUSED).finalReply n st []).ended := by
  obtain ⟨w, h1, h2, h3, rfl, rfl, h4⟩ := h
  obtain ⟨r1, r2, -⟩ := cmdReady_is s c code ps w h3
  have hb : (s.begun w).cmdRefusal b w.opcode w.ref.path = some st := by rw [r1, r2]; exact h4
  simp [command, h1, h2, h3, State.startCmd, hb, fin]

/-- A row whose command is not the next one of its path, or that comes while Caldera serves none, has no effect. -/
theorem command_idle {b : Issuer} {code : Nat} {c : CmdRef} {ps : List Byte} {s : State} (f : Nat → State → State)
    (h : s.serving = false ∨ s.fw.live.isSome = true ∨ s.cmdReady c code ps = none) : command b code c ps s f = .next s := by
  unfold command
  rcases h with h | h | h
  · simp [h]
  · simp [h]
  · split
    · rfl
    · simp [h]

/-- The row of an opcode always answers a next state. -/
theorem command_answers (b : Issuer) (code : Nat) (c : CmdRef) (ps : List Byte) (s : State) (f : Nat → State → State) :
    answers (command b code c ps s f) := by
  unfold command answers
  split
  · exact ⟨_, rfl⟩
  · split <;> exact ⟨_, rfl⟩

/-! ### The byte stream of a port -/

@[simp] theorem link_setLink (s : State) (p : Nat) (x : LinkState) : (s.setLink p x).link p = x := tget_tput_same _ _ _ _

@[simp] theorem port_setPort (s : State) (p : Nat) (x : PortState) : (s.setPort p x).port p = x := tget_tput_same _ _ _ _

@[simp] theorem lane_setLane (s : State) (l : Nat) (x : LaneState) : (s.setLane l x).lane l = x := tget_tput_same _ _ _ _

@[simp] theorem rxTaken_rd (s : State) (p : Nat) (f : RegField) (i j : Nat) : (s.rxTaken p).rd f i j = s.rd f i j := rfl

@[simp] theorem setRxNext_rd (s : State) (p n : Nat) (f : RegField) (i j : Nat) : (s.setRxNext p n).rd f i j = s.rd f i j := rfl

@[simp] theorem rxTaken_begun (s : State) (p : Nat) : ((s.rxTaken p).link p).begun = (s.link p).begun := by
  unfold State.rxTaken
  rw [link_setLink]

@[simp] theorem setRxNext_begun (s : State) (p n : Nat) : ((s.setRxNext p n).link p).begun = (s.link p).begun := by
  unfold State.setRxNext
  rw [link_setLink]

end Sys2Proof.Machine
end

