-- ==== Sys2Proof/Laws/Reply.lean ====
section
/-! SUPPORT. What the start and the final reply of a command can change (`Replied`), and the frame of a row whose own effect lies
within it. -/

namespace Sys2Proof.Machine

/-! ### Register fields -/

theorem SameRegs.refl (ks : List Nat) (s : State) : SameRegs ks s s := fun _ _ _ _ => rfl

theorem SameRegs.trans {ks : List Nat} {s t u : State} (h : SameRegs ks s t) (k : SameRegs ks t u) : SameRegs ks s u :=
  fun f i j hk => (k f i j hk).trans (h f i j hk)

theorem wr_sameRegs {ks : List Nat} (s : State) (f : RegField) (v i j : Nat) (h : f.key i j ∈ ks) : SameRegs ks s (s.wr f v i j) :=
  fun g a b hk => rd_wr_other s f g v i j a b fun e => hk (e ▸ h)

/-! ### The frame of a reply -/

variable {p : CmdPath} {ks : List Nat}

theorem Replied.refl (p : CmdPath) (ks : List Nat) (s : State) : Replied p ks s s := by
  refine ⟨SameRegs.refl _ s, rfl, rfl, rfl, List.suffix_refl _, fun _ h => h, ?_⟩
  cases p with
  | ring h f => exact ⟨rfl, rfl, rfl, rfl⟩
  | smbus => exact ⟨rfl, rfl, rfl, rfl⟩
  | remote a b => exact ⟨rfl, rfl, rfl, fun _ _ _ => rfl⟩

theorem Replied.trans {s t u : State} (h : Replied p ks s t) (k : Replied p ks t u) : Replied p ks s u := by
  refine ⟨h.regs.trans k.regs, ?_, ?_, ?_, h.out.trans k.out, fun w hw => h.waits w (k.waits w hw), ?_⟩
  · rw [k.parts, h.parts]
  · rw [k.cmd, h.cmd]
  · rw [k.cnt, h.cnt]
  · have hp := h.path
    have kp := k.path
    cases p with
    | ring a b =>
      obtain ⟨h1, h2, h3, h4⟩ := hp
      obtain ⟨k1, k2, k3, k4⟩ := kp
      exact ⟨by rw [k1, h1], by rw [k2, h2], k3.trans h3, k4.trans h4⟩
    | smbus =>
      obtain ⟨h1, h2, h3, h4⟩ := hp
      obtain ⟨k1, k2, k3, k4⟩ := kp
      exact ⟨k1.trans h1, k2.trans h2, k3.trans h3, k4.trans h4⟩
    | remote a b =>
      obtain ⟨h1, h2, h3, h4⟩ := hp
      obtain ⟨k1, k2, k3, k4⟩ := kp
      exact ⟨k1.trans h1, k2.trans h2, by rw [k3, h3], fun i v hv => (k4 i v hv).trans (h4 i v hv)⟩

/-- More register fields may change. -/
theorem Replied.mono {s t : State} {ls : List Nat} (h : Replied p ks s t) (hl : ∀ k ∈ ks, k ∈ ls) : Replied p ls s t := by
  refine ⟨fun f i j hk => h.regs f i j fun hm => hk ?_, h.parts, h.cmd, h.cnt, h.out, h.waits, h.path⟩
  rcases List.mem_append.mp hm with h1 | h1
  · exact List.mem_append_left _ h1
  · exact List.mem_append_right _ (hl _ h1)

/-- A state that differs in nothing a path's clause speaks of. -/
theorem Replied.same {s t : State} (hr : SameRegs (replyKeys p ++ ks) s t)
    (hp : t = { s with regs := t.regs, out := t.out, cmd := t.cmd, cnt := t.cnt })
    (hc : t.cmd = { s.cmd with waiting := t.cmd.waiting, started := t.cmd.started, next := t.cmd.next, rings := t.cmd.rings })
    (hn : t.cnt = { s.cnt with wraps := t.cnt.wraps }) (ho : s.out <:+ t.out)
    (hw : ∀ w ∈ t.cmd.waiting, w ∈ s.cmd.waiting) : Replied p ks s t := by
  have a1 : t.host = s.host := by rw [hp]
  have a2 : t.pin = s.pin := by rw [hp]
  have a3 : t.rout = s.rout := by rw [hp]
  have a4 : t.inbuf = s.inbuf := by rw [hp]
  refine ⟨hr, ?_, hc, hn, ho, hw, ?_⟩
  · rw [a1, a2, a3, a4]
    exact hp
  · cases p with
    | ring h f => exact ⟨by rw [a1], by rw [a2], a3, a4⟩
    | smbus => exact ⟨a1, a2, a3, a4⟩
    | remote a b => exact ⟨a1, a2, by rw [a3], fun i v _ => by unfold State.inVc; rw [a4]⟩

theorem wr_replied (s : State) (f : RegField) (v i j : Nat) (h : f.key i j ∈ replyKeys p ++ ks) : Replied p ks s (s.wr f v i j) :=
  Replied.same (wr_sameRegs s f v i j h) rfl rfl rfl (List.suffix_refl _) fun _ h => h

theorem bump_replied (s : State) (f : RegField) (i n : Nat) (h : ∀ k ∈ counterKeys f i, k ∈ replyKeys p ++ ks) :
    Replied p ks s (s.bump f i n) := by
  have h1 := h (f.key i 0) (by simp [counterKeys])
  have h2 := h ((ovfOf f).key i 0) (by simp [counterKeys])
  unfold State.bump
  dsimp only
  split
  · exact wr_replied s f _ i 0 h1
  · exact ((wr_replied s f _ i 0 h1).trans (wr_replied _ (ovfOf f) 1 i 0 h2)).trans
      (Replied.same (SameRegs.refl _ _) rfl rfl rfl (List.suffix_refl _) fun _ h => h)

theorem emit_replied (s : State) (o : Out) : Replied p ks s (s.emit o) :=
  Replied.same (SameRegs.refl _ s) rfl rfl rfl (List.suffix_cons o s.out) fun _ h => h

/-- A change of the command table alone. -/
theorem cmd_replied (s : State) (x : CmdState)
    (hc : x = { s.cmd with waiting := x.waiting, started := x.started, next := x.next, rings := x.rings })
    (hw : ∀ w ∈ x.waiting, w ∈ s.cmd.waiting) : Replied p ks s { s with cmd := x } :=
  Replied.same (SameRegs.refl _ s) rfl hc rfl (List.suffix_refl _) hw

theorem replyKeys_refused (p : CmdPath) : ∀ k ∈ counterKeys C.CMD_REFUSED 0, k ∈ replyKeys p ++ ks := by
  intro k hk
  unfold replyKeys
  exact List.mem_append_left _ (List.mem_append_left _ hk)

theorem replyKeys_ring {h : HPort} {f : Func} {k : Nat}
    (hk : k = R.RPL_PI_INDEX.key (ringKey h f) 0 ∨ k ∈ counterKeys C.HIF_WR_REQ h.val ∨ k ∈ counterKeys C.HIF_WR_32B h.val ∨
      k ∈ counterKeys C.QUE_MSIX_SENT 0 ∨ k ∈ counterKeys C.HIF_RD_REQ h.val ∨ k ∈ counterKeys C.HIF_RD_32B h.val) : k ∈ replyKeys (.ring h f) ++ ks := by
  refine List.mem_append_left _ (List.mem_append_right _ ?_)
  simp only [List.mem_append, List.mem_cons]
  rcases hk with h | h | h | h | h | h
  · exact .inl h
  · exact .inr (.inl (.inl (.inl (.inl h))))
  · exact .inr (.inl (.inl (.inl (.inr h))))
  · exact .inr (.inl (.inl (.inr h)))
  · exact .inr (.inl (.inr h))
  · exact .inr (.inr h)

/-- A run of outputs. -/
theorem foldl_emit_replied {α : Type} (g : α → Out) (l : List α) (s : State) : Replied p ks s (l.foldl (fun s x => s.emit (g x)) s) := by
  induction l generalizing s with
  | nil => exact Replied.refl _ _ s
  | cons x l ih => exact (emit_replied s _).trans (ih _)

/-- A write to the memory of the ring's host. -/
theorem hostWrite_replied (h : HPort) (f : Func) (s : State) (req : BusReq) (bs : List Byte) (hr : req.hport = h.val) :
    Replied (.ring h f) ks s (s.hostWrite req bs) := by
  unfold State.hostWrite
  rw [hr]
  exact ((foldl_emit_replied _ _ s).trans (bump_replied _ _ _ _ fun k hk => replyKeys_ring (.inr (.inl hk)))).trans
    (bump_replied _ _ _ _ fun k hk => replyKeys_ring (.inr (.inr (.inl hk))))

theorem setMsix_replied (h : HPort) (f : Func) (s : State) (k vec : Nat) (x : MsixEntry) :
    Replied (.ring h f) ks s (s.setMsix k vec x) :=
  ⟨SameRegs.refl _ s, rfl, rfl, rfl, List.suffix_refl _, fun _ h => h, rfl, rfl, rfl, rfl⟩

theorem wakeHost_replied (h : HPort) (f : Func) (s : State) (k : Nat) : Replied (.ring h f) ks s (s.wakeHost k) := by
  unfold State.wakeHost
  split
  · refine Replied.trans ?_ (emit_replied _ _)
    exact ⟨SameRegs.refl _ s, rfl, rfl, rfl, List.suffix_refl _, fun _ h => h, rfl, rfl, rfl, rfl⟩
  · exact Replied.refl _ _ s

theorem msixSend_replied (h : HPort) (f : Func) (s : State) (k vec : Nat) : Replied (.ring h f) ks s (s.msixSend k vec) := by
  unfold State.msixSend
  dsimp only
  split
  · exact Replied.refl _ _ s
  · split
    · exact setMsix_replied h f s k vec _
    · exact (((setMsix_replied h f s k vec _).trans (emit_replied _ _)).trans
        (bump_replied _ _ _ _ fun k hk => replyKeys_ring (.inr (.inr (.inr (.inl hk)))))).trans (wakeHost_replied h f _ _)

theorem setRing_replied (s : State) (k : Nat) (x : CmdRing) : Replied p ks s (s.setRing k x) :=
  Replied.same (SameRegs.refl _ s) rfl rfl rfl (List.suffix_refl _) fun _ h => h

/-! ### A reply to another device -/

theorem replyKeys_remote {a : Pid} {b : HPort} {k : Nat}
    (hk : k ∈ counterKeys C.ROUT_PKT_INJ 0) : k ∈ replyKeys (.remote a b) ++ ks := by
  unfold replyKeys
  exact List.mem_append_left _ (List.mem_append_right _ hk)

theorem rout_replied (a : Pid) (b : HPort) (s : State) (x : RouterState)
    (h : x = { s.rout with unadmitted := x.unadmitted }) :
    Replied (.remote a b) ks s { s with rout := x } :=
  ⟨SameRegs.refl _ s, rfl, rfl, rfl, List.suffix_refl _, fun _ h => h, rfl, rfl, h, fun _ _ _ => rfl⟩

/-- The endpoint rates of R265 are those of E0 to E9. -/
theorem epCheck_mgmt (s : State) : s.epCheck 11 = s := by
  unfold State.epCheck
  dsimp only
  rw [if_pos (by decide)]

theorem inVc_setInVc_other (s : State) (i v j w : Nat) (x : InVc) (h : 8 * j + w ≠ 8 * i + v) :
    (s.setInVc i v x).inVc j w = s.inVc j w := tget_tput_other _ _ _ _ _ h

theorem enterVc_replied (a : Pid) (b : HPort) (s : State) (l : List BufPkt) : Replied (.remote a b) ks s (s.enterVc 11 3 l) := by
  unfold State.enterVc
  dsimp only
  split
  · exact Replied.refl _ _ s
  · exact ⟨SameRegs.refl _ s, rfl, rfl, rfl, List.suffix_refl _, fun _ h => h, rfl, rfl, rfl, fun i v hv => inVc_setInVc_other s _ _ _ _ _ hv⟩

theorem inject_replied (a : Pid) (b : HPort) (s : State) (pkt : List Flit) : Replied (.remote a b) ks s (s.inject 11 3 pkt) := by
  unfold State.inject
  split
  · exact Replied.refl _ _ s
  · split
    · exact rout_replied a b s _ rfl
    · rename_i h t _
      have hp : pacedPkt 11 3 h = false := by simp [pacedPkt]
      simp only [hp, epCheck_mgmt]
      exact (enterVc_replied a b s _).trans (bump_replied _ _ _ _ fun k hk => replyKeys_remote hk)

theorem sendReply_replied (s : State) (c : CmdRef) (sinc code st : Nat) (dup : Bool) (r : List Byte) :
    Replied c.path ks s (s.sendReply c sinc code st dup r) := by
  unfold State.sendReply
  dsimp only
  split
  · rename_i h f hp
    rw [hp]
    split
    · exact Replied.refl _ _ s
    · have h1 : Replied (.ring h f) ks s _ :=
        (hostWrite_replied h f s { hport := h.val, func := f.val, addr := s.rd R.RPL_BASE_BASE (ringKey h f) * 4096 +
          32 * (s.rd R.RPL_PI_INDEX (ringKey h f) % 2 ^ s.rd R.CMD_RCFG_RLOG (ringKey h f)) } (toBytes 32 (replyWord c.tag.toNat st code
          (phaseOf (s.rd R.RPL_PI_INDEX (ringKey h f)) (s.rd R.CMD_RCFG_RLOG (ringKey h f)) = 1) dup r s.gt)) rfl).trans
          (wr_replied _ R.RPL_PI_INDEX (idxAdd (s.rd R.RPL_PI_INDEX (ringKey h f)) 1) (ringKey h f) 0 (replyKeys_ring (.inl rfl)))
      split
      · exact (h1.trans (setRing_replied _ _ _)).trans (msixSend_replied h f _ _ _)
      · exact h1
  · exact emit_replied s _
  · rename_i a b hp
    rw [hp]
    split
    · exact Replied.refl _ _ s
    · unfold State.mgmtResp
      exact inject_replied a b s _

/-- The final reply of a command changes what `Replied` says and no more. -/
theorem finalReply_replied (s : State) (n st : Nat) (r : List Byte) (c : CmdPath)
    (h : ∀ x, s.startedCmd n = some x → x.ref.path = c) : Replied c ks s (s.finalReply n st r) := by
  unfold State.finalReply
  split
  · exact Replied.refl _ _ s
  · rename_i x hx
    have hd : Replied c ks s (s.dropStarted n) := cmd_replied s _ rfl fun _ h => h
    dsimp only
    split
    · exact hd
    · have := sendReply_replied (ks := ks) (s.dropStarted n) x.ref x.sinc x.opcode st false r
      rw [h x hx] at this
      exact hd.trans this

/-! ### The frame of a command -/

/-- The key of the bit that says whether ERR_N_SENSE is live. -/
def senseKey : Nat := R.FLT_LIVE_LIVE.key pgPin 0

theorem senseKey_reply (p : CmdPath) : senseKey ∉ replyKeys p := by
  intro h
  cases p with
  | ring a b =>
    have ha := a.isLt
    have hb := b.isLt
    simp only [replyKeys, counterKeys, senseKey, ringKey, fkey, RegField.key, ovfOf, pgPin, R.FLT_LIVE_LIVE, R.RPL_PI_INDEX, C.CMD_REFUSED,
      C.HIF_WR_REQ, C.HIF_WR_32B, C.QUE_MSIX_SENT, C.HIF_RD_REQ, C.HIF_RD_32B, List.mem_append, List.mem_cons, List.not_mem_nil, or_false] at h
    omega
  | smbus => exact absurd h (by decide)
  | remote a b =>
    simp only [replyKeys, counterKeys, senseKey, RegField.key, ovfOf, pgPin, R.FLT_LIVE_LIVE, C.CMD_REFUSED,
      C.ROUT_PKT_INJ, List.mem_append, List.mem_cons, List.not_mem_nil, or_false] at h
    omega

/-- Without a command whose buffer gives it no parameters none ends for that. -/
theorem refuseBufs_none (s : State) (h : s.cmd.waiting.any WaitCmd.bad = false) : s.refuseBufs = s := by
  have e : s.cmd.waiting.filter WaitCmd.bad = [] := by simpa [List.filter_eq_nil_iff, List.any_eq_false] using h
  unfold State.refuseBufs
  split
  · rfl
  · rw [e]
    rfl

/-- The end of a command changes nothing while nothing is owed. -/
theorem ended_quiet (s : State) (h : s.quiet = true) : s.ended = s := by
  simp only [State.quiet, Bool.and_eq_true, List.isEmpty_iff, Bool.not_eq_true'] at h
  obtain ⟨⟨⟨⟨h1, h2⟩, h3⟩, h4⟩, h5⟩ := h
  have e1 : s.senseEval = s := by
    unfold State.senseEval
    rw [h3, h4]
    rfl
  unfold State.ended State.settle
  rw [e1, groupsWake_none s h2, refuseBufs_none s h5]
  exact reactAll_idle 8 s h1

/-- What keeps a state quiet: no command that waits for a group is added, and ERR_N_SENSE is not written. -/
theorem Replied.quiet {s t : State} (h : Replied p ks s t) (hq : s.quiet = true) (hk : senseKey ∉ replyKeys p ++ ks)
    (hg : t.cmd.started.any Started.waitsGroup = false) : t.quiet = true := by
  simp only [State.quiet, Bool.and_eq_true, List.isEmpty_iff, Bool.not_eq_true'] at hq ⊢
  obtain ⟨⟨⟨⟨h1, -⟩, h3⟩, h4⟩, h5⟩ := hq
  have e1 : t.reactions = s.reactions := by rw [h.parts]
  have e2 : t.aon = s.aon := by rw [h.parts]
  have e3 : t.rd R.FLT_LIVE_LIVE pgPin = s.rd R.FLT_LIVE_LIVE pgPin := h.regs _ _ _ hk
  have e4 : t.cmd.waiting.any WaitCmd.bad = false := by
    simp only [List.any_eq_false] at h5 ⊢
    exact fun w hw => h5 w (h.waits w hw)
  exact ⟨⟨⟨⟨e1.trans h1, hg⟩, by rw [e2]; exact h3⟩, by rw [e3]; exact h4⟩, e4⟩

/-- A read of the memory of the ring's host. -/
theorem hostRead_replied (h : HPort) (f : Func) (s : State) (req : BusReq) (n : Nat) (hr : req.hport = h.val) :
    Replied (.ring h f) ks s (s.hostRead req n) := by
  unfold State.hostRead
  rw [hr]
  exact ((foldl_emit_replied _ _ s).trans (bump_replied _ _ _ _ fun k hk => replyKeys_ring (.inr (.inr (.inr (.inr (.inl hk))))))).trans
    (bump_replied _ _ _ _ fun k hk => replyKeys_ring (.inr (.inr (.inr (.inr (.inr hk))))))

theorem readBuf_replied (s : State) (w : WaitCmd) : Replied w.ref.path ks s (s.readBuf w) := by
  unfold State.readBuf
  split
  · rename_i h f b hp hb
    rw [hp]
    refine hostRead_replied h f s _ _ ?_
    have := f.isLt
    simp only [cmdReq, pathPort, pathFn, fnOfPath, hp, ringKey, fkey, keyPort, Option.getD]
    omega
  · exact Replied.refl _ _ s

/-- The command that has just started is the one its number names. -/
theorem begun_startedCmd (s : State) (w : WaitCmd) : (s.begun w).startedCmd s.cmd.next =
    some { n := s.cmd.next, ref := w.ref, opcode := w.opcode, sinc := w.sinc } := by
  simp [State.startedCmd, State.begun]

theorem begun_replied (s : State) (w : WaitCmd) : Replied w.ref.path ks s (s.begun w) :=
  (cmd_replied s _ rfl fun _ h => List.mem_of_mem_erase h).trans (readBuf_replied _ w)

@[simp] theorem setRing_started (s : State) (k : Nat) (x : CmdRing) : (s.setRing k x).cmd.started = s.cmd.started := rfl

@[simp] theorem wakeHost_cmd (s : State) (h : Nat) : (s.wakeHost h).cmd = s.cmd := by
  unfold State.wakeHost
  split <;> rfl

@[simp] theorem msixSend_cmd (s : State) (k v : Nat) : (s.msixSend k v).cmd = s.cmd := by
  unfold State.msixSend
  dsimp only
  split
  · rfl
  · split
    · rfl
    · simp [State.setMsix, State.emit]

@[simp] theorem enterVc_cmd (s : State) (e v : Nat) (l : List BufPkt) : (s.enterVc e v l).cmd = s.cmd := by
  unfold State.enterVc
  dsimp only
  split
  · rfl
  · simp [State.setInVc]

theorem inject_mgmt_cmd (s : State) (pkt : List Flit) : (s.inject 11 3 pkt).cmd = s.cmd := by
  unfold State.inject
  split
  · rfl
  · split
    · rfl
    · rename_i h t _
      have hp : pacedPkt 11 3 h = false := by simp [pacedPkt]
      simp [hp, epCheck_mgmt]

@[simp] theorem sendReply_started (s : State) (c : CmdRef) (sinc code st : Nat) (dup : Bool) (r : List Byte) :
    (s.sendReply c sinc code st dup r).cmd.started = s.cmd.started := by
  unfold State.sendReply
  dsimp only
  split
  · split
    · rfl
    · split <;> simp
  · rfl
  · split
    · rfl
    · simp [State.mgmtResp, inject_mgmt_cmd]

/-- A final reply adds no command that waits. -/
theorem finalReply_waits (s : State) (n st : Nat) (r : List Byte) (h : s.cmd.started.any Started.waitsGroup = false) :
    (s.finalReply n st r).cmd.started.any Started.waitsGroup = false := by
  have hd : (s.dropStarted n).cmd.started.any Started.waitsGroup = false := by
    simp only [State.dropStarted, List.any_eq_false, List.mem_filter] at h ⊢
    exact fun x hx => h x hx.1
  unfold State.finalReply
  split
  · exact h
  · dsimp only
    split
    · exact hd
    · rw [sendReply_started]
      exact hd

/-- An own effect within `Replied` that leaves the command table alone, and then the final reply. -/
theorem reply_after {c : CmdPath} {u v : State} (n st : Nat) (r : List Byte) (hx : ∀ x, u.startedCmd n = some x → x.ref.path = c)
    (hg : u.cmd.started.any Started.waitsGroup = false) (h1 : Replied c ks u v) (h2 : v.cmd = u.cmd) :
    Replied c ks u (v.finalReply n st r) ∧ (v.finalReply n st r).cmd.started.any Started.waitsGroup = false :=
  ⟨h1.trans (finalReply_replied v n st r c fun x h => hx x (by simpa [State.startedCmd, h2] using h)),
    finalReply_waits v n st r (by rw [h2]; exact hg)⟩

theorem senseKey_keys (c : CmdPath) (h : senseKey ∉ ks) : senseKey ∉ replyKeys c ++ ks := by
  intro hm
  rcases List.mem_append.mp hm with h1 | h1
  · exact senseKey_reply _ h1
  · exact h h1

@[simp] theorem wrs_cmd (l : List (RegField × Nat)) (s : State) : (s.wrs l).cmd = s.cmd := by
  induction l generalizing s with
  | nil => rfl
  | cons x l ih => exact (ih _).trans rfl

theorem wrs_replied (l : List (RegField × Nat)) (s : State) (h : ∀ x ∈ l, x.1.key 0 0 ∈ replyKeys p ++ ks) :
    Replied p ks s (s.wrs l) := by
  induction l generalizing s with
  | nil => exact Replied.refl _ _ s
  | cons x l ih =>
    exact (wr_replied s x.1 x.2 0 0 (h x (by simp))).trans (ih _ fun y hy => h y (by simp [hy]))

/-- The frame of a row whose own effect, from a command that has just started, lies within `Replied`. -/
theorem command_replied {b : Issuer} {code : Nat} {c : CmdRef} {params : List Byte} {s t : State} {f : Nat → State → State}
    (h : command b code c params s f = .next t) (hq : s.quiet = true) (hk : senseKey ∉ replyKeys c.path ++ ks)
    (hf : ∀ (u : State) (n : Nat), (∀ x, u.startedCmd n = some x → x.ref.path = c.path) → u.cmdRefusal b code c.path = none →
      u.cmd.started.any Started.waitsGroup = false → Replied c.path ks u (f n u) ∧ (f n u).cmd.started.any Started.waitsGroup = false) :
    Replied c.path ks s t := by
  unfold command at h
  split at h
  · cases h
    exact Replied.refl _ _ _
  · split at h
    · cases h
      exact Replied.refl _ _ _
    · rename_i w hw
      obtain ⟨r1, r2, -⟩ := cmdReady_is s c code params w hw
      have hx : ∀ x, (s.begun w).startedCmd s.cmd.next = some x → x.ref.path = c.path := by
        intro x hx
        rw [begun_startedCmd] at hx
        cases hx
        rw [r1]
      have hg : (s.begun w).cmd.started.any Started.waitsGroup = false := by
        have : s.cmd.started.any Started.waitsGroup = false := by
          simp only [State.quiet, Bool.and_eq_true, Bool.not_eq_true'] at hq
          exact hq.1.1.1.2
        simp [State.begun, this, Started.waitsGroup]
      have key : ∀ v : State, Replied c.path ks (s.begun w) v → v.cmd.started.any Started.waitsGroup = false →
          fin v = .next t → Replied c.path ks s t := by
        intro v hv hw' he
        have hs : Replied c.path ks s v := Replied.trans (by have := begun_replied (ks := ks) s w; rwa [r1] at this) hv
        cases he
        rw [ended_quiet v (hs.quiet hq hk hw')]
        exact hs
      refine key _ ?_ ?_ h
      · unfold State.startCmd
        split
        · refine (bump_replied _ _ _ _ (replyKeys_refused _)).trans (finalReply_replied _ _ _ _ _ ?_)
          intro x hx'
          refine hx x ?_
          simpa [State.startedCmd] using hx'
        · rename_i hn
          rw [r1, r2] at hn
          exact (hf _ _ hx hn hg).1
      · unfold State.startCmd
        split
        · exact finalReply_waits _ _ _ _ (by simpa using hg)
        · rename_i hn
          rw [r1, r2] at hn
          exact (hf _ _ hx hn hg).2

/-- What the row of an opcode can do while nothing is owed: no more than a reply, or the effect of a command that has just started. -/
theorem command_cases {b : Issuer} {code : Nat} {c : CmdRef} {params : List Byte} {s t : State} {f : Nat → State → State}
    (h : command b code c params s f = .next t) (hq : s.quiet = true) :
    Replied c.path [] s t ∨ ∃ w, w.ref = c ∧ (∀ x, (s.begun w).startedCmd s.cmd.next = some x → x.ref.path = c.path) ∧
      (s.begun w).cmd.started.any Started.waitsGroup = false ∧ (s.begun w).cmdRefusal b code c.path = none ∧
      t = (f s.cmd.next (s.begun w)).ended := by
  by_cases hc : ∃ w, (!s.serving || s.fw.live.isSome) = false ∧ s.cmdReady c code params = some w ∧
      (s.begun w).cmdRefusal b code c.path = none
  · obtain ⟨w, h1, h2, h3⟩ := hc
    obtain ⟨r1, r2, -⟩ := cmdReady_is s c code params w h2
    refine .inr ⟨w, r1, ?_, ?_, h3, ?_⟩
    · intro x hx
      rw [begun_startedCmd] at hx
      cases hx
      rw [r1]
    · have : s.cmd.started.any Started.waitsGroup = false := by
        simp only [State.quiet, Bool.and_eq_true, Bool.not_eq_true'] at hq
        exact hq.1.1.1.2
      simp [State.begun, this, Started.waitsGroup]
    · have hb : (s.begun w).cmdRefusal b w.opcode w.ref.path = none := by rw [r1, r2]; exact h3
      unfold command at h
      rw [if_neg (by simp [h1])] at h
      simp only [h2, State.startCmd, hb, fin] at h
      injection h with h
      exact h.symm
  · refine .inl ?_
    unfold command at h
    split at h
    · cases h
      exact Replied.refl _ _ _
    · rename_i h1
      split at h
      · cases h
        exact Replied.refl _ _ _
      · rename_i w hw
        obtain ⟨r1, r2, -⟩ := cmdReady_is s c code params w hw
        refine command_replied (b := b) (code := code) (params := params) (f := fun n u => u.ends n stOk) (ks := []) (t := t) (s := s) ?_ hq
          (senseKey_keys _ (by simp)) fun u n hx _ hg => reply_after _ _ _ hx hg (Replied.refl _ _ _) rfl
        unfold command
        rw [if_neg h1]
        simp only [hw]
        rw [← h]
        unfold State.startCmd
        split
        · rfl
        · rename_i hn
          rw [r1, r2] at hn
          exact absurd ⟨w, by simpa using h1, hw, hn⟩ hc

/-- A final reply after an own effect: `v` is the state with that effect and without the command. -/
theorem own_reply {c : CmdPath} {u v t : State} {n st : Nat} {r : List Byte} (hq : v.quiet = true) (hk : senseKey ∉ ks)
    (hv : Replied c ks v u) (hx : ∀ x, u.startedCmd n = some x → x.ref.path = c) (hg : u.cmd.started.any Started.waitsGroup = false)
    (h : t = (u.finalReply n st r).ended) : Replied c ks v t := by
  obtain ⟨a, b⟩ := reply_after (ks := ks) n st r hx hg (Replied.refl _ _ _) rfl
  have := hv.trans a
  rw [h, ended_quiet _ (this.quiet hq (senseKey_keys _ hk) b)]
  exact this

end Sys2Proof.Machine
end

