-- ==== Sys2Proof/Tests/Base.lean ====
section
/-! SUPPORT. Small states for the tests: a running device, and a command that waits at the front of its path. -/

namespace Sys2Proof.Machine

/-- A running device in SERVICE: released from reset, firmware started, a line of four
devices in dimension 0 (PID 0), everything else as after power-on reset. -/
def tst : State :=
  let s : State := { State.reset with pwr := { State.reset.pwr with held := false, boot := .done } }
  (s.wr R.PIN_PHASE_PHASE phService).wr R.ROUT_TOPO_TOPO 0x01010104

/-- GEYS is LOCKED. -/
def locked (s : State) : State := s.wr R.GEYS_STATUS_STATE gsLocked

/-- The device is the grandmaster. -/
def master (s : State) : State := s.wr R.GEYS_STATUS_GM 1

/-- A function that has jobs, contexts, an event queue, a queue pair and a window: PF 0 of host port 0 is enabled and may walk the lowest
TiB of its bus, job 1 of 8 ranks is used and job 2 is not, contexts 1 and 2, event queue 2, queue pair 5 and window 3 are its own. -/
def hosted : State :=
  let s0 := (((tst.wr R.FUNC_STATUS_STATE fsEnabled).wr R.XLT_WR_BASE_EN 1).wr R.XLT_WR_LIMIT_LIMIT (2 ^ 28)).wr R.HBM_REGION_SIZE_SIZE (2 ^ 36) 7
  let s := (((s0.wr R.HBM_REGION_SIZE_SIZE (2 ^ 34) 10).wr R.HBM_REGION_SIZE_SIZE (2 ^ 30) 6).wr R.HBM_REGION_SIZE_SIZE (2 ^ 30) 11).wr
    R.PAIR_STATUS_ROLE 0
  let x : CtxFields := { valid := true, levels := 2 }
  let w : WinEntry := { state := wsOpen, opened := true, permRead := true, gen := 1, ctx := 1, job := 1, length := 4096 }
  let q : QpParams := { ctx := 1, job := 1, sqLog := 6, rqLog := 6, cqLog := 6, eq := 2 }
  { s with
    host := { s.host with
      funcs := [(0, { cfg := { busMaster := true, atomicEn := true }, enabled := true })], eqs := [(2, { valid := true })]
      qps := [(5, { valid := true, p := q })], jobGen := [(1, 1), (2, 1)], jobSlot := [(1, 1), (2, 2)], jobRanks := [(1, 8), (2, 8)]
      jobTable := [(2, 2 ^ 20)] }
    xlt := { s.xlt with ctxs := [(1, x), (2, x)] }
    win := { s.win with wins := [(3, w)], fresh := 4 } }

/-- Park slot 1023 holds an access of queue pair 5. -/
def parked : State := { hosted with xlt := { hosted.xlt with parks := [(1023, { used := true, q := 5 })] } }

/-- The last tally counter belongs to PF 0. -/
def counted : State := { hosted with trg := { hosted.trg with tally := [(1048575, { alloc := true })] } }

/-- The last group exists, with one local contributor, queue pair 5. -/
def grouped : State :=
  { hosted with coll := { hosted.coll with
    groups := [(4095, { valid := true, p := { gid := 4095, job := 1, localCnt := 1, depth := 2, mask0 := 15, lqps := [5] }, size := 1 })] } }

/-- Pair operation in SOLO. -/
def solo : State := tst.wr R.PAIR_STATUS_STATE psSolo

/-- Pair operation in PAIRED, with a complete mirror at the mate. -/
def mated : State :=
  let s := (locked tst).wr R.PAIR_STATUS_STATE psPaired
  { s with pair := { s.pair with session := true, syncAcked := true } }

/-- A trial image runs. -/
def trying : State :=
  let s := tst.wr R.FWU_STATUS_TRIAL_BOOTED 1
  { s with nv := { s.nv with trialImg := true } }

/-- PF 0 of host port 0 may unlock expert access, and has. -/
def opened : State := (tst.wr R.CMD_CFG_EXPERT_POLICY 1).wr R.CMD_EXPERT_EXPERT_EN 1

/-- Port `p` is in T_UP. -/
def portUp (p : Nat) : State := tst.wr R.PORT_STATUS_STATE tUp p

/-- Port 95 is in T_UP. -/
def portUp95 : State := portUp 95

/-- Port 95 is in a session with one frame outstanding. -/
def sess : State := (portUp95.setLink 95 { begun := true, buffer := [⟨0, 8, [5]⟩] }).wr R.LINK_SEQ_TX_NEXT 1 95

/-- Port 95 is in a session, its receiver in normal mode; bytes have arrived after a unit whose NEXT was `n`. -/
def rxing (n : Nat) (bs : List Byte) : State :=
  (portUp95.wr R.LINK_STATUS_RXMODE 0 95).setLink 95 { begun := true, rxNext := n, rxBytes := bs.map fun b => (b, false) }

/-- Port 95 has entered T_UP, and a codeword pair that begins with an LCW has arrived. -/
def startArrives (w : Nat) : State :=
  portUp95.setLink 95 { rxBytes := (toBytes 8 w ++ List.replicate 672 0).map fun b => (b, false) }

/-- The identity record that the peer of port 0 sends: PID 1, port 0. -/
def idGood : Flit :=
  let body := 0x5A961D0E + 2 ^ 32 + 2 ^ 64
  BitVec.ofNat 256 (body + crc32c (toBytes 28 body) * 2 ^ 224)

/-- Port `p` is in T_IDENT and has received `n` identical good records; one more has arrived. -/
def identing (p n : Nat) : State :=
  ((tst.wr R.PORT_STATUS_STATE tIdent p).setPort p { idRecord := some idGood, idRun := n }).setLink p
    { rxBytes := (flitBytes idGood ++ List.replicate 308 0).map fun b => (b, false) }

/-- Port 95 is in LP-QUIET with an LCW waiting. -/
def quietWork : State := (tst.wr R.PORT_STATUS_STATE tQuiet 95).setLink 95 { lcws := [(1, 1)] }

/-- Port 95 is in LP-DORMANT in PEAT, and energy does not wake the device. -/
def dormPeat : State := (tst.wr R.PORT_STATUS_STATE tDorm 95).wr R.PWR_STATUS_STATE psPeat

/-- Port 95 has comma stamps: sent at 100 and 200, received at 110 and 300; its place in the interval has come. -/
def stamped : State :=
  let s := portUp95.setPort 95 { txStamps := [⟨1, 200, 2⟩, ⟨0, 100, 0⟩], rxStamps := [⟨1, 300, 3⟩, ⟨0, 110, 1⟩] }
  { s with time := { s.time with acc := 16384 * 95 * 2 ^ 40 } }

/-- The TIMING flit of a peer that received those commas at 120 and 220 and sent its own at 290. -/
def timingF : Flit := BitVec.ofNat 256 (1 + 1 * 2 ^ 34 + 120 * 2 ^ 44 + 220 * 2 ^ 90 + 290 * 2 ^ 136)

/-- A grandmaster that has missed two PPS edges. -/
def ppsTwo : State :=
  let s := (master tst).wr R.GEYS_CFG_PPS_EN 1
  { s with geys := { s.geys with ppsMissed := 2 } }

/-- A RUNNING schedule in a fabric whose time is LOCKED: four slots of 512 ticks; a slot table of P0, one burst and one launch of E0. -/
def imaged : State :=
  let put := fun (s : State) o n v => s.hbmWrite o (toBytes n v)
  let s := (((locked tst).wr R.SCHD_CTRL_STATE ssRunning).wr R.SCHD_CFG_PREWARM_EN 1).wr R.SCHD_CFG_LSTEP_EN 1
  let s1 := put (put s 0x20 4 4) 0x24 8 (0x01010101 + 3 * 2 ^ 32)
  let s2 := put (put s1 0x30 8 (0x800 + 2 ^ 40 + 2 ^ 61)) 0x100 8 (0x900 + 2 ^ 42 + 2 ^ 61)
  put (put (put s2 0x450 8 (0xA00 + 2 ^ 40 + 2 ^ 61)) 0x800 8 (2 ^ 20 + 2 ^ 41)) 0xA00 16 (5 * 2 ^ 32 + 2 ^ 96)

/-- Port 0, which the slot table of that image names, is UP with a measured delay that the hop quantum cannot cover. -/
def pathless : State := ((imaged.wr R.LINK_STATUS_STATE lkUp 0).wr R.PORT_DLY_VALID 1 0).setBufValid 0 true

/-- The burst of that image is held. -/
def ramping : State := { imaged with schd := { imaged.schd with bursts := [{ entry := 0, iter := 0, level := 1, start := 0, stop := 512 }] } }

/-- A packet head of VC7. -/
def k7 : BufPkt := { seen := [BitVec.ofNat 256 (7 * 2 ^ 184)], need := 0 }

/-- It waits at port 95. -/
def vc7State : State := (locked tst).setInVc 95 7 { pkts := [k7] }

/-- Queue pair 5 has one fetched send descriptor. -/
def described : State := hosted.setQp 5 { hosted.qp 5 with sqObs := 1, sqFetch := 1, sq := [{ x := 0, desc := 0 }] }

/-- That descriptor is the next launch of E0. -/
def launching : State := { described.wr R.SCHD_CTRL_STATE ssRunning with hbm := imaged.hbm }

/-- A packet of a type without payload, addressed to this device. -/
def pktOf (ptype vc : Nat) : List Flit := formPacket { ptype := ptype, ext := true, plen := 0, dpid := 0, spid := 1, vc := vc } (some 0) []

/-- A packet that waits for output 0. -/
def k0 : BufPkt := { seen := pktOf ptWriteReq 0, need := 0, route := some { target := .out 0, vc := 0 } }

/-- It waits at port 95. -/
def crossing : State := ((portUp 0).wr R.LINK_STATUS_STATE lkUp 0).setInVc 95 0 { pkts := [k0] }

/-- That packet granted and sent. -/
def kHeld : BufPkt := { k0 with granted := true, sent := k0.seen.length }

/-- It holds output 0. -/
def holding : State := (crossing.setInVc 95 0 { pkts := [kHeld] }).setHolder 0 (some { input := 95, vc := 0, outVc := 0 })

/-- It waits there as `w0`. -/
def w0 : Waiting := { input := 95, vc := 0, pkt := k0 }

/-- A packet of VC2 that waits for a decision, and one of a collective. -/
def kNew : BufPkt := { seen := pktOf ptWriteReq 2, need := 1 }
def kColl : BufPkt := { seen := pktOf ptCollContrib 6, need := 1 }

/-- Queue pair 5 is polled, and tracked on the host port. -/
def polling : State := hosted.setQp 5 { hosted.qp 5 with p := { (hosted.qp 5).p with dbMode := 1 } }
def snooping : State := hosted.setQp 5 { hosted.qp 5 with snooped := true }

/-- The lowest page of context 1 is cached. -/
def cachedPage : State :=
  let e : TlbEntry := { ctx := 1, base := 0, size := 4096, out := 0x7000, w := true, u := true, f := true, g := false, m := true, noSnoop := false, fill := 0 }
  { hosted with xlt := { hosted.xlt with l2 := [e] } }

/-- Its send queue has two descriptors to fetch there. -/
def fetching : State := cachedPage.setQp 5 { cachedPage.qp 5 with sqObs := 2 }

/-- A receive descriptor has been asked for. -/
def arriving : State := hosted.setQp 5 { hosted.qp 5 with rqIn := [{ x := 0, dma := 0 }] }

/-- A walk that reads an entry for a record, and a state in which walk 3 is `x`. -/
def walk0 : Walk := { ctx := 1, va := 0, acc := .read, level := 2, table := 0, who := [{ who := .record 5 }] }
def walking (x : Walk) : State := { hosted with xlt := { hosted.xlt with walks := [(3, some x)] } }

/-- A write of queue pair 5 to PID 1, and an adopted device with its context in a state. -/
def op0 : XOp := { owner := .sq 5 0, kind := .write, q := 5, tc := 1, job := 1, len := 64 }
def talking (st : Nat) : State := (((locked hosted).wr R.ROUT_CTRL_ADOPTED 1).setOp 0 (some op0)).setTc 1 { txState := st, known := true }

/-- An answer of a type from PID 1 on pipeline 9, handed over. -/
def answer (ptype : Nat) : RxPkt := ⟨pktOf ptype 3, 9, 1⟩
def answered (ptype : Nat) : State := { tst with tpt := { tst.tpt with acks := [answer ptype] } }

/-- Window 3 is in a state. -/
def windowed (st : Nat) : State := hosted.setWindow 3 { hosted.window 3 with state := st }

/-- The next descriptor of queue pair 5, or its oldest fired target, is `d`. -/
def descr (d : Nat) : State := hosted.setQp 5 { hosted.qp 5 with sqObs := 1, sqFetch := 1, sq := [{ x := 0, desc := d }] }
def firedDescr (d : Nat) : State := hosted.setQp 5 { hosted.qp 5 with fired := [{ x := 0, desc := d, dcnt := none }] }

/-- A TRIG pair is next. -/
def trigged : State := hosted.setQp 5 { hosted.qp 5 with sqObs := 2, sqFetch := 2, sq := [{ x := 0, desc := 0x22, slots := 2 }] }

/-- A contribution at the tap. -/
def kTap : BufPkt := { seen := pktOf ptCollContrib 6, need := 0, route := some { target := .tap, vc := 6 } }

/-- The last group has an instance. -/
def phased (x : Inst) : State :=
  { grouped with coll := { grouped.coll with groups := [(4095, { tget {} grouped.coll.groups 4095 with insts := [x] })] } }

/-- A contributor of queue pair 5. -/
def part0 : LocalPart := { lslot := 0, owner := .sq 5 0, q := 5, desc := 0 }

/-- A position of two devices, PAIRED. -/
def twinned : State := (tst.wr R.ROUT_TOPO_TOPO (0x01010104 + 2 ^ 52)).wr R.PAIR_STATUS_STATE psPaired

/-- A planned move is armed. -/
def moving (m : Move) : State := { twinned with pair := { twinned.pair with move := some m } }

/-- Command 7 of the SMBus waits. -/
def started (w : CmdWait) : State :=
  { tst with cmd := { tst.cmd with started := [{ n := 7, ref := ⟨.smbus, 9⟩, opcode := 0x0B01, wait := w }] } }

/-- The command ring of the last function of the last host port holds a command. -/
def ringing : State :=
  let s := ((tst.wr R.FUNC_STATUS_STATE fsEnabled 255).wr R.CMD_RCFG_EN 1 255).wr R.CMD_RCFG_CLOG 6 255
  (s.wr R.CMD_RCFG_RLOG 6 255).setRing 255 { pi := 1 }

/-- The command ring of PF 0 and tag 1. -/
def c0 : CmdRef := ⟨.ring 0 0, 1⟩

/-- A POWER_STATE PEAT, command 7, waits for its entry. -/
def entering : State := { tst with cmd := { tst.cmd with started := [{ n := 7, ref := ⟨.smbus, 9⟩, opcode := 0x0B01, wait := .power 2 }] } }

/-- The command ring of VF 1 of host port 0. -/
def cvf : CmdRef := ⟨.ring 0 1, 1⟩

/-- Host port 0 is served by the mate. -/
def unserved : State := hosted.wr R.PAIR_STATUS_ROLE 3

/-- Context 1 and queue pair 5 belong to VF 1. -/
def foreign : State :=
  { hosted with
    host := { hosted.host with qps := [(5, { hosted.qp 5 with p := { (hosted.qp 5).p with func := 1 } })] }
    xlt := { hosted.xlt with ctxs := [(1, { valid := true, levels := 2, func := 1 })] } }

/-- Every window index has been opened, and window 3 is open. -/
def unwindowed : State := hosted.wr R.WIN_CFG_COUNT 4

/-- Every 65536th tally counter is allocated, so no run of 65536 is free. -/
def allcounted : State :=
  { hosted with trg := { hosted.trg with tally := (List.range 16).map fun i => (65536 * i + 65535, { alloc := true }) } }

/-- The last tally counter is bound to queue pair 5. -/
def countUsed : State := counted.setQp 5 { counted.qp 5 with cnt := some 1048575 }

/-- Sixteen basic invalidations have not ended. -/
def invaling : State :=
  { hosted with cmd := { hosted.cmd with
    started := (List.range 16).map fun i => { n := i, ref := ⟨.smbus, 9⟩, opcode := 0x0404, wait := .invalidate } } }

/-- A POWER_STATE MOSS, command 7, waits for its entry. -/
def mossing : State := started (.power 1)

/-- The slot of snapshot 0 is complete and has an uncorrectable error. -/
def badSnap : State :=
  let s := tst.hbmWrite (tst.snapSlot 0 + 44) [1]
  { s with cnt := { s.cnt with bad := [0] } }

/-- The device has no valid firmware image and waits for one. -/
def loading : State := { tst with pwr := { tst.pwr with boot := .load } }

/-- A command waits at the front of the path of `c`. -/
def ready (s : State) (code : Nat) (c : CmdRef) (ps : List Byte) : State :=
  { s with cmd := { s.cmd with waiting := [{ ref := c, opcode := code, params := ps }], next := 0 } }

/-- That command has started. -/
def went (s : State) (code : Nat) (c : CmdRef) (ps : List Byte) : State := (ready s code c ps).begun { ref := c, opcode := code, params := ps }

/-- What a start asks of a state. -/
def startable (s : State) (b : Issuer) (code : Nat) (c : CmdRef) : Bool :=
  s.serving && s.fw.live.isNone && b.allows c.path && !((code = 0x0F03 || code = 0x0F04) && !s.unlocked c.path) &&
    !(s.pwr.boot = .load && !loadOp code) && !(s.phase = phStartup && !startupOp code)

theorem ready_starts (s : State) (b : Issuer) (code : Nat) (c : CmdRef) (ps : List Byte) (h : startable s b code c = true) :
    Starts (ready s code c ps) b code c ps 0 (went s code c ps) := by
  simp only [startable, Bool.and_eq_true] at h
  obtain ⟨⟨⟨⟨⟨h1, h2⟩, h3⟩, h4⟩, h5⟩, h6⟩ := h
  refine ⟨{ ref := c, opcode := code, params := ps }, h1, (by simpa using h2 : s.fw.live = none), ?_, rfl, rfl, ?_⟩
  · simp [State.cmdReady, ready, WaitCmd.bad, State.fenceOk]
  · have e1 : (went s code c ps).unlocked c.path = s.unlocked c.path := by cases c with | mk p t => cases p <;> rfl
    have e2 : (went s code c ps).phase = s.phase := by cases c with | mk p t => cases p <;> rfl
    have e3 : (went s code c ps).pwr = s.pwr := by cases c with | mk p t => cases p <;> rfl
    unfold State.cmdRefusal
    simp only [e1, e2, e3, h3]
    simp only [Bool.not_eq_true'] at h4 h5 h6
    simp [h4, h5, h6]

/-- `m` queue pairs of PF 0 of host port 0, in its doorbell slots from 0 on. -/
def qpsFull (m : Nat) : List (Nat × Qp) := (List.range m).map fun i => (i, { valid := true, slot := i })

/-- `m` translation contexts in use. -/
def ctxsFull (m : Nat) : List (Nat × CtxFields) := (List.range m).map fun i => (i, { valid := true })

theorem no_slot_of_full (s : State) (m : Nat) (h : s.host.qps = qpsFull m) (hm : 7168 ≤ m) : s.freeSlot 0 = none := by
  have e : ((s.host.qps.filter fun kv => kv.2.valid && kv.2.func = 0).map fun kv => kv.2.slot) = List.range m := by
    rw [h, qpsFull, List.filter_eq_self.2 (by intro a ha; obtain ⟨i, -, rfl⟩ := List.mem_map.1 ha; rfl), List.map_map]
    exact List.map_id _
  unfold State.freeSlot
  simp only [e, List.length_range, List.find?_eq_none]
  intro x _
  simp
  omega

theorem no_ctx_of_full (s : State) (m : Nat) (h : s.xlt.ctxs = ctxsFull m) (hm : m = 65536) (hh : s.paired = false) : s.freeCtx = none := by
  have e : ((s.xlt.ctxs.filter fun kv => kv.2.valid && decide (0 ≤ kv.1) && decide (kv.1 < 0 + 65536)).map Prod.fst) = List.range m := by
    rw [h, ctxsFull, List.filter_eq_self.2 (by intro a ha; obtain ⟨i, hi, rfl⟩ := List.mem_map.1 ha; simp at hi ⊢; omega), List.map_map]
    exact List.map_id _
  unfold State.freeCtx
  simp only [State.ownHalf, hh, Bool.not_false, if_true, e, List.length_range, Option.map_eq_none_iff, List.find?_eq_none]
  intro x _
  simp
  omega

/-- PF 0 of host port 0 has `m` queue pairs. -/
def unslotted (m : Nat) : State := { hosted with host := { hosted.host with qps := qpsFull m } }

/-- It has `m` contexts. -/
def uncontexted (m : Nat) : State := { hosted with xlt := { hosted.xlt with ctxs := ctxsFull m } }

theorem went_unslotted (m code : Nat) (ps : List Byte) (hm : 7168 ≤ m) : (went (unslotted m) code c0 ps).freeSlot (pathFn c0.path) = none :=
  no_slot_of_full _ m rfl hm
theorem went_paired (s : State) (code : Nat) (c : CmdRef) (ps : List Byte) : (went s code c ps).paired = s.paired := by
  cases c with | mk p t => cases p <;> rfl
theorem paired_xlt (s : State) (x : XltState) : ({ s with xlt := x } : State).paired = s.paired := rfl
theorem went_uncontexted (m code : Nat) (ps : List Byte) (hm : m = 65536) : (went (uncontexted m) code c0 ps).freeCtx = none :=
  no_ctx_of_full _ m rfl hm ((went_paired _ _ _ _).trans ((paired_xlt _ _).trans (by decide)))

end Sys2Proof.Machine
end

