-- ==== Sys2Proof/WellFormed.lean ====
section
/-! DEFINITION. Which terms of Instr a sender can form: the lengths that the types of the operands leave open. A term that is not well formed
stands for no command of the device; what exec answers for it is the model's own (log 7). -/

namespace Sys2Proof

/-- A host read that answered gave as many bytes as were asked for. -/
def readOf (n : Nat) (r : HostRead) : Bool :=
  match r with
  | some bs => bs.length = n
  | none => true

/-- The command is well formed. -/
def Instr.wellFormed (i : Instr) : Bool :=
  match i with
  | .registerWrite _ bytes _ => 1 ≤ bytes && bytes ≤ 8
  | .codewordDecode _ x => x.first.length = 1440 && x.second.length = 1440
  | .commaHalfReceive _ marker cidx ctag _ _ _ => marker.length = 20 && cidx.length = 5 && ctag.length = 5
  | .trainFrameReceive _ marker words _ _ => marker.length = 32 && words.length = 256
  | .linkFrameReceive _ flits _ _ _ => 1 ≤ flits.length && flits.length ≤ 8
  | .launchFetch _ data => readOf 64 data
  | .skippedDescComplete data => readOf 64 data
  | .doorbellRecordPoll _ data => readOf 64 data
  | .snoopInvalidate _ data => readOf 64 data
  | .descriptorArrive _ _ data => readOf 64 data
  | .commandFetch _ _ data _ => readOf 64 data
  | .smbusMessage bytes _ => !bytes.isEmpty
  | .remote _ _ _ _ _ data => readOf 64 data
  | .aliasBulk _ _ _ count _ data => readOf (8 * count.toNat) data
  | .schedLoad _ _ _ len data => readOf len.toNat data
  | .rankBulk _ _ _ _ count _ data => readOf (8 * count.toNat) data
  | .fwStage _ _ len data => readOf len.toNat data
  | .fwStageChunk _ _ _ data => data.length = 48
  | .cfgWrite _ _ len data _ => readOf len.toNat data
  | .attest _ _ nonce => nonce.length = 32
  | .expertUnlock _ token => token.length = 0 || token.length = 544
  | .routeDecision _ _ | .crossbarGrant _ | .packetTailPass _ | .rxPipelinePacket _ | .commaLockLoss _ | .commaHalfTransmit _ _
  | .portCtrlEnWrite _ _ | .portCtrlRetrainWrite _ _ | .laneSignalDetect _ | .laneSignalLoss _ _ | .trainLimitExpire _
  | .trainHoldExpire _ | .identityRecordReceive _ _ | .miswiredRetry _ | .lpQuietExit _ | .lpDormantEnergyWake _ _ | .lpExitSlow _
  | .linkBadUnit _ _ | .lcwReceive _ _ _ | .replayTimerExpire _ | .statusLcwDue _ | .xoffRepeat _ | .xoffWatchdogExpire _ _
  | .leakRetrain _ _ | .linkUnitTransmit _ | .sessionStartReceive _ _ | .linkCtrlRetireWrite _ _ | .linkCtrlFreshRetrainWrite _ _
  | .lpReqReceive _ _ | .lpAckReceive _ _ | .lpNakReceive _ _ | .quietIdleExpire _ | .syncFlitSend _ | .syncTimingReceive _ _
  | .syncEpochReceive _ _ | .gmElection | .syncInfoExpire _ | .holdoverInterval | .ppsEdge _ | .ppsMissing | .aonRateMeasure _
  | .geysStepWrite _ | .lineNoticeRefresh _ | .lineNoticeReceive _ _ | .flipArmWrite _ | .flipNoticeReceive _ _ | .routingFlip
  | .bankHoldExpire | .markNoticeReceive _ _ | .routTransitOffWrite _ | .scheduleRunStart | .scheduleStopReached | .scheduleSwitch
  | .slotPrefetch _ _ _ _ | .slotStart _ _ _ | .vc7HeadArrival _ | .vc7OrphanTimeout _ | .schedAbortReceive _ _ | .prewarmDecide _ _
  | .prewarmRampUp | .prewarmRampDown | .lstepAssert | .lstepRelease | .schdGoWrite _ | .schdAbortWrite _ | .schdClearWrite _
  | .funcCtrlEnWrite _ _ _ | .funcEnableEvent _ _ _ | .funcDisableEvent _ _ _ | .flr _ _ | .quiesceComplete _ _ | .quiesceTimeout _ _
  | .sqPiWrite _ _ _ _ | .rqPiWrite _ _ _ _ | .cqCiWrite _ _ _ _ | .cqArmWrite _ _ _ _ | .eqCiWrite _ _ _ _ | .eqArmWrite _ _ _ _
  | .descriptorFetch _ _ | .dmaReadError _ _ | .completionWrite _ | .hostLinkUp _ _ _ _ _ | .hostLinkDown _ _ | .perstAssert _
  | .perstDeassert _ | .walkEntryReturn _ _ | .walkCasReturn _ _ | .invalidationComplete | .parkTimeout _ | .xltInvGoWrite _
  | .tcCacheLoad _ _ | .tcDeadlineSweep | .packetForm _ _ | .ackReceive | .nackReceive | .retransmitTimerExpire _ _ _
  | .tcGiveupExpire _ _ | .helloReceive | .helloRespReceive | .readRespForm _ _ | .readRespReceive | .revokeComplete _
  | .revokeDrainSlow _ | .windowCoolingEnd _ | .winOpenGoWrite _ | .winRevokeWrite _ | .tcCtrlResetWrite _ | .nopDesc _ _ | .write _ _
  | .read _ _ | .winRevokeDesc _ | .send _ _ | .rndvWindowOpen _ | .recv _ | .reorderRelease _ | .matchArrival | .prqEntryFree _
  | .cntAdd _ _ | .cntSet _ _ | .trig _ | .wait _ | .cntFetch _ _ | .counterUpdate | .triggerFireTime | .triggerSweep | .firedOpEnd
  | .pendingEntryFree _ | .trgCntValWrite _ | .trgCntAddWrite _ | .allreduce _ _ _ | .reduceScatter _ _ _ | .allgather _ _ _
  | .barrier _ _ | .lineBcast _ _ _ | .collContribTap _ | .timedGuardStart | .timedPhaseLaunch | .collPhaseTimeout _ _
  | .carrHeartbeatSend _ | .carrUnitReceive _ | .carrSilenceExpire | .mateAliveEdge | .mateAliveSilence | .mirrorRecordReceive _ _
  | .mirrorAckReceive _ | .mirrorTimeout | .pairStartTimeout | .moveQuiesceStart | .moveYield _ | .moveStaleWindowEnd
  | .pairCtrlModeWrite _ | .pairCtrlTakeoverWrite _ | .cmdPiWrite _ _ _ | .rplCiWrite _ _ _ | .cmdArmWrite _ _ _ | .cmdRcfgWrite _ _ _
  | .commandProgressTimer _ | .mgmtReqReceive | .mgmtRespReceive | .remoteTimeout _ | .mgmtFlitQueryReceive _ _
  | .mgmtFlitInfoReceive _ _ | .neighbourInfoTimeout _ | .nop _ | .devInfo _ _ | .portEnable _ _ _ | .portPreset _ _ _
  | .portRetrain _ _ _ | .portStatus _ _ | .portPeer _ _ | .portRetire _ _ | .linkTimers _ _ _ _ | .portAsym _ _ _
  | .neighbourInfo _ _ | .lpEnable _ _ _ | .aliasWrite _ _ _ _ | .exclWrite _ _ _ _ | .flip _ _ _ _ | .transitOff _ _ | .topoSet _ _ _
  | .costSet _ _ _ _ | .throttleSet _ _ _ _ _ _ _ _ | .routeStatus _ | .rowsRead _ _ _ | .throttleRead _ _ | .aliasRead _ _ _
  | .routeHold _ _ | .gmCfg _ _ _ _ _ _ | .geysLimits _ _ _ _ _ _ | .taiSet _ _ _ | .geysStep _ _ | .geysStatus _ | .geysSleep _
  | .schedStart _ _ _ _ | .schedStop _ _ | .schedAbort _ | .schedClear _ | .schedStatus _ | .schedCfg _ _ _ _ _ _ _ _
  | .qpCreate _ _ _ _ _ _ _ _ _ _ _ _ _ _ | .eqCreate _ _ _ _ _ | .funcReset _ _ | .funcStatus _ _ | .qpStatus _ _ | .heldStatus _
  | .hportCfg _ _ | .pollRate _ _ | .jobBind _ _ _ | .jobRelease _ _ _ | .rankWrite _ _ _ _ _ | .jobStatus _ _
  | .ctxCreate _ _ _ _ _ _ _ _ | .ctxRelease _ _ | .invalidate _ _ _ _ _ _ | .parkResolve _ _ _ _ | .walkRange _ _ _ _ _
  | .xltTimers _ _ _ | .ctxStatus _ _ | .tptTimers _ _ _ | .tptAckcfg _ _ _ | .tcReset _ _ | .tcStatus _ _
  | .winOpen _ _ _ _ _ _ _ _ _ _ _ | .winRevoke _ _ | .winStatus _ _ | .matCfg _ _ _ | .matStatus _ | .matQpStatus _ _ | .cntAlloc _ _
  | .cntFree _ _ _ | .cntBind _ _ _ _ | .cntRead _ _ | .cntWrite _ _ _ | .groupCreate _ _ _ _ _ _ _ _ _ _ _ _ _ _ _ _ _ _ _ _
  | .groupDestroy _ _ | .groupStatus _ _ | .pairMode _ _ | .pairMove _ _ _ | .pairStatus _ | .pairTakeover _ | .resetFull _ _
  | .resetDelayExpire | .powerState _ _ | .powerRequestTimeout | .wakeCfg _ _ | .lastWake _ | .supplyStatus _ | .faultRead _ _
  | .faultClear _ _ _ | .faultReact _ _ _ _ | .faultGrace _ _ _ | .faultFirst _ _ | .devPhase _ _ | .readerCfg _ _ _ | .perfRead _ _
  | .snapshotCopy _ _ _ | .fwActivate _ _ _ _ _ | .firmwareResetDelay | .fwConfirm _ _ | .fwStatus _ | .identityRead _ _ _ _
  | .expertChallenge _ | .expertLock _ | .regRead _ _ _ | .regWrite _ _ _ _ | .expertStatus _ | .powerOnReset | .resetNAssert
  | .rstCtrlFullWrite _ | .fullResetRelease _ | .imageBoot _ | .hbmInitComplete _ | .startupComplete | .calderaWatchdogWarn
  | .calderaWatchdogExpire | .undervoltage _ | .railRecovery | .coreWait | .peatLpRetry _ | .peatPortOff _ | .peatEntryDone
  | .wakeEvent _ _ | .peatExitComplete _ | .aonClockLoss _ | .supplyFail _ | .reshareHoldExpire _ | .vauxLoss _ | .vrhotAssert
  | .faultGraceExpire _ | .fltForceWrite _ _ _ | .pinPhaseWrite _ | .fumaroleToggle | .eccError _ _ _ | .thermalSample _
  | .counterBoundary | .snapshotWriteComplete | .cntStartWrite _ | .readerConfigStart | .confirmTimeout _ | .liveActivationRestart
  | .liveActivationComplete | .liveActivationTimeout | .ppsOutRise | .ppsOutFall | .referenceLockChange _ _ | .gmClassUpgrade
  | .expertLockoutExpire | .supplyOkReturn _ | .vauxReturn _ | .vrhotDeassert | .errNSenseChange _ | .hbmTempChange _ | .hbmScrubPass
  | .calderaCoreException _ | .jtagTapClock _ | .collStagingWriteDone => true

end Sys2Proof
end

