-- ==== Sys2Proof/Tests/Slice0.lean ====
section
/-! SUPPORT. Tests of the model: an ill-formed operand for every check of Sys2Proof/WellFormed.lean, worked examples of the spec, and
for every clause of the statements a concrete state and operands that meet its hypotheses. -/

set_option Elab.async false

open Sys2Proof Sys2Proof.Machine

/-! ## Well-formedness: one ill-formed term for each check, which the check refuses -/

theorem test_wf_registerWrite : Instr.wellFormed (.registerWrite (.bus 0) 9 0) = false := by decide +kernel
theorem test_wf_registerWrite_empty : Instr.wellFormed (.registerWrite (.bus 0) 0 0) = false := by decide +kernel
theorem test_wf_codewordDecode : Instr.wellFormed (.codewordDecode 0 ⟨List.replicate 1439 .m3, List.replicate 1440 .m3, 0⟩) = false := by decide +kernel
theorem test_wf_codewordDecode_lane1 : Instr.wellFormed (.codewordDecode 0 ⟨List.replicate 1440 .m3, [], 0⟩) = false := by decide +kernel
theorem test_wf_commaHalfReceive : Instr.wellFormed (.commaHalfReceive 0 (List.replicate 19 .p3) (symbolLevels 0) (symbolLevels 0) true 0 0) = false := by decide +kernel
theorem test_wf_commaHalfReceive_cidx : Instr.wellFormed (.commaHalfReceive 0 commaMarker [] (symbolLevels 0) true 0 0) = false := by decide +kernel
theorem test_wf_commaHalfReceive_ctag : Instr.wellFormed (.commaHalfReceive 0 commaMarker (symbolLevels 0) [] true 0 0) = false := by decide +kernel
theorem test_wf_trainFrameReceive : Instr.wellFormed (.trainFrameReceive 0 [] (List.replicate 256 .m3) 0 false) = false := by decide +kernel
theorem test_wf_trainFrameReceive_words : Instr.wellFormed (.trainFrameReceive 0 trainMarker [] 0 false) = false := by decide +kernel
theorem test_wf_linkFrameReceive : Instr.wellFormed (.linkFrameReceive 0 [] 0 0 false) = false := by decide +kernel
theorem test_wf_linkFrameReceive_long : Instr.wellFormed (.linkFrameReceive 0 (List.replicate 9 0) 0 0 false) = false := by decide +kernel
theorem test_wf_launchFetch : Instr.wellFormed (.launchFetch 0 (some [0])) = false := by decide +kernel
theorem test_wf_skippedDescComplete : Instr.wellFormed (.skippedDescComplete (some (List.replicate 65 0))) = false := by decide +kernel
theorem test_wf_doorbellRecordPoll : Instr.wellFormed (.doorbellRecordPoll 0 (some (List.replicate 63 0))) = false := by decide +kernel
theorem test_wf_snoopInvalidate : Instr.wellFormed (.snoopInvalidate 0 (some [])) = false := by decide +kernel
theorem test_wf_descriptorArrive : Instr.wellFormed (.descriptorArrive 0 true (some [0])) = false := by decide +kernel
theorem test_wf_commandFetch : Instr.wellFormed (.commandFetch 0 0 (some [0]) none) = false := by decide +kernel
theorem test_wf_smbusMessage : Instr.wellFormed (.smbusMessage [] true) = false := by decide +kernel
theorem test_wf_remote : Instr.wellFormed (.remote c0 3 1 0 0 (some [0])) = false := by decide +kernel
theorem test_wf_aliasBulk : Instr.wellFormed (.aliasBulk c0 0 0 2 0 (some (List.replicate 15 0))) = false := by decide +kernel
theorem test_wf_schedLoad : Instr.wellFormed (.schedLoad c0 0 0 2 (some [0])) = false := by decide +kernel
theorem test_wf_rankBulk : Instr.wellFormed (.rankBulk c0 1 1 0 1 0 (some (List.replicate 7 0))) = false := by decide +kernel
theorem test_wf_fwStage : Instr.wellFormed (.fwStage c0 0 1 (some [])) = false := by decide +kernel
theorem test_wf_fwStageChunk : Instr.wellFormed (.fwStageChunk c0 0 1 (List.replicate 47 0)) = false := by decide +kernel
theorem test_wf_cfgWrite : Instr.wellFormed (.cfgWrite c0 0 3 (some [0]) true) = false := by decide +kernel
theorem test_wf_attest : Instr.wellFormed (.attest c0 0 (List.replicate 31 0)) = false := by decide +kernel
theorem test_wf_expertUnlock : Instr.wellFormed (.expertUnlock c0 (List.replicate 543 0)) = false := by decide +kernel

theorem test_wf_accepts : Instr.wellFormed (.linkFrameReceive 95 (List.replicate 8 0) 0 7 true) = true := by decide

/-! ## Worked examples of the spec -/

/-- The topology word of 02_grid_and_addressing.md, example "position, ports and a rank lookup": the reference shape, whose port
bases are 0, 23, 47 and 71, at PID 0x3_D08D with PAIRED 1. -/
def exampleTopo : Nat := 0x18191918 + 0x3D08D * 2 ^ 32 + 2 ^ 52

-- the example's PID, bases and ports: towards c0 = 12 P12, towards c2 = 3 P50, towards c3 = 9 P79
theorem test_example_pid : coord 0x3D08D 0 = 13 ∧ coord 0x3D08D 1 = 4 ∧ coord 0x3D08D 2 = 20 ∧ coord 0x3D08D 3 = 7 := by decide
theorem test_example_bases : topoValid exampleTopo = true ∧ (dims.map (dimBase exampleTopo)) = [0, 23, 47, 71] := by decide
theorem test_example_ports : portTo exampleTopo 0 12 0 = 12 ∧ portTo exampleTopo 2 3 0 = 50 ∧ portTo exampleTopo 3 9 0 = 79 := by decide
theorem test_example_peers : expectedPeer exampleTopo 12 = some 0x3D08C ∧ expectedPeer exampleTopo 95 = some 0x3D08C := by decide

-- word 0 of the base header in 03_packets.md, example "a 100-byte remote write", and the packet's 7 flits
theorem test_example_header :
    let h : Hdr := { ptype := 1, ext := true, plen := 100, dpid := 0x3D08D, spid := 0x1234, vc := 0 }
    fget h.flit 0 64 = 0x012343D08D606441 ∧ pktFlits h.flit = 7 := by decide

-- the alias entry of 07_dynamic_routing.md's example: 0x3_D08D is served by 0x3_D08C
theorem test_example_alias : aliasFrom 0x13D08C3D08D = 0x3D08D ∧ aliasTo 0x13D08C3D08D = 0x3D08C ∧ aliasAction 0x13D08C3D08D = 1 := by decide

-- the check values of the CRCs over the ASCII digits 1 to 9, as their standards give them (IEEE 802.3, RFC 3720, CRC-16/CCITT with 0xFFFF)
theorem test_crc32 : crc32 [0x31, 0x32, 0x33, 0x34, 0x35, 0x36, 0x37, 0x38, 0x39] = 0xCBF43926 := by decide +kernel
theorem test_crc32c : crc32c [0x31, 0x32, 0x33, 0x34, 0x35, 0x36, 0x37, 0x38, 0x39] = 0xE3069283 := by decide +kernel
theorem test_crc16 : crc16 [0x31, 0x32, 0x33, 0x34, 0x35, 0x36, 0x37, 0x38, 0x39] = 0x29B1 := by decide +kernel

-- 13_counters_and_triggers.md R481 at the edges of its half range, and 11_transport_and_windows.md R404 at the number it skips
theorem test_reached : reached 5 5 = true ∧ reached 4 5 = false ∧ reached 0 (2 ^ 64 - 1) = true ∧ reached (2 ^ 63) 0 = false := by decide
theorem test_opid : ((State.assignOpid (tst.setTc 3 { nextOpid := 0xFFFFFE }) 3).2.tc 3).nextOpid = 0 := by decide

/-! ## The hypotheses of the statements can be met -/

/-! ### GeneralCommandsComplete -/

theorem witness_GeneralCommandsComplete_1 :
    Starts (ready tst 0x0000 c0 []) .a 0x0000 c0 [] 0 (went tst 0x0000 c0 []) :=
  ready_starts _ _ _ _ _ (by decide)

theorem witness_GeneralCommandsComplete_2 :
    Starts (ready tst 0x0001 c0 (pack [(1, (4 : BitVec 8).toNat)])) .a 0x0001 c0 (pack [(1, (4 : BitVec 8).toNat)]) 0 (went tst 0x0001 c0
      (pack [(1, (4 : BitVec 8).toNat)])) ∧ (4 : BitVec 8).toNat ≤ 4 :=
  ⟨ready_starts _ _ _ _ _ (by decide), by decide⟩

theorem witness_GeneralCommandsComplete_3 :
    Starts (ready tst 0x0001 c0 (pack [(1, (5 : BitVec 8).toNat)])) .a 0x0001 c0 (pack [(1, (5 : BitVec 8).toNat)]) 0 (went tst 0x0001 c0
      (pack [(1, (5 : BitVec 8).toNat)])) ∧ 4 < (5 : BitVec 8).toNat :=
  ⟨ready_starts _ _ _ _ _ (by decide), by decide⟩

theorem witness_GeneralCommandsComplete_4 :
    Starts (ready tst 0x0002 c0 (pack [(4, (3 : BitVec 32).toNat), (2, (1 : BitVec 16).toNat), (8, (0 : BitVec 64).toNat), (8, (0 : BitVec
      64).toNat)])) .p 0x0002 c0 (pack [(4, (3 : BitVec 32).toNat), (2, (1 : BitVec 16).toNat), (8, (0 : BitVec 64).toNat), (8, (0 :
      BitVec 64).toNat)]) 0 (went tst 0x0002 c0 (pack [(4, (3 : BitVec 32).toNat), (2, (1 : BitVec 16).toNat), (8, (0 : BitVec 64).toNat),
      (8, (0 : BitVec 64).toNat)])) ∧ (some (List.replicate 64 0) : HostRead) = some ((List.replicate 64 0) : List Byte) ∧
      ((List.replicate 64 0) : List Byte).length = 64 ∧ (3 : BitVec 32).toNat < 2 ^ 20 ∧ (went tst 0x0002 c0 (pack [(4, (3 : BitVec
      32).toNat), (2, (1 : BitVec 16).toNat), (8, (0 : BitVec 64).toNat), (8, (0 : BitVec 64).toNat)])).validPid (3 : BitVec 32).toNat =
      true ∧ 1 ≤ (1 : BitVec 16).toNat ∧ (1 : BitVec 16).toNat ≤ 10000 :=
  ⟨ready_starts _ _ _ _ _ (by decide), by decide, by decide, by decide, by decide, by decide, by decide⟩

theorem witness_GeneralCommandsComplete_5 :
    Starts (ready tst 0x0002 c0 (pack [(4, (3 : BitVec 32).toNat), (2, (10001 : BitVec 16).toNat), (8, (0 : BitVec 64).toNat), (8, (0 :
      BitVec 64).toNat)])) .p 0x0002 c0 (pack [(4, (3 : BitVec 32).toNat), (2, (10001 : BitVec 16).toNat), (8, (0 : BitVec 64).toNat), (8,
      (0 : BitVec 64).toNat)]) 0 (went tst 0x0002 c0 (pack [(4, (3 : BitVec 32).toNat), (2, (10001 : BitVec 16).toNat), (8, (0 : BitVec
      64).toNat), (8, (0 : BitVec 64).toNat)])) ∧ (2 ^ 20 ≤ (3 : BitVec 32).toNat ∨ (went tst 0x0002 c0 (pack [(4, (3 : BitVec 32).toNat),
      (2, (10001 : BitVec 16).toNat), (8, (0 : BitVec 64).toNat), (8, (0 : BitVec 64).toNat)])).validPid (3 : BitVec 32).toNat = false ∨
      (10001 : BitVec 16).toNat < 1 ∨ 10000 < (10001 : BitVec 16).toNat) :=
  ⟨ready_starts _ _ _ _ _ (by decide), by decide⟩

theorem witness_GeneralCommandsComplete_6 :
    Starts (ready tst 0x0002 c0 (pack [(4, (3 : BitVec 32).toNat), (2, (10000 : BitVec 16).toNat), (8, (0 : BitVec 64).toNat), (8, (0 :
      BitVec 64).toNat)])) .p 0x0002 c0 (pack [(4, (3 : BitVec 32).toNat), (2, (10000 : BitVec 16).toNat), (8, (0 : BitVec 64).toNat), (8,
      (0 : BitVec 64).toNat)]) 0 (went tst 0x0002 c0 (pack [(4, (3 : BitVec 32).toNat), (2, (10000 : BitVec 16).toNat), (8, (0 : BitVec
      64).toNat), (8, (0 : BitVec 64).toNat)])) ∧ (none : HostRead) = none ∧ (3 : BitVec 32).toNat < 2 ^ 20 ∧ (went tst 0x0002 c0 (pack
      [(4, (3 : BitVec 32).toNat), (2, (10000 : BitVec 16).toNat), (8, (0 : BitVec 64).toNat), (8, (0 : BitVec 64).toNat)])).validPid (3 :
      BitVec 32).toNat = true ∧ 1 ≤ (10000 : BitVec 16).toNat ∧ (10000 : BitVec 16).toNat ≤ 10000 :=
  ⟨ready_starts _ _ _ _ _ (by decide), by decide, by decide, by decide, by decide, by decide⟩

/-! ### PortCommandsComplete -/

theorem witness_PortCommandsComplete_1 :
    Starts (ready tst 0x0100 c0 (pack [(1, (2 : BitVec 8).toNat), (1, (1 : BitVec 8).toNat)])) .d 0x0100 c0 (pack [(1, (2 : BitVec
      8).toNat), (1, (1 : BitVec 8).toNat)]) 0 (went tst 0x0100 c0 (pack [(1, (2 : BitVec 8).toNat), (1, (1 : BitVec 8).toNat)])) ∧
      portParam (2 : BitVec 8).toNat = true ∧ (1 : BitVec 8).toNat ≤ 1 :=
  ⟨ready_starts _ _ _ _ _ (by decide), by decide, by decide⟩

theorem witness_PortCommandsComplete_2 :
    Starts (ready tst 0x0100 c0 (pack [(1, (96 : BitVec 8).toNat), (1, (1 : BitVec 8).toNat)])) .d 0x0100 c0 (pack [(1, (96 : BitVec
      8).toNat), (1, (1 : BitVec 8).toNat)]) 0 (went tst 0x0100 c0 (pack [(1, (96 : BitVec 8).toNat), (1, (1 : BitVec 8).toNat)])) ∧
      (portParam (96 : BitVec 8).toNat = false ∨ 1 < (1 : BitVec 8).toNat) :=
  ⟨ready_starts _ _ _ _ _ (by decide), by decide⟩

theorem witness_PortCommandsComplete_3 :
    Starts (ready tst 0x0101 c0 (pack [(1, (95 : BitVec 8).toNat), (1, (7 : BitVec 8).toNat)])) .d 0x0101 c0 (pack [(1, (95 : BitVec
      8).toNat), (1, (7 : BitVec 8).toNat)]) 0 (went tst 0x0101 c0 (pack [(1, (95 : BitVec 8).toNat), (1, (7 : BitVec 8).toNat)])) ∧
      portParam (95 : BitVec 8).toNat = true ∧ (7 : BitVec 8).toNat ≤ 7 :=
  ⟨ready_starts _ _ _ _ _ (by decide), by decide, by decide⟩

theorem witness_PortCommandsComplete_4 :
    Starts (ready tst 0x0101 c0 (pack [(1, (0 : BitVec 8).toNat), (1, (8 : BitVec 8).toNat)])) .d 0x0101 c0 (pack [(1, (0 : BitVec
      8).toNat), (1, (8 : BitVec 8).toNat)]) 0 (went tst 0x0101 c0 (pack [(1, (0 : BitVec 8).toNat), (1, (8 : BitVec 8).toNat)])) ∧
      (portParam (0 : BitVec 8).toNat = false ∨ 7 < (8 : BitVec 8).toNat) :=
  ⟨ready_starts _ _ _ _ _ (by decide), by decide⟩

theorem witness_PortCommandsComplete_5 :
    Starts (ready tst 0x0102 c0 (pack [(1, (2 : BitVec 8).toNat), (1, (1 : BitVec 8).toNat)])) .d 0x0102 c0 (pack [(1, (2 : BitVec
      8).toNat), (1, (1 : BitVec 8).toNat)]) 0 (went tst 0x0102 c0 (pack [(1, (2 : BitVec 8).toNat), (1, (1 : BitVec 8).toNat)])) ∧
      portParam (2 : BitVec 8).toNat = true ∧ (1 : BitVec 8).toNat ≤ 1 :=
  ⟨ready_starts _ _ _ _ _ (by decide), by decide, by decide⟩

theorem witness_PortCommandsComplete_6 :
    Starts (ready tst 0x0102 c0 (pack [(1, (95 : BitVec 8).toNat), (1, (2 : BitVec 8).toNat)])) .d 0x0102 c0 (pack [(1, (95 : BitVec
      8).toNat), (1, (2 : BitVec 8).toNat)]) 0 (went tst 0x0102 c0 (pack [(1, (95 : BitVec 8).toNat), (1, (2 : BitVec 8).toNat)])) ∧
      (portParam (95 : BitVec 8).toNat = false ∨ 1 < (2 : BitVec 8).toNat) :=
  ⟨ready_starts _ _ _ _ _ (by decide), by decide⟩

theorem witness_PortCommandsComplete_7 :
    Starts (ready tst 0x0103 c0 (pack [(1, (95 : BitVec 8).toNat)])) .d 0x0103 c0 (pack [(1, (95 : BitVec 8).toNat)]) 0 (went tst 0x0103
      c0 (pack [(1, (95 : BitVec 8).toNat)])) ∧ portParam (95 : BitVec 8).toNat = true :=
  ⟨ready_starts _ _ _ _ _ (by decide), by decide⟩

theorem witness_PortCommandsComplete_8 :
    Starts (ready tst 0x0103 c0 (pack [(1, (96 : BitVec 8).toNat)])) .d 0x0103 c0 (pack [(1, (96 : BitVec 8).toNat)]) 0 (went tst 0x0103
      c0 (pack [(1, (96 : BitVec 8).toNat)])) ∧ portParam (96 : BitVec 8).toNat = false :=
  ⟨ready_starts _ _ _ _ _ (by decide), by decide⟩

theorem witness_PortCommandsComplete_9 :
    Starts (ready tst 0x0104 c0 (pack [(1, (95 : BitVec 8).toNat)])) .d 0x0104 c0 (pack [(1, (95 : BitVec 8).toNat)]) 0 (went tst 0x0104
      c0 (pack [(1, (95 : BitVec 8).toNat)])) ∧ portParam (95 : BitVec 8).toNat = true :=
  ⟨ready_starts _ _ _ _ _ (by decide), by decide⟩

theorem witness_PortCommandsComplete_10 :
    Starts (ready tst 0x0104 c0 (pack [(1, (96 : BitVec 8).toNat)])) .d 0x0104 c0 (pack [(1, (96 : BitVec 8).toNat)]) 0 (went tst 0x0104
      c0 (pack [(1, (96 : BitVec 8).toNat)])) ∧ portParam (96 : BitVec 8).toNat = false :=
  ⟨ready_starts _ _ _ _ _ (by decide), by decide⟩

theorem witness_PortCommandsComplete_11 :
    Starts (ready ((tst.wr R.LINK_STATUS_STATE lkDown 95)) 0x0105 c0 (pack [(1, (95 : BitVec 8).toNat)])) .d 0x0105 c0 (pack [(1, (95 :
      BitVec 8).toNat)]) 0 (went ((tst.wr R.LINK_STATUS_STATE lkDown 95)) 0x0105 c0 (pack [(1, (95 : BitVec 8).toNat)])) ∧ portParam (95 :
      BitVec 8).toNat = true ∧ (went ((tst.wr R.LINK_STATUS_STATE lkDown 95)) 0x0105 c0 (pack [(1, (95 : BitVec 8).toNat)])).rd
      R.LINK_STATUS_STATE (95 : BitVec 8).toNat = lkDown :=
  ⟨ready_starts _ _ _ _ _ (by decide), by decide, by decide⟩

theorem witness_PortCommandsComplete_12 :
    Starts (ready ((tst.wr R.LINK_STATUS_STATE lkUp 95)) 0x0105 c0 (pack [(1, (95 : BitVec 8).toNat)])) .d 0x0105 c0 (pack [(1, (95 :
      BitVec 8).toNat)]) 0 (went ((tst.wr R.LINK_STATUS_STATE lkUp 95)) 0x0105 c0 (pack [(1, (95 : BitVec 8).toNat)])) ∧ portParam (95 :
      BitVec 8).toNat = true ∧ (went ((tst.wr R.LINK_STATUS_STATE lkUp 95)) 0x0105 c0 (pack [(1, (95 : BitVec 8).toNat)])).rd
      R.LINK_STATUS_STATE (95 : BitVec 8).toNat ≠ lkDown :=
  ⟨ready_starts _ _ _ _ _ (by decide), by decide, by decide⟩

theorem witness_PortCommandsComplete_13 :
    Starts (ready tst 0x0105 c0 (pack [(1, (96 : BitVec 8).toNat)])) .d 0x0105 c0 (pack [(1, (96 : BitVec 8).toNat)]) 0 (went tst 0x0105
      c0 (pack [(1, (96 : BitVec 8).toNat)])) ∧ portParam (96 : BitVec 8).toNat = false :=
  ⟨ready_starts _ _ _ _ _ (by decide), by decide⟩

theorem witness_PortCommandsComplete_14 :
    Starts (ready tst 0x0106 c0 (pack [(1, (95 : BitVec 8).toNat), (4, (1600000 : BitVec 32).toNat), (4, (16000000 : BitVec 32).toNat)]))
      .d 0x0106 c0 (pack [(1, (95 : BitVec 8).toNat), (4, (1600000 : BitVec 32).toNat), (4, (16000000 : BitVec 32).toNat)]) 0 (went tst
      0x0106 c0 (pack [(1, (95 : BitVec 8).toNat), (4, (1600000 : BitVec 32).toNat), (4, (16000000 : BitVec 32).toNat)])) ∧ portParam (95
      : BitVec 8).toNat = true ∧ R.LINK_TMR_REPLAY_TMR.allows (1600000 : BitVec 32).toNat = true ∧ R.LINK_TMR_XOFF_WDOG.allows (16000000 :
      BitVec 32).toNat = true ∧ (went tst 0x0106 c0 (pack [(1, (95 : BitVec 8).toNat), (4, (1600000 : BitVec 32).toNat), (4, (16000000 :
      BitVec 32).toNat)])).linkRtt (95 : BitVec 8).toNat + 3200 ≤ (1600000 : BitVec 32).toNat :=
  ⟨ready_starts _ _ _ _ _ (by decide), by decide, by decide, by decide, by decide⟩

theorem witness_PortCommandsComplete_15 :
    Starts (ready tst 0x0106 c0 (pack [(1, (255 : BitVec 8).toNat), (4, (1600000 : BitVec 32).toNat), (4, (16000000 : BitVec 32).toNat)]))
      .d 0x0106 c0 (pack [(1, (255 : BitVec 8).toNat), (4, (1600000 : BitVec 32).toNat), (4, (16000000 : BitVec 32).toNat)]) 0 (went tst
      0x0106 c0 (pack [(1, (255 : BitVec 8).toNat), (4, (1600000 : BitVec 32).toNat), (4, (16000000 : BitVec 32).toNat)])) ∧ (255 : BitVec
      8).toNat = 255 ∧ R.LINK_TMR_REPLAY_TMR.allows (1600000 : BitVec 32).toNat = true ∧ R.LINK_TMR_XOFF_WDOG.allows (16000000 : BitVec
      32).toNat = true ∧ ((List.range 96).all (fun p => decide ((went tst 0x0106 c0 (pack [(1, (255 : BitVec 8).toNat), (4, (1600000 :
      BitVec 32).toNat), (4, (16000000 : BitVec 32).toNat)])).linkRtt p + 3200 ≤ (1600000 : BitVec 32).toNat)) = true) :=
  ⟨ready_starts _ _ _ _ _ (by decide), by decide, by decide, by decide, by decide⟩

theorem witness_PortCommandsComplete_16 :
    Starts (ready tst 0x0106 c0 (pack [(1, (96 : BitVec 8).toNat), (4, (1600000 : BitVec 32).toNat), (4, (16000000 : BitVec 32).toNat)]))
      .d 0x0106 c0 (pack [(1, (96 : BitVec 8).toNat), (4, (1600000 : BitVec 32).toNat), (4, (16000000 : BitVec 32).toNat)]) 0 (went tst
      0x0106 c0 (pack [(1, (96 : BitVec 8).toNat), (4, (1600000 : BitVec 32).toNat), (4, (16000000 : BitVec 32).toNat)])) ∧ (¬
      (R.LINK_TMR_REPLAY_TMR.allows (1600000 : BitVec 32).toNat = true ∧ R.LINK_TMR_XOFF_WDOG.allows (16000000 : BitVec 32).toNat = true ∧
      (portParam (96 : BitVec 8).toNat = true ∧ (went tst 0x0106 c0 (pack [(1, (96 : BitVec 8).toNat), (4, (1600000 : BitVec 32).toNat),
      (4, (16000000 : BitVec 32).toNat)])).linkRtt (96 : BitVec 8).toNat + 3200 ≤ (1600000 : BitVec 32).toNat ∨ (96 : BitVec 8).toNat =
      255 ∧ (List.range 96).all (fun p => decide ((went tst 0x0106 c0 (pack [(1, (96 : BitVec 8).toNat), (4, (1600000 : BitVec 32).toNat),
      (4, (16000000 : BitVec 32).toNat)])).linkRtt p + 3200 ≤ (1600000 : BitVec 32).toNat)) = true))) :=
  ⟨ready_starts _ _ _ _ _ (by decide), by decide⟩

theorem witness_PortCommandsComplete_17 :
    Starts (ready tst 0x0107 c0 (pack [(1, (95 : BitVec 8).toNat), (2, (65535 : BitVec 16).toNat)])) .d 0x0107 c0 (pack [(1, (95 : BitVec
      8).toNat), (2, (65535 : BitVec 16).toNat)]) 0 (went tst 0x0107 c0 (pack [(1, (95 : BitVec 8).toNat), (2, (65535 : BitVec
      16).toNat)])) ∧ portParam (95 : BitVec 8).toNat = true :=
  ⟨ready_starts _ _ _ _ _ (by decide), by decide⟩

theorem witness_PortCommandsComplete_18 :
    Starts (ready tst 0x0107 c0 (pack [(1, (96 : BitVec 8).toNat), (2, (0 : BitVec 16).toNat)])) .d 0x0107 c0 (pack [(1, (96 : BitVec
      8).toNat), (2, (0 : BitVec 16).toNat)]) 0 (went tst 0x0107 c0 (pack [(1, (96 : BitVec 8).toNat), (2, (0 : BitVec 16).toNat)])) ∧
      portParam (96 : BitVec 8).toNat = false :=
  ⟨ready_starts _ _ _ _ _ (by decide), by decide⟩

theorem witness_PortCommandsComplete_19 :
    Starts (ready tst 0x0108 c0 (pack [(1, (95 : BitVec 8).toNat)])) .d 0x0108 c0 (pack [(1, (95 : BitVec 8).toNat)]) 0 (went tst 0x0108
      c0 (pack [(1, (95 : BitVec 8).toNat)])) ∧ portParam (95 : BitVec 8).toNat = true :=
  ⟨ready_starts _ _ _ _ _ (by decide), by decide⟩

theorem witness_PortCommandsComplete_20 :
    Starts (ready tst 0x0108 c0 (pack [(1, (96 : BitVec 8).toNat)])) .d 0x0108 c0 (pack [(1, (96 : BitVec 8).toNat)]) 0 (went tst 0x0108
      c0 (pack [(1, (96 : BitVec 8).toNat)])) ∧ portParam (96 : BitVec 8).toNat = false :=
  ⟨ready_starts _ _ _ _ _ (by decide), by decide⟩

theorem witness_PortCommandsComplete_21 :
    Starts (ready tst 0x0109 c0 (pack [(1, (95 : BitVec 8).toNat), (1, (1 : BitVec 8).toNat)])) .d 0x0109 c0 (pack [(1, (95 : BitVec
      8).toNat), (1, (1 : BitVec 8).toNat)]) 0 (went tst 0x0109 c0 (pack [(1, (95 : BitVec 8).toNat), (1, (1 : BitVec 8).toNat)])) ∧
      portParam (95 : BitVec 8).toNat = true ∧ (1 : BitVec 8).toNat ≤ 1 :=
  ⟨ready_starts _ _ _ _ _ (by decide), by decide, by decide⟩

theorem witness_PortCommandsComplete_22 :
    Starts (ready tst 0x0109 c0 (pack [(1, (0 : BitVec 8).toNat), (1, (2 : BitVec 8).toNat)])) .d 0x0109 c0 (pack [(1, (0 : BitVec
      8).toNat), (1, (2 : BitVec 8).toNat)]) 0 (went tst 0x0109 c0 (pack [(1, (0 : BitVec 8).toNat), (1, (2 : BitVec 8).toNat)])) ∧
      (portParam (0 : BitVec 8).toNat = false ∨ 1 < (2 : BitVec 8).toNat) :=
  ⟨ready_starts _ _ _ _ _ (by decide), by decide⟩

/-! ### RoutingCommandsComplete -/

theorem witness_RoutingCommandsComplete_1 :
    Starts (ready tst 0x0200 c0 (pack [(1, (1 : BitVec 8).toNat), (2, (4095 : BitVec 16).toNat), (8, (0 : BitVec 64).toNat)])) .d 0x0200
      c0 (pack [(1, (1 : BitVec 8).toNat), (2, (4095 : BitVec 16).toNat), (8, (0 : BitVec 64).toNat)]) 0 (went tst 0x0200 c0 (pack [(1, (1
      : BitVec 8).toNat), (2, (4095 : BitVec 16).toNat), (8, (0 : BitVec 64).toNat)])) ∧ (1 : BitVec 8).toNat ≤ 1 ∧ (4095 : BitVec
      16).toNat < 4096 ∧ (went tst 0x0200 c0 (pack [(1, (1 : BitVec 8).toNat), (2, (4095 : BitVec 16).toNat), (8, (0 : BitVec
      64).toNat)])).bankLocked (1 : BitVec 8).toNat = false ∧ aliasEntryOk (went tst 0x0200 c0 (pack [(1, (1 : BitVec 8).toNat), (2, (4095
      : BitVec 16).toNat), (8, (0 : BitVec 64).toNat)])).topo (0 : BitVec 64).toNat = true :=
  ⟨ready_starts _ _ _ _ _ (by decide), by decide, by decide, by decide, by decide⟩

theorem witness_RoutingCommandsComplete_2 :
    Starts (ready ((tst.wr R.ROUT_BANK_ARMED 1)) 0x0200 c0 (pack [(1, (1 : BitVec 8).toNat), (2, (4095 : BitVec 16).toNat), (8, (0 :
      BitVec 64).toNat)])) .d 0x0200 c0 (pack [(1, (1 : BitVec 8).toNat), (2, (4095 : BitVec 16).toNat), (8, (0 : BitVec 64).toNat)]) 0
      (went ((tst.wr R.ROUT_BANK_ARMED 1)) 0x0200 c0 (pack [(1, (1 : BitVec 8).toNat), (2, (4095 : BitVec 16).toNat), (8, (0 : BitVec
      64).toNat)])) ∧ (1 : BitVec 8).toNat ≤ 1 ∧ (4095 : BitVec 16).toNat < 4096 ∧ (went ((tst.wr R.ROUT_BANK_ARMED 1)) 0x0200 c0 (pack
      [(1, (1 : BitVec 8).toNat), (2, (4095 : BitVec 16).toNat), (8, (0 : BitVec 64).toNat)])).bankLocked (1 : BitVec 8).toNat = true :=
  ⟨ready_starts _ _ _ _ _ (by decide), by decide, by decide, by decide⟩

theorem witness_RoutingCommandsComplete_3 :
    Starts (ready tst 0x0200 c0 (pack [(1, (1 : BitVec 8).toNat), (2, (4096 : BitVec 16).toNat), (8, (0 : BitVec 64).toNat)])) .d 0x0200
      c0 (pack [(1, (1 : BitVec 8).toNat), (2, (4096 : BitVec 16).toNat), (8, (0 : BitVec 64).toNat)]) 0 (went tst 0x0200 c0 (pack [(1, (1
      : BitVec 8).toNat), (2, (4096 : BitVec 16).toNat), (8, (0 : BitVec 64).toNat)])) ∧ (1 < (1 : BitVec 8).toNat ∨ 4096 ≤ (4096 : BitVec
      16).toNat) :=
  ⟨ready_starts _ _ _ _ _ (by decide), by decide⟩

theorem witness_RoutingCommandsComplete_4 :
    Starts (ready tst 0x0200 c0 (pack [(1, (1 : BitVec 8).toNat), (2, (4095 : BitVec 16).toNat), (8, (0xFFFFFFFFFFFFFFFF : BitVec
      64).toNat)])) .d 0x0200 c0 (pack [(1, (1 : BitVec 8).toNat), (2, (4095 : BitVec 16).toNat), (8, (0xFFFFFFFFFFFFFFFF : BitVec
      64).toNat)]) 0 (went tst 0x0200 c0 (pack [(1, (1 : BitVec 8).toNat), (2, (4095 : BitVec 16).toNat), (8, (0xFFFFFFFFFFFFFFFF : BitVec
      64).toNat)])) ∧ (1 : BitVec 8).toNat ≤ 1 ∧ (4095 : BitVec 16).toNat < 4096 ∧ (went tst 0x0200 c0 (pack [(1, (1 : BitVec 8).toNat),
      (2, (4095 : BitVec 16).toNat), (8, (0xFFFFFFFFFFFFFFFF : BitVec 64).toNat)])).bankLocked (1 : BitVec 8).toNat = false ∧ aliasEntryOk
      (went tst 0x0200 c0 (pack [(1, (1 : BitVec 8).toNat), (2, (4095 : BitVec 16).toNat), (8, (0xFFFFFFFFFFFFFFFF : BitVec
      64).toNat)])).topo (0xFFFFFFFFFFFFFFFF : BitVec 64).toNat = false :=
  ⟨ready_starts _ _ _ _ _ (by decide), by decide, by decide, by decide, by decide⟩

theorem witness_RoutingCommandsComplete_5 :
    Starts (ready tst 0x0201 c0 (pack [(1, (1 : BitVec 8).toNat), (2, (4095 : BitVec 16).toNat), (2, (1 : BitVec 16).toNat), (8, (0 :
      BitVec 64).toNat)])) .p 0x0201 c0 (pack [(1, (1 : BitVec 8).toNat), (2, (4095 : BitVec 16).toNat), (2, (1 : BitVec 16).toNat), (8,
      (0 : BitVec 64).toNat)]) 0 (went tst 0x0201 c0 (pack [(1, (1 : BitVec 8).toNat), (2, (4095 : BitVec 16).toNat), (2, (1 : BitVec
      16).toNat), (8, (0 : BitVec 64).toNat)])) ∧ (1 : BitVec 8).toNat ≤ 1 ∧ (4095 : BitVec 16).toNat + (1 : BitVec 16).toNat ≤ 4096 ∧ 0 <
      (1 : BitVec 16).toNat ∧ (went tst 0x0201 c0 (pack [(1, (1 : BitVec 8).toNat), (2, (4095 : BitVec 16).toNat), (2, (1 : BitVec
      16).toNat), (8, (0 : BitVec 64).toNat)])).bankLocked (1 : BitVec 8).toNat = false ∧ (some (List.replicate 8 0) : HostRead) = some
      ((List.replicate 8 0) : List Byte) ∧ ((List.replicate 8 0) : List Byte).length = 8 * (1 : BitVec 16).toNat ∧ (words8 (1 : BitVec
      16).toNat ((List.replicate 8 0) : List Byte)).all (aliasEntryOk ((went tst 0x0201 c0 (pack [(1, (1 : BitVec 8).toNat), (2, (4095 :
      BitVec 16).toNat), (2, (1 : BitVec 16).toNat), (8, (0 : BitVec 64).toNat)])).hostRead (cmdReq c0 (0 : BitVec 64).toNat) (8 * (1 :
      BitVec 16).toNat) : State).topo) = true :=
  ⟨ready_starts _ _ _ _ _ (by decide), by decide, by decide, by decide, by decide, by decide, by decide, by decide⟩

theorem witness_RoutingCommandsComplete_6 :
    Starts (ready tst 0x0201 c0 (pack [(1, (1 : BitVec 8).toNat), (2, (4096 : BitVec 16).toNat), (2, (0 : BitVec 16).toNat), (8, (0 :
      BitVec 64).toNat)])) .p 0x0201 c0 (pack [(1, (1 : BitVec 8).toNat), (2, (4096 : BitVec 16).toNat), (2, (0 : BitVec 16).toNat), (8,
      (0 : BitVec 64).toNat)]) 0 (went tst 0x0201 c0 (pack [(1, (1 : BitVec 8).toNat), (2, (4096 : BitVec 16).toNat), (2, (0 : BitVec
      16).toNat), (8, (0 : BitVec 64).toNat)])) ∧ (1 : BitVec 8).toNat ≤ 1 ∧ (4096 : BitVec 16).toNat ≤ 4096 ∧ (0 : BitVec 16).toNat = 0
      :=
  ⟨ready_starts _ _ _ _ _ (by decide), by decide, by decide, by decide⟩

theorem witness_RoutingCommandsComplete_7 :
    Starts (ready tst 0x0201 c0 (pack [(1, (1 : BitVec 8).toNat), (2, (4095 : BitVec 16).toNat), (2, (2 : BitVec 16).toNat), (8, (0 :
      BitVec 64).toNat)])) .p 0x0201 c0 (pack [(1, (1 : BitVec 8).toNat), (2, (4095 : BitVec 16).toNat), (2, (2 : BitVec 16).toNat), (8,
      (0 : BitVec 64).toNat)]) 0 (went tst 0x0201 c0 (pack [(1, (1 : BitVec 8).toNat), (2, (4095 : BitVec 16).toNat), (2, (2 : BitVec
      16).toNat), (8, (0 : BitVec 64).toNat)])) ∧ (1 < (1 : BitVec 8).toNat ∨ 4096 < (4095 : BitVec 16).toNat + (2 : BitVec 16).toNat) :=
  ⟨ready_starts _ _ _ _ _ (by decide), by decide⟩

theorem witness_RoutingCommandsComplete_8 :
    Starts (ready ((tst.wr R.ROUT_BANK_ARMED 1)) 0x0201 c0 (pack [(1, (1 : BitVec 8).toNat), (2, (4095 : BitVec 16).toNat), (2, (1 :
      BitVec 16).toNat), (8, (0 : BitVec 64).toNat)])) .p 0x0201 c0 (pack [(1, (1 : BitVec 8).toNat), (2, (4095 : BitVec 16).toNat), (2,
      (1 : BitVec 16).toNat), (8, (0 : BitVec 64).toNat)]) 0 (went ((tst.wr R.ROUT_BANK_ARMED 1)) 0x0201 c0 (pack [(1, (1 : BitVec
      8).toNat), (2, (4095 : BitVec 16).toNat), (2, (1 : BitVec 16).toNat), (8, (0 : BitVec 64).toNat)])) ∧ (1 : BitVec 8).toNat ≤ 1 ∧
      (4095 : BitVec 16).toNat + (1 : BitVec 16).toNat ≤ 4096 ∧ 0 < (1 : BitVec 16).toNat ∧ (went ((tst.wr R.ROUT_BANK_ARMED 1)) 0x0201 c0
      (pack [(1, (1 : BitVec 8).toNat), (2, (4095 : BitVec 16).toNat), (2, (1 : BitVec 16).toNat), (8, (0 : BitVec
      64).toNat)])).bankLocked (1 : BitVec 8).toNat = true :=
  ⟨ready_starts _ _ _ _ _ (by decide), by decide, by decide, by decide, by decide⟩

theorem witness_RoutingCommandsComplete_9 :
    Starts (ready tst 0x0201 c0 (pack [(1, (1 : BitVec 8).toNat), (2, (4095 : BitVec 16).toNat), (2, (1 : BitVec 16).toNat), (8, (0 :
      BitVec 64).toNat)])) .p 0x0201 c0 (pack [(1, (1 : BitVec 8).toNat), (2, (4095 : BitVec 16).toNat), (2, (1 : BitVec 16).toNat), (8,
      (0 : BitVec 64).toNat)]) 0 (went tst 0x0201 c0 (pack [(1, (1 : BitVec 8).toNat), (2, (4095 : BitVec 16).toNat), (2, (1 : BitVec
      16).toNat), (8, (0 : BitVec 64).toNat)])) ∧ (1 : BitVec 8).toNat ≤ 1 ∧ (4095 : BitVec 16).toNat + (1 : BitVec 16).toNat ≤ 4096 ∧ 0 <
      (1 : BitVec 16).toNat ∧ (went tst 0x0201 c0 (pack [(1, (1 : BitVec 8).toNat), (2, (4095 : BitVec 16).toNat), (2, (1 : BitVec
      16).toNat), (8, (0 : BitVec 64).toNat)])).bankLocked (1 : BitVec 8).toNat = false ∧ (none : HostRead) = none :=
  ⟨ready_starts _ _ _ _ _ (by decide), by decide, by decide, by decide, by decide, by decide⟩

theorem witness_RoutingCommandsComplete_10 :
    Starts (ready tst 0x0201 c0 (pack [(1, (1 : BitVec 8).toNat), (2, (4095 : BitVec 16).toNat), (2, (1 : BitVec 16).toNat), (8, (0 :
      BitVec 64).toNat)])) .p 0x0201 c0 (pack [(1, (1 : BitVec 8).toNat), (2, (4095 : BitVec 16).toNat), (2, (1 : BitVec 16).toNat), (8,
      (0 : BitVec 64).toNat)]) 0 (went tst 0x0201 c0 (pack [(1, (1 : BitVec 8).toNat), (2, (4095 : BitVec 16).toNat), (2, (1 : BitVec
      16).toNat), (8, (0 : BitVec 64).toNat)])) ∧ (1 : BitVec 8).toNat ≤ 1 ∧ (4095 : BitVec 16).toNat + (1 : BitVec 16).toNat ≤ 4096 ∧ 0 <
      (1 : BitVec 16).toNat ∧ (went tst 0x0201 c0 (pack [(1, (1 : BitVec 8).toNat), (2, (4095 : BitVec 16).toNat), (2, (1 : BitVec
      16).toNat), (8, (0 : BitVec 64).toNat)])).bankLocked (1 : BitVec 8).toNat = false ∧ (some (List.replicate 8 255) : HostRead) = some
      ((List.replicate 8 255) : List Byte) ∧ ((List.replicate 8 255) : List Byte).length = 8 * (1 : BitVec 16).toNat ∧ (words8 (1 : BitVec
      16).toNat ((List.replicate 8 255) : List Byte)).all (aliasEntryOk ((went tst 0x0201 c0 (pack [(1, (1 : BitVec 8).toNat), (2, (4095 :
      BitVec 16).toNat), (2, (1 : BitVec 16).toNat), (8, (0 : BitVec 64).toNat)])).hostRead (cmdReq c0 (0 : BitVec 64).toNat) (8 * (1 :
      BitVec 16).toNat) : State).topo) = false :=
  ⟨ready_starts _ _ _ _ _ (by decide), by decide, by decide, by decide, by decide, by decide, by decide, by decide⟩

theorem witness_RoutingCommandsComplete_11 :
    Starts (ready tst 0x0202 c0 (pack [(1, (1 : BitVec 8).toNat), (8, (0 : BitVec 64).toNat), (4, (0 : BitVec 32).toNat)])) .d 0x0202 c0
      (pack [(1, (1 : BitVec 8).toNat), (8, (0 : BitVec 64).toNat), (4, (0 : BitVec 32).toNat)]) 0 (went tst 0x0202 c0 (pack [(1, (1 :
      BitVec 8).toNat), (8, (0 : BitVec 64).toNat), (4, (0 : BitVec 32).toNat)])) ∧ (1 : BitVec 8).toNat ≤ 1 ∧ (went tst 0x0202 c0 (pack
      [(1, (1 : BitVec 8).toNat), (8, (0 : BitVec 64).toNat), (4, (0 : BitVec 32).toNat)])).bankLocked (1 : BitVec 8).toNat = false :=
  ⟨ready_starts _ _ _ _ _ (by decide), by decide, by decide⟩

theorem witness_RoutingCommandsComplete_12 :
    Starts (ready tst 0x0202 c0 (pack [(1, (2 : BitVec 8).toNat), (8, (0 : BitVec 64).toNat), (4, (0 : BitVec 32).toNat)])) .d 0x0202 c0
      (pack [(1, (2 : BitVec 8).toNat), (8, (0 : BitVec 64).toNat), (4, (0 : BitVec 32).toNat)]) 0 (went tst 0x0202 c0 (pack [(1, (2 :
      BitVec 8).toNat), (8, (0 : BitVec 64).toNat), (4, (0 : BitVec 32).toNat)])) ∧ 1 < (2 : BitVec 8).toNat :=
  ⟨ready_starts _ _ _ _ _ (by decide), by decide⟩

theorem witness_RoutingCommandsComplete_13 :
    Starts (ready ((tst.wr R.ROUT_BANK_ARMED 1)) 0x0202 c0 (pack [(1, (1 : BitVec 8).toNat), (8, (0 : BitVec 64).toNat), (4, (0 : BitVec
      32).toNat)])) .d 0x0202 c0 (pack [(1, (1 : BitVec 8).toNat), (8, (0 : BitVec 64).toNat), (4, (0 : BitVec 32).toNat)]) 0 (went
      ((tst.wr R.ROUT_BANK_ARMED 1)) 0x0202 c0 (pack [(1, (1 : BitVec 8).toNat), (8, (0 : BitVec 64).toNat), (4, (0 : BitVec 32).toNat)]))
      ∧ (1 : BitVec 8).toNat ≤ 1 ∧ (went ((tst.wr R.ROUT_BANK_ARMED 1)) 0x0202 c0 (pack [(1, (1 : BitVec 8).toNat), (8, (0 : BitVec
      64).toNat), (4, (0 : BitVec 32).toNat)])).bankLocked (1 : BitVec 8).toNat = true :=
  ⟨ready_starts _ _ _ _ _ (by decide), by decide, by decide⟩

theorem witness_RoutingCommandsComplete_14 :
    Starts (ready (locked tst) 0x0203 c0 (pack [(8, (1600000 : BitVec 64).toNat), (2, (1 : BitVec 16).toNat), (1, (3 : BitVec 8).toNat)]))
      .d 0x0203 c0 (pack [(8, (1600000 : BitVec 64).toNat), (2, (1 : BitVec 16).toNat), (1, (3 : BitVec 8).toNat)]) 0 (went (locked tst)
      0x0203 c0 (pack [(8, (1600000 : BitVec 64).toNat), (2, (1 : BitVec 16).toNat), (1, (3 : BitVec 8).toNat)])) ∧ (3 : BitVec 8).toNat ≤
      3 ∧ (went (locked tst) 0x0203 c0 (pack [(8, (1600000 : BitVec 64).toNat), (2, (1 : BitVec 16).toNat), (1, (3 : BitVec
      8).toNat)])).gt + 1600000 ≤ (1600000 : BitVec 64).toNat ∧ (1600000 : BitVec 64).toNat ≤ (went (locked tst) 0x0203 c0 (pack [(8,
      (1600000 : BitVec 64).toNat), (2, (1 : BitVec 16).toNat), (1, (3 : BitVec 8).toNat)])).gt + 160000000000 ∧ (went (locked tst) 0x0203
      c0 (pack [(8, (1600000 : BitVec 64).toNat), (2, (1 : BitVec 16).toNat), (1, (3 : BitVec 8).toNat)])).bankValid (1 - (went (locked
      tst) 0x0203 c0 (pack [(8, (1600000 : BitVec 64).toNat), (2, (1 : BitVec 16).toNat), (1, (3 : BitVec 8).toNat)])).activeBank) = true
      ∧ (1 : BitVec 16).toNat = ((went (locked tst) 0x0203 c0 (pack [(8, (1600000 : BitVec 64).toNat), (2, (1 : BitVec 16).toNat), (1, (3
      : BitVec 8).toNat)])).rd R.ROUT_BANK_LAST_ID + 1) % 65536 ∧ (went (locked tst) 0x0203 c0 (pack [(8, (1600000 : BitVec 64).toNat),
      (2, (1 : BitVec 16).toNat), (1, (3 : BitVec 8).toNat)])).on R.ROUT_BANK_ARMED = false ∧ (went (locked tst) 0x0203 c0 (pack [(8,
      (1600000 : BitVec 64).toNat), (2, (1 : BitVec 16).toNat), (1, (3 : BitVec 8).toNat)])).on R.ROUT_BANK_HOLDING = false ∧ (went
      (locked tst) 0x0203 c0 (pack [(8, (1600000 : BitVec 64).toNat), (2, (1 : BitVec 16).toNat), (1, (3 : BitVec 8).toNat)])).geysState ≠
      gsEstimated ∧ (went (locked tst) 0x0203 c0 (pack [(8, (1600000 : BitVec 64).toNat), (2, (1 : BitVec 16).toNat), (1, (3 : BitVec
      8).toNat)])).geysState ≠ gsInvalid :=
  ⟨ready_starts _ _ _ _ _ (by decide), by decide, by decide, by decide, by decide, by decide, by decide, by decide, by decide, by decide⟩

theorem witness_RoutingCommandsComplete_15 :
    Starts (ready (locked tst) 0x0203 c0 (pack [(8, (1599999 : BitVec 64).toNat), (2, (1 : BitVec 16).toNat), (1, (3 : BitVec 8).toNat)]))
      .d 0x0203 c0 (pack [(8, (1599999 : BitVec 64).toNat), (2, (1 : BitVec 16).toNat), (1, (3 : BitVec 8).toNat)]) 0 (went (locked tst)
      0x0203 c0 (pack [(8, (1599999 : BitVec 64).toNat), (2, (1 : BitVec 16).toNat), (1, (3 : BitVec 8).toNat)])) ∧ (¬ ((3 : BitVec
      8).toNat ≤ 3 ∧ (went (locked tst) 0x0203 c0 (pack [(8, (1599999 : BitVec 64).toNat), (2, (1 : BitVec 16).toNat), (1, (3 : BitVec
      8).toNat)])).gt + 1600000 ≤ (1599999 : BitVec 64).toNat ∧ (1599999 : BitVec 64).toNat ≤ (went (locked tst) 0x0203 c0 (pack [(8,
      (1599999 : BitVec 64).toNat), (2, (1 : BitVec 16).toNat), (1, (3 : BitVec 8).toNat)])).gt + 160000000000 ∧ (went (locked tst) 0x0203
      c0 (pack [(8, (1599999 : BitVec 64).toNat), (2, (1 : BitVec 16).toNat), (1, (3 : BitVec 8).toNat)])).bankValid (1 - (went (locked
      tst) 0x0203 c0 (pack [(8, (1599999 : BitVec 64).toNat), (2, (1 : BitVec 16).toNat), (1, (3 : BitVec 8).toNat)])).activeBank) = true
      ∧ (1 : BitVec 16).toNat = ((went (locked tst) 0x0203 c0 (pack [(8, (1599999 : BitVec 64).toNat), (2, (1 : BitVec 16).toNat), (1, (3
      : BitVec 8).toNat)])).rd R.ROUT_BANK_LAST_ID + 1) % 65536)) :=
  ⟨ready_starts _ _ _ _ _ (by decide), by decide⟩

theorem witness_RoutingCommandsComplete_16 :
    Starts (ready ((locked tst).wr R.ROUT_BANK_HOLDING 1) 0x0203 c0 (pack [(8, (1600000 : BitVec 64).toNat), (2, (1 : BitVec 16).toNat),
      (1, (3 : BitVec 8).toNat)])) .d 0x0203 c0 (pack [(8, (1600000 : BitVec 64).toNat), (2, (1 : BitVec 16).toNat), (1, (3 : BitVec
      8).toNat)]) 0 (went ((locked tst).wr R.ROUT_BANK_HOLDING 1) 0x0203 c0 (pack [(8, (1600000 : BitVec 64).toNat), (2, (1 : BitVec
      16).toNat), (1, (3 : BitVec 8).toNat)])) ∧ (3 : BitVec 8).toNat ≤ 3 ∧ (went ((locked tst).wr R.ROUT_BANK_HOLDING 1) 0x0203 c0 (pack
      [(8, (1600000 : BitVec 64).toNat), (2, (1 : BitVec 16).toNat), (1, (3 : BitVec 8).toNat)])).gt + 1600000 ≤ (1600000 : BitVec
      64).toNat ∧ (1600000 : BitVec 64).toNat ≤ (went ((locked tst).wr R.ROUT_BANK_HOLDING 1) 0x0203 c0 (pack [(8, (1600000 : BitVec
      64).toNat), (2, (1 : BitVec 16).toNat), (1, (3 : BitVec 8).toNat)])).gt + 160000000000 ∧ (went ((locked tst).wr R.ROUT_BANK_HOLDING
      1) 0x0203 c0 (pack [(8, (1600000 : BitVec 64).toNat), (2, (1 : BitVec 16).toNat), (1, (3 : BitVec 8).toNat)])).bankValid (1 - (went
      ((locked tst).wr R.ROUT_BANK_HOLDING 1) 0x0203 c0 (pack [(8, (1600000 : BitVec 64).toNat), (2, (1 : BitVec 16).toNat), (1, (3 :
      BitVec 8).toNat)])).activeBank) = true ∧ (1 : BitVec 16).toNat = ((went ((locked tst).wr R.ROUT_BANK_HOLDING 1) 0x0203 c0 (pack [(8,
      (1600000 : BitVec 64).toNat), (2, (1 : BitVec 16).toNat), (1, (3 : BitVec 8).toNat)])).rd R.ROUT_BANK_LAST_ID + 1) % 65536 ∧ ((went
      ((locked tst).wr R.ROUT_BANK_HOLDING 1) 0x0203 c0 (pack [(8, (1600000 : BitVec 64).toNat), (2, (1 : BitVec 16).toNat), (1, (3 :
      BitVec 8).toNat)])).on R.ROUT_BANK_ARMED = true ∨ (went ((locked tst).wr R.ROUT_BANK_HOLDING 1) 0x0203 c0 (pack [(8, (1600000 :
      BitVec 64).toNat), (2, (1 : BitVec 16).toNat), (1, (3 : BitVec 8).toNat)])).on R.ROUT_BANK_HOLDING = true) :=
  ⟨ready_starts _ _ _ _ _ (by decide), by decide, by decide, by decide, by decide, by decide, by decide⟩

theorem witness_RoutingCommandsComplete_17 :
    Starts (ready ((tst.wr R.GEYS_STATUS_STATE gsEstimated)) 0x0203 c0 (pack [(8, (1600000 : BitVec 64).toNat), (2, (1 : BitVec
      16).toNat), (1, (3 : BitVec 8).toNat)])) .d 0x0203 c0 (pack [(8, (1600000 : BitVec 64).toNat), (2, (1 : BitVec 16).toNat), (1, (3 :
      BitVec 8).toNat)]) 0 (went ((tst.wr R.GEYS_STATUS_STATE gsEstimated)) 0x0203 c0 (pack [(8, (1600000 : BitVec 64).toNat), (2, (1 :
      BitVec 16).toNat), (1, (3 : BitVec 8).toNat)])) ∧ (3 : BitVec 8).toNat ≤ 3 ∧ (went ((tst.wr R.GEYS_STATUS_STATE gsEstimated)) 0x0203
      c0 (pack [(8, (1600000 : BitVec 64).toNat), (2, (1 : BitVec 16).toNat), (1, (3 : BitVec 8).toNat)])).gt + 1600000 ≤ (1600000 :
      BitVec 64).toNat ∧ (1600000 : BitVec 64).toNat ≤ (went ((tst.wr R.GEYS_STATUS_STATE gsEstimated)) 0x0203 c0 (pack [(8, (1600000 :
      BitVec 64).toNat), (2, (1 : BitVec 16).toNat), (1, (3 : BitVec 8).toNat)])).gt + 160000000000 ∧ (went ((tst.wr R.GEYS_STATUS_STATE
      gsEstimated)) 0x0203 c0 (pack [(8, (1600000 : BitVec 64).toNat), (2, (1 : BitVec 16).toNat), (1, (3 : BitVec 8).toNat)])).bankValid
      (1 - (went ((tst.wr R.GEYS_STATUS_STATE gsEstimated)) 0x0203 c0 (pack [(8, (1600000 : BitVec 64).toNat), (2, (1 : BitVec 16).toNat),
      (1, (3 : BitVec 8).toNat)])).activeBank) = true ∧ (1 : BitVec 16).toNat = ((went ((tst.wr R.GEYS_STATUS_STATE gsEstimated)) 0x0203
      c0 (pack [(8, (1600000 : BitVec 64).toNat), (2, (1 : BitVec 16).toNat), (1, (3 : BitVec 8).toNat)])).rd R.ROUT_BANK_LAST_ID + 1) %
      65536 ∧ (went ((tst.wr R.GEYS_STATUS_STATE gsEstimated)) 0x0203 c0 (pack [(8, (1600000 : BitVec 64).toNat), (2, (1 : BitVec
      16).toNat), (1, (3 : BitVec 8).toNat)])).on R.ROUT_BANK_ARMED = false ∧ (went ((tst.wr R.GEYS_STATUS_STATE gsEstimated)) 0x0203 c0
      (pack [(8, (1600000 : BitVec 64).toNat), (2, (1 : BitVec 16).toNat), (1, (3 : BitVec 8).toNat)])).on R.ROUT_BANK_HOLDING = false ∧
      ((went ((tst.wr R.GEYS_STATUS_STATE gsEstimated)) 0x0203 c0 (pack [(8, (1600000 : BitVec 64).toNat), (2, (1 : BitVec 16).toNat), (1,
      (3 : BitVec 8).toNat)])).geysState = gsEstimated ∨ (went ((tst.wr R.GEYS_STATUS_STATE gsEstimated)) 0x0203 c0 (pack [(8, (1600000 :
      BitVec 64).toNat), (2, (1 : BitVec 16).toNat), (1, (3 : BitVec 8).toNat)])).geysState = gsInvalid) :=
  ⟨ready_starts _ _ _ _ _ (by decide), by decide, by decide, by decide, by decide, by decide, by decide, by decide, by decide⟩

theorem witness_RoutingCommandsComplete_18 :
    Starts (ready tst 0x0204 c0 (pack [(1, (1 : BitVec 8).toNat)])) .d 0x0204 c0 (pack [(1, (1 : BitVec 8).toNat)]) 0 (went tst 0x0204 c0
      (pack [(1, (1 : BitVec 8).toNat)])) ∧ (1 : BitVec 8).toNat ≤ 1 :=
  ⟨ready_starts _ _ _ _ _ (by decide), by decide⟩

theorem witness_RoutingCommandsComplete_19 :
    Starts (ready tst 0x0204 c0 (pack [(1, (2 : BitVec 8).toNat)])) .d 0x0204 c0 (pack [(1, (2 : BitVec 8).toNat)]) 0 (went tst 0x0204 c0
      (pack [(1, (2 : BitVec 8).toNat)])) ∧ 1 < (2 : BitVec 8).toNat :=
  ⟨ready_starts _ _ _ _ _ (by decide), by decide⟩

theorem witness_RoutingCommandsComplete_20 :
    Starts (ready tst 0x0205 c0 (pack [(8, (0x01010104 : BitVec 64).toNat)])) .d 0x0205 c0 (pack [(8, (0x01010104 : BitVec 64).toNat)]) 0
      (went tst 0x0205 c0 (pack [(8, (0x01010104 : BitVec 64).toNat)])) ∧ topoValid (0x01010104 : BitVec 64).toNat = true ∧ (went tst
      0x0205 c0 (pack [(8, (0x01010104 : BitVec 64).toNat)])).bootBusy = false ∧ (true : Bool) = true :=
  ⟨ready_starts _ _ _ _ _ (by decide), by decide, by decide, by decide⟩

theorem witness_RoutingCommandsComplete_21 :
    Starts (ready tst 0x0205 c0 (pack [(8, (0 : BitVec 64).toNat)])) .d 0x0205 c0 (pack [(8, (0 : BitVec 64).toNat)]) 0 (went tst 0x0205
      c0 (pack [(8, (0 : BitVec 64).toNat)])) ∧ topoValid (0 : BitVec 64).toNat = false :=
  ⟨ready_starts _ _ _ _ _ (by decide), by decide⟩

theorem witness_RoutingCommandsComplete_22 :
    Starts (ready ({ tst with aon := { tst.aon with bootAt := 1 } }) 0x0205 c0 (pack [(8, (0x01010104 : BitVec 64).toNat)])) .d 0x0205 c0
      (pack [(8, (0x01010104 : BitVec 64).toNat)]) 0 (went ({ tst with aon := { tst.aon with bootAt := 1 } }) 0x0205 c0 (pack [(8,
      (0x01010104 : BitVec 64).toNat)])) ∧ topoValid (0x01010104 : BitVec 64).toNat = true ∧ (went ({ tst with aon := { tst.aon with bootAt := 1 } })
      0x0205 c0 (pack [(8, (0x01010104 : BitVec 64).toNat)])).bootBusy = true :=
  ⟨ready_starts _ _ _ _ _ (by decide), by decide, by decide⟩

theorem witness_RoutingCommandsComplete_23 :
    Starts (ready tst 0x0205 c0 (pack [(8, (0x01010104 : BitVec 64).toNat)])) .d 0x0205 c0 (pack [(8, (0x01010104 : BitVec 64).toNat)]) 0
      (went tst 0x0205 c0 (pack [(8, (0x01010104 : BitVec 64).toNat)])) ∧ topoValid (0x01010104 : BitVec 64).toNat = true ∧ (went tst
      0x0205 c0 (pack [(8, (0x01010104 : BitVec 64).toNat)])).bootBusy = false ∧ (false : Bool) = false :=
  ⟨ready_starts _ _ _ _ _ (by decide), by decide, by decide, by decide⟩

theorem witness_RoutingCommandsComplete_24 :
    Starts (ready tst 0x0206 c0 (pack [(2, (1023 : BitVec 16).toNat), (1, (255 : BitVec 8).toNat), (1, (255 : BitVec 8).toNat)])) .d
      0x0206 c0 (pack [(2, (1023 : BitVec 16).toNat), (1, (255 : BitVec 8).toNat), (1, (255 : BitVec 8).toNat)]) 0 (went tst 0x0206 c0
      (pack [(2, (1023 : BitVec 16).toNat), (1, (255 : BitVec 8).toNat), (1, (255 : BitVec 8).toNat)])) ∧ R.ROUT_COST_MARK_THR.allows
      (1023 : BitVec 16).toNat = true :=
  ⟨ready_starts _ _ _ _ _ (by decide), by decide⟩

theorem witness_RoutingCommandsComplete_25 :
    Starts (ready tst 0x0206 c0 (pack [(2, (1024 : BitVec 16).toNat), (1, (255 : BitVec 8).toNat), (1, (255 : BitVec 8).toNat)])) .d
      0x0206 c0 (pack [(2, (1024 : BitVec 16).toNat), (1, (255 : BitVec 8).toNat), (1, (255 : BitVec 8).toNat)]) 0 (went tst 0x0206 c0
      (pack [(2, (1024 : BitVec 16).toNat), (1, (255 : BitVec 8).toNat), (1, (255 : BitVec 8).toNat)])) ∧ R.ROUT_COST_MARK_THR.allows
      (1024 : BitVec 16).toNat = false :=
  ⟨ready_starts _ _ _ _ _ (by decide), by decide⟩

theorem witness_RoutingCommandsComplete_26 :
    Starts (ready tst 0x0207 c0 (pack [(1, (64 : BitVec 8).toNat), (1, (4 : BitVec 8).toNat), (1, (128 : BitVec 8).toNat), (1, (255 :
      BitVec 8).toNat), (2, (1023 : BitVec 16).toNat), (1, (31 : BitVec 8).toNat), (1, (1 : BitVec 8).toNat)])) .d 0x0207 c0 (pack [(1,
      (64 : BitVec 8).toNat), (1, (4 : BitVec 8).toNat), (1, (128 : BitVec 8).toNat), (1, (255 : BitVec 8).toNat), (2, (1023 : BitVec
      16).toNat), (1, (31 : BitVec 8).toNat), (1, (1 : BitVec 8).toNat)]) 0 (went tst 0x0207 c0 (pack [(1, (64 : BitVec 8).toNat), (1, (4
      : BitVec 8).toNat), (1, (128 : BitVec 8).toNat), (1, (255 : BitVec 8).toNat), (2, (1023 : BitVec 16).toNat), (1, (31 : BitVec
      8).toNat), (1, (1 : BitVec 8).toNat)])) ∧ (([(R.ROUT_THR_AI_STEP, (64 : BitVec 8).toNat), (R.ROUT_THR_MD_SHIFT, (4 : BitVec
      8).toNat), (R.ROUT_THR_RATE_MIN, (128 : BitVec 8).toNat), (R.ROUT_THR_AI_PKTS, (255 : BitVec 8).toNat), (R.ROUT_THR_LQ_THR, (1023 :
      BitVec 16).toNat), (R.ROUT_THR_MARK_EVERY, (31 : BitVec 8).toNat), (R.ROUT_THR_THR_EN, (1 : BitVec 8).toNat)].all fun x =>
      x.1.allows x.2) = true) :=
  ⟨ready_starts _ _ _ _ _ (by decide), by decide⟩

theorem witness_RoutingCommandsComplete_27 :
    Starts (ready tst 0x0207 c0 (pack [(1, (64 : BitVec 8).toNat), (1, (4 : BitVec 8).toNat), (1, (128 : BitVec 8).toNat), (1, (255 :
      BitVec 8).toNat), (2, (1023 : BitVec 16).toNat), (1, (31 : BitVec 8).toNat), (1, (2 : BitVec 8).toNat)])) .d 0x0207 c0 (pack [(1,
      (64 : BitVec 8).toNat), (1, (4 : BitVec 8).toNat), (1, (128 : BitVec 8).toNat), (1, (255 : BitVec 8).toNat), (2, (1023 : BitVec
      16).toNat), (1, (31 : BitVec 8).toNat), (1, (2 : BitVec 8).toNat)]) 0 (went tst 0x0207 c0 (pack [(1, (64 : BitVec 8).toNat), (1, (4
      : BitVec 8).toNat), (1, (128 : BitVec 8).toNat), (1, (255 : BitVec 8).toNat), (2, (1023 : BitVec 16).toNat), (1, (31 : BitVec
      8).toNat), (1, (2 : BitVec 8).toNat)])) ∧ (([(R.ROUT_THR_AI_STEP, (64 : BitVec 8).toNat), (R.ROUT_THR_MD_SHIFT, (4 : BitVec
      8).toNat), (R.ROUT_THR_RATE_MIN, (128 : BitVec 8).toNat), (R.ROUT_THR_AI_PKTS, (255 : BitVec 8).toNat), (R.ROUT_THR_LQ_THR, (1023 :
      BitVec 16).toNat), (R.ROUT_THR_MARK_EVERY, (31 : BitVec 8).toNat), (R.ROUT_THR_THR_EN, (2 : BitVec 8).toNat)].all fun x =>
      x.1.allows x.2) = false) :=
  ⟨ready_starts _ _ _ _ _ (by decide), by decide⟩

theorem witness_RoutingCommandsComplete_28 :
    Starts (ready tst 0x0208 c0 []) .d 0x0208 c0 [] 0 (went tst 0x0208 c0 []) :=
  ready_starts _ _ _ _ _ (by decide)

theorem witness_RoutingCommandsComplete_29 :
    Starts (ready tst 0x0209 c0 (pack [(1, (3 : BitVec 8).toNat), (8, (0 : BitVec 64).toNat)])) .p 0x0209 c0 (pack [(1, (3 : BitVec
      8).toNat), (8, (0 : BitVec 64).toNat)]) 0 (went tst 0x0209 c0 (pack [(1, (3 : BitVec 8).toNat), (8, (0 : BitVec 64).toNat)])) ∧ (3 :
      BitVec 8).toNat ≤ 3 :=
  ⟨ready_starts _ _ _ _ _ (by decide), by decide⟩

theorem witness_RoutingCommandsComplete_30 :
    Starts (ready tst 0x0209 c0 (pack [(1, (4 : BitVec 8).toNat), (8, (0 : BitVec 64).toNat)])) .p 0x0209 c0 (pack [(1, (4 : BitVec
      8).toNat), (8, (0 : BitVec 64).toNat)]) 0 (went tst 0x0209 c0 (pack [(1, (4 : BitVec 8).toNat), (8, (0 : BitVec 64).toNat)])) ∧ 3 <
      (4 : BitVec 8).toNat :=
  ⟨ready_starts _ _ _ _ _ (by decide), by decide⟩

theorem witness_RoutingCommandsComplete_31 :
    Starts (ready tst 0x020A c0 (pack [(8, (0 : BitVec 64).toNat)])) .p 0x020A c0 (pack [(8, (0 : BitVec 64).toNat)]) 0 (went tst 0x020A
      c0 (pack [(8, (0 : BitVec 64).toNat)])) :=
  ready_starts _ _ _ _ _ (by decide)

theorem witness_RoutingCommandsComplete_32 :
    Starts (ready tst 0x020B c0 (pack [(1, (1 : BitVec 8).toNat), (8, (0 : BitVec 64).toNat)])) .p 0x020B c0 (pack [(1, (1 : BitVec
      8).toNat), (8, (0 : BitVec 64).toNat)]) 0 (went tst 0x020B c0 (pack [(1, (1 : BitVec 8).toNat), (8, (0 : BitVec 64).toNat)])) ∧ (1 :
      BitVec 8).toNat ≤ 1 :=
  ⟨ready_starts _ _ _ _ _ (by decide), by decide⟩

theorem witness_RoutingCommandsComplete_33 :
    Starts (ready tst 0x020B c0 (pack [(1, (2 : BitVec 8).toNat), (8, (0 : BitVec 64).toNat)])) .p 0x020B c0 (pack [(1, (2 : BitVec
      8).toNat), (8, (0 : BitVec 64).toNat)]) 0 (went tst 0x020B c0 (pack [(1, (2 : BitVec 8).toNat), (8, (0 : BitVec 64).toNat)])) ∧ 1 <
      (2 : BitVec 8).toNat :=
  ⟨ready_starts _ _ _ _ _ (by decide), by decide⟩

theorem witness_RoutingCommandsComplete_34 :
    Starts (ready tst 0x020C c0 (pack [(8, (1600000000 : BitVec 64).toNat)])) .d 0x020C c0 (pack [(8, (1600000000 : BitVec 64).toNat)]) 0
      (went tst 0x020C c0 (pack [(8, (1600000000 : BitVec 64).toNat)])) ∧ R.ROUT_HOLD_HOLD.allows (1600000000 : BitVec 64).toNat = true ∧
      (1600000000 : BitVec 64).toNat ≤ (went tst 0x020C c0 (pack [(8, (1600000000 : BitVec 64).toNat)])).effLifetime :=
  ⟨ready_starts _ _ _ _ _ (by decide), by decide, by decide⟩

theorem witness_RoutingCommandsComplete_35 :
    Starts (ready tst 0x020C c0 (pack [(8, (0xFFFFFFFFFFFFFFFF : BitVec 64).toNat)])) .d 0x020C c0 (pack [(8, (0xFFFFFFFFFFFFFFFF : BitVec
      64).toNat)]) 0 (went tst 0x020C c0 (pack [(8, (0xFFFFFFFFFFFFFFFF : BitVec 64).toNat)])) ∧ (R.ROUT_HOLD_HOLD.allows
      (0xFFFFFFFFFFFFFFFF : BitVec 64).toNat = false ∨ (went tst 0x020C c0 (pack [(8, (0xFFFFFFFFFFFFFFFF : BitVec
      64).toNat)])).effLifetime < (0xFFFFFFFFFFFFFFFF : BitVec 64).toNat) :=
  ⟨ready_starts _ _ _ _ _ (by decide), by decide⟩

/-! ### GeyserCommandsComplete -/

theorem witness_GeyserCommandsComplete_1 :
    Starts (ready tst 0x0300 c0 (pack [(1, (255 : BitVec 8).toNat), (1, (1 : BitVec 8).toNat), (1, (1 : BitVec 8).toNat), (1, (1 : BitVec
      8).toNat), (1, (1 : BitVec 8).toNat)])) .d 0x0300 c0 (pack [(1, (255 : BitVec 8).toNat), (1, (1 : BitVec 8).toNat), (1, (1 : BitVec
      8).toNat), (1, (1 : BitVec 8).toNat), (1, (1 : BitVec 8).toNat)]) 0 (went tst 0x0300 c0 (pack [(1, (255 : BitVec 8).toNat), (1, (1 :
      BitVec 8).toNat), (1, (1 : BitVec 8).toNat), (1, (1 : BitVec 8).toNat), (1, (1 : BitVec 8).toNat)])) ∧ (([(R.GEYS_CFG_GM_PRIO, (255
      : BitVec 8).toNat), (R.GEYS_CFG_GM_EN, (1 : BitVec 8).toNat), (R.GEYS_CFG_PPS_EN, (1 : BitVec 8).toNat), (R.GEYS_CFG_REF10M_EN, (1 :
      BitVec 8).toNat), (R.GEYS_CFG_PPS_FALL, (1 : BitVec 8).toNat)].all fun x => x.1.allows x.2) = true) :=
  ⟨ready_starts _ _ _ _ _ (by decide), by decide⟩

theorem witness_GeyserCommandsComplete_2 :
    Starts (ready tst 0x0300 c0 (pack [(1, (255 : BitVec 8).toNat), (1, (2 : BitVec 8).toNat), (1, (1 : BitVec 8).toNat), (1, (1 : BitVec
      8).toNat), (1, (1 : BitVec 8).toNat)])) .d 0x0300 c0 (pack [(1, (255 : BitVec 8).toNat), (1, (2 : BitVec 8).toNat), (1, (1 : BitVec
      8).toNat), (1, (1 : BitVec 8).toNat), (1, (1 : BitVec 8).toNat)]) 0 (went tst 0x0300 c0 (pack [(1, (255 : BitVec 8).toNat), (1, (2 :
      BitVec 8).toNat), (1, (1 : BitVec 8).toNat), (1, (1 : BitVec 8).toNat), (1, (1 : BitVec 8).toNat)])) ∧ (([(R.GEYS_CFG_GM_PRIO, (255
      : BitVec 8).toNat), (R.GEYS_CFG_GM_EN, (2 : BitVec 8).toNat), (R.GEYS_CFG_PPS_EN, (1 : BitVec 8).toNat), (R.GEYS_CFG_REF10M_EN, (1 :
      BitVec 8).toNat), (R.GEYS_CFG_PPS_FALL, (1 : BitVec 8).toNat)].all fun x => x.1.allows x.2) = false) :=
  ⟨ready_starts _ _ _ _ _ (by decide), by decide⟩

theorem witness_GeyserCommandsComplete_3 :
    Starts (ready tst 0x0301 c0 (pack [(2, (4096 : BitVec 16).toNat), (1, (255 : BitVec 8).toNat), (2, (65535 : BitVec 16).toNat), (2,
      (10000 : BitVec 16).toNat), (4, (1600000000 : BitVec 32).toNat)])) .d 0x0301 c0 (pack [(2, (4096 : BitVec 16).toNat), (1, (255 :
      BitVec 8).toNat), (2, (65535 : BitVec 16).toNat), (2, (10000 : BitVec 16).toNat), (4, (1600000000 : BitVec 32).toNat)]) 0 (went tst
      0x0301 c0 (pack [(2, (4096 : BitVec 16).toNat), (1, (255 : BitVec 8).toNat), (2, (65535 : BitVec 16).toNat), (2, (10000 : BitVec
      16).toNat), (4, (1600000000 : BitVec 32).toNat)])) ∧ (([(R.GEYS_LIM_SCHED_UNC_MAX, (4096 : BitVec 16).toNat), (R.GEYS_LIM_HOP_UNC,
      (255 : BitVec 8).toNat), (R.GEYS_LIM_STEP_THR, (65535 : BitVec 16).toNat), (R.GEYS_LIM_HOLD_PPB, (10000 : BitVec 16).toNat),
      (R.GEYS_UNC_INV_UNC_INVALID, (1600000000 : BitVec 32).toNat)].all fun x => x.1.allows x.2) = true) :=
  ⟨ready_starts _ _ _ _ _ (by decide), by decide⟩

theorem witness_GeyserCommandsComplete_4 :
    Starts (ready tst 0x0301 c0 (pack [(2, (4096 : BitVec 16).toNat), (1, (255 : BitVec 8).toNat), (2, (65535 : BitVec 16).toNat), (2,
      (10000 : BitVec 16).toNat), (4, (0xFFFFFFFF : BitVec 32).toNat)])) .d 0x0301 c0 (pack [(2, (4096 : BitVec 16).toNat), (1, (255 :
      BitVec 8).toNat), (2, (65535 : BitVec 16).toNat), (2, (10000 : BitVec 16).toNat), (4, (0xFFFFFFFF : BitVec 32).toNat)]) 0 (went tst
      0x0301 c0 (pack [(2, (4096 : BitVec 16).toNat), (1, (255 : BitVec 8).toNat), (2, (65535 : BitVec 16).toNat), (2, (10000 : BitVec
      16).toNat), (4, (0xFFFFFFFF : BitVec 32).toNat)])) ∧ (([(R.GEYS_LIM_SCHED_UNC_MAX, (4096 : BitVec 16).toNat), (R.GEYS_LIM_HOP_UNC,
      (255 : BitVec 8).toNat), (R.GEYS_LIM_STEP_THR, (65535 : BitVec 16).toNat), (R.GEYS_LIM_HOLD_PPB, (10000 : BitVec 16).toNat),
      (R.GEYS_UNC_INV_UNC_INVALID, (0xFFFFFFFF : BitVec 32).toNat)].all fun x => x.1.allows x.2) = false) :=
  ⟨ready_starts _ _ _ _ _ (by decide), by decide⟩

theorem witness_GeyserCommandsComplete_5 :
    Starts (ready (((master tst).wr R.GEYS_CFG_PPS_EN 1)) 0x0302 c0 (pack [(8, (0xFFFFFFFFFFFF : BitVec 64).toNat), (2, (37 : BitVec
      16).toNat)])) .d 0x0302 c0 (pack [(8, (0xFFFFFFFFFFFF : BitVec 64).toNat), (2, (37 : BitVec 16).toNat)]) 0 (went (((master tst).wr
      R.GEYS_CFG_PPS_EN 1)) 0x0302 c0 (pack [(8, (0xFFFFFFFFFFFF : BitVec 64).toNat), (2, (37 : BitVec 16).toNat)])) ∧ (0xFFFFFFFFFFFF :
      BitVec 64).toNat < 2 ^ 48 ∧ (went (((master tst).wr R.GEYS_CFG_PPS_EN 1)) 0x0302 c0 (pack [(8, (0xFFFFFFFFFFFF : BitVec 64).toNat),
      (2, (37 : BitVec 16).toNat)])).isGm = true ∧ (went (((master tst).wr R.GEYS_CFG_PPS_EN 1)) 0x0302 c0 (pack [(8, (0xFFFFFFFFFFFF :
      BitVec 64).toNat), (2, (37 : BitVec 16).toNat)])).on R.GEYS_CFG_PPS_EN = true :=
  ⟨ready_starts _ _ _ _ _ (by decide), by decide, by decide, by decide⟩

theorem witness_GeyserCommandsComplete_6 :
    Starts (ready tst 0x0302 c0 (pack [(8, (0 : BitVec 64).toNat), (2, (37 : BitVec 16).toNat)])) .d 0x0302 c0 (pack [(8, (0 : BitVec
      64).toNat), (2, (37 : BitVec 16).toNat)]) 0 (went tst 0x0302 c0 (pack [(8, (0 : BitVec 64).toNat), (2, (37 : BitVec 16).toNat)])) ∧
      (0 : BitVec 64).toNat < 2 ^ 48 ∧ ((went tst 0x0302 c0 (pack [(8, (0 : BitVec 64).toNat), (2, (37 : BitVec 16).toNat)])).isGm = false
      ∨ (went tst 0x0302 c0 (pack [(8, (0 : BitVec 64).toNat), (2, (37 : BitVec 16).toNat)])).on R.GEYS_CFG_PPS_EN = false) :=
  ⟨ready_starts _ _ _ _ _ (by decide), by decide, by decide⟩

theorem witness_GeyserCommandsComplete_7 :
    Starts (ready tst 0x0302 c0 (pack [(8, (0x1000000000000 : BitVec 64).toNat), (2, (37 : BitVec 16).toNat)])) .d 0x0302 c0 (pack [(8,
      (0x1000000000000 : BitVec 64).toNat), (2, (37 : BitVec 16).toNat)]) 0 (went tst 0x0302 c0 (pack [(8, (0x1000000000000 : BitVec
      64).toNat), (2, (37 : BitVec 16).toNat)])) ∧ 2 ^ 48 ≤ (0x1000000000000 : BitVec 64).toNat :=
  ⟨ready_starts _ _ _ _ _ (by decide), by decide⟩

theorem witness_GeyserCommandsComplete_8 :
    Starts (ready (master tst) 0x0303 c0 (pack [(8, (0x7FFFFFFFFFFF : BitVec 64).toNat)])) .d 0x0303 c0 (pack [(8, (0x7FFFFFFFFFFF :
      BitVec 64).toNat)]) 0 (went (master tst) 0x0303 c0 (pack [(8, (0x7FFFFFFFFFFF : BitVec 64).toNat)])) ∧ -(2 ^ 47 : Int) ≤
      (0x7FFFFFFFFFFF : BitVec 64).toInt ∧ (0x7FFFFFFFFFFF : BitVec 64).toInt < (2 ^ 47 : Int) ∧ (went (master tst) 0x0303 c0 (pack [(8,
      (0x7FFFFFFFFFFF : BitVec 64).toNat)])).isGm = true ∧ (went (master tst) 0x0303 c0 (pack [(8, (0x7FFFFFFFFFFF : BitVec
      64).toNat)])).schdActive = false :=
  ⟨ready_starts _ _ _ _ _ (by decide), by decide, by decide, by decide, by decide⟩

theorem witness_GeyserCommandsComplete_9 :
    Starts (ready tst 0x0303 c0 (pack [(8, (0x800000000000 : BitVec 64).toNat)])) .d 0x0303 c0 (pack [(8, (0x800000000000 : BitVec
      64).toNat)]) 0 (went tst 0x0303 c0 (pack [(8, (0x800000000000 : BitVec 64).toNat)])) ∧ ((0x800000000000 : BitVec 64).toInt < -(2 ^
      47 : Int) ∨ (2 ^ 47 : Int) ≤ (0x800000000000 : BitVec 64).toInt) :=
  ⟨ready_starts _ _ _ _ _ (by decide), by decide⟩

theorem witness_GeyserCommandsComplete_10 :
    Starts (ready tst 0x0303 c0 (pack [(8, (0 : BitVec 64).toNat)])) .d 0x0303 c0 (pack [(8, (0 : BitVec 64).toNat)]) 0 (went tst 0x0303
      c0 (pack [(8, (0 : BitVec 64).toNat)])) ∧ -(2 ^ 47 : Int) ≤ (0 : BitVec 64).toInt ∧ (0 : BitVec 64).toInt < (2 ^ 47 : Int) ∧ ((went
      tst 0x0303 c0 (pack [(8, (0 : BitVec 64).toNat)])).isGm = false ∨ (went tst 0x0303 c0 (pack [(8, (0 : BitVec
      64).toNat)])).schdActive = true) :=
  ⟨ready_starts _ _ _ _ _ (by decide), by decide, by decide, by decide⟩

theorem witness_GeyserCommandsComplete_11 :
    Starts (ready tst 0x0304 c0 []) .a 0x0304 c0 [] 0 (went tst 0x0304 c0 []) :=
  ready_starts _ _ _ _ _ (by decide)

theorem witness_GeyserCommandsComplete_12 :
    Starts (ready tst 0x0305 c0 []) .d 0x0305 c0 [] 0 (went tst 0x0305 c0 []) :=
  ready_starts _ _ _ _ _ (by decide)

/-! ### ScheduleCommandsComplete -/

theorem witness_ScheduleCommandsComplete_1 :
    Starts (ready tst 0x0400 c0 (pack [(1, (1 : BitVec 8).toNat), (8, (0 : BitVec 64).toNat), (4, (64 : BitVec 32).toNat)])) .p 0x0400 c0
      (pack [(1, (1 : BitVec 8).toNat), (8, (0 : BitVec 64).toNat), (4, (64 : BitVec 32).toNat)]) 0 (went tst 0x0400 c0 (pack [(1, (1 :
      BitVec 8).toNat), (8, (0 : BitVec 64).toNat), (4, (64 : BitVec 32).toNat)])) ∧ (1 : BitVec 8).toNat ≤ 1 ∧ ((went tst 0x0400 c0 (pack
      [(1, (1 : BitVec 8).toNat), (8, (0 : BitVec 64).toNat), (4, (64 : BitVec 32).toNat)])).schdActive = false ∨ (1 : BitVec 8).toNat ≠
      (went tst 0x0400 c0 (pack [(1, (1 : BitVec 8).toNat), (8, (0 : BitVec 64).toNat), (4, (64 : BitVec 32).toNat)])).runBuf ∧ (went tst
      0x0400 c0 (pack [(1, (1 : BitVec 8).toNat), (8, (0 : BitVec 64).toNat), (4, (64 : BitVec 32).toNat)])).schd.switch.any (fun x => x.1
      = (1 : BitVec 8).toNat) = false) ∧ (some (List.replicate 64 0) : HostRead) = some ((List.replicate 64 0) : List Byte) ∧
      ((List.replicate 64 0) : List Byte).length = (64 : BitVec 32).toNat ∧ 0 < (64 : BitVec 32).toNat :=
  ⟨ready_starts _ _ _ _ _ (by decide), by decide, by decide, by decide, by decide, by decide⟩

theorem witness_ScheduleCommandsComplete_2 :
    Starts (ready tst 0x0400 c0 (pack [(1, (2 : BitVec 8).toNat), (8, (0 : BitVec 64).toNat), (4, (64 : BitVec 32).toNat)])) .p 0x0400 c0
      (pack [(1, (2 : BitVec 8).toNat), (8, (0 : BitVec 64).toNat), (4, (64 : BitVec 32).toNat)]) 0 (went tst 0x0400 c0 (pack [(1, (2 :
      BitVec 8).toNat), (8, (0 : BitVec 64).toNat), (4, (64 : BitVec 32).toNat)])) ∧ 1 < (2 : BitVec 8).toNat :=
  ⟨ready_starts _ _ _ _ _ (by decide), by decide⟩

theorem witness_ScheduleCommandsComplete_3 :
    Starts (ready ((tst.wr R.SCHD_CTRL_STATE ssArmed)) 0x0400 c0 (pack [(1, (0 : BitVec 8).toNat), (8, (0 : BitVec 64).toNat), (4, (64 :
      BitVec 32).toNat)])) .p 0x0400 c0 (pack [(1, (0 : BitVec 8).toNat), (8, (0 : BitVec 64).toNat), (4, (64 : BitVec 32).toNat)]) 0
      (went ((tst.wr R.SCHD_CTRL_STATE ssArmed)) 0x0400 c0 (pack [(1, (0 : BitVec 8).toNat), (8, (0 : BitVec 64).toNat), (4, (64 : BitVec
      32).toNat)])) ∧ (0 : BitVec 8).toNat ≤ 1 ∧ (went ((tst.wr R.SCHD_CTRL_STATE ssArmed)) 0x0400 c0 (pack [(1, (0 : BitVec 8).toNat),
      (8, (0 : BitVec 64).toNat), (4, (64 : BitVec 32).toNat)])).schdActive = true ∧ ((0 : BitVec 8).toNat = (went ((tst.wr
      R.SCHD_CTRL_STATE ssArmed)) 0x0400 c0 (pack [(1, (0 : BitVec 8).toNat), (8, (0 : BitVec 64).toNat), (4, (64 : BitVec
      32).toNat)])).runBuf ∨ (went ((tst.wr R.SCHD_CTRL_STATE ssArmed)) 0x0400 c0 (pack [(1, (0 : BitVec 8).toNat), (8, (0 : BitVec
      64).toNat), (4, (64 : BitVec 32).toNat)])).schd.switch.any (fun x => x.1 = (0 : BitVec 8).toNat) = true) :=
  ⟨ready_starts _ _ _ _ _ (by decide), by decide, by decide, by decide⟩

theorem witness_ScheduleCommandsComplete_4 :
    Starts (ready tst 0x0400 c0 (pack [(1, (1 : BitVec 8).toNat), (8, (0 : BitVec 64).toNat), (4, (64 : BitVec 32).toNat)])) .p 0x0400 c0
      (pack [(1, (1 : BitVec 8).toNat), (8, (0 : BitVec 64).toNat), (4, (64 : BitVec 32).toNat)]) 0 (went tst 0x0400 c0 (pack [(1, (1 :
      BitVec 8).toNat), (8, (0 : BitVec 64).toNat), (4, (64 : BitVec 32).toNat)])) ∧ (1 : BitVec 8).toNat ≤ 1 ∧ ((went tst 0x0400 c0 (pack
      [(1, (1 : BitVec 8).toNat), (8, (0 : BitVec 64).toNat), (4, (64 : BitVec 32).toNat)])).schdActive = false ∨ (1 : BitVec 8).toNat ≠
      (went tst 0x0400 c0 (pack [(1, (1 : BitVec 8).toNat), (8, (0 : BitVec 64).toNat), (4, (64 : BitVec 32).toNat)])).runBuf ∧ (went tst
      0x0400 c0 (pack [(1, (1 : BitVec 8).toNat), (8, (0 : BitVec 64).toNat), (4, (64 : BitVec 32).toNat)])).schd.switch.any (fun x => x.1
      = (1 : BitVec 8).toNat) = false) ∧ (none : HostRead) = none ∧ 0 < (64 : BitVec 32).toNat :=
  ⟨ready_starts _ _ _ _ _ (by decide), by decide, by decide, by decide, by decide⟩

theorem witness_ScheduleCommandsComplete_5 :
    Starts (ready tst 0x0400 c0 (pack [(1, (1 : BitVec 8).toNat), (8, (0 : BitVec 64).toNat), (4, (0 : BitVec 32).toNat)])) .p 0x0400 c0
      (pack [(1, (1 : BitVec 8).toNat), (8, (0 : BitVec 64).toNat), (4, (0 : BitVec 32).toNat)]) 0 (went tst 0x0400 c0 (pack [(1, (1 :
      BitVec 8).toNat), (8, (0 : BitVec 64).toNat), (4, (0 : BitVec 32).toNat)])) ∧ (1 : BitVec 8).toNat ≤ 1 ∧ ((went tst 0x0400 c0 (pack
      [(1, (1 : BitVec 8).toNat), (8, (0 : BitVec 64).toNat), (4, (0 : BitVec 32).toNat)])).schdActive = false ∨ (1 : BitVec 8).toNat ≠
      (went tst 0x0400 c0 (pack [(1, (1 : BitVec 8).toNat), (8, (0 : BitVec 64).toNat), (4, (0 : BitVec 32).toNat)])).runBuf ∧ (went tst
      0x0400 c0 (pack [(1, (1 : BitVec 8).toNat), (8, (0 : BitVec 64).toNat), (4, (0 : BitVec 32).toNat)])).schd.switch.any (fun x => x.1
      = (1 : BitVec 8).toNat) = false) ∧ (none : HostRead) = none ∧ (0 : BitVec 32).toNat = 0 :=
  ⟨ready_starts _ _ _ _ _ (by decide), by decide, by decide, by decide, by decide⟩

theorem witness_ScheduleCommandsComplete_6 :
    Starts (ready ((locked tst).setBufValid 1 true) 0x0401 c0 (pack [(1, (1 : BitVec 8).toNat), (8, (100000000 : BitVec 64).toNat), (8, (0
      : BitVec 64).toNat)])) .d 0x0401 c0 (pack [(1, (1 : BitVec 8).toNat), (8, (100000000 : BitVec 64).toNat), (8, (0 : BitVec
      64).toNat)]) 0 (went ((locked tst).setBufValid 1 true) 0x0401 c0 (pack [(1, (1 : BitVec 8).toNat), (8, (100000000 : BitVec
      64).toNat), (8, (0 : BitVec 64).toNat)])) ∧ (1 : BitVec 8).toNat ≤ 1 ∧ (went ((locked tst).setBufValid 1 true) 0x0401 c0 (pack [(1,
      (1 : BitVec 8).toNat), (8, (100000000 : BitVec 64).toNat), (8, (0 : BitVec 64).toNat)])).bufValid (1 : BitVec 8).toNat = true ∧ (0 :
      BitVec 64).toNat = (went ((locked tst).setBufValid 1 true) 0x0401 c0 (pack [(1, (1 : BitVec 8).toNat), (8, (100000000 : BitVec
      64).toNat), (8, (0 : BitVec 64).toNat)])).imgHash (1 : BitVec 8).toNat ∧ (went ((locked tst).setBufValid 1 true) 0x0401 c0 (pack
      [(1, (1 : BitVec 8).toNat), (8, (100000000 : BitVec 64).toNat), (8, (0 : BitVec 64).toNat)])).gt + 16000 * (went ((locked
      tst).setBufValid 1 true) 0x0401 c0 (pack [(1, (1 : BitVec 8).toNat), (8, (100000000 : BitVec 64).toNat), (8, (0 : BitVec
      64).toNat)])).imgFetchLead (1 : BitVec 8).toNat + max ((went ((locked tst).setBufValid 1 true) 0x0401 c0 (pack [(1, (1 : BitVec
      8).toNat), (8, (100000000 : BitVec 64).toNat), (8, (0 : BitVec 64).toNat)])).leadOf (1 : BitVec 8).toNat) 32000 + 1600000 ≤
      (100000000 : BitVec 64).toNat ∧ (100000000 : BitVec 64).toNat ≤ (went ((locked tst).setBufValid 1 true) 0x0401 c0 (pack [(1, (1 :
      BitVec 8).toNat), (8, (100000000 : BitVec 64).toNat), (8, (0 : BitVec 64).toNat)])).gt + 160000000000 ∧ (went ((locked
      tst).setBufValid 1 true) 0x0401 c0 (pack [(1, (1 : BitVec 8).toNat), (8, (100000000 : BitVec 64).toNat), (8, (0 : BitVec
      64).toNat)])).pathFailure (1 : BitVec 8).toNat = none ∧ (went ((locked tst).setBufValid 1 true) 0x0401 c0 (pack [(1, (1 : BitVec
      8).toNat), (8, (100000000 : BitVec 64).toNat), (8, (0 : BitVec 64).toNat)])).geysState = gsLocked ∧ (went ((locked tst).setBufValid
      1 true) 0x0401 c0 (pack [(1, (1 : BitVec 8).toNat), (8, (100000000 : BitVec 64).toNat), (8, (0 : BitVec 64).toNat)])).schdState =
      ssIdle :=
  ⟨ready_starts _ _ _ _ _ (by decide), by decide, by decide, by decide, by decide, by decide, by decide, by decide, by decide⟩

theorem witness_ScheduleCommandsComplete_7 :
    Starts (ready (locked tst) 0x0401 c0 (pack [(1, (1 : BitVec 8).toNat), (8, (1632000 : BitVec 64).toNat), (8, (0 : BitVec 64).toNat)]))
      .d 0x0401 c0 (pack [(1, (1 : BitVec 8).toNat), (8, (1632000 : BitVec 64).toNat), (8, (0 : BitVec 64).toNat)]) 0 (went (locked tst)
      0x0401 c0 (pack [(1, (1 : BitVec 8).toNat), (8, (1632000 : BitVec 64).toNat), (8, (0 : BitVec 64).toNat)])) ∧ (¬ ((1 : BitVec
      8).toNat ≤ 1 ∧ (went (locked tst) 0x0401 c0 (pack [(1, (1 : BitVec 8).toNat), (8, (1632000 : BitVec 64).toNat), (8, (0 : BitVec
      64).toNat)])).bufValid (1 : BitVec 8).toNat = true ∧ (0 : BitVec 64).toNat = (went (locked tst) 0x0401 c0 (pack [(1, (1 : BitVec
      8).toNat), (8, (1632000 : BitVec 64).toNat), (8, (0 : BitVec 64).toNat)])).imgHash (1 : BitVec 8).toNat ∧ (went (locked tst) 0x0401
      c0 (pack [(1, (1 : BitVec 8).toNat), (8, (1632000 : BitVec 64).toNat), (8, (0 : BitVec 64).toNat)])).gt + 16000 * (went (locked tst)
      0x0401 c0 (pack [(1, (1 : BitVec 8).toNat), (8, (1632000 : BitVec 64).toNat), (8, (0 : BitVec 64).toNat)])).imgFetchLead (1 : BitVec
      8).toNat + max ((went (locked tst) 0x0401 c0 (pack [(1, (1 : BitVec 8).toNat), (8, (1632000 : BitVec 64).toNat), (8, (0 : BitVec
      64).toNat)])).leadOf (1 : BitVec 8).toNat) 32000 + 1600000 ≤ (1632000 : BitVec 64).toNat ∧ (1632000 : BitVec 64).toNat ≤ (went
      (locked tst) 0x0401 c0 (pack [(1, (1 : BitVec 8).toNat), (8, (1632000 : BitVec 64).toNat), (8, (0 : BitVec 64).toNat)])).gt +
      160000000000)) :=
  ⟨ready_starts _ _ _ _ _ (by decide), by decide⟩

theorem witness_ScheduleCommandsComplete_8 :
    Starts (ready (tst.setBufValid 1 true) 0x0401 c0 (pack [(1, (1 : BitVec 8).toNat), (8, (100000000 : BitVec 64).toNat), (8, (0 : BitVec
      64).toNat)])) .d 0x0401 c0 (pack [(1, (1 : BitVec 8).toNat), (8, (100000000 : BitVec 64).toNat), (8, (0 : BitVec 64).toNat)]) 0
      (went (tst.setBufValid 1 true) 0x0401 c0 (pack [(1, (1 : BitVec 8).toNat), (8, (100000000 : BitVec 64).toNat), (8, (0 : BitVec
      64).toNat)])) ∧ (1 : BitVec 8).toNat ≤ 1 ∧ (went (tst.setBufValid 1 true) 0x0401 c0 (pack [(1, (1 : BitVec 8).toNat), (8, (100000000
      : BitVec 64).toNat), (8, (0 : BitVec 64).toNat)])).bufValid (1 : BitVec 8).toNat = true ∧ (0 : BitVec 64).toNat = (went
      (tst.setBufValid 1 true) 0x0401 c0 (pack [(1, (1 : BitVec 8).toNat), (8, (100000000 : BitVec 64).toNat), (8, (0 : BitVec
      64).toNat)])).imgHash (1 : BitVec 8).toNat ∧ (went (tst.setBufValid 1 true) 0x0401 c0 (pack [(1, (1 : BitVec 8).toNat), (8,
      (100000000 : BitVec 64).toNat), (8, (0 : BitVec 64).toNat)])).gt + 16000 * (went (tst.setBufValid 1 true) 0x0401 c0 (pack [(1, (1 :
      BitVec 8).toNat), (8, (100000000 : BitVec 64).toNat), (8, (0 : BitVec 64).toNat)])).imgFetchLead (1 : BitVec 8).toNat + max ((went
      (tst.setBufValid 1 true) 0x0401 c0 (pack [(1, (1 : BitVec 8).toNat), (8, (100000000 : BitVec 64).toNat), (8, (0 : BitVec
      64).toNat)])).leadOf (1 : BitVec 8).toNat) 32000 + 1600000 ≤ (100000000 : BitVec 64).toNat ∧ (100000000 : BitVec 64).toNat ≤ (went
      (tst.setBufValid 1 true) 0x0401 c0 (pack [(1, (1 : BitVec 8).toNat), (8, (100000000 : BitVec 64).toNat), (8, (0 : BitVec
      64).toNat)])).gt + 160000000000 ∧ (went (tst.setBufValid 1 true) 0x0401 c0 (pack [(1, (1 : BitVec 8).toNat), (8, (100000000 : BitVec
      64).toNat), (8, (0 : BitVec 64).toNat)])).pathFailure (1 : BitVec 8).toNat = none ∧ (went (tst.setBufValid 1 true) 0x0401 c0 (pack
      [(1, (1 : BitVec 8).toNat), (8, (100000000 : BitVec 64).toNat), (8, (0 : BitVec 64).toNat)])).geysState ≠ gsLocked :=
  ⟨ready_starts _ _ _ _ _ (by decide), by decide, by decide, by decide, by decide, by decide, by decide, by decide⟩

theorem witness_ScheduleCommandsComplete_9 :
    Starts (ready (((locked tst).setBufValid 1 true).wr R.SCHD_CTRL_STATE ssArmed) 0x0401 c0 (pack [(1, (1 : BitVec 8).toNat), (8,
      (100000000 : BitVec 64).toNat), (8, (0 : BitVec 64).toNat)])) .d 0x0401 c0 (pack [(1, (1 : BitVec 8).toNat), (8, (100000000 : BitVec
      64).toNat), (8, (0 : BitVec 64).toNat)]) 0 (went (((locked tst).setBufValid 1 true).wr R.SCHD_CTRL_STATE ssArmed) 0x0401 c0 (pack
      [(1, (1 : BitVec 8).toNat), (8, (100000000 : BitVec 64).toNat), (8, (0 : BitVec 64).toNat)])) ∧ (1 : BitVec 8).toNat ≤ 1 ∧ (went
      (((locked tst).setBufValid 1 true).wr R.SCHD_CTRL_STATE ssArmed) 0x0401 c0 (pack [(1, (1 : BitVec 8).toNat), (8, (100000000 : BitVec
      64).toNat), (8, (0 : BitVec 64).toNat)])).bufValid (1 : BitVec 8).toNat = true ∧ (0 : BitVec 64).toNat = (went (((locked
      tst).setBufValid 1 true).wr R.SCHD_CTRL_STATE ssArmed) 0x0401 c0 (pack [(1, (1 : BitVec 8).toNat), (8, (100000000 : BitVec
      64).toNat), (8, (0 : BitVec 64).toNat)])).imgHash (1 : BitVec 8).toNat ∧ (went (((locked tst).setBufValid 1 true).wr
      R.SCHD_CTRL_STATE ssArmed) 0x0401 c0 (pack [(1, (1 : BitVec 8).toNat), (8, (100000000 : BitVec 64).toNat), (8, (0 : BitVec
      64).toNat)])).gt + 16000 * (went (((locked tst).setBufValid 1 true).wr R.SCHD_CTRL_STATE ssArmed) 0x0401 c0 (pack [(1, (1 : BitVec
      8).toNat), (8, (100000000 : BitVec 64).toNat), (8, (0 : BitVec 64).toNat)])).imgFetchLead (1 : BitVec 8).toNat + max ((went
      (((locked tst).setBufValid 1 true).wr R.SCHD_CTRL_STATE ssArmed) 0x0401 c0 (pack [(1, (1 : BitVec 8).toNat), (8, (100000000 : BitVec
      64).toNat), (8, (0 : BitVec 64).toNat)])).leadOf (1 : BitVec 8).toNat) 32000 + 1600000 ≤ (100000000 : BitVec 64).toNat ∧ (100000000
      : BitVec 64).toNat ≤ (went (((locked tst).setBufValid 1 true).wr R.SCHD_CTRL_STATE ssArmed) 0x0401 c0 (pack [(1, (1 : BitVec
      8).toNat), (8, (100000000 : BitVec 64).toNat), (8, (0 : BitVec 64).toNat)])).gt + 160000000000 ∧ (went (((locked tst).setBufValid 1
      true).wr R.SCHD_CTRL_STATE ssArmed) 0x0401 c0 (pack [(1, (1 : BitVec 8).toNat), (8, (100000000 : BitVec 64).toNat), (8, (0 : BitVec
      64).toNat)])).pathFailure (1 : BitVec 8).toNat = none ∧ (went (((locked tst).setBufValid 1 true).wr R.SCHD_CTRL_STATE ssArmed)
      0x0401 c0 (pack [(1, (1 : BitVec 8).toNat), (8, (100000000 : BitVec 64).toNat), (8, (0 : BitVec 64).toNat)])).geysState = gsLocked ∧
      (went (((locked tst).setBufValid 1 true).wr R.SCHD_CTRL_STATE ssArmed) 0x0401 c0 (pack [(1, (1 : BitVec 8).toNat), (8, (100000000 :
      BitVec 64).toNat), (8, (0 : BitVec 64).toNat)])).schdState ≠ ssIdle :=
  ⟨ready_starts _ _ _ _ _ (by decide), by decide, by decide, by decide, by decide, by decide, by decide, by decide, by decide⟩

theorem witness_ScheduleCommandsComplete_10 :
    Starts (ready pathless 0x0401 c0 (pack [(1, (0 : BitVec 8).toNat), (8, (100000000 : BitVec 64).toNat), (8, (0 : BitVec 64).toNat)]))
      .d 0x0401 c0 (pack [(1, (0 : BitVec 8).toNat), (8, (100000000 : BitVec 64).toNat), (8, (0 : BitVec 64).toNat)]) 0 (went pathless
      0x0401 c0 (pack [(1, (0 : BitVec 8).toNat), (8, (100000000 : BitVec 64).toNat), (8, (0 : BitVec 64).toNat)])) ∧ (0 : BitVec 8).toNat
      ≤ 1 ∧ (went pathless 0x0401 c0 (pack [(1, (0 : BitVec 8).toNat), (8, (100000000 : BitVec 64).toNat), (8, (0 : BitVec
      64).toNat)])).bufValid (0 : BitVec 8).toNat = true ∧ (0 : BitVec 64).toNat = (went pathless 0x0401 c0 (pack [(1, (0 : BitVec
      8).toNat), (8, (100000000 : BitVec 64).toNat), (8, (0 : BitVec 64).toNat)])).imgHash (0 : BitVec 8).toNat ∧ (went pathless 0x0401 c0
      (pack [(1, (0 : BitVec 8).toNat), (8, (100000000 : BitVec 64).toNat), (8, (0 : BitVec 64).toNat)])).gt + 16000 * (went pathless
      0x0401 c0 (pack [(1, (0 : BitVec 8).toNat), (8, (100000000 : BitVec 64).toNat), (8, (0 : BitVec 64).toNat)])).imgFetchLead (0 :
      BitVec 8).toNat + max ((went pathless 0x0401 c0 (pack [(1, (0 : BitVec 8).toNat), (8, (100000000 : BitVec 64).toNat), (8, (0 :
      BitVec 64).toNat)])).leadOf (0 : BitVec 8).toNat) 32000 + 1600000 ≤ (100000000 : BitVec 64).toNat ∧ (100000000 : BitVec 64).toNat ≤
      (went pathless 0x0401 c0 (pack [(1, (0 : BitVec 8).toNat), (8, (100000000 : BitVec 64).toNat), (8, (0 : BitVec 64).toNat)])).gt +
      160000000000 ∧ (went pathless 0x0401 c0 (pack [(1, (0 : BitVec 8).toNat), (8, (100000000 : BitVec 64).toNat), (8, (0 : BitVec
      64).toNat)])).pathFailure (0 : BitVec 8).toNat = some (0 : Nat) :=
  ⟨ready_starts _ _ _ _ _ (by decide), by decide, by decide, by decide, by decide, by decide, by decide⟩

theorem witness_ScheduleCommandsComplete_11 :
    Starts (ready ((tst.wr R.SCHD_CTRL_STATE ssArmed)) 0x0402 c0 (pack [(8, (0xFFFFFFFFFFF : BitVec 64).toNat)])) .d 0x0402 c0 (pack [(8,
      (0xFFFFFFFFFFF : BitVec 64).toNat)]) 0 (went ((tst.wr R.SCHD_CTRL_STATE ssArmed)) 0x0402 c0 (pack [(8, (0xFFFFFFFFFFF : BitVec
      64).toNat)])) ∧ (0xFFFFFFFFFFF : BitVec 64).toNat < 2 ^ 44 ∧ (went ((tst.wr R.SCHD_CTRL_STATE ssArmed)) 0x0402 c0 (pack [(8,
      (0xFFFFFFFFFFF : BitVec 64).toNat)])).schdActive = true ∧ ((went ((tst.wr R.SCHD_CTRL_STATE ssArmed)) 0x0402 c0 (pack [(8,
      (0xFFFFFFFFFFF : BitVec 64).toNat)])).schdState ≠ ssRunning ∨ (went ((tst.wr R.SCHD_CTRL_STATE ssArmed)) 0x0402 c0 (pack [(8,
      (0xFFFFFFFFFFF : BitVec 64).toNat)])).iterNow < (0xFFFFFFFFFFF : BitVec 64).toNat) :=
  ⟨ready_starts _ _ _ _ _ (by decide), by decide, by decide, by decide⟩

theorem witness_ScheduleCommandsComplete_12 :
    Starts (ready tst 0x0402 c0 (pack [(8, (0 : BitVec 64).toNat)])) .d 0x0402 c0 (pack [(8, (0 : BitVec 64).toNat)]) 0 (went tst 0x0402
      c0 (pack [(8, (0 : BitVec 64).toNat)])) ∧ (0 : BitVec 64).toNat < 2 ^ 44 ∧ (went tst 0x0402 c0 (pack [(8, (0 : BitVec
      64).toNat)])).schdActive = false :=
  ⟨ready_starts _ _ _ _ _ (by decide), by decide, by decide⟩

theorem witness_ScheduleCommandsComplete_13 :
    Starts (ready tst 0x0402 c0 (pack [(8, (0x100000000000 : BitVec 64).toNat)])) .d 0x0402 c0 (pack [(8, (0x100000000000 : BitVec
      64).toNat)]) 0 (went tst 0x0402 c0 (pack [(8, (0x100000000000 : BitVec 64).toNat)])) ∧ 2 ^ 44 ≤ (0x100000000000 : BitVec 64).toNat
      :=
  ⟨ready_starts _ _ _ _ _ (by decide), by decide⟩

theorem witness_ScheduleCommandsComplete_14 :
    Starts (ready ((tst.wr R.SCHD_CTRL_STATE ssRunning)) 0x0402 c0 (pack [(8, (0 : BitVec 64).toNat)])) .d 0x0402 c0 (pack [(8, (0 :
      BitVec 64).toNat)]) 0 (went ((tst.wr R.SCHD_CTRL_STATE ssRunning)) 0x0402 c0 (pack [(8, (0 : BitVec 64).toNat)])) ∧ (0 : BitVec
      64).toNat < 2 ^ 44 ∧ (went ((tst.wr R.SCHD_CTRL_STATE ssRunning)) 0x0402 c0 (pack [(8, (0 : BitVec 64).toNat)])).schdState =
      ssRunning ∧ (0 : BitVec 64).toNat ≤ (went ((tst.wr R.SCHD_CTRL_STATE ssRunning)) 0x0402 c0 (pack [(8, (0 : BitVec
      64).toNat)])).iterNow :=
  ⟨ready_starts _ _ _ _ _ (by decide), by decide, by decide, by decide⟩

theorem witness_ScheduleCommandsComplete_15 :
    Starts (ready tst 0x0403 c0 []) .d 0x0403 c0 [] 0 (went tst 0x0403 c0 []) :=
  ready_starts _ _ _ _ _ (by decide)

theorem witness_ScheduleCommandsComplete_16 :
    Starts (ready tst 0x0404 c0 []) .d 0x0404 c0 [] 0 (went tst 0x0404 c0 []) :=
  ready_starts _ _ _ _ _ (by decide)

theorem witness_ScheduleCommandsComplete_17 :
    Starts (ready tst 0x0405 c0 []) .a 0x0405 c0 [] 0 (went tst 0x0405 c0 []) :=
  ready_starts _ _ _ _ _ (by decide)

theorem witness_ScheduleCommandsComplete_18 :
    Starts (ready tst 0x0406 c0 (pack [(1, (74 : BitVec 8).toNat), (2, (65535 : BitVec 16).toNat), (1, (31 : BitVec 8).toNat), (1, (255 :
      BitVec 8).toNat), (1, (1 : BitVec 8).toNat), (1, (1 : BitVec 8).toNat), (1, (100 : BitVec 8).toNat)])) .d 0x0406 c0 (pack [(1, (74 :
      BitVec 8).toNat), (2, (65535 : BitVec 16).toNat), (1, (31 : BitVec 8).toNat), (1, (255 : BitVec 8).toNat), (1, (1 : BitVec
      8).toNat), (1, (1 : BitVec 8).toNat), (1, (100 : BitVec 8).toNat)]) 0 (went tst 0x0406 c0 (pack [(1, (74 : BitVec 8).toNat), (2,
      (65535 : BitVec 16).toNat), (1, (31 : BitVec 8).toNat), (1, (255 : BitVec 8).toNat), (1, (1 : BitVec 8).toNat), (1, (1 : BitVec
      8).toNat), (1, (100 : BitVec 8).toNat)])) ∧ (([(R.SCHD_CFG_FIT_GUARD, (74 : BitVec 8).toNat), (R.SCHD_CFG_CUT_HORIZON, (65535 :
      BitVec 16).toNat), (R.SCHD_CFG_LATE_TOL, (31 : BitVec 8).toNat), (R.SCHD_CFG_ABORT_THR, (255 : BitVec 8).toNat),
      (R.SCHD_CFG_PREWARM_EN, (1 : BitVec 8).toNat), (R.SCHD_CFG_LSTEP_EN, (1 : BitVec 8).toNat), (R.SCHD_CFG_LSTEP_LEAD, (100 : BitVec
      8).toNat)].all fun x => x.1.allows x.2) = true) :=
  ⟨ready_starts _ _ _ _ _ (by decide), by decide⟩

theorem witness_ScheduleCommandsComplete_19 :
    Starts (ready tst 0x0406 c0 (pack [(1, (74 : BitVec 8).toNat), (2, (65535 : BitVec 16).toNat), (1, (31 : BitVec 8).toNat), (1, (255 :
      BitVec 8).toNat), (1, (1 : BitVec 8).toNat), (1, (2 : BitVec 8).toNat), (1, (100 : BitVec 8).toNat)])) .d 0x0406 c0 (pack [(1, (74 :
      BitVec 8).toNat), (2, (65535 : BitVec 16).toNat), (1, (31 : BitVec 8).toNat), (1, (255 : BitVec 8).toNat), (1, (1 : BitVec
      8).toNat), (1, (2 : BitVec 8).toNat), (1, (100 : BitVec 8).toNat)]) 0 (went tst 0x0406 c0 (pack [(1, (74 : BitVec 8).toNat), (2,
      (65535 : BitVec 16).toNat), (1, (31 : BitVec 8).toNat), (1, (255 : BitVec 8).toNat), (1, (1 : BitVec 8).toNat), (1, (2 : BitVec
      8).toNat), (1, (100 : BitVec 8).toNat)])) ∧ (([(R.SCHD_CFG_FIT_GUARD, (74 : BitVec 8).toNat), (R.SCHD_CFG_CUT_HORIZON, (65535 :
      BitVec 16).toNat), (R.SCHD_CFG_LATE_TOL, (31 : BitVec 8).toNat), (R.SCHD_CFG_ABORT_THR, (255 : BitVec 8).toNat),
      (R.SCHD_CFG_PREWARM_EN, (1 : BitVec 8).toNat), (R.SCHD_CFG_LSTEP_EN, (2 : BitVec 8).toNat), (R.SCHD_CFG_LSTEP_LEAD, (100 : BitVec
      8).toNat)].all fun x => x.1.allows x.2) = false) :=
  ⟨ready_starts _ _ _ _ _ (by decide), by decide⟩

/-! ### HostCommandsComplete -/

theorem witness_HostCommandsComplete_1 :
    Starts (ready hosted 0x0500 c0 (pack [(2, (1 : BitVec 16).toNat), (2, (1 : BitVec 16).toNat), (1, (0 : BitVec 8).toNat), (1, (16 :
      BitVec 8).toNat), (1, (16 : BitVec 8).toNat), (1, (16 : BitVec 8).toNat), (1, (1 : BitVec 8).toNat), (1, (2 : BitVec 8).toNat), (2,
      (2 : BitVec 16).toNat), (8, (0 : BitVec 64).toNat), (8, (0x1000 : BitVec 64).toNat), (8, (0x2000 : BitVec 64).toNat), (8, (0x40 :
      BitVec 64).toNat)])) .f 0x0500 c0 (pack [(2, (1 : BitVec 16).toNat), (2, (1 : BitVec 16).toNat), (1, (0 : BitVec 8).toNat), (1, (16
      : BitVec 8).toNat), (1, (16 : BitVec 8).toNat), (1, (16 : BitVec 8).toNat), (1, (1 : BitVec 8).toNat), (1, (2 : BitVec 8).toNat),
      (2, (2 : BitVec 16).toNat), (8, (0 : BitVec 64).toNat), (8, (0x1000 : BitVec 64).toNat), (8, (0x2000 : BitVec 64).toNat), (8, (0x40
      : BitVec 64).toNat)]) 0 (went hosted 0x0500 c0 (pack [(2, (1 : BitVec 16).toNat), (2, (1 : BitVec 16).toNat), (1, (0 : BitVec
      8).toNat), (1, (16 : BitVec 8).toNat), (1, (16 : BitVec 8).toNat), (1, (16 : BitVec 8).toNat), (1, (1 : BitVec 8).toNat), (1, (2 :
      BitVec 8).toNat), (2, (2 : BitVec 16).toNat), (8, (0 : BitVec 64).toNat), (8, (0x1000 : BitVec 64).toNat), (8, (0x2000 : BitVec
      64).toNat), (8, (0x40 : BitVec 64).toNat)])) ∧ (went hosted 0x0500 c0 (pack [(2, (1 : BitVec 16).toNat), (2, (1 : BitVec 16).toNat),
      (1, (0 : BitVec 8).toNat), (1, (16 : BitVec 8).toNat), (1, (16 : BitVec 8).toNat), (1, (16 : BitVec 8).toNat), (1, (1 : BitVec
      8).toNat), (1, (2 : BitVec 8).toNat), (2, (2 : BitVec 16).toNat), (8, (0 : BitVec 64).toNat), (8, (0x1000 : BitVec 64).toNat), (8,
      (0x2000 : BitVec 64).toNat), (8, (0x40 : BitVec 64).toNat)])).serves (keyPort (pathFn c0.path)) = true ∧ ((went hosted 0x0500 c0
      (pack [(2, (1 : BitVec 16).toNat), (2, (1 : BitVec 16).toNat), (1, (0 : BitVec 8).toNat), (1, (16 : BitVec 8).toNat), (1, (16 :
      BitVec 8).toNat), (1, (16 : BitVec 8).toNat), (1, (1 : BitVec 8).toNat), (1, (2 : BitVec 8).toNat), (2, (2 : BitVec 16).toNat), (8,
      (0 : BitVec 64).toNat), (8, (0x1000 : BitVec 64).toNat), (8, (0x2000 : BitVec 64).toNat), (8, (0x40 : BitVec 64).toNat)])).ctx (1 :
      BitVec 16).toNat).valid = true ∧ fkey ((went hosted 0x0500 c0 (pack [(2, (1 : BitVec 16).toNat), (2, (1 : BitVec 16).toNat), (1, (0
      : BitVec 8).toNat), (1, (16 : BitVec 8).toNat), (1, (16 : BitVec 8).toNat), (1, (16 : BitVec 8).toNat), (1, (1 : BitVec 8).toNat),
      (1, (2 : BitVec 8).toNat), (2, (2 : BitVec 16).toNat), (8, (0 : BitVec 64).toNat), (8, (0x1000 : BitVec 64).toNat), (8, (0x2000 :
      BitVec 64).toNat), (8, (0x40 : BitVec 64).toNat)])).ctx (1 : BitVec 16).toNat).hport ((went hosted 0x0500 c0 (pack [(2, (1 : BitVec
      16).toNat), (2, (1 : BitVec 16).toNat), (1, (0 : BitVec 8).toNat), (1, (16 : BitVec 8).toNat), (1, (16 : BitVec 8).toNat), (1, (16 :
      BitVec 8).toNat), (1, (1 : BitVec 8).toNat), (1, (2 : BitVec 8).toNat), (2, (2 : BitVec 16).toNat), (8, (0 : BitVec 64).toNat), (8,
      (0x1000 : BitVec 64).toNat), (8, (0x2000 : BitVec 64).toNat), (8, (0x40 : BitVec 64).toNat)])).ctx (1 : BitVec 16).toNat).func =
      pathFn c0.path ∧ ((went hosted 0x0500 c0 (pack [(2, (1 : BitVec 16).toNat), (2, (1 : BitVec 16).toNat), (1, (0 : BitVec 8).toNat),
      (1, (16 : BitVec 8).toNat), (1, (16 : BitVec 8).toNat), (1, (16 : BitVec 8).toNat), (1, (1 : BitVec 8).toNat), (1, (2 : BitVec
      8).toNat), (2, (2 : BitVec 16).toNat), (8, (0 : BitVec 64).toNat), (8, (0x1000 : BitVec 64).toNat), (8, (0x2000 : BitVec 64).toNat),
      (8, (0x40 : BitVec 64).toNat)])).eqAt (pathFn c0.path) (2 : BitVec 16).toNat).valid = true ∧ (went hosted 0x0500 c0 (pack [(2, (1 :
      BitVec 16).toNat), (2, (1 : BitVec 16).toNat), (1, (0 : BitVec 8).toNat), (1, (16 : BitVec 8).toNat), (1, (16 : BitVec 8).toNat),
      (1, (16 : BitVec 8).toNat), (1, (1 : BitVec 8).toNat), (1, (2 : BitVec 8).toNat), (2, (2 : BitVec 16).toNat), (8, (0 : BitVec
      64).toNat), (8, (0x1000 : BitVec 64).toNat), (8, (0x2000 : BitVec 64).toNat), (8, (0x40 : BitVec 64).toNat)])).qpParamsOk ({ hport := keyPort (pathFn c0.path), func := keyFunc (pathFn c0.path), ctx := (1 : BitVec 16).toNat, job := (1 : BitVec 16).toNat, gen := (0 : BitVec 8).toNat, sqLog := (16 : BitVec 8).toNat, rqLog := (16 : BitVec 8).toNat, cqLog := (16 : BitVec 8).toNat, dbMode := (1 : BitVec 8).toNat, batchN := (2 : BitVec 8).toNat, eq := (2 : BitVec 16).toNat, sqBase := (0 : BitVec 64).toNat, rqBase := (0x1000 : BitVec 64).toNat, cqBase := (0x2000 : BitVec 64).toNat, record := (0x40 : BitVec 64).toNat }
      : QpParams) = true ∧ (went hosted 0x0500 c0 (pack [(2, (1 : BitVec 16).toNat), (2, (1 : BitVec 16).toNat), (1, (0 : BitVec
      8).toNat), (1, (16 : BitVec 8).toNat), (1, (16 : BitVec 8).toNat), (1, (16 : BitVec 8).toNat), (1, (1 : BitVec 8).toNat), (1, (2 :
      BitVec 8).toNat), (2, (2 : BitVec 16).toNat), (8, (0 : BitVec 64).toNat), (8, (0x1000 : BitVec 64).toNat), (8, (0x2000 : BitVec
      64).toNat), (8, (0x40 : BitVec 64).toNat)])).freeQp.isSome = true ∧ ((went hosted 0x0500 c0 (pack [(2, (1 : BitVec 16).toNat), (2,
      (1 : BitVec 16).toNat), (1, (0 : BitVec 8).toNat), (1, (16 : BitVec 8).toNat), (1, (16 : BitVec 8).toNat), (1, (16 : BitVec
      8).toNat), (1, (1 : BitVec 8).toNat), (1, (2 : BitVec 8).toNat), (2, (2 : BitVec 16).toNat), (8, (0 : BitVec 64).toNat), (8, (0x1000
      : BitVec 64).toNat), (8, (0x2000 : BitVec 64).toNat), (8, (0x40 : BitVec 64).toNat)])).freeSlot (pathFn c0.path)).isSome = true :=
  ⟨ready_starts _ _ _ _ _ (by decide), by decide, by decide, by decide, by decide, by decide, by decide, by decide⟩

theorem witness_HostCommandsComplete_2 :
    Starts (ready unserved 0x0500 c0 (pack [(2, (1 : BitVec 16).toNat), (2, (1 : BitVec 16).toNat), (1, (0 : BitVec 8).toNat), (1, (16 :
      BitVec 8).toNat), (1, (16 : BitVec 8).toNat), (1, (16 : BitVec 8).toNat), (1, (1 : BitVec 8).toNat), (1, (2 : BitVec 8).toNat), (2,
      (2 : BitVec 16).toNat), (8, (0 : BitVec 64).toNat), (8, (0x1000 : BitVec 64).toNat), (8, (0x2000 : BitVec 64).toNat), (8, (0x40 :
      BitVec 64).toNat)])) .f 0x0500 c0 (pack [(2, (1 : BitVec 16).toNat), (2, (1 : BitVec 16).toNat), (1, (0 : BitVec 8).toNat), (1, (16
      : BitVec 8).toNat), (1, (16 : BitVec 8).toNat), (1, (16 : BitVec 8).toNat), (1, (1 : BitVec 8).toNat), (1, (2 : BitVec 8).toNat),
      (2, (2 : BitVec 16).toNat), (8, (0 : BitVec 64).toNat), (8, (0x1000 : BitVec 64).toNat), (8, (0x2000 : BitVec 64).toNat), (8, (0x40
      : BitVec 64).toNat)]) 0 (went unserved 0x0500 c0 (pack [(2, (1 : BitVec 16).toNat), (2, (1 : BitVec 16).toNat), (1, (0 : BitVec
      8).toNat), (1, (16 : BitVec 8).toNat), (1, (16 : BitVec 8).toNat), (1, (16 : BitVec 8).toNat), (1, (1 : BitVec 8).toNat), (1, (2 :
      BitVec 8).toNat), (2, (2 : BitVec 16).toNat), (8, (0 : BitVec 64).toNat), (8, (0x1000 : BitVec 64).toNat), (8, (0x2000 : BitVec
      64).toNat), (8, (0x40 : BitVec 64).toNat)])) ∧ (went unserved 0x0500 c0 (pack [(2, (1 : BitVec 16).toNat), (2, (1 : BitVec
      16).toNat), (1, (0 : BitVec 8).toNat), (1, (16 : BitVec 8).toNat), (1, (16 : BitVec 8).toNat), (1, (16 : BitVec 8).toNat), (1, (1 :
      BitVec 8).toNat), (1, (2 : BitVec 8).toNat), (2, (2 : BitVec 16).toNat), (8, (0 : BitVec 64).toNat), (8, (0x1000 : BitVec
      64).toNat), (8, (0x2000 : BitVec 64).toNat), (8, (0x40 : BitVec 64).toNat)])).serves (keyPort (pathFn c0.path)) = false :=
  ⟨ready_starts _ _ _ _ _ (by decide), by decide⟩

theorem witness_HostCommandsComplete_3 :
    Starts (ready hosted 0x0500 c0 (pack [(2, (65535 : BitVec 16).toNat), (2, (1 : BitVec 16).toNat), (1, (0 : BitVec 8).toNat), (1, (16 :
      BitVec 8).toNat), (1, (16 : BitVec 8).toNat), (1, (16 : BitVec 8).toNat), (1, (1 : BitVec 8).toNat), (1, (2 : BitVec 8).toNat), (2,
      (2 : BitVec 16).toNat), (8, (0 : BitVec 64).toNat), (8, (0x1000 : BitVec 64).toNat), (8, (0x2000 : BitVec 64).toNat), (8, (0x40 :
      BitVec 64).toNat)])) .f 0x0500 c0 (pack [(2, (65535 : BitVec 16).toNat), (2, (1 : BitVec 16).toNat), (1, (0 : BitVec 8).toNat), (1,
      (16 : BitVec 8).toNat), (1, (16 : BitVec 8).toNat), (1, (16 : BitVec 8).toNat), (1, (1 : BitVec 8).toNat), (1, (2 : BitVec
      8).toNat), (2, (2 : BitVec 16).toNat), (8, (0 : BitVec 64).toNat), (8, (0x1000 : BitVec 64).toNat), (8, (0x2000 : BitVec 64).toNat),
      (8, (0x40 : BitVec 64).toNat)]) 0 (went hosted 0x0500 c0 (pack [(2, (65535 : BitVec 16).toNat), (2, (1 : BitVec 16).toNat), (1, (0 :
      BitVec 8).toNat), (1, (16 : BitVec 8).toNat), (1, (16 : BitVec 8).toNat), (1, (16 : BitVec 8).toNat), (1, (1 : BitVec 8).toNat), (1,
      (2 : BitVec 8).toNat), (2, (2 : BitVec 16).toNat), (8, (0 : BitVec 64).toNat), (8, (0x1000 : BitVec 64).toNat), (8, (0x2000 : BitVec
      64).toNat), (8, (0x40 : BitVec 64).toNat)])) ∧ (went hosted 0x0500 c0 (pack [(2, (65535 : BitVec 16).toNat), (2, (1 : BitVec
      16).toNat), (1, (0 : BitVec 8).toNat), (1, (16 : BitVec 8).toNat), (1, (16 : BitVec 8).toNat), (1, (16 : BitVec 8).toNat), (1, (1 :
      BitVec 8).toNat), (1, (2 : BitVec 8).toNat), (2, (2 : BitVec 16).toNat), (8, (0 : BitVec 64).toNat), (8, (0x1000 : BitVec
      64).toNat), (8, (0x2000 : BitVec 64).toNat), (8, (0x40 : BitVec 64).toNat)])).serves (keyPort (pathFn c0.path)) = true ∧ ((went
      hosted 0x0500 c0 (pack [(2, (65535 : BitVec 16).toNat), (2, (1 : BitVec 16).toNat), (1, (0 : BitVec 8).toNat), (1, (16 : BitVec
      8).toNat), (1, (16 : BitVec 8).toNat), (1, (16 : BitVec 8).toNat), (1, (1 : BitVec 8).toNat), (1, (2 : BitVec 8).toNat), (2, (2 :
      BitVec 16).toNat), (8, (0 : BitVec 64).toNat), (8, (0x1000 : BitVec 64).toNat), (8, (0x2000 : BitVec 64).toNat), (8, (0x40 : BitVec
      64).toNat)])).ctx (65535 : BitVec 16).toNat).valid = false :=
  ⟨ready_starts _ _ _ _ _ (by decide), by decide, by decide⟩

theorem witness_HostCommandsComplete_4 :
    Starts (ready foreign 0x0500 c0 (pack [(2, (1 : BitVec 16).toNat), (2, (1 : BitVec 16).toNat), (1, (0 : BitVec 8).toNat), (1, (16 :
      BitVec 8).toNat), (1, (16 : BitVec 8).toNat), (1, (16 : BitVec 8).toNat), (1, (1 : BitVec 8).toNat), (1, (2 : BitVec 8).toNat), (2,
      (2 : BitVec 16).toNat), (8, (0 : BitVec 64).toNat), (8, (0x1000 : BitVec 64).toNat), (8, (0x2000 : BitVec 64).toNat), (8, (0x40 :
      BitVec 64).toNat)])) .f 0x0500 c0 (pack [(2, (1 : BitVec 16).toNat), (2, (1 : BitVec 16).toNat), (1, (0 : BitVec 8).toNat), (1, (16
      : BitVec 8).toNat), (1, (16 : BitVec 8).toNat), (1, (16 : BitVec 8).toNat), (1, (1 : BitVec 8).toNat), (1, (2 : BitVec 8).toNat),
      (2, (2 : BitVec 16).toNat), (8, (0 : BitVec 64).toNat), (8, (0x1000 : BitVec 64).toNat), (8, (0x2000 : BitVec 64).toNat), (8, (0x40
      : BitVec 64).toNat)]) 0 (went foreign 0x0500 c0 (pack [(2, (1 : BitVec 16).toNat), (2, (1 : BitVec 16).toNat), (1, (0 : BitVec
      8).toNat), (1, (16 : BitVec 8).toNat), (1, (16 : BitVec 8).toNat), (1, (16 : BitVec 8).toNat), (1, (1 : BitVec 8).toNat), (1, (2 :
      BitVec 8).toNat), (2, (2 : BitVec 16).toNat), (8, (0 : BitVec 64).toNat), (8, (0x1000 : BitVec 64).toNat), (8, (0x2000 : BitVec
      64).toNat), (8, (0x40 : BitVec 64).toNat)])) ∧ (went foreign 0x0500 c0 (pack [(2, (1 : BitVec 16).toNat), (2, (1 : BitVec
      16).toNat), (1, (0 : BitVec 8).toNat), (1, (16 : BitVec 8).toNat), (1, (16 : BitVec 8).toNat), (1, (16 : BitVec 8).toNat), (1, (1 :
      BitVec 8).toNat), (1, (2 : BitVec 8).toNat), (2, (2 : BitVec 16).toNat), (8, (0 : BitVec 64).toNat), (8, (0x1000 : BitVec
      64).toNat), (8, (0x2000 : BitVec 64).toNat), (8, (0x40 : BitVec 64).toNat)])).serves (keyPort (pathFn c0.path)) = true ∧ ((went
      foreign 0x0500 c0 (pack [(2, (1 : BitVec 16).toNat), (2, (1 : BitVec 16).toNat), (1, (0 : BitVec 8).toNat), (1, (16 : BitVec
      8).toNat), (1, (16 : BitVec 8).toNat), (1, (16 : BitVec 8).toNat), (1, (1 : BitVec 8).toNat), (1, (2 : BitVec 8).toNat), (2, (2 :
      BitVec 16).toNat), (8, (0 : BitVec 64).toNat), (8, (0x1000 : BitVec 64).toNat), (8, (0x2000 : BitVec 64).toNat), (8, (0x40 : BitVec
      64).toNat)])).ctx (1 : BitVec 16).toNat).valid = true ∧ fkey ((went foreign 0x0500 c0 (pack [(2, (1 : BitVec 16).toNat), (2, (1 :
      BitVec 16).toNat), (1, (0 : BitVec 8).toNat), (1, (16 : BitVec 8).toNat), (1, (16 : BitVec 8).toNat), (1, (16 : BitVec 8).toNat),
      (1, (1 : BitVec 8).toNat), (1, (2 : BitVec 8).toNat), (2, (2 : BitVec 16).toNat), (8, (0 : BitVec 64).toNat), (8, (0x1000 : BitVec
      64).toNat), (8, (0x2000 : BitVec 64).toNat), (8, (0x40 : BitVec 64).toNat)])).ctx (1 : BitVec 16).toNat).hport ((went foreign 0x0500
      c0 (pack [(2, (1 : BitVec 16).toNat), (2, (1 : BitVec 16).toNat), (1, (0 : BitVec 8).toNat), (1, (16 : BitVec 8).toNat), (1, (16 :
      BitVec 8).toNat), (1, (16 : BitVec 8).toNat), (1, (1 : BitVec 8).toNat), (1, (2 : BitVec 8).toNat), (2, (2 : BitVec 16).toNat), (8,
      (0 : BitVec 64).toNat), (8, (0x1000 : BitVec 64).toNat), (8, (0x2000 : BitVec 64).toNat), (8, (0x40 : BitVec 64).toNat)])).ctx (1 :
      BitVec 16).toNat).func ≠ pathFn c0.path :=
  ⟨ready_starts _ _ _ _ _ (by decide), by decide, by decide, by decide⟩

theorem witness_HostCommandsComplete_5 :
    Starts (ready hosted 0x0500 c0 (pack [(2, (1 : BitVec 16).toNat), (2, (1 : BitVec 16).toNat), (1, (0 : BitVec 8).toNat), (1, (16 :
      BitVec 8).toNat), (1, (16 : BitVec 8).toNat), (1, (16 : BitVec 8).toNat), (1, (1 : BitVec 8).toNat), (1, (1 : BitVec 8).toNat), (2,
      (2 : BitVec 16).toNat), (8, (0 : BitVec 64).toNat), (8, (0x1000 : BitVec 64).toNat), (8, (0x2000 : BitVec 64).toNat), (8, (0x40 :
      BitVec 64).toNat)])) .f 0x0500 c0 (pack [(2, (1 : BitVec 16).toNat), (2, (1 : BitVec 16).toNat), (1, (0 : BitVec 8).toNat), (1, (16
      : BitVec 8).toNat), (1, (16 : BitVec 8).toNat), (1, (16 : BitVec 8).toNat), (1, (1 : BitVec 8).toNat), (1, (1 : BitVec 8).toNat),
      (2, (2 : BitVec 16).toNat), (8, (0 : BitVec 64).toNat), (8, (0x1000 : BitVec 64).toNat), (8, (0x2000 : BitVec 64).toNat), (8, (0x40
      : BitVec 64).toNat)]) 0 (went hosted 0x0500 c0 (pack [(2, (1 : BitVec 16).toNat), (2, (1 : BitVec 16).toNat), (1, (0 : BitVec
      8).toNat), (1, (16 : BitVec 8).toNat), (1, (16 : BitVec 8).toNat), (1, (16 : BitVec 8).toNat), (1, (1 : BitVec 8).toNat), (1, (1 :
      BitVec 8).toNat), (2, (2 : BitVec 16).toNat), (8, (0 : BitVec 64).toNat), (8, (0x1000 : BitVec 64).toNat), (8, (0x2000 : BitVec
      64).toNat), (8, (0x40 : BitVec 64).toNat)])) ∧ (went hosted 0x0500 c0 (pack [(2, (1 : BitVec 16).toNat), (2, (1 : BitVec 16).toNat),
      (1, (0 : BitVec 8).toNat), (1, (16 : BitVec 8).toNat), (1, (16 : BitVec 8).toNat), (1, (16 : BitVec 8).toNat), (1, (1 : BitVec
      8).toNat), (1, (1 : BitVec 8).toNat), (2, (2 : BitVec 16).toNat), (8, (0 : BitVec 64).toNat), (8, (0x1000 : BitVec 64).toNat), (8,
      (0x2000 : BitVec 64).toNat), (8, (0x40 : BitVec 64).toNat)])).serves (keyPort (pathFn c0.path)) = true ∧ ((went hosted 0x0500 c0
      (pack [(2, (1 : BitVec 16).toNat), (2, (1 : BitVec 16).toNat), (1, (0 : BitVec 8).toNat), (1, (16 : BitVec 8).toNat), (1, (16 :
      BitVec 8).toNat), (1, (16 : BitVec 8).toNat), (1, (1 : BitVec 8).toNat), (1, (1 : BitVec 8).toNat), (2, (2 : BitVec 16).toNat), (8,
      (0 : BitVec 64).toNat), (8, (0x1000 : BitVec 64).toNat), (8, (0x2000 : BitVec 64).toNat), (8, (0x40 : BitVec 64).toNat)])).ctx (1 :
      BitVec 16).toNat).valid = true ∧ fkey ((went hosted 0x0500 c0 (pack [(2, (1 : BitVec 16).toNat), (2, (1 : BitVec 16).toNat), (1, (0
      : BitVec 8).toNat), (1, (16 : BitVec 8).toNat), (1, (16 : BitVec 8).toNat), (1, (16 : BitVec 8).toNat), (1, (1 : BitVec 8).toNat),
      (1, (1 : BitVec 8).toNat), (2, (2 : BitVec 16).toNat), (8, (0 : BitVec 64).toNat), (8, (0x1000 : BitVec 64).toNat), (8, (0x2000 :
      BitVec 64).toNat), (8, (0x40 : BitVec 64).toNat)])).ctx (1 : BitVec 16).toNat).hport ((went hosted 0x0500 c0 (pack [(2, (1 : BitVec
      16).toNat), (2, (1 : BitVec 16).toNat), (1, (0 : BitVec 8).toNat), (1, (16 : BitVec 8).toNat), (1, (16 : BitVec 8).toNat), (1, (16 :
      BitVec 8).toNat), (1, (1 : BitVec 8).toNat), (1, (1 : BitVec 8).toNat), (2, (2 : BitVec 16).toNat), (8, (0 : BitVec 64).toNat), (8,
      (0x1000 : BitVec 64).toNat), (8, (0x2000 : BitVec 64).toNat), (8, (0x40 : BitVec 64).toNat)])).ctx (1 : BitVec 16).toNat).func =
      pathFn c0.path ∧ (((went hosted 0x0500 c0 (pack [(2, (1 : BitVec 16).toNat), (2, (1 : BitVec 16).toNat), (1, (0 : BitVec 8).toNat),
      (1, (16 : BitVec 8).toNat), (1, (16 : BitVec 8).toNat), (1, (16 : BitVec 8).toNat), (1, (1 : BitVec 8).toNat), (1, (1 : BitVec
      8).toNat), (2, (2 : BitVec 16).toNat), (8, (0 : BitVec 64).toNat), (8, (0x1000 : BitVec 64).toNat), (8, (0x2000 : BitVec 64).toNat),
      (8, (0x40 : BitVec 64).toNat)])).eqAt (pathFn c0.path) (2 : BitVec 16).toNat).valid = false ∨ (went hosted 0x0500 c0 (pack [(2, (1 :
      BitVec 16).toNat), (2, (1 : BitVec 16).toNat), (1, (0 : BitVec 8).toNat), (1, (16 : BitVec 8).toNat), (1, (16 : BitVec 8).toNat),
      (1, (16 : BitVec 8).toNat), (1, (1 : BitVec 8).toNat), (1, (1 : BitVec 8).toNat), (2, (2 : BitVec 16).toNat), (8, (0 : BitVec
      64).toNat), (8, (0x1000 : BitVec 64).toNat), (8, (0x2000 : BitVec 64).toNat), (8, (0x40 : BitVec 64).toNat)])).qpParamsOk ({ hport := keyPort (pathFn c0.path), func := keyFunc (pathFn c0.path), ctx := (1 : BitVec 16).toNat, job := (1 : BitVec 16).toNat, gen := (0 : BitVec 8).toNat, sqLog := (16 : BitVec 8).toNat, rqLog := (16 : BitVec 8).toNat, cqLog := (16 : BitVec 8).toNat, dbMode := (1 : BitVec 8).toNat, batchN := (1 : BitVec 8).toNat, eq := (2 : BitVec 16).toNat, sqBase := (0 : BitVec 64).toNat, rqBase := (0x1000 : BitVec 64).toNat, cqBase := (0x2000 : BitVec 64).toNat, record := (0x40 : BitVec 64).toNat }
      : QpParams) = false) :=
  ⟨ready_starts _ _ _ _ _ (by decide), by decide, by decide, by decide, by decide⟩

theorem witness_HostCommandsComplete_6 :
    Starts (ready (unslotted 7168) 0x0500 c0 (pack [(2, (1 : BitVec 16).toNat), (2, (1 : BitVec 16).toNat), (1, (0 : BitVec 8).toNat), (1,
      (16 : BitVec 8).toNat), (1, (16 : BitVec 8).toNat), (1, (16 : BitVec 8).toNat), (1, (1 : BitVec 8).toNat), (1, (2 : BitVec
      8).toNat), (2, (2 : BitVec 16).toNat), (8, (0 : BitVec 64).toNat), (8, (0x1000 : BitVec 64).toNat), (8, (0x2000 : BitVec 64).toNat),
      (8, (0x40 : BitVec 64).toNat)])) .f 0x0500 c0 (pack [(2, (1 : BitVec 16).toNat), (2, (1 : BitVec 16).toNat), (1, (0 : BitVec
      8).toNat), (1, (16 : BitVec 8).toNat), (1, (16 : BitVec 8).toNat), (1, (16 : BitVec 8).toNat), (1, (1 : BitVec 8).toNat), (1, (2 :
      BitVec 8).toNat), (2, (2 : BitVec 16).toNat), (8, (0 : BitVec 64).toNat), (8, (0x1000 : BitVec 64).toNat), (8, (0x2000 : BitVec
      64).toNat), (8, (0x40 : BitVec 64).toNat)]) 0 (went (unslotted 7168) 0x0500 c0 (pack [(2, (1 : BitVec 16).toNat), (2, (1 : BitVec
      16).toNat), (1, (0 : BitVec 8).toNat), (1, (16 : BitVec 8).toNat), (1, (16 : BitVec 8).toNat), (1, (16 : BitVec 8).toNat), (1, (1 :
      BitVec 8).toNat), (1, (2 : BitVec 8).toNat), (2, (2 : BitVec 16).toNat), (8, (0 : BitVec 64).toNat), (8, (0x1000 : BitVec
      64).toNat), (8, (0x2000 : BitVec 64).toNat), (8, (0x40 : BitVec 64).toNat)])) ∧ (went (unslotted 7168) 0x0500 c0 (pack [(2, (1 :
      BitVec 16).toNat), (2, (1 : BitVec 16).toNat), (1, (0 : BitVec 8).toNat), (1, (16 : BitVec 8).toNat), (1, (16 : BitVec 8).toNat),
      (1, (16 : BitVec 8).toNat), (1, (1 : BitVec 8).toNat), (1, (2 : BitVec 8).toNat), (2, (2 : BitVec 16).toNat), (8, (0 : BitVec
      64).toNat), (8, (0x1000 : BitVec 64).toNat), (8, (0x2000 : BitVec 64).toNat), (8, (0x40 : BitVec 64).toNat)])).serves (keyPort
      (pathFn c0.path)) = true ∧ ((went (unslotted 7168) 0x0500 c0 (pack [(2, (1 : BitVec 16).toNat), (2, (1 : BitVec 16).toNat), (1, (0 :
      BitVec 8).toNat), (1, (16 : BitVec 8).toNat), (1, (16 : BitVec 8).toNat), (1, (16 : BitVec 8).toNat), (1, (1 : BitVec 8).toNat), (1,
      (2 : BitVec 8).toNat), (2, (2 : BitVec 16).toNat), (8, (0 : BitVec 64).toNat), (8, (0x1000 : BitVec 64).toNat), (8, (0x2000 : BitVec
      64).toNat), (8, (0x40 : BitVec 64).toNat)])).ctx (1 : BitVec 16).toNat).valid = true ∧ fkey ((went (unslotted 7168) 0x0500 c0 (pack
      [(2, (1 : BitVec 16).toNat), (2, (1 : BitVec 16).toNat), (1, (0 : BitVec 8).toNat), (1, (16 : BitVec 8).toNat), (1, (16 : BitVec
      8).toNat), (1, (16 : BitVec 8).toNat), (1, (1 : BitVec 8).toNat), (1, (2 : BitVec 8).toNat), (2, (2 : BitVec 16).toNat), (8, (0 :
      BitVec 64).toNat), (8, (0x1000 : BitVec 64).toNat), (8, (0x2000 : BitVec 64).toNat), (8, (0x40 : BitVec 64).toNat)])).ctx (1 :
      BitVec 16).toNat).hport ((went (unslotted 7168) 0x0500 c0 (pack [(2, (1 : BitVec 16).toNat), (2, (1 : BitVec 16).toNat), (1, (0 :
      BitVec 8).toNat), (1, (16 : BitVec 8).toNat), (1, (16 : BitVec 8).toNat), (1, (16 : BitVec 8).toNat), (1, (1 : BitVec 8).toNat), (1,
      (2 : BitVec 8).toNat), (2, (2 : BitVec 16).toNat), (8, (0 : BitVec 64).toNat), (8, (0x1000 : BitVec 64).toNat), (8, (0x2000 : BitVec
      64).toNat), (8, (0x40 : BitVec 64).toNat)])).ctx (1 : BitVec 16).toNat).func = pathFn c0.path ∧ ((went (unslotted 7168) 0x0500 c0
      (pack [(2, (1 : BitVec 16).toNat), (2, (1 : BitVec 16).toNat), (1, (0 : BitVec 8).toNat), (1, (16 : BitVec 8).toNat), (1, (16 :
      BitVec 8).toNat), (1, (16 : BitVec 8).toNat), (1, (1 : BitVec 8).toNat), (1, (2 : BitVec 8).toNat), (2, (2 : BitVec 16).toNat), (8,
      (0 : BitVec 64).toNat), (8, (0x1000 : BitVec 64).toNat), (8, (0x2000 : BitVec 64).toNat), (8, (0x40 : BitVec 64).toNat)])).eqAt
      (pathFn c0.path) (2 : BitVec 16).toNat).valid = true ∧ (went (unslotted 7168) 0x0500 c0 (pack [(2, (1 : BitVec 16).toNat), (2, (1 :
      BitVec 16).toNat), (1, (0 : BitVec 8).toNat), (1, (16 : BitVec 8).toNat), (1, (16 : BitVec 8).toNat), (1, (16 : BitVec 8).toNat),
      (1, (1 : BitVec 8).toNat), (1, (2 : BitVec 8).toNat), (2, (2 : BitVec 16).toNat), (8, (0 : BitVec 64).toNat), (8, (0x1000 : BitVec
      64).toNat), (8, (0x2000 : BitVec 64).toNat), (8, (0x40 : BitVec 64).toNat)])).qpParamsOk ({ hport := keyPort (pathFn c0.path), func := keyFunc (pathFn c0.path), ctx := (1 : BitVec 16).toNat, job := (1 : BitVec 16).toNat, gen := (0 : BitVec 8).toNat, sqLog := (16 : BitVec 8).toNat, rqLog := (16 : BitVec 8).toNat, cqLog := (16 : BitVec 8).toNat, dbMode := (1 : BitVec 8).toNat, batchN := (2 : BitVec 8).toNat, eq := (2 : BitVec 16).toNat, sqBase := (0 : BitVec 64).toNat, rqBase := (0x1000 : BitVec 64).toNat, cqBase := (0x2000 : BitVec 64).toNat, record := (0x40 : BitVec 64).toNat }
      : QpParams) = true ∧ ((went (unslotted 7168) 0x0500 c0 (pack [(2, (1 : BitVec 16).toNat), (2, (1 : BitVec 16).toNat), (1, (0 :
      BitVec 8).toNat), (1, (16 : BitVec 8).toNat), (1, (16 : BitVec 8).toNat), (1, (16 : BitVec 8).toNat), (1, (1 : BitVec 8).toNat), (1,
      (2 : BitVec 8).toNat), (2, (2 : BitVec 16).toNat), (8, (0 : BitVec 64).toNat), (8, (0x1000 : BitVec 64).toNat), (8, (0x2000 : BitVec
      64).toNat), (8, (0x40 : BitVec 64).toNat)])).freeQp.isNone = true ∨ ((went (unslotted 7168) 0x0500 c0 (pack [(2, (1 : BitVec
      16).toNat), (2, (1 : BitVec 16).toNat), (1, (0 : BitVec 8).toNat), (1, (16 : BitVec 8).toNat), (1, (16 : BitVec 8).toNat), (1, (16 :
      BitVec 8).toNat), (1, (1 : BitVec 8).toNat), (1, (2 : BitVec 8).toNat), (2, (2 : BitVec 16).toNat), (8, (0 : BitVec 64).toNat), (8,
      (0x1000 : BitVec 64).toNat), (8, (0x2000 : BitVec 64).toNat), (8, (0x40 : BitVec 64).toNat)])).freeSlot (pathFn c0.path)).isNone =
      true) :=
  ⟨ready_starts _ _ _ _ _ (by decide), by decide, by decide, by decide, by decide, by decide, Or.inr (congrArg Option.isNone
    (went_unslotted _ _ _ (Nat.le_refl _)))⟩

theorem witness_HostCommandsComplete_7 :
    Starts (ready hosted 0x0501 c0 (pack [(2, (1 : BitVec 16).toNat), (2, (2047 : BitVec 16).toNat), (1, (16 : BitVec 8).toNat), (8,
      (0x1000 : BitVec 64).toNat)])) .f 0x0501 c0 (pack [(2, (1 : BitVec 16).toNat), (2, (2047 : BitVec 16).toNat), (1, (16 : BitVec
      8).toNat), (8, (0x1000 : BitVec 64).toNat)]) 0 (went hosted 0x0501 c0 (pack [(2, (1 : BitVec 16).toNat), (2, (2047 : BitVec
      16).toNat), (1, (16 : BitVec 8).toNat), (8, (0x1000 : BitVec 64).toNat)])) ∧ (went hosted 0x0501 c0 (pack [(2, (1 : BitVec
      16).toNat), (2, (2047 : BitVec 16).toNat), (1, (16 : BitVec 8).toNat), (8, (0x1000 : BitVec 64).toNat)])).serves (keyPort (pathFn
      c0.path)) = true ∧ ((went hosted 0x0501 c0 (pack [(2, (1 : BitVec 16).toNat), (2, (2047 : BitVec 16).toNat), (1, (16 : BitVec
      8).toNat), (8, (0x1000 : BitVec 64).toNat)])).ctx (1 : BitVec 16).toNat).valid = true ∧ fkey ((went hosted 0x0501 c0 (pack [(2, (1 :
      BitVec 16).toNat), (2, (2047 : BitVec 16).toNat), (1, (16 : BitVec 8).toNat), (8, (0x1000 : BitVec 64).toNat)])).ctx (1 : BitVec
      16).toNat).hport ((went hosted 0x0501 c0 (pack [(2, (1 : BitVec 16).toNat), (2, (2047 : BitVec 16).toNat), (1, (16 : BitVec
      8).toNat), (8, (0x1000 : BitVec 64).toNat)])).ctx (1 : BitVec 16).toNat).func = pathFn c0.path ∧ (2047 : BitVec 16).toNat < maxVec
      (pathFn c0.path) ∧ ((went hosted 0x0501 c0 (pack [(2, (1 : BitVec 16).toNat), (2, (2047 : BitVec 16).toNat), (1, (16 : BitVec
      8).toNat), (8, (0x1000 : BitVec 64).toNat)])).eqAt (pathFn c0.path) (2047 : BitVec 16).toNat).valid = false ∧ ringLog (16 : BitVec
      8).toNat = true ∧ pageAligned (0x1000 : BitVec 64).toNat = true :=
  ⟨ready_starts _ _ _ _ _ (by decide), by decide, by decide, by decide, by decide, by decide, by decide, by decide⟩

theorem witness_HostCommandsComplete_8 :
    Starts (ready unserved 0x0501 c0 (pack [(2, (1 : BitVec 16).toNat), (2, (2047 : BitVec 16).toNat), (1, (16 : BitVec 8).toNat), (8,
      (0x1000 : BitVec 64).toNat)])) .f 0x0501 c0 (pack [(2, (1 : BitVec 16).toNat), (2, (2047 : BitVec 16).toNat), (1, (16 : BitVec
      8).toNat), (8, (0x1000 : BitVec 64).toNat)]) 0 (went unserved 0x0501 c0 (pack [(2, (1 : BitVec 16).toNat), (2, (2047 : BitVec
      16).toNat), (1, (16 : BitVec 8).toNat), (8, (0x1000 : BitVec 64).toNat)])) ∧ (went unserved 0x0501 c0 (pack [(2, (1 : BitVec
      16).toNat), (2, (2047 : BitVec 16).toNat), (1, (16 : BitVec 8).toNat), (8, (0x1000 : BitVec 64).toNat)])).serves (keyPort (pathFn
      c0.path)) = false :=
  ⟨ready_starts _ _ _ _ _ (by decide), by decide⟩

theorem witness_HostCommandsComplete_9 :
    Starts (ready hosted 0x0501 c0 (pack [(2, (65535 : BitVec 16).toNat), (2, (2047 : BitVec 16).toNat), (1, (16 : BitVec 8).toNat), (8,
      (0x1000 : BitVec 64).toNat)])) .f 0x0501 c0 (pack [(2, (65535 : BitVec 16).toNat), (2, (2047 : BitVec 16).toNat), (1, (16 : BitVec
      8).toNat), (8, (0x1000 : BitVec 64).toNat)]) 0 (went hosted 0x0501 c0 (pack [(2, (65535 : BitVec 16).toNat), (2, (2047 : BitVec
      16).toNat), (1, (16 : BitVec 8).toNat), (8, (0x1000 : BitVec 64).toNat)])) ∧ (went hosted 0x0501 c0 (pack [(2, (65535 : BitVec
      16).toNat), (2, (2047 : BitVec 16).toNat), (1, (16 : BitVec 8).toNat), (8, (0x1000 : BitVec 64).toNat)])).serves (keyPort (pathFn
      c0.path)) = true ∧ ((went hosted 0x0501 c0 (pack [(2, (65535 : BitVec 16).toNat), (2, (2047 : BitVec 16).toNat), (1, (16 : BitVec
      8).toNat), (8, (0x1000 : BitVec 64).toNat)])).ctx (65535 : BitVec 16).toNat).valid = false :=
  ⟨ready_starts _ _ _ _ _ (by decide), by decide, by decide⟩

theorem witness_HostCommandsComplete_10 :
    Starts (ready foreign 0x0501 c0 (pack [(2, (1 : BitVec 16).toNat), (2, (2047 : BitVec 16).toNat), (1, (16 : BitVec 8).toNat), (8,
      (0x1000 : BitVec 64).toNat)])) .f 0x0501 c0 (pack [(2, (1 : BitVec 16).toNat), (2, (2047 : BitVec 16).toNat), (1, (16 : BitVec
      8).toNat), (8, (0x1000 : BitVec 64).toNat)]) 0 (went foreign 0x0501 c0 (pack [(2, (1 : BitVec 16).toNat), (2, (2047 : BitVec
      16).toNat), (1, (16 : BitVec 8).toNat), (8, (0x1000 : BitVec 64).toNat)])) ∧ (went foreign 0x0501 c0 (pack [(2, (1 : BitVec
      16).toNat), (2, (2047 : BitVec 16).toNat), (1, (16 : BitVec 8).toNat), (8, (0x1000 : BitVec 64).toNat)])).serves (keyPort (pathFn
      c0.path)) = true ∧ ((went foreign 0x0501 c0 (pack [(2, (1 : BitVec 16).toNat), (2, (2047 : BitVec 16).toNat), (1, (16 : BitVec
      8).toNat), (8, (0x1000 : BitVec 64).toNat)])).ctx (1 : BitVec 16).toNat).valid = true ∧ fkey ((went foreign 0x0501 c0 (pack [(2, (1
      : BitVec 16).toNat), (2, (2047 : BitVec 16).toNat), (1, (16 : BitVec 8).toNat), (8, (0x1000 : BitVec 64).toNat)])).ctx (1 : BitVec
      16).toNat).hport ((went foreign 0x0501 c0 (pack [(2, (1 : BitVec 16).toNat), (2, (2047 : BitVec 16).toNat), (1, (16 : BitVec
      8).toNat), (8, (0x1000 : BitVec 64).toNat)])).ctx (1 : BitVec 16).toNat).func ≠ pathFn c0.path :=
  ⟨ready_starts _ _ _ _ _ (by decide), by decide, by decide, by decide⟩

theorem witness_HostCommandsComplete_11 :
    Starts (ready hosted 0x0501 c0 (pack [(2, (1 : BitVec 16).toNat), (2, (2048 : BitVec 16).toNat), (1, (16 : BitVec 8).toNat), (8,
      (0x1000 : BitVec 64).toNat)])) .f 0x0501 c0 (pack [(2, (1 : BitVec 16).toNat), (2, (2048 : BitVec 16).toNat), (1, (16 : BitVec
      8).toNat), (8, (0x1000 : BitVec 64).toNat)]) 0 (went hosted 0x0501 c0 (pack [(2, (1 : BitVec 16).toNat), (2, (2048 : BitVec
      16).toNat), (1, (16 : BitVec 8).toNat), (8, (0x1000 : BitVec 64).toNat)])) ∧ (went hosted 0x0501 c0 (pack [(2, (1 : BitVec
      16).toNat), (2, (2048 : BitVec 16).toNat), (1, (16 : BitVec 8).toNat), (8, (0x1000 : BitVec 64).toNat)])).serves (keyPort (pathFn
      c0.path)) = true ∧ ((went hosted 0x0501 c0 (pack [(2, (1 : BitVec 16).toNat), (2, (2048 : BitVec 16).toNat), (1, (16 : BitVec
      8).toNat), (8, (0x1000 : BitVec 64).toNat)])).ctx (1 : BitVec 16).toNat).valid = true ∧ fkey ((went hosted 0x0501 c0 (pack [(2, (1 :
      BitVec 16).toNat), (2, (2048 : BitVec 16).toNat), (1, (16 : BitVec 8).toNat), (8, (0x1000 : BitVec 64).toNat)])).ctx (1 : BitVec
      16).toNat).hport ((went hosted 0x0501 c0 (pack [(2, (1 : BitVec 16).toNat), (2, (2048 : BitVec 16).toNat), (1, (16 : BitVec
      8).toNat), (8, (0x1000 : BitVec 64).toNat)])).ctx (1 : BitVec 16).toNat).func = pathFn c0.path ∧ (maxVec (pathFn c0.path) ≤ (2048 :
      BitVec 16).toNat ∨ ((went hosted 0x0501 c0 (pack [(2, (1 : BitVec 16).toNat), (2, (2048 : BitVec 16).toNat), (1, (16 : BitVec
      8).toNat), (8, (0x1000 : BitVec 64).toNat)])).eqAt (pathFn c0.path) (2048 : BitVec 16).toNat).valid = true ∨ ringLog (16 : BitVec
      8).toNat = false ∨ pageAligned (0x1000 : BitVec 64).toNat = false) :=
  ⟨ready_starts _ _ _ _ _ (by decide), by decide, by decide, by decide, by decide⟩

theorem witness_HostCommandsComplete_12 :
    Starts (ready tst 0x0502 c0 (pack [(1, (63 : BitVec 8).toNat)])) .f 0x0502 c0 (pack [(1, (63 : BitVec 8).toNat)]) 0 (went tst 0x0502
      c0 (pack [(1, (63 : BitVec 8).toNat)])) ∧ (63 : BitVec 8).toNat ≤ 63 ∧ ((63 : BitVec 8).toNat = keyFunc (pathFn c0.path) ∨ keyFunc
      (pathFn c0.path) = 0) ∧ (63 : Nat) = fkey (keyPort (pathFn c0.path)) (63 : BitVec 8).toNat :=
  ⟨ready_starts _ _ _ _ _ (by decide), by decide, by decide, by decide⟩

theorem witness_HostCommandsComplete_13 :
    Starts (ready tst 0x0502 c0 (pack [(1, (64 : BitVec 8).toNat)])) .f 0x0502 c0 (pack [(1, (64 : BitVec 8).toNat)]) 0 (went tst 0x0502
      c0 (pack [(1, (64 : BitVec 8).toNat)])) ∧ 63 < (64 : BitVec 8).toNat :=
  ⟨ready_starts _ _ _ _ _ (by decide), by decide⟩

theorem witness_HostCommandsComplete_14 :
    Starts (ready tst 0x0502 cvf (pack [(1, (0 : BitVec 8).toNat)])) .f 0x0502 cvf (pack [(1, (0 : BitVec 8).toNat)]) 0 (went tst 0x0502
      cvf (pack [(1, (0 : BitVec 8).toNat)])) ∧ (0 : BitVec 8).toNat ≤ 63 ∧ (0 : BitVec 8).toNat ≠ keyFunc (pathFn cvf.path) ∧ keyFunc
      (pathFn cvf.path) ≠ 0 :=
  ⟨ready_starts _ _ _ _ _ (by decide), by decide, by decide, by decide⟩

theorem witness_HostCommandsComplete_15 :
    Starts (ready tst 0x0503 c0 (pack [(1, (63 : BitVec 8).toNat)])) .f 0x0503 c0 (pack [(1, (63 : BitVec 8).toNat)]) 0 (went tst 0x0503
      c0 (pack [(1, (63 : BitVec 8).toNat)])) ∧ (63 : BitVec 8).toNat ≤ 63 ∧ ((63 : BitVec 8).toNat = keyFunc (pathFn c0.path) ∨ keyFunc
      (pathFn c0.path) = 0) :=
  ⟨ready_starts _ _ _ _ _ (by decide), by decide, by decide⟩

theorem witness_HostCommandsComplete_16 :
    Starts (ready tst 0x0503 c0 (pack [(1, (64 : BitVec 8).toNat)])) .f 0x0503 c0 (pack [(1, (64 : BitVec 8).toNat)]) 0 (went tst 0x0503
      c0 (pack [(1, (64 : BitVec 8).toNat)])) ∧ 63 < (64 : BitVec 8).toNat :=
  ⟨ready_starts _ _ _ _ _ (by decide), by decide⟩

theorem witness_HostCommandsComplete_17 :
    Starts (ready tst 0x0503 cvf (pack [(1, (0 : BitVec 8).toNat)])) .f 0x0503 cvf (pack [(1, (0 : BitVec 8).toNat)]) 0 (went tst 0x0503
      cvf (pack [(1, (0 : BitVec 8).toNat)])) ∧ (0 : BitVec 8).toNat ≤ 63 ∧ (0 : BitVec 8).toNat ≠ keyFunc (pathFn cvf.path) ∧ keyFunc
      (pathFn cvf.path) ≠ 0 :=
  ⟨ready_starts _ _ _ _ _ (by decide), by decide, by decide, by decide⟩

theorem witness_HostCommandsComplete_18 :
    Starts (ready hosted 0x0504 c0 (pack [(4, (5 : BitVec 32).toNat)])) .f 0x0504 c0 (pack [(4, (5 : BitVec 32).toNat)]) 0 (went hosted
      0x0504 c0 (pack [(4, (5 : BitVec 32).toNat)])) ∧ ((went hosted 0x0504 c0 (pack [(4, (5 : BitVec 32).toNat)])).qp (5 : BitVec
      32).toNat).valid = true ∧ ((went hosted 0x0504 c0 (pack [(4, (5 : BitVec 32).toNat)])).qp (5 : BitVec 32).toNat).func = pathFn
      c0.path :=
  ⟨ready_starts _ _ _ _ _ (by decide), by decide, by decide⟩

theorem witness_HostCommandsComplete_19 :
    Starts (ready hosted 0x0504 c0 (pack [(4, (262143 : BitVec 32).toNat)])) .f 0x0504 c0 (pack [(4, (262143 : BitVec 32).toNat)]) 0 (went
      hosted 0x0504 c0 (pack [(4, (262143 : BitVec 32).toNat)])) ∧ ((went hosted 0x0504 c0 (pack [(4, (262143 : BitVec 32).toNat)])).qp
      (262143 : BitVec 32).toNat).valid = false :=
  ⟨ready_starts _ _ _ _ _ (by decide), by decide⟩

theorem witness_HostCommandsComplete_20 :
    Starts (ready foreign 0x0504 c0 (pack [(4, (5 : BitVec 32).toNat)])) .f 0x0504 c0 (pack [(4, (5 : BitVec 32).toNat)]) 0 (went foreign
      0x0504 c0 (pack [(4, (5 : BitVec 32).toNat)])) ∧ ((went foreign 0x0504 c0 (pack [(4, (5 : BitVec 32).toNat)])).qp (5 : BitVec
      32).toNat).valid = true ∧ ((went foreign 0x0504 c0 (pack [(4, (5 : BitVec 32).toNat)])).qp (5 : BitVec 32).toNat).func ≠ pathFn
      c0.path :=
  ⟨ready_starts _ _ _ _ _ (by decide), by decide, by decide⟩

theorem witness_HostCommandsComplete_21 :
    Starts (ready tst 0x0505 c0 []) .p 0x0505 c0 [] 0 (went tst 0x0505 c0 []) :=
  ready_starts _ _ _ _ _ (by decide)

theorem witness_HostCommandsComplete_22 :
    Starts (ready tst 0x0506 c0 (pack [(1, (1 : BitVec 8).toNat)])) .p 0x0506 c0 (pack [(1, (1 : BitVec 8).toNat)]) 0 (went tst 0x0506 c0
      (pack [(1, (1 : BitVec 8).toNat)])) ∧ (1 : BitVec 8).toNat ≤ 1 :=
  ⟨ready_starts _ _ _ _ _ (by decide), by decide⟩

theorem witness_HostCommandsComplete_23 :
    Starts (ready tst 0x0506 c0 (pack [(1, (2 : BitVec 8).toNat)])) .p 0x0506 c0 (pack [(1, (2 : BitVec 8).toNat)]) 0 (went tst 0x0506 c0
      (pack [(1, (2 : BitVec 8).toNat)])) ∧ 1 < (2 : BitVec 8).toNat :=
  ⟨ready_starts _ _ _ _ _ (by decide), by decide⟩

theorem witness_HostCommandsComplete_24 :
    Starts (ready tst 0x0507 c0 (pack [(1, (64 : BitVec 8).toNat)])) .d 0x0507 c0 (pack [(1, (64 : BitVec 8).toNat)]) 0 (went tst 0x0507
      c0 (pack [(1, (64 : BitVec 8).toNat)])) ∧ R.QUE_CFG_POLL_RATE.allows (64 : BitVec 8).toNat = true :=
  ⟨ready_starts _ _ _ _ _ (by decide), by decide⟩

theorem witness_HostCommandsComplete_25 :
    Starts (ready tst 0x0507 c0 (pack [(1, (255 : BitVec 8).toNat)])) .d 0x0507 c0 (pack [(1, (255 : BitVec 8).toNat)]) 0 (went tst 0x0507
      c0 (pack [(1, (255 : BitVec 8).toNat)])) ∧ R.QUE_CFG_POLL_RATE.allows (255 : BitVec 8).toNat = false :=
  ⟨ready_starts _ _ _ _ _ (by decide), by decide⟩

theorem witness_HostCommandsComplete_26 :
    Starts (ready hosted 0x0508 c0 (pack [(2, (65535 : BitVec 16).toNat), (4, (16777216 : BitVec 32).toNat)])) .d 0x0508 c0 (pack [(2,
      (65535 : BitVec 16).toNat), (4, (16777216 : BitVec 32).toNat)]) 0 (went hosted 0x0508 c0 (pack [(2, (65535 : BitVec 16).toNat), (4,
      (16777216 : BitVec 32).toNat)])) ∧ (65535 : BitVec 16).toNat ≠ 0 ∧ 1 ≤ (16777216 : BitVec 32).toNat ∧ (16777216 : BitVec 32).toNat ≤
      16777216 ∧ (went hosted 0x0508 c0 (pack [(2, (65535 : BitVec 16).toNat), (4, (16777216 : BitVec 32).toNat)])).jobBound (65535 :
      BitVec 16).toNat = false ∧ (went hosted 0x0508 c0 (pack [(2, (65535 : BitVec 16).toNat), (4, (16777216 : BitVec
      32).toNat)])).freeJobSlot = some (2 : Nat) ∧ freeRun (went hosted 0x0508 c0 (pack [(2, (65535 : BitVec 16).toNat), (4, (16777216 :
      BitVec 32).toNat)])).tableRuns 0 ((went hosted 0x0508 c0 (pack [(2, (65535 : BitVec 16).toNat), (4, (16777216 : BitVec
      32).toNat)])).regionSize 7 / 2 ^ 20) (tableMib (16777216 : BitVec 32).toNat) = some (2 : Nat) :=
  ⟨ready_starts _ _ _ _ _ (by decide), by decide, by decide, by decide, by decide, by decide, by decide⟩

theorem witness_HostCommandsComplete_27 :
    Starts (ready tst 0x0508 c0 (pack [(2, (1 : BitVec 16).toNat), (4, (16777217 : BitVec 32).toNat)])) .d 0x0508 c0 (pack [(2, (1 :
      BitVec 16).toNat), (4, (16777217 : BitVec 32).toNat)]) 0 (went tst 0x0508 c0 (pack [(2, (1 : BitVec 16).toNat), (4, (16777217 :
      BitVec 32).toNat)])) ∧ ((1 : BitVec 16).toNat = 0 ∨ (16777217 : BitVec 32).toNat < 1 ∨ 16777216 < (16777217 : BitVec 32).toNat) :=
  ⟨ready_starts _ _ _ _ _ (by decide), by decide⟩

theorem witness_HostCommandsComplete_28 :
    Starts (ready hosted 0x0508 c0 (pack [(2, (1 : BitVec 16).toNat), (4, (1 : BitVec 32).toNat)])) .d 0x0508 c0 (pack [(2, (1 : BitVec
      16).toNat), (4, (1 : BitVec 32).toNat)]) 0 (went hosted 0x0508 c0 (pack [(2, (1 : BitVec 16).toNat), (4, (1 : BitVec 32).toNat)])) ∧
      (1 : BitVec 16).toNat ≠ 0 ∧ 1 ≤ (1 : BitVec 32).toNat ∧ (1 : BitVec 32).toNat ≤ 16777216 ∧ (went hosted 0x0508 c0 (pack [(2, (1 :
      BitVec 16).toNat), (4, (1 : BitVec 32).toNat)])).jobBound (1 : BitVec 16).toNat = true :=
  ⟨ready_starts _ _ _ _ _ (by decide), by decide, by decide, by decide, by decide⟩

theorem witness_HostCommandsComplete_29 :
    Starts (ready tst 0x0508 c0 (pack [(2, (1 : BitVec 16).toNat), (4, (1 : BitVec 32).toNat)])) .d 0x0508 c0 (pack [(2, (1 : BitVec
      16).toNat), (4, (1 : BitVec 32).toNat)]) 0 (went tst 0x0508 c0 (pack [(2, (1 : BitVec 16).toNat), (4, (1 : BitVec 32).toNat)])) ∧ (1
      : BitVec 16).toNat ≠ 0 ∧ 1 ≤ (1 : BitVec 32).toNat ∧ (1 : BitVec 32).toNat ≤ 16777216 ∧ (went tst 0x0508 c0 (pack [(2, (1 : BitVec
      16).toNat), (4, (1 : BitVec 32).toNat)])).jobBound (1 : BitVec 16).toNat = false ∧ ((went tst 0x0508 c0 (pack [(2, (1 : BitVec
      16).toNat), (4, (1 : BitVec 32).toNat)])).freeJobSlot = none ∨ freeRun (went tst 0x0508 c0 (pack [(2, (1 : BitVec 16).toNat), (4, (1
      : BitVec 32).toNat)])).tableRuns 0 ((went tst 0x0508 c0 (pack [(2, (1 : BitVec 16).toNat), (4, (1 : BitVec 32).toNat)])).regionSize
      7 / 2 ^ 20) (tableMib (1 : BitVec 32).toNat) = none) :=
  ⟨ready_starts _ _ _ _ _ (by decide), by decide, by decide, by decide, by decide, by decide⟩

theorem witness_HostCommandsComplete_30 :
    Starts (ready hosted 0x0509 c0 (pack [(2, (2 : BitVec 16).toNat), (1, (0 : BitVec 8).toNat)])) .d 0x0509 c0 (pack [(2, (2 : BitVec
      16).toNat), (1, (0 : BitVec 8).toNat)]) 0 (went hosted 0x0509 c0 (pack [(2, (2 : BitVec 16).toNat), (1, (0 : BitVec 8).toNat)])) ∧
      (went hosted 0x0509 c0 (pack [(2, (2 : BitVec 16).toNat), (1, (0 : BitVec 8).toNat)])).jobIs (2 : BitVec 16).toNat (0 : BitVec
      8).toNat = true ∧ (went hosted 0x0509 c0 (pack [(2, (2 : BitVec 16).toNat), (1, (0 : BitVec 8).toNat)])).jobInUse (2 : BitVec
      16).toNat = false :=
  ⟨ready_starts _ _ _ _ _ (by decide), by decide, by decide⟩

theorem witness_HostCommandsComplete_31 :
    Starts (ready hosted 0x0509 c0 (pack [(2, (1 : BitVec 16).toNat), (1, (0 : BitVec 8).toNat)])) .d 0x0509 c0 (pack [(2, (1 : BitVec
      16).toNat), (1, (0 : BitVec 8).toNat)]) 0 (went hosted 0x0509 c0 (pack [(2, (1 : BitVec 16).toNat), (1, (0 : BitVec 8).toNat)])) ∧
      (went hosted 0x0509 c0 (pack [(2, (1 : BitVec 16).toNat), (1, (0 : BitVec 8).toNat)])).jobIs (1 : BitVec 16).toNat (0 : BitVec
      8).toNat = true ∧ (went hosted 0x0509 c0 (pack [(2, (1 : BitVec 16).toNat), (1, (0 : BitVec 8).toNat)])).jobInUse (1 : BitVec
      16).toNat = true :=
  ⟨ready_starts _ _ _ _ _ (by decide), by decide, by decide⟩

theorem witness_HostCommandsComplete_32 :
    Starts (ready hosted 0x0509 c0 (pack [(2, (1 : BitVec 16).toNat), (1, (1 : BitVec 8).toNat)])) .d 0x0509 c0 (pack [(2, (1 : BitVec
      16).toNat), (1, (1 : BitVec 8).toNat)]) 0 (went hosted 0x0509 c0 (pack [(2, (1 : BitVec 16).toNat), (1, (1 : BitVec 8).toNat)])) ∧
      (went hosted 0x0509 c0 (pack [(2, (1 : BitVec 16).toNat), (1, (1 : BitVec 8).toNat)])).jobIs (1 : BitVec 16).toNat (1 : BitVec
      8).toNat = false :=
  ⟨ready_starts _ _ _ _ _ (by decide), by decide⟩

theorem witness_HostCommandsComplete_33 :
    Starts (ready hosted 0x050A c0 (pack [(2, (1 : BitVec 16).toNat), (1, (0 : BitVec 8).toNat), (4, (7 : BitVec 32).toNat), (8, (0 :
      BitVec 64).toNat)])) .d 0x050A c0 (pack [(2, (1 : BitVec 16).toNat), (1, (0 : BitVec 8).toNat), (4, (7 : BitVec 32).toNat), (8, (0 :
      BitVec 64).toNat)]) 0 (went hosted 0x050A c0 (pack [(2, (1 : BitVec 16).toNat), (1, (0 : BitVec 8).toNat), (4, (7 : BitVec
      32).toNat), (8, (0 : BitVec 64).toNat)])) ∧ (went hosted 0x050A c0 (pack [(2, (1 : BitVec 16).toNat), (1, (0 : BitVec 8).toNat), (4,
      (7 : BitVec 32).toNat), (8, (0 : BitVec 64).toNat)])).jobIs (1 : BitVec 16).toNat (0 : BitVec 8).toNat = true ∧ (7 : BitVec
      32).toNat < tget 0 (went hosted 0x050A c0 (pack [(2, (1 : BitVec 16).toNat), (1, (0 : BitVec 8).toNat), (4, (7 : BitVec 32).toNat),
      (8, (0 : BitVec 64).toNat)])).host.jobRanks (1 : BitVec 16).toNat ∧ (went hosted 0x050A c0 (pack [(2, (1 : BitVec 16).toNat), (1, (0
      : BitVec 8).toNat), (4, (7 : BitVec 32).toNat), (8, (0 : BitVec 64).toNat)])).rankEntryOk (0 : BitVec 64).toNat = true :=
  ⟨ready_starts _ _ _ _ _ (by decide), by decide, by decide, by decide⟩

theorem witness_HostCommandsComplete_34 :
    Starts (ready hosted 0x050A c0 (pack [(2, (1 : BitVec 16).toNat), (1, (0 : BitVec 8).toNat), (4, (8 : BitVec 32).toNat), (8, (0 :
      BitVec 64).toNat)])) .d 0x050A c0 (pack [(2, (1 : BitVec 16).toNat), (1, (0 : BitVec 8).toNat), (4, (8 : BitVec 32).toNat), (8, (0 :
      BitVec 64).toNat)]) 0 (went hosted 0x050A c0 (pack [(2, (1 : BitVec 16).toNat), (1, (0 : BitVec 8).toNat), (4, (8 : BitVec
      32).toNat), (8, (0 : BitVec 64).toNat)])) ∧ ((went hosted 0x050A c0 (pack [(2, (1 : BitVec 16).toNat), (1, (0 : BitVec 8).toNat),
      (4, (8 : BitVec 32).toNat), (8, (0 : BitVec 64).toNat)])).jobIs (1 : BitVec 16).toNat (0 : BitVec 8).toNat = false ∨ tget 0 (went
      hosted 0x050A c0 (pack [(2, (1 : BitVec 16).toNat), (1, (0 : BitVec 8).toNat), (4, (8 : BitVec 32).toNat), (8, (0 : BitVec
      64).toNat)])).host.jobRanks (1 : BitVec 16).toNat ≤ (8 : BitVec 32).toNat ∨ (went hosted 0x050A c0 (pack [(2, (1 : BitVec
      16).toNat), (1, (0 : BitVec 8).toNat), (4, (8 : BitVec 32).toNat), (8, (0 : BitVec 64).toNat)])).rankEntryOk (0 : BitVec 64).toNat =
      false) :=
  ⟨ready_starts _ _ _ _ _ (by decide), by decide⟩

theorem witness_HostCommandsComplete_35 :
    Starts (ready hosted 0x050B c0 (pack [(2, (1 : BitVec 16).toNat), (1, (0 : BitVec 8).toNat), (4, (7 : BitVec 32).toNat), (4, (1 :
      BitVec 32).toNat), (8, (0 : BitVec 64).toNat)])) .p 0x050B c0 (pack [(2, (1 : BitVec 16).toNat), (1, (0 : BitVec 8).toNat), (4, (7 :
      BitVec 32).toNat), (4, (1 : BitVec 32).toNat), (8, (0 : BitVec 64).toNat)]) 0 (went hosted 0x050B c0 (pack [(2, (1 : BitVec
      16).toNat), (1, (0 : BitVec 8).toNat), (4, (7 : BitVec 32).toNat), (4, (1 : BitVec 32).toNat), (8, (0 : BitVec 64).toNat)])) ∧ (went
      hosted 0x050B c0 (pack [(2, (1 : BitVec 16).toNat), (1, (0 : BitVec 8).toNat), (4, (7 : BitVec 32).toNat), (4, (1 : BitVec
      32).toNat), (8, (0 : BitVec 64).toNat)])).jobIs (1 : BitVec 16).toNat (0 : BitVec 8).toNat = true ∧ (7 : BitVec 32).toNat + (1 :
      BitVec 32).toNat ≤ tget 0 (went hosted 0x050B c0 (pack [(2, (1 : BitVec 16).toNat), (1, (0 : BitVec 8).toNat), (4, (7 : BitVec
      32).toNat), (4, (1 : BitVec 32).toNat), (8, (0 : BitVec 64).toNat)])).host.jobRanks (1 : BitVec 16).toNat ∧ 0 < (1 : BitVec
      32).toNat ∧ (some (List.replicate 8 0) : HostRead) = some ((List.replicate 8 0) : List Byte) ∧ ((List.replicate 8 0) : List
      Byte).length = 8 * (1 : BitVec 32).toNat ∧ (words8 (1 : BitVec 32).toNat ((List.replicate 8 0) : List Byte)).all ((went hosted
      0x050B c0 (pack [(2, (1 : BitVec 16).toNat), (1, (0 : BitVec 8).toNat), (4, (7 : BitVec 32).toNat), (4, (1 : BitVec 32).toNat), (8,
      (0 : BitVec 64).toNat)])).hostRead (cmdReq c0 (0 : BitVec 64).toNat) (8 * (1 : BitVec 32).toNat) : State).rankEntryOk = true :=
  ⟨ready_starts _ _ _ _ _ (by decide), by decide, by decide, by decide, by decide, by decide, by decide⟩

theorem witness_HostCommandsComplete_36 :
    Starts (ready hosted 0x050B c0 (pack [(2, (1 : BitVec 16).toNat), (1, (0 : BitVec 8).toNat), (4, (7 : BitVec 32).toNat), (4, (2 :
      BitVec 32).toNat), (8, (0 : BitVec 64).toNat)])) .p 0x050B c0 (pack [(2, (1 : BitVec 16).toNat), (1, (0 : BitVec 8).toNat), (4, (7 :
      BitVec 32).toNat), (4, (2 : BitVec 32).toNat), (8, (0 : BitVec 64).toNat)]) 0 (went hosted 0x050B c0 (pack [(2, (1 : BitVec
      16).toNat), (1, (0 : BitVec 8).toNat), (4, (7 : BitVec 32).toNat), (4, (2 : BitVec 32).toNat), (8, (0 : BitVec 64).toNat)])) ∧
      ((went hosted 0x050B c0 (pack [(2, (1 : BitVec 16).toNat), (1, (0 : BitVec 8).toNat), (4, (7 : BitVec 32).toNat), (4, (2 : BitVec
      32).toNat), (8, (0 : BitVec 64).toNat)])).jobIs (1 : BitVec 16).toNat (0 : BitVec 8).toNat = false ∨ tget 0 (went hosted 0x050B c0
      (pack [(2, (1 : BitVec 16).toNat), (1, (0 : BitVec 8).toNat), (4, (7 : BitVec 32).toNat), (4, (2 : BitVec 32).toNat), (8, (0 :
      BitVec 64).toNat)])).host.jobRanks (1 : BitVec 16).toNat < (7 : BitVec 32).toNat + (2 : BitVec 32).toNat) :=
  ⟨ready_starts _ _ _ _ _ (by decide), by decide⟩

theorem witness_HostCommandsComplete_37 :
    Starts (ready hosted 0x050B c0 (pack [(2, (1 : BitVec 16).toNat), (1, (0 : BitVec 8).toNat), (4, (7 : BitVec 32).toNat), (4, (1 :
      BitVec 32).toNat), (8, (0 : BitVec 64).toNat)])) .p 0x050B c0 (pack [(2, (1 : BitVec 16).toNat), (1, (0 : BitVec 8).toNat), (4, (7 :
      BitVec 32).toNat), (4, (1 : BitVec 32).toNat), (8, (0 : BitVec 64).toNat)]) 0 (went hosted 0x050B c0 (pack [(2, (1 : BitVec
      16).toNat), (1, (0 : BitVec 8).toNat), (4, (7 : BitVec 32).toNat), (4, (1 : BitVec 32).toNat), (8, (0 : BitVec 64).toNat)])) ∧ (went
      hosted 0x050B c0 (pack [(2, (1 : BitVec 16).toNat), (1, (0 : BitVec 8).toNat), (4, (7 : BitVec 32).toNat), (4, (1 : BitVec
      32).toNat), (8, (0 : BitVec 64).toNat)])).jobIs (1 : BitVec 16).toNat (0 : BitVec 8).toNat = true ∧ (7 : BitVec 32).toNat + (1 :
      BitVec 32).toNat ≤ tget 0 (went hosted 0x050B c0 (pack [(2, (1 : BitVec 16).toNat), (1, (0 : BitVec 8).toNat), (4, (7 : BitVec
      32).toNat), (4, (1 : BitVec 32).toNat), (8, (0 : BitVec 64).toNat)])).host.jobRanks (1 : BitVec 16).toNat ∧ 0 < (1 : BitVec
      32).toNat ∧ (none : HostRead) = none :=
  ⟨ready_starts _ _ _ _ _ (by decide), by decide, by decide, by decide, by decide⟩

theorem witness_HostCommandsComplete_38 :
    Starts (ready hosted 0x050B c0 (pack [(2, (1 : BitVec 16).toNat), (1, (0 : BitVec 8).toNat), (4, (8 : BitVec 32).toNat), (4, (0 :
      BitVec 32).toNat), (8, (0 : BitVec 64).toNat)])) .p 0x050B c0 (pack [(2, (1 : BitVec 16).toNat), (1, (0 : BitVec 8).toNat), (4, (8 :
      BitVec 32).toNat), (4, (0 : BitVec 32).toNat), (8, (0 : BitVec 64).toNat)]) 0 (went hosted 0x050B c0 (pack [(2, (1 : BitVec
      16).toNat), (1, (0 : BitVec 8).toNat), (4, (8 : BitVec 32).toNat), (4, (0 : BitVec 32).toNat), (8, (0 : BitVec 64).toNat)])) ∧ (went
      hosted 0x050B c0 (pack [(2, (1 : BitVec 16).toNat), (1, (0 : BitVec 8).toNat), (4, (8 : BitVec 32).toNat), (4, (0 : BitVec
      32).toNat), (8, (0 : BitVec 64).toNat)])).jobIs (1 : BitVec 16).toNat (0 : BitVec 8).toNat = true ∧ (8 : BitVec 32).toNat + (0 :
      BitVec 32).toNat ≤ tget 0 (went hosted 0x050B c0 (pack [(2, (1 : BitVec 16).toNat), (1, (0 : BitVec 8).toNat), (4, (8 : BitVec
      32).toNat), (4, (0 : BitVec 32).toNat), (8, (0 : BitVec 64).toNat)])).host.jobRanks (1 : BitVec 16).toNat ∧ (0 : BitVec 32).toNat =
      0 ∧ (none : HostRead) = none :=
  ⟨ready_starts _ _ _ _ _ (by decide), by decide, by decide, by decide, by decide⟩

theorem witness_HostCommandsComplete_39 :
    Starts (ready hosted 0x050B c0 (pack [(2, (1 : BitVec 16).toNat), (1, (0 : BitVec 8).toNat), (4, (7 : BitVec 32).toNat), (4, (1 :
      BitVec 32).toNat), (8, (0 : BitVec 64).toNat)])) .p 0x050B c0 (pack [(2, (1 : BitVec 16).toNat), (1, (0 : BitVec 8).toNat), (4, (7 :
      BitVec 32).toNat), (4, (1 : BitVec 32).toNat), (8, (0 : BitVec 64).toNat)]) 0 (went hosted 0x050B c0 (pack [(2, (1 : BitVec
      16).toNat), (1, (0 : BitVec 8).toNat), (4, (7 : BitVec 32).toNat), (4, (1 : BitVec 32).toNat), (8, (0 : BitVec 64).toNat)])) ∧ (went
      hosted 0x050B c0 (pack [(2, (1 : BitVec 16).toNat), (1, (0 : BitVec 8).toNat), (4, (7 : BitVec 32).toNat), (4, (1 : BitVec
      32).toNat), (8, (0 : BitVec 64).toNat)])).jobIs (1 : BitVec 16).toNat (0 : BitVec 8).toNat = true ∧ (7 : BitVec 32).toNat + (1 :
      BitVec 32).toNat ≤ tget 0 (went hosted 0x050B c0 (pack [(2, (1 : BitVec 16).toNat), (1, (0 : BitVec 8).toNat), (4, (7 : BitVec
      32).toNat), (4, (1 : BitVec 32).toNat), (8, (0 : BitVec 64).toNat)])).host.jobRanks (1 : BitVec 16).toNat ∧ 0 < (1 : BitVec
      32).toNat ∧ (some (List.replicate 8 255) : HostRead) = some ((List.replicate 8 255) : List Byte) ∧ ((List.replicate 8 255) : List
      Byte).length = 8 * (1 : BitVec 32).toNat ∧ (words8 (1 : BitVec 32).toNat ((List.replicate 8 255) : List Byte)).all ((went hosted
      0x050B c0 (pack [(2, (1 : BitVec 16).toNat), (1, (0 : BitVec 8).toNat), (4, (7 : BitVec 32).toNat), (4, (1 : BitVec 32).toNat), (8,
      (0 : BitVec 64).toNat)])).hostRead (cmdReq c0 (0 : BitVec 64).toNat) (8 * (1 : BitVec 32).toNat) : State).rankEntryOk = false :=
  ⟨ready_starts _ _ _ _ _ (by decide), by decide, by decide, by decide, by decide, by decide, by decide⟩

theorem witness_HostCommandsComplete_40 :
    Starts (ready hosted 0x050C c0 (pack [(2, (1 : BitVec 16).toNat)])) .d 0x050C c0 (pack [(2, (1 : BitVec 16).toNat)]) 0 (went hosted
      0x050C c0 (pack [(2, (1 : BitVec 16).toNat)])) ∧ (went hosted 0x050C c0 (pack [(2, (1 : BitVec 16).toNat)])).jobBound (1 : BitVec
      16).toNat = true :=
  ⟨ready_starts _ _ _ _ _ (by decide), by decide⟩

theorem witness_HostCommandsComplete_41 :
    Starts (ready tst 0x050C c0 (pack [(2, (9 : BitVec 16).toNat)])) .d 0x050C c0 (pack [(2, (9 : BitVec 16).toNat)]) 0 (went tst 0x050C
      c0 (pack [(2, (9 : BitVec 16).toNat)])) ∧ (went tst 0x050C c0 (pack [(2, (9 : BitVec 16).toNat)])).jobBound (9 : BitVec 16).toNat =
      false :=
  ⟨ready_starts _ _ _ _ _ (by decide), by decide⟩

/-! ### TranslationCommandsComplete -/

theorem witness_TranslationCommandsComplete_1 :
    Starts (ready hosted 0x0600 c0 (pack [(1, (2 : BitVec 8).toNat), (1, (1 : BitVec 8).toNat), (1, (1 : BitVec 8).toNat), (1, (0 : BitVec
      8).toNat), (1, (1 : BitVec 8).toNat), (4, (0xFFFFF : BitVec 32).toNat), (8, (0x1000 : BitVec 64).toNat)])) .f 0x0600 c0 (pack [(1,
      (2 : BitVec 8).toNat), (1, (1 : BitVec 8).toNat), (1, (1 : BitVec 8).toNat), (1, (0 : BitVec 8).toNat), (1, (1 : BitVec 8).toNat),
      (4, (0xFFFFF : BitVec 32).toNat), (8, (0x1000 : BitVec 64).toNat)]) 0 (went hosted 0x0600 c0 (pack [(1, (2 : BitVec 8).toNat), (1,
      (1 : BitVec 8).toNat), (1, (1 : BitVec 8).toNat), (1, (0 : BitVec 8).toNat), (1, (1 : BitVec 8).toNat), (4, (0xFFFFF : BitVec
      32).toNat), (8, (0x1000 : BitVec 64).toNat)])) ∧ (keyFunc (pathFn c0.path) = 0 ∨ (1 : BitVec 8).toNat = 0) ∧ (2 : BitVec 8).toNat ≤
      2 ∧ (0x1000 : BitVec 64).toNat % 4096 = 0 ∧ (0x1000 : BitVec 64).toNat < 2 ^ 52 ∧ (went hosted 0x0600 c0 (pack [(1, (2 : BitVec
      8).toNat), (1, (1 : BitVec 8).toNat), (1, (1 : BitVec 8).toNat), (1, (0 : BitVec 8).toNat), (1, (1 : BitVec 8).toNat), (4, (0xFFFFF
      : BitVec 32).toNat), (8, (0x1000 : BitVec 64).toNat)])).inWalkRange (keyPort (pathFn c0.path)) (0x1000 : BitVec 64).toNat = true ∧
      ((0 : BitVec 8).toNat = 0 ∨ ((went hosted 0x0600 c0 (pack [(1, (2 : BitVec 8).toNat), (1, (1 : BitVec 8).toNat), (1, (1 : BitVec
      8).toNat), (1, (0 : BitVec 8).toNat), (1, (1 : BitVec 8).toNat), (4, (0xFFFFF : BitVec 32).toNat), (8, (0x1000 : BitVec
      64).toNat)])).func (pathFn c0.path)).cfg.atomicEn = true) ∧ (1 : BitVec 8).toNat ≤ 1 ∧ (1 : BitVec 8).toNat ≤ 1 ∧ (0 : BitVec
      8).toNat ≤ 1 ∧ (1 : BitVec 8).toNat ≤ 1 ∧ (0xFFFFF : BitVec 32).toNat < 2 ^ 20 ∧ (went hosted 0x0600 c0 (pack [(1, (2 : BitVec
      8).toNat), (1, (1 : BitVec 8).toNat), (1, (1 : BitVec 8).toNat), (1, (0 : BitVec 8).toNat), (1, (1 : BitVec 8).toNat), (4, (0xFFFFF
      : BitVec 32).toNat), (8, (0x1000 : BitVec 64).toNat)])).freeCtx = some (0 : Nat) ∧ (went hosted 0x0600 c0 (pack [(1, (2 : BitVec
      8).toNat), (1, (1 : BitVec 8).toNat), (1, (1 : BitVec 8).toNat), (1, (0 : BitVec 8).toNat), (1, (1 : BitVec 8).toNat), (4, (0xFFFFF
      : BitVec 32).toNat), (8, (0x1000 : BitVec 64).toNat)])).fnState (pathFn c0.path) = fsEnabled ∧ (went hosted 0x0600 c0 (pack [(1, (2
      : BitVec 8).toNat), (1, (1 : BitVec 8).toNat), (1, (1 : BitVec 8).toNat), (1, (0 : BitVec 8).toNat), (1, (1 : BitVec 8).toNat), (4,
      (0xFFFFF : BitVec 32).toNat), (8, (0x1000 : BitVec 64).toNat)])).serves (keyPort (pathFn c0.path)) = true :=
  ⟨ready_starts _ _ _ _ _ (by decide), by decide, by decide, by decide, by decide, by decide, by decide, by decide, by decide, by decide,
    by decide, by decide, by decide, by decide, by decide⟩

theorem witness_TranslationCommandsComplete_2 :
    Starts (ready unserved 0x0600 c0 (pack [(1, (2 : BitVec 8).toNat), (1, (1 : BitVec 8).toNat), (1, (1 : BitVec 8).toNat), (1, (0 :
      BitVec 8).toNat), (1, (1 : BitVec 8).toNat), (4, (0xFFFFF : BitVec 32).toNat), (8, (0x1000 : BitVec 64).toNat)])) .f 0x0600 c0 (pack
      [(1, (2 : BitVec 8).toNat), (1, (1 : BitVec 8).toNat), (1, (1 : BitVec 8).toNat), (1, (0 : BitVec 8).toNat), (1, (1 : BitVec
      8).toNat), (4, (0xFFFFF : BitVec 32).toNat), (8, (0x1000 : BitVec 64).toNat)]) 0 (went unserved 0x0600 c0 (pack [(1, (2 : BitVec
      8).toNat), (1, (1 : BitVec 8).toNat), (1, (1 : BitVec 8).toNat), (1, (0 : BitVec 8).toNat), (1, (1 : BitVec 8).toNat), (4, (0xFFFFF
      : BitVec 32).toNat), (8, (0x1000 : BitVec 64).toNat)])) ∧ (went unserved 0x0600 c0 (pack [(1, (2 : BitVec 8).toNat), (1, (1 : BitVec
      8).toNat), (1, (1 : BitVec 8).toNat), (1, (0 : BitVec 8).toNat), (1, (1 : BitVec 8).toNat), (4, (0xFFFFF : BitVec 32).toNat), (8,
      (0x1000 : BitVec 64).toNat)])).serves (keyPort (pathFn c0.path)) = false :=
  ⟨ready_starts _ _ _ _ _ (by decide), by decide⟩

theorem witness_TranslationCommandsComplete_3 :
    Starts (ready hosted 0x0600 cvf (pack [(1, (2 : BitVec 8).toNat), (1, (1 : BitVec 8).toNat), (1, (1 : BitVec 8).toNat), (1, (0 :
      BitVec 8).toNat), (1, (1 : BitVec 8).toNat), (4, (0xFFFFF : BitVec 32).toNat), (8, (0x1000 : BitVec 64).toNat)])) .f 0x0600 cvf
      (pack [(1, (2 : BitVec 8).toNat), (1, (1 : BitVec 8).toNat), (1, (1 : BitVec 8).toNat), (1, (0 : BitVec 8).toNat), (1, (1 : BitVec
      8).toNat), (4, (0xFFFFF : BitVec 32).toNat), (8, (0x1000 : BitVec 64).toNat)]) 0 (went hosted 0x0600 cvf (pack [(1, (2 : BitVec
      8).toNat), (1, (1 : BitVec 8).toNat), (1, (1 : BitVec 8).toNat), (1, (0 : BitVec 8).toNat), (1, (1 : BitVec 8).toNat), (4, (0xFFFFF
      : BitVec 32).toNat), (8, (0x1000 : BitVec 64).toNat)])) ∧ (went hosted 0x0600 cvf (pack [(1, (2 : BitVec 8).toNat), (1, (1 : BitVec
      8).toNat), (1, (1 : BitVec 8).toNat), (1, (0 : BitVec 8).toNat), (1, (1 : BitVec 8).toNat), (4, (0xFFFFF : BitVec 32).toNat), (8,
      (0x1000 : BitVec 64).toNat)])).serves (keyPort (pathFn cvf.path)) = true ∧ keyFunc (pathFn cvf.path) ≠ 0 ∧ (1 : BitVec 8).toNat ≠ 0
      :=
  ⟨ready_starts _ _ _ _ _ (by decide), by decide, by decide, by decide⟩

theorem witness_TranslationCommandsComplete_4 :
    Starts (ready hosted 0x0600 c0 (pack [(1, (3 : BitVec 8).toNat), (1, (1 : BitVec 8).toNat), (1, (1 : BitVec 8).toNat), (1, (0 : BitVec
      8).toNat), (1, (1 : BitVec 8).toNat), (4, (0xFFFFF : BitVec 32).toNat), (8, (0x1000 : BitVec 64).toNat)])) .f 0x0600 c0 (pack [(1,
      (3 : BitVec 8).toNat), (1, (1 : BitVec 8).toNat), (1, (1 : BitVec 8).toNat), (1, (0 : BitVec 8).toNat), (1, (1 : BitVec 8).toNat),
      (4, (0xFFFFF : BitVec 32).toNat), (8, (0x1000 : BitVec 64).toNat)]) 0 (went hosted 0x0600 c0 (pack [(1, (3 : BitVec 8).toNat), (1,
      (1 : BitVec 8).toNat), (1, (1 : BitVec 8).toNat), (1, (0 : BitVec 8).toNat), (1, (1 : BitVec 8).toNat), (4, (0xFFFFF : BitVec
      32).toNat), (8, (0x1000 : BitVec 64).toNat)])) ∧ (went hosted 0x0600 c0 (pack [(1, (3 : BitVec 8).toNat), (1, (1 : BitVec 8).toNat),
      (1, (1 : BitVec 8).toNat), (1, (0 : BitVec 8).toNat), (1, (1 : BitVec 8).toNat), (4, (0xFFFFF : BitVec 32).toNat), (8, (0x1000 :
      BitVec 64).toNat)])).serves (keyPort (pathFn c0.path)) = true ∧ (keyFunc (pathFn c0.path) = 0 ∨ (1 : BitVec 8).toNat = 0) ∧ (¬ ((3 :
      BitVec 8).toNat ≤ 2 ∧ (0x1000 : BitVec 64).toNat % 4096 = 0 ∧ (0x1000 : BitVec 64).toNat < 2 ^ 52 ∧ (went hosted 0x0600 c0 (pack
      [(1, (3 : BitVec 8).toNat), (1, (1 : BitVec 8).toNat), (1, (1 : BitVec 8).toNat), (1, (0 : BitVec 8).toNat), (1, (1 : BitVec
      8).toNat), (4, (0xFFFFF : BitVec 32).toNat), (8, (0x1000 : BitVec 64).toNat)])).inWalkRange (keyPort (pathFn c0.path)) (0x1000 :
      BitVec 64).toNat = true ∧ ((0 : BitVec 8).toNat = 0 ∨ ((went hosted 0x0600 c0 (pack [(1, (3 : BitVec 8).toNat), (1, (1 : BitVec
      8).toNat), (1, (1 : BitVec 8).toNat), (1, (0 : BitVec 8).toNat), (1, (1 : BitVec 8).toNat), (4, (0xFFFFF : BitVec 32).toNat), (8,
      (0x1000 : BitVec 64).toNat)])).func (pathFn c0.path)).cfg.atomicEn = true) ∧ (1 : BitVec 8).toNat ≤ 1 ∧ (1 : BitVec 8).toNat ≤ 1 ∧
      (0 : BitVec 8).toNat ≤ 1 ∧ (1 : BitVec 8).toNat ≤ 1 ∧ (0xFFFFF : BitVec 32).toNat < 2 ^ 20)) :=
  ⟨ready_starts _ _ _ _ _ (by decide), by decide, by decide, by decide⟩

theorem witness_TranslationCommandsComplete_5 :
    Starts (ready (uncontexted 65536) 0x0600 c0 (pack [(1, (2 : BitVec 8).toNat), (1, (1 : BitVec 8).toNat), (1, (1 : BitVec 8).toNat),
      (1, (0 : BitVec 8).toNat), (1, (1 : BitVec 8).toNat), (4, (0xFFFFF : BitVec 32).toNat), (8, (0x1000 : BitVec 64).toNat)])) .f 0x0600
      c0 (pack [(1, (2 : BitVec 8).toNat), (1, (1 : BitVec 8).toNat), (1, (1 : BitVec 8).toNat), (1, (0 : BitVec 8).toNat), (1, (1 :
      BitVec 8).toNat), (4, (0xFFFFF : BitVec 32).toNat), (8, (0x1000 : BitVec 64).toNat)]) 0 (went (uncontexted 65536) 0x0600 c0 (pack
      [(1, (2 : BitVec 8).toNat), (1, (1 : BitVec 8).toNat), (1, (1 : BitVec 8).toNat), (1, (0 : BitVec 8).toNat), (1, (1 : BitVec
      8).toNat), (4, (0xFFFFF : BitVec 32).toNat), (8, (0x1000 : BitVec 64).toNat)])) ∧ (went (uncontexted 65536) 0x0600 c0 (pack [(1, (2
      : BitVec 8).toNat), (1, (1 : BitVec 8).toNat), (1, (1 : BitVec 8).toNat), (1, (0 : BitVec 8).toNat), (1, (1 : BitVec 8).toNat), (4,
      (0xFFFFF : BitVec 32).toNat), (8, (0x1000 : BitVec 64).toNat)])).serves (keyPort (pathFn c0.path)) = true ∧ (keyFunc (pathFn
      c0.path) = 0 ∨ (1 : BitVec 8).toNat = 0) ∧ (2 : BitVec 8).toNat ≤ 2 ∧ (0x1000 : BitVec 64).toNat % 4096 = 0 ∧ (0x1000 : BitVec
      64).toNat < 2 ^ 52 ∧ (went (uncontexted 65536) 0x0600 c0 (pack [(1, (2 : BitVec 8).toNat), (1, (1 : BitVec 8).toNat), (1, (1 :
      BitVec 8).toNat), (1, (0 : BitVec 8).toNat), (1, (1 : BitVec 8).toNat), (4, (0xFFFFF : BitVec 32).toNat), (8, (0x1000 : BitVec
      64).toNat)])).inWalkRange (keyPort (pathFn c0.path)) (0x1000 : BitVec 64).toNat = true ∧ (((0 : BitVec 8).toNat = 0 ∨ ((went
      (uncontexted 65536) 0x0600 c0 (pack [(1, (2 : BitVec 8).toNat), (1, (1 : BitVec 8).toNat), (1, (1 : BitVec 8).toNat), (1, (0 :
      BitVec 8).toNat), (1, (1 : BitVec 8).toNat), (4, (0xFFFFF : BitVec 32).toNat), (8, (0x1000 : BitVec 64).toNat)])).func (pathFn
      c0.path)).cfg.atomicEn = true)) ∧ (1 : BitVec 8).toNat ≤ 1 ∧ (1 : BitVec 8).toNat ≤ 1 ∧ (0 : BitVec 8).toNat ≤ 1 ∧ (1 : BitVec
      8).toNat ≤ 1 ∧ (0xFFFFF : BitVec 32).toNat < 2 ^ 20 ∧ (went (uncontexted 65536) 0x0600 c0 (pack [(1, (2 : BitVec 8).toNat), (1, (1 :
      BitVec 8).toNat), (1, (1 : BitVec 8).toNat), (1, (0 : BitVec 8).toNat), (1, (1 : BitVec 8).toNat), (4, (0xFFFFF : BitVec 32).toNat),
      (8, (0x1000 : BitVec 64).toNat)])).freeCtx = none :=
  ⟨ready_starts _ _ _ _ _ (by decide), by decide, by decide, by decide, by decide, by decide, by decide, by decide, by decide, by decide,
    by decide, by decide, by decide, went_uncontexted _ _ _ rfl⟩

theorem witness_TranslationCommandsComplete_6 :
    Starts (ready ((hosted.wr R.FUNC_STATUS_STATE fsQuiescing)) 0x0600 c0 (pack [(1, (2 : BitVec 8).toNat), (1, (1 : BitVec 8).toNat), (1,
      (1 : BitVec 8).toNat), (1, (0 : BitVec 8).toNat), (1, (1 : BitVec 8).toNat), (4, (0xFFFFF : BitVec 32).toNat), (8, (0x1000 : BitVec
      64).toNat)])) .f 0x0600 c0 (pack [(1, (2 : BitVec 8).toNat), (1, (1 : BitVec 8).toNat), (1, (1 : BitVec 8).toNat), (1, (0 : BitVec
      8).toNat), (1, (1 : BitVec 8).toNat), (4, (0xFFFFF : BitVec 32).toNat), (8, (0x1000 : BitVec 64).toNat)]) 0 (went ((hosted.wr
      R.FUNC_STATUS_STATE fsQuiescing)) 0x0600 c0 (pack [(1, (2 : BitVec 8).toNat), (1, (1 : BitVec 8).toNat), (1, (1 : BitVec 8).toNat),
      (1, (0 : BitVec 8).toNat), (1, (1 : BitVec 8).toNat), (4, (0xFFFFF : BitVec 32).toNat), (8, (0x1000 : BitVec 64).toNat)])) ∧ (went
      ((hosted.wr R.FUNC_STATUS_STATE fsQuiescing)) 0x0600 c0 (pack [(1, (2 : BitVec 8).toNat), (1, (1 : BitVec 8).toNat), (1, (1 : BitVec
      8).toNat), (1, (0 : BitVec 8).toNat), (1, (1 : BitVec 8).toNat), (4, (0xFFFFF : BitVec 32).toNat), (8, (0x1000 : BitVec
      64).toNat)])).serves (keyPort (pathFn c0.path)) = true ∧ (keyFunc (pathFn c0.path) = 0 ∨ (1 : BitVec 8).toNat = 0) ∧ (2 : BitVec
      8).toNat ≤ 2 ∧ (0x1000 : BitVec 64).toNat % 4096 = 0 ∧ (0x1000 : BitVec 64).toNat < 2 ^ 52 ∧ (went ((hosted.wr R.FUNC_STATUS_STATE
      fsQuiescing)) 0x0600 c0 (pack [(1, (2 : BitVec 8).toNat), (1, (1 : BitVec 8).toNat), (1, (1 : BitVec 8).toNat), (1, (0 : BitVec
      8).toNat), (1, (1 : BitVec 8).toNat), (4, (0xFFFFF : BitVec 32).toNat), (8, (0x1000 : BitVec 64).toNat)])).inWalkRange (keyPort
      (pathFn c0.path)) (0x1000 : BitVec 64).toNat = true ∧ (((0 : BitVec 8).toNat = 0 ∨ ((went ((hosted.wr R.FUNC_STATUS_STATE
      fsQuiescing)) 0x0600 c0 (pack [(1, (2 : BitVec 8).toNat), (1, (1 : BitVec 8).toNat), (1, (1 : BitVec 8).toNat), (1, (0 : BitVec
      8).toNat), (1, (1 : BitVec 8).toNat), (4, (0xFFFFF : BitVec 32).toNat), (8, (0x1000 : BitVec 64).toNat)])).func (pathFn
      c0.path)).cfg.atomicEn = true)) ∧ (1 : BitVec 8).toNat ≤ 1 ∧ (1 : BitVec 8).toNat ≤ 1 ∧ (0 : BitVec 8).toNat ≤ 1 ∧ (1 : BitVec
      8).toNat ≤ 1 ∧ (0xFFFFF : BitVec 32).toNat < 2 ^ 20 ∧ (went ((hosted.wr R.FUNC_STATUS_STATE fsQuiescing)) 0x0600 c0 (pack [(1, (2 :
      BitVec 8).toNat), (1, (1 : BitVec 8).toNat), (1, (1 : BitVec 8).toNat), (1, (0 : BitVec 8).toNat), (1, (1 : BitVec 8).toNat), (4,
      (0xFFFFF : BitVec 32).toNat), (8, (0x1000 : BitVec 64).toNat)])).freeCtx = some (0 : Nat) ∧ (went ((hosted.wr R.FUNC_STATUS_STATE
      fsQuiescing)) 0x0600 c0 (pack [(1, (2 : BitVec 8).toNat), (1, (1 : BitVec 8).toNat), (1, (1 : BitVec 8).toNat), (1, (0 : BitVec
      8).toNat), (1, (1 : BitVec 8).toNat), (4, (0xFFFFF : BitVec 32).toNat), (8, (0x1000 : BitVec 64).toNat)])).fnState (pathFn c0.path)
      ≠ fsEnabled :=
  ⟨ready_starts _ _ _ _ _ (by decide), by decide, by decide, by decide, by decide, by decide, by decide, by decide, by decide, by decide,
    by decide, by decide, by decide, by decide, by decide⟩

theorem witness_TranslationCommandsComplete_7 :
    Starts (ready hosted 0x0601 c0 (pack [(2, (2 : BitVec 16).toNat)])) .f 0x0601 c0 (pack [(2, (2 : BitVec 16).toNat)]) 0 (went hosted
      0x0601 c0 (pack [(2, (2 : BitVec 16).toNat)])) ∧ ((went hosted 0x0601 c0 (pack [(2, (2 : BitVec 16).toNat)])).ctx (2 : BitVec
      16).toNat).valid = true ∧ fkey ((went hosted 0x0601 c0 (pack [(2, (2 : BitVec 16).toNat)])).ctx (2 : BitVec 16).toNat).hport ((went
      hosted 0x0601 c0 (pack [(2, (2 : BitVec 16).toNat)])).ctx (2 : BitVec 16).toNat).func = pathFn c0.path ∧ (went hosted 0x0601 c0
      (pack [(2, (2 : BitVec 16).toNat)])).ctxInUse (2 : BitVec 16).toNat = false ∧ ((went hosted 0x0601 c0 (pack [(2, (2 : BitVec
      16).toNat)])).cmd.started.any (fun x => x.wait = .ctxRelease (2 : BitVec 16).toNat) = false) :=
  ⟨ready_starts _ _ _ _ _ (by decide), by decide, by decide, by decide, by decide⟩

theorem witness_TranslationCommandsComplete_8 :
    Starts (ready hosted 0x0601 c0 (pack [(2, (65535 : BitVec 16).toNat)])) .f 0x0601 c0 (pack [(2, (65535 : BitVec 16).toNat)]) 0 (went
      hosted 0x0601 c0 (pack [(2, (65535 : BitVec 16).toNat)])) ∧ ((went hosted 0x0601 c0 (pack [(2, (65535 : BitVec 16).toNat)])).ctx
      (65535 : BitVec 16).toNat).valid = false :=
  ⟨ready_starts _ _ _ _ _ (by decide), by decide⟩

theorem witness_TranslationCommandsComplete_9 :
    Starts (ready foreign 0x0601 c0 (pack [(2, (1 : BitVec 16).toNat)])) .f 0x0601 c0 (pack [(2, (1 : BitVec 16).toNat)]) 0 (went foreign
      0x0601 c0 (pack [(2, (1 : BitVec 16).toNat)])) ∧ ((went foreign 0x0601 c0 (pack [(2, (1 : BitVec 16).toNat)])).ctx (1 : BitVec
      16).toNat).valid = true ∧ fkey ((went foreign 0x0601 c0 (pack [(2, (1 : BitVec 16).toNat)])).ctx (1 : BitVec 16).toNat).hport ((went
      foreign 0x0601 c0 (pack [(2, (1 : BitVec 16).toNat)])).ctx (1 : BitVec 16).toNat).func ≠ pathFn c0.path :=
  ⟨ready_starts _ _ _ _ _ (by decide), by decide, by decide⟩

theorem witness_TranslationCommandsComplete_10 :
    Starts (ready hosted 0x0601 c0 (pack [(2, (1 : BitVec 16).toNat)])) .f 0x0601 c0 (pack [(2, (1 : BitVec 16).toNat)]) 0 (went hosted
      0x0601 c0 (pack [(2, (1 : BitVec 16).toNat)])) ∧ ((went hosted 0x0601 c0 (pack [(2, (1 : BitVec 16).toNat)])).ctx (1 : BitVec
      16).toNat).valid = true ∧ fkey ((went hosted 0x0601 c0 (pack [(2, (1 : BitVec 16).toNat)])).ctx (1 : BitVec 16).toNat).hport ((went
      hosted 0x0601 c0 (pack [(2, (1 : BitVec 16).toNat)])).ctx (1 : BitVec 16).toNat).func = pathFn c0.path ∧ ((went hosted 0x0601 c0
      (pack [(2, (1 : BitVec 16).toNat)])).ctxInUse (1 : BitVec 16).toNat = true ∨ (went hosted 0x0601 c0 (pack [(2, (1 : BitVec
      16).toNat)])).cmd.started.any (fun x => x.wait = .ctxRelease (1 : BitVec 16).toNat) = true) :=
  ⟨ready_starts _ _ _ _ _ (by decide), by decide, by decide, by decide⟩

theorem witness_TranslationCommandsComplete_11 :
    Starts (ready hosted 0x0602 c0 (pack [(1, (2 : BitVec 8).toNat), (1, (1 : BitVec 8).toNat), (2, (1 : BitVec 16).toNat), (4, (0 :
      BitVec 32).toNat), (8, (0 : BitVec 64).toNat)])) .f 0x0602 c0 (pack [(1, (2 : BitVec 8).toNat), (1, (1 : BitVec 8).toNat), (2, (1 :
      BitVec 16).toNat), (4, (0 : BitVec 32).toNat), (8, (0 : BitVec 64).toNat)]) 0 (went hosted 0x0602 c0 (pack [(1, (2 : BitVec
      8).toNat), (1, (1 : BitVec 8).toNat), (2, (1 : BitVec 16).toNat), (4, (0 : BitVec 32).toNat), (8, (0 : BitVec 64).toNat)])) ∧ (2 :
      BitVec 8).toNat < 3 ∧ ((went hosted 0x0602 c0 (pack [(1, (2 : BitVec 8).toNat), (1, (1 : BitVec 8).toNat), (2, (1 : BitVec
      16).toNat), (4, (0 : BitVec 32).toNat), (8, (0 : BitVec 64).toNat)])).ctx (1 : BitVec 16).toNat).valid = true ∧ fkey ((went hosted
      0x0602 c0 (pack [(1, (2 : BitVec 8).toNat), (1, (1 : BitVec 8).toNat), (2, (1 : BitVec 16).toNat), (4, (0 : BitVec 32).toNat), (8,
      (0 : BitVec 64).toNat)])).ctx (1 : BitVec 16).toNat).hport ((went hosted 0x0602 c0 (pack [(1, (2 : BitVec 8).toNat), (1, (1 : BitVec
      8).toNat), (2, (1 : BitVec 16).toNat), (4, (0 : BitVec 32).toNat), (8, (0 : BitVec 64).toNat)])).ctx (1 : BitVec 16).toNat).func =
      pathFn c0.path ∧ (1 : BitVec 8).toNat ≤ 1 ∧ ((2 : BitVec 8).toNat ≠ 0 ∨ (0 : BitVec 32).toNat ≠ 0) ∧ (went hosted 0x0602 c0 (pack
      [(1, (2 : BitVec 8).toNat), (1, (1 : BitVec 8).toNat), (2, (1 : BitVec 16).toNat), (4, (0 : BitVec 32).toNat), (8, (0 : BitVec
      64).toNat)])).basicInvals < 16 :=
  ⟨ready_starts _ _ _ _ _ (by decide), by decide, by decide, by decide, by decide, by decide, by decide⟩

theorem witness_TranslationCommandsComplete_12 :
    Starts (ready tst 0x0602 c0 (pack [(1, (3 : BitVec 8).toNat), (1, (1 : BitVec 8).toNat), (2, (0 : BitVec 16).toNat), (4, (0 : BitVec
      32).toNat), (8, (0 : BitVec 64).toNat)])) .f 0x0602 c0 (pack [(1, (3 : BitVec 8).toNat), (1, (1 : BitVec 8).toNat), (2, (0 : BitVec
      16).toNat), (4, (0 : BitVec 32).toNat), (8, (0 : BitVec 64).toNat)]) 0 (went tst 0x0602 c0 (pack [(1, (3 : BitVec 8).toNat), (1, (1
      : BitVec 8).toNat), (2, (0 : BitVec 16).toNat), (4, (0 : BitVec 32).toNat), (8, (0 : BitVec 64).toNat)])) ∧ (3 : BitVec 8).toNat = 3
      ∧ keyFunc (pathFn c0.path) = 0 ∧ (1 : BitVec 8).toNat ≤ 1 ∧ (went tst 0x0602 c0 (pack [(1, (3 : BitVec 8).toNat), (1, (1 : BitVec
      8).toNat), (2, (0 : BitVec 16).toNat), (4, (0 : BitVec 32).toNat), (8, (0 : BitVec 64).toNat)])).basicInvals < 16 :=
  ⟨ready_starts _ _ _ _ _ (by decide), by decide, by decide, by decide, by decide⟩

theorem witness_TranslationCommandsComplete_13 :
    Starts (ready hosted 0x0602 c0 (pack [(1, (0 : BitVec 8).toNat), (1, (0 : BitVec 8).toNat), (2, (65535 : BitVec 16).toNat), (4, (1 :
      BitVec 32).toNat), (8, (0 : BitVec 64).toNat)])) .f 0x0602 c0 (pack [(1, (0 : BitVec 8).toNat), (1, (0 : BitVec 8).toNat), (2,
      (65535 : BitVec 16).toNat), (4, (1 : BitVec 32).toNat), (8, (0 : BitVec 64).toNat)]) 0 (went hosted 0x0602 c0 (pack [(1, (0 : BitVec
      8).toNat), (1, (0 : BitVec 8).toNat), (2, (65535 : BitVec 16).toNat), (4, (1 : BitVec 32).toNat), (8, (0 : BitVec 64).toNat)])) ∧ (0
      : BitVec 8).toNat ≠ 3 ∧ ((went hosted 0x0602 c0 (pack [(1, (0 : BitVec 8).toNat), (1, (0 : BitVec 8).toNat), (2, (65535 : BitVec
      16).toNat), (4, (1 : BitVec 32).toNat), (8, (0 : BitVec 64).toNat)])).ctx (65535 : BitVec 16).toNat).valid = false :=
  ⟨ready_starts _ _ _ _ _ (by decide), by decide, by decide⟩

theorem witness_TranslationCommandsComplete_14 :
    Starts (ready foreign 0x0602 c0 (pack [(1, (0 : BitVec 8).toNat), (1, (0 : BitVec 8).toNat), (2, (1 : BitVec 16).toNat), (4, (1 :
      BitVec 32).toNat), (8, (0 : BitVec 64).toNat)])) .f 0x0602 c0 (pack [(1, (0 : BitVec 8).toNat), (1, (0 : BitVec 8).toNat), (2, (1 :
      BitVec 16).toNat), (4, (1 : BitVec 32).toNat), (8, (0 : BitVec 64).toNat)]) 0 (went foreign 0x0602 c0 (pack [(1, (0 : BitVec
      8).toNat), (1, (0 : BitVec 8).toNat), (2, (1 : BitVec 16).toNat), (4, (1 : BitVec 32).toNat), (8, (0 : BitVec 64).toNat)])) ∧ (0 :
      BitVec 8).toNat ≠ 3 ∧ ((went foreign 0x0602 c0 (pack [(1, (0 : BitVec 8).toNat), (1, (0 : BitVec 8).toNat), (2, (1 : BitVec
      16).toNat), (4, (1 : BitVec 32).toNat), (8, (0 : BitVec 64).toNat)])).ctx (1 : BitVec 16).toNat).valid = true ∧ fkey ((went foreign
      0x0602 c0 (pack [(1, (0 : BitVec 8).toNat), (1, (0 : BitVec 8).toNat), (2, (1 : BitVec 16).toNat), (4, (1 : BitVec 32).toNat), (8,
      (0 : BitVec 64).toNat)])).ctx (1 : BitVec 16).toNat).hport ((went foreign 0x0602 c0 (pack [(1, (0 : BitVec 8).toNat), (1, (0 :
      BitVec 8).toNat), (2, (1 : BitVec 16).toNat), (4, (1 : BitVec 32).toNat), (8, (0 : BitVec 64).toNat)])).ctx (1 : BitVec
      16).toNat).func ≠ pathFn c0.path :=
  ⟨ready_starts _ _ _ _ _ (by decide), by decide, by decide, by decide⟩

theorem witness_TranslationCommandsComplete_15 :
    Starts (ready hosted 0x0602 c0 (pack [(1, (4 : BitVec 8).toNat), (1, (0 : BitVec 8).toNat), (2, (1 : BitVec 16).toNat), (4, (1 :
      BitVec 32).toNat), (8, (0 : BitVec 64).toNat)])) .f 0x0602 c0 (pack [(1, (4 : BitVec 8).toNat), (1, (0 : BitVec 8).toNat), (2, (1 :
      BitVec 16).toNat), (4, (1 : BitVec 32).toNat), (8, (0 : BitVec 64).toNat)]) 0 (went hosted 0x0602 c0 (pack [(1, (4 : BitVec
      8).toNat), (1, (0 : BitVec 8).toNat), (2, (1 : BitVec 16).toNat), (4, (1 : BitVec 32).toNat), (8, (0 : BitVec 64).toNat)])) ∧ (4 :
      BitVec 8).toNat ≠ 3 ∧ ((went hosted 0x0602 c0 (pack [(1, (4 : BitVec 8).toNat), (1, (0 : BitVec 8).toNat), (2, (1 : BitVec
      16).toNat), (4, (1 : BitVec 32).toNat), (8, (0 : BitVec 64).toNat)])).ctx (1 : BitVec 16).toNat).valid = true ∧ fkey ((went hosted
      0x0602 c0 (pack [(1, (4 : BitVec 8).toNat), (1, (0 : BitVec 8).toNat), (2, (1 : BitVec 16).toNat), (4, (1 : BitVec 32).toNat), (8,
      (0 : BitVec 64).toNat)])).ctx (1 : BitVec 16).toNat).hport ((went hosted 0x0602 c0 (pack [(1, (4 : BitVec 8).toNat), (1, (0 : BitVec
      8).toNat), (2, (1 : BitVec 16).toNat), (4, (1 : BitVec 32).toNat), (8, (0 : BitVec 64).toNat)])).ctx (1 : BitVec 16).toNat).func =
      pathFn c0.path ∧ (3 < (4 : BitVec 8).toNat ∨ 1 < (0 : BitVec 8).toNat ∨ (4 : BitVec 8).toNat = 0 ∧ (1 : BitVec 32).toNat = 0) :=
  ⟨ready_starts _ _ _ _ _ (by decide), by decide, by decide, by decide, by decide⟩

theorem witness_TranslationCommandsComplete_16 :
    Starts (ready tst 0x0602 c0 (pack [(1, (3 : BitVec 8).toNat), (1, (2 : BitVec 8).toNat), (2, (1 : BitVec 16).toNat), (4, (1 : BitVec
      32).toNat), (8, (0 : BitVec 64).toNat)])) .f 0x0602 c0 (pack [(1, (3 : BitVec 8).toNat), (1, (2 : BitVec 8).toNat), (2, (1 : BitVec
      16).toNat), (4, (1 : BitVec 32).toNat), (8, (0 : BitVec 64).toNat)]) 0 (went tst 0x0602 c0 (pack [(1, (3 : BitVec 8).toNat), (1, (2
      : BitVec 8).toNat), (2, (1 : BitVec 16).toNat), (4, (1 : BitVec 32).toNat), (8, (0 : BitVec 64).toNat)])) ∧ (3 : BitVec 8).toNat = 3
      ∧ 1 < (2 : BitVec 8).toNat :=
  ⟨ready_starts _ _ _ _ _ (by decide), by decide, by decide⟩

theorem witness_TranslationCommandsComplete_17 :
    Starts (ready tst 0x0602 cvf (pack [(1, (3 : BitVec 8).toNat), (1, (1 : BitVec 8).toNat), (2, (1 : BitVec 16).toNat), (4, (1 : BitVec
      32).toNat), (8, (0 : BitVec 64).toNat)])) .f 0x0602 cvf (pack [(1, (3 : BitVec 8).toNat), (1, (1 : BitVec 8).toNat), (2, (1 : BitVec
      16).toNat), (4, (1 : BitVec 32).toNat), (8, (0 : BitVec 64).toNat)]) 0 (went tst 0x0602 cvf (pack [(1, (3 : BitVec 8).toNat), (1, (1
      : BitVec 8).toNat), (2, (1 : BitVec 16).toNat), (4, (1 : BitVec 32).toNat), (8, (0 : BitVec 64).toNat)])) ∧ (3 : BitVec 8).toNat = 3
      ∧ (1 : BitVec 8).toNat ≤ 1 ∧ keyFunc (pathFn cvf.path) ≠ 0 :=
  ⟨ready_starts _ _ _ _ _ (by decide), by decide, by decide, by decide⟩

theorem witness_TranslationCommandsComplete_18 :
    Starts (ready invaling 0x0602 c0 (pack [(1, (2 : BitVec 8).toNat), (1, (1 : BitVec 8).toNat), (2, (1 : BitVec 16).toNat), (4, (0 :
      BitVec 32).toNat), (8, (0 : BitVec 64).toNat)])) .f 0x0602 c0 (pack [(1, (2 : BitVec 8).toNat), (1, (1 : BitVec 8).toNat), (2, (1 :
      BitVec 16).toNat), (4, (0 : BitVec 32).toNat), (8, (0 : BitVec 64).toNat)]) 0 (went invaling 0x0602 c0 (pack [(1, (2 : BitVec
      8).toNat), (1, (1 : BitVec 8).toNat), (2, (1 : BitVec 16).toNat), (4, (0 : BitVec 32).toNat), (8, (0 : BitVec 64).toNat)])) ∧ (2 :
      BitVec 8).toNat < 3 ∧ ((went invaling 0x0602 c0 (pack [(1, (2 : BitVec 8).toNat), (1, (1 : BitVec 8).toNat), (2, (1 : BitVec
      16).toNat), (4, (0 : BitVec 32).toNat), (8, (0 : BitVec 64).toNat)])).ctx (1 : BitVec 16).toNat).valid = true ∧ fkey ((went invaling
      0x0602 c0 (pack [(1, (2 : BitVec 8).toNat), (1, (1 : BitVec 8).toNat), (2, (1 : BitVec 16).toNat), (4, (0 : BitVec 32).toNat), (8,
      (0 : BitVec 64).toNat)])).ctx (1 : BitVec 16).toNat).hport ((went invaling 0x0602 c0 (pack [(1, (2 : BitVec 8).toNat), (1, (1 :
      BitVec 8).toNat), (2, (1 : BitVec 16).toNat), (4, (0 : BitVec 32).toNat), (8, (0 : BitVec 64).toNat)])).ctx (1 : BitVec
      16).toNat).func = pathFn c0.path ∧ (1 : BitVec 8).toNat ≤ 1 ∧ ((2 : BitVec 8).toNat ≠ 0 ∨ (0 : BitVec 32).toNat ≠ 0) ∧ 16 ≤ (went
      invaling 0x0602 c0 (pack [(1, (2 : BitVec 8).toNat), (1, (1 : BitVec 8).toNat), (2, (1 : BitVec 16).toNat), (4, (0 : BitVec
      32).toNat), (8, (0 : BitVec 64).toNat)])).basicInvals :=
  ⟨ready_starts _ _ _ _ _ (by decide), by decide, by decide, by decide, by decide, by decide, by decide⟩

theorem witness_TranslationCommandsComplete_19 :
    Starts (ready invaling 0x0602 c0 (pack [(1, (3 : BitVec 8).toNat), (1, (1 : BitVec 8).toNat), (2, (0 : BitVec 16).toNat), (4, (0 :
      BitVec 32).toNat), (8, (0 : BitVec 64).toNat)])) .f 0x0602 c0 (pack [(1, (3 : BitVec 8).toNat), (1, (1 : BitVec 8).toNat), (2, (0 :
      BitVec 16).toNat), (4, (0 : BitVec 32).toNat), (8, (0 : BitVec 64).toNat)]) 0 (went invaling 0x0602 c0 (pack [(1, (3 : BitVec
      8).toNat), (1, (1 : BitVec 8).toNat), (2, (0 : BitVec 16).toNat), (4, (0 : BitVec 32).toNat), (8, (0 : BitVec 64).toNat)])) ∧ (3 :
      BitVec 8).toNat = 3 ∧ keyFunc (pathFn c0.path) = 0 ∧ (1 : BitVec 8).toNat ≤ 1 ∧ 16 ≤ (went invaling 0x0602 c0 (pack [(1, (3 : BitVec
      8).toNat), (1, (1 : BitVec 8).toNat), (2, (0 : BitVec 16).toNat), (4, (0 : BitVec 32).toNat), (8, (0 : BitVec
      64).toNat)])).basicInvals :=
  ⟨ready_starts _ _ _ _ _ (by decide), by decide, by decide, by decide, by decide⟩

theorem witness_TranslationCommandsComplete_20 :
    Starts (ready parked 0x0603 c0 (pack [(2, (1023 : BitVec 16).toNat), (1, (0 : BitVec 8).toNat), (1, (0 : BitVec 8).toNat)])) .f 0x0603
      c0 (pack [(2, (1023 : BitVec 16).toNat), (1, (0 : BitVec 8).toNat), (1, (0 : BitVec 8).toNat)]) 0 (went parked 0x0603 c0 (pack [(2,
      (1023 : BitVec 16).toNat), (1, (0 : BitVec 8).toNat), (1, (0 : BitVec 8).toNat)])) ∧ (1023 : BitVec 16).toNat < 1024 ∧ ((went parked
      0x0603 c0 (pack [(2, (1023 : BitVec 16).toNat), (1, (0 : BitVec 8).toNat), (1, (0 : BitVec 8).toNat)])).park (1023 : BitVec
      16).toNat).used = true ∧ ((went parked 0x0603 c0 (pack [(2, (1023 : BitVec 16).toNat), (1, (0 : BitVec 8).toNat), (1, (0 : BitVec
      8).toNat)])).qp ((went parked 0x0603 c0 (pack [(2, (1023 : BitVec 16).toNat), (1, (0 : BitVec 8).toNat), (1, (0 : BitVec
      8).toNat)])).park (1023 : BitVec 16).toNat).q).func = pathFn c0.path ∧ ((went parked 0x0603 c0 (pack [(2, (1023 : BitVec 16).toNat),
      (1, (0 : BitVec 8).toNat), (1, (0 : BitVec 8).toNat)])).park (1023 : BitVec 16).toNat).gen = (0 : BitVec 8).toNat ∧ (0 : BitVec
      8).toNat = 0 :=
  ⟨ready_starts _ _ _ _ _ (by decide), by decide, by decide, by decide, by decide, by decide⟩

theorem witness_TranslationCommandsComplete_21 :
    Starts (ready parked 0x0603 c0 (pack [(2, (1023 : BitVec 16).toNat), (1, (0 : BitVec 8).toNat), (1, (1 : BitVec 8).toNat)])) .f 0x0603
      c0 (pack [(2, (1023 : BitVec 16).toNat), (1, (0 : BitVec 8).toNat), (1, (1 : BitVec 8).toNat)]) 0 (went parked 0x0603 c0 (pack [(2,
      (1023 : BitVec 16).toNat), (1, (0 : BitVec 8).toNat), (1, (1 : BitVec 8).toNat)])) ∧ (1023 : BitVec 16).toNat < 1024 ∧ ((went parked
      0x0603 c0 (pack [(2, (1023 : BitVec 16).toNat), (1, (0 : BitVec 8).toNat), (1, (1 : BitVec 8).toNat)])).park (1023 : BitVec
      16).toNat).used = true ∧ ((went parked 0x0603 c0 (pack [(2, (1023 : BitVec 16).toNat), (1, (0 : BitVec 8).toNat), (1, (1 : BitVec
      8).toNat)])).qp ((went parked 0x0603 c0 (pack [(2, (1023 : BitVec 16).toNat), (1, (0 : BitVec 8).toNat), (1, (1 : BitVec
      8).toNat)])).park (1023 : BitVec 16).toNat).q).func = pathFn c0.path ∧ ((went parked 0x0603 c0 (pack [(2, (1023 : BitVec 16).toNat),
      (1, (0 : BitVec 8).toNat), (1, (1 : BitVec 8).toNat)])).park (1023 : BitVec 16).toNat).gen = (0 : BitVec 8).toNat ∧ (1 : BitVec
      8).toNat = 1 :=
  ⟨ready_starts _ _ _ _ _ (by decide), by decide, by decide, by decide, by decide, by decide⟩

theorem witness_TranslationCommandsComplete_22 :
    Starts (ready parked 0x0603 c0 (pack [(2, (1024 : BitVec 16).toNat), (1, (0 : BitVec 8).toNat), (1, (0 : BitVec 8).toNat)])) .f 0x0603
      c0 (pack [(2, (1024 : BitVec 16).toNat), (1, (0 : BitVec 8).toNat), (1, (0 : BitVec 8).toNat)]) 0 (went parked 0x0603 c0 (pack [(2,
      (1024 : BitVec 16).toNat), (1, (0 : BitVec 8).toNat), (1, (0 : BitVec 8).toNat)])) ∧ (1024 ≤ (1024 : BitVec 16).toNat ∨ ((went
      parked 0x0603 c0 (pack [(2, (1024 : BitVec 16).toNat), (1, (0 : BitVec 8).toNat), (1, (0 : BitVec 8).toNat)])).park (1024 : BitVec
      16).toNat).used = false) :=
  ⟨ready_starts _ _ _ _ _ (by decide), by decide⟩

theorem witness_TranslationCommandsComplete_23 :
    Starts (ready parked 0x0603 cvf (pack [(2, (1023 : BitVec 16).toNat), (1, (0 : BitVec 8).toNat), (1, (0 : BitVec 8).toNat)])) .f
      0x0603 cvf (pack [(2, (1023 : BitVec 16).toNat), (1, (0 : BitVec 8).toNat), (1, (0 : BitVec 8).toNat)]) 0 (went parked 0x0603 cvf
      (pack [(2, (1023 : BitVec 16).toNat), (1, (0 : BitVec 8).toNat), (1, (0 : BitVec 8).toNat)])) ∧ (1023 : BitVec 16).toNat < 1024 ∧
      ((went parked 0x0603 cvf (pack [(2, (1023 : BitVec 16).toNat), (1, (0 : BitVec 8).toNat), (1, (0 : BitVec 8).toNat)])).park (1023 :
      BitVec 16).toNat).used = true ∧ ((went parked 0x0603 cvf (pack [(2, (1023 : BitVec 16).toNat), (1, (0 : BitVec 8).toNat), (1, (0 :
      BitVec 8).toNat)])).qp ((went parked 0x0603 cvf (pack [(2, (1023 : BitVec 16).toNat), (1, (0 : BitVec 8).toNat), (1, (0 : BitVec
      8).toNat)])).park (1023 : BitVec 16).toNat).q).func ≠ pathFn cvf.path :=
  ⟨ready_starts _ _ _ _ _ (by decide), by decide, by decide, by decide⟩

theorem witness_TranslationCommandsComplete_24 :
    Starts (ready parked 0x0603 c0 (pack [(2, (1023 : BitVec 16).toNat), (1, (1 : BitVec 8).toNat), (1, (0 : BitVec 8).toNat)])) .f 0x0603
      c0 (pack [(2, (1023 : BitVec 16).toNat), (1, (1 : BitVec 8).toNat), (1, (0 : BitVec 8).toNat)]) 0 (went parked 0x0603 c0 (pack [(2,
      (1023 : BitVec 16).toNat), (1, (1 : BitVec 8).toNat), (1, (0 : BitVec 8).toNat)])) ∧ (1023 : BitVec 16).toNat < 1024 ∧ ((went parked
      0x0603 c0 (pack [(2, (1023 : BitVec 16).toNat), (1, (1 : BitVec 8).toNat), (1, (0 : BitVec 8).toNat)])).park (1023 : BitVec
      16).toNat).used = true ∧ ((went parked 0x0603 c0 (pack [(2, (1023 : BitVec 16).toNat), (1, (1 : BitVec 8).toNat), (1, (0 : BitVec
      8).toNat)])).qp ((went parked 0x0603 c0 (pack [(2, (1023 : BitVec 16).toNat), (1, (1 : BitVec 8).toNat), (1, (0 : BitVec
      8).toNat)])).park (1023 : BitVec 16).toNat).q).func = pathFn c0.path ∧ (((went parked 0x0603 c0 (pack [(2, (1023 : BitVec
      16).toNat), (1, (1 : BitVec 8).toNat), (1, (0 : BitVec 8).toNat)])).park (1023 : BitVec 16).toNat).gen ≠ (1 : BitVec 8).toNat ∨ 1 <
      (0 : BitVec 8).toNat) :=
  ⟨ready_starts _ _ _ _ _ (by decide), by decide, by decide, by decide, by decide⟩

theorem witness_TranslationCommandsComplete_25 :
    Starts (ready tst 0x0604 c0 (pack [(1, (15 : BitVec 8).toNat), (1, (1 : BitVec 8).toNat), (8, (0x1000 : BitVec 64).toNat), (8,
      (0xFFFFFFFFFF000 : BitVec 64).toNat)])) .p 0x0604 c0 (pack [(1, (15 : BitVec 8).toNat), (1, (1 : BitVec 8).toNat), (8, (0x1000 :
      BitVec 64).toNat), (8, (0xFFFFFFFFFF000 : BitVec 64).toNat)]) 0 (went tst 0x0604 c0 (pack [(1, (15 : BitVec 8).toNat), (1, (1 :
      BitVec 8).toNat), (8, (0x1000 : BitVec 64).toNat), (8, (0xFFFFFFFFFF000 : BitVec 64).toNat)])) ∧ (15 : BitVec 8).toNat ≤ 15 ∧ (1 :
      BitVec 8).toNat ≤ 1 ∧ (0x1000 : BitVec 64).toNat % 4096 = 0 ∧ (0x1000 : BitVec 64).toNat < 2 ^ 52 ∧ (0xFFFFFFFFFF000 : BitVec
      64).toNat % 4096 = 0 ∧ (0xFFFFFFFFFF000 : BitVec 64).toNat < 2 ^ 52 ∧ (0x1000 : BitVec 64).toNat ≤ (0xFFFFFFFFFF000 : BitVec
      64).toNat :=
  ⟨ready_starts _ _ _ _ _ (by decide), by decide, by decide, by decide, by decide, by decide, by decide, by decide⟩

theorem witness_TranslationCommandsComplete_26 :
    Starts (ready tst 0x0604 c0 (pack [(1, (16 : BitVec 8).toNat), (1, (1 : BitVec 8).toNat), (8, (0x1000 : BitVec 64).toNat), (8,
      (0xFFFFFFFFFF000 : BitVec 64).toNat)])) .p 0x0604 c0 (pack [(1, (16 : BitVec 8).toNat), (1, (1 : BitVec 8).toNat), (8, (0x1000 :
      BitVec 64).toNat), (8, (0xFFFFFFFFFF000 : BitVec 64).toNat)]) 0 (went tst 0x0604 c0 (pack [(1, (16 : BitVec 8).toNat), (1, (1 :
      BitVec 8).toNat), (8, (0x1000 : BitVec 64).toNat), (8, (0xFFFFFFFFFF000 : BitVec 64).toNat)])) ∧ (¬ ((16 : BitVec 8).toNat ≤ 15 ∧ (1
      : BitVec 8).toNat ≤ 1 ∧ (0x1000 : BitVec 64).toNat % 4096 = 0 ∧ (0x1000 : BitVec 64).toNat < 2 ^ 52 ∧ (0xFFFFFFFFFF000 : BitVec
      64).toNat % 4096 = 0 ∧ (0xFFFFFFFFFF000 : BitVec 64).toNat < 2 ^ 52 ∧ (0x1000 : BitVec 64).toNat ≤ (0xFFFFFFFFFF000 : BitVec
      64).toNat)) :=
  ⟨ready_starts _ _ _ _ _ (by decide), by decide⟩

theorem witness_TranslationCommandsComplete_27 :
    Starts (ready tst 0x0605 c0 (pack [(8, (960000000000 : BitVec 64).toNat), (8, (16000000000 : BitVec 64).toNat)])) .d 0x0605 c0 (pack
      [(8, (960000000000 : BitVec 64).toNat), (8, (16000000000 : BitVec 64).toNat)]) 0 (went tst 0x0605 c0 (pack [(8, (960000000000 :
      BitVec 64).toNat), (8, (16000000000 : BitVec 64).toNat)])) ∧ (([(R.XLT_AGE_MAX_AGE, (960000000000 : BitVec 64).toNat),
      (R.XLT_PARK_PARK_TIME, (16000000000 : BitVec 64).toNat)].all fun x => x.1.allows x.2) = true) :=
  ⟨ready_starts _ _ _ _ _ (by decide), by decide⟩

theorem witness_TranslationCommandsComplete_28 :
    Starts (ready tst 0x0605 c0 (pack [(8, (0xFFFFFFFFFFFFFFFF : BitVec 64).toNat), (8, (16000000000 : BitVec 64).toNat)])) .d 0x0605 c0
      (pack [(8, (0xFFFFFFFFFFFFFFFF : BitVec 64).toNat), (8, (16000000000 : BitVec 64).toNat)]) 0 (went tst 0x0605 c0 (pack [(8,
      (0xFFFFFFFFFFFFFFFF : BitVec 64).toNat), (8, (16000000000 : BitVec 64).toNat)])) ∧ (([(R.XLT_AGE_MAX_AGE, (0xFFFFFFFFFFFFFFFF :
      BitVec 64).toNat), (R.XLT_PARK_PARK_TIME, (16000000000 : BitVec 64).toNat)].all fun x => x.1.allows x.2) = false) :=
  ⟨ready_starts _ _ _ _ _ (by decide), by decide⟩

theorem witness_TranslationCommandsComplete_29 :
    Starts (ready hosted 0x0606 c0 (pack [(2, (1 : BitVec 16).toNat)])) .f 0x0606 c0 (pack [(2, (1 : BitVec 16).toNat)]) 0 (went hosted
      0x0606 c0 (pack [(2, (1 : BitVec 16).toNat)])) ∧ ((went hosted 0x0606 c0 (pack [(2, (1 : BitVec 16).toNat)])).ctx (1 : BitVec
      16).toNat).valid = true ∧ fkey ((went hosted 0x0606 c0 (pack [(2, (1 : BitVec 16).toNat)])).ctx (1 : BitVec 16).toNat).hport ((went
      hosted 0x0606 c0 (pack [(2, (1 : BitVec 16).toNat)])).ctx (1 : BitVec 16).toNat).func = pathFn c0.path :=
  ⟨ready_starts _ _ _ _ _ (by decide), by decide, by decide⟩

theorem witness_TranslationCommandsComplete_30 :
    Starts (ready hosted 0x0606 c0 (pack [(2, (65535 : BitVec 16).toNat)])) .f 0x0606 c0 (pack [(2, (65535 : BitVec 16).toNat)]) 0 (went
      hosted 0x0606 c0 (pack [(2, (65535 : BitVec 16).toNat)])) ∧ ((went hosted 0x0606 c0 (pack [(2, (65535 : BitVec 16).toNat)])).ctx
      (65535 : BitVec 16).toNat).valid = false :=
  ⟨ready_starts _ _ _ _ _ (by decide), by decide⟩

theorem witness_TranslationCommandsComplete_31 :
    Starts (ready foreign 0x0606 c0 (pack [(2, (1 : BitVec 16).toNat)])) .f 0x0606 c0 (pack [(2, (1 : BitVec 16).toNat)]) 0 (went foreign
      0x0606 c0 (pack [(2, (1 : BitVec 16).toNat)])) ∧ ((went foreign 0x0606 c0 (pack [(2, (1 : BitVec 16).toNat)])).ctx (1 : BitVec
      16).toNat).valid = true ∧ fkey ((went foreign 0x0606 c0 (pack [(2, (1 : BitVec 16).toNat)])).ctx (1 : BitVec 16).toNat).hport ((went
      foreign 0x0606 c0 (pack [(2, (1 : BitVec 16).toNat)])).ctx (1 : BitVec 16).toNat).func ≠ pathFn c0.path :=
  ⟨ready_starts _ _ _ _ _ (by decide), by decide, by decide⟩

/-! ### TransportCommandsComplete -/

theorem witness_TransportCommandsComplete_1 :
    Starts (ready tst 0x0700 c0 (pack [(8, (64000000000 : BitVec 64).toNat), (8, (64000000000 : BitVec 64).toNat)])) .d 0x0700 c0 (pack
      [(8, (64000000000 : BitVec 64).toNat), (8, (64000000000 : BitVec 64).toNat)]) 0 (went tst 0x0700 c0 (pack [(8, (64000000000 : BitVec
      64).toNat), (8, (64000000000 : BitVec 64).toNat)])) ∧ R.TPT_LIFE_LIFETIME.allows (64000000000 : BitVec 64).toNat = true ∧
      R.TPT_GIVEUP_GIVEUP.allows (64000000000 : BitVec 64).toNat = true ∧ (64000000000 : BitVec 64).toNat ≤ (64000000000 : BitVec
      64).toNat :=
  ⟨ready_starts _ _ _ _ _ (by decide), by decide, by decide, by decide⟩

theorem witness_TransportCommandsComplete_2 :
    Starts (ready tst 0x0700 c0 (pack [(8, (64000000000 : BitVec 64).toNat), (8, (63999999999 : BitVec 64).toNat)])) .d 0x0700 c0 (pack
      [(8, (64000000000 : BitVec 64).toNat), (8, (63999999999 : BitVec 64).toNat)]) 0 (went tst 0x0700 c0 (pack [(8, (64000000000 : BitVec
      64).toNat), (8, (63999999999 : BitVec 64).toNat)])) ∧ (R.TPT_LIFE_LIFETIME.allows (64000000000 : BitVec 64).toNat = false ∨
      R.TPT_GIVEUP_GIVEUP.allows (63999999999 : BitVec 64).toNat = false ∨ (63999999999 : BitVec 64).toNat < (64000000000 : BitVec
      64).toNat) :=
  ⟨ready_starts _ _ _ _ _ (by decide), by decide⟩

theorem witness_TransportCommandsComplete_3 :
    Starts (ready tst 0x0701 c0 (pack [(1, (64 : BitVec 8).toNat), (1, (255 : BitVec 8).toNat)])) .d 0x0701 c0 (pack [(1, (64 : BitVec
      8).toNat), (1, (255 : BitVec 8).toNat)]) 0 (went tst 0x0701 c0 (pack [(1, (64 : BitVec 8).toNat), (1, (255 : BitVec 8).toNat)])) ∧
      (([(R.TPT_ACK_ACK_EVERY, (64 : BitVec 8).toNat), (R.TPT_ACK_RETRY_BUDGET, (255 : BitVec 8).toNat)].all fun x => x.1.allows x.2) =
      true) :=
  ⟨ready_starts _ _ _ _ _ (by decide), by decide⟩

theorem witness_TransportCommandsComplete_4 :
    Starts (ready tst 0x0701 c0 (pack [(1, (0 : BitVec 8).toNat), (1, (255 : BitVec 8).toNat)])) .d 0x0701 c0 (pack [(1, (0 : BitVec
      8).toNat), (1, (255 : BitVec 8).toNat)]) 0 (went tst 0x0701 c0 (pack [(1, (0 : BitVec 8).toNat), (1, (255 : BitVec 8).toNat)])) ∧
      (([(R.TPT_ACK_ACK_EVERY, (0 : BitVec 8).toNat), (R.TPT_ACK_RETRY_BUDGET, (255 : BitVec 8).toNat)].all fun x => x.1.allows x.2) =
      false) :=
  ⟨ready_starts _ _ _ _ _ (by decide), by decide⟩

theorem witness_TransportCommandsComplete_5 :
    Starts (ready tst 0x0702 c0 (pack [(4, (0xFFFFF : BitVec 32).toNat)])) .d 0x0702 c0 (pack [(4, (0xFFFFF : BitVec 32).toNat)]) 0 (went
      tst 0x0702 c0 (pack [(4, (0xFFFFF : BitVec 32).toNat)])) ∧ (0xFFFFF : BitVec 32).toNat < 2 ^ 20 :=
  ⟨ready_starts _ _ _ _ _ (by decide), by decide⟩

theorem witness_TransportCommandsComplete_6 :
    Starts (ready tst 0x0702 c0 (pack [(4, (0x100000 : BitVec 32).toNat)])) .d 0x0702 c0 (pack [(4, (0x100000 : BitVec 32).toNat)]) 0
      (went tst 0x0702 c0 (pack [(4, (0x100000 : BitVec 32).toNat)])) ∧ 2 ^ 20 ≤ (0x100000 : BitVec 32).toNat :=
  ⟨ready_starts _ _ _ _ _ (by decide), by decide⟩

theorem witness_TransportCommandsComplete_7 :
    Starts (ready tst 0x0703 c0 (pack [(4, (0xFFFFF : BitVec 32).toNat)])) .d 0x0703 c0 (pack [(4, (0xFFFFF : BitVec 32).toNat)]) 0 (went
      tst 0x0703 c0 (pack [(4, (0xFFFFF : BitVec 32).toNat)])) ∧ (0xFFFFF : BitVec 32).toNat < 2 ^ 20 :=
  ⟨ready_starts _ _ _ _ _ (by decide), by decide⟩

theorem witness_TransportCommandsComplete_8 :
    Starts (ready tst 0x0703 c0 (pack [(4, (0x100000 : BitVec 32).toNat)])) .d 0x0703 c0 (pack [(4, (0x100000 : BitVec 32).toNat)]) 0
      (went tst 0x0703 c0 (pack [(4, (0x100000 : BitVec 32).toNat)])) ∧ 2 ^ 20 ≤ (0x100000 : BitVec 32).toNat :=
  ⟨ready_starts _ _ _ _ _ (by decide), by decide⟩

theorem witness_TransportCommandsComplete_9 :
    Starts (ready hosted 0x0704 c0 (pack [(1, (3 : BitVec 8).toNat), (1, (1 : BitVec 8).toNat), (1, (0 : BitVec 8).toNat), (1, (0 : BitVec
      8).toNat), (2, (1 : BitVec 16).toNat), (2, (1 : BitVec 16).toNat), (4, (3 : BitVec 32).toNat), (4, (0 : BitVec 32).toNat), (8,
      (0x1000 : BitVec 64).toNat), (8, (1 : BitVec 64).toNat)])) .f 0x0704 c0 (pack [(1, (3 : BitVec 8).toNat), (1, (1 : BitVec 8).toNat),
      (1, (0 : BitVec 8).toNat), (1, (0 : BitVec 8).toNat), (2, (1 : BitVec 16).toNat), (2, (1 : BitVec 16).toNat), (4, (3 : BitVec
      32).toNat), (4, (0 : BitVec 32).toNat), (8, (0x1000 : BitVec 64).toNat), (8, (1 : BitVec 64).toNat)]) 0 (went hosted 0x0704 c0 (pack
      [(1, (3 : BitVec 8).toNat), (1, (1 : BitVec 8).toNat), (1, (0 : BitVec 8).toNat), (1, (0 : BitVec 8).toNat), (2, (1 : BitVec
      16).toNat), (2, (1 : BitVec 16).toNat), (4, (3 : BitVec 32).toNat), (4, (0 : BitVec 32).toNat), (8, (0x1000 : BitVec 64).toNat), (8,
      (1 : BitVec 64).toNat)])) ∧ (went hosted 0x0704 c0 (pack [(1, (3 : BitVec 8).toNat), (1, (1 : BitVec 8).toNat), (1, (0 : BitVec
      8).toNat), (1, (0 : BitVec 8).toNat), (2, (1 : BitVec 16).toNat), (2, (1 : BitVec 16).toNat), (4, (3 : BitVec 32).toNat), (4, (0 :
      BitVec 32).toNat), (8, (0x1000 : BitVec 64).toNat), (8, (1 : BitVec 64).toNat)])).serves (keyPort (pathFn c0.path)) = true ∧ ((went
      hosted 0x0704 c0 (pack [(1, (3 : BitVec 8).toNat), (1, (1 : BitVec 8).toNat), (1, (0 : BitVec 8).toNat), (1, (0 : BitVec 8).toNat),
      (2, (1 : BitVec 16).toNat), (2, (1 : BitVec 16).toNat), (4, (3 : BitVec 32).toNat), (4, (0 : BitVec 32).toNat), (8, (0x1000 : BitVec
      64).toNat), (8, (1 : BitVec 64).toNat)])).ctx (1 : BitVec 16).toNat).valid = true ∧ fkey ((went hosted 0x0704 c0 (pack [(1, (3 :
      BitVec 8).toNat), (1, (1 : BitVec 8).toNat), (1, (0 : BitVec 8).toNat), (1, (0 : BitVec 8).toNat), (2, (1 : BitVec 16).toNat), (2,
      (1 : BitVec 16).toNat), (4, (3 : BitVec 32).toNat), (4, (0 : BitVec 32).toNat), (8, (0x1000 : BitVec 64).toNat), (8, (1 : BitVec
      64).toNat)])).ctx (1 : BitVec 16).toNat).hport ((went hosted 0x0704 c0 (pack [(1, (3 : BitVec 8).toNat), (1, (1 : BitVec 8).toNat),
      (1, (0 : BitVec 8).toNat), (1, (0 : BitVec 8).toNat), (2, (1 : BitVec 16).toNat), (2, (1 : BitVec 16).toNat), (4, (3 : BitVec
      32).toNat), (4, (0 : BitVec 32).toNat), (8, (0x1000 : BitVec 64).toNat), (8, (1 : BitVec 64).toNat)])).ctx (1 : BitVec
      16).toNat).func = pathFn c0.path ∧ (went hosted 0x0704 c0 (pack [(1, (3 : BitVec 8).toNat), (1, (1 : BitVec 8).toNat), (1, (0 :
      BitVec 8).toNat), (1, (0 : BitVec 8).toNat), (2, (1 : BitVec 16).toNat), (2, (1 : BitVec 16).toNat), (4, (3 : BitVec 32).toNat), (4,
      (0 : BitVec 32).toNat), (8, (0x1000 : BitVec 64).toNat), (8, (1 : BitVec 64).toNat)])).jobIs (1 : BitVec 16).toNat (0 : BitVec
      8).toNat = true ∧ (3 : BitVec 8).toNat ≤ 3 ∧ (1 : BitVec 8).toNat ≤ 1 ∧ (0 : BitVec 8).toNat ≤ 1 ∧ (3 : BitVec 32).toNat < 2 ^ 20 ∧
      (0 : BitVec 32).toNat < 2 ^ 20 ∧ (went hosted 0x0704 c0 (pack [(1, (3 : BitVec 8).toNat), (1, (1 : BitVec 8).toNat), (1, (0 : BitVec
      8).toNat), (1, (0 : BitVec 8).toNat), (2, (1 : BitVec 16).toNat), (2, (1 : BitVec 16).toNat), (4, (3 : BitVec 32).toNat), (4, (0 :
      BitVec 32).toNat), (8, (0x1000 : BitVec 64).toNat), (8, (1 : BitVec 64).toNat)])).windowRanges ({ permRead := bitAt (3 : BitVec 8).toNat 0, permWrite := bitAt (3 : BitVec 8).toNat 1, scopePid := (1 : BitVec 8).toNat = 1, cntEn := (0 : BitVec 8).toNat = 1, hport := keyPort (pathFn c0.path), func := keyFunc (pathFn c0.path), ctx := (1 : BitVec 16).toNat, job := (1 : BitVec 16).toNat, peerPid := (3 : BitVec 32).toNat, cntIdx := (0 : BitVec 32).toNat, base := (0x1000 : BitVec 64).toNat, length := (1 : BitVec 64).toNat }
      : WinEntry) = true ∧ (went hosted 0x0704 c0 (pack [(1, (3 : BitVec 8).toNat), (1, (1 : BitVec 8).toNat), (1, (0 : BitVec 8).toNat),
      (1, (0 : BitVec 8).toNat), (2, (1 : BitVec 16).toNat), (2, (1 : BitVec 16).toNat), (4, (3 : BitVec 32).toNat), (4, (0 : BitVec
      32).toNat), (8, (0x1000 : BitVec 64).toNat), (8, (1 : BitVec 64).toNat)])).freeWindow = some (4 : Nat) ∧ (went hosted 0x0704 c0
      (pack [(1, (3 : BitVec 8).toNat), (1, (1 : BitVec 8).toNat), (1, (0 : BitVec 8).toNat), (1, (0 : BitVec 8).toNat), (2, (1 : BitVec
      16).toNat), (2, (1 : BitVec 16).toNat), (4, (3 : BitVec 32).toNat), (4, (0 : BitVec 32).toNat), (8, (0x1000 : BitVec 64).toNat), (8,
      (1 : BitVec 64).toNat)])).fnState (pathFn c0.path) = fsEnabled :=
  ⟨ready_starts _ _ _ _ _ (by decide), by decide, by decide, by decide, by decide, by decide, by decide, by decide, by decide, by decide,
    by decide, by decide, by decide⟩

theorem witness_TransportCommandsComplete_10 :
    Starts (ready unserved 0x0704 c0 (pack [(1, (3 : BitVec 8).toNat), (1, (1 : BitVec 8).toNat), (1, (0 : BitVec 8).toNat), (1, (0 :
      BitVec 8).toNat), (2, (1 : BitVec 16).toNat), (2, (1 : BitVec 16).toNat), (4, (3 : BitVec 32).toNat), (4, (0 : BitVec 32).toNat),
      (8, (0x1000 : BitVec 64).toNat), (8, (1 : BitVec 64).toNat)])) .f 0x0704 c0 (pack [(1, (3 : BitVec 8).toNat), (1, (1 : BitVec
      8).toNat), (1, (0 : BitVec 8).toNat), (1, (0 : BitVec 8).toNat), (2, (1 : BitVec 16).toNat), (2, (1 : BitVec 16).toNat), (4, (3 :
      BitVec 32).toNat), (4, (0 : BitVec 32).toNat), (8, (0x1000 : BitVec 64).toNat), (8, (1 : BitVec 64).toNat)]) 0 (went unserved 0x0704
      c0 (pack [(1, (3 : BitVec 8).toNat), (1, (1 : BitVec 8).toNat), (1, (0 : BitVec 8).toNat), (1, (0 : BitVec 8).toNat), (2, (1 :
      BitVec 16).toNat), (2, (1 : BitVec 16).toNat), (4, (3 : BitVec 32).toNat), (4, (0 : BitVec 32).toNat), (8, (0x1000 : BitVec
      64).toNat), (8, (1 : BitVec 64).toNat)])) ∧ (went unserved 0x0704 c0 (pack [(1, (3 : BitVec 8).toNat), (1, (1 : BitVec 8).toNat),
      (1, (0 : BitVec 8).toNat), (1, (0 : BitVec 8).toNat), (2, (1 : BitVec 16).toNat), (2, (1 : BitVec 16).toNat), (4, (3 : BitVec
      32).toNat), (4, (0 : BitVec 32).toNat), (8, (0x1000 : BitVec 64).toNat), (8, (1 : BitVec 64).toNat)])).serves (keyPort (pathFn
      c0.path)) = false :=
  ⟨ready_starts _ _ _ _ _ (by decide), by decide⟩

theorem witness_TransportCommandsComplete_11 :
    Starts (ready hosted 0x0704 c0 (pack [(1, (3 : BitVec 8).toNat), (1, (1 : BitVec 8).toNat), (1, (0 : BitVec 8).toNat), (1, (0 : BitVec
      8).toNat), (2, (65535 : BitVec 16).toNat), (2, (1 : BitVec 16).toNat), (4, (3 : BitVec 32).toNat), (4, (0 : BitVec 32).toNat), (8,
      (0x1000 : BitVec 64).toNat), (8, (1 : BitVec 64).toNat)])) .f 0x0704 c0 (pack [(1, (3 : BitVec 8).toNat), (1, (1 : BitVec 8).toNat),
      (1, (0 : BitVec 8).toNat), (1, (0 : BitVec 8).toNat), (2, (65535 : BitVec 16).toNat), (2, (1 : BitVec 16).toNat), (4, (3 : BitVec
      32).toNat), (4, (0 : BitVec 32).toNat), (8, (0x1000 : BitVec 64).toNat), (8, (1 : BitVec 64).toNat)]) 0 (went hosted 0x0704 c0 (pack
      [(1, (3 : BitVec 8).toNat), (1, (1 : BitVec 8).toNat), (1, (0 : BitVec 8).toNat), (1, (0 : BitVec 8).toNat), (2, (65535 : BitVec
      16).toNat), (2, (1 : BitVec 16).toNat), (4, (3 : BitVec 32).toNat), (4, (0 : BitVec 32).toNat), (8, (0x1000 : BitVec 64).toNat), (8,
      (1 : BitVec 64).toNat)])) ∧ (went hosted 0x0704 c0 (pack [(1, (3 : BitVec 8).toNat), (1, (1 : BitVec 8).toNat), (1, (0 : BitVec
      8).toNat), (1, (0 : BitVec 8).toNat), (2, (65535 : BitVec 16).toNat), (2, (1 : BitVec 16).toNat), (4, (3 : BitVec 32).toNat), (4, (0
      : BitVec 32).toNat), (8, (0x1000 : BitVec 64).toNat), (8, (1 : BitVec 64).toNat)])).serves (keyPort (pathFn c0.path)) = true ∧
      ((went hosted 0x0704 c0 (pack [(1, (3 : BitVec 8).toNat), (1, (1 : BitVec 8).toNat), (1, (0 : BitVec 8).toNat), (1, (0 : BitVec
      8).toNat), (2, (65535 : BitVec 16).toNat), (2, (1 : BitVec 16).toNat), (4, (3 : BitVec 32).toNat), (4, (0 : BitVec 32).toNat), (8,
      (0x1000 : BitVec 64).toNat), (8, (1 : BitVec 64).toNat)])).ctx (65535 : BitVec 16).toNat).valid = false :=
  ⟨ready_starts _ _ _ _ _ (by decide), by decide, by decide⟩

theorem witness_TransportCommandsComplete_12 :
    Starts (ready foreign 0x0704 c0 (pack [(1, (3 : BitVec 8).toNat), (1, (1 : BitVec 8).toNat), (1, (0 : BitVec 8).toNat), (1, (0 :
      BitVec 8).toNat), (2, (1 : BitVec 16).toNat), (2, (1 : BitVec 16).toNat), (4, (3 : BitVec 32).toNat), (4, (0 : BitVec 32).toNat),
      (8, (0x1000 : BitVec 64).toNat), (8, (1 : BitVec 64).toNat)])) .f 0x0704 c0 (pack [(1, (3 : BitVec 8).toNat), (1, (1 : BitVec
      8).toNat), (1, (0 : BitVec 8).toNat), (1, (0 : BitVec 8).toNat), (2, (1 : BitVec 16).toNat), (2, (1 : BitVec 16).toNat), (4, (3 :
      BitVec 32).toNat), (4, (0 : BitVec 32).toNat), (8, (0x1000 : BitVec 64).toNat), (8, (1 : BitVec 64).toNat)]) 0 (went foreign 0x0704
      c0 (pack [(1, (3 : BitVec 8).toNat), (1, (1 : BitVec 8).toNat), (1, (0 : BitVec 8).toNat), (1, (0 : BitVec 8).toNat), (2, (1 :
      BitVec 16).toNat), (2, (1 : BitVec 16).toNat), (4, (3 : BitVec 32).toNat), (4, (0 : BitVec 32).toNat), (8, (0x1000 : BitVec
      64).toNat), (8, (1 : BitVec 64).toNat)])) ∧ (went foreign 0x0704 c0 (pack [(1, (3 : BitVec 8).toNat), (1, (1 : BitVec 8).toNat), (1,
      (0 : BitVec 8).toNat), (1, (0 : BitVec 8).toNat), (2, (1 : BitVec 16).toNat), (2, (1 : BitVec 16).toNat), (4, (3 : BitVec
      32).toNat), (4, (0 : BitVec 32).toNat), (8, (0x1000 : BitVec 64).toNat), (8, (1 : BitVec 64).toNat)])).serves (keyPort (pathFn
      c0.path)) = true ∧ ((went foreign 0x0704 c0 (pack [(1, (3 : BitVec 8).toNat), (1, (1 : BitVec 8).toNat), (1, (0 : BitVec 8).toNat),
      (1, (0 : BitVec 8).toNat), (2, (1 : BitVec 16).toNat), (2, (1 : BitVec 16).toNat), (4, (3 : BitVec 32).toNat), (4, (0 : BitVec
      32).toNat), (8, (0x1000 : BitVec 64).toNat), (8, (1 : BitVec 64).toNat)])).ctx (1 : BitVec 16).toNat).valid = true ∧ fkey ((went
      foreign 0x0704 c0 (pack [(1, (3 : BitVec 8).toNat), (1, (1 : BitVec 8).toNat), (1, (0 : BitVec 8).toNat), (1, (0 : BitVec 8).toNat),
      (2, (1 : BitVec 16).toNat), (2, (1 : BitVec 16).toNat), (4, (3 : BitVec 32).toNat), (4, (0 : BitVec 32).toNat), (8, (0x1000 : BitVec
      64).toNat), (8, (1 : BitVec 64).toNat)])).ctx (1 : BitVec 16).toNat).hport ((went foreign 0x0704 c0 (pack [(1, (3 : BitVec
      8).toNat), (1, (1 : BitVec 8).toNat), (1, (0 : BitVec 8).toNat), (1, (0 : BitVec 8).toNat), (2, (1 : BitVec 16).toNat), (2, (1 :
      BitVec 16).toNat), (4, (3 : BitVec 32).toNat), (4, (0 : BitVec 32).toNat), (8, (0x1000 : BitVec 64).toNat), (8, (1 : BitVec
      64).toNat)])).ctx (1 : BitVec 16).toNat).func ≠ pathFn c0.path :=
  ⟨ready_starts _ _ _ _ _ (by decide), by decide, by decide, by decide⟩

theorem witness_TransportCommandsComplete_13 :
    Starts (ready hosted 0x0704 c0 (pack [(1, (4 : BitVec 8).toNat), (1, (1 : BitVec 8).toNat), (1, (0 : BitVec 8).toNat), (1, (0 : BitVec
      8).toNat), (2, (1 : BitVec 16).toNat), (2, (1 : BitVec 16).toNat), (4, (3 : BitVec 32).toNat), (4, (0 : BitVec 32).toNat), (8,
      (0x1000 : BitVec 64).toNat), (8, (1 : BitVec 64).toNat)])) .f 0x0704 c0 (pack [(1, (4 : BitVec 8).toNat), (1, (1 : BitVec 8).toNat),
      (1, (0 : BitVec 8).toNat), (1, (0 : BitVec 8).toNat), (2, (1 : BitVec 16).toNat), (2, (1 : BitVec 16).toNat), (4, (3 : BitVec
      32).toNat), (4, (0 : BitVec 32).toNat), (8, (0x1000 : BitVec 64).toNat), (8, (1 : BitVec 64).toNat)]) 0 (went hosted 0x0704 c0 (pack
      [(1, (4 : BitVec 8).toNat), (1, (1 : BitVec 8).toNat), (1, (0 : BitVec 8).toNat), (1, (0 : BitVec 8).toNat), (2, (1 : BitVec
      16).toNat), (2, (1 : BitVec 16).toNat), (4, (3 : BitVec 32).toNat), (4, (0 : BitVec 32).toNat), (8, (0x1000 : BitVec 64).toNat), (8,
      (1 : BitVec 64).toNat)])) ∧ (went hosted 0x0704 c0 (pack [(1, (4 : BitVec 8).toNat), (1, (1 : BitVec 8).toNat), (1, (0 : BitVec
      8).toNat), (1, (0 : BitVec 8).toNat), (2, (1 : BitVec 16).toNat), (2, (1 : BitVec 16).toNat), (4, (3 : BitVec 32).toNat), (4, (0 :
      BitVec 32).toNat), (8, (0x1000 : BitVec 64).toNat), (8, (1 : BitVec 64).toNat)])).serves (keyPort (pathFn c0.path)) = true ∧ ((went
      hosted 0x0704 c0 (pack [(1, (4 : BitVec 8).toNat), (1, (1 : BitVec 8).toNat), (1, (0 : BitVec 8).toNat), (1, (0 : BitVec 8).toNat),
      (2, (1 : BitVec 16).toNat), (2, (1 : BitVec 16).toNat), (4, (3 : BitVec 32).toNat), (4, (0 : BitVec 32).toNat), (8, (0x1000 : BitVec
      64).toNat), (8, (1 : BitVec 64).toNat)])).ctx (1 : BitVec 16).toNat).valid = true ∧ fkey ((went hosted 0x0704 c0 (pack [(1, (4 :
      BitVec 8).toNat), (1, (1 : BitVec 8).toNat), (1, (0 : BitVec 8).toNat), (1, (0 : BitVec 8).toNat), (2, (1 : BitVec 16).toNat), (2,
      (1 : BitVec 16).toNat), (4, (3 : BitVec 32).toNat), (4, (0 : BitVec 32).toNat), (8, (0x1000 : BitVec 64).toNat), (8, (1 : BitVec
      64).toNat)])).ctx (1 : BitVec 16).toNat).hport ((went hosted 0x0704 c0 (pack [(1, (4 : BitVec 8).toNat), (1, (1 : BitVec 8).toNat),
      (1, (0 : BitVec 8).toNat), (1, (0 : BitVec 8).toNat), (2, (1 : BitVec 16).toNat), (2, (1 : BitVec 16).toNat), (4, (3 : BitVec
      32).toNat), (4, (0 : BitVec 32).toNat), (8, (0x1000 : BitVec 64).toNat), (8, (1 : BitVec 64).toNat)])).ctx (1 : BitVec
      16).toNat).func = pathFn c0.path ∧ (¬ ((went hosted 0x0704 c0 (pack [(1, (4 : BitVec 8).toNat), (1, (1 : BitVec 8).toNat), (1, (0 :
      BitVec 8).toNat), (1, (0 : BitVec 8).toNat), (2, (1 : BitVec 16).toNat), (2, (1 : BitVec 16).toNat), (4, (3 : BitVec 32).toNat), (4,
      (0 : BitVec 32).toNat), (8, (0x1000 : BitVec 64).toNat), (8, (1 : BitVec 64).toNat)])).jobIs (1 : BitVec 16).toNat (0 : BitVec
      8).toNat = true ∧ (4 : BitVec 8).toNat ≤ 3 ∧ (1 : BitVec 8).toNat ≤ 1 ∧ (0 : BitVec 8).toNat ≤ 1 ∧ (3 : BitVec 32).toNat < 2 ^ 20 ∧
      (0 : BitVec 32).toNat < 2 ^ 20 ∧ (went hosted 0x0704 c0 (pack [(1, (4 : BitVec 8).toNat), (1, (1 : BitVec 8).toNat), (1, (0 : BitVec
      8).toNat), (1, (0 : BitVec 8).toNat), (2, (1 : BitVec 16).toNat), (2, (1 : BitVec 16).toNat), (4, (3 : BitVec 32).toNat), (4, (0 :
      BitVec 32).toNat), (8, (0x1000 : BitVec 64).toNat), (8, (1 : BitVec 64).toNat)])).windowRanges ({ permRead := bitAt (4 : BitVec 8).toNat 0, permWrite := bitAt (4 : BitVec 8).toNat 1, scopePid := (1 : BitVec 8).toNat = 1, cntEn := (0 : BitVec 8).toNat = 1, hport := keyPort (pathFn c0.path), func := keyFunc (pathFn c0.path), ctx := (1 : BitVec 16).toNat, job := (1 : BitVec 16).toNat, peerPid := (3 : BitVec 32).toNat, cntIdx := (0 : BitVec 32).toNat, base := (0x1000 : BitVec 64).toNat, length := (1 : BitVec 64).toNat }
      : WinEntry) = true)) :=
  ⟨ready_starts _ _ _ _ _ (by decide), by decide, by decide, by decide, by decide⟩

theorem witness_TransportCommandsComplete_14 :
    Starts (ready unwindowed 0x0704 c0 (pack [(1, (3 : BitVec 8).toNat), (1, (1 : BitVec 8).toNat), (1, (0 : BitVec 8).toNat), (1, (0 :
      BitVec 8).toNat), (2, (1 : BitVec 16).toNat), (2, (1 : BitVec 16).toNat), (4, (3 : BitVec 32).toNat), (4, (0 : BitVec 32).toNat),
      (8, (0x1000 : BitVec 64).toNat), (8, (1 : BitVec 64).toNat)])) .f 0x0704 c0 (pack [(1, (3 : BitVec 8).toNat), (1, (1 : BitVec
      8).toNat), (1, (0 : BitVec 8).toNat), (1, (0 : BitVec 8).toNat), (2, (1 : BitVec 16).toNat), (2, (1 : BitVec 16).toNat), (4, (3 :
      BitVec 32).toNat), (4, (0 : BitVec 32).toNat), (8, (0x1000 : BitVec 64).toNat), (8, (1 : BitVec 64).toNat)]) 0 (went unwindowed
      0x0704 c0 (pack [(1, (3 : BitVec 8).toNat), (1, (1 : BitVec 8).toNat), (1, (0 : BitVec 8).toNat), (1, (0 : BitVec 8).toNat), (2, (1
      : BitVec 16).toNat), (2, (1 : BitVec 16).toNat), (4, (3 : BitVec 32).toNat), (4, (0 : BitVec 32).toNat), (8, (0x1000 : BitVec
      64).toNat), (8, (1 : BitVec 64).toNat)])) ∧ (went unwindowed 0x0704 c0 (pack [(1, (3 : BitVec 8).toNat), (1, (1 : BitVec 8).toNat),
      (1, (0 : BitVec 8).toNat), (1, (0 : BitVec 8).toNat), (2, (1 : BitVec 16).toNat), (2, (1 : BitVec 16).toNat), (4, (3 : BitVec
      32).toNat), (4, (0 : BitVec 32).toNat), (8, (0x1000 : BitVec 64).toNat), (8, (1 : BitVec 64).toNat)])).serves (keyPort (pathFn
      c0.path)) = true ∧ ((went unwindowed 0x0704 c0 (pack [(1, (3 : BitVec 8).toNat), (1, (1 : BitVec 8).toNat), (1, (0 : BitVec
      8).toNat), (1, (0 : BitVec 8).toNat), (2, (1 : BitVec 16).toNat), (2, (1 : BitVec 16).toNat), (4, (3 : BitVec 32).toNat), (4, (0 :
      BitVec 32).toNat), (8, (0x1000 : BitVec 64).toNat), (8, (1 : BitVec 64).toNat)])).ctx (1 : BitVec 16).toNat).valid = true ∧ fkey
      ((went unwindowed 0x0704 c0 (pack [(1, (3 : BitVec 8).toNat), (1, (1 : BitVec 8).toNat), (1, (0 : BitVec 8).toNat), (1, (0 : BitVec
      8).toNat), (2, (1 : BitVec 16).toNat), (2, (1 : BitVec 16).toNat), (4, (3 : BitVec 32).toNat), (4, (0 : BitVec 32).toNat), (8,
      (0x1000 : BitVec 64).toNat), (8, (1 : BitVec 64).toNat)])).ctx (1 : BitVec 16).toNat).hport ((went unwindowed 0x0704 c0 (pack [(1,
      (3 : BitVec 8).toNat), (1, (1 : BitVec 8).toNat), (1, (0 : BitVec 8).toNat), (1, (0 : BitVec 8).toNat), (2, (1 : BitVec 16).toNat),
      (2, (1 : BitVec 16).toNat), (4, (3 : BitVec 32).toNat), (4, (0 : BitVec 32).toNat), (8, (0x1000 : BitVec 64).toNat), (8, (1 : BitVec
      64).toNat)])).ctx (1 : BitVec 16).toNat).func = pathFn c0.path ∧ (went unwindowed 0x0704 c0 (pack [(1, (3 : BitVec 8).toNat), (1, (1
      : BitVec 8).toNat), (1, (0 : BitVec 8).toNat), (1, (0 : BitVec 8).toNat), (2, (1 : BitVec 16).toNat), (2, (1 : BitVec 16).toNat),
      (4, (3 : BitVec 32).toNat), (4, (0 : BitVec 32).toNat), (8, (0x1000 : BitVec 64).toNat), (8, (1 : BitVec 64).toNat)])).jobIs (1 :
      BitVec 16).toNat (0 : BitVec 8).toNat = true ∧ (3 : BitVec 8).toNat ≤ 3 ∧ (1 : BitVec 8).toNat ≤ 1 ∧ (0 : BitVec 8).toNat ≤ 1 ∧ (3 :
      BitVec 32).toNat < 2 ^ 20 ∧ (0 : BitVec 32).toNat < 2 ^ 20 ∧ (went unwindowed 0x0704 c0 (pack [(1, (3 : BitVec 8).toNat), (1, (1 :
      BitVec 8).toNat), (1, (0 : BitVec 8).toNat), (1, (0 : BitVec 8).toNat), (2, (1 : BitVec 16).toNat), (2, (1 : BitVec 16).toNat), (4,
      (3 : BitVec 32).toNat), (4, (0 : BitVec 32).toNat), (8, (0x1000 : BitVec 64).toNat), (8, (1 : BitVec 64).toNat)])).windowRanges ({ permRead := bitAt (3 : BitVec 8).toNat 0, permWrite := bitAt (3 : BitVec 8).toNat 1, scopePid := (1 : BitVec 8).toNat = 1, cntEn := (0 : BitVec 8).toNat = 1, hport := keyPort (pathFn c0.path), func := keyFunc (pathFn c0.path), ctx := (1 : BitVec 16).toNat, job := (1 : BitVec 16).toNat, peerPid := (3 : BitVec 32).toNat, cntIdx := (0 : BitVec 32).toNat, base := (0x1000 : BitVec 64).toNat, length := (1 : BitVec 64).toNat }
      : WinEntry) = true ∧ (went unwindowed 0x0704 c0 (pack [(1, (3 : BitVec 8).toNat), (1, (1 : BitVec 8).toNat), (1, (0 : BitVec
      8).toNat), (1, (0 : BitVec 8).toNat), (2, (1 : BitVec 16).toNat), (2, (1 : BitVec 16).toNat), (4, (3 : BitVec 32).toNat), (4, (0 :
      BitVec 32).toNat), (8, (0x1000 : BitVec 64).toNat), (8, (1 : BitVec 64).toNat)])).freeWindow = none :=
  ⟨ready_starts _ _ _ _ _ (by decide), by decide, by decide, by decide, by decide, by decide, by decide, by decide, by decide, by decide,
    by decide, by decide⟩

theorem witness_TransportCommandsComplete_15 :
    Starts (ready ((hosted.wr R.FUNC_STATUS_STATE fsQuiescing)) 0x0704 c0 (pack [(1, (3 : BitVec 8).toNat), (1, (1 : BitVec 8).toNat), (1,
      (0 : BitVec 8).toNat), (1, (0 : BitVec 8).toNat), (2, (1 : BitVec 16).toNat), (2, (1 : BitVec 16).toNat), (4, (3 : BitVec
      32).toNat), (4, (0 : BitVec 32).toNat), (8, (0x1000 : BitVec 64).toNat), (8, (1 : BitVec 64).toNat)])) .f 0x0704 c0 (pack [(1, (3 :
      BitVec 8).toNat), (1, (1 : BitVec 8).toNat), (1, (0 : BitVec 8).toNat), (1, (0 : BitVec 8).toNat), (2, (1 : BitVec 16).toNat), (2,
      (1 : BitVec 16).toNat), (4, (3 : BitVec 32).toNat), (4, (0 : BitVec 32).toNat), (8, (0x1000 : BitVec 64).toNat), (8, (1 : BitVec
      64).toNat)]) 0 (went ((hosted.wr R.FUNC_STATUS_STATE fsQuiescing)) 0x0704 c0 (pack [(1, (3 : BitVec 8).toNat), (1, (1 : BitVec
      8).toNat), (1, (0 : BitVec 8).toNat), (1, (0 : BitVec 8).toNat), (2, (1 : BitVec 16).toNat), (2, (1 : BitVec 16).toNat), (4, (3 :
      BitVec 32).toNat), (4, (0 : BitVec 32).toNat), (8, (0x1000 : BitVec 64).toNat), (8, (1 : BitVec 64).toNat)])) ∧ (went ((hosted.wr
      R.FUNC_STATUS_STATE fsQuiescing)) 0x0704 c0 (pack [(1, (3 : BitVec 8).toNat), (1, (1 : BitVec 8).toNat), (1, (0 : BitVec 8).toNat),
      (1, (0 : BitVec 8).toNat), (2, (1 : BitVec 16).toNat), (2, (1 : BitVec 16).toNat), (4, (3 : BitVec 32).toNat), (4, (0 : BitVec
      32).toNat), (8, (0x1000 : BitVec 64).toNat), (8, (1 : BitVec 64).toNat)])).serves (keyPort (pathFn c0.path)) = true ∧ ((went
      ((hosted.wr R.FUNC_STATUS_STATE fsQuiescing)) 0x0704 c0 (pack [(1, (3 : BitVec 8).toNat), (1, (1 : BitVec 8).toNat), (1, (0 : BitVec
      8).toNat), (1, (0 : BitVec 8).toNat), (2, (1 : BitVec 16).toNat), (2, (1 : BitVec 16).toNat), (4, (3 : BitVec 32).toNat), (4, (0 :
      BitVec 32).toNat), (8, (0x1000 : BitVec 64).toNat), (8, (1 : BitVec 64).toNat)])).ctx (1 : BitVec 16).toNat).valid = true ∧ fkey
      ((went ((hosted.wr R.FUNC_STATUS_STATE fsQuiescing)) 0x0704 c0 (pack [(1, (3 : BitVec 8).toNat), (1, (1 : BitVec 8).toNat), (1, (0 :
      BitVec 8).toNat), (1, (0 : BitVec 8).toNat), (2, (1 : BitVec 16).toNat), (2, (1 : BitVec 16).toNat), (4, (3 : BitVec 32).toNat), (4,
      (0 : BitVec 32).toNat), (8, (0x1000 : BitVec 64).toNat), (8, (1 : BitVec 64).toNat)])).ctx (1 : BitVec 16).toNat).hport ((went
      ((hosted.wr R.FUNC_STATUS_STATE fsQuiescing)) 0x0704 c0 (pack [(1, (3 : BitVec 8).toNat), (1, (1 : BitVec 8).toNat), (1, (0 : BitVec
      8).toNat), (1, (0 : BitVec 8).toNat), (2, (1 : BitVec 16).toNat), (2, (1 : BitVec 16).toNat), (4, (3 : BitVec 32).toNat), (4, (0 :
      BitVec 32).toNat), (8, (0x1000 : BitVec 64).toNat), (8, (1 : BitVec 64).toNat)])).ctx (1 : BitVec 16).toNat).func = pathFn c0.path ∧
      (went ((hosted.wr R.FUNC_STATUS_STATE fsQuiescing)) 0x0704 c0 (pack [(1, (3 : BitVec 8).toNat), (1, (1 : BitVec 8).toNat), (1, (0 :
      BitVec 8).toNat), (1, (0 : BitVec 8).toNat), (2, (1 : BitVec 16).toNat), (2, (1 : BitVec 16).toNat), (4, (3 : BitVec 32).toNat), (4,
      (0 : BitVec 32).toNat), (8, (0x1000 : BitVec 64).toNat), (8, (1 : BitVec 64).toNat)])).jobIs (1 : BitVec 16).toNat (0 : BitVec
      8).toNat = true ∧ (3 : BitVec 8).toNat ≤ 3 ∧ (1 : BitVec 8).toNat ≤ 1 ∧ (0 : BitVec 8).toNat ≤ 1 ∧ (3 : BitVec 32).toNat < 2 ^ 20 ∧
      (0 : BitVec 32).toNat < 2 ^ 20 ∧ (went ((hosted.wr R.FUNC_STATUS_STATE fsQuiescing)) 0x0704 c0 (pack [(1, (3 : BitVec 8).toNat), (1,
      (1 : BitVec 8).toNat), (1, (0 : BitVec 8).toNat), (1, (0 : BitVec 8).toNat), (2, (1 : BitVec 16).toNat), (2, (1 : BitVec 16).toNat),
      (4, (3 : BitVec 32).toNat), (4, (0 : BitVec 32).toNat), (8, (0x1000 : BitVec 64).toNat), (8, (1 : BitVec 64).toNat)])).windowRanges
      ({ permRead := bitAt (3 : BitVec 8).toNat 0, permWrite := bitAt (3 : BitVec 8).toNat 1, scopePid := (1 : BitVec 8).toNat = 1, cntEn := (0 : BitVec 8).toNat = 1, hport := keyPort (pathFn c0.path), func := keyFunc (pathFn c0.path), ctx := (1 : BitVec 16).toNat, job := (1 : BitVec 16).toNat, peerPid := (3 : BitVec 32).toNat, cntIdx := (0 : BitVec 32).toNat, base := (0x1000 : BitVec 64).toNat, length := (1 : BitVec 64).toNat }
      : WinEntry) = true ∧ (went ((hosted.wr R.FUNC_STATUS_STATE fsQuiescing)) 0x0704 c0 (pack [(1, (3 : BitVec 8).toNat), (1, (1 : BitVec
      8).toNat), (1, (0 : BitVec 8).toNat), (1, (0 : BitVec 8).toNat), (2, (1 : BitVec 16).toNat), (2, (1 : BitVec 16).toNat), (4, (3 :
      BitVec 32).toNat), (4, (0 : BitVec 32).toNat), (8, (0x1000 : BitVec 64).toNat), (8, (1 : BitVec 64).toNat)])).freeWindow = some (4 :
      Nat) ∧ (went ((hosted.wr R.FUNC_STATUS_STATE fsQuiescing)) 0x0704 c0 (pack [(1, (3 : BitVec 8).toNat), (1, (1 : BitVec 8).toNat),
      (1, (0 : BitVec 8).toNat), (1, (0 : BitVec 8).toNat), (2, (1 : BitVec 16).toNat), (2, (1 : BitVec 16).toNat), (4, (3 : BitVec
      32).toNat), (4, (0 : BitVec 32).toNat), (8, (0x1000 : BitVec 64).toNat), (8, (1 : BitVec 64).toNat)])).fnState (pathFn c0.path) ≠
      fsEnabled :=
  ⟨ready_starts _ _ _ _ _ (by decide), by decide, by decide, by decide, by decide, by decide, by decide, by decide, by decide, by decide,
    by decide, by decide, by decide⟩

theorem witness_TransportCommandsComplete_16 :
    Starts (ready tst 0x0705 c0 (pack [(4, (0 : BitVec 32).toNat)])) .f 0x0705 c0 (pack [(4, (0 : BitVec 32).toNat)]) 0 (went tst 0x0705
      c0 (pack [(4, (0 : BitVec 32).toNat)])) :=
  ready_starts _ _ _ _ _ (by decide)

theorem witness_TransportCommandsComplete_17 :
    Starts (ready hosted 0x0706 c0 (pack [(4, (3 : BitVec 32).toNat)])) .f 0x0706 c0 (pack [(4, (3 : BitVec 32).toNat)]) 0 (went hosted
      0x0706 c0 (pack [(4, (3 : BitVec 32).toNat)])) ∧ keyIndex (3 : BitVec 32).toNat < (went hosted 0x0706 c0 (pack [(4, (3 : BitVec
      32).toNat)])).rd R.WIN_CFG_COUNT ∧ ((went hosted 0x0706 c0 (pack [(4, (3 : BitVec 32).toNat)])).window (keyIndex (3 : BitVec
      32).toNat)).opened = true ∧ fkey ((went hosted 0x0706 c0 (pack [(4, (3 : BitVec 32).toNat)])).window (keyIndex (3 : BitVec
      32).toNat)).hport ((went hosted 0x0706 c0 (pack [(4, (3 : BitVec 32).toNat)])).window (keyIndex (3 : BitVec 32).toNat)).func =
      pathFn c0.path :=
  ⟨ready_starts _ _ _ _ _ (by decide), by decide, by decide, by decide⟩

theorem witness_TransportCommandsComplete_18 :
    Starts (ready hosted 0x0706 c0 (pack [(4, (2 : BitVec 32).toNat)])) .f 0x0706 c0 (pack [(4, (2 : BitVec 32).toNat)]) 0 (went hosted
      0x0706 c0 (pack [(4, (2 : BitVec 32).toNat)])) ∧ ((went hosted 0x0706 c0 (pack [(4, (2 : BitVec 32).toNat)])).rd R.WIN_CFG_COUNT ≤
      keyIndex (2 : BitVec 32).toNat ∨ ((went hosted 0x0706 c0 (pack [(4, (2 : BitVec 32).toNat)])).window (keyIndex (2 : BitVec
      32).toNat)).opened = false) :=
  ⟨ready_starts _ _ _ _ _ (by decide), by decide⟩

theorem witness_TransportCommandsComplete_19 :
    Starts (ready hosted 0x0706 cvf (pack [(4, (3 : BitVec 32).toNat)])) .f 0x0706 cvf (pack [(4, (3 : BitVec 32).toNat)]) 0 (went hosted
      0x0706 cvf (pack [(4, (3 : BitVec 32).toNat)])) ∧ keyIndex (3 : BitVec 32).toNat < (went hosted 0x0706 cvf (pack [(4, (3 : BitVec
      32).toNat)])).rd R.WIN_CFG_COUNT ∧ ((went hosted 0x0706 cvf (pack [(4, (3 : BitVec 32).toNat)])).window (keyIndex (3 : BitVec
      32).toNat)).opened = true ∧ fkey ((went hosted 0x0706 cvf (pack [(4, (3 : BitVec 32).toNat)])).window (keyIndex (3 : BitVec
      32).toNat)).hport ((went hosted 0x0706 cvf (pack [(4, (3 : BitVec 32).toNat)])).window (keyIndex (3 : BitVec 32).toNat)).func ≠
      pathFn cvf.path :=
  ⟨ready_starts _ _ _ _ _ (by decide), by decide, by decide, by decide⟩

theorem witness_TransportCommandsComplete_20 :
    Starts (ready tst 0x0800 c0 (pack [(4, (65536 : BitVec 32).toNat), (2, (300 : BitVec 16).toNat)])) .d 0x0800 c0 (pack [(4, (65536 :
      BitVec 32).toNat), (2, (300 : BitVec 16).toNat)]) 0 (went tst 0x0800 c0 (pack [(4, (65536 : BitVec 32).toNat), (2, (300 : BitVec
      16).toNat)])) ∧ (([(R.MAT_CFG_EAGER_LIMIT, (65536 : BitVec 32).toNat), (R.MAT_MIRE_RATE_RATE, (300 : BitVec 16).toNat)].all fun x =>
      x.1.allows x.2) = true) :=
  ⟨ready_starts _ _ _ _ _ (by decide), by decide⟩

theorem witness_TransportCommandsComplete_21 :
    Starts (ready tst 0x0800 c0 (pack [(4, (65536 : BitVec 32).toNat), (2, (0 : BitVec 16).toNat)])) .d 0x0800 c0 (pack [(4, (65536 :
      BitVec 32).toNat), (2, (0 : BitVec 16).toNat)]) 0 (went tst 0x0800 c0 (pack [(4, (65536 : BitVec 32).toNat), (2, (0 : BitVec
      16).toNat)])) ∧ (([(R.MAT_CFG_EAGER_LIMIT, (65536 : BitVec 32).toNat), (R.MAT_MIRE_RATE_RATE, (0 : BitVec 16).toNat)].all fun x =>
      x.1.allows x.2) = false) :=
  ⟨ready_starts _ _ _ _ _ (by decide), by decide⟩

theorem witness_TransportCommandsComplete_22 :
    Starts (ready tst 0x0801 c0 []) .d 0x0801 c0 [] 0 (went tst 0x0801 c0 []) :=
  ready_starts _ _ _ _ _ (by decide)

theorem witness_TransportCommandsComplete_23 :
    Starts (ready hosted 0x0802 c0 (pack [(4, (5 : BitVec 32).toNat)])) .f 0x0802 c0 (pack [(4, (5 : BitVec 32).toNat)]) 0 (went hosted
      0x0802 c0 (pack [(4, (5 : BitVec 32).toNat)])) ∧ ((went hosted 0x0802 c0 (pack [(4, (5 : BitVec 32).toNat)])).qp (5 : BitVec
      32).toNat : Qp).valid = true ∧ ((went hosted 0x0802 c0 (pack [(4, (5 : BitVec 32).toNat)])).qp (5 : BitVec 32).toNat : Qp).func =
      pathFn c0.path :=
  ⟨ready_starts _ _ _ _ _ (by decide), by decide, by decide⟩

theorem witness_TransportCommandsComplete_24 :
    Starts (ready hosted 0x0802 c0 (pack [(4, (262143 : BitVec 32).toNat)])) .f 0x0802 c0 (pack [(4, (262143 : BitVec 32).toNat)]) 0 (went
      hosted 0x0802 c0 (pack [(4, (262143 : BitVec 32).toNat)])) ∧ ((went hosted 0x0802 c0 (pack [(4, (262143 : BitVec 32).toNat)])).qp
      (262143 : BitVec 32).toNat).valid = false :=
  ⟨ready_starts _ _ _ _ _ (by decide), by decide⟩

theorem witness_TransportCommandsComplete_25 :
    Starts (ready foreign 0x0802 c0 (pack [(4, (5 : BitVec 32).toNat)])) .f 0x0802 c0 (pack [(4, (5 : BitVec 32).toNat)]) 0 (went foreign
      0x0802 c0 (pack [(4, (5 : BitVec 32).toNat)])) ∧ ((went foreign 0x0802 c0 (pack [(4, (5 : BitVec 32).toNat)])).qp (5 : BitVec
      32).toNat).valid = true ∧ ((went foreign 0x0802 c0 (pack [(4, (5 : BitVec 32).toNat)])).qp (5 : BitVec 32).toNat).func ≠ pathFn
      c0.path :=
  ⟨ready_starts _ _ _ _ _ (by decide), by decide, by decide⟩

/-! ### CounterCommandsComplete -/

theorem witness_CounterCommandsComplete_1 :
    Starts (ready hosted 0x0900 c0 (pack [(4, (1 : BitVec 32).toNat)])) .f 0x0900 c0 (pack [(4, (1 : BitVec 32).toNat)]) 0 (went hosted
      0x0900 c0 (pack [(4, (1 : BitVec 32).toNat)])) ∧ 1 ≤ (1 : BitVec 32).toNat ∧ (1 : BitVec 32).toNat ≤ 65536 ∧ freeRun (went hosted
      0x0900 c0 (pack [(4, (1 : BitVec 32).toNat)])).tallyRuns ((went hosted 0x0900 c0 (pack [(4, (1 : BitVec 32).toNat)])).ownHalf
      1048576).1 ((went hosted 0x0900 c0 (pack [(4, (1 : BitVec 32).toNat)])).ownHalf 1048576).2 (1 : BitVec 32).toNat = some (0 : Nat) ∧
      (went hosted 0x0900 c0 (pack [(4, (1 : BitVec 32).toNat)])).fnState (pathFn c0.path) = fsEnabled ∧ (went hosted 0x0900 c0 (pack [(4,
      (1 : BitVec 32).toNat)])).serves (keyPort (pathFn c0.path)) = true :=
  ⟨ready_starts _ _ _ _ _ (by decide), by decide, by decide, by decide, by decide, by decide⟩

theorem witness_CounterCommandsComplete_2 :
    Starts (ready hosted 0x0900 c0 (pack [(4, (65537 : BitVec 32).toNat)])) .f 0x0900 c0 (pack [(4, (65537 : BitVec 32).toNat)]) 0 (went
      hosted 0x0900 c0 (pack [(4, (65537 : BitVec 32).toNat)])) ∧ (went hosted 0x0900 c0 (pack [(4, (65537 : BitVec 32).toNat)])).serves
      (keyPort (pathFn c0.path)) = true ∧ ((65537 : BitVec 32).toNat < 1 ∨ 65536 < (65537 : BitVec 32).toNat) :=
  ⟨ready_starts _ _ _ _ _ (by decide), by decide, by decide⟩

theorem witness_CounterCommandsComplete_3 :
    Starts (ready unserved 0x0900 c0 (pack [(4, (1 : BitVec 32).toNat)])) .f 0x0900 c0 (pack [(4, (1 : BitVec 32).toNat)]) 0 (went
      unserved 0x0900 c0 (pack [(4, (1 : BitVec 32).toNat)])) ∧ (went unserved 0x0900 c0 (pack [(4, (1 : BitVec 32).toNat)])).serves
      (keyPort (pathFn c0.path)) = false :=
  ⟨ready_starts _ _ _ _ _ (by decide), by decide⟩

theorem witness_CounterCommandsComplete_4 :
    Starts (ready allcounted 0x0900 c0 (pack [(4, (65536 : BitVec 32).toNat)])) .f 0x0900 c0 (pack [(4, (65536 : BitVec 32).toNat)]) 0
      (went allcounted 0x0900 c0 (pack [(4, (65536 : BitVec 32).toNat)])) ∧ (went allcounted 0x0900 c0 (pack [(4, (65536 : BitVec
      32).toNat)])).serves (keyPort (pathFn c0.path)) = true ∧ 1 ≤ (65536 : BitVec 32).toNat ∧ (65536 : BitVec 32).toNat ≤ 65536 ∧ freeRun
      (went allcounted 0x0900 c0 (pack [(4, (65536 : BitVec 32).toNat)])).tallyRuns ((went allcounted 0x0900 c0 (pack [(4, (65536 : BitVec
      32).toNat)])).ownHalf 1048576).1 ((went allcounted 0x0900 c0 (pack [(4, (65536 : BitVec 32).toNat)])).ownHalf 1048576).2 (65536 :
      BitVec 32).toNat = none :=
  ⟨ready_starts _ _ _ _ _ (by decide), by decide, by decide, by decide, by decide⟩

theorem witness_CounterCommandsComplete_5 :
    Starts (ready ((hosted.wr R.FUNC_STATUS_STATE fsQuiescing)) 0x0900 c0 (pack [(4, (1 : BitVec 32).toNat)])) .f 0x0900 c0 (pack [(4, (1
      : BitVec 32).toNat)]) 0 (went ((hosted.wr R.FUNC_STATUS_STATE fsQuiescing)) 0x0900 c0 (pack [(4, (1 : BitVec 32).toNat)])) ∧ (went
      ((hosted.wr R.FUNC_STATUS_STATE fsQuiescing)) 0x0900 c0 (pack [(4, (1 : BitVec 32).toNat)])).serves (keyPort (pathFn c0.path)) =
      true ∧ 1 ≤ (1 : BitVec 32).toNat ∧ (1 : BitVec 32).toNat ≤ 65536 ∧ freeRun (went ((hosted.wr R.FUNC_STATUS_STATE fsQuiescing))
      0x0900 c0 (pack [(4, (1 : BitVec 32).toNat)])).tallyRuns ((went ((hosted.wr R.FUNC_STATUS_STATE fsQuiescing)) 0x0900 c0 (pack [(4,
      (1 : BitVec 32).toNat)])).ownHalf 1048576).1 ((went ((hosted.wr R.FUNC_STATUS_STATE fsQuiescing)) 0x0900 c0 (pack [(4, (1 : BitVec
      32).toNat)])).ownHalf 1048576).2 (1 : BitVec 32).toNat = some (0 : Nat) ∧ (went ((hosted.wr R.FUNC_STATUS_STATE fsQuiescing)) 0x0900
      c0 (pack [(4, (1 : BitVec 32).toNat)])).fnState (pathFn c0.path) ≠ fsEnabled :=
  ⟨ready_starts _ _ _ _ _ (by decide), by decide, by decide, by decide, by decide, by decide⟩

theorem witness_CounterCommandsComplete_6 :
    Starts (ready counted 0x0901 c0 (pack [(4, (1048575 : BitVec 32).toNat), (4, (1 : BitVec 32).toNat)])) .f 0x0901 c0 (pack [(4,
      (1048575 : BitVec 32).toNat), (4, (1 : BitVec 32).toNat)]) 0 (went counted 0x0901 c0 (pack [(4, (1048575 : BitVec 32).toNat), (4, (1
      : BitVec 32).toNat)])) ∧ 0 < (1 : BitVec 32).toNat ∧ (1048575 : BitVec 32).toNat + (1 : BitVec 32).toNat ≤ 1048576 ∧ ((1 : BitVec
      32).toNat ≤ ((went counted 0x0901 c0 (pack [(4, (1048575 : BitVec 32).toNat), (4, (1 : BitVec 32).toNat)])).trg.tally.filter (fun kv
      => kv.2.alloc && (1048575 : BitVec 32).toNat ≤ kv.1 && kv.1 < (1048575 : BitVec 32).toNat + (1 : BitVec 32).toNat) : List (Nat ×
      Tally)).length) ∧ (((went counted 0x0901 c0 (pack [(4, (1048575 : BitVec 32).toNat), (4, (1 : BitVec 32).toNat)])).trg.tally.filter
      (fun kv => kv.2.alloc && (1048575 : BitVec 32).toNat ≤ kv.1 && kv.1 < (1048575 : BitVec 32).toNat + (1 : BitVec 32).toNat) : List
      (Nat × Tally)).any (fun kv => fkey kv.2.hport kv.2.func ≠ pathFn c0.path) = false) ∧ (went counted 0x0901 c0 (pack [(4, (1048575 :
      BitVec 32).toNat), (4, (1 : BitVec 32).toNat)])).cntInUse (1048575 : BitVec 32).toNat (1 : BitVec 32).toNat = false :=
  ⟨ready_starts _ _ _ _ _ (by decide), by decide, by decide, by decide, by decide, by decide⟩

theorem witness_CounterCommandsComplete_7 :
    Starts (ready counted 0x0901 c0 (pack [(4, (1048575 : BitVec 32).toNat), (4, (2 : BitVec 32).toNat)])) .f 0x0901 c0 (pack [(4,
      (1048575 : BitVec 32).toNat), (4, (2 : BitVec 32).toNat)]) 0 (went counted 0x0901 c0 (pack [(4, (1048575 : BitVec 32).toNat), (4, (2
      : BitVec 32).toNat)])) ∧ ((2 : BitVec 32).toNat = 0 ∨ 1048576 < (1048575 : BitVec 32).toNat + (2 : BitVec 32).toNat ∨ ((went counted
      0x0901 c0 (pack [(4, (1048575 : BitVec 32).toNat), (4, (2 : BitVec 32).toNat)])).trg.tally.filter (fun kv => kv.2.alloc && (1048575
      : BitVec 32).toNat ≤ kv.1 && kv.1 < (1048575 : BitVec 32).toNat + (2 : BitVec 32).toNat) : List (Nat × Tally)).length < (2 : BitVec
      32).toNat) :=
  ⟨ready_starts _ _ _ _ _ (by decide), by decide⟩

theorem witness_CounterCommandsComplete_8 :
    Starts (ready counted 0x0901 cvf (pack [(4, (1048575 : BitVec 32).toNat), (4, (1 : BitVec 32).toNat)])) .f 0x0901 cvf (pack [(4,
      (1048575 : BitVec 32).toNat), (4, (1 : BitVec 32).toNat)]) 0 (went counted 0x0901 cvf (pack [(4, (1048575 : BitVec 32).toNat), (4,
      (1 : BitVec 32).toNat)])) ∧ 0 < (1 : BitVec 32).toNat ∧ (1048575 : BitVec 32).toNat + (1 : BitVec 32).toNat ≤ 1048576 ∧ ((1 : BitVec
      32).toNat ≤ ((went counted 0x0901 cvf (pack [(4, (1048575 : BitVec 32).toNat), (4, (1 : BitVec 32).toNat)])).trg.tally.filter (fun
      kv => kv.2.alloc && (1048575 : BitVec 32).toNat ≤ kv.1 && kv.1 < (1048575 : BitVec 32).toNat + (1 : BitVec 32).toNat) : List (Nat ×
      Tally)).length) ∧ (((went counted 0x0901 cvf (pack [(4, (1048575 : BitVec 32).toNat), (4, (1 : BitVec 32).toNat)])).trg.tally.filter
      (fun kv => kv.2.alloc && (1048575 : BitVec 32).toNat ≤ kv.1 && kv.1 < (1048575 : BitVec 32).toNat + (1 : BitVec 32).toNat) : List
      (Nat × Tally)).any (fun kv => fkey kv.2.hport kv.2.func ≠ pathFn cvf.path) = true) :=
  ⟨ready_starts _ _ _ _ _ (by decide), by decide, by decide, by decide, by decide⟩

theorem witness_CounterCommandsComplete_9 :
    Starts (ready countUsed 0x0901 c0 (pack [(4, (1048575 : BitVec 32).toNat), (4, (1 : BitVec 32).toNat)])) .f 0x0901 c0 (pack [(4,
      (1048575 : BitVec 32).toNat), (4, (1 : BitVec 32).toNat)]) 0 (went countUsed 0x0901 c0 (pack [(4, (1048575 : BitVec 32).toNat), (4,
      (1 : BitVec 32).toNat)])) ∧ 0 < (1 : BitVec 32).toNat ∧ (1048575 : BitVec 32).toNat + (1 : BitVec 32).toNat ≤ 1048576 ∧ ((1 : BitVec
      32).toNat ≤ ((went countUsed 0x0901 c0 (pack [(4, (1048575 : BitVec 32).toNat), (4, (1 : BitVec 32).toNat)])).trg.tally.filter (fun
      kv => kv.2.alloc && (1048575 : BitVec 32).toNat ≤ kv.1 && kv.1 < (1048575 : BitVec 32).toNat + (1 : BitVec 32).toNat) : List (Nat ×
      Tally)).length) ∧ (((went countUsed 0x0901 c0 (pack [(4, (1048575 : BitVec 32).toNat), (4, (1 : BitVec
      32).toNat)])).trg.tally.filter (fun kv => kv.2.alloc && (1048575 : BitVec 32).toNat ≤ kv.1 && kv.1 < (1048575 : BitVec 32).toNat +
      (1 : BitVec 32).toNat) : List (Nat × Tally)).any (fun kv => fkey kv.2.hport kv.2.func ≠ pathFn c0.path) = false) ∧ (went countUsed
      0x0901 c0 (pack [(4, (1048575 : BitVec 32).toNat), (4, (1 : BitVec 32).toNat)])).cntInUse (1048575 : BitVec 32).toNat (1 : BitVec
      32).toNat = true :=
  ⟨ready_starts _ _ _ _ _ (by decide), by decide, by decide, by decide, by decide, by decide⟩

theorem witness_CounterCommandsComplete_10 :
    Starts (ready counted 0x0902 c0 (pack [(4, (5 : BitVec 32).toNat), (4, (1048575 : BitVec 32).toNat), (1, (1 : BitVec 8).toNat)])) .f
      0x0902 c0 (pack [(4, (5 : BitVec 32).toNat), (4, (1048575 : BitVec 32).toNat), (1, (1 : BitVec 8).toNat)]) 0 (went counted 0x0902 c0
      (pack [(4, (5 : BitVec 32).toNat), (4, (1048575 : BitVec 32).toNat), (1, (1 : BitVec 8).toNat)])) ∧ ((went counted 0x0902 c0 (pack
      [(4, (5 : BitVec 32).toNat), (4, (1048575 : BitVec 32).toNat), (1, (1 : BitVec 8).toNat)])).qp (5 : BitVec 32).toNat : Qp).valid =
      true ∧ (1048575 : BitVec 32).toNat < 1048576 ∧ ((went counted 0x0902 c0 (pack [(4, (5 : BitVec 32).toNat), (4, (1048575 : BitVec
      32).toNat), (1, (1 : BitVec 8).toNat)])).tally (1048575 : BitVec 32).toNat).alloc = true ∧ ((1 : BitVec 8).toNat = 1 ∨ (1 : BitVec
      8).toNat = 0 ∧ ((went counted 0x0902 c0 (pack [(4, (5 : BitVec 32).toNat), (4, (1048575 : BitVec 32).toNat), (1, (1 : BitVec
      8).toNat)])).qp (5 : BitVec 32).toNat : Qp).cnt.isSome = true) ∧ mayName (pathFn c0.path) ((went counted 0x0902 c0 (pack [(4, (5 :
      BitVec 32).toNat), (4, (1048575 : BitVec 32).toNat), (1, (1 : BitVec 8).toNat)])).qp (5 : BitVec 32).toNat : Qp).func = true ∧ fkey
      ((went counted 0x0902 c0 (pack [(4, (5 : BitVec 32).toNat), (4, (1048575 : BitVec 32).toNat), (1, (1 : BitVec 8).toNat)])).tally
      (1048575 : BitVec 32).toNat).hport ((went counted 0x0902 c0 (pack [(4, (5 : BitVec 32).toNat), (4, (1048575 : BitVec 32).toNat), (1,
      (1 : BitVec 8).toNat)])).tally (1048575 : BitVec 32).toNat).func = ((went counted 0x0902 c0 (pack [(4, (5 : BitVec 32).toNat), (4,
      (1048575 : BitVec 32).toNat), (1, (1 : BitVec 8).toNat)])).qp (5 : BitVec 32).toNat : Qp).func :=
  ⟨ready_starts _ _ _ _ _ (by decide), by decide, by decide, by decide, by decide, by decide, by decide⟩

theorem witness_CounterCommandsComplete_11 :
    Starts (ready counted 0x0902 c0 (pack [(4, (5 : BitVec 32).toNat), (4, (1048575 : BitVec 32).toNat), (1, (0 : BitVec 8).toNat)])) .f
      0x0902 c0 (pack [(4, (5 : BitVec 32).toNat), (4, (1048575 : BitVec 32).toNat), (1, (0 : BitVec 8).toNat)]) 0 (went counted 0x0902 c0
      (pack [(4, (5 : BitVec 32).toNat), (4, (1048575 : BitVec 32).toNat), (1, (0 : BitVec 8).toNat)])) ∧ ((went counted 0x0902 c0 (pack
      [(4, (5 : BitVec 32).toNat), (4, (1048575 : BitVec 32).toNat), (1, (0 : BitVec 8).toNat)])).qp (5 : BitVec 32).toNat : Qp).valid =
      true ∧ (1048575 : BitVec 32).toNat < 1048576 ∧ ((went counted 0x0902 c0 (pack [(4, (5 : BitVec 32).toNat), (4, (1048575 : BitVec
      32).toNat), (1, (0 : BitVec 8).toNat)])).tally (1048575 : BitVec 32).toNat).alloc = true ∧ mayName (pathFn c0.path) ((went counted
      0x0902 c0 (pack [(4, (5 : BitVec 32).toNat), (4, (1048575 : BitVec 32).toNat), (1, (0 : BitVec 8).toNat)])).qp (5 : BitVec 32).toNat
      : Qp).func = true ∧ fkey ((went counted 0x0902 c0 (pack [(4, (5 : BitVec 32).toNat), (4, (1048575 : BitVec 32).toNat), (1, (0 :
      BitVec 8).toNat)])).tally (1048575 : BitVec 32).toNat).hport ((went counted 0x0902 c0 (pack [(4, (5 : BitVec 32).toNat), (4,
      (1048575 : BitVec 32).toNat), (1, (0 : BitVec 8).toNat)])).tally (1048575 : BitVec 32).toNat).func = ((went counted 0x0902 c0 (pack
      [(4, (5 : BitVec 32).toNat), (4, (1048575 : BitVec 32).toNat), (1, (0 : BitVec 8).toNat)])).qp (5 : BitVec 32).toNat : Qp).func ∧ (0
      : BitVec 8).toNat = 0 ∧ ((went counted 0x0902 c0 (pack [(4, (5 : BitVec 32).toNat), (4, (1048575 : BitVec 32).toNat), (1, (0 :
      BitVec 8).toNat)])).qp (5 : BitVec 32).toNat : Qp).cnt = none :=
  ⟨ready_starts _ _ _ _ _ (by decide), by decide, by decide, by decide, by decide, by decide, by decide, by decide⟩

theorem witness_CounterCommandsComplete_12 :
    Starts (ready counted 0x0902 c0 (pack [(4, (5 : BitVec 32).toNat), (4, (1048575 : BitVec 32).toNat), (1, (2 : BitVec 8).toNat)])) .f
      0x0902 c0 (pack [(4, (5 : BitVec 32).toNat), (4, (1048575 : BitVec 32).toNat), (1, (2 : BitVec 8).toNat)]) 0 (went counted 0x0902 c0
      (pack [(4, (5 : BitVec 32).toNat), (4, (1048575 : BitVec 32).toNat), (1, (2 : BitVec 8).toNat)])) ∧ (¬ (((went counted 0x0902 c0
      (pack [(4, (5 : BitVec 32).toNat), (4, (1048575 : BitVec 32).toNat), (1, (2 : BitVec 8).toNat)])).qp (5 : BitVec 32).toNat).valid =
      true ∧ (1048575 : BitVec 32).toNat < 1048576 ∧ ((went counted 0x0902 c0 (pack [(4, (5 : BitVec 32).toNat), (4, (1048575 : BitVec
      32).toNat), (1, (2 : BitVec 8).toNat)])).tally (1048575 : BitVec 32).toNat).alloc = true ∧ (2 : BitVec 8).toNat ≤ 1)) :=
  ⟨ready_starts _ _ _ _ _ (by decide), by decide⟩

theorem witness_CounterCommandsComplete_13 :
    Starts (ready counted 0x0902 cvf (pack [(4, (5 : BitVec 32).toNat), (4, (1048575 : BitVec 32).toNat), (1, (1 : BitVec 8).toNat)])) .f
      0x0902 cvf (pack [(4, (5 : BitVec 32).toNat), (4, (1048575 : BitVec 32).toNat), (1, (1 : BitVec 8).toNat)]) 0 (went counted 0x0902
      cvf (pack [(4, (5 : BitVec 32).toNat), (4, (1048575 : BitVec 32).toNat), (1, (1 : BitVec 8).toNat)])) ∧ ((went counted 0x0902 cvf
      (pack [(4, (5 : BitVec 32).toNat), (4, (1048575 : BitVec 32).toNat), (1, (1 : BitVec 8).toNat)])).qp (5 : BitVec 32).toNat).valid =
      true ∧ (1048575 : BitVec 32).toNat < 1048576 ∧ ((went counted 0x0902 cvf (pack [(4, (5 : BitVec 32).toNat), (4, (1048575 : BitVec
      32).toNat), (1, (1 : BitVec 8).toNat)])).tally (1048575 : BitVec 32).toNat).alloc = true ∧ (1 : BitVec 8).toNat ≤ 1 ∧ (mayName
      (pathFn cvf.path) ((went counted 0x0902 cvf (pack [(4, (5 : BitVec 32).toNat), (4, (1048575 : BitVec 32).toNat), (1, (1 : BitVec
      8).toNat)])).qp (5 : BitVec 32).toNat).func = false ∨ mayName (pathFn cvf.path) (fkey ((went counted 0x0902 cvf (pack [(4, (5 :
      BitVec 32).toNat), (4, (1048575 : BitVec 32).toNat), (1, (1 : BitVec 8).toNat)])).tally (1048575 : BitVec 32).toNat).hport ((went
      counted 0x0902 cvf (pack [(4, (5 : BitVec 32).toNat), (4, (1048575 : BitVec 32).toNat), (1, (1 : BitVec 8).toNat)])).tally (1048575
      : BitVec 32).toNat).func) = false ∨ fkey ((went counted 0x0902 cvf (pack [(4, (5 : BitVec 32).toNat), (4, (1048575 : BitVec
      32).toNat), (1, (1 : BitVec 8).toNat)])).tally (1048575 : BitVec 32).toNat).hport ((went counted 0x0902 cvf (pack [(4, (5 : BitVec
      32).toNat), (4, (1048575 : BitVec 32).toNat), (1, (1 : BitVec 8).toNat)])).tally (1048575 : BitVec 32).toNat).func ≠ ((went counted
      0x0902 cvf (pack [(4, (5 : BitVec 32).toNat), (4, (1048575 : BitVec 32).toNat), (1, (1 : BitVec 8).toNat)])).qp (5 : BitVec
      32).toNat).func) :=
  ⟨ready_starts _ _ _ _ _ (by decide), by decide, by decide, by decide, by decide, by decide⟩

theorem witness_CounterCommandsComplete_14 :
    Starts (ready counted 0x0903 c0 (pack [(4, (1048575 : BitVec 32).toNat)])) .f 0x0903 c0 (pack [(4, (1048575 : BitVec 32).toNat)]) 0
      (went counted 0x0903 c0 (pack [(4, (1048575 : BitVec 32).toNat)])) ∧ (1048575 : BitVec 32).toNat < 1048576 ∧ ((went counted 0x0903
      c0 (pack [(4, (1048575 : BitVec 32).toNat)])).tally (1048575 : BitVec 32).toNat).alloc = true ∧ fkey ((went counted 0x0903 c0 (pack
      [(4, (1048575 : BitVec 32).toNat)])).tally (1048575 : BitVec 32).toNat).hport ((went counted 0x0903 c0 (pack [(4, (1048575 : BitVec
      32).toNat)])).tally (1048575 : BitVec 32).toNat).func = pathFn c0.path :=
  ⟨ready_starts _ _ _ _ _ (by decide), by decide, by decide, by decide⟩

theorem witness_CounterCommandsComplete_15 :
    Starts (ready counted 0x0903 c0 (pack [(4, (1048574 : BitVec 32).toNat)])) .f 0x0903 c0 (pack [(4, (1048574 : BitVec 32).toNat)]) 0
      (went counted 0x0903 c0 (pack [(4, (1048574 : BitVec 32).toNat)])) ∧ (1048576 ≤ (1048574 : BitVec 32).toNat ∨ ((went counted 0x0903
      c0 (pack [(4, (1048574 : BitVec 32).toNat)])).tally (1048574 : BitVec 32).toNat).alloc = false) :=
  ⟨ready_starts _ _ _ _ _ (by decide), by decide⟩

theorem witness_CounterCommandsComplete_16 :
    Starts (ready counted 0x0903 cvf (pack [(4, (1048575 : BitVec 32).toNat)])) .f 0x0903 cvf (pack [(4, (1048575 : BitVec 32).toNat)]) 0
      (went counted 0x0903 cvf (pack [(4, (1048575 : BitVec 32).toNat)])) ∧ (1048575 : BitVec 32).toNat < 1048576 ∧ ((went counted 0x0903
      cvf (pack [(4, (1048575 : BitVec 32).toNat)])).tally (1048575 : BitVec 32).toNat).alloc = true ∧ fkey ((went counted 0x0903 cvf
      (pack [(4, (1048575 : BitVec 32).toNat)])).tally (1048575 : BitVec 32).toNat).hport ((went counted 0x0903 cvf (pack [(4, (1048575 :
      BitVec 32).toNat)])).tally (1048575 : BitVec 32).toNat).func ≠ pathFn cvf.path :=
  ⟨ready_starts _ _ _ _ _ (by decide), by decide, by decide, by decide⟩

theorem witness_CounterCommandsComplete_17 :
    Starts (ready counted 0x0904 c0 (pack [(4, (1048575 : BitVec 32).toNat), (8, (0xFFFFFFFFFFFFFFFF : BitVec 64).toNat)])) .f 0x0904 c0
      (pack [(4, (1048575 : BitVec 32).toNat), (8, (0xFFFFFFFFFFFFFFFF : BitVec 64).toNat)]) 0 (went counted 0x0904 c0 (pack [(4, (1048575
      : BitVec 32).toNat), (8, (0xFFFFFFFFFFFFFFFF : BitVec 64).toNat)])) ∧ (1048575 : BitVec 32).toNat < 1048576 ∧ ((went counted 0x0904
      c0 (pack [(4, (1048575 : BitVec 32).toNat), (8, (0xFFFFFFFFFFFFFFFF : BitVec 64).toNat)])).tally (1048575 : BitVec 32).toNat).alloc
      = true ∧ fkey ((went counted 0x0904 c0 (pack [(4, (1048575 : BitVec 32).toNat), (8, (0xFFFFFFFFFFFFFFFF : BitVec 64).toNat)])).tally
      (1048575 : BitVec 32).toNat).hport ((went counted 0x0904 c0 (pack [(4, (1048575 : BitVec 32).toNat), (8, (0xFFFFFFFFFFFFFFFF :
      BitVec 64).toNat)])).tally (1048575 : BitVec 32).toNat).func = pathFn c0.path :=
  ⟨ready_starts _ _ _ _ _ (by decide), by decide, by decide, by decide⟩

theorem witness_CounterCommandsComplete_18 :
    Starts (ready counted 0x0904 c0 (pack [(4, (1048574 : BitVec 32).toNat), (8, (0 : BitVec 64).toNat)])) .f 0x0904 c0 (pack [(4,
      (1048574 : BitVec 32).toNat), (8, (0 : BitVec 64).toNat)]) 0 (went counted 0x0904 c0 (pack [(4, (1048574 : BitVec 32).toNat), (8, (0
      : BitVec 64).toNat)])) ∧ (1048576 ≤ (1048574 : BitVec 32).toNat ∨ ((went counted 0x0904 c0 (pack [(4, (1048574 : BitVec 32).toNat),
      (8, (0 : BitVec 64).toNat)])).tally (1048574 : BitVec 32).toNat).alloc = false) :=
  ⟨ready_starts _ _ _ _ _ (by decide), by decide⟩

theorem witness_CounterCommandsComplete_19 :
    Starts (ready counted 0x0904 cvf (pack [(4, (1048575 : BitVec 32).toNat), (8, (0 : BitVec 64).toNat)])) .f 0x0904 cvf (pack [(4,
      (1048575 : BitVec 32).toNat), (8, (0 : BitVec 64).toNat)]) 0 (went counted 0x0904 cvf (pack [(4, (1048575 : BitVec 32).toNat), (8,
      (0 : BitVec 64).toNat)])) ∧ (1048575 : BitVec 32).toNat < 1048576 ∧ ((went counted 0x0904 cvf (pack [(4, (1048575 : BitVec
      32).toNat), (8, (0 : BitVec 64).toNat)])).tally (1048575 : BitVec 32).toNat).alloc = true ∧ fkey ((went counted 0x0904 cvf (pack
      [(4, (1048575 : BitVec 32).toNat), (8, (0 : BitVec 64).toNat)])).tally (1048575 : BitVec 32).toNat).hport ((went counted 0x0904 cvf
      (pack [(4, (1048575 : BitVec 32).toNat), (8, (0 : BitVec 64).toNat)])).tally (1048575 : BitVec 32).toNat).func ≠ pathFn cvf.path :=
  ⟨ready_starts _ _ _ _ _ (by decide), by decide, by decide, by decide⟩

theorem witness_CounterCommandsComplete_20 :
    Starts (ready hosted 0x0905 c0 (pack ([(2, (4095 : BitVec 16).toNat), (2, (1 : BitVec 16).toNat), (1, (0 : BitVec 8).toNat), (1, (1 :
      BitVec 8).toNat), (1, (1 : BitVec 8).toNat), (1, (2 : BitVec 8).toNat), (4, (0xF : BitVec 32).toNat), (4, (1 : BitVec 32).toNat),
      (4, (1 : BitVec 32).toNat), (4, (1 : BitVec 32).toNat), (4, (4096 : BitVec 32).toNat)] ++ [(4, (5 : BitVec 32).toNat), (4, (0 :
      BitVec 32).toNat), (4, (0 : BitVec 32).toNat), (4, (0 : BitVec 32).toNat), (4, (0 : BitVec 32).toNat), (4, (0 : BitVec 32).toNat),
      (4, (0 : BitVec 32).toNat), (4, (0 : BitVec 32).toNat)]))) .f 0x0905 c0 (pack ([(2, (4095 : BitVec 16).toNat), (2, (1 : BitVec
      16).toNat), (1, (0 : BitVec 8).toNat), (1, (1 : BitVec 8).toNat), (1, (1 : BitVec 8).toNat), (1, (2 : BitVec 8).toNat), (4, (0xF :
      BitVec 32).toNat), (4, (1 : BitVec 32).toNat), (4, (1 : BitVec 32).toNat), (4, (1 : BitVec 32).toNat), (4, (4096 : BitVec
      32).toNat)] ++ [(4, (5 : BitVec 32).toNat), (4, (0 : BitVec 32).toNat), (4, (0 : BitVec 32).toNat), (4, (0 : BitVec 32).toNat), (4,
      (0 : BitVec 32).toNat), (4, (0 : BitVec 32).toNat), (4, (0 : BitVec 32).toNat), (4, (0 : BitVec 32).toNat)])) 0 (went hosted 0x0905
      c0 (pack ([(2, (4095 : BitVec 16).toNat), (2, (1 : BitVec 16).toNat), (1, (0 : BitVec 8).toNat), (1, (1 : BitVec 8).toNat), (1, (1 :
      BitVec 8).toNat), (1, (2 : BitVec 8).toNat), (4, (0xF : BitVec 32).toNat), (4, (1 : BitVec 32).toNat), (4, (1 : BitVec 32).toNat),
      (4, (1 : BitVec 32).toNat), (4, (4096 : BitVec 32).toNat)] ++ [(4, (5 : BitVec 32).toNat), (4, (0 : BitVec 32).toNat), (4, (0 :
      BitVec 32).toNat), (4, (0 : BitVec 32).toNat), (4, (0 : BitVec 32).toNat), (4, (0 : BitVec 32).toNat), (4, (0 : BitVec 32).toNat),
      (4, (0 : BitVec 32).toNat)]))) ∧ (went hosted 0x0905 c0 (pack ([(2, (4095 : BitVec 16).toNat), (2, (1 : BitVec 16).toNat), (1, (0 :
      BitVec 8).toNat), (1, (1 : BitVec 8).toNat), (1, (1 : BitVec 8).toNat), (1, (2 : BitVec 8).toNat), (4, (0xF : BitVec 32).toNat), (4,
      (1 : BitVec 32).toNat), (4, (1 : BitVec 32).toNat), (4, (1 : BitVec 32).toNat), (4, (4096 : BitVec 32).toNat)] ++ [(4, (5 : BitVec
      32).toNat), (4, (0 : BitVec 32).toNat), (4, (0 : BitVec 32).toNat), (4, (0 : BitVec 32).toNat), (4, (0 : BitVec 32).toNat), (4, (0 :
      BitVec 32).toNat), (4, (0 : BitVec 32).toNat), (4, (0 : BitVec 32).toNat)]))).serves (keyPort (pathFn c0.path)) = true ∧ (went
      hosted 0x0905 c0 (pack ([(2, (4095 : BitVec 16).toNat), (2, (1 : BitVec 16).toNat), (1, (0 : BitVec 8).toNat), (1, (1 : BitVec
      8).toNat), (1, (1 : BitVec 8).toNat), (1, (2 : BitVec 8).toNat), (4, (0xF : BitVec 32).toNat), (4, (1 : BitVec 32).toNat), (4, (1 :
      BitVec 32).toNat), (4, (1 : BitVec 32).toNat), (4, (4096 : BitVec 32).toNat)] ++ [(4, (5 : BitVec 32).toNat), (4, (0 : BitVec
      32).toNat), (4, (0 : BitVec 32).toNat), (4, (0 : BitVec 32).toNat), (4, (0 : BitVec 32).toNat), (4, (0 : BitVec 32).toNat), (4, (0 :
      BitVec 32).toNat), (4, (0 : BitVec 32).toNat)]))).localQps (pathFn c0.path) ({ gid := (4095 : BitVec 16).toNat, job := (1 : BitVec 16).toNat, gen := (0 : BitVec 8).toNat, dimMask := (1 : BitVec 8).toNat, localCnt := (1 : BitVec 8).toNat, depth := (2 : BitVec 8).toNat, mask0 := (0xF : BitVec 32).toNat, mask1 := (1 : BitVec 32).toNat, mask2 := (1 : BitVec 32).toNat, mask3 := (1 : BitVec 32).toNat, maxBytes := (4096 : BitVec 32).toNat, lqps := [(5 : BitVec 32), (0 : BitVec 32), (0 : BitVec 32), (0 : BitVec 32), (0 : BitVec 32), (0 : BitVec 32), (0 : BitVec 32), (0 : BitVec 32)].map BitVec.toNat }
      : GroupParams) = stOk ∧ (4096 ≤ ({ gid := (4095 : BitVec 16).toNat, job := (1 : BitVec 16).toNat, gen := (0 : BitVec 8).toNat, dimMask := (1 : BitVec 8).toNat, localCnt := (1 : BitVec 8).toNat, depth := (2 : BitVec 8).toNat, mask0 := (0xF : BitVec 32).toNat, mask1 := (1 : BitVec 32).toNat, mask2 := (1 : BitVec 32).toNat, mask3 := (1 : BitVec 32).toNat, maxBytes := (4096 : BitVec 32).toNat, lqps := [(5 : BitVec 32), (0 : BitVec 32), (0 : BitVec 32), (0 : BitVec 32), (0 : BitVec 32), (0 : BitVec 32), (0 : BitVec 32), (0 : BitVec 32)].map BitVec.toNat }
      : GroupParams).gid ∨ ((went hosted 0x0905 c0 (pack ([(2, (4095 : BitVec 16).toNat), (2, (1 : BitVec 16).toNat), (1, (0 : BitVec
      8).toNat), (1, (1 : BitVec 8).toNat), (1, (1 : BitVec 8).toNat), (1, (2 : BitVec 8).toNat), (4, (0xF : BitVec 32).toNat), (4, (1 :
      BitVec 32).toNat), (4, (1 : BitVec 32).toNat), (4, (1 : BitVec 32).toNat), (4, (4096 : BitVec 32).toNat)] ++ [(4, (5 : BitVec
      32).toNat), (4, (0 : BitVec 32).toNat), (4, (0 : BitVec 32).toNat), (4, (0 : BitVec 32).toNat), (4, (0 : BitVec 32).toNat), (4, (0 :
      BitVec 32).toNat), (4, (0 : BitVec 32).toNat), (4, (0 : BitVec 32).toNat)]))).group ({ gid := (4095 : BitVec 16).toNat, job := (1 : BitVec 16).toNat, gen := (0 : BitVec 8).toNat, dimMask := (1 : BitVec 8).toNat, localCnt := (1 : BitVec 8).toNat, depth := (2 : BitVec 8).toNat, mask0 := (0xF : BitVec 32).toNat, mask1 := (1 : BitVec 32).toNat, mask2 := (1 : BitVec 32).toNat, mask3 := (1 : BitVec 32).toNat, maxBytes := (4096 : BitVec 32).toNat, lqps := [(5 : BitVec 32), (0 : BitVec 32), (0 : BitVec 32), (0 : BitVec 32), (0 : BitVec 32), (0 : BitVec 32), (0 : BitVec 32), (0 : BitVec 32)].map BitVec.toNat }
      : GroupParams).gid).valid = false) ∧ ({ gid := (4095 : BitVec 16).toNat, job := (1 : BitVec 16).toNat, gen := (0 : BitVec 8).toNat, dimMask := (1 : BitVec 8).toNat, localCnt := (1 : BitVec 8).toNat, depth := (2 : BitVec 8).toNat, mask0 := (0xF : BitVec 32).toNat, mask1 := (1 : BitVec 32).toNat, mask2 := (1 : BitVec 32).toNat, mask3 := (1 : BitVec 32).toNat, maxBytes := (4096 : BitVec 32).toNat, lqps := [(5 : BitVec 32), (0 : BitVec 32), (0 : BitVec 32), (0 : BitVec 32), (0 : BitVec 32), (0 : BitVec 32), (0 : BitVec 32), (0 : BitVec 32)].map BitVec.toNat }
      : GroupParams).rangesOk = true ∧ (went hosted 0x0905 c0 (pack ([(2, (4095 : BitVec 16).toNat), (2, (1 : BitVec 16).toNat), (1, (0 :
      BitVec 8).toNat), (1, (1 : BitVec 8).toNat), (1, (1 : BitVec 8).toNat), (1, (2 : BitVec 8).toNat), (4, (0xF : BitVec 32).toNat), (4,
      (1 : BitVec 32).toNat), (4, (1 : BitVec 32).toNat), (4, (1 : BitVec 32).toNat), (4, (4096 : BitVec 32).toNat)] ++ [(4, (5 : BitVec
      32).toNat), (4, (0 : BitVec 32).toNat), (4, (0 : BitVec 32).toNat), (4, (0 : BitVec 32).toNat), (4, (0 : BitVec 32).toNat), (4, (0 :
      BitVec 32).toNat), (4, (0 : BitVec 32).toNat), (4, (0 : BitVec 32).toNat)]))).masksOk ({ gid := (4095 : BitVec 16).toNat, job := (1 : BitVec 16).toNat, gen := (0 : BitVec 8).toNat, dimMask := (1 : BitVec 8).toNat, localCnt := (1 : BitVec 8).toNat, depth := (2 : BitVec 8).toNat, mask0 := (0xF : BitVec 32).toNat, mask1 := (1 : BitVec 32).toNat, mask2 := (1 : BitVec 32).toNat, mask3 := (1 : BitVec 32).toNat, maxBytes := (4096 : BitVec 32).toNat, lqps := [(5 : BitVec 32), (0 : BitVec 32), (0 : BitVec 32), (0 : BitVec 32), (0 : BitVec 32), (0 : BitVec 32), (0 : BitVec 32), (0 : BitVec 32)].map BitVec.toNat }
      : GroupParams) = true ∧ (went hosted 0x0905 c0 (pack ([(2, (4095 : BitVec 16).toNat), (2, (1 : BitVec 16).toNat), (1, (0 : BitVec
      8).toNat), (1, (1 : BitVec 8).toNat), (1, (1 : BitVec 8).toNat), (1, (2 : BitVec 8).toNat), (4, (0xF : BitVec 32).toNat), (4, (1 :
      BitVec 32).toNat), (4, (1 : BitVec 32).toNat), (4, (1 : BitVec 32).toNat), (4, (4096 : BitVec 32).toNat)] ++ [(4, (5 : BitVec
      32).toNat), (4, (0 : BitVec 32).toNat), (4, (0 : BitVec 32).toNat), (4, (0 : BitVec 32).toNat), (4, (0 : BitVec 32).toNat), (4, (0 :
      BitVec 32).toNat), (4, (0 : BitVec 32).toNat), (4, (0 : BitVec 32).toNat)]))).jobIs ({ gid := (4095 : BitVec 16).toNat, job := (1 : BitVec 16).toNat, gen := (0 : BitVec 8).toNat, dimMask := (1 : BitVec 8).toNat, localCnt := (1 : BitVec 8).toNat, depth := (2 : BitVec 8).toNat, mask0 := (0xF : BitVec 32).toNat, mask1 := (1 : BitVec 32).toNat, mask2 := (1 : BitVec 32).toNat, mask3 := (1 : BitVec 32).toNat, maxBytes := (4096 : BitVec 32).toNat, lqps := [(5 : BitVec 32), (0 : BitVec 32), (0 : BitVec 32), (0 : BitVec 32), (0 : BitVec 32), (0 : BitVec 32), (0 : BitVec 32), (0 : BitVec 32)].map BitVec.toNat }
      : GroupParams).job ({ gid := (4095 : BitVec 16).toNat, job := (1 : BitVec 16).toNat, gen := (0 : BitVec 8).toNat, dimMask := (1 : BitVec 8).toNat, localCnt := (1 : BitVec 8).toNat, depth := (2 : BitVec 8).toNat, mask0 := (0xF : BitVec 32).toNat, mask1 := (1 : BitVec 32).toNat, mask2 := (1 : BitVec 32).toNat, mask3 := (1 : BitVec 32).toNat, maxBytes := (4096 : BitVec 32).toNat, lqps := [(5 : BitVec 32), (0 : BitVec 32), (0 : BitVec 32), (0 : BitVec 32), (0 : BitVec 32), (0 : BitVec 32), (0 : BitVec 32), (0 : BitVec 32)].map BitVec.toNat }
      : GroupParams).gen = true ∧ ((({ gid := (4095 : BitVec 16).toNat, job := (1 : BitVec 16).toNat, gen := (0 : BitVec 8).toNat, dimMask := (1 : BitVec 8).toNat, localCnt := (1 : BitVec 8).toNat, depth := (2 : BitVec 8).toNat, mask0 := (0xF : BitVec 32).toNat, mask1 := (1 : BitVec 32).toNat, mask2 := (1 : BitVec 32).toNat, mask3 := (1 : BitVec 32).toNat, maxBytes := (4096 : BitVec 32).toNat, lqps := [(5 : BitVec 32), (0 : BitVec 32), (0 : BitVec 32), (0 : BitVec 32), (0 : BitVec 32), (0 : BitVec 32), (0 : BitVec 32), (0 : BitVec 32)].map BitVec.toNat }
      : GroupParams).lqps.take ({ gid := (4095 : BitVec 16).toNat, job := (1 : BitVec 16).toNat, gen := (0 : BitVec 8).toNat, dimMask := (1 : BitVec 8).toNat, localCnt := (1 : BitVec 8).toNat, depth := (2 : BitVec 8).toNat, mask0 := (0xF : BitVec 32).toNat, mask1 := (1 : BitVec 32).toNat, mask2 := (1 : BitVec 32).toNat, mask3 := (1 : BitVec 32).toNat, maxBytes := (4096 : BitVec 32).toNat, lqps := [(5 : BitVec 32), (0 : BitVec 32), (0 : BitVec 32), (0 : BitVec 32), (0 : BitVec 32), (0 : BitVec 32), (0 : BitVec 32), (0 : BitVec 32)].map BitVec.toNat }
      : GroupParams).localCnt).any (fun q => ((went hosted 0x0905 c0 (pack ([(2, (4095 : BitVec 16).toNat), (2, (1 : BitVec 16).toNat),
      (1, (0 : BitVec 8).toNat), (1, (1 : BitVec 8).toNat), (1, (1 : BitVec 8).toNat), (1, (2 : BitVec 8).toNat), (4, (0xF : BitVec
      32).toNat), (4, (1 : BitVec 32).toNat), (4, (1 : BitVec 32).toNat), (4, (1 : BitVec 32).toNat), (4, (4096 : BitVec 32).toNat)] ++
      [(4, (5 : BitVec 32).toNat), (4, (0 : BitVec 32).toNat), (4, (0 : BitVec 32).toNat), (4, (0 : BitVec 32).toNat), (4, (0 : BitVec
      32).toNat), (4, (0 : BitVec 32).toNat), (4, (0 : BitVec 32).toNat), (4, (0 : BitVec 32).toNat)]))).qp q).p.job ≠ ({ gid := (4095 : BitVec 16).toNat, job := (1 : BitVec 16).toNat, gen := (0 : BitVec 8).toNat, dimMask := (1 : BitVec 8).toNat, localCnt := (1 : BitVec 8).toNat, depth := (2 : BitVec 8).toNat, mask0 := (0xF : BitVec 32).toNat, mask1 := (1 : BitVec 32).toNat, mask2 := (1 : BitVec 32).toNat, mask3 := (1 : BitVec 32).toNat, maxBytes := (4096 : BitVec 32).toNat, lqps := [(5 : BitVec 32), (0 : BitVec 32), (0 : BitVec 32), (0 : BitVec 32), (0 : BitVec 32), (0 : BitVec 32), (0 : BitVec 32), (0 : BitVec 32)].map BitVec.toNat }
      : GroupParams).job) = false) ∧ (freeRun (went hosted 0x0905 c0 (pack ([(2, (4095 : BitVec 16).toNat), (2, (1 : BitVec 16).toNat),
      (1, (0 : BitVec 8).toNat), (1, (1 : BitVec 8).toNat), (1, (1 : BitVec 8).toNat), (1, (2 : BitVec 8).toNat), (4, (0xF : BitVec
      32).toNat), (4, (1 : BitVec 32).toNat), (4, (1 : BitVec 32).toNat), (4, (1 : BitVec 32).toNat), (4, (4096 : BitVec 32).toNat)] ++
      [(4, (5 : BitVec 32).toNat), (4, (0 : BitVec 32).toNat), (4, (0 : BitVec 32).toNat), (4, (0 : BitVec 32).toNat), (4, (0 : BitVec
      32).toNat), (4, (0 : BitVec 32).toNat), (4, (0 : BitVec 32).toNat), (4, (0 : BitVec 32).toNat)]))).stagingRuns 0 ((went hosted
      0x0905 c0 (pack ([(2, (4095 : BitVec 16).toNat), (2, (1 : BitVec 16).toNat), (1, (0 : BitVec 8).toNat), (1, (1 : BitVec 8).toNat),
      (1, (1 : BitVec 8).toNat), (1, (2 : BitVec 8).toNat), (4, (0xF : BitVec 32).toNat), (4, (1 : BitVec 32).toNat), (4, (1 : BitVec
      32).toNat), (4, (1 : BitVec 32).toNat), (4, (4096 : BitVec 32).toNat)] ++ [(4, (5 : BitVec 32).toNat), (4, (0 : BitVec 32).toNat),
      (4, (0 : BitVec 32).toNat), (4, (0 : BitVec 32).toNat), (4, (0 : BitVec 32).toNat), (4, (0 : BitVec 32).toNat), (4, (0 : BitVec
      32).toNat), (4, (0 : BitVec 32).toNat)]))).regionSize 10 / 2 ^ 20) ({ gid := (4095 : BitVec 16).toNat, job := (1 : BitVec 16).toNat, gen := (0 : BitVec 8).toNat, dimMask := (1 : BitVec 8).toNat, localCnt := (1 : BitVec 8).toNat, depth := (2 : BitVec 8).toNat, mask0 := (0xF : BitVec 32).toNat, mask1 := (1 : BitVec 32).toNat, mask2 := (1 : BitVec 32).toNat, mask3 := (1 : BitVec 32).toNat, maxBytes := (4096 : BitVec 32).toNat, lqps := [(5 : BitVec 32), (0 : BitVec 32), (0 : BitVec 32), (0 : BitVec 32), (0 : BitVec 32), (0 : BitVec 32), (0 : BitVec 32), (0 : BitVec 32)].map BitVec.toNat }
      : GroupParams).mib).isSome = true :=
  ⟨ready_starts _ _ _ _ _ (by decide), by decide, by decide, by decide, by decide, by decide, by decide, by decide, by decide⟩

theorem witness_CounterCommandsComplete_21 :
    Starts (ready unserved 0x0905 c0 (pack ([(2, (4095 : BitVec 16).toNat), (2, (1 : BitVec 16).toNat), (1, (0 : BitVec 8).toNat), (1, (1
      : BitVec 8).toNat), (1, (1 : BitVec 8).toNat), (1, (2 : BitVec 8).toNat), (4, (0xF : BitVec 32).toNat), (4, (1 : BitVec 32).toNat),
      (4, (1 : BitVec 32).toNat), (4, (1 : BitVec 32).toNat), (4, (4096 : BitVec 32).toNat)] ++ [(4, (5 : BitVec 32).toNat), (4, (0 :
      BitVec 32).toNat), (4, (0 : BitVec 32).toNat), (4, (0 : BitVec 32).toNat), (4, (0 : BitVec 32).toNat), (4, (0 : BitVec 32).toNat),
      (4, (0 : BitVec 32).toNat), (4, (0 : BitVec 32).toNat)]))) .f 0x0905 c0 (pack ([(2, (4095 : BitVec 16).toNat), (2, (1 : BitVec
      16).toNat), (1, (0 : BitVec 8).toNat), (1, (1 : BitVec 8).toNat), (1, (1 : BitVec 8).toNat), (1, (2 : BitVec 8).toNat), (4, (0xF :
      BitVec 32).toNat), (4, (1 : BitVec 32).toNat), (4, (1 : BitVec 32).toNat), (4, (1 : BitVec 32).toNat), (4, (4096 : BitVec
      32).toNat)] ++ [(4, (5 : BitVec 32).toNat), (4, (0 : BitVec 32).toNat), (4, (0 : BitVec 32).toNat), (4, (0 : BitVec 32).toNat), (4,
      (0 : BitVec 32).toNat), (4, (0 : BitVec 32).toNat), (4, (0 : BitVec 32).toNat), (4, (0 : BitVec 32).toNat)])) 0 (went unserved
      0x0905 c0 (pack ([(2, (4095 : BitVec 16).toNat), (2, (1 : BitVec 16).toNat), (1, (0 : BitVec 8).toNat), (1, (1 : BitVec 8).toNat),
      (1, (1 : BitVec 8).toNat), (1, (2 : BitVec 8).toNat), (4, (0xF : BitVec 32).toNat), (4, (1 : BitVec 32).toNat), (4, (1 : BitVec
      32).toNat), (4, (1 : BitVec 32).toNat), (4, (4096 : BitVec 32).toNat)] ++ [(4, (5 : BitVec 32).toNat), (4, (0 : BitVec 32).toNat),
      (4, (0 : BitVec 32).toNat), (4, (0 : BitVec 32).toNat), (4, (0 : BitVec 32).toNat), (4, (0 : BitVec 32).toNat), (4, (0 : BitVec
      32).toNat), (4, (0 : BitVec 32).toNat)]))) ∧ (went unserved 0x0905 c0 (pack ([(2, (4095 : BitVec 16).toNat), (2, (1 : BitVec
      16).toNat), (1, (0 : BitVec 8).toNat), (1, (1 : BitVec 8).toNat), (1, (1 : BitVec 8).toNat), (1, (2 : BitVec 8).toNat), (4, (0xF :
      BitVec 32).toNat), (4, (1 : BitVec 32).toNat), (4, (1 : BitVec 32).toNat), (4, (1 : BitVec 32).toNat), (4, (4096 : BitVec
      32).toNat)] ++ [(4, (5 : BitVec 32).toNat), (4, (0 : BitVec 32).toNat), (4, (0 : BitVec 32).toNat), (4, (0 : BitVec 32).toNat), (4,
      (0 : BitVec 32).toNat), (4, (0 : BitVec 32).toNat), (4, (0 : BitVec 32).toNat), (4, (0 : BitVec 32).toNat)]))).serves (keyPort
      (pathFn c0.path)) = false :=
  ⟨ready_starts _ _ _ _ _ (by decide), by decide⟩

theorem witness_CounterCommandsComplete_22 :
    Starts (ready hosted 0x0905 c0 (pack ([(2, (4095 : BitVec 16).toNat), (2, (1 : BitVec 16).toNat), (1, (0 : BitVec 8).toNat), (1, (1 :
      BitVec 8).toNat), (1, (1 : BitVec 8).toNat), (1, (2 : BitVec 8).toNat), (4, (0xF : BitVec 32).toNat), (4, (1 : BitVec 32).toNat),
      (4, (1 : BitVec 32).toNat), (4, (1 : BitVec 32).toNat), (4, (4096 : BitVec 32).toNat)] ++ [(4, (6 : BitVec 32).toNat), (4, (0 :
      BitVec 32).toNat), (4, (0 : BitVec 32).toNat), (4, (0 : BitVec 32).toNat), (4, (0 : BitVec 32).toNat), (4, (0 : BitVec 32).toNat),
      (4, (0 : BitVec 32).toNat), (4, (0 : BitVec 32).toNat)]))) .f 0x0905 c0 (pack ([(2, (4095 : BitVec 16).toNat), (2, (1 : BitVec
      16).toNat), (1, (0 : BitVec 8).toNat), (1, (1 : BitVec 8).toNat), (1, (1 : BitVec 8).toNat), (1, (2 : BitVec 8).toNat), (4, (0xF :
      BitVec 32).toNat), (4, (1 : BitVec 32).toNat), (4, (1 : BitVec 32).toNat), (4, (1 : BitVec 32).toNat), (4, (4096 : BitVec
      32).toNat)] ++ [(4, (6 : BitVec 32).toNat), (4, (0 : BitVec 32).toNat), (4, (0 : BitVec 32).toNat), (4, (0 : BitVec 32).toNat), (4,
      (0 : BitVec 32).toNat), (4, (0 : BitVec 32).toNat), (4, (0 : BitVec 32).toNat), (4, (0 : BitVec 32).toNat)])) 0 (went hosted 0x0905
      c0 (pack ([(2, (4095 : BitVec 16).toNat), (2, (1 : BitVec 16).toNat), (1, (0 : BitVec 8).toNat), (1, (1 : BitVec 8).toNat), (1, (1 :
      BitVec 8).toNat), (1, (2 : BitVec 8).toNat), (4, (0xF : BitVec 32).toNat), (4, (1 : BitVec 32).toNat), (4, (1 : BitVec 32).toNat),
      (4, (1 : BitVec 32).toNat), (4, (4096 : BitVec 32).toNat)] ++ [(4, (6 : BitVec 32).toNat), (4, (0 : BitVec 32).toNat), (4, (0 :
      BitVec 32).toNat), (4, (0 : BitVec 32).toNat), (4, (0 : BitVec 32).toNat), (4, (0 : BitVec 32).toNat), (4, (0 : BitVec 32).toNat),
      (4, (0 : BitVec 32).toNat)]))) ∧ (went hosted 0x0905 c0 (pack ([(2, (4095 : BitVec 16).toNat), (2, (1 : BitVec 16).toNat), (1, (0 :
      BitVec 8).toNat), (1, (1 : BitVec 8).toNat), (1, (1 : BitVec 8).toNat), (1, (2 : BitVec 8).toNat), (4, (0xF : BitVec 32).toNat), (4,
      (1 : BitVec 32).toNat), (4, (1 : BitVec 32).toNat), (4, (1 : BitVec 32).toNat), (4, (4096 : BitVec 32).toNat)] ++ [(4, (6 : BitVec
      32).toNat), (4, (0 : BitVec 32).toNat), (4, (0 : BitVec 32).toNat), (4, (0 : BitVec 32).toNat), (4, (0 : BitVec 32).toNat), (4, (0 :
      BitVec 32).toNat), (4, (0 : BitVec 32).toNat), (4, (0 : BitVec 32).toNat)]))).serves (keyPort (pathFn c0.path)) = true ∧ (went
      hosted 0x0905 c0 (pack ([(2, (4095 : BitVec 16).toNat), (2, (1 : BitVec 16).toNat), (1, (0 : BitVec 8).toNat), (1, (1 : BitVec
      8).toNat), (1, (1 : BitVec 8).toNat), (1, (2 : BitVec 8).toNat), (4, (0xF : BitVec 32).toNat), (4, (1 : BitVec 32).toNat), (4, (1 :
      BitVec 32).toNat), (4, (1 : BitVec 32).toNat), (4, (4096 : BitVec 32).toNat)] ++ [(4, (6 : BitVec 32).toNat), (4, (0 : BitVec
      32).toNat), (4, (0 : BitVec 32).toNat), (4, (0 : BitVec 32).toNat), (4, (0 : BitVec 32).toNat), (4, (0 : BitVec 32).toNat), (4, (0 :
      BitVec 32).toNat), (4, (0 : BitVec 32).toNat)]))).localQps (pathFn c0.path) ({ gid := (4095 : BitVec 16).toNat, job := (1 : BitVec 16).toNat, gen := (0 : BitVec 8).toNat, dimMask := (1 : BitVec 8).toNat, localCnt := (1 : BitVec 8).toNat, depth := (2 : BitVec 8).toNat, mask0 := (0xF : BitVec 32).toNat, mask1 := (1 : BitVec 32).toNat, mask2 := (1 : BitVec 32).toNat, mask3 := (1 : BitVec 32).toNat, maxBytes := (4096 : BitVec 32).toNat, lqps := [(6 : BitVec 32), (0 : BitVec 32), (0 : BitVec 32), (0 : BitVec 32), (0 : BitVec 32), (0 : BitVec 32), (0 : BitVec 32), (0 : BitVec 32)].map BitVec.toNat }
      : GroupParams) ≠ stOk :=
  ⟨ready_starts _ _ _ _ _ (by decide), by decide, by decide⟩

theorem witness_CounterCommandsComplete_23 :
    Starts (ready grouped 0x0905 c0 (pack ([(2, (4095 : BitVec 16).toNat), (2, (1 : BitVec 16).toNat), (1, (0 : BitVec 8).toNat), (1, (1 :
      BitVec 8).toNat), (1, (1 : BitVec 8).toNat), (1, (2 : BitVec 8).toNat), (4, (0xF : BitVec 32).toNat), (4, (1 : BitVec 32).toNat),
      (4, (1 : BitVec 32).toNat), (4, (1 : BitVec 32).toNat), (4, (4096 : BitVec 32).toNat)] ++ [(4, (5 : BitVec 32).toNat), (4, (0 :
      BitVec 32).toNat), (4, (0 : BitVec 32).toNat), (4, (0 : BitVec 32).toNat), (4, (0 : BitVec 32).toNat), (4, (0 : BitVec 32).toNat),
      (4, (0 : BitVec 32).toNat), (4, (0 : BitVec 32).toNat)]))) .f 0x0905 c0 (pack ([(2, (4095 : BitVec 16).toNat), (2, (1 : BitVec
      16).toNat), (1, (0 : BitVec 8).toNat), (1, (1 : BitVec 8).toNat), (1, (1 : BitVec 8).toNat), (1, (2 : BitVec 8).toNat), (4, (0xF :
      BitVec 32).toNat), (4, (1 : BitVec 32).toNat), (4, (1 : BitVec 32).toNat), (4, (1 : BitVec 32).toNat), (4, (4096 : BitVec
      32).toNat)] ++ [(4, (5 : BitVec 32).toNat), (4, (0 : BitVec 32).toNat), (4, (0 : BitVec 32).toNat), (4, (0 : BitVec 32).toNat), (4,
      (0 : BitVec 32).toNat), (4, (0 : BitVec 32).toNat), (4, (0 : BitVec 32).toNat), (4, (0 : BitVec 32).toNat)])) 0 (went grouped 0x0905
      c0 (pack ([(2, (4095 : BitVec 16).toNat), (2, (1 : BitVec 16).toNat), (1, (0 : BitVec 8).toNat), (1, (1 : BitVec 8).toNat), (1, (1 :
      BitVec 8).toNat), (1, (2 : BitVec 8).toNat), (4, (0xF : BitVec 32).toNat), (4, (1 : BitVec 32).toNat), (4, (1 : BitVec 32).toNat),
      (4, (1 : BitVec 32).toNat), (4, (4096 : BitVec 32).toNat)] ++ [(4, (5 : BitVec 32).toNat), (4, (0 : BitVec 32).toNat), (4, (0 :
      BitVec 32).toNat), (4, (0 : BitVec 32).toNat), (4, (0 : BitVec 32).toNat), (4, (0 : BitVec 32).toNat), (4, (0 : BitVec 32).toNat),
      (4, (0 : BitVec 32).toNat)]))) ∧ (went grouped 0x0905 c0 (pack ([(2, (4095 : BitVec 16).toNat), (2, (1 : BitVec 16).toNat), (1, (0 :
      BitVec 8).toNat), (1, (1 : BitVec 8).toNat), (1, (1 : BitVec 8).toNat), (1, (2 : BitVec 8).toNat), (4, (0xF : BitVec 32).toNat), (4,
      (1 : BitVec 32).toNat), (4, (1 : BitVec 32).toNat), (4, (1 : BitVec 32).toNat), (4, (4096 : BitVec 32).toNat)] ++ [(4, (5 : BitVec
      32).toNat), (4, (0 : BitVec 32).toNat), (4, (0 : BitVec 32).toNat), (4, (0 : BitVec 32).toNat), (4, (0 : BitVec 32).toNat), (4, (0 :
      BitVec 32).toNat), (4, (0 : BitVec 32).toNat), (4, (0 : BitVec 32).toNat)]))).serves (keyPort (pathFn c0.path)) = true ∧ (went
      grouped 0x0905 c0 (pack ([(2, (4095 : BitVec 16).toNat), (2, (1 : BitVec 16).toNat), (1, (0 : BitVec 8).toNat), (1, (1 : BitVec
      8).toNat), (1, (1 : BitVec 8).toNat), (1, (2 : BitVec 8).toNat), (4, (0xF : BitVec 32).toNat), (4, (1 : BitVec 32).toNat), (4, (1 :
      BitVec 32).toNat), (4, (1 : BitVec 32).toNat), (4, (4096 : BitVec 32).toNat)] ++ [(4, (5 : BitVec 32).toNat), (4, (0 : BitVec
      32).toNat), (4, (0 : BitVec 32).toNat), (4, (0 : BitVec 32).toNat), (4, (0 : BitVec 32).toNat), (4, (0 : BitVec 32).toNat), (4, (0 :
      BitVec 32).toNat), (4, (0 : BitVec 32).toNat)]))).localQps (pathFn c0.path) ({ gid := (4095 : BitVec 16).toNat, job := (1 : BitVec 16).toNat, gen := (0 : BitVec 8).toNat, dimMask := (1 : BitVec 8).toNat, localCnt := (1 : BitVec 8).toNat, depth := (2 : BitVec 8).toNat, mask0 := (0xF : BitVec 32).toNat, mask1 := (1 : BitVec 32).toNat, mask2 := (1 : BitVec 32).toNat, mask3 := (1 : BitVec 32).toNat, maxBytes := (4096 : BitVec 32).toNat, lqps := [(5 : BitVec 32), (0 : BitVec 32), (0 : BitVec 32), (0 : BitVec 32), (0 : BitVec 32), (0 : BitVec 32), (0 : BitVec 32), (0 : BitVec 32)].map BitVec.toNat }
      : GroupParams) = stOk ∧ ({ gid := (4095 : BitVec 16).toNat, job := (1 : BitVec 16).toNat, gen := (0 : BitVec 8).toNat, dimMask := (1 : BitVec 8).toNat, localCnt := (1 : BitVec 8).toNat, depth := (2 : BitVec 8).toNat, mask0 := (0xF : BitVec 32).toNat, mask1 := (1 : BitVec 32).toNat, mask2 := (1 : BitVec 32).toNat, mask3 := (1 : BitVec 32).toNat, maxBytes := (4096 : BitVec 32).toNat, lqps := [(5 : BitVec 32), (0 : BitVec 32), (0 : BitVec 32), (0 : BitVec 32), (0 : BitVec 32), (0 : BitVec 32), (0 : BitVec 32), (0 : BitVec 32)].map BitVec.toNat }
      : GroupParams).gid < 4096 ∧ ((went grouped 0x0905 c0 (pack ([(2, (4095 : BitVec 16).toNat), (2, (1 : BitVec 16).toNat), (1, (0 :
      BitVec 8).toNat), (1, (1 : BitVec 8).toNat), (1, (1 : BitVec 8).toNat), (1, (2 : BitVec 8).toNat), (4, (0xF : BitVec 32).toNat), (4,
      (1 : BitVec 32).toNat), (4, (1 : BitVec 32).toNat), (4, (1 : BitVec 32).toNat), (4, (4096 : BitVec 32).toNat)] ++ [(4, (5 : BitVec
      32).toNat), (4, (0 : BitVec 32).toNat), (4, (0 : BitVec 32).toNat), (4, (0 : BitVec 32).toNat), (4, (0 : BitVec 32).toNat), (4, (0 :
      BitVec 32).toNat), (4, (0 : BitVec 32).toNat), (4, (0 : BitVec 32).toNat)]))).group ({ gid := (4095 : BitVec 16).toNat, job := (1 : BitVec 16).toNat, gen := (0 : BitVec 8).toNat, dimMask := (1 : BitVec 8).toNat, localCnt := (1 : BitVec 8).toNat, depth := (2 : BitVec 8).toNat, mask0 := (0xF : BitVec 32).toNat, mask1 := (1 : BitVec 32).toNat, mask2 := (1 : BitVec 32).toNat, mask3 := (1 : BitVec 32).toNat, maxBytes := (4096 : BitVec 32).toNat, lqps := [(5 : BitVec 32), (0 : BitVec 32), (0 : BitVec 32), (0 : BitVec 32), (0 : BitVec 32), (0 : BitVec 32), (0 : BitVec 32), (0 : BitVec 32)].map BitVec.toNat }
      : GroupParams).gid).valid = true :=
  ⟨ready_starts _ _ _ _ _ (by decide), by decide, by decide, by decide, by decide⟩

theorem witness_CounterCommandsComplete_24 :
    Starts (ready ((hosted.wr R.HBM_REGION_SIZE_SIZE 0 10)) 0x0905 c0 (pack ([(2, (4095 : BitVec 16).toNat), (2, (1 : BitVec 16).toNat),
      (1, (0 : BitVec 8).toNat), (1, (1 : BitVec 8).toNat), (1, (1 : BitVec 8).toNat), (1, (2 : BitVec 8).toNat), (4, (0xF : BitVec
      32).toNat), (4, (1 : BitVec 32).toNat), (4, (1 : BitVec 32).toNat), (4, (1 : BitVec 32).toNat), (4, (4096 : BitVec 32).toNat)] ++
      [(4, (5 : BitVec 32).toNat), (4, (0 : BitVec 32).toNat), (4, (0 : BitVec 32).toNat), (4, (0 : BitVec 32).toNat), (4, (0 : BitVec
      32).toNat), (4, (0 : BitVec 32).toNat), (4, (0 : BitVec 32).toNat), (4, (0 : BitVec 32).toNat)]))) .f 0x0905 c0 (pack ([(2, (4095 :
      BitVec 16).toNat), (2, (1 : BitVec 16).toNat), (1, (0 : BitVec 8).toNat), (1, (1 : BitVec 8).toNat), (1, (1 : BitVec 8).toNat), (1,
      (2 : BitVec 8).toNat), (4, (0xF : BitVec 32).toNat), (4, (1 : BitVec 32).toNat), (4, (1 : BitVec 32).toNat), (4, (1 : BitVec
      32).toNat), (4, (4096 : BitVec 32).toNat)] ++ [(4, (5 : BitVec 32).toNat), (4, (0 : BitVec 32).toNat), (4, (0 : BitVec 32).toNat),
      (4, (0 : BitVec 32).toNat), (4, (0 : BitVec 32).toNat), (4, (0 : BitVec 32).toNat), (4, (0 : BitVec 32).toNat), (4, (0 : BitVec
      32).toNat)])) 0 (went ((hosted.wr R.HBM_REGION_SIZE_SIZE 0 10)) 0x0905 c0 (pack ([(2, (4095 : BitVec 16).toNat), (2, (1 : BitVec
      16).toNat), (1, (0 : BitVec 8).toNat), (1, (1 : BitVec 8).toNat), (1, (1 : BitVec 8).toNat), (1, (2 : BitVec 8).toNat), (4, (0xF :
      BitVec 32).toNat), (4, (1 : BitVec 32).toNat), (4, (1 : BitVec 32).toNat), (4, (1 : BitVec 32).toNat), (4, (4096 : BitVec
      32).toNat)] ++ [(4, (5 : BitVec 32).toNat), (4, (0 : BitVec 32).toNat), (4, (0 : BitVec 32).toNat), (4, (0 : BitVec 32).toNat), (4,
      (0 : BitVec 32).toNat), (4, (0 : BitVec 32).toNat), (4, (0 : BitVec 32).toNat), (4, (0 : BitVec 32).toNat)]))) ∧ (went ((hosted.wr
      R.HBM_REGION_SIZE_SIZE 0 10)) 0x0905 c0 (pack ([(2, (4095 : BitVec 16).toNat), (2, (1 : BitVec 16).toNat), (1, (0 : BitVec
      8).toNat), (1, (1 : BitVec 8).toNat), (1, (1 : BitVec 8).toNat), (1, (2 : BitVec 8).toNat), (4, (0xF : BitVec 32).toNat), (4, (1 :
      BitVec 32).toNat), (4, (1 : BitVec 32).toNat), (4, (1 : BitVec 32).toNat), (4, (4096 : BitVec 32).toNat)] ++ [(4, (5 : BitVec
      32).toNat), (4, (0 : BitVec 32).toNat), (4, (0 : BitVec 32).toNat), (4, (0 : BitVec 32).toNat), (4, (0 : BitVec 32).toNat), (4, (0 :
      BitVec 32).toNat), (4, (0 : BitVec 32).toNat), (4, (0 : BitVec 32).toNat)]))).serves (keyPort (pathFn c0.path)) = true ∧ (went
      ((hosted.wr R.HBM_REGION_SIZE_SIZE 0 10)) 0x0905 c0 (pack ([(2, (4095 : BitVec 16).toNat), (2, (1 : BitVec 16).toNat), (1, (0 :
      BitVec 8).toNat), (1, (1 : BitVec 8).toNat), (1, (1 : BitVec 8).toNat), (1, (2 : BitVec 8).toNat), (4, (0xF : BitVec 32).toNat), (4,
      (1 : BitVec 32).toNat), (4, (1 : BitVec 32).toNat), (4, (1 : BitVec 32).toNat), (4, (4096 : BitVec 32).toNat)] ++ [(4, (5 : BitVec
      32).toNat), (4, (0 : BitVec 32).toNat), (4, (0 : BitVec 32).toNat), (4, (0 : BitVec 32).toNat), (4, (0 : BitVec 32).toNat), (4, (0 :
      BitVec 32).toNat), (4, (0 : BitVec 32).toNat), (4, (0 : BitVec 32).toNat)]))).localQps (pathFn c0.path) ({ gid := (4095 : BitVec 16).toNat, job := (1 : BitVec 16).toNat, gen := (0 : BitVec 8).toNat, dimMask := (1 : BitVec 8).toNat, localCnt := (1 : BitVec 8).toNat, depth := (2 : BitVec 8).toNat, mask0 := (0xF : BitVec 32).toNat, mask1 := (1 : BitVec 32).toNat, mask2 := (1 : BitVec 32).toNat, mask3 := (1 : BitVec 32).toNat, maxBytes := (4096 : BitVec 32).toNat, lqps := [(5 : BitVec 32), (0 : BitVec 32), (0 : BitVec 32), (0 : BitVec 32), (0 : BitVec 32), (0 : BitVec 32), (0 : BitVec 32), (0 : BitVec 32)].map BitVec.toNat }
      : GroupParams) = stOk ∧ (4096 ≤ ({ gid := (4095 : BitVec 16).toNat, job := (1 : BitVec 16).toNat, gen := (0 : BitVec 8).toNat, dimMask := (1 : BitVec 8).toNat, localCnt := (1 : BitVec 8).toNat, depth := (2 : BitVec 8).toNat, mask0 := (0xF : BitVec 32).toNat, mask1 := (1 : BitVec 32).toNat, mask2 := (1 : BitVec 32).toNat, mask3 := (1 : BitVec 32).toNat, maxBytes := (4096 : BitVec 32).toNat, lqps := [(5 : BitVec 32), (0 : BitVec 32), (0 : BitVec 32), (0 : BitVec 32), (0 : BitVec 32), (0 : BitVec 32), (0 : BitVec 32), (0 : BitVec 32)].map BitVec.toNat }
      : GroupParams).gid ∨ ((went ((hosted.wr R.HBM_REGION_SIZE_SIZE 0 10)) 0x0905 c0 (pack ([(2, (4095 : BitVec 16).toNat), (2, (1 :
      BitVec 16).toNat), (1, (0 : BitVec 8).toNat), (1, (1 : BitVec 8).toNat), (1, (1 : BitVec 8).toNat), (1, (2 : BitVec 8).toNat), (4,
      (0xF : BitVec 32).toNat), (4, (1 : BitVec 32).toNat), (4, (1 : BitVec 32).toNat), (4, (1 : BitVec 32).toNat), (4, (4096 : BitVec
      32).toNat)] ++ [(4, (5 : BitVec 32).toNat), (4, (0 : BitVec 32).toNat), (4, (0 : BitVec 32).toNat), (4, (0 : BitVec 32).toNat), (4,
      (0 : BitVec 32).toNat), (4, (0 : BitVec 32).toNat), (4, (0 : BitVec 32).toNat), (4, (0 : BitVec 32).toNat)]))).group ({ gid := (4095 : BitVec 16).toNat, job := (1 : BitVec 16).toNat, gen := (0 : BitVec 8).toNat, dimMask := (1 : BitVec 8).toNat, localCnt := (1 : BitVec 8).toNat, depth := (2 : BitVec 8).toNat, mask0 := (0xF : BitVec 32).toNat, mask1 := (1 : BitVec 32).toNat, mask2 := (1 : BitVec 32).toNat, mask3 := (1 : BitVec 32).toNat, maxBytes := (4096 : BitVec 32).toNat, lqps := [(5 : BitVec 32), (0 : BitVec 32), (0 : BitVec 32), (0 : BitVec 32), (0 : BitVec 32), (0 : BitVec 32), (0 : BitVec 32), (0 : BitVec 32)].map BitVec.toNat }
      : GroupParams).gid).valid = false) ∧ freeRun (went ((hosted.wr R.HBM_REGION_SIZE_SIZE 0 10)) 0x0905 c0 (pack ([(2, (4095 : BitVec
      16).toNat), (2, (1 : BitVec 16).toNat), (1, (0 : BitVec 8).toNat), (1, (1 : BitVec 8).toNat), (1, (1 : BitVec 8).toNat), (1, (2 :
      BitVec 8).toNat), (4, (0xF : BitVec 32).toNat), (4, (1 : BitVec 32).toNat), (4, (1 : BitVec 32).toNat), (4, (1 : BitVec 32).toNat),
      (4, (4096 : BitVec 32).toNat)] ++ [(4, (5 : BitVec 32).toNat), (4, (0 : BitVec 32).toNat), (4, (0 : BitVec 32).toNat), (4, (0 :
      BitVec 32).toNat), (4, (0 : BitVec 32).toNat), (4, (0 : BitVec 32).toNat), (4, (0 : BitVec 32).toNat), (4, (0 : BitVec
      32).toNat)]))).stagingRuns 0 ((went ((hosted.wr R.HBM_REGION_SIZE_SIZE 0 10)) 0x0905 c0 (pack ([(2, (4095 : BitVec 16).toNat), (2,
      (1 : BitVec 16).toNat), (1, (0 : BitVec 8).toNat), (1, (1 : BitVec 8).toNat), (1, (1 : BitVec 8).toNat), (1, (2 : BitVec 8).toNat),
      (4, (0xF : BitVec 32).toNat), (4, (1 : BitVec 32).toNat), (4, (1 : BitVec 32).toNat), (4, (1 : BitVec 32).toNat), (4, (4096 : BitVec
      32).toNat)] ++ [(4, (5 : BitVec 32).toNat), (4, (0 : BitVec 32).toNat), (4, (0 : BitVec 32).toNat), (4, (0 : BitVec 32).toNat), (4,
      (0 : BitVec 32).toNat), (4, (0 : BitVec 32).toNat), (4, (0 : BitVec 32).toNat), (4, (0 : BitVec 32).toNat)]))).regionSize 10 / 2 ^
      20) ({ gid := (4095 : BitVec 16).toNat, job := (1 : BitVec 16).toNat, gen := (0 : BitVec 8).toNat, dimMask := (1 : BitVec 8).toNat, localCnt := (1 : BitVec 8).toNat, depth := (2 : BitVec 8).toNat, mask0 := (0xF : BitVec 32).toNat, mask1 := (1 : BitVec 32).toNat, mask2 := (1 : BitVec 32).toNat, mask3 := (1 : BitVec 32).toNat, maxBytes := (4096 : BitVec 32).toNat, lqps := [(5 : BitVec 32), (0 : BitVec 32), (0 : BitVec 32), (0 : BitVec 32), (0 : BitVec 32), (0 : BitVec 32), (0 : BitVec 32), (0 : BitVec 32)].map BitVec.toNat }
      : GroupParams).mib = none :=
  ⟨ready_starts _ _ _ _ _ (by decide), by decide, by decide, by decide, by decide⟩

theorem witness_CounterCommandsComplete_25 :
    Starts (ready hosted 0x0905 c0 (pack ([(2, (4095 : BitVec 16).toNat), (2, (1 : BitVec 16).toNat), (1, (1 : BitVec 8).toNat), (1, (1 :
      BitVec 8).toNat), (1, (1 : BitVec 8).toNat), (1, (2 : BitVec 8).toNat), (4, (0xF : BitVec 32).toNat), (4, (1 : BitVec 32).toNat),
      (4, (1 : BitVec 32).toNat), (4, (1 : BitVec 32).toNat), (4, (4096 : BitVec 32).toNat)] ++ [(4, (5 : BitVec 32).toNat), (4, (0 :
      BitVec 32).toNat), (4, (0 : BitVec 32).toNat), (4, (0 : BitVec 32).toNat), (4, (0 : BitVec 32).toNat), (4, (0 : BitVec 32).toNat),
      (4, (0 : BitVec 32).toNat), (4, (0 : BitVec 32).toNat)]))) .f 0x0905 c0 (pack ([(2, (4095 : BitVec 16).toNat), (2, (1 : BitVec
      16).toNat), (1, (1 : BitVec 8).toNat), (1, (1 : BitVec 8).toNat), (1, (1 : BitVec 8).toNat), (1, (2 : BitVec 8).toNat), (4, (0xF :
      BitVec 32).toNat), (4, (1 : BitVec 32).toNat), (4, (1 : BitVec 32).toNat), (4, (1 : BitVec 32).toNat), (4, (4096 : BitVec
      32).toNat)] ++ [(4, (5 : BitVec 32).toNat), (4, (0 : BitVec 32).toNat), (4, (0 : BitVec 32).toNat), (4, (0 : BitVec 32).toNat), (4,
      (0 : BitVec 32).toNat), (4, (0 : BitVec 32).toNat), (4, (0 : BitVec 32).toNat), (4, (0 : BitVec 32).toNat)])) 0 (went hosted 0x0905
      c0 (pack ([(2, (4095 : BitVec 16).toNat), (2, (1 : BitVec 16).toNat), (1, (1 : BitVec 8).toNat), (1, (1 : BitVec 8).toNat), (1, (1 :
      BitVec 8).toNat), (1, (2 : BitVec 8).toNat), (4, (0xF : BitVec 32).toNat), (4, (1 : BitVec 32).toNat), (4, (1 : BitVec 32).toNat),
      (4, (1 : BitVec 32).toNat), (4, (4096 : BitVec 32).toNat)] ++ [(4, (5 : BitVec 32).toNat), (4, (0 : BitVec 32).toNat), (4, (0 :
      BitVec 32).toNat), (4, (0 : BitVec 32).toNat), (4, (0 : BitVec 32).toNat), (4, (0 : BitVec 32).toNat), (4, (0 : BitVec 32).toNat),
      (4, (0 : BitVec 32).toNat)]))) ∧ (went hosted 0x0905 c0 (pack ([(2, (4095 : BitVec 16).toNat), (2, (1 : BitVec 16).toNat), (1, (1 :
      BitVec 8).toNat), (1, (1 : BitVec 8).toNat), (1, (1 : BitVec 8).toNat), (1, (2 : BitVec 8).toNat), (4, (0xF : BitVec 32).toNat), (4,
      (1 : BitVec 32).toNat), (4, (1 : BitVec 32).toNat), (4, (1 : BitVec 32).toNat), (4, (4096 : BitVec 32).toNat)] ++ [(4, (5 : BitVec
      32).toNat), (4, (0 : BitVec 32).toNat), (4, (0 : BitVec 32).toNat), (4, (0 : BitVec 32).toNat), (4, (0 : BitVec 32).toNat), (4, (0 :
      BitVec 32).toNat), (4, (0 : BitVec 32).toNat), (4, (0 : BitVec 32).toNat)]))).serves (keyPort (pathFn c0.path)) = true ∧ (went
      hosted 0x0905 c0 (pack ([(2, (4095 : BitVec 16).toNat), (2, (1 : BitVec 16).toNat), (1, (1 : BitVec 8).toNat), (1, (1 : BitVec
      8).toNat), (1, (1 : BitVec 8).toNat), (1, (2 : BitVec 8).toNat), (4, (0xF : BitVec 32).toNat), (4, (1 : BitVec 32).toNat), (4, (1 :
      BitVec 32).toNat), (4, (1 : BitVec 32).toNat), (4, (4096 : BitVec 32).toNat)] ++ [(4, (5 : BitVec 32).toNat), (4, (0 : BitVec
      32).toNat), (4, (0 : BitVec 32).toNat), (4, (0 : BitVec 32).toNat), (4, (0 : BitVec 32).toNat), (4, (0 : BitVec 32).toNat), (4, (0 :
      BitVec 32).toNat), (4, (0 : BitVec 32).toNat)]))).localQps (pathFn c0.path) ({ gid := (4095 : BitVec 16).toNat, job := (1 : BitVec 16).toNat, gen := (1 : BitVec 8).toNat, dimMask := (1 : BitVec 8).toNat, localCnt := (1 : BitVec 8).toNat, depth := (2 : BitVec 8).toNat, mask0 := (0xF : BitVec 32).toNat, mask1 := (1 : BitVec 32).toNat, mask2 := (1 : BitVec 32).toNat, mask3 := (1 : BitVec 32).toNat, maxBytes := (4096 : BitVec 32).toNat, lqps := [(5 : BitVec 32), (0 : BitVec 32), (0 : BitVec 32), (0 : BitVec 32), (0 : BitVec 32), (0 : BitVec 32), (0 : BitVec 32), (0 : BitVec 32)].map BitVec.toNat }
      : GroupParams) = stOk ∧ (4096 ≤ ({ gid := (4095 : BitVec 16).toNat, job := (1 : BitVec 16).toNat, gen := (1 : BitVec 8).toNat, dimMask := (1 : BitVec 8).toNat, localCnt := (1 : BitVec 8).toNat, depth := (2 : BitVec 8).toNat, mask0 := (0xF : BitVec 32).toNat, mask1 := (1 : BitVec 32).toNat, mask2 := (1 : BitVec 32).toNat, mask3 := (1 : BitVec 32).toNat, maxBytes := (4096 : BitVec 32).toNat, lqps := [(5 : BitVec 32), (0 : BitVec 32), (0 : BitVec 32), (0 : BitVec 32), (0 : BitVec 32), (0 : BitVec 32), (0 : BitVec 32), (0 : BitVec 32)].map BitVec.toNat }
      : GroupParams).gid ∨ ((went hosted 0x0905 c0 (pack ([(2, (4095 : BitVec 16).toNat), (2, (1 : BitVec 16).toNat), (1, (1 : BitVec
      8).toNat), (1, (1 : BitVec 8).toNat), (1, (1 : BitVec 8).toNat), (1, (2 : BitVec 8).toNat), (4, (0xF : BitVec 32).toNat), (4, (1 :
      BitVec 32).toNat), (4, (1 : BitVec 32).toNat), (4, (1 : BitVec 32).toNat), (4, (4096 : BitVec 32).toNat)] ++ [(4, (5 : BitVec
      32).toNat), (4, (0 : BitVec 32).toNat), (4, (0 : BitVec 32).toNat), (4, (0 : BitVec 32).toNat), (4, (0 : BitVec 32).toNat), (4, (0 :
      BitVec 32).toNat), (4, (0 : BitVec 32).toNat), (4, (0 : BitVec 32).toNat)]))).group ({ gid := (4095 : BitVec 16).toNat, job := (1 : BitVec 16).toNat, gen := (1 : BitVec 8).toNat, dimMask := (1 : BitVec 8).toNat, localCnt := (1 : BitVec 8).toNat, depth := (2 : BitVec 8).toNat, mask0 := (0xF : BitVec 32).toNat, mask1 := (1 : BitVec 32).toNat, mask2 := (1 : BitVec 32).toNat, mask3 := (1 : BitVec 32).toNat, maxBytes := (4096 : BitVec 32).toNat, lqps := [(5 : BitVec 32), (0 : BitVec 32), (0 : BitVec 32), (0 : BitVec 32), (0 : BitVec 32), (0 : BitVec 32), (0 : BitVec 32), (0 : BitVec 32)].map BitVec.toNat }
      : GroupParams).gid).valid = false) ∧ (freeRun (went hosted 0x0905 c0 (pack ([(2, (4095 : BitVec 16).toNat), (2, (1 : BitVec
      16).toNat), (1, (1 : BitVec 8).toNat), (1, (1 : BitVec 8).toNat), (1, (1 : BitVec 8).toNat), (1, (2 : BitVec 8).toNat), (4, (0xF :
      BitVec 32).toNat), (4, (1 : BitVec 32).toNat), (4, (1 : BitVec 32).toNat), (4, (1 : BitVec 32).toNat), (4, (4096 : BitVec
      32).toNat)] ++ [(4, (5 : BitVec 32).toNat), (4, (0 : BitVec 32).toNat), (4, (0 : BitVec 32).toNat), (4, (0 : BitVec 32).toNat), (4,
      (0 : BitVec 32).toNat), (4, (0 : BitVec 32).toNat), (4, (0 : BitVec 32).toNat), (4, (0 : BitVec 32).toNat)]))).stagingRuns 0 ((went
      hosted 0x0905 c0 (pack ([(2, (4095 : BitVec 16).toNat), (2, (1 : BitVec 16).toNat), (1, (1 : BitVec 8).toNat), (1, (1 : BitVec
      8).toNat), (1, (1 : BitVec 8).toNat), (1, (2 : BitVec 8).toNat), (4, (0xF : BitVec 32).toNat), (4, (1 : BitVec 32).toNat), (4, (1 :
      BitVec 32).toNat), (4, (1 : BitVec 32).toNat), (4, (4096 : BitVec 32).toNat)] ++ [(4, (5 : BitVec 32).toNat), (4, (0 : BitVec
      32).toNat), (4, (0 : BitVec 32).toNat), (4, (0 : BitVec 32).toNat), (4, (0 : BitVec 32).toNat), (4, (0 : BitVec 32).toNat), (4, (0 :
      BitVec 32).toNat), (4, (0 : BitVec 32).toNat)]))).regionSize 10 / 2 ^ 20) ({ gid := (4095 : BitVec 16).toNat, job := (1 : BitVec 16).toNat, gen := (1 : BitVec 8).toNat, dimMask := (1 : BitVec 8).toNat, localCnt := (1 : BitVec 8).toNat, depth := (2 : BitVec 8).toNat, mask0 := (0xF : BitVec 32).toNat, mask1 := (1 : BitVec 32).toNat, mask2 := (1 : BitVec 32).toNat, mask3 := (1 : BitVec 32).toNat, maxBytes := (4096 : BitVec 32).toNat, lqps := [(5 : BitVec 32), (0 : BitVec 32), (0 : BitVec 32), (0 : BitVec 32), (0 : BitVec 32), (0 : BitVec 32), (0 : BitVec 32), (0 : BitVec 32)].map BitVec.toNat }
      : GroupParams).mib).isSome = true ∧ (¬ (({ gid := (4095 : BitVec 16).toNat, job := (1 : BitVec 16).toNat, gen := (1 : BitVec 8).toNat, dimMask := (1 : BitVec 8).toNat, localCnt := (1 : BitVec 8).toNat, depth := (2 : BitVec 8).toNat, mask0 := (0xF : BitVec 32).toNat, mask1 := (1 : BitVec 32).toNat, mask2 := (1 : BitVec 32).toNat, mask3 := (1 : BitVec 32).toNat, maxBytes := (4096 : BitVec 32).toNat, lqps := [(5 : BitVec 32), (0 : BitVec 32), (0 : BitVec 32), (0 : BitVec 32), (0 : BitVec 32), (0 : BitVec 32), (0 : BitVec 32), (0 : BitVec 32)].map BitVec.toNat }
      : GroupParams).rangesOk = true ∧ (went hosted 0x0905 c0 (pack ([(2, (4095 : BitVec 16).toNat), (2, (1 : BitVec 16).toNat), (1, (1 :
      BitVec 8).toNat), (1, (1 : BitVec 8).toNat), (1, (1 : BitVec 8).toNat), (1, (2 : BitVec 8).toNat), (4, (0xF : BitVec 32).toNat), (4,
      (1 : BitVec 32).toNat), (4, (1 : BitVec 32).toNat), (4, (1 : BitVec 32).toNat), (4, (4096 : BitVec 32).toNat)] ++ [(4, (5 : BitVec
      32).toNat), (4, (0 : BitVec 32).toNat), (4, (0 : BitVec 32).toNat), (4, (0 : BitVec 32).toNat), (4, (0 : BitVec 32).toNat), (4, (0 :
      BitVec 32).toNat), (4, (0 : BitVec 32).toNat), (4, (0 : BitVec 32).toNat)]))).masksOk ({ gid := (4095 : BitVec 16).toNat, job := (1 : BitVec 16).toNat, gen := (1 : BitVec 8).toNat, dimMask := (1 : BitVec 8).toNat, localCnt := (1 : BitVec 8).toNat, depth := (2 : BitVec 8).toNat, mask0 := (0xF : BitVec 32).toNat, mask1 := (1 : BitVec 32).toNat, mask2 := (1 : BitVec 32).toNat, mask3 := (1 : BitVec 32).toNat, maxBytes := (4096 : BitVec 32).toNat, lqps := [(5 : BitVec 32), (0 : BitVec 32), (0 : BitVec 32), (0 : BitVec 32), (0 : BitVec 32), (0 : BitVec 32), (0 : BitVec 32), (0 : BitVec 32)].map BitVec.toNat }
      : GroupParams) = true ∧ (went hosted 0x0905 c0 (pack ([(2, (4095 : BitVec 16).toNat), (2, (1 : BitVec 16).toNat), (1, (1 : BitVec
      8).toNat), (1, (1 : BitVec 8).toNat), (1, (1 : BitVec 8).toNat), (1, (2 : BitVec 8).toNat), (4, (0xF : BitVec 32).toNat), (4, (1 :
      BitVec 32).toNat), (4, (1 : BitVec 32).toNat), (4, (1 : BitVec 32).toNat), (4, (4096 : BitVec 32).toNat)] ++ [(4, (5 : BitVec
      32).toNat), (4, (0 : BitVec 32).toNat), (4, (0 : BitVec 32).toNat), (4, (0 : BitVec 32).toNat), (4, (0 : BitVec 32).toNat), (4, (0 :
      BitVec 32).toNat), (4, (0 : BitVec 32).toNat), (4, (0 : BitVec 32).toNat)]))).jobIs ({ gid := (4095 : BitVec 16).toNat, job := (1 : BitVec 16).toNat, gen := (1 : BitVec 8).toNat, dimMask := (1 : BitVec 8).toNat, localCnt := (1 : BitVec 8).toNat, depth := (2 : BitVec 8).toNat, mask0 := (0xF : BitVec 32).toNat, mask1 := (1 : BitVec 32).toNat, mask2 := (1 : BitVec 32).toNat, mask3 := (1 : BitVec 32).toNat, maxBytes := (4096 : BitVec 32).toNat, lqps := [(5 : BitVec 32), (0 : BitVec 32), (0 : BitVec 32), (0 : BitVec 32), (0 : BitVec 32), (0 : BitVec 32), (0 : BitVec 32), (0 : BitVec 32)].map BitVec.toNat }
      : GroupParams).job ({ gid := (4095 : BitVec 16).toNat, job := (1 : BitVec 16).toNat, gen := (1 : BitVec 8).toNat, dimMask := (1 : BitVec 8).toNat, localCnt := (1 : BitVec 8).toNat, depth := (2 : BitVec 8).toNat, mask0 := (0xF : BitVec 32).toNat, mask1 := (1 : BitVec 32).toNat, mask2 := (1 : BitVec 32).toNat, mask3 := (1 : BitVec 32).toNat, maxBytes := (4096 : BitVec 32).toNat, lqps := [(5 : BitVec 32), (0 : BitVec 32), (0 : BitVec 32), (0 : BitVec 32), (0 : BitVec 32), (0 : BitVec 32), (0 : BitVec 32), (0 : BitVec 32)].map BitVec.toNat }
      : GroupParams).gen = true ∧ (({ gid := (4095 : BitVec 16).toNat, job := (1 : BitVec 16).toNat, gen := (1 : BitVec 8).toNat, dimMask := (1 : BitVec 8).toNat, localCnt := (1 : BitVec 8).toNat, depth := (2 : BitVec 8).toNat, mask0 := (0xF : BitVec 32).toNat, mask1 := (1 : BitVec 32).toNat, mask2 := (1 : BitVec 32).toNat, mask3 := (1 : BitVec 32).toNat, maxBytes := (4096 : BitVec 32).toNat, lqps := [(5 : BitVec 32), (0 : BitVec 32), (0 : BitVec 32), (0 : BitVec 32), (0 : BitVec 32), (0 : BitVec 32), (0 : BitVec 32), (0 : BitVec 32)].map BitVec.toNat }
      : GroupParams).lqps.take ({ gid := (4095 : BitVec 16).toNat, job := (1 : BitVec 16).toNat, gen := (1 : BitVec 8).toNat, dimMask := (1 : BitVec 8).toNat, localCnt := (1 : BitVec 8).toNat, depth := (2 : BitVec 8).toNat, mask0 := (0xF : BitVec 32).toNat, mask1 := (1 : BitVec 32).toNat, mask2 := (1 : BitVec 32).toNat, mask3 := (1 : BitVec 32).toNat, maxBytes := (4096 : BitVec 32).toNat, lqps := [(5 : BitVec 32), (0 : BitVec 32), (0 : BitVec 32), (0 : BitVec 32), (0 : BitVec 32), (0 : BitVec 32), (0 : BitVec 32), (0 : BitVec 32)].map BitVec.toNat }
      : GroupParams).localCnt).any (fun q => ((went hosted 0x0905 c0 (pack ([(2, (4095 : BitVec 16).toNat), (2, (1 : BitVec 16).toNat),
      (1, (1 : BitVec 8).toNat), (1, (1 : BitVec 8).toNat), (1, (1 : BitVec 8).toNat), (1, (2 : BitVec 8).toNat), (4, (0xF : BitVec
      32).toNat), (4, (1 : BitVec 32).toNat), (4, (1 : BitVec 32).toNat), (4, (1 : BitVec 32).toNat), (4, (4096 : BitVec 32).toNat)] ++
      [(4, (5 : BitVec 32).toNat), (4, (0 : BitVec 32).toNat), (4, (0 : BitVec 32).toNat), (4, (0 : BitVec 32).toNat), (4, (0 : BitVec
      32).toNat), (4, (0 : BitVec 32).toNat), (4, (0 : BitVec 32).toNat), (4, (0 : BitVec 32).toNat)]))).qp q).p.job ≠ ({ gid := (4095 : BitVec 16).toNat, job := (1 : BitVec 16).toNat, gen := (1 : BitVec 8).toNat, dimMask := (1 : BitVec 8).toNat, localCnt := (1 : BitVec 8).toNat, depth := (2 : BitVec 8).toNat, mask0 := (0xF : BitVec 32).toNat, mask1 := (1 : BitVec 32).toNat, mask2 := (1 : BitVec 32).toNat, mask3 := (1 : BitVec 32).toNat, maxBytes := (4096 : BitVec 32).toNat, lqps := [(5 : BitVec 32), (0 : BitVec 32), (0 : BitVec 32), (0 : BitVec 32), (0 : BitVec 32), (0 : BitVec 32), (0 : BitVec 32), (0 : BitVec 32)].map BitVec.toNat }
      : GroupParams).job) = false)) :=
  ⟨ready_starts _ _ _ _ _ (by decide), by decide, by decide, by decide, by decide, by decide⟩

theorem witness_CounterCommandsComplete_26 :
    Starts (ready grouped 0x0906 c0 (pack [(2, (4095 : BitVec 16).toNat)])) .f 0x0906 c0 (pack [(2, (4095 : BitVec 16).toNat)]) 0 (went
      grouped 0x0906 c0 (pack [(2, (4095 : BitVec 16).toNat)])) ∧ (4095 : BitVec 16).toNat < 4096 ∧ ((went grouped 0x0906 c0 (pack [(2,
      (4095 : BitVec 16).toNat)])).group (4095 : BitVec 16).toNat).valid = true ∧ ((((went grouped 0x0906 c0 (pack [(2, (4095 : BitVec
      16).toNat)])).group (4095 : BitVec 16).toNat).p.lqps.take ((went grouped 0x0906 c0 (pack [(2, (4095 : BitVec 16).toNat)])).group
      (4095 : BitVec 16).toNat).p.localCnt).all (fun q => !(((went grouped 0x0906 c0 (pack [(2, (4095 : BitVec 16).toNat)])).qp q).valid
      && ((went grouped 0x0906 c0 (pack [(2, (4095 : BitVec 16).toNat)])).qp q).func = pathFn c0.path)) = false) :=
  ⟨ready_starts _ _ _ _ _ (by decide), by decide, by decide, by decide⟩

theorem witness_CounterCommandsComplete_27 :
    Starts (ready grouped 0x0906 c0 (pack [(2, (4094 : BitVec 16).toNat)])) .f 0x0906 c0 (pack [(2, (4094 : BitVec 16).toNat)]) 0 (went
      grouped 0x0906 c0 (pack [(2, (4094 : BitVec 16).toNat)])) ∧ (4096 ≤ (4094 : BitVec 16).toNat ∨ ((went grouped 0x0906 c0 (pack [(2,
      (4094 : BitVec 16).toNat)])).group (4094 : BitVec 16).toNat).valid = false) :=
  ⟨ready_starts _ _ _ _ _ (by decide), by decide⟩

theorem witness_CounterCommandsComplete_28 :
    Starts (ready grouped 0x0906 cvf (pack [(2, (4095 : BitVec 16).toNat)])) .f 0x0906 cvf (pack [(2, (4095 : BitVec 16).toNat)]) 0 (went
      grouped 0x0906 cvf (pack [(2, (4095 : BitVec 16).toNat)])) ∧ (4095 : BitVec 16).toNat < 4096 ∧ ((went grouped 0x0906 cvf (pack [(2,
      (4095 : BitVec 16).toNat)])).group (4095 : BitVec 16).toNat).valid = true ∧ ((((went grouped 0x0906 cvf (pack [(2, (4095 : BitVec
      16).toNat)])).group (4095 : BitVec 16).toNat).p.lqps.take ((went grouped 0x0906 cvf (pack [(2, (4095 : BitVec 16).toNat)])).group
      (4095 : BitVec 16).toNat).p.localCnt).all (fun q => !(((went grouped 0x0906 cvf (pack [(2, (4095 : BitVec 16).toNat)])).qp q).valid
      && ((went grouped 0x0906 cvf (pack [(2, (4095 : BitVec 16).toNat)])).qp q).func = pathFn cvf.path)) = true) :=
  ⟨ready_starts _ _ _ _ _ (by decide), by decide, by decide, by decide⟩

theorem witness_CounterCommandsComplete_29 :
    Starts (ready grouped 0x0907 c0 (pack [(2, (4095 : BitVec 16).toNat)])) .f 0x0907 c0 (pack [(2, (4095 : BitVec 16).toNat)]) 0 (went
      grouped 0x0907 c0 (pack [(2, (4095 : BitVec 16).toNat)])) ∧ (4095 : BitVec 16).toNat < 4096 ∧ ((went grouped 0x0907 c0 (pack [(2,
      (4095 : BitVec 16).toNat)])).group (4095 : BitVec 16).toNat).valid = true ∧ ((((went grouped 0x0907 c0 (pack [(2, (4095 : BitVec
      16).toNat)])).group (4095 : BitVec 16).toNat).p.lqps.take ((went grouped 0x0907 c0 (pack [(2, (4095 : BitVec 16).toNat)])).group
      (4095 : BitVec 16).toNat).p.localCnt).all (fun q => !(((went grouped 0x0907 c0 (pack [(2, (4095 : BitVec 16).toNat)])).qp q).valid
      && ((went grouped 0x0907 c0 (pack [(2, (4095 : BitVec 16).toNat)])).qp q).func = pathFn c0.path)) = false) :=
  ⟨ready_starts _ _ _ _ _ (by decide), by decide, by decide, by decide⟩

theorem witness_CounterCommandsComplete_30 :
    Starts (ready grouped 0x0907 c0 (pack [(2, (4094 : BitVec 16).toNat)])) .f 0x0907 c0 (pack [(2, (4094 : BitVec 16).toNat)]) 0 (went
      grouped 0x0907 c0 (pack [(2, (4094 : BitVec 16).toNat)])) ∧ (4096 ≤ (4094 : BitVec 16).toNat ∨ ((went grouped 0x0907 c0 (pack [(2,
      (4094 : BitVec 16).toNat)])).group (4094 : BitVec 16).toNat).valid = false) :=
  ⟨ready_starts _ _ _ _ _ (by decide), by decide⟩

theorem witness_CounterCommandsComplete_31 :
    Starts (ready grouped 0x0907 cvf (pack [(2, (4095 : BitVec 16).toNat)])) .f 0x0907 cvf (pack [(2, (4095 : BitVec 16).toNat)]) 0 (went
      grouped 0x0907 cvf (pack [(2, (4095 : BitVec 16).toNat)])) ∧ (4095 : BitVec 16).toNat < 4096 ∧ ((went grouped 0x0907 cvf (pack [(2,
      (4095 : BitVec 16).toNat)])).group (4095 : BitVec 16).toNat).valid = true ∧ ((((went grouped 0x0907 cvf (pack [(2, (4095 : BitVec
      16).toNat)])).group (4095 : BitVec 16).toNat).p.lqps.take ((went grouped 0x0907 cvf (pack [(2, (4095 : BitVec 16).toNat)])).group
      (4095 : BitVec 16).toNat).p.localCnt).all (fun q => !(((went grouped 0x0907 cvf (pack [(2, (4095 : BitVec 16).toNat)])).qp q).valid
      && ((went grouped 0x0907 cvf (pack [(2, (4095 : BitVec 16).toNat)])).qp q).func = pathFn cvf.path)) = true) :=
  ⟨ready_starts _ _ _ _ _ (by decide), by decide, by decide, by decide⟩

/-! ### PairCommandsComplete -/

theorem witness_PairCommandsComplete_1 :
    Starts (ready solo 0x0A00 c0 (pack [(1, (1 : BitVec 8).toNat)])) .d 0x0A00 c0 (pack [(1, (1 : BitVec 8).toNat)]) 0 (went solo 0x0A00
      c0 (pack [(1, (1 : BitVec 8).toNat)])) ∧ (went solo 0x0A00 c0 (pack [(1, (1 : BitVec 8).toNat)])).pairState ≠ psUnpaired ∧ (1 :
      BitVec 8).toNat ≤ 1 :=
  ⟨ready_starts _ _ _ _ _ (by decide), by decide, by decide⟩

theorem witness_PairCommandsComplete_2 :
    Starts (ready ((tst.wr R.PAIR_STATUS_STATE psUnpaired)) 0x0A00 c0 (pack [(1, (0 : BitVec 8).toNat)])) .d 0x0A00 c0 (pack [(1, (0 :
      BitVec 8).toNat)]) 0 (went ((tst.wr R.PAIR_STATUS_STATE psUnpaired)) 0x0A00 c0 (pack [(1, (0 : BitVec 8).toNat)])) ∧ (went ((tst.wr
      R.PAIR_STATUS_STATE psUnpaired)) 0x0A00 c0 (pack [(1, (0 : BitVec 8).toNat)])).pairState = psUnpaired :=
  ⟨ready_starts _ _ _ _ _ (by decide), by decide⟩

theorem witness_PairCommandsComplete_3 :
    Starts (ready solo 0x0A00 c0 (pack [(1, (2 : BitVec 8).toNat)])) .d 0x0A00 c0 (pack [(1, (2 : BitVec 8).toNat)]) 0 (went solo 0x0A00
      c0 (pack [(1, (2 : BitVec 8).toNat)])) ∧ (went solo 0x0A00 c0 (pack [(1, (2 : BitVec 8).toNat)])).pairState ≠ psUnpaired ∧ 1 < (2 :
      BitVec 8).toNat :=
  ⟨ready_starts _ _ _ _ _ (by decide), by decide, by decide⟩

theorem witness_PairCommandsComplete_4 :
    Starts (ready mated 0x0A01 c0 (pack [(1, (0 : BitVec 8).toNat), (8, (32000000 : BitVec 64).toNat)])) .d 0x0A01 c0 (pack [(1, (0 :
      BitVec 8).toNat), (8, (32000000 : BitVec 64).toNat)]) 0 (went mated 0x0A01 c0 (pack [(1, (0 : BitVec 8).toNat), (8, (32000000 :
      BitVec 64).toNat)])) ∧ (went mated 0x0A01 c0 (pack [(1, (0 : BitVec 8).toNat), (8, (32000000 : BitVec 64).toNat)])).moveStatus (0 :
      BitVec 8).toNat (32000000 : BitVec 64).toNat = stOk :=
  ⟨ready_starts _ _ _ _ _ (by decide), by decide⟩

theorem witness_PairCommandsComplete_5 :
    Starts (ready mated 0x0A01 c0 (pack [(1, (2 : BitVec 8).toNat), (8, (0 : BitVec 64).toNat)])) .d 0x0A01 c0 (pack [(1, (2 : BitVec
      8).toNat), (8, (0 : BitVec 64).toNat)]) 0 (went mated 0x0A01 c0 (pack [(1, (2 : BitVec 8).toNat), (8, (0 : BitVec 64).toNat)])) ∧
      (went mated 0x0A01 c0 (pack [(1, (2 : BitVec 8).toNat), (8, (0 : BitVec 64).toNat)])).moveStatus (2 : BitVec 8).toNat (0 : BitVec
      64).toNat ≠ stOk :=
  ⟨ready_starts _ _ _ _ _ (by decide), by decide⟩

theorem witness_PairCommandsComplete_6 :
    Starts (ready tst 0x0A02 c0 []) .a 0x0A02 c0 [] 0 (went tst 0x0A02 c0 []) :=
  ready_starts _ _ _ _ _ (by decide)

theorem witness_PairCommandsComplete_7 :
    Starts (ready solo 0x0A03 c0 []) .d 0x0A03 c0 [] 0 (went solo 0x0A03 c0 []) ∧ (went solo 0x0A03 c0 []).pairState = psSolo :=
  ⟨ready_starts _ _ _ _ _ (by decide), by decide⟩

theorem witness_PairCommandsComplete_8 :
    Starts (ready tst 0x0A03 c0 []) .d 0x0A03 c0 [] 0 (went tst 0x0A03 c0 []) ∧ (went tst 0x0A03 c0 []).pairState ≠ psSolo :=
  ⟨ready_starts _ _ _ _ _ (by decide), by decide⟩

/-! ### PowerCommandsComplete -/

theorem witness_PowerCommandsComplete_1 :
    Starts (ready tst 0x0B00 c0 (pack [(4, (10000000 : BitVec 32).toNat)])) .d 0x0B00 c0 (pack [(4, (10000000 : BitVec 32).toNat)]) 0
      (went tst 0x0B00 c0 (pack [(4, (10000000 : BitVec 32).toNat)])) ∧ (10000000 : BitVec 32).toNat ≤ 10000000 :=
  ⟨ready_starts _ _ _ _ _ (by decide), by decide⟩

theorem witness_PowerCommandsComplete_2 :
    Starts (ready tst 0x0B00 c0 (pack [(4, (10000001 : BitVec 32).toNat)])) .d 0x0B00 c0 (pack [(4, (10000001 : BitVec 32).toNat)]) 0
      (went tst 0x0B00 c0 (pack [(4, (10000001 : BitVec 32).toNat)])) ∧ 10000000 < (10000001 : BitVec 32).toNat :=
  ⟨ready_starts _ _ _ _ _ (by decide), by decide⟩

theorem witness_PowerCommandsComplete_3 :
    Starts (ready tst 0x0B01 c0 (pack [(1, (0 : BitVec 8).toNat)])) .d 0x0B01 c0 (pack [(1, (0 : BitVec 8).toNat)]) 0 (went tst 0x0B01 c0
      (pack [(1, (0 : BitVec 8).toNat)])) ∧ (0 : BitVec 8).toNat = 0 ∧ (went tst 0x0B01 c0 (pack [(1, (0 : BitVec 8).toNat)])).powerWaiter
      = none :=
  ⟨ready_starts _ _ _ _ _ (by decide), by decide, by decide⟩

theorem witness_PowerCommandsComplete_4 :
    Starts (ready entering 0x0B01 c0 (pack [(1, (0 : BitVec 8).toNat)])) .d 0x0B01 c0 (pack [(1, (0 : BitVec 8).toNat)]) 0 (went entering
      0x0B01 c0 (pack [(1, (0 : BitVec 8).toNat)])) ∧ (0 : BitVec 8).toNat = 0 ∧ (went entering 0x0B01 c0 (pack [(1, (0 : BitVec
      8).toNat)])).powerWaiter = some ((7 : Nat), 2) :=
  ⟨ready_starts _ _ _ _ _ (by decide), by decide, by decide⟩

theorem witness_PowerCommandsComplete_5 :
    Starts (ready tst 0x0B01 c0 (pack [(1, (2 : BitVec 8).toNat)])) .d 0x0B01 c0 (pack [(1, (2 : BitVec 8).toNat)]) 0 (went tst 0x0B01 c0
      (pack [(1, (2 : BitVec 8).toNat)])) ∧ ((2 : BitVec 8).toNat = 1 ∨ (2 : BitVec 8).toNat = 2) :=
  ⟨ready_starts _ _ _ _ _ (by decide), by decide⟩

theorem witness_PowerCommandsComplete_6 :
    Starts (ready tst 0x0B01 c0 (pack [(1, (3 : BitVec 8).toNat)])) .d 0x0B01 c0 (pack [(1, (3 : BitVec 8).toNat)]) 0 (went tst 0x0B01 c0
      (pack [(1, (3 : BitVec 8).toNat)])) ∧ 2 < (3 : BitVec 8).toNat :=
  ⟨ready_starts _ _ _ _ _ (by decide), by decide⟩

theorem witness_PowerCommandsComplete_7 :
    Starts (ready mossing 0x0B01 c0 (pack [(1, (0 : BitVec 8).toNat)])) .d 0x0B01 c0 (pack [(1, (0 : BitVec 8).toNat)]) 0 (went mossing
      0x0B01 c0 (pack [(1, (0 : BitVec 8).toNat)])) ∧ (0 : BitVec 8).toNat = 0 ∧ (went mossing 0x0B01 c0 (pack [(1, (0 : BitVec
      8).toNat)])).powerWaiter = some ((7 : Nat), (1 : Nat)) ∧ (1 : Nat) ≠ 2 :=
  ⟨ready_starts _ _ _ _ _ (by decide), by decide, by decide, by decide⟩

theorem witness_PowerCommandsComplete_8 :
    Starts (ready tst 0x0B02 c0 (pack [(4, (0xFFFFFFFF : BitVec 32).toNat)])) .d 0x0B02 c0 (pack [(4, (0xFFFFFFFF : BitVec 32).toNat)]) 0
      (went tst 0x0B02 c0 (pack [(4, (0xFFFFFFFF : BitVec 32).toNat)])) :=
  ready_starts _ _ _ _ _ (by decide)

theorem witness_PowerCommandsComplete_9 :
    Starts (ready tst 0x0B03 c0 []) .a 0x0B03 c0 [] 0 (went tst 0x0B03 c0 []) :=
  ready_starts _ _ _ _ _ (by decide)

theorem witness_PowerCommandsComplete_10 :
    Starts (ready tst 0x0B04 c0 []) .d 0x0B04 c0 [] 0 (went tst 0x0B04 c0 []) :=
  ready_starts _ _ _ _ _ (by decide)

theorem witness_PowerCommandsComplete_11 :
    Starts (ready tst 0x0C00 c0 (pack [(4, (0x1F0000 : BitVec 32).toNat)])) .d 0x0C00 c0 (pack [(4, (0x1F0000 : BitVec 32).toNat)]) 0
      (went tst 0x0C00 c0 (pack [(4, (0x1F0000 : BitVec 32).toNat)])) ∧ isPage (0x1F0000 : BitVec 32).toNat = true :=
  ⟨ready_starts _ _ _ _ _ (by decide), by decide⟩

theorem witness_PowerCommandsComplete_12 :
    Starts (ready tst 0x0C00 c0 (pack [(4, (0xFFFFFFFF : BitVec 32).toNat)])) .d 0x0C00 c0 (pack [(4, (0xFFFFFFFF : BitVec 32).toNat)]) 0
      (went tst 0x0C00 c0 (pack [(4, (0xFFFFFFFF : BitVec 32).toNat)])) ∧ isPage (0xFFFFFFFF : BitVec 32).toNat = false :=
  ⟨ready_starts _ _ _ _ _ (by decide), by decide⟩

theorem witness_PowerCommandsComplete_13 :
    Starts (ready tst 0x0C01 c0 (pack [(4, (0x1F0000 : BitVec 32).toNat), (8, (0xFFFF : BitVec 64).toNat)])) .d 0x0C01 c0 (pack [(4,
      (0x1F0000 : BitVec 32).toNat), (8, (0xFFFF : BitVec 64).toNat)]) 0 (went tst 0x0C01 c0 (pack [(4, (0x1F0000 : BitVec 32).toNat), (8,
      (0xFFFF : BitVec 64).toNat)])) ∧ isPage (0x1F0000 : BitVec 32).toNat = true :=
  ⟨ready_starts _ _ _ _ _ (by decide), by decide⟩

theorem witness_PowerCommandsComplete_14 :
    Starts (ready tst 0x0C01 c0 (pack [(4, (0xFFFFFFFF : BitVec 32).toNat), (8, (0 : BitVec 64).toNat)])) .d 0x0C01 c0 (pack [(4,
      (0xFFFFFFFF : BitVec 32).toNat), (8, (0 : BitVec 64).toNat)]) 0 (went tst 0x0C01 c0 (pack [(4, (0xFFFFFFFF : BitVec 32).toNat), (8,
      (0 : BitVec 64).toNat)])) ∧ isPage (0xFFFFFFFF : BitVec 32).toNat = false :=
  ⟨ready_starts _ _ _ _ _ (by decide), by decide⟩

theorem witness_PowerCommandsComplete_15 :
    Starts (ready tst 0x0C02 c0 (pack [(4, (0x1F0000 : BitVec 32).toNat), (1, (0 : BitVec 8).toNat), (1, (13 : BitVec 8).toNat)])) .d
      0x0C02 c0 (pack [(4, (0x1F0000 : BitVec 32).toNat), (1, (0 : BitVec 8).toNat), (1, (13 : BitVec 8).toNat)]) 0 (went tst 0x0C02 c0
      (pack [(4, (0x1F0000 : BitVec 32).toNat), (1, (0 : BitVec 8).toNat), (1, (13 : BitVec 8).toNat)])) ∧ isPage (0x1F0000 : BitVec
      32).toNat = true ∧ (0 : BitVec 8).toNat ≤ 15 ∧ sourceAssigned (0x1F0000 : BitVec 32).toNat (0 : BitVec 8).toNat = true ∧ (13 :
      BitVec 8).toNat < 16 ∧ (13 : BitVec 8).toNat % 8 < 6 ∧ ((0 : BitVec 8).toNat ≠ 14 ∨ (13 : BitVec 8).toNat = 0xC) :=
  ⟨ready_starts _ _ _ _ _ (by decide), by decide, by decide, by decide, by decide, by decide, by decide⟩

theorem witness_PowerCommandsComplete_16 :
    Starts (ready tst 0x0C02 c0 (pack [(4, (0x1F0000 : BitVec 32).toNat), (1, (14 : BitVec 8).toNat), (1, (13 : BitVec 8).toNat)])) .d
      0x0C02 c0 (pack [(4, (0x1F0000 : BitVec 32).toNat), (1, (14 : BitVec 8).toNat), (1, (13 : BitVec 8).toNat)]) 0 (went tst 0x0C02 c0
      (pack [(4, (0x1F0000 : BitVec 32).toNat), (1, (14 : BitVec 8).toNat), (1, (13 : BitVec 8).toNat)])) ∧ (¬ (isPage (0x1F0000 : BitVec
      32).toNat = true ∧ (14 : BitVec 8).toNat ≤ 15 ∧ sourceAssigned (0x1F0000 : BitVec 32).toNat (14 : BitVec 8).toNat = true ∧ (13 :
      BitVec 8).toNat < 16 ∧ (13 : BitVec 8).toNat % 8 < 6 ∧ ((14 : BitVec 8).toNat ≠ 14 ∨ (13 : BitVec 8).toNat = 0xC))) :=
  ⟨ready_starts _ _ _ _ _ (by decide), by decide⟩

theorem witness_PowerCommandsComplete_17 :
    Starts (ready tst 0x0C03 c0 (pack [(4, (0x1F0000 : BitVec 32).toNat), (8, (160000000000 : BitVec 64).toNat)])) .d 0x0C03 c0 (pack [(4,
      (0x1F0000 : BitVec 32).toNat), (8, (160000000000 : BitVec 64).toNat)]) 0 (went tst 0x0C03 c0 (pack [(4, (0x1F0000 : BitVec
      32).toNat), (8, (160000000000 : BitVec 64).toNat)])) ∧ isPage (0x1F0000 : BitVec 32).toNat = true ∧ R.FLT_GRACE_GRACE.allows
      (160000000000 : BitVec 64).toNat = true :=
  ⟨ready_starts _ _ _ _ _ (by decide), by decide, by decide⟩

theorem witness_PowerCommandsComplete_18 :
    Starts (ready tst 0x0C03 c0 (pack [(4, (0x1F0000 : BitVec 32).toNat), (8, (0xFFFFFFFFFFFFFFFF : BitVec 64).toNat)])) .d 0x0C03 c0
      (pack [(4, (0x1F0000 : BitVec 32).toNat), (8, (0xFFFFFFFFFFFFFFFF : BitVec 64).toNat)]) 0 (went tst 0x0C03 c0 (pack [(4, (0x1F0000 :
      BitVec 32).toNat), (8, (0xFFFFFFFFFFFFFFFF : BitVec 64).toNat)])) ∧ (isPage (0x1F0000 : BitVec 32).toNat = false ∨
      R.FLT_GRACE_GRACE.allows (0xFFFFFFFFFFFFFFFF : BitVec 64).toNat = false) :=
  ⟨ready_starts _ _ _ _ _ (by decide), by decide⟩

theorem witness_PowerCommandsComplete_19 :
    Starts (ready tst 0x0C04 c0 (pack [(4, (0x1F0000 : BitVec 32).toNat)])) .d 0x0C04 c0 (pack [(4, (0x1F0000 : BitVec 32).toNat)]) 0
      (went tst 0x0C04 c0 (pack [(4, (0x1F0000 : BitVec 32).toNat)])) ∧ isPage (0x1F0000 : BitVec 32).toNat = true :=
  ⟨ready_starts _ _ _ _ _ (by decide), by decide⟩

theorem witness_PowerCommandsComplete_20 :
    Starts (ready tst 0x0C04 c0 (pack [(4, (0xFFFFFFFF : BitVec 32).toNat)])) .d 0x0C04 c0 (pack [(4, (0xFFFFFFFF : BitVec 32).toNat)]) 0
      (went tst 0x0C04 c0 (pack [(4, (0xFFFFFFFF : BitVec 32).toNat)])) ∧ isPage (0xFFFFFFFF : BitVec 32).toNat = false :=
  ⟨ready_starts _ _ _ _ _ (by decide), by decide⟩

theorem witness_PowerCommandsComplete_21 :
    Starts (ready tst 0x0C05 c0 (pack [(1, (3 : BitVec 8).toNat)])) .d 0x0C05 c0 (pack [(1, (3 : BitVec 8).toNat)]) 0 (went tst 0x0C05 c0
      (pack [(1, (3 : BitVec 8).toNat)])) ∧ 1 ≤ (3 : BitVec 8).toNat ∧ (3 : BitVec 8).toNat ≤ 3 ∧ (went tst 0x0C05 c0 (pack [(1, (3 :
      BitVec 8).toNat)])).phase ≠ phStartup :=
  ⟨ready_starts _ _ _ _ _ (by decide), by decide, by decide, by decide⟩

theorem witness_PowerCommandsComplete_22 :
    Starts (ready ((tst.wr R.PIN_PHASE_PHASE phStartup)) 0x0C05 c0 (pack [(1, (1 : BitVec 8).toNat)])) .d 0x0C05 c0 (pack [(1, (1 : BitVec
      8).toNat)]) 0 (went ((tst.wr R.PIN_PHASE_PHASE phStartup)) 0x0C05 c0 (pack [(1, (1 : BitVec 8).toNat)])) ∧ 1 ≤ (1 : BitVec 8).toNat
      ∧ (1 : BitVec 8).toNat ≤ 3 ∧ (went ((tst.wr R.PIN_PHASE_PHASE phStartup)) 0x0C05 c0 (pack [(1, (1 : BitVec 8).toNat)])).phase =
      phStartup :=
  ⟨ready_starts _ _ _ _ _ (by decide), by decide, by decide, by decide⟩

theorem witness_PowerCommandsComplete_23 :
    Starts (ready tst 0x0C05 c0 (pack [(1, (4 : BitVec 8).toNat)])) .d 0x0C05 c0 (pack [(1, (4 : BitVec 8).toNat)]) 0 (went tst 0x0C05 c0
      (pack [(1, (4 : BitVec 8).toNat)])) ∧ ((4 : BitVec 8).toNat = 0 ∨ 3 < (4 : BitVec 8).toNat) :=
  ⟨ready_starts _ _ _ _ _ (by decide), by decide⟩

/-! ### ReaderCommandsComplete -/

theorem witness_ReaderCommandsComplete_1 :
    Starts (ready (locked tst) 0x0D00 c0 (pack [(4, (0 : BitVec 32).toNat), (8, (160000 : BitVec 64).toNat)])) .d 0x0D00 c0 (pack [(4, (0
      : BitVec 32).toNat), (8, (160000 : BitVec 64).toNat)]) 0 (went (locked tst) 0x0D00 c0 (pack [(4, (0 : BitVec 32).toNat), (8, (160000
      : BitVec 64).toNat)])) ∧ (went (locked tst) 0x0D00 c0 (pack [(4, (0 : BitVec 32).toNat), (8, (160000 : BitVec 64).toNat)])).gt +
      160000 ≤ (160000 : BitVec 64).toNat ∧ (went (locked tst) 0x0D00 c0 (pack [(4, (0 : BitVec 32).toNat), (8, (160000 : BitVec
      64).toNat)])).geysState ≠ gsInvalid :=
  ⟨ready_starts _ _ _ _ _ (by decide), by decide, by decide⟩

theorem witness_ReaderCommandsComplete_2 :
    Starts (ready tst 0x0D00 c0 (pack [(4, (0 : BitVec 32).toNat), (8, (159999 : BitVec 64).toNat)])) .d 0x0D00 c0 (pack [(4, (0 : BitVec
      32).toNat), (8, (159999 : BitVec 64).toNat)]) 0 (went tst 0x0D00 c0 (pack [(4, (0 : BitVec 32).toNat), (8, (159999 : BitVec
      64).toNat)])) ∧ (159999 : BitVec 64).toNat < (went tst 0x0D00 c0 (pack [(4, (0 : BitVec 32).toNat), (8, (159999 : BitVec
      64).toNat)])).gt + 160000 :=
  ⟨ready_starts _ _ _ _ _ (by decide), by decide⟩

theorem witness_ReaderCommandsComplete_3 :
    Starts (ready tst 0x0D00 c0 (pack [(4, (0 : BitVec 32).toNat), (8, (160000 : BitVec 64).toNat)])) .d 0x0D00 c0 (pack [(4, (0 : BitVec
      32).toNat), (8, (160000 : BitVec 64).toNat)]) 0 (went tst 0x0D00 c0 (pack [(4, (0 : BitVec 32).toNat), (8, (160000 : BitVec
      64).toNat)])) ∧ (went tst 0x0D00 c0 (pack [(4, (0 : BitVec 32).toNat), (8, (160000 : BitVec 64).toNat)])).gt + 160000 ≤ (160000 :
      BitVec 64).toNat ∧ (went tst 0x0D00 c0 (pack [(4, (0 : BitVec 32).toNat), (8, (160000 : BitVec 64).toNat)])).geysState = gsInvalid
      :=
  ⟨ready_starts _ _ _ _ _ (by decide), by decide, by decide⟩

theorem witness_ReaderCommandsComplete_4 :
    Starts (ready tst 0x0D01 c0 (pack [(4, (0x1002000 : BitVec 32).toNat)])) .d 0x0D01 c0 (pack [(4, (0x1002000 : BitVec 32).toNat)]) 0
      (went tst 0x0D01 c0 (pack [(4, (0x1002000 : BitVec 32).toNat)])) ∧ isCounter (0x1002000 : BitVec 32).toNat = true :=
  ⟨ready_starts _ _ _ _ _ (by decide), by decide⟩

theorem witness_ReaderCommandsComplete_5 :
    Starts (ready tst 0x0D01 c0 (pack [(4, (0 : BitVec 32).toNat)])) .d 0x0D01 c0 (pack [(4, (0 : BitVec 32).toNat)]) 0 (went tst 0x0D01
      c0 (pack [(4, (0 : BitVec 32).toNat)])) ∧ isCounter (0 : BitVec 32).toNat = false :=
  ⟨ready_starts _ _ _ _ _ (by decide), by decide⟩

theorem witness_ReaderCommandsComplete_6 :
    Starts (ready ((tst.hbmWrite (tst.snapSlot 0 + 44) [1])) 0x0D02 c0 (pack [(4, (0 : BitVec 32).toNat), (8, (0 : BitVec 64).toNat)])) .p
      0x0D02 c0 (pack [(4, (0 : BitVec 32).toNat), (8, (0 : BitVec 64).toNat)]) 0 (went ((tst.hbmWrite (tst.snapSlot 0 + 44) [1])) 0x0D02
      c0 (pack [(4, (0 : BitVec 32).toNat), (8, (0 : BitVec 64).toNat)])) ∧ (went ((tst.hbmWrite (tst.snapSlot 0 + 44) [1])) 0x0D02 c0
      (pack [(4, (0 : BitVec 32).toNat), (8, (0 : BitVec 64).toNat)])).hbmNat ((went ((tst.hbmWrite (tst.snapSlot 0 + 44) [1])) 0x0D02 c0
      (pack [(4, (0 : BitVec 32).toNat), (8, (0 : BitVec 64).toNat)])).snapSlot (0 : BitVec 32).toNat) 8 = (0 : BitVec 32).toNat ∧ bitAt
      ((went ((tst.hbmWrite (tst.snapSlot 0 + 44) [1])) 0x0D02 c0 (pack [(4, (0 : BitVec 32).toNat), (8, (0 : BitVec 64).toNat)])).hbmNat
      ((went ((tst.hbmWrite (tst.snapSlot 0 + 44) [1])) 0x0D02 c0 (pack [(4, (0 : BitVec 32).toNat), (8, (0 : BitVec
      64).toNat)])).snapSlot (0 : BitVec 32).toNat + 44) 1) 0 = true ∧ (went ((tst.hbmWrite (tst.snapSlot 0 + 44) [1])) 0x0D02 c0 (pack
      [(4, (0 : BitVec 32).toNat), (8, (0 : BitVec 64).toNat)])).cnt.bad.contains ((0 : BitVec 32).toNat % 512) = false :=
  ⟨ready_starts _ _ _ _ _ (by decide), by decide, by decide, by decide⟩

theorem witness_ReaderCommandsComplete_7 :
    Starts (ready tst 0x0D02 c0 (pack [(4, (0 : BitVec 32).toNat), (8, (0 : BitVec 64).toNat)])) .p 0x0D02 c0 (pack [(4, (0 : BitVec
      32).toNat), (8, (0 : BitVec 64).toNat)]) 0 (went tst 0x0D02 c0 (pack [(4, (0 : BitVec 32).toNat), (8, (0 : BitVec 64).toNat)])) ∧
      ((went tst 0x0D02 c0 (pack [(4, (0 : BitVec 32).toNat), (8, (0 : BitVec 64).toNat)])).hbmNat ((went tst 0x0D02 c0 (pack [(4, (0 :
      BitVec 32).toNat), (8, (0 : BitVec 64).toNat)])).snapSlot (0 : BitVec 32).toNat) 8 ≠ (0 : BitVec 32).toNat ∨ bitAt ((went tst 0x0D02
      c0 (pack [(4, (0 : BitVec 32).toNat), (8, (0 : BitVec 64).toNat)])).hbmNat ((went tst 0x0D02 c0 (pack [(4, (0 : BitVec 32).toNat),
      (8, (0 : BitVec 64).toNat)])).snapSlot (0 : BitVec 32).toNat + 44) 1) 0 = false) :=
  ⟨ready_starts _ _ _ _ _ (by decide), by decide⟩

theorem witness_ReaderCommandsComplete_8 :
    Starts (ready badSnap 0x0D02 c0 (pack [(4, (0 : BitVec 32).toNat), (8, (0 : BitVec 64).toNat)])) .p 0x0D02 c0 (pack [(4, (0 : BitVec
      32).toNat), (8, (0 : BitVec 64).toNat)]) 0 (went badSnap 0x0D02 c0 (pack [(4, (0 : BitVec 32).toNat), (8, (0 : BitVec 64).toNat)]))
      ∧ (went badSnap 0x0D02 c0 (pack [(4, (0 : BitVec 32).toNat), (8, (0 : BitVec 64).toNat)])).hbmNat ((went badSnap 0x0D02 c0 (pack
      [(4, (0 : BitVec 32).toNat), (8, (0 : BitVec 64).toNat)])).snapSlot (0 : BitVec 32).toNat) 8 = (0 : BitVec 32).toNat ∧ bitAt ((went
      badSnap 0x0D02 c0 (pack [(4, (0 : BitVec 32).toNat), (8, (0 : BitVec 64).toNat)])).hbmNat ((went badSnap 0x0D02 c0 (pack [(4, (0 :
      BitVec 32).toNat), (8, (0 : BitVec 64).toNat)])).snapSlot (0 : BitVec 32).toNat + 44) 1) 0 = true ∧ (went badSnap 0x0D02 c0 (pack
      [(4, (0 : BitVec 32).toNat), (8, (0 : BitVec 64).toNat)])).cnt.bad.contains ((0 : BitVec 32).toNat % 512) = true :=
  ⟨ready_starts _ _ _ _ _ (by decide), by decide, by decide, by decide⟩

/-! ### FirmwareCommandsComplete -/

theorem witness_FirmwareCommandsComplete_1 :
    Starts (ready tst 0x0E00 c0 (pack [(8, (0 : BitVec 64).toNat), (4, (1 : BitVec 32).toNat)])) .p 0x0E00 c0 (pack [(8, (0 : BitVec
      64).toNat), (4, (1 : BitVec 32).toNat)]) 0 (went tst 0x0E00 c0 (pack [(8, (0 : BitVec 64).toNat), (4, (1 : BitVec 32).toNat)])) ∧ 0
      < (1 : BitVec 32).toNat ∧ (1 : BitVec 32).toNat ≤ stagingSize ∧ (some [0] : HostRead) = some ([0] : List Byte) ∧ ([0] : List
      Byte).length = (1 : BitVec 32).toNat :=
  ⟨ready_starts _ _ _ _ _ (by decide), by decide, by decide, by decide, by decide⟩

theorem witness_FirmwareCommandsComplete_2 :
    Starts (ready tst 0x0E00 c0 (pack [(8, (0 : BitVec 64).toNat), (4, (0 : BitVec 32).toNat)])) .p 0x0E00 c0 (pack [(8, (0 : BitVec
      64).toNat), (4, (0 : BitVec 32).toNat)]) 0 (went tst 0x0E00 c0 (pack [(8, (0 : BitVec 64).toNat), (4, (0 : BitVec 32).toNat)])) ∧
      ((0 : BitVec 32).toNat = 0 ∨ stagingSize < (0 : BitVec 32).toNat) :=
  ⟨ready_starts _ _ _ _ _ (by decide), by decide⟩

theorem witness_FirmwareCommandsComplete_3 :
    Starts (ready tst 0x0E00 c0 (pack [(8, (0 : BitVec 64).toNat), (4, (1 : BitVec 32).toNat)])) .p 0x0E00 c0 (pack [(8, (0 : BitVec
      64).toNat), (4, (1 : BitVec 32).toNat)]) 0 (went tst 0x0E00 c0 (pack [(8, (0 : BitVec 64).toNat), (4, (1 : BitVec 32).toNat)])) ∧ 0
      < (1 : BitVec 32).toNat ∧ (1 : BitVec 32).toNat ≤ stagingSize ∧ (none : HostRead) = none :=
  ⟨ready_starts _ _ _ _ _ (by decide), by decide, by decide, by decide⟩

theorem witness_FirmwareCommandsComplete_4 :
    Starts (ready tst 0x0E01 c0 (pack [(4, (0 : BitVec 32).toNat), (1, (48 : BitVec 8).toNat)] ++ [0, 0, 0] ++ ((List.replicate 48 0) :
      List Byte))) .d 0x0E01 c0 (pack [(4, (0 : BitVec 32).toNat), (1, (48 : BitVec 8).toNat)] ++ [0, 0, 0] ++ ((List.replicate 48 0) :
      List Byte)) 0 (went tst 0x0E01 c0 (pack [(4, (0 : BitVec 32).toNat), (1, (48 : BitVec 8).toNat)] ++ [0, 0, 0] ++ ((List.replicate 48
      0) : List Byte))) ∧ 1 ≤ (48 : BitVec 8).toNat ∧ (48 : BitVec 8).toNat ≤ 48 ∧ zeros (((List.replicate 48 0) : List Byte).drop (48 :
      BitVec 8).toNat) = true ∧ (0 : BitVec 32).toNat + (48 : BitVec 8).toNat ≤ stagingSize :=
  ⟨ready_starts _ _ _ _ _ (by decide), by decide, by decide, by decide, by decide⟩

theorem witness_FirmwareCommandsComplete_5 :
    Starts (ready tst 0x0E01 c0 (pack [(4, (0 : BitVec 32).toNat), (1, (49 : BitVec 8).toNat)] ++ [0, 0, 0] ++ ((List.replicate 48 0) :
      List Byte))) .d 0x0E01 c0 (pack [(4, (0 : BitVec 32).toNat), (1, (49 : BitVec 8).toNat)] ++ [0, 0, 0] ++ ((List.replicate 48 0) :
      List Byte)) 0 (went tst 0x0E01 c0 (pack [(4, (0 : BitVec 32).toNat), (1, (49 : BitVec 8).toNat)] ++ [0, 0, 0] ++ ((List.replicate 48
      0) : List Byte))) ∧ ((49 : BitVec 8).toNat = 0 ∨ 48 < (49 : BitVec 8).toNat ∨ zeros (((List.replicate 48 0) : List Byte).drop (49 :
      BitVec 8).toNat) = false ∨ stagingSize < (0 : BitVec 32).toNat + (49 : BitVec 8).toNat) :=
  ⟨ready_starts _ _ _ _ _ (by decide), by decide⟩

theorem witness_FirmwareCommandsComplete_6 :
    Starts (ready ((tst.wr R.FWU_STAGE_LEN 1)) 0x0E02 c0 (pack [(4, (15 : BitVec 32).toNat), (1, (1 : BitVec 8).toNat)])) .d 0x0E02 c0
      (pack [(4, (15 : BitVec 32).toNat), (1, (1 : BitVec 8).toNat)]) 0 (went ((tst.wr R.FWU_STAGE_LEN 1)) 0x0E02 c0 (pack [(4, (15 :
      BitVec 32).toNat), (1, (1 : BitVec 8).toNat)])) ∧ (went ((tst.wr R.FWU_STAGE_LEN 1)) 0x0E02 c0 (pack [(4, (15 : BitVec 32).toNat),
      (1, (1 : BitVec 8).toNat)])).trialRuns = false ∧ ((went ((tst.wr R.FWU_STAGE_LEN 1)) 0x0E02 c0 (pack [(4, (15 : BitVec 32).toNat),
      (1, (1 : BitVec 8).toNat)])).pwr.boot ≠ .load ∨ (1 : BitVec 8).toNat = 0 ∧ ((went ((tst.wr R.FWU_STAGE_LEN 1)) 0x0E02 c0 (pack [(4,
      (15 : BitVec 32).toNat), (1, (1 : BitVec 8).toNat)])).rd R.FWU_STAGE_LEN = 0 ∨ pkgKind (went ((tst.wr R.FWU_STAGE_LEN 1)) 0x0E02 c0
      (pack [(4, (15 : BitVec 32).toNat), (1, (1 : BitVec 8).toNat)])).pkgHeader = 0)) ∧ (1 : BitVec 8).toNat ≤ 1 ∧ (15 : BitVec 32).toNat
      < 16 ∧ (went ((tst.wr R.FWU_STAGE_LEN 1)) 0x0E02 c0 (pack [(4, (15 : BitVec 32).toNat), (1, (1 : BitVec 8).toNat)])).rd
      R.FWU_STAGE_LEN ≠ 0 ∧ (went ((tst.wr R.FWU_STAGE_LEN 1)) 0x0E02 c0 (pack [(4, (15 : BitVec 32).toNat), (1, (1 : BitVec
      8).toNat)])).bootBusy = false ∧ (true : Bool) = true :=
  ⟨ready_starts _ _ _ _ _ (by decide), by decide, by decide, by decide, by decide, by decide, by decide, by decide⟩

theorem witness_FirmwareCommandsComplete_7 :
    Starts (ready trying 0x0E02 c0 (pack [(4, (1 : BitVec 32).toNat), (1, (0 : BitVec 8).toNat)])) .d 0x0E02 c0 (pack [(4, (1 : BitVec
      32).toNat), (1, (0 : BitVec 8).toNat)]) 0 (went trying 0x0E02 c0 (pack [(4, (1 : BitVec 32).toNat), (1, (0 : BitVec 8).toNat)])) ∧
      (went trying 0x0E02 c0 (pack [(4, (1 : BitVec 32).toNat), (1, (0 : BitVec 8).toNat)])).trialRuns = true :=
  ⟨ready_starts _ _ _ _ _ (by decide), by decide⟩

theorem witness_FirmwareCommandsComplete_8 :
    Starts (ready loading 0x0E02 c0 (pack [(4, (1 : BitVec 32).toNat), (1, (1 : BitVec 8).toNat)])) .d 0x0E02 c0 (pack [(4, (1 : BitVec
      32).toNat), (1, (1 : BitVec 8).toNat)]) 0 (went loading 0x0E02 c0 (pack [(4, (1 : BitVec 32).toNat), (1, (1 : BitVec 8).toNat)])) ∧
      (went loading 0x0E02 c0 (pack [(4, (1 : BitVec 32).toNat), (1, (1 : BitVec 8).toNat)])).trialRuns = false ∧ (went loading 0x0E02 c0
      (pack [(4, (1 : BitVec 32).toNat), (1, (1 : BitVec 8).toNat)])).pwr.boot = .load ∧ ((1 : BitVec 8).toNat ≠ 0 ∨ (went loading 0x0E02
      c0 (pack [(4, (1 : BitVec 32).toNat), (1, (1 : BitVec 8).toNat)])).rd R.FWU_STAGE_LEN ≠ 0 ∧ pkgKind (went loading 0x0E02 c0 (pack
      [(4, (1 : BitVec 32).toNat), (1, (1 : BitVec 8).toNat)])).pkgHeader ≠ 0) :=
  ⟨ready_starts _ _ _ _ _ (by decide), by decide, by decide, by decide⟩

theorem witness_FirmwareCommandsComplete_9 :
    Starts (ready tst 0x0E02 c0 (pack [(4, (16 : BitVec 32).toNat), (1, (0 : BitVec 8).toNat)])) .d 0x0E02 c0 (pack [(4, (16 : BitVec
      32).toNat), (1, (0 : BitVec 8).toNat)]) 0 (went tst 0x0E02 c0 (pack [(4, (16 : BitVec 32).toNat), (1, (0 : BitVec 8).toNat)])) ∧
      (went tst 0x0E02 c0 (pack [(4, (16 : BitVec 32).toNat), (1, (0 : BitVec 8).toNat)])).trialRuns = false ∧ ((went tst 0x0E02 c0 (pack
      [(4, (16 : BitVec 32).toNat), (1, (0 : BitVec 8).toNat)])).pwr.boot ≠ .load ∨ (0 : BitVec 8).toNat = 0 ∧ ((went tst 0x0E02 c0 (pack
      [(4, (16 : BitVec 32).toNat), (1, (0 : BitVec 8).toNat)])).rd R.FWU_STAGE_LEN = 0 ∨ pkgKind (went tst 0x0E02 c0 (pack [(4, (16 :
      BitVec 32).toNat), (1, (0 : BitVec 8).toNat)])).pkgHeader = 0)) ∧ (1 < (0 : BitVec 8).toNat ∨ 16 ≤ (16 : BitVec 32).toNat ∨ (went
      tst 0x0E02 c0 (pack [(4, (16 : BitVec 32).toNat), (1, (0 : BitVec 8).toNat)])).rd R.FWU_STAGE_LEN = 0) :=
  ⟨ready_starts _ _ _ _ _ (by decide), by decide, by decide, by decide⟩

theorem witness_FirmwareCommandsComplete_10 :
    Starts (ready ({ tst.wr R.FWU_STAGE_LEN 1 with aon := { tst.aon with bootAt := 1 } }) 0x0E02 c0 (pack [(4, (15 : BitVec 32).toNat),
      (1, (1 : BitVec 8).toNat)])) .d 0x0E02 c0 (pack [(4, (15 : BitVec 32).toNat), (1, (1 : BitVec 8).toNat)]) 0 (went ({ tst.wr R.FWU_STAGE_LEN 1 with aon := { tst.aon with bootAt := 1 } })
      0x0E02 c0 (pack [(4, (15 : BitVec 32).toNat), (1, (1 : BitVec 8).toNat)])) ∧ (went ({ tst.wr R.FWU_STAGE_LEN 1 with aon := { tst.aon with bootAt := 1 } })
      0x0E02 c0 (pack [(4, (15 : BitVec 32).toNat), (1, (1 : BitVec 8).toNat)])).trialRuns = false ∧ ((went ({ tst.wr R.FWU_STAGE_LEN 1 with aon := { tst.aon with bootAt := 1 } })
      0x0E02 c0 (pack [(4, (15 : BitVec 32).toNat), (1, (1 : BitVec 8).toNat)])).pwr.boot ≠ .load ∨ (1 : BitVec 8).toNat = 0 ∧ ((went ({ tst.wr R.FWU_STAGE_LEN 1 with aon := { tst.aon with bootAt := 1 } })
      0x0E02 c0 (pack [(4, (15 : BitVec 32).toNat), (1, (1 : BitVec 8).toNat)])).rd R.FWU_STAGE_LEN = 0 ∨ pkgKind (went ({ tst.wr R.FWU_STAGE_LEN 1 with aon := { tst.aon with bootAt := 1 } })
      0x0E02 c0 (pack [(4, (15 : BitVec 32).toNat), (1, (1 : BitVec 8).toNat)])).pkgHeader = 0)) ∧ (1 : BitVec 8).toNat ≤ 1 ∧ (15 : BitVec
      32).toNat < 16 ∧ (went ({ tst.wr R.FWU_STAGE_LEN 1 with aon := { tst.aon with bootAt := 1 } }) 0x0E02 c0 (pack [(4, (15 : BitVec
      32).toNat), (1, (1 : BitVec 8).toNat)])).rd R.FWU_STAGE_LEN ≠ 0 ∧ (went ({ tst.wr R.FWU_STAGE_LEN 1 with aon := { tst.aon with bootAt := 1 } })
      0x0E02 c0 (pack [(4, (15 : BitVec 32).toNat), (1, (1 : BitVec 8).toNat)])).bootBusy = true :=
  ⟨ready_starts _ _ _ _ _ (by decide), by decide, by decide, by decide, by decide, by decide, by decide⟩

theorem witness_FirmwareCommandsComplete_11 :
    Starts (ready ((tst.wr R.FWU_STAGE_LEN 1)) 0x0E02 c0 (pack [(4, (15 : BitVec 32).toNat), (1, (1 : BitVec 8).toNat)])) .d 0x0E02 c0
      (pack [(4, (15 : BitVec 32).toNat), (1, (1 : BitVec 8).toNat)]) 0 (went ((tst.wr R.FWU_STAGE_LEN 1)) 0x0E02 c0 (pack [(4, (15 :
      BitVec 32).toNat), (1, (1 : BitVec 8).toNat)])) ∧ (went ((tst.wr R.FWU_STAGE_LEN 1)) 0x0E02 c0 (pack [(4, (15 : BitVec 32).toNat),
      (1, (1 : BitVec 8).toNat)])).trialRuns = false ∧ ((went ((tst.wr R.FWU_STAGE_LEN 1)) 0x0E02 c0 (pack [(4, (15 : BitVec 32).toNat),
      (1, (1 : BitVec 8).toNat)])).pwr.boot ≠ .load ∨ (1 : BitVec 8).toNat = 0 ∧ ((went ((tst.wr R.FWU_STAGE_LEN 1)) 0x0E02 c0 (pack [(4,
      (15 : BitVec 32).toNat), (1, (1 : BitVec 8).toNat)])).rd R.FWU_STAGE_LEN = 0 ∨ pkgKind (went ((tst.wr R.FWU_STAGE_LEN 1)) 0x0E02 c0
      (pack [(4, (15 : BitVec 32).toNat), (1, (1 : BitVec 8).toNat)])).pkgHeader = 0)) ∧ (1 : BitVec 8).toNat ≤ 1 ∧ (15 : BitVec 32).toNat
      < 16 ∧ (went ((tst.wr R.FWU_STAGE_LEN 1)) 0x0E02 c0 (pack [(4, (15 : BitVec 32).toNat), (1, (1 : BitVec 8).toNat)])).rd
      R.FWU_STAGE_LEN ≠ 0 ∧ (went ((tst.wr R.FWU_STAGE_LEN 1)) 0x0E02 c0 (pack [(4, (15 : BitVec 32).toNat), (1, (1 : BitVec
      8).toNat)])).bootBusy = false ∧ (false : Bool) = false :=
  ⟨ready_starts _ _ _ _ _ (by decide), by decide, by decide, by decide, by decide, by decide, by decide, by decide⟩

theorem witness_FirmwareCommandsComplete_12 :
    Starts (ready trying 0x0E03 c0 []) .d 0x0E03 c0 [] 0 (went trying 0x0E03 c0 []) ∧ (went trying 0x0E03 c0 []).trialRuns = true ∧ (went
      trying 0x0E03 c0 []).phase = phService ∧ (went trying 0x0E03 c0 []).bootBusy = false ∧ (true : Bool) = true :=
  ⟨ready_starts _ _ _ _ _ (by decide), by decide, by decide, by decide, by decide⟩

theorem witness_FirmwareCommandsComplete_13 :
    Starts (ready tst 0x0E03 c0 []) .d 0x0E03 c0 [] 0 (went tst 0x0E03 c0 []) ∧ (went tst 0x0E03 c0 []).trialRuns = false :=
  ⟨ready_starts _ _ _ _ _ (by decide), by decide⟩

theorem witness_FirmwareCommandsComplete_14 :
    Starts (ready ((trying.wr R.PIN_PHASE_PHASE phTest)) 0x0E03 c0 []) .d 0x0E03 c0 [] 0 (went ((trying.wr R.PIN_PHASE_PHASE phTest))
      0x0E03 c0 []) ∧ (went ((trying.wr R.PIN_PHASE_PHASE phTest)) 0x0E03 c0 []).trialRuns = true ∧ (went ((trying.wr R.PIN_PHASE_PHASE
      phTest)) 0x0E03 c0 []).phase ≠ phService :=
  ⟨ready_starts _ _ _ _ _ (by decide), by decide, by decide⟩

theorem witness_FirmwareCommandsComplete_15 :
    Starts (ready ({ trying with aon := { trying.aon with bootAt := 1 } }) 0x0E03 c0 []) .d 0x0E03 c0 [] 0 (went ({ trying with aon := { trying.aon with bootAt := 1 } })
      0x0E03 c0 []) ∧ (went ({ trying with aon := { trying.aon with bootAt := 1 } }) 0x0E03 c0 []).trialRuns = true ∧ (went ({ trying with aon := { trying.aon with bootAt := 1 } })
      0x0E03 c0 []).phase = phService ∧ (went ({ trying with aon := { trying.aon with bootAt := 1 } }) 0x0E03 c0 []).bootBusy = true :=
  ⟨ready_starts _ _ _ _ _ (by decide), by decide, by decide, by decide⟩

theorem witness_FirmwareCommandsComplete_16 :
    Starts (ready trying 0x0E03 c0 []) .d 0x0E03 c0 [] 0 (went trying 0x0E03 c0 []) ∧ (went trying 0x0E03 c0 []).trialRuns = true ∧ (went
      trying 0x0E03 c0 []).phase = phService ∧ (went trying 0x0E03 c0 []).bootBusy = false ∧ (false : Bool) = false :=
  ⟨ready_starts _ _ _ _ _ (by decide), by decide, by decide, by decide, by decide⟩

theorem witness_FirmwareCommandsComplete_17 :
    Starts (ready tst 0x0E04 c0 []) .a 0x0E04 c0 [] 0 (went tst 0x0E04 c0 []) :=
  ready_starts _ _ _ _ _ (by decide)

theorem witness_FirmwareCommandsComplete_18 :
    Starts (ready tst 0x0E05 c0 (pack [(8, (0 : BitVec 64).toNat), (4, (1 : BitVec 32).toNat)])) .p 0x0E05 c0 (pack [(8, (0 : BitVec
      64).toNat), (4, (1 : BitVec 32).toNat)]) 0 (went tst 0x0E05 c0 (pack [(8, (0 : BitVec 64).toNat), (4, (1 : BitVec 32).toNat)])) ∧
      (went tst 0x0E05 c0 (pack [(8, (0 : BitVec 64).toNat), (4, (1 : BitVec 32).toNat)])).trialRuns = false ∧ (some [0] : HostRead) =
      some ([0] : List Byte) ∧ ([0] : List Byte).length = (1 : BitVec 32).toNat ∧ 0 < (1 : BitVec 32).toNat ∧ ((went tst 0x0E05 c0 (pack
      [(8, (0 : BitVec 64).toNat), (4, (1 : BitVec 32).toNat)])).hostRead (cmdReq c0 (0 : BitVec 64).toNat) (1 : BitVec 32).toNat :
      State).bootBusy = false ∧ (true : Bool) = true :=
  ⟨ready_starts _ _ _ _ _ (by decide), by decide, by decide, by decide, by decide, by decide, by decide⟩

theorem witness_FirmwareCommandsComplete_19 :
    Starts (ready trying 0x0E05 c0 (pack [(8, (0 : BitVec 64).toNat), (4, (1 : BitVec 32).toNat)])) .p 0x0E05 c0 (pack [(8, (0 : BitVec
      64).toNat), (4, (1 : BitVec 32).toNat)]) 0 (went trying 0x0E05 c0 (pack [(8, (0 : BitVec 64).toNat), (4, (1 : BitVec 32).toNat)])) ∧
      (went trying 0x0E05 c0 (pack [(8, (0 : BitVec 64).toNat), (4, (1 : BitVec 32).toNat)])).trialRuns = true :=
  ⟨ready_starts _ _ _ _ _ (by decide), by decide⟩

theorem witness_FirmwareCommandsComplete_20 :
    Starts (ready tst 0x0E05 c0 (pack [(8, (0 : BitVec 64).toNat), (4, (1 : BitVec 32).toNat)])) .p 0x0E05 c0 (pack [(8, (0 : BitVec
      64).toNat), (4, (1 : BitVec 32).toNat)]) 0 (went tst 0x0E05 c0 (pack [(8, (0 : BitVec 64).toNat), (4, (1 : BitVec 32).toNat)])) ∧
      (went tst 0x0E05 c0 (pack [(8, (0 : BitVec 64).toNat), (4, (1 : BitVec 32).toNat)])).trialRuns = false ∧ (none : HostRead) = none ∧
      0 < (1 : BitVec 32).toNat :=
  ⟨ready_starts _ _ _ _ _ (by decide), by decide, by decide, by decide⟩

theorem witness_FirmwareCommandsComplete_21 :
    Starts (ready tst 0x0E05 c0 (pack [(8, (0 : BitVec 64).toNat), (4, (1 : BitVec 32).toNat)])) .p 0x0E05 c0 (pack [(8, (0 : BitVec
      64).toNat), (4, (1 : BitVec 32).toNat)]) 0 (went tst 0x0E05 c0 (pack [(8, (0 : BitVec 64).toNat), (4, (1 : BitVec 32).toNat)])) ∧
      (went tst 0x0E05 c0 (pack [(8, (0 : BitVec 64).toNat), (4, (1 : BitVec 32).toNat)])).trialRuns = false ∧ (some [0] : HostRead) =
      some ([0] : List Byte) ∧ ([0] : List Byte).length = (1 : BitVec 32).toNat ∧ 0 < (1 : BitVec 32).toNat ∧ (((went tst 0x0E05 c0 (pack
      [(8, (0 : BitVec 64).toNat), (4, (1 : BitVec 32).toNat)])).hostRead (cmdReq c0 (0 : BitVec 64).toNat) (1 : BitVec 32).toNat :
      State).bootBusy = true ∨ (false : Bool) = false) :=
  ⟨ready_starts _ _ _ _ _ (by decide), by decide, by decide, by decide, by decide, by decide⟩

theorem witness_FirmwareCommandsComplete_22 :
    Starts (ready tst 0x0E05 c0 (pack [(8, (0 : BitVec 64).toNat), (4, (0 : BitVec 32).toNat)])) .p 0x0E05 c0 (pack [(8, (0 : BitVec
      64).toNat), (4, (0 : BitVec 32).toNat)]) 0 (went tst 0x0E05 c0 (pack [(8, (0 : BitVec 64).toNat), (4, (0 : BitVec 32).toNat)])) ∧
      (went tst 0x0E05 c0 (pack [(8, (0 : BitVec 64).toNat), (4, (0 : BitVec 32).toNat)])).trialRuns = false ∧ (none : HostRead) = none ∧
      (0 : BitVec 32).toNat = 0 :=
  ⟨ready_starts _ _ _ _ _ (by decide), by decide, by decide, by decide⟩

theorem witness_FirmwareCommandsComplete_23 :
    Starts (ready tst 0x0E06 c0 (pack [(8, (0 : BitVec 64).toNat)] ++ ((List.replicate 32 0) : List Byte))) .p 0x0E06 c0 (pack [(8, (0 :
      BitVec 64).toNat)] ++ ((List.replicate 32 0) : List Byte)) 0 (went tst 0x0E06 c0 (pack [(8, (0 : BitVec 64).toNat)] ++
      ((List.replicate 32 0) : List Byte))) :=
  ready_starts _ _ _ _ _ (by decide)

theorem witness_FirmwareCommandsComplete_24 :
    Starts (ready tst 0x0E07 c0 (pack [(1, (2 : BitVec 8).toNat), (8, (0 : BitVec 64).toNat), (4, (0xFFFFFFFF : BitVec 32).toNat)])) .p
      0x0E07 c0 (pack [(1, (2 : BitVec 8).toNat), (8, (0 : BitVec 64).toNat), (4, (0xFFFFFFFF : BitVec 32).toNat)]) 0 (went tst 0x0E07 c0
      (pack [(1, (2 : BitVec 8).toNat), (8, (0 : BitVec 64).toNat), (4, (0xFFFFFFFF : BitVec 32).toNat)])) ∧ (2 : BitVec 8).toNat ≤ 2 :=
  ⟨ready_starts _ _ _ _ _ (by decide), by decide⟩

theorem witness_FirmwareCommandsComplete_25 :
    Starts (ready tst 0x0E07 c0 (pack [(1, (3 : BitVec 8).toNat), (8, (0 : BitVec 64).toNat), (4, (0 : BitVec 32).toNat)])) .p 0x0E07 c0
      (pack [(1, (3 : BitVec 8).toNat), (8, (0 : BitVec 64).toNat), (4, (0 : BitVec 32).toNat)]) 0 (went tst 0x0E07 c0 (pack [(1, (3 :
      BitVec 8).toNat), (8, (0 : BitVec 64).toNat), (4, (0 : BitVec 32).toNat)])) ∧ 2 < (3 : BitVec 8).toNat :=
  ⟨ready_starts _ _ _ _ _ (by decide), by decide⟩

/-! ### ExpertCommandsComplete -/

theorem witness_ExpertCommandsComplete_1 :
    Starts (ready tst 0x0F00 c0 []) .px 0x0F00 c0 [] 0 (went tst 0x0F00 c0 []) ∧ (went tst 0x0F00 c0 []).on R.CMD_EXPERT_LOCKOUT = false
      :=
  ⟨ready_starts _ _ _ _ _ (by decide), by decide⟩

theorem witness_ExpertCommandsComplete_2 :
    Starts (ready ((tst.wr R.CMD_EXPERT_LOCKOUT 1)) 0x0F00 c0 []) .px 0x0F00 c0 [] 0 (went ((tst.wr R.CMD_EXPERT_LOCKOUT 1)) 0x0F00 c0 [])
      ∧ (went ((tst.wr R.CMD_EXPERT_LOCKOUT 1)) 0x0F00 c0 []).on R.CMD_EXPERT_LOCKOUT = true :=
  ⟨ready_starts _ _ _ _ _ (by decide), by decide⟩

theorem witness_ExpertCommandsComplete_3 :
    Starts (ready opened 0x0F01 c0 ([] : List Byte)) .px 0x0F01 c0 ([] : List Byte) 0 (went opened 0x0F01 c0 ([] : List Byte)) ∧ (went
      opened 0x0F01 c0 ([] : List Byte)).unlockPolicy (unlockKey c0.path) = 1 :=
  ⟨ready_starts _ _ _ _ _ (by decide), by decide⟩

theorem witness_ExpertCommandsComplete_4 :
    Starts (ready ((tst.wr R.CMD_CFG_EXPERT_POLICY 2)) 0x0F01 c0 ([] : List Byte)) .px 0x0F01 c0 ([] : List Byte) 0 (went ((tst.wr
      R.CMD_CFG_EXPERT_POLICY 2)) 0x0F01 c0 ([] : List Byte)) ∧ (went ((tst.wr R.CMD_CFG_EXPERT_POLICY 2)) 0x0F01 c0 ([] : List
      Byte)).unlockPolicy (unlockKey c0.path) = 2 :=
  ⟨ready_starts _ _ _ _ _ (by decide), by decide⟩

theorem witness_ExpertCommandsComplete_5 :
    Starts (ready tst 0x0F01 c0 ([] : List Byte)) .px 0x0F01 c0 ([] : List Byte) 0 (went tst 0x0F01 c0 ([] : List Byte)) ∧ (went tst
      0x0F01 c0 ([] : List Byte)).unlockPolicy (unlockKey c0.path) = 0 :=
  ⟨ready_starts _ _ _ _ _ (by decide), by decide⟩

theorem witness_ExpertCommandsComplete_6 :
    Starts (ready ((tst.wr R.CMD_CFG_EXPERT_POLICY 3)) 0x0F01 c0 ([] : List Byte)) .px 0x0F01 c0 ([] : List Byte) 0 (went ((tst.wr
      R.CMD_CFG_EXPERT_POLICY 3)) 0x0F01 c0 ([] : List Byte)) ∧ 2 < (went ((tst.wr R.CMD_CFG_EXPERT_POLICY 3)) 0x0F01 c0 ([] : List
      Byte)).unlockPolicy (unlockKey c0.path) :=
  ⟨ready_starts _ _ _ _ _ (by decide), by decide⟩

theorem witness_ExpertCommandsComplete_7 :
    Starts (ready tst 0x0F02 c0 []) .px 0x0F02 c0 [] 0 (went tst 0x0F02 c0 []) :=
  ready_starts _ _ _ _ _ (by decide)

theorem witness_ExpertCommandsComplete_8 :
    Starts (ready opened 0x0F03 c0 (pack [(4, (0x100000 : BitVec 32).toNat), (1, (8 : BitVec 8).toNat)])) .px 0x0F03 c0 (pack [(4,
      (0x100000 : BitVec 32).toNat), (1, (8 : BitVec 8).toNat)]) 0 (went opened 0x0F03 c0 (pack [(4, (0x100000 : BitVec 32).toNat), (1, (8
      : BitVec 8).toNat)])) ∧ regArgs (0x100000 : BitVec 32).toNat (8 : BitVec 8).toNat = true :=
  ⟨ready_starts _ _ _ _ _ (by decide), by decide⟩

theorem witness_ExpertCommandsComplete_9 :
    Starts (ready opened 0x0F03 c0 (pack [(4, (1 : BitVec 32).toNat), (1, (8 : BitVec 8).toNat)])) .px 0x0F03 c0 (pack [(4, (1 : BitVec
      32).toNat), (1, (8 : BitVec 8).toNat)]) 0 (went opened 0x0F03 c0 (pack [(4, (1 : BitVec 32).toNat), (1, (8 : BitVec 8).toNat)])) ∧
      regArgs (1 : BitVec 32).toNat (8 : BitVec 8).toNat = false :=
  ⟨ready_starts _ _ _ _ _ (by decide), by decide⟩

theorem witness_ExpertCommandsComplete_10 :
    Starts (ready opened 0x0F04 c0 (pack [(4, (0x100000 : BitVec 32).toNat), (1, (8 : BitVec 8).toNat), (8, (0 : BitVec 64).toNat)])) .px
      0x0F04 c0 (pack [(4, (0x100000 : BitVec 32).toNat), (1, (8 : BitVec 8).toNat), (8, (0 : BitVec 64).toNat)]) 0 (went opened 0x0F04 c0
      (pack [(4, (0x100000 : BitVec 32).toNat), (1, (8 : BitVec 8).toNat), (8, (0 : BitVec 64).toNat)])) ∧ regArgs (0x100000 : BitVec
      32).toNat (8 : BitVec 8).toNat = true :=
  ⟨ready_starts _ _ _ _ _ (by decide), by decide⟩

theorem witness_ExpertCommandsComplete_11 :
    Starts (ready opened 0x0F04 c0 (pack [(4, (1 : BitVec 32).toNat), (1, (8 : BitVec 8).toNat), (8, (0 : BitVec 64).toNat)])) .px 0x0F04
      c0 (pack [(4, (1 : BitVec 32).toNat), (1, (8 : BitVec 8).toNat), (8, (0 : BitVec 64).toNat)]) 0 (went opened 0x0F04 c0 (pack [(4, (1
      : BitVec 32).toNat), (1, (8 : BitVec 8).toNat), (8, (0 : BitVec 64).toNat)])) ∧ regArgs (1 : BitVec 32).toNat (8 : BitVec 8).toNat =
      false :=
  ⟨ready_starts _ _ _ _ _ (by decide), by decide⟩

theorem witness_ExpertCommandsComplete_12 :
    Starts (ready tst 0x0F05 c0 []) .a 0x0F05 c0 [] 0 (went tst 0x0F05 c0 []) :=
  ready_starts _ _ _ _ _ (by decide)

/-! ### CrossbarCommandsComplete -/

theorem witness_CrossbarCommandsComplete_1 :
    crossing.runs = true ∧ (crossing.netRxWake (0 : Fin 108).val : State).outputFree (0 : Fin 108).val = true ∧ (((((crossing.netRxWake (0
      : Fin 108).val : State).waiting (0 : Fin 108).val).filter fun x => !(crossing.netRxWake (0 : Fin 108).val : State).fits (0 : Fin
      108).val x).foldl State.markDenied (crossing.netRxWake (0 : Fin 108).val : State) : State).nextWaiting (0 : Fin 108).val
      ((((((crossing.netRxWake (0 : Fin 108).val : State).waiting (0 : Fin 108).val).filter fun x => !(crossing.netRxWake (0 : Fin
      108).val : State).fits (0 : Fin 108).val x).foldl State.markDenied (crossing.netRxWake (0 : Fin 108).val : State) : State).waiting
      (0 : Fin 108).val).filter (((((crossing.netRxWake (0 : Fin 108).val : State).waiting (0 : Fin 108).val).filter fun x =>
      !(crossing.netRxWake (0 : Fin 108).val : State).fits (0 : Fin 108).val x).foldl State.markDenied (crossing.netRxWake (0 : Fin
      108).val : State) : State).admits (0 : Fin 108).val)) = some (w0 : Waiting)) :=
  ⟨by decide +kernel, by decide +kernel, by decide +kernel⟩

theorem witness_CrossbarCommandsComplete_2 :
    holding.runs = true ∧ holding.heldPkt (0 : Fin 108).val = some (({ input := 95, vc := 0, outVc := 0 } : Holder), (kHeld : BufPkt)) ∧
      (kHeld : BufPkt).need = 0 ∧ (96 ≤ (0 : Fin 108).val ∨ (kHeld : BufPkt).sent = (kHeld : BufPkt).seen.length) :=
  ⟨by decide +kernel, by decide +kernel, by decide +kernel, by decide +kernel⟩

theorem witness_CrossbarCommandsComplete_3 :
    ((tst.setRx 9 [pktOf ptAck 3])).engines = true ∧ ((tst.setRx 9 [pktOf ptAck 3])).rxPasses (9 : Fin 10).val = none ∧ ((tst.setRx 9
      [pktOf ptAck 3])).rx (9 : Fin 10).val = ((pktOf ptAck 3) : List Flit) :: ([] : List (List Flit)) ∧ pktCrcOk ((pktOf ptAck 3) : List
      Flit) = true ∧ malformed (((pktOf ptAck 3) : List Flit).headD 0) = false ∧ hPtype (((pktOf ptAck 3) : List Flit).headD 0) ∉
      ([ptCollContrib, ptCollResult, ptLineMcast, ptMgmtReq, ptMgmtResp] : List Nat) :=
  ⟨by decide +kernel, by decide +kernel, by decide +kernel, by decide +kernel, by decide +kernel, by decide +kernel⟩

theorem witness_CrossbarCommandsComplete_4 :
    ((tst.setRx 9 [pktOf ptCollResult 6])).engines = true ∧ ((tst.setRx 9 [pktOf ptCollResult 6])).rxPasses (9 : Fin 10).val = none ∧
      ((tst.setRx 9 [pktOf ptCollResult 6])).rx (9 : Fin 10).val = ((pktOf ptCollResult 6) : List Flit) :: ([] : List (List Flit)) ∧
      pktCrcOk ((pktOf ptCollResult 6) : List Flit) = true ∧ malformed (((pktOf ptCollResult 6) : List Flit).headD 0) = false ∧ (hPtype
      (((pktOf ptCollResult 6) : List Flit).headD 0) = ptCollResult ∨ hPtype (((pktOf ptCollResult 6) : List Flit).headD 0) = ptLineMcast)
      :=
  ⟨by decide +kernel, by decide +kernel, by decide +kernel, by decide +kernel, by decide +kernel, by decide +kernel⟩

theorem witness_CrossbarCommandsComplete_5 :
    ((tst.setRx 9 [[5]])).engines = true ∧ ((tst.setRx 9 [[5]])).rxPasses (9 : Fin 10).val = none ∧ ((tst.setRx 9 [[5]])).rx (9 : Fin
      10).val = ([5] : List Flit) :: ([] : List (List Flit)) ∧ pktCrcOk ([5] : List Flit) = false :=
  ⟨by decide, by decide, by decide, by decide⟩

theorem witness_CrossbarCommandsComplete_6 :
    (((tst.setRx 9 [pktOf ptWriteReq 2, pktOf ptAck 3]).setPipe 9 { win := some 0 })).engines = true ∧ (((tst.setRx 9 [pktOf ptWriteReq 2,
      pktOf ptAck 3]).setPipe 9 { win := some 0 })).rxPasses (9 : Fin 10).val = some (1 : Nat) ∧ ((((tst.setRx 9 [pktOf ptWriteReq 2,
      pktOf ptAck 3]).setPipe 9 { win := some 0 })).rx (9 : Fin 10).val)[(1 : Nat)]? = some ((pktOf ptAck 3) : List Flit) :=
  ⟨by decide +kernel, by decide +kernel, by decide +kernel⟩

/-! ### RouterCommandsComplete -/

theorem witness_RouterCommandsComplete_1 :
    ((tst.setInVc 107 2 { pkts := [kNew] })).runs = true ∧ (((tst.setInVc 107 2 { pkts := [kNew] })).inVc (107 : Fin 108).val (2 :
      Vc).val).pkts = (kNew : BufPkt) :: ([] : List BufPkt) ∧ ((((tst.setInVc 107 2 { pkts := [kNew] })).inVc (107 : Fin 108).val (2 :
      Vc).val).pkts.any (fun x => x.bad) = false) ∧ (kNew : BufPkt).copy = none ∧ (kNew : BufPkt).undecided = true ∧ collectiveHere (107 :
      Fin 108).val (kNew : BufPkt).head = false :=
  ⟨by decide +kernel, by decide +kernel, by decide +kernel, by decide +kernel, by decide +kernel, by decide +kernel⟩

theorem witness_RouterCommandsComplete_2 :
    ((tst.setInVc 95 6 { pkts := [kColl] })).runs = true ∧ (((tst.setInVc 95 6 { pkts := [kColl] })).inVc (95 : Fin 108).val (6 :
      Vc).val).pkts = (kColl : BufPkt) :: ([] : List BufPkt) ∧ ((((tst.setInVc 95 6 { pkts := [kColl] })).inVc (95 : Fin 108).val (6 :
      Vc).val).pkts.any (fun x => x.bad) = false) ∧ (kColl : BufPkt).copy = none ∧ (kColl : BufPkt).undecided = true ∧ collectiveHere (95
      : Fin 108).val (kColl : BufPkt).head = true ∧ ((some .tap) : Option Target).isSome = true ∧ ((some .tap) : Option Target) =
      ((tst.setInVc 95 6 { pkts := [kColl] })).collectiveTarget (kColl : BufPkt).head ((kColl : BufPkt).need = 0) :=
  ⟨by decide +kernel, by decide +kernel, by decide +kernel, by decide +kernel, by decide +kernel, by decide +kernel, by decide +kernel, by
    decide +kernel⟩

theorem witness_RouterCommandsComplete_3 :
    tst.runs = true ∧ fget (2 : Flit) 0 8 = 2 ∧ fget (2 : Flit) 16 2 = 0 :=
  ⟨by decide, by decide, by decide⟩

theorem witness_RouterCommandsComplete_4 :
    tst.runs = true :=
  by decide

theorem witness_RouterCommandsComplete_5 :
    tst.runs = true :=
  by decide

theorem witness_RouterCommandsComplete_6 :
    tst.runs = true ∧ fget (3 : Flit) 0 8 = 3 :=
  ⟨by decide, by decide⟩

theorem witness_RouterCommandsComplete_7 :
    ({ locked tst with rout := { tst.rout with armed := some ⟨0, 1, 0, 1⟩ } }).runs = true ∧ ({ locked tst with rout := { tst.rout with armed := some ⟨0, 1, 0, 1⟩ } }).rout.armed
      = some (⟨0, 1, 0, 1⟩ : ArmedFlip) ∧ ({ locked tst with rout := { tst.rout with armed := some ⟨0, 1, 0, 1⟩ } }).geysState ≠ gsInvalid
      ∧ (⟨0, 1, 0, 1⟩ : ArmedFlip).target ≤ ({ locked tst with rout := { tst.rout with armed := some ⟨0, 1, 0, 1⟩ } }).gt :=
  ⟨by decide, by decide, by decide, by decide⟩

theorem witness_RouterCommandsComplete_8 :
    ({ (locked tst).wr R.ROUT_BANK_HOLDING 1 with rout := { tst.rout with holdEnd := some (.gt 0) } }).runs = true ∧ ({ (locked tst).wr R.ROUT_BANK_HOLDING 1 with rout := { tst.rout with holdEnd := some (.gt 0) } }).on
      R.ROUT_BANK_HOLDING = true ∧ ({ (locked tst).wr R.ROUT_BANK_HOLDING 1 with rout := { tst.rout with holdEnd := some (.gt 0) } }).rout.holdEnd
      = some (.gt (0 : Nat)) ∧ (0 : Nat) ≤ ({ (locked tst).wr R.ROUT_BANK_HOLDING 1 with rout := { tst.rout with holdEnd := some (.gt 0) } }).gt
      ∧ ({ (locked tst).wr R.ROUT_BANK_HOLDING 1 with rout := { tst.rout with holdEnd := some (.gt 0) } }).geysState ≠ gsInvalid :=
  ⟨by decide, by decide, by decide, by decide, by decide⟩

theorem witness_RouterCommandsComplete_9 :
    ({ tst.wr R.ROUT_BANK_HOLDING 1 with rout := { tst.rout with holdEnd := some (.local_ 0) } }).runs = true ∧ ({ tst.wr R.ROUT_BANK_HOLDING 1 with rout := { tst.rout with holdEnd := some (.local_ 0) } }).on
      R.ROUT_BANK_HOLDING = true ∧ ({ tst.wr R.ROUT_BANK_HOLDING 1 with rout := { tst.rout with holdEnd := some (.local_ 0) } }).rout.holdEnd
      = some (.local_ (0 : Nat)) ∧ (0 : Nat) ≤ ({ tst.wr R.ROUT_BANK_HOLDING 1 with rout := { tst.rout with holdEnd := some (.local_ 0) } }).time.cycles
      :=
  ⟨by decide, by decide, by decide, by decide⟩

theorem witness_RouterCommandsComplete_10 :
    tst.runs = true ∧ fget ((2 + 2 ^ 16) : Flit) 0 8 = 2 ∧ fget ((2 + 2 ^ 16) : Flit) 16 2 = 1 :=
  ⟨by decide, by decide, by decide⟩

theorem witness_RouterCommandsComplete_11 :
    tst.runs = true :=
  by decide

/-! ### LaneCommandsComplete -/

theorem witness_LaneCommandsComplete_1 :
    portUp95.runs = true ∧ (portUp95.pst (95 : Port).val = tIdent ∨ portUp95.pst (95 : Port).val = tUp ∨ portUp95.pst (95 : Port).val =
      tQuiet) :=
  ⟨by decide, by decide⟩

theorem witness_LaneCommandsComplete_2 :
    ((tst.wr R.PORT_STATUS_STATE tCoef 95)).runs = true ∧ ((tst.wr R.PORT_STATUS_STATE tCoef 95)).pst (95 : Port).val = tCoef :=
  ⟨by decide, by decide⟩

theorem witness_LaneCommandsComplete_3 :
    portUp95.runs = true ∧ commaRead (uninvert ((portUp95.fecSeen ((191 : Lane).val / 2)).on R.LANE_STATUS_RX_INV (191 : Lane).val) ([] :
      List Level)) (uninvert ((portUp95.fecSeen ((191 : Lane).val / 2)).on R.LANE_STATUS_RX_INV (191 : Lane).val) ([] : List Level))
      (uninvert ((portUp95.fecSeen ((191 : Lane).val / 2)).on R.LANE_STATUS_RX_INV (191 : Lane).val) ([] : List Level)) = none :=
  ⟨by decide, by decide⟩

theorem witness_LaneCommandsComplete_4 :
    ((portUp 0)).runs = true ∧ onGrid ((((portUp 0)).fecSeen ((1 : Lane).val / 2)).pst ((1 : Lane).val / 2)) = true ∧ commaRead (uninvert
      ((((portUp 0)).fecSeen ((1 : Lane).val / 2)).on R.LANE_STATUS_RX_INV (1 : Lane).val) (commaMarker : List Level)) (uninvert
      ((((portUp 0)).fecSeen ((1 : Lane).val / 2)).on R.LANE_STATUS_RX_INV (1 : Lane).val) ((symbolLevels 5) : List Level)) (uninvert
      ((((portUp 0)).fecSeen ((1 : Lane).val / 2)).on R.LANE_STATUS_RX_INV (1 : Lane).val) ((symbolLevels 1000) : List Level)) = some ((5,
      1000) : BitVec 10 × Nat) :=
  ⟨by decide +kernel, by decide +kernel, by decide +kernel⟩

theorem witness_LaneCommandsComplete_5 :
    (((portUp 0).setLane 1 { missRun := 3, lastCidx := some 7 })).runs = true ∧ onGrid ((((portUp 0).setLane 1 { missRun := 3, lastCidx := some 7 })).pst
      ((1 : Lane).val / 2)) = true ∧ ((((portUp 0).setLane 1 { missRun := 3, lastCidx := some 7 })).lane (1 : Lane).val).lastCidx ≠ none ∧
      4 ≤ ((((portUp 0).setLane 1 { missRun := 3, lastCidx := some 7 })).lane (1 : Lane).val).missRun + 1 :=
  ⟨by decide, by decide, by decide, by decide⟩

theorem witness_LaneCommandsComplete_6 :
    (((portUp 0).setPort 0 { txPair := 2048 })).runs = true ∧ onGrid ((((portUp 0).setPort 0 { txPair := 2048 })).pst ((0 : Lane).val /
      2)) = true ∧ (((portUp 0).setPort 0 { txPair := 2048 })).halfDue (0 : Lane).val = true :=
  ⟨by decide, by decide, by decide⟩

theorem witness_LaneCommandsComplete_7 :
    tst.runs = true :=
  by decide

theorem witness_LaneCommandsComplete_8 :
    tst.runs = true :=
  by decide

theorem witness_LaneCommandsComplete_9 :
    tst.runs = true :=
  by decide

theorem witness_LaneCommandsComplete_10 :
    tst.runs = true :=
  by decide

/-! ### TrainingCommandsComplete -/

theorem witness_TrainingCommandsComplete_1 :
    ((tst.wr R.PORT_STATUS_STATE tCdr 0)).runs = true ∧ markerInverted (trainMarker : List Level) = some (false : Bool) ∧ ((((tst.wr
      R.PORT_STATUS_STATE tCdr 0)).tryCdr ((1 : Lane).val / 2)).pst ((1 : Lane).val / 2) = tCdr ∨ (((tst.wr R.PORT_STATUS_STATE tCdr
      0)).tryCdr ((1 : Lane).val / 2)).pst ((1 : Lane).val / 2) = tCoef) :=
  ⟨by decide, by decide, by decide⟩

theorem witness_TrainingCommandsComplete_2 :
    ((tst.wr R.PORT_STATUS_STATE tIdent 95)).runs = true ∧ (((((tst.wr R.PORT_STATUS_STATE tIdent 95)).pst (95 : Port).val = tCdr ∨
      ((tst.wr R.PORT_STATUS_STATE tIdent 95)).pst (95 : Port).val = tCoef) ∧ (((tst.wr R.PORT_STATUS_STATE tIdent 95)).port (95 :
      Port).val).shortLimits = false) ∨ ((tst.wr R.PORT_STATUS_STATE tIdent 95)).pst (95 : Port).val = tAlign ∨ ((tst.wr
      R.PORT_STATUS_STATE tIdent 95)).pst (95 : Port).val = tIdent) :=
  ⟨by decide, by decide⟩

theorem witness_TrainingCommandsComplete_3 :
    ((tst.wr R.PORT_STATUS_STATE tHold 95)).runs = true ∧ ((tst.wr R.PORT_STATUS_STATE tHold 95)).pst (95 : Port).val = tHold :=
  ⟨by decide, by decide⟩

theorem witness_TrainingCommandsComplete_4 :
    ((identing 95 2)).runs = true ∧ ((identing 95 2)).pst (95 : Port).val = tIdent ∧ ((identing 95 2)).nextRecord (95 : Port).val = some
      ((idGood : Flit), (false : Bool)) ∧ (((((identing 95 2)).setLink (95 : Port).val { ((identing 95 2)).link (95 : Port).val with rxBytes := (((identing 95 2)).link (95 : Port).val).rxBytes.drop 340 }
      : State).setPort (95 : Port).val (((((identing 95 2)).setLink (95 : Port).val { ((identing 95 2)).link (95 : Port).val with rxBytes := (((identing 95 2)).link (95 : Port).val).rxBytes.drop 340 }
      : State).port (95 : Port).val).takeRecord (idGood : Flit) (false : Bool)) : State).port (95 : Port).val).idRun < 4 :=
  ⟨by decide +kernel +kernel, by decide +kernel +kernel, by decide +kernel +kernel, by decide +kernel +kernel⟩

theorem witness_TrainingCommandsComplete_5 :
    ((identing 95 3)).runs = true ∧ ((identing 95 3)).pst (95 : Port).val = tIdent ∧ ((identing 95 3)).nextRecord (95 : Port).val = some
      ((idGood : Flit), (false : Bool)) ∧ 4 ≤ (((((identing 95 3)).setLink (95 : Port).val { ((identing 95 3)).link (95 : Port).val with rxBytes := (((identing 95 3)).link (95 : Port).val).rxBytes.drop 340 }
      : State).setPort (95 : Port).val (((((identing 95 3)).setLink (95 : Port).val { ((identing 95 3)).link (95 : Port).val with rxBytes := (((identing 95 3)).link (95 : Port).val).rxBytes.drop 340 }
      : State).port (95 : Port).val).takeRecord (idGood : Flit) (false : Bool)) : State).port (95 : Port).val).idRun ∧ ((((identing 95
      3)).setLink (95 : Port).val { ((identing 95 3)).link (95 : Port).val with rxBytes := (((identing 95 3)).link (95 : Port).val).rxBytes.drop 340 }
      : State).setPort (95 : Port).val (((((identing 95 3)).setLink (95 : Port).val { ((identing 95 3)).link (95 : Port).val with rxBytes := (((identing 95 3)).link (95 : Port).val).rxBytes.drop 340 }
      : State).port (95 : Port).val).takeRecord (idGood : Flit) (false : Bool)) : State).identityOk (95 : Port).val (idGood : Flit) =
      false :=
  ⟨by decide +kernel +kernel, by decide +kernel +kernel, by decide +kernel +kernel, by decide +kernel +kernel, by decide +kernel +kernel⟩

theorem witness_TrainingCommandsComplete_6 :
    ((identing 0 3)).runs = true ∧ ((identing 0 3)).pst (0 : Port).val = tIdent ∧ ((identing 0 3)).nextRecord (0 : Port).val = some
      ((idGood : Flit), (false : Bool)) ∧ 4 ≤ (((((identing 0 3)).setLink (0 : Port).val { ((identing 0 3)).link (0 : Port).val with rxBytes := (((identing 0 3)).link (0 : Port).val).rxBytes.drop 340 }
      : State).setPort (0 : Port).val (((((identing 0 3)).setLink (0 : Port).val { ((identing 0 3)).link (0 : Port).val with rxBytes := (((identing 0 3)).link (0 : Port).val).rxBytes.drop 340 }
      : State).port (0 : Port).val).takeRecord (idGood : Flit) (false : Bool)) : State).port (0 : Port).val).idRun ∧ ((((identing 0
      3)).setLink (0 : Port).val { ((identing 0 3)).link (0 : Port).val with rxBytes := (((identing 0 3)).link (0 : Port).val).rxBytes.drop 340 }
      : State).setPort (0 : Port).val (((((identing 0 3)).setLink (0 : Port).val { ((identing 0 3)).link (0 : Port).val with rxBytes := (((identing 0 3)).link (0 : Port).val).rxBytes.drop 340 }
      : State).port (0 : Port).val).takeRecord (idGood : Flit) (false : Bool)) : State).identityOk (0 : Port).val (idGood : Flit) = true
      :=
  ⟨by decide +kernel +kernel, by decide +kernel +kernel, by decide +kernel +kernel, by decide +kernel +kernel, by decide +kernel +kernel⟩

theorem witness_TrainingCommandsComplete_7 :
    ((tst.wr R.PORT_STATUS_STATE tMis 95)).runs = true ∧ ((tst.wr R.PORT_STATUS_STATE tMis 95)).pst (95 : Port).val = tMis :=
  ⟨by decide, by decide⟩

theorem witness_TrainingCommandsComplete_8 :
    quietWork.runs = true ∧ quietWork.pst (⟨95, 2047⟩ : PortPlace).port.val = tQuiet ∧ quietWork.quietWork (⟨95, 2047⟩ :
      PortPlace).port.val = true :=
  ⟨by decide, by decide, by decide⟩

theorem witness_TrainingCommandsComplete_9 :
    (((tst.wr R.PORT_STATUS_STATE tDorm 95).setLink 95 { lcws := [(1, 1)] })).runs = true ∧ (((tst.wr R.PORT_STATUS_STATE tDorm
      95).setLink 95 { lcws := [(1, 1)] })).pst (95 : Port).val = tDorm ∧ (((tst.wr R.PORT_STATUS_STATE tDorm 95).setLink 95 { lcws := [(1, 1)] })).quietWork
      (95 : Port).val = true :=
  ⟨by decide, by decide, by decide⟩

theorem witness_TrainingCommandsComplete_10 :
    ((dormPeat.wr R.PWR_WAKE_EN_SOURCES 0)).up = true ∧ ((dormPeat.wr R.PWR_WAKE_EN_SOURCES 0)).pst (95 : Port).val = tDorm ∧
      (((dormPeat.wr R.PWR_WAKE_EN_SOURCES 0)).wakeLatch wkNetEnergy (95 : Port).val).runs = false :=
  ⟨by decide, by decide, by decide⟩

theorem witness_TrainingCommandsComplete_11 :
    (((tst.wr R.PORT_STATUS_STATE tCoef 95).setPort 95 { shortLimits := true })).runs = true ∧ ((((tst.wr R.PORT_STATUS_STATE tCoef
      95).setPort 95 { shortLimits := true })).pst (95 : Port).val = tCdr ∨ (((tst.wr R.PORT_STATUS_STATE tCoef 95).setPort 95 { shortLimits := true })).pst
      (95 : Port).val = tCoef) ∧ ((((tst.wr R.PORT_STATUS_STATE tCoef 95).setPort 95 { shortLimits := true })).port (95 :
      Port).val).shortLimits = true :=
  ⟨by decide, by decide, by decide⟩

/-! ### LinkCommandsComplete -/

theorem witness_LinkCommandsComplete_1 :
    ((rxing 0 (flitsBytes [5] ++ toBytes 8 (frameTrailer [5] 0 8 9)))).runs = true ∧ ((rxing 0 (flitsBytes [5] ++ toBytes 8 (frameTrailer
      [5] 0 8 9)))).streaming (95 : Port).val = true ∧ (((rxing 0 (flitsBytes [5] ++ toBytes 8 (frameTrailer [5] 0 8 9)))).rxUnit (95 :
      Port).val).1 = .frame ([5] : List Flit) ((BitVec.ofNat 64 (frameTrailer [5] 0 8 9)) : Word).toNat (false : Bool) ∧ (((rxing 0
      (flitsBytes [5] ++ toBytes 8 (frameTrailer [5] 0 8 9)))).link (95 : Port).val).rxNext = (0 : Fin 8).val ∧ frameBad ([5] : List Flit)
      ((BitVec.ofNat 64 (frameTrailer [5] 0 8 9)) : Word).toNat (0 : Fin 8).val (false : Bool) = false :=
  ⟨by decide +kernel +kernel, by decide +kernel +kernel, by decide +kernel +kernel, by decide +kernel +kernel, by decide +kernel +kernel⟩

theorem witness_LinkCommandsComplete_2 :
    ((rxing 0 (List.replicate 40 0))).runs = true ∧ ((rxing 0 (List.replicate 40 0))).streaming (95 : Port).val = true ∧ (((rxing 0
      (List.replicate 40 0))).rxUnit (95 : Port).val).1 = .frame ([0] : List Flit) (0 : Word).toNat (false : Bool) ∧ (((rxing 0
      (List.replicate 40 0))).link (95 : Port).val).rxNext = (0 : Fin 8).val ∧ frameBad ([0] : List Flit) (0 : Word).toNat (0 : Fin 8).val
      (false : Bool) = true :=
  ⟨by decide +kernel, by decide +kernel, by decide +kernel, by decide +kernel, by decide +kernel⟩

theorem witness_LinkCommandsComplete_3 :
    ((rxing 8 (List.replicate 8 0))).runs = true ∧ ((rxing 8 (List.replicate 8 0))).streaming (95 : Port).val = true ∧ ((rxing 8
      (List.replicate 8 0))).unitBad (95 : Port).val (((rxing 8 (List.replicate 8 0))).rxUnit (95 : Port).val).1 = true ∧ (((rxing 8
      (List.replicate 8 0))).rxUnit (95 : Port).val).1.isLcw = (true : Bool) :=
  ⟨by decide +kernel, by decide +kernel, by decide +kernel, by decide +kernel⟩

theorem witness_LinkCommandsComplete_4 :
    ((rxing 8 (List.replicate 8 0))).runs = true ∧ ((rxing 8 (List.replicate 8 0))).streaming (95 : Port).val = true ∧ (((rxing 8
      (List.replicate 8 0))).rxUnit (95 : Port).val).1 = .lcw (0 : Word).toNat ∧ ((rxing 8 (List.replicate 8 0))).unitAtBoundary (95 :
      Port).val 8 = (false : Bool) :=
  ⟨by decide +kernel, by decide +kernel, by decide +kernel, by decide +kernel⟩

theorem witness_LinkCommandsComplete_5 :
    ((startArrives 7601513221047975993)).runs = true ∧ ((startArrives 7601513221047975993)).streaming (95 : Port).val = true ∧
      (((startArrives 7601513221047975993)).rxUnit (95 : Port).val).1 = .lcw (7601513221047975993 : Word).toNat ∧ (((startArrives
      7601513221047975993)).link (95 : Port).val).begun = false ∧ wKind (7601513221047975993 : Word).toNat = lwStart :=
  ⟨by decide +kernel, by decide +kernel, by decide +kernel, by decide +kernel, by decide +kernel⟩

theorem witness_LinkCommandsComplete_6 :
    sess.runs = true ∧ sess.inSession (95 : Port).val = true ∧ 0 < sess.outstanding (95 : Port).val :=
  ⟨by decide, by decide, by decide⟩

theorem witness_LinkCommandsComplete_7 :
    portUp95.runs = true ∧ portUp95.pst (95 : Port).val = tUp :=
  ⟨by decide, by decide⟩

theorem witness_LinkCommandsComplete_8 :
    ((portUp95.setLink 95 { xoff := 1 })).runs = true ∧ ((portUp95.setLink 95 { xoff := 1 })).streaming (95 : Port).val = true ∧
      (((portUp95.setLink 95 { xoff := 1 })).link (95 : Port).val).xoff ≠ 0 :=
  ⟨by decide, by decide, by decide⟩

theorem witness_LinkCommandsComplete_9 :
    ((tst.wr R.LINK_STATUS_PEER_XOFF 128 95)).runs = true ∧ ((tst.wr R.LINK_STATUS_PEER_XOFF 128 95)).xoffAt (95 : Port).val (7 : Vc).val
      = true :=
  ⟨by decide, by decide⟩

theorem witness_LinkCommandsComplete_10 :
    ((portUp95.setLink 95 { leakDue := true })).runs = true ∧ (((portUp95.setLink 95 { leakDue := true })).link (95 : Port).val).leakDue =
      true ∧ ((true : Bool) = true ∨ ((portUp95.setLink 95 { leakDue := true })).lpIdle (95 : Port).val = true) :=
  ⟨by decide, by decide, by decide⟩

theorem witness_LinkCommandsComplete_11 :
    ((tst.wr R.LINK_STATUS_STATE lkDown 95)).runs = true ∧ ((tst.wr R.LINK_STATUS_STATE lkDown 95)).rd R.LINK_STATUS_STATE (95 : Port).val
      = lkDown :=
  ⟨by decide, by decide⟩

theorem witness_LinkCommandsComplete_12 :
    tst.runs = true :=
  by decide

theorem witness_LinkCommandsComplete_13 :
    ((rxing 8 (toBytes 8 (lcwWord 9 lwLpReq 0 0 1)))).runs = true ∧ ((rxing 8 (toBytes 8 (lcwWord 9 lwLpReq 0 0 1)))).inSession (95 :
      Port).val = true ∧ ((rxing 8 (toBytes 8 (lcwWord 9 lwLpReq 0 0 1)))).rd R.LINK_STATUS_RXMODE (95 : Port).val ≠ 2 ∧ (((rxing 8
      (toBytes 8 (lcwWord 9 lwLpReq 0 0 1)))).rxUnit (95 : Port).val).1 = .lcw ((lcwWord 9 lwLpReq 0 0 1) : Nat) ∧ lcwBad ((lcwWord 9
      lwLpReq 0 0 1) : Nat) = false ∧ wKind ((lcwWord 9 lwLpReq 0 0 1) : Nat) = lwLpReq ∧ decide (wArg ((lcwWord 9 lwLpReq 0 0 1) : Nat) %
      2 = 1) = (true : Bool) :=
  ⟨by decide +kernel, by decide +kernel, by decide +kernel, by decide +kernel, by decide +kernel, by decide +kernel, by decide +kernel⟩

theorem witness_LinkCommandsComplete_14 :
    ((rxing 8 (toBytes 8 (lcwWord 9 lwLpAck 0 0 1)))).runs = true ∧ ((rxing 8 (toBytes 8 (lcwWord 9 lwLpAck 0 0 1)))).inSession (95 :
      Port).val = true ∧ ((rxing 8 (toBytes 8 (lcwWord 9 lwLpAck 0 0 1)))).rd R.LINK_STATUS_RXMODE (95 : Port).val ≠ 2 ∧ (((rxing 8
      (toBytes 8 (lcwWord 9 lwLpAck 0 0 1)))).rxUnit (95 : Port).val).1 = .lcw ((lcwWord 9 lwLpAck 0 0 1) : Nat) ∧ lcwBad ((lcwWord 9
      lwLpAck 0 0 1) : Nat) = false ∧ wKind ((lcwWord 9 lwLpAck 0 0 1) : Nat) = lwLpAck ∧ decide (wArg ((lcwWord 9 lwLpAck 0 0 1) : Nat) %
      2 = 1) = (true : Bool) :=
  ⟨by decide +kernel, by decide +kernel, by decide +kernel, by decide +kernel, by decide +kernel, by decide +kernel, by decide +kernel⟩

theorem witness_LinkCommandsComplete_15 :
    ((rxing 8 (toBytes 8 (lcwWord 9 lwLpNak 0 0 1)))).runs = true ∧ ((rxing 8 (toBytes 8 (lcwWord 9 lwLpNak 0 0 1)))).inSession (95 :
      Port).val = true ∧ ((rxing 8 (toBytes 8 (lcwWord 9 lwLpNak 0 0 1)))).rd R.LINK_STATUS_RXMODE (95 : Port).val ≠ 2 ∧ (((rxing 8
      (toBytes 8 (lcwWord 9 lwLpNak 0 0 1)))).rxUnit (95 : Port).val).1 = .lcw ((lcwWord 9 lwLpNak 0 0 1) : Nat) ∧ lcwBad ((lcwWord 9
      lwLpNak 0 0 1) : Nat) = false ∧ wKind ((lcwWord 9 lwLpNak 0 0 1) : Nat) = lwLpNak ∧ decide (wArg ((lcwWord 9 lwLpNak 0 0 1) : Nat) %
      2 = 1) = (true : Bool) :=
  ⟨by decide +kernel, by decide +kernel, by decide +kernel, by decide +kernel, by decide +kernel, by decide +kernel, by decide +kernel⟩

theorem witness_LinkCommandsComplete_16 :
    portUp95.runs = true ∧ portUp95.pst (95 : Port).val = tUp ∧ (portUp95.port (95 : Port).val).txPair < 2048 ∧ (portUp95.link (95 :
      Port).val).begun = false :=
  ⟨by decide, by decide, by decide, by decide⟩

theorem witness_LinkCommandsComplete_17 :
    sess.runs = true ∧ sess.pst (95 : Port).val = tUp ∧ (sess.port (95 : Port).val).txPair < 2048 ∧ (sess.link (95 : Port).val).begun =
      true :=
  ⟨by decide, by decide, by decide, by decide⟩

/-! ### GeyserEventsComplete -/

theorem witness_GeyserEventsComplete_1 :
    stamped.runs = true ∧ stamped.syncDue (95 : Port).val = true ∧ commaPair (stamped.port (95 : Port).val) = some ((0, 110, 300, 1, 200)
      : Nat × Nat × Nat × Nat × Nat) :=
  ⟨by decide, by decide, by decide⟩

theorem witness_GeyserEventsComplete_2 :
    stamped.runs = true ∧ fget (timingF : Flit) 0 8 = 1 ∧ fget (timingF : Flit) 16 2 = 0 ∧ (stamped.bcTake (95 : Port).val (timingF :
      Flit)).streaming (95 : Port).val = true ∧ ((stamped.bcTake (95 : Port).val (timingF : Flit)).bump C.GEYS_SYNC_RX :
      State).timingOffsets (95 : Port).val (timingF : Flit) = some ((⟨3000, 200⟩ : Frac), (⟨1000, 200⟩ : Frac)) :=
  ⟨by decide, by decide, by decide, by decide, by decide⟩

theorem witness_GeyserEventsComplete_3 :
    portUp95.runs = true ∧ fget (1 : Flit) 0 8 = 1 ∧ fget (1 : Flit) 16 2 = 0 ∧ (portUp95.bcTake (95 : Port).val (1 : Flit)).streaming (95
      : Port).val = true ∧ ((portUp95.bcTake (95 : Port).val (1 : Flit)).bump C.GEYS_SYNC_RX : State).timingOffsets (95 : Port).val (1 :
      Flit) = none :=
  ⟨by decide, by decide, by decide, by decide, by decide⟩

theorem witness_GeyserEventsComplete_4 :
    portUp95.runs = true ∧ fget ((1 + 2 ^ 16) : Flit) 0 8 = 1 ∧ fget ((1 + 2 ^ 16) : Flit) 16 2 = 1 ∧ (portUp95.bcTake (95 : Port).val ((1
      + 2 ^ 16) : Flit)).streaming (95 : Port).val = true :=
  ⟨by decide, by decide, by decide, by decide⟩

theorem witness_GeyserEventsComplete_5 :
    tst.runs = true :=
  by decide

theorem witness_GeyserEventsComplete_6 :
    tst.runs = true :=
  by decide

theorem witness_GeyserEventsComplete_7 :
    tst.runs = true :=
  by decide

theorem witness_GeyserEventsComplete_8 :
    tst.runs = true :=
  by decide

theorem witness_GeyserEventsComplete_9 :
    ((tst.wr R.GEYS_CFG_PPS_EN 0)).runs = true ∧ (((tst.wr R.GEYS_CFG_PPS_EN 0)).on R.GEYS_CFG_PPS_EN = false ∨ 64 ≤ ((tst.wr
      R.GEYS_CFG_PPS_EN 0)).geys.classRun) :=
  ⟨by decide, by decide⟩

theorem witness_GeyserEventsComplete_10 :
    (((master tst).wr R.GEYS_CFG_PPS_EN 1)).runs = true ∧ (((master tst).wr R.GEYS_CFG_PPS_EN 1)).on R.GEYS_CFG_PPS_EN = true ∧ (false :
      Bool) = (((master tst).wr R.GEYS_CFG_PPS_EN 1)).on R.GEYS_CFG_PPS_FALL ∧ (((master tst).wr R.GEYS_CFG_PPS_EN 1)).isGm = true ∧ ((({ (((master tst).wr R.GEYS_CFG_PPS_EN 1)) with geys := { (((master tst).wr R.GEYS_CFG_PPS_EN 1)).geys with ppsMissed := 0 } }
      : State).wr R.GEYS_PPS_TS_PPS_GT (((master tst).wr R.GEYS_CFG_PPS_EN 1)).gt).cond pgGeys 3 false : State).geys.taiPending = none ∧
      ((({ (((master tst).wr R.GEYS_CFG_PPS_EN 1)) with geys := { (((master tst).wr R.GEYS_CFG_PPS_EN 1)).geys with ppsMissed := 0 } } :
      State).wr R.GEYS_PPS_TS_PPS_GT (((master tst).wr R.GEYS_CFG_PPS_EN 1)).gt).cond pgGeys 3 false : State).on R.GEYS_TAI_TAI_VALID =
      false ∧ ((({ (((master tst).wr R.GEYS_CFG_PPS_EN 1)) with geys := { (((master tst).wr R.GEYS_CFG_PPS_EN 1)).geys with ppsMissed := 0 } }
      : State).wr R.GEYS_PPS_TS_PPS_GT (((master tst).wr R.GEYS_CFG_PPS_EN 1)).gt).cond pgGeys 3 false : State).geys.ownClass ≤ ((({ (((master tst).wr R.GEYS_CFG_PPS_EN 1)) with geys := { (((master tst).wr R.GEYS_CFG_PPS_EN 1)).geys with ppsMissed := 0 } }
      : State).wr R.GEYS_PPS_TS_PPS_GT (((master tst).wr R.GEYS_CFG_PPS_EN 1)).gt).cond pgGeys 3 false : State).refClass :=
  ⟨by decide, by decide, by decide, by decide, by decide, by decide, by decide⟩

theorem witness_GeyserEventsComplete_11 :
    ppsTwo.runs = true ∧ ppsTwo.on R.GEYS_CFG_PPS_EN = true ∧ ppsTwo.isGm = true ∧ ppsTwo.geys.ppsMissed = 2 :=
  ⟨by decide, by decide, by decide, by decide⟩

theorem witness_GeyserEventsComplete_12 :
    (((master tst).wr R.GEYS_CFG_PPS_EN 1)).runs = true ∧ (((master tst).wr R.GEYS_CFG_PPS_EN 1)).on R.GEYS_CFG_PPS_EN = true ∧ (((master
      tst).wr R.GEYS_CFG_PPS_EN 1)).isGm = true ∧ (((master tst).wr R.GEYS_CFG_PPS_EN 1)).geys.ppsMissed < 2 :=
  ⟨by decide, by decide, by decide, by decide⟩

theorem witness_GeyserEventsComplete_13 :
    (locked tst).runs = true ∧ (locked tst).geysState = gsLocked :=
  ⟨by decide, by decide⟩

theorem witness_GeyserEventsComplete_14 :
    tst.runs = true :=
  by decide

/-! ### ScheduleEventsComplete -/

theorem witness_ScheduleEventsComplete_1 :
    tst.runs = true :=
  by decide

theorem witness_ScheduleEventsComplete_2 :
    (((locked tst).wr R.SCHD_CTRL_STATE ssArmed)).runs = true ∧ (((locked tst).wr R.SCHD_CTRL_STATE ssArmed)).schdState = ssArmed ∧
      (((locked tst).wr R.SCHD_CTRL_STATE ssArmed)).geysState ≠ gsInvalid ∧ (((locked tst).wr R.SCHD_CTRL_STATE ssArmed)).schd.startGt ≤
      (((locked tst).wr R.SCHD_CTRL_STATE ssArmed)).gt :=
  ⟨by decide, by decide, by decide, by decide⟩

theorem witness_ScheduleEventsComplete_3 :
    ((((locked tst).wr R.SCHD_CTRL_STATE ssRunning).wr R.SCHD_STOP_STOP_EN 1)).runs = true ∧ ((((locked tst).wr R.SCHD_CTRL_STATE
      ssRunning).wr R.SCHD_STOP_STOP_EN 1)).schdState = ssRunning ∧ ((((locked tst).wr R.SCHD_CTRL_STATE ssRunning).wr R.SCHD_STOP_STOP_EN
      1)).on R.SCHD_STOP_STOP_EN = true ∧ ((((locked tst).wr R.SCHD_CTRL_STATE ssRunning).wr R.SCHD_STOP_STOP_EN 1)).geysState ≠ gsInvalid
      ∧ ((((locked tst).wr R.SCHD_CTRL_STATE ssRunning).wr R.SCHD_STOP_STOP_EN 1)).slotStart (((((locked tst).wr R.SCHD_CTRL_STATE
      ssRunning).wr R.SCHD_STOP_STOP_EN 1)).rd R.SCHD_STOP_STOP_ITER) 0 ≤ ((((locked tst).wr R.SCHD_CTRL_STATE ssRunning).wr
      R.SCHD_STOP_STOP_EN 1)).gt :=
  ⟨by decide, by decide, by decide, by decide, by decide⟩

theorem witness_ScheduleEventsComplete_4 :
    ({ imaged with schd := { imaged.schd with switch := some (1, 0) } }).runs = true ∧ ({ imaged with schd := { imaged.schd with switch := some (1, 0) } }).schd.switch
      = some ((1 : Nat), (0 : Nat)) ∧ ({ imaged with schd := { imaged.schd with switch := some (1, 0) } }).schdState = ssRunning ∧ ({ imaged with schd := { imaged.schd with switch := some (1, 0) } }).geysState
      ≠ gsInvalid ∧ (0 : Nat) ≤ ({ imaged with schd := { imaged.schd with switch := some (1, 0) } }).gt :=
  ⟨by decide, by decide, by decide, by decide, by decide⟩

theorem witness_ScheduleEventsComplete_5 :
    tst.runs = true :=
  by decide

theorem witness_ScheduleEventsComplete_6 :
    tst.runs = true :=
  by decide

theorem witness_ScheduleEventsComplete_7 :
    (((locked tst).wr R.SCHD_CTRL_STATE ssRunning)).runs = true ∧ fget ((4 + 2 ^ 8) : Flit) 0 8 = 4 ∧ fget ((4 + 2 ^ 8) : Flit) 48 4 ≤ 2 ∧
      ((((locked tst).wr R.SCHD_CTRL_STATE ssRunning)).bcTake (95 : Port).val ((4 + 2 ^ 8) : Flit) : State).schdActive = true ∧ fget ((4 +
      2 ^ 8) : Flit) 16 32 = ((((locked tst).wr R.SCHD_CTRL_STATE ssRunning)).bcTake (95 : Port).val ((4 + 2 ^ 8) : Flit) : State).imgId
      ((((locked tst).wr R.SCHD_CTRL_STATE ssRunning)).bcTake (95 : Port).val ((4 + 2 ^ 8) : Flit) : State).runBuf ∧ 0 < fget ((4 + 2 ^ 8)
      : Flit) 8 8 :=
  ⟨by decide, by decide, by decide, by decide, by decide, by decide⟩

theorem witness_ScheduleEventsComplete_8 :
    tst.runs = true ∧ fget (4 : Flit) 0 8 = 4 ∧ fget (4 : Flit) 48 4 ≤ 2 ∧ (tst.bcTake (95 : Port).val (4 : Flit) : State).schdActive =
      false :=
  ⟨by decide, by decide, by decide, by decide⟩

theorem witness_ScheduleEventsComplete_9 :
    tst.runs = true ∧ ((true : Bool) = true ∨ tst.gt + 64 < tst.slotStart (0 : Nat) (0 : Nat) ∨ tst.geysState = gsInvalid) :=
  ⟨by decide, by decide⟩

theorem witness_ScheduleEventsComplete_10 :
    ((locked tst)).runs = true ∧ (false : Bool) = false ∧ ((locked tst)).geysState ≠ gsInvalid ∧ ((locked tst)).slotStart (0 : Nat) (0 :
      Nat) ≤ ((locked tst)).gt + 64 ∧ tget 0 ((locked tst)).schd.served (105 : Fin 106).val ≤ ((0 : Nat) * ((locked tst)).imgCycle
      ((locked tst)).runBuf + (0 : Nat) : Nat) ∧ (((locked tst)).schd.misses.any (fun m => m.1 = (105 : Fin 106).val && m.2 = ((0 : Nat) *
      ((locked tst)).imgCycle ((locked tst)).runBuf + (0 : Nat) : Nat)) = false) :=
  ⟨by decide, by decide, by decide, by decide, by decide, by decide⟩

theorem witness_ScheduleEventsComplete_11 :
    imaged.runs = true ∧ imaged.schdState = ssRunning ∧ imaged.geysState ≠ gsInvalid ∧ (imaged.slotTable imaged.runBuf (0 : Fin
      106).val).isSome = true ∧ (0 : Nat) < imaged.imgCycle imaged.runBuf ∧ imaged.slotStart (0 : Nat) (0 : Nat) ≤ imaged.gt ∧ tget 0
      imaged.schd.served (0 : Fin 106).val ≤ (0 : Nat) * imaged.imgCycle imaged.runBuf + (0 : Nat) :=
  ⟨by decide, by decide, by decide, by decide, by decide, by decide, by decide⟩

theorem witness_ScheduleEventsComplete_12 :
    vc7State.runs = true ∧ (vc7State.inVc (95 : Port).val 7).pkts = [(k7 : BufPkt)] ∧ (k7 : BufPkt).onSlots = true ∧ (k7 : BufPkt).route =
      none :=
  ⟨by decide, by decide, by decide, by decide⟩

theorem witness_ScheduleEventsComplete_13 :
    ({ vc7State with schd := { vc7State.schd with missIter := 1 } }).runs = true ∧ ({ vc7State with schd := { vc7State.schd with missIter := 1 } }).vc7Head
      (95 : Port).val = some ((0 : Nat), (k7 : BufPkt)) ∧ (k7 : BufPkt).route = none ∧ (k7 : BufPkt).arrival + ({ vc7State with schd := { vc7State.schd with missIter := 1 } }).hq
      ({ vc7State with schd := { vc7State.schd with missIter := 1 } }).runBuf ≤ ({ vc7State with schd := { vc7State.schd with missIter := 1 } }).gt
      ∧ (({ vc7State with schd := { vc7State.schd with missIter := 1 } }).demoteTransit (95 : Port).val (0 : Nat) C.SCHD_DEMOTE_ORPHAN :
      State).schd.missIter = (({ vc7State with schd := { vc7State.schd with missIter := 1 } }).demoteTransit (95 : Port).val (0 : Nat)
      C.SCHD_DEMOTE_ORPHAN : State).iterNow + 1 :=
  ⟨by decide, by decide, by decide, by decide, by decide⟩

theorem witness_ScheduleEventsComplete_14 :
    vc7State.runs = true ∧ vc7State.vc7Head (95 : Port).val = some ((0 : Nat), (k7 : BufPkt)) ∧ (k7 : BufPkt).route = none ∧ (k7 :
      BufPkt).arrival + vc7State.hq vc7State.runBuf ≤ vc7State.gt ∧ (vc7State.demoteTransit (95 : Port).val (0 : Nat) C.SCHD_DEMOTE_ORPHAN
      : State).schd.missIter ≠ (vc7State.demoteTransit (95 : Port).val (0 : Nat) C.SCHD_DEMOTE_ORPHAN : State).iterNow + 1 :=
  ⟨by decide, by decide, by decide, by decide, by decide⟩

theorem witness_ScheduleEventsComplete_15 :
    imaged.runs = true ∧ imaged.burstAt (0 : Nat) (0 : Nat) = some ({ entry := 0, iter := 0, level := 1, start := 0, stop := 512 } :
      Burst) ∧ (imaged.prewarmOn ({ entry := 0, iter := 0, level := 1, start := 0, stop := 512 } : Burst).buf = true ∨ imaged.lstepOn ({ entry := 0, iter := 0, level := 1, start := 0, stop := 512 }
      : Burst).buf = true) ∧ imaged.geysState ≠ gsInvalid ∧ ({ entry := 0, iter := 0, level := 1, start := 0, stop := 512 } : Burst).start
      ≤ imaged.gt + max (imaged.lstepLead ({ entry := 0, iter := 0, level := 1, start := 0, stop := 512 } : Burst).buf) 32000 ∧ imaged.gt
      < ({ entry := 0, iter := 0, level := 1, start := 0, stop := 512 } : Burst).stop ∧ imaged.burstDecided ({ entry := 0, iter := 0, level := 1, start := 0, stop := 512 }
      : Burst) = none ∧ imaged.schdActive = true ∧ imaged.launchOk = true ∧ imaged.on R.PIN_THERM_THROTTLE = false :=
  ⟨by decide, by decide, by decide, by decide, by decide, by decide, by decide, by decide, by decide, by decide⟩

theorem witness_ScheduleEventsComplete_16 :
    ((imaged.wr R.PIN_THERM_THROTTLE 1)).runs = true ∧ ((imaged.wr R.PIN_THERM_THROTTLE 1)).burstAt (0 : Nat) (0 : Nat) = some ({ entry := 0, iter := 0, level := 1, start := 0, stop := 512 }
      : Burst) ∧ (((imaged.wr R.PIN_THERM_THROTTLE 1)).prewarmOn ({ entry := 0, iter := 0, level := 1, start := 0, stop := 512 } :
      Burst).buf = true ∨ ((imaged.wr R.PIN_THERM_THROTTLE 1)).lstepOn ({ entry := 0, iter := 0, level := 1, start := 0, stop := 512 } :
      Burst).buf = true) ∧ ((imaged.wr R.PIN_THERM_THROTTLE 1)).geysState ≠ gsInvalid ∧ ({ entry := 0, iter := 0, level := 1, start := 0, stop := 512 }
      : Burst).start ≤ ((imaged.wr R.PIN_THERM_THROTTLE 1)).gt + max (((imaged.wr R.PIN_THERM_THROTTLE 1)).lstepLead ({ entry := 0, iter := 0, level := 1, start := 0, stop := 512 }
      : Burst).buf) 32000 ∧ ((imaged.wr R.PIN_THERM_THROTTLE 1)).gt < ({ entry := 0, iter := 0, level := 1, start := 0, stop := 512 } :
      Burst).stop ∧ ((imaged.wr R.PIN_THERM_THROTTLE 1)).burstDecided ({ entry := 0, iter := 0, level := 1, start := 0, stop := 512 } :
      Burst) = none ∧ (((imaged.wr R.PIN_THERM_THROTTLE 1)).schdActive && ((imaged.wr R.PIN_THERM_THROTTLE 1)).launchOk && !((imaged.wr
      R.PIN_THERM_THROTTLE 1)).on R.PIN_THERM_THROTTLE) = false :=
  ⟨by decide, by decide, by decide, by decide, by decide, by decide, by decide, by decide⟩

theorem witness_ScheduleEventsComplete_17 :
    ramping.runs = true ∧ ramping.burstLevel ≠ 0 ∧ (ramping.geysState ≠ gsInvalid ∨ ramping.schd.ramp ≠ 0) :=
  ⟨by decide, by decide, by decide⟩

theorem witness_ScheduleEventsComplete_18 :
    ({ tst with schd := { tst.schd with ramp := 16 } }).runs = true ∧ ({ tst with schd := { tst.schd with ramp := 16 } }).burstsHolding =
      [] ∧ 2 ≤ ({ tst with schd := { tst.schd with ramp := 16 } }).schd.ramp :=
  ⟨by decide, by decide, by decide⟩

theorem witness_ScheduleEventsComplete_19 :
    ramping.runs = true ∧ ramping.geysState ≠ gsInvalid ∧ ramping.schd.bursts.any ramping.burstLstep = true :=
  ⟨by decide, by decide, by decide⟩

theorem witness_ScheduleEventsComplete_20 :
    tst.runs = true ∧ tst.burstsHolding = [] ∧ tst.schd.ramp = 0 ∧ tst.schd.bursts.any tst.burstLstep = false :=
  ⟨by decide, by decide, by decide, by decide⟩

theorem witness_ScheduleEventsComplete_21 :
    launching.engines = true ∧ launching.nextLaunch (0 : Fin 24).val = some ((false : Bool), (0 : Nat), ({ slot := 0, port := 0, eport := 0, qidx := 5, pkt := 0, ringIdx := 0, stride := 1 }
      : Launch), (0 : Nat)) ∧ launching.launchReady (false : Bool) ({ slot := 0, port := 0, eport := 0, qidx := 5, pkt := 0, ringIdx := 0, stride := 1 }
      : Launch) (0 : Nat) = true ∧ launching.qpServed ({ slot := 0, port := 0, eport := 0, qidx := 5, pkt := 0, ringIdx := 0, stride := 1 }
      : Launch).qidx = true ∧ (launching.qp ({ slot := 0, port := 0, eport := 0, qidx := 5, pkt := 0, ringIdx := 0, stride := 1 } :
      Launch).qidx).reading ((({ slot := 0, port := 0, eport := 0, qidx := 5, pkt := 0, ringIdx := 0, stride := 1 } : Launch).ringIdx + ({ slot := 0, port := 0, eport := 0, qidx := 5, pkt := 0, ringIdx := 0, stride := 1 }
      : Launch).stride * (0 : Nat)) % 2 ^ 32 : Nat) = false ∧ launching.skipOf ({ slot := 0, port := 0, eport := 0, qidx := 5, pkt := 0, ringIdx := 0, stride := 1 }
      : Launch).qidx ((({ slot := 0, port := 0, eport := 0, qidx := 5, pkt := 0, ringIdx := 0, stride := 1 } : Launch).ringIdx + ({ slot := 0, port := 0, eport := 0, qidx := 5, pkt := 0, ringIdx := 0, stride := 1 }
      : Launch).stride * (0 : Nat)) % 2 ^ 32 : Nat) = none ∧ ((launching.qp ({ slot := 0, port := 0, eport := 0, qidx := 5, pkt := 0, ringIdx := 0, stride := 1 }
      : Launch).qidx).sq.find? (fun z => z.x = ((({ slot := 0, port := 0, eport := 0, qidx := 5, pkt := 0, ringIdx := 0, stride := 1 } :
      Launch).ringIdx + ({ slot := 0, port := 0, eport := 0, qidx := 5, pkt := 0, ringIdx := 0, stride := 1 } : Launch).stride * (0 :
      Nat)) % 2 ^ 32 : Nat)) = some ({ x := 0, desc := 0 } : SqDesc)) ∧ ({ x := 0, desc := 0 } : SqDesc).isDone = false ∧
      (launching.qpQuiet ({ slot := 0, port := 0, eport := 0, qidx := 5, pkt := 0, ringIdx := 0, stride := 1 } : Launch).qidx = false ∨
      (launching.sqOp ({ slot := 0, port := 0, eport := 0, qidx := 5, pkt := 0, ringIdx := 0, stride := 1 } : Launch).qidx ((({ slot := 0, port := 0, eport := 0, qidx := 5, pkt := 0, ringIdx := 0, stride := 1 }
      : Launch).ringIdx + ({ slot := 0, port := 0, eport := 0, qidx := 5, pkt := 0, ringIdx := 0, stride := 1 } : Launch).stride * (0 :
      Nat)) % 2 ^ 32 : Nat)).isSome = true) :=
  ⟨by decide, by decide, by decide, by decide, by decide, by decide, by decide, by decide, by decide⟩

theorem witness_ScheduleEventsComplete_22 :
    ({ described with schd := { described.schd with skipped := [{ qp := 5, idx := 0, status := csOk }] } }).engines = true ∧ ({ described with schd := { described.schd with skipped := [{ qp := 5, idx := 0, status := csOk }] } }).schd.skipped.find?
      ({ described with schd := { described.schd with skipped := [{ qp := 5, idx := 0, status := csOk }] } }).skipReady = some ({ qp := 5, idx := 0, status := csOk }
      : SkippedDesc) ∧ (({ described with schd := { described.schd with skipped := [{ qp := 5, idx := 0, status := csOk }] } }).qp ({ qp := 5, idx := 0, status := csOk }
      : SkippedDesc).qp).valid = true ∧ ((({ described with schd := { described.schd with skipped := [{ qp := 5, idx := 0, status := csOk }] } }).qp
      ({ qp := 5, idx := 0, status := csOk } : SkippedDesc).qp).sq.any (fun z => z.x = ({ qp := 5, idx := 0, status := csOk } :
      SkippedDesc).idx) = true) :=
  ⟨by decide, by decide, by decide, by decide⟩

/-! ### FunctionEventsComplete -/

theorem witness_FunctionEventsComplete_1 :
    ((portUp95.wr R.PWR_MODE_AUTO_QUIET 1)).runs = true ∧ ((portUp95.wr R.PWR_MODE_AUTO_QUIET 1)).on R.PWR_MODE_AUTO_QUIET = true ∧
      (((portUp95.wr R.PWR_MODE_AUTO_QUIET 1)).powerState = psRun ∨ ((portUp95.wr R.PWR_MODE_AUTO_QUIET 1)).powerState = psMoss) ∧
      ((portUp95.wr R.PWR_MODE_AUTO_QUIET 1)).pst (95 : Port).val = tUp ∧ (((portUp95.wr R.PWR_MODE_AUTO_QUIET 1)).port (95 :
      Port).val).txQuiet = false ∧ (((portUp95.wr R.PWR_MODE_AUTO_QUIET 1)).schdActive && (((portUp95.wr R.PWR_MODE_AUTO_QUIET
      1)).slotTable ((portUp95.wr R.PWR_MODE_AUTO_QUIET 1)).runBuf (95 : Port).val).isSome) = false :=
  ⟨by decide, by decide, by decide, by decide, by decide, by decide⟩

theorem witness_FunctionEventsComplete_2 :
    tst.runs = true ∧ tst.fnState (ringKey (3 : HPort) (63 : Func)) ≠ fsWedged :=
  ⟨by decide, by decide⟩

theorem witness_FunctionEventsComplete_3 :
    tst.runs = true :=
  by decide

theorem witness_FunctionEventsComplete_4 :
    tst.runs = true :=
  by decide

theorem witness_FunctionEventsComplete_5 :
    tst.runs = true :=
  by decide

theorem witness_FunctionEventsComplete_6 :
    ((tst.wr R.FUNC_STATUS_STATE fsQuiescing 255)).runs = true ∧ ((tst.wr R.FUNC_STATUS_STATE fsQuiescing 255)).fnState (ringKey (3 :
      HPort) (63 : Func)) = fsQuiescing ∧ ((tst.wr R.FUNC_STATUS_STATE fsQuiescing 255)).fnBusy (ringKey (3 : HPort) (63 : Func)) = false
      :=
  ⟨by decide, by decide, by decide⟩

theorem witness_FunctionEventsComplete_7 :
    ((tst.wr R.FUNC_STATUS_STATE fsQuiescing 255)).runs = true ∧ ((tst.wr R.FUNC_STATUS_STATE fsQuiescing 255)).fnState (ringKey (3 :
      HPort) (63 : Func)) = fsQuiescing :=
  ⟨by decide, by decide⟩

theorem witness_FunctionEventsComplete_8 :
    tst.runs = true :=
  by decide

theorem witness_FunctionEventsComplete_9 :
    tst.runs = true ∧ tget false tst.aon.perst (3 : HPort).val = false :=
  ⟨by decide, by decide⟩

theorem witness_FunctionEventsComplete_10 :
    tst.runs = true :=
  by decide

/-! ### QueueEventsComplete -/

theorem witness_QueueEventsComplete_1 :
    hosted.runs = true ∧ hosted.fnState (ringKey (0 : HPort) (0 : Func)) = fsEnabled ∧ hosted.serves (keyPort (ringKey (0 : HPort) (0 :
      Func))) = true ∧ hosted.qpAt (ringKey (0 : HPort) (0 : Func)) (0 : Fin 7168).val = some (5 : Nat) :=
  ⟨by decide, by decide, by decide, by decide⟩

theorem witness_QueueEventsComplete_2 :
    tst.runs = true ∧ tst.fnState (ringKey (3 : HPort) (63 : Func)) ≠ fsWedged ∧ (tst.fnState (ringKey (3 : HPort) (63 : Func)) ≠
      fsEnabled ∨ tst.serves (keyPort (ringKey (3 : HPort) (63 : Func))) = false ∨ tst.qpAt (ringKey (3 : HPort) (63 : Func)) (7167 : Fin
      7168).val = none) :=
  ⟨by decide, by decide, by decide⟩

theorem witness_QueueEventsComplete_3 :
    hosted.runs = true ∧ hosted.fnState (ringKey (0 : HPort) (0 : Func)) = fsEnabled ∧ hosted.serves (keyPort (ringKey (0 : HPort) (0 :
      Func))) = true ∧ hosted.qpAt (ringKey (0 : HPort) (0 : Func)) (0 : Fin 7168).val = some (5 : Nat) :=
  ⟨by decide, by decide, by decide, by decide⟩

theorem witness_QueueEventsComplete_4 :
    hosted.runs = true ∧ hosted.fnState (ringKey (0 : HPort) (0 : Func)) = fsEnabled ∧ hosted.serves (keyPort (ringKey (0 : HPort) (0 :
      Func))) = true ∧ hosted.qpAt (ringKey (0 : HPort) (0 : Func)) (0 : Fin 7168).val = some (5 : Nat) :=
  ⟨by decide, by decide, by decide, by decide⟩

theorem witness_QueueEventsComplete_5 :
    hosted.runs = true ∧ hosted.fnState (ringKey (0 : HPort) (0 : Func)) = fsEnabled ∧ hosted.serves (keyPort (ringKey (0 : HPort) (0 :
      Func))) = true ∧ hosted.qpAt (ringKey (0 : HPort) (0 : Func)) (0 : Fin 7168).val = some (5 : Nat) :=
  ⟨by decide, by decide, by decide, by decide⟩

theorem witness_QueueEventsComplete_6 :
    hosted.runs = true ∧ hosted.fnState (ringKey (0 : HPort) (0 : Func)) = fsEnabled ∧ hosted.serves (keyPort (ringKey (0 : HPort) (0 :
      Func))) = true ∧ (hosted.eqAt (ringKey (0 : HPort) (0 : Func)) (2 : Fin 2048).val).valid = true :=
  ⟨by decide, by decide, by decide, by decide⟩

theorem witness_QueueEventsComplete_7 :
    hosted.runs = true ∧ hosted.fnState (ringKey (0 : HPort) (0 : Func)) = fsEnabled ∧ hosted.serves (keyPort (ringKey (0 : HPort) (0 :
      Func))) = true ∧ (hosted.eqAt (ringKey (0 : HPort) (0 : Func)) (2 : Fin 2048).val).valid = true :=
  ⟨by decide, by decide, by decide, by decide⟩

theorem witness_QueueEventsComplete_8 :
    polling.engines = true ∧ polling.nextPoll (0 : HPort).val = some (5 : Nat) :=
  ⟨by decide, by decide⟩

theorem witness_QueueEventsComplete_9 :
    snooping.runs = true ∧ (snooping.qp (5 : QIdx).val).valid = true ∧ (snooping.qp (5 : QIdx).val).snooped = true ∧ (snooping.qp (5 :
      QIdx).val).snoopDue = false :=
  ⟨by decide, by decide, by decide, by decide⟩

theorem witness_QueueEventsComplete_10 :
    fetching.engines = true ∧ ((if (false : Bool) then fetchRun (fetching.qp (5 : QIdx).val).rqObs (fetching.qp (5 : QIdx).val).rqFetch
      (fetching.qp (5 : QIdx).val).rqSize else min (fetching.qp (5 : QIdx).val).sqRun (fetching.qp (5 : QIdx).val).fetchRoom : Nat) ≠ 0) ∧
      fetching.fetchReady (5 : QIdx).val (false : Bool) = true ∧ (fetching.npRoom (fetching.qp (5 : QIdx).val).p.hport (64 * ((if (false :
      Bool) then (fetching.qp (5 : QIdx).val).rqFetch else (fetching.qp (5 : QIdx).val).sqFetch) % 64)) (64 * (if (false : Bool) then
      fetchRun (fetching.qp (5 : QIdx).val).rqObs (fetching.qp (5 : QIdx).val).rqFetch (fetching.qp (5 : QIdx).val).rqSize else min
      (fetching.qp (5 : QIdx).val).sqRun (fetching.qp (5 : QIdx).val).fetchRoom : Nat)) = true) ∧ ((fetching.translate (fetching.qp (5 :
      QIdx).val).p.ctx (if (false : Bool) then (fetching.qp (5 : QIdx).val).p.rqBase + 64 * ((fetching.qp (5 : QIdx).val).rqFetch %
      (fetching.qp (5 : QIdx).val).rqSize) else (fetching.qp (5 : QIdx).val).p.sqBase + 64 * ((fetching.qp (5 : QIdx).val).sqFetch %
      (fetching.qp (5 : QIdx).val).sqSize) : Nat) .fetch none (if (false : Bool) then .rqFetch (5 : QIdx).val else .sqFetch (5 : QIdx).val
      : Access)).1 = .hit (0x7000 : Nat) (false : Bool)) :=
  ⟨by decide, by decide, by decide, by decide, by decide⟩

theorem witness_QueueEventsComplete_11 :
    arriving.engines = true ∧ ((if (true : Bool) then (arriving.qp (5 : QIdx).val).rqIn else (arriving.qp (5 : QIdx).val).sqIn : List
      Fetch).head? = some ({ x := 0, dma := 0 } : Fetch)) ∧ ((some (List.replicate 64 0)) : HostRead) = some ((List.replicate 64 0) : List
      Byte) ∧ (((List.replicate 64 0) : List Byte).length = 64 * ((if (true : Bool) then (arriving.qp (5 : QIdx).val).rqIn else
      (arriving.qp (5 : QIdx).val).sqIn : List Fetch).takeWhile fun g => g.dma = ({ x := 0, dma := 0 } : Fetch).dma : List Fetch).length)
      ∧ arriving.fnState (arriving.qp (5 : QIdx).val).func = fsEnabled :=
  ⟨by decide, by decide, by decide, by decide, by decide⟩

theorem witness_QueueEventsComplete_12 :
    hosted.engines = true ∧ hosted.fnState (hosted.qp (5 : QIdx).val).func = fsEnabled :=
  ⟨by decide, by decide⟩

/-! ### TranslationEventsComplete -/

theorem witness_TranslationEventsComplete_1 :
    ((walking walk0)).engines = true ∧ ((walking walk0)).walk (3 : Fin 4).val = some (walk0 : Walk) ∧ (walk0 : Walk).who.isEmpty = false ∧
      (walk0 : Walk).stale = false ∧ (walk0 : Walk).stage = .reading :=
  ⟨by decide, by decide, by decide, by decide, by decide⟩

theorem witness_TranslationEventsComplete_2 :
    ((walking { walk0 with stage := .swapping 0 })).engines = true ∧ ((walking { walk0 with stage := .swapping 0 })).walk (3 : Fin 4).val
      = some ({ walk0 with stage := .swapping 0 } : Walk) ∧ ({ walk0 with stage := .swapping 0 } : Walk).who.isEmpty = false ∧ ({ walk0 with stage := .swapping 0 }
      : Walk).stale = false ∧ ({ walk0 with stage := .swapping 0 } : Walk).stage = .swapping (0 : Nat) :=
  ⟨by decide, by decide, by decide, by decide, by decide⟩

theorem witness_TranslationEventsComplete_3 :
    ({ tst with xlt := { tst.xlt with invals := [⟨.all, 0, 0, 0, .expert, 0, []⟩] } }).engines = true ∧ ({ tst with xlt := { tst.xlt with invals := [⟨.all, 0, 0, 0, .expert, 0, []⟩] } }).xlt.invals
      = (⟨.all, 0, 0, 0, .expert, 0, []⟩ : Inval) :: ([] : List Inval) ∧ ({ tst with xlt := { tst.xlt with invals := [⟨.all, 0, 0, 0, .expert, 0, []⟩] } }).invalDone
      (⟨.all, 0, 0, 0, .expert, 0, []⟩ : Inval) = true :=
  ⟨by decide, by decide, by decide⟩

theorem witness_TranslationEventsComplete_4 :
    parked.runs = true ∧ parked.powerState ≠ psMoss ∧ parked.powerState ≠ psExit ∧ (parked.park (1023 : Fin 1024).val).used = true ∧
      parked.parkResuming (1023 : Fin 1024).val = false :=
  ⟨by decide, by decide, by decide, by decide, by decide⟩

theorem witness_TranslationEventsComplete_5 :
    ((parked.wr R.PWR_STATUS_STATE 1)).runs = true ∧ ((parked.wr R.PWR_STATUS_STATE 1)).powerState = psMoss ∧ (((parked.wr
      R.PWR_STATUS_STATE 1)).park (1023 : Fin 1024).val).used = true :=
  ⟨by decide, by decide, by decide⟩

theorem witness_TranslationEventsComplete_6 :
    tst.runs = true ∧ (true : Bool) = true ∧ tst.on R.XLT_INV_STAT_BUSY = false :=
  ⟨by decide, by decide, by decide⟩

/-! ### TransportEventsComplete -/

theorem witness_TransportEventsComplete_1 :
    tst.engines = true :=
  by decide

theorem witness_TransportEventsComplete_2 :
    tst.runs = true :=
  by decide

theorem witness_TransportEventsComplete_3 :
    ((talking txOpen)).engines = true ∧ ((talking txOpen)).op (0 : Nat) = some (op0 : XOp) ∧ (op0 : XOp).unformed = true ∧ (op0 :
      XOp).winWait = false ∧ ((talking txOpen)).canForm = true ∧ ((talking txOpen)).formsHere (op0 : XOp) = true ∧ ((talking txOpen)).on
      R.ROUT_CTRL_ADOPTED = true ∧ (((talking txOpen)).parkedBy (fun p => p.who = .payload (0 : Nat)) = false) ∧ ((((talking
      txOpen)).touchTc (op0 : XOp).tc : State).tc (op0 : XOp).tc).txState = txOpen ∧ (((talking txOpen)).touchTc (op0 : XOp).tc :
      State).mayAssign (op0 : XOp).tc = true ∧ (((talking txOpen)).touchTc (op0 : XOp).tc : State).sendBehind (0 : Nat) (op0 : XOp) =
      false ∧ (((talking txOpen)).touchTc (op0 : XOp).tc : State).fabricMode ≠ fmScheduled ∧ (((talking txOpen)).touchTc (op0 : XOp).tc :
      State).paceReady (portOf (op0 : XOp).q) (tcPid (op0 : XOp).tc) = true :=
  ⟨by decide, by decide, by decide, by decide, by decide, by decide, by decide, by decide, by decide, by decide, by decide, by decide, by
    decide⟩

theorem witness_TransportEventsComplete_4 :
    ((talking txNew)).engines = true ∧ ((talking txNew)).op (0 : Nat) = some (op0 : XOp) ∧ (op0 : XOp).unformed = true ∧ (op0 :
      XOp).winWait = false ∧ ((talking txNew)).canForm = true ∧ ((talking txNew)).formsHere (op0 : XOp) = true ∧ ((talking txNew)).on
      R.ROUT_CTRL_ADOPTED = true ∧ (((talking txNew)).parkedBy (fun p => p.who = .payload (0 : Nat)) = false) ∧ (((((talking
      txNew)).touchTc (op0 : XOp).tc : State).tc (op0 : XOp).tc).txState = txNew ∨ ((((talking txNew)).touchTc (op0 : XOp).tc : State).tc
      (op0 : XOp).tc).txState = txHandshake) ∧ ((((talking txNew)).touchTc (op0 : XOp).tc : State).tc (op0 : XOp).tc).helloOut = false ∧
      (((talking txNew)).touchTc (op0 : XOp).tc : State).paceReady (tcPort (op0 : XOp).tc) (tcPid (op0 : XOp).tc) = true :=
  ⟨by decide, by decide, by decide, by decide, by decide, by decide, by decide, by decide, by decide, by decide, by decide⟩

theorem witness_TransportEventsComplete_5 :
    ((answered ptAck)).engines = true ∧ ((answered ptAck)).takeAnswer ptAck = some (((answer ptAck) : RxPkt), (tst : State)) :=
  ⟨by decide +kernel, by decide +kernel⟩

theorem witness_TransportEventsComplete_6 :
    ((answered ptNack)).engines = true ∧ ((answered ptNack)).takeAnswer ptNack = some (((answer ptNack) : RxPkt), (tst : State)) :=
  ⟨by decide +kernel, by decide +kernel⟩

theorem witness_TransportEventsComplete_7 :
    ((locked tst)).engines = true ∧ ((locked tst)).canForm = true :=
  ⟨by decide, by decide⟩

theorem witness_TransportEventsComplete_8 :
    ((tst.setTc 1 { helloOut := true })).engines = true ∧ ((((tst.setTc 1 { helloOut := true })).tc (tcOf (false : Bool) (1 :
      Pid))).awaits.any Await.awaited = true ∨ (((tst.setTc 1 { helloOut := true })).tc (tcOf (false : Bool) (1 : Pid))).helloOut = true)
      :=
  ⟨by decide, by decide⟩

theorem witness_TransportEventsComplete_9 :
    ({ tst with tpt := { tst.tpt with hellos := [⟨[], 9, 1⟩] } }).engines = true ∧ ({ tst with tpt := { tst.tpt with hellos := [⟨[], 9, 1⟩] } }).tpt.hellos
      = (⟨[], 9, 1⟩ : RxPkt) :: ([] : List RxPkt) :=
  ⟨by decide, by decide⟩

theorem witness_TransportEventsComplete_10 :
    ({ tst with tpt := { tst.tpt with helloResps := [⟨[], 9, 1⟩] } }).engines = true ∧ ({ tst with tpt := { tst.tpt with helloResps := [⟨[], 9, 1⟩] } }).tpt.helloResps
      = (⟨[], 9, 1⟩ : RxPkt) :: ([] : List RxPkt) :=
  ⟨by decide, by decide⟩

theorem witness_TransportEventsComplete_11 :
    ({ hosted with tpt := { hosted.tpt with reads := [⟨4, 0, 0, 9, 1, 3, 1, 0, false⟩] } }).engines = true ∧ (({ hosted with tpt := { hosted.tpt with reads := [⟨4, 0, 0, 9, 1, 3, 1, 0, false⟩] } }).tpt.reads.find?
      (fun y => y.id = (4 : Nat)) = some (⟨4, 0, 0, 9, 1, 3, 1, 0, false⟩ : ServedRead)) :=
  ⟨by decide, by decide⟩

theorem witness_TransportEventsComplete_12 :
    ({ tst with tpt := { tst.tpt with readResps := [⟨[], 9, 1⟩] } }).engines = true ∧ ({ tst with tpt := { tst.tpt with readResps := [⟨[], 9, 1⟩] } }).tpt.readResps
      = (⟨[], 9, 1⟩ : RxPkt) :: ([] : List RxPkt) :=
  ⟨by decide, by decide⟩

theorem witness_TransportEventsComplete_13 :
    tst.runs = true :=
  by decide

/-! ### WindowEventsComplete -/

theorem witness_WindowEventsComplete_1 :
    ((windowed wsRevoking)).engines = true ∧ (((windowed wsRevoking)).window (3 : Fin 16777216).val).state = wsRevoking ∧ ((windowed
      wsRevoking)).admittedTo (3 : Fin 16777216).val = 0 ∧ ((((windowed wsRevoking)).pair.waits.any fun x => x.2 = .revokeDone (3 : Fin
      16777216).val) = false) :=
  ⟨by decide, by decide, by decide, by decide⟩

theorem witness_WindowEventsComplete_2 :
    (((windowed wsRevoking).setAdmitted 3 1)).engines = true ∧ ((((windowed wsRevoking).setAdmitted 3 1)).window (3 : Fin
      16777216).val).state = wsRevoking ∧ (((windowed wsRevoking).setAdmitted 3 1)).admittedTo (3 : Fin 16777216).val ≠ 0 ∧ (((windowed
      wsRevoking).setAdmitted 3 1)).win.slow.contains (3 : Fin 16777216).val = false :=
  ⟨by decide, by decide, by decide, by decide⟩

theorem witness_WindowEventsComplete_3 :
    ((locked (windowed wsCooling))).engines = true ∧ (((locked (windowed wsCooling))).window (3 : Fin 16777216).val).state = wsCooling ∧
      (((locked (windowed wsCooling))).window (3 : Fin 16777216).val).freeGt ≤ ((locked (windowed wsCooling))).gt ∧ ((locked (windowed
      wsCooling))).geysState ≠ gsInvalid :=
  ⟨by decide, by decide, by decide, by decide⟩

theorem witness_WindowEventsComplete_4 :
    (((hosted.wr R.WIN_OPEN_A_ENTRY0 (16 + 2 ^ 24)).wr R.WIN_OPEN_LEN_LENGTH 4096)).engines = true ∧ (true : Bool) = true ∧ ((((hosted.wr
      R.WIN_OPEN_A_ENTRY0 (16 + 2 ^ 24)).wr R.WIN_OPEN_LEN_LENGTH 4096)).ctx (((hosted.wr R.WIN_OPEN_A_ENTRY0 (16 + 2 ^ 24)).wr
      R.WIN_OPEN_LEN_LENGTH 4096)).expertEntry.ctx).valid = true ∧ (((hosted.wr R.WIN_OPEN_A_ENTRY0 (16 + 2 ^ 24)).wr
      R.WIN_OPEN_LEN_LENGTH 4096)).windowRanges (((hosted.wr R.WIN_OPEN_A_ENTRY0 (16 + 2 ^ 24)).wr R.WIN_OPEN_LEN_LENGTH
      4096)).expertEntry = true ∧ (((hosted.wr R.WIN_OPEN_A_ENTRY0 (16 + 2 ^ 24)).wr R.WIN_OPEN_LEN_LENGTH 4096)).freeWindow = some (4 :
      Nat) :=
  ⟨by decide, by decide, by decide, by decide, by decide⟩

theorem witness_WindowEventsComplete_5 :
    tst.engines = true ∧ (true : Bool) = true ∧ (((tst.ctx tst.expertEntry.ctx).valid && tst.windowRanges tst.expertEntry) = false ∨
      tst.freeWindow = none) :=
  ⟨by decide, by decide, by decide⟩

theorem witness_WindowEventsComplete_6 :
    tst.engines = true ∧ tst.on R.WIN_REV_STAT_BUSY = false :=
  ⟨by decide, by decide⟩

theorem witness_WindowEventsComplete_7 :
    described.engines = true ∧ described.startOf (5 : QIdx).val (false : Bool) 0x00 = some (((.sq 5 0) : Owner), (0 : Nat)) :=
  ⟨by decide, by decide⟩

theorem witness_WindowEventsComplete_8 :
    ((descr 1)).engines = true ∧ ((descr 1)).startOf (5 : QIdx).val (false : Bool) 0x01 = some (((.sq 5 0) : Owner), (1 : Nat)) :=
  ⟨by decide, by decide⟩

theorem witness_WindowEventsComplete_9 :
    ((firedDescr 2)).engines = true ∧ ((firedDescr 2)).startOf (5 : QIdx).val (true : Bool) 0x02 = some (((.fired 5 0 none) : Owner), (2 :
      Nat)) :=
  ⟨by decide, by decide⟩

theorem witness_WindowEventsComplete_10 :
    ((descr 3)).engines = true ∧ ((descr 3)).startOf (5 : QIdx).val false 0x03 = some (.sq (5 : QIdx).val (0 : Nat), (3 : Nat)) ∧ ((descr
      3)).pair.revoked.contains (field (3 : Nat) 128 32) = false :=
  ⟨by decide, by decide, by decide⟩

/-! ### MatchingEventsComplete -/

theorem witness_MatchingEventsComplete_1 :
    ((descr 0x10)).engines = true ∧ ((descr 0x10)).startOf (5 : QIdx).val (false : Bool) 0x10 = some (((.sq 5 0) : Owner), (0x10 : Nat))
      :=
  ⟨by decide, by decide⟩

theorem witness_MatchingEventsComplete_2 :
    ((hosted.setOp 0 (some { op0 with winWait := true }))).engines = true ∧ ((hosted.setOp 0 (some { op0 with winWait := true }))).op (0 :
      Nat) = some ({ op0 with winWait := true } : XOp) ∧ ({ op0 with winWait := true } : XOp).winWait = true ∧ ((hosted.setOp 0 (some { op0 with winWait := true }))).freeWindow.isSome
      = true :=
  ⟨by decide, by decide, by decide, by decide⟩

theorem witness_MatchingEventsComplete_3 :
    ((hosted.setQp 5 { hosted.qp 5 with rq := [(0, 0)] })).engines = true ∧ ((hosted.setQp 5 { hosted.qp 5 with rq := [(0, 0)] })).qpRuns
      (5 : QIdx).val = true ∧ (((hosted.setQp 5 { hosted.qp 5 with rq := [(0, 0)] })).qp (5 : QIdx).val).prqHeld = none ∧ (((hosted.setQp
      5 { hosted.qp 5 with rq := [(0, 0)] })).qp (5 : QIdx).val).rq = ((0 : Nat), (0 : Nat)) :: ([] : List (Nat × Nat)) :=
  ⟨by decide, by decide, by decide, by decide⟩

theorem witness_MatchingEventsComplete_4 :
    ({ tst with mat := { tst.mat with reorder := [⟨[], 9, 1, false⟩] } }).engines = true ∧ ({ tst with mat := { tst.mat with reorder := [⟨[], 9, 1, false⟩] } }).mat.reorder[(0
      : Nat)]? = some (⟨[], 9, 1, false⟩ : SendPkt) ∧ hSeq ((⟨[], 9, 1, false⟩ : SendPkt).pkt.headD 0) = (({ tst with mat := { tst.mat with reorder := [⟨[], 9, 1, false⟩] } }).tc
      (⟨[], 9, 1, false⟩ : SendPkt).tc).rxExpected :=
  ⟨by decide, by decide, by decide⟩

theorem witness_MatchingEventsComplete_5 :
    ({ tst with mat := { tst.mat with stage := [{ pkt := [], e := 9, tc := 1 }] } }).engines = true ∧ ({ tst with mat := { tst.mat with stage := [{ pkt := [], e := 9, tc := 1 }] } }).stagePick
      = some ({ pkt := [], e := 9, tc := 1 } : SendPkt) :=
  ⟨by decide, by decide⟩

theorem witness_MatchingEventsComplete_6 :
    ((hosted.setQp 5 { hosted.qp 5 with prqHeld := some { idx := 0, desc := 0, post := 0 } })).engines = true ∧ (((hosted.setQp 5 { hosted.qp 5 with prqHeld := some { idx := 0, desc := 0, post := 0 } })).qp
      (5 : QIdx).val).prqHeld = some ({ idx := 0, desc := 0, post := 0 } : Recv) ∧ ((hosted.setQp 5 { hosted.qp 5 with prqHeld := some { idx := 0, desc := 0, post := 0 } })).prqUsed
      < ((hosted.setQp 5 { hosted.qp 5 with prqHeld := some { idx := 0, desc := 0, post := 0 } })).prqSize :=
  ⟨by decide, by decide, by decide⟩

/-! ### TriggerEventsComplete -/

theorem witness_TriggerEventsComplete_1 :
    ((descr 0x20)).engines = true ∧ ((descr 0x20)).startOf (5 : QIdx).val (false : Bool) 0x20 = some (((.sq 5 0) : Owner), (0x20 : Nat))
      :=
  ⟨by decide, by decide⟩

theorem witness_TriggerEventsComplete_2 :
    ((descr 0x21)).engines = true ∧ ((descr 0x21)).startOf (5 : QIdx).val (false : Bool) 0x21 = some (((.sq 5 0) : Owner), (0x21 : Nat))
      :=
  ⟨by decide, by decide⟩

theorem witness_TriggerEventsComplete_3 :
    ((firedDescr 0x24)).engines = true ∧ ((firedDescr 0x24)).startOf (5 : QIdx).val (true : Bool) 0x24 = some (((.fired 5 0 none) :
      Owner), (0x24 : Nat)) :=
  ⟨by decide, by decide⟩

theorem witness_TriggerEventsComplete_4 :
    trigged.engines = true ∧ trigged.nextStart (5 : QIdx).val = some ({ x := 0, desc := 0x22, slots := 2 } : SqDesc) ∧ dOp ({ x := 0, desc := 0x22, slots := 2 }
      : SqDesc).desc = 0x22 ∧ ({ x := 0, desc := 0x22, slots := 2 } : SqDesc).slots = 2 :=
  ⟨by decide, by decide, by decide, by decide⟩

theorem witness_TriggerEventsComplete_5 :
    ((descr 0x23)).engines = true ∧ ((descr 0x23)).startOf (5 : QIdx).val false 0x23 = some (.sq (5 : QIdx).val (0 : Nat), (0x23 : Nat))
      :=
  ⟨by decide, by decide⟩

theorem witness_TriggerEventsComplete_6 :
    ({ counted with trg := { counted.trg with updates := [⟨1048575, 1, 0, false, .none⟩] } }).engines = true ∧ ({ counted with trg := { counted.trg with updates := [⟨1048575, 1, 0, false, .none⟩] } }).trg.updates
      = (⟨1048575, 1, 0, false, .none⟩ : CntUpdate) :: ([] : List CntUpdate) :=
  ⟨by decide, by decide⟩

theorem witness_TriggerEventsComplete_7 :
    tst.runs = true ∧ tst.powerState ≠ psMoss ∧ tst.powerState ≠ psExit :=
  ⟨by decide, by decide, by decide⟩

theorem witness_TriggerEventsComplete_8 :
    ({ ((locked tst).wr R.PWR_STATUS_STATE psMoss).wr R.PWR_WAKE_EN_SOURCES 128 with trg := { tst.trg with armed := [{ q := 5, x := 0, target := none, mode := .time, cnt := 0, thresh := 0, tgt := 0, dcnt := none, comparator := true }] } }).runs
      = true ∧ ({ ((locked tst).wr R.PWR_STATUS_STATE psMoss).wr R.PWR_WAKE_EN_SOURCES 128 with trg := { tst.trg with armed := [{ q := 5, x := 0, target := none, mode := .time, cnt := 0, thresh := 0, tgt := 0, dcnt := none, comparator := true }] } }).powerState
      = psMoss ∧ ((({ ((locked tst).wr R.PWR_STATUS_STATE psMoss).wr R.PWR_WAKE_EN_SOURCES 128 with trg := { tst.trg with armed := [{ q := 5, x := 0, target := none, mode := .time, cnt := 0, thresh := 0, tgt := 0, dcnt := none, comparator := true }] } }).trg.armed.any
      fun a => a.mode ≠ TrigMode.counter && a.timeMet.isNone && ({ ((locked tst).wr R.PWR_STATUS_STATE psMoss).wr R.PWR_WAKE_EN_SOURCES 128 with trg := { tst.trg with armed := [{ q := 5, x := 0, target := none, mode := .time, cnt := 0, thresh := 0, tgt := 0, dcnt := none, comparator := true }] } }).timeDue
      a) = true) ∧ ({ ((locked tst).wr R.PWR_STATUS_STATE psMoss).wr R.PWR_WAKE_EN_SOURCES 128 with trg := { tst.trg with armed := [{ q := 5, x := 0, target := none, mode := .time, cnt := 0, thresh := 0, tgt := 0, dcnt := none, comparator := true }] } }).wakes
      wkGtAction = true ∧ ({ ((locked tst).wr R.PWR_STATUS_STATE psMoss).wr R.PWR_WAKE_EN_SOURCES 128 with trg := { tst.trg with armed := [{ q := 5, x := 0, target := none, mode := .time, cnt := 0, thresh := 0, tgt := 0, dcnt := none, comparator := true }] } }).pwr.held
      = false ∧ (({ ((locked tst).wr R.PWR_STATUS_STATE psMoss).wr R.PWR_WAKE_EN_SOURCES 128 with trg := { tst.trg with armed := [{ q := 5, x := 0, target := none, mode := .time, cnt := 0, thresh := 0, tgt := 0, dcnt := none, comparator := true }] } }).wakeLatch
      wkGtAction 0 : State).powerState = psRun :=
  ⟨by decide, by decide, by decide, by decide, by decide, by decide⟩

theorem witness_TriggerEventsComplete_9 :
    tst.engines = true :=
  by decide

theorem witness_TriggerEventsComplete_10 :
    ({ counted with trg := { counted.trg with ends := [⟨some 1048575, 5⟩] } }).engines = true ∧ ({ counted with trg := { counted.trg with ends := [⟨some 1048575, 5⟩] } }).trg.ends
      = (⟨some 1048575, 5⟩ : FiredEnd) :: ([] : List FiredEnd) :=
  ⟨by decide, by decide⟩

theorem witness_TriggerEventsComplete_11 :
    ((trigged.setQp 5 { trigged.qp 5 with trgHeld := true })).engines = true ∧ (((trigged.setQp 5 { trigged.qp 5 with trgHeld := true })).qp
      (5 : QIdx).val).trgHeld = true ∧ ((trigged.setQp 5 { trigged.qp 5 with trgHeld := true })).pendUsed < ((trigged.setQp 5 { trigged.qp 5 with trgHeld := true })).pendSize
      ∧ ((((trigged.setQp 5 { trigged.qp 5 with trgHeld := true })).modQp (5 : QIdx).val fun y => { y with trgHeld := false }).nextStart
      (5 : QIdx).val = some ({ x := 0, desc := 0x22, slots := 2 } : SqDesc)) ∧ dOp ({ x := 0, desc := 0x22, slots := 2 } : SqDesc).desc =
      0x22 ∧ ({ x := 0, desc := 0x22, slots := 2 } : SqDesc).slots = 2 :=
  ⟨by decide, by decide, by decide, by decide, by decide, by decide⟩

theorem witness_TriggerEventsComplete_12 :
    tst.runs = true :=
  by decide

theorem witness_TriggerEventsComplete_13 :
    tst.runs = true :=
  by decide

/-! ### CollectiveEventsComplete -/

theorem witness_CollectiveEventsComplete_1 :
    ((descr 0x30)).engines = true ∧ ((descr 0x30)).startOf (5 : QIdx).val (false : Bool) 0x30 = some (((.sq 5 0) : Owner), (0x30 : Nat))
      :=
  ⟨by decide, by decide⟩

theorem witness_CollectiveEventsComplete_2 :
    ((descr 0x31)).engines = true ∧ ((descr 0x31)).startOf (5 : QIdx).val (false : Bool) 0x31 = some (((.sq 5 0) : Owner), (0x31 : Nat))
      :=
  ⟨by decide, by decide⟩

theorem witness_CollectiveEventsComplete_3 :
    ((descr 0x32)).engines = true ∧ ((descr 0x32)).startOf (5 : QIdx).val (false : Bool) 0x32 = some (((.sq 5 0) : Owner), (0x32 : Nat))
      :=
  ⟨by decide, by decide⟩

theorem witness_CollectiveEventsComplete_4 :
    ((descr 0x33)).engines = true ∧ ((descr 0x33)).startOf (5 : QIdx).val (false : Bool) 0x33 = some (((.sq 5 0) : Owner), (0x33 : Nat))
      :=
  ⟨by decide, by decide⟩

theorem witness_CollectiveEventsComplete_5 :
    ((firedDescr 0x34)).engines = true ∧ ((firedDescr 0x34)).startOf (5 : QIdx).val (true : Bool) 0x34 = some (((.fired 5 0 none) :
      Owner), (0x34 : Nat)) :=
  ⟨by decide, by decide⟩

theorem witness_CollectiveEventsComplete_6 :
    ((tst.setInVc 95 7 { pkts := [kTap] })).engines = true ∧ (((tst.setInVc 95 7 { pkts := [kTap] })).inVc (95 : Port).val 7).tapped =
      some ((0 : Nat), (kTap : BufPkt)) :=
  ⟨by decide +kernel, by decide +kernel⟩

theorem witness_CollectiveEventsComplete_7 :
    ((tst.setInVc 95 6 { pkts := [kTap] })).engines = true ∧ (((tst.setInVc 95 6 { pkts := [kTap] })).inVc (95 : Port).val 7).tapped =
      none ∧ (((tst.setInVc 95 6 { pkts := [kTap] })).inVc (95 : Port).val 6).tapped = some ((0 : Nat), (kTap : BufPkt)) :=
  ⟨by decide +kernel, by decide +kernel, by decide +kernel⟩

theorem witness_CollectiveEventsComplete_8 :
    ({ tst with coll := { tst.coll with writes := [⟨95, 4096, 0⟩] } }).engines = true ∧ ({ tst with coll := { tst.coll with writes := [⟨95, 4096, 0⟩] } }).coll.writes
      = (⟨95, 4096, 0⟩ : StagingWrite) :: ([] : List StagingWrite) :=
  ⟨by decide, by decide⟩

theorem witness_CollectiveEventsComplete_9 :
    ({ locked tst with coll := { (locked tst).coll with launches := [{ id := ⟨4095, 0, 0, 0⟩ }] } }).engines = true ∧ (({ locked tst with coll := { (locked tst).coll with launches := [{ id := ⟨4095, 0, 0, 0⟩ }] } }).coll.launches.find?
      (fun y => !y.guarded && ({ locked tst with coll := { (locked tst).coll with launches := [{ id := ⟨4095, 0, 0, 0⟩ }] } }).gt + 3200 ≥
      y.id.gt && ({ locked tst with coll := { (locked tst).coll with launches := [{ id := ⟨4095, 0, 0, 0⟩ }] } }).geysState ≠ gsInvalid) =
      some ({ id := ⟨4095, 0, 0, 0⟩ } : TimedLaunch)) :=
  ⟨by decide, by decide⟩

theorem witness_CollectiveEventsComplete_10 :
    ({ locked tst with coll := { (locked tst).coll with launches := [{ id := ⟨4095, 0, 0, 0⟩ }] } }).engines = true ∧ ({ locked tst with coll := { (locked tst).coll with launches := [{ id := ⟨4095, 0, 0, 0⟩ }] } }).coll.launches.find?
      ({ locked tst with coll := { (locked tst).coll with launches := [{ id := ⟨4095, 0, 0, 0⟩ }] } }).launchDue = some ({ id := ⟨4095, 0, 0, 0⟩ }
      : TimedLaunch) :=
  ⟨by decide, by decide⟩

theorem witness_CollectiveEventsComplete_11 :
    ((phased { k := 1, parts := [part0] })).engines = true ∧ (((phased { k := 1, parts := [part0] })).group (4095 : Fin 4096).val).inst (1
      : Nat) = some ({ k := 1, parts := [part0] } : Inst) ∧ ({ k := 1, parts := [part0] } : Inst).parts ≠ [] ∧ ({ k := 1, parts := [part0] }
      : Inst).ended = none ∧ ({ k := 1, parts := [part0] } : Inst).sent = false :=
  ⟨by decide, by decide, by decide, by decide, by decide⟩

/-! ### PairEventsComplete -/

theorem witness_PairEventsComplete_1 :
    ((twinned.wr R.LINK_STATUS_STATE lkUp 95)).runs = true ∧ ((twinned.wr R.LINK_STATUS_STATE lkUp 95)).paired = true ∧ ((twinned.wr
      R.LINK_STATUS_STATE lkUp 95)).linkState (94 + (1 : Fin 2).val) = lkUp ∧ ((twinned.wr R.LINK_STATUS_STATE lkUp 95)).phase ≠ phStartup
      :=
  ⟨by decide, by decide, by decide, by decide⟩

theorem witness_PairEventsComplete_2 :
    twinned.runs = true ∧ twinned.paired = true ∧ twinned.phase ≠ phStartup :=
  ⟨by decide, by decide, by decide⟩

theorem witness_PairEventsComplete_3 :
    ({ twinned.wr R.LINK_STATUS_STATE lkUp 94 with time := { twinned.time with cycles := 102400 } }).runs = true ∧ ({ twinned.wr R.LINK_STATUS_STATE lkUp 94 with time := { twinned.time with cycles := 102400 } }).paired
      = true ∧ ({ twinned.wr R.LINK_STATUS_STATE lkUp 94 with time := { twinned.time with cycles := 102400 } }).pairState ≠ psUnpaired ∧
      (({ twinned.wr R.LINK_STATUS_STATE lkUp 94 with time := { twinned.time with cycles := 102400 } }).linkState 94 = lkUp ∨ ({ twinned.wr R.LINK_STATUS_STATE lkUp 94 with time := { twinned.time with cycles := 102400 } }).linkState
      95 = lkUp) ∧ ({ twinned.wr R.LINK_STATUS_STATE lkUp 94 with time := { twinned.time with cycles := 102400 } }).pair.lastUnit + 102400
      ≤ ({ twinned.wr R.LINK_STATUS_STATE lkUp 94 with time := { twinned.time with cycles := 102400 } }).time.cycles :=
  ⟨by decide, by decide, by decide, by decide, by decide⟩

theorem witness_PairEventsComplete_4 :
    twinned.runs = true ∧ twinned.paired = true ∧ twinned.pairState ≠ psUnpaired ∧ twinned.linkState 94 ≠ lkUp ∧ twinned.linkState 95 ≠
      lkUp ∧ twinned.linkState 94 ≠ lkLp ∧ twinned.linkState 95 ≠ lkLp :=
  ⟨by decide, by decide, by decide, by decide, by decide, by decide, by decide⟩

theorem witness_PairEventsComplete_5 :
    tst.up = true :=
  by decide

theorem witness_PairEventsComplete_6 :
    ((twinned.wr R.PAIR_STATUS_ALIVE_OK 1)).up = true ∧ ((twinned.wr R.PAIR_STATUS_ALIVE_OK 1)).paired = true ∧ ((twinned.wr
      R.PAIR_STATUS_ALIVE_OK 1)).mateDead = false :=
  ⟨by decide, by decide, by decide⟩

theorem witness_PairEventsComplete_7 :
    twinned.runs = true ∧ twinned.paired = true ∧ twinned.phase ≠ phStartup ∧ twinned.pairState ≠ psUnpaired :=
  ⟨by decide, by decide, by decide, by decide⟩

theorem witness_PairEventsComplete_8 :
    twinned.runs = true ∧ twinned.paired = true ∧ twinned.phase ≠ phStartup ∧ field (0xF0 : Flit).toNat 0 8 = 0xF0 :=
  ⟨by decide, by decide, by decide, by decide⟩

theorem witness_PairEventsComplete_9 :
    ({ mated with time := { mated.time with cycles := 16000000 }, pair := { mated.pair with unacked := [⟨0, .inc 1, some 0⟩] } }).runs =
      true ∧ ({ mated with time := { mated.time with cycles := 16000000 }, pair := { mated.pair with unacked := [⟨0, .inc 1, some 0⟩] } }).pairState
      = psPaired ∧ ((({ mated with time := { mated.time with cycles := 16000000 }, pair := { mated.pair with unacked := [⟨0, .inc 1, some 0⟩] } }).pair.unacked.any
      fun x => x.sentAt.any fun c => ({ mated with time := { mated.time with cycles := 16000000 }, pair := { mated.pair with unacked := [⟨0, .inc 1, some 0⟩] } }).time.cycles
      ≥ c + 1600 * ({ mated with time := { mated.time with cycles := 16000000 }, pair := { mated.pair with unacked := [⟨0, .inc 1, some 0⟩] } }).rd
      R.PAIR_CFG_MIRROR_TMO) = true) :=
  ⟨by decide, by decide, by decide⟩

theorem witness_PairEventsComplete_10 :
    (((twinned.wr R.PAIR_STATUS_STATE psStart).wr R.PAIR_STATUS_ALIVE_OK 0)).runs = true ∧ (((twinned.wr R.PAIR_STATUS_STATE psStart).wr
      R.PAIR_STATUS_ALIVE_OK 0)).paired = true ∧ (((twinned.wr R.PAIR_STATUS_STATE psStart).wr R.PAIR_STATUS_ALIVE_OK 0)).phase ≠
      phStartup ∧ (((twinned.wr R.PAIR_STATUS_STATE psStart).wr R.PAIR_STATUS_ALIVE_OK 0)).pairState = psStart ∧ (((twinned.wr
      R.PAIR_STATUS_STATE psStart).wr R.PAIR_STATUS_ALIVE_OK 0)).mateDead = true ∧ (((twinned.wr R.PAIR_STATUS_STATE psStart).wr
      R.PAIR_STATUS_ALIVE_OK 0)).pair.session = false :=
  ⟨by decide, by decide, by decide, by decide, by decide, by decide⟩

theorem witness_PairEventsComplete_11 :
    ((moving { target := 16000000, isReturn := false, giving := true })).runs = true ∧ ((moving { target := 16000000, isReturn := false, giving := true })).pair.move
      = some ({ target := 16000000, isReturn := false, giving := true } : Move) ∧ ({ target := 16000000, isReturn := false, giving := true }
      : Move).giving = true ∧ ({ target := 16000000, isReturn := false, giving := true } : Move).target ≤ ((moving { target := 16000000, isReturn := false, giving := true })).gt
      + 16000000 :=
  ⟨by decide, by decide, by decide, by decide⟩

theorem witness_PairEventsComplete_12 :
    ((moving { target := 0, isReturn := true, giving := false })).runs = true ∧ ((moving { target := 0, isReturn := true, giving := false })).pair.move
      = some ({ target := 0, isReturn := true, giving := false } : Move) ∧ ({ target := 0, isReturn := true, giving := false } :
      Move).target ≤ ((moving { target := 0, isReturn := true, giving := false })).gt ∧ (({ target := 0, isReturn := true, giving := false }
      : Move).isReturn && !(true : Bool)) = false :=
  ⟨by decide, by decide, by decide, by decide⟩

theorem witness_PairEventsComplete_13 :
    ((moving { target := 0, isReturn := true, giving := false })).runs = true ∧ ((moving { target := 0, isReturn := true, giving := false })).pair.move
      = some ({ target := 0, isReturn := true, giving := false } : Move) ∧ ({ target := 0, isReturn := true, giving := false } :
      Move).target ≤ ((moving { target := 0, isReturn := true, giving := false })).gt ∧ ({ target := 0, isReturn := true, giving := false }
      : Move).isReturn = true ∧ (false : Bool) = false :=
  ⟨by decide, by decide, by decide, by decide, by decide⟩

theorem witness_PairEventsComplete_14 :
    ({ tst with pair := { tst.pair with stale := some (1, 2, 0) } }).runs = true ∧ ({ tst with pair := { tst.pair with stale := some (1, 2, 0) } }).pair.stale
      = some ((1 : Nat), (2 : Nat), (0 : Nat)) ∧ (0 : Nat) ≤ ({ tst with pair := { tst.pair with stale := some (1, 2, 0) } }).gt :=
  ⟨by decide, by decide, by decide⟩

theorem witness_PairEventsComplete_15 :
    tst.runs = true :=
  by decide

theorem witness_PairEventsComplete_16 :
    solo.runs = true ∧ solo.pairState = psSolo :=
  ⟨by decide, by decide⟩

/-! ### CommandPathEventsComplete -/

theorem witness_CommandPathEventsComplete_1 :
    tst.runs = true ∧ tst.fnState (ringKey (3 : HPort) (63 : Func)) ≠ fsWedged ∧ idxSub (1 : W32).toNat (tst.ring (ringKey (3 : HPort) (63
      : Func))).pi < 2 ^ 31 :=
  ⟨by decide, by decide, by decide⟩

theorem witness_CommandPathEventsComplete_2 :
    tst.runs = true ∧ tst.fnState (ringKey (3 : HPort) (63 : Func)) ≠ fsWedged :=
  ⟨by decide, by decide⟩

theorem witness_CommandPathEventsComplete_3 :
    tst.runs = true ∧ tst.fnState (ringKey (3 : HPort) (63 : Func)) ≠ fsWedged :=
  ⟨by decide, by decide⟩

theorem witness_CommandPathEventsComplete_4 :
    tst.runs = true ∧ tst.fnState (ringKey (3 : HPort) (63 : Func)) ≠ fsWedged :=
  ⟨by decide, by decide⟩

theorem witness_CommandPathEventsComplete_5 :
    ringing.serving = true ∧ ringing.fw.live = none ∧ ringing.mayFetch (ringKey (3 : HPort) (63 : Func)) (.ring (3 : HPort) (63 : Func)) =
      true :=
  ⟨by decide, by decide, by decide⟩

theorem witness_CommandPathEventsComplete_6 :
    entering.runs = true ∧ (entering.cmd.started.find? (fun y => y.ref = (⟨.smbus, 9⟩ : CmdRef)) = some ({ n := 7, ref := ⟨.smbus, 9⟩, opcode := 0x0B01, wait := .power 2 }
      : Started)) ∧ ({ n := 7, ref := ⟨.smbus, 9⟩, opcode := 0x0B01, wait := .power 2 } : Started).progress = false ∧ ((match (⟨.smbus, 9⟩ : CmdRef).path with | .remote _ _ => true | _ => false) = false) :=
  ⟨by decide, by decide, by decide, by decide⟩

theorem witness_CommandPathEventsComplete_7 :
    ((tst.wr R.CMD_CFG_SMB_EN 1)).serving = true ∧ ((tst.wr R.CMD_CFG_SMB_EN 1)).on R.CMD_CFG_SMB_EN = true ∧ ([0x7E] : List Byte) ≠ [] :=
  ⟨by decide, by decide, by decide⟩

theorem witness_CommandPathEventsComplete_8 :
    ((tst.setRx 11 [pktOf ptMgmtReq 0])).serving = true ∧ ((tst.setRx 11 [pktOf ptMgmtReq 0])).fw.live = none ∧ ((tst.setRx 11 [pktOf
      ptMgmtReq 0])).pwr.boot ≠ .load ∧ ((tst.setRx 11 [pktOf ptMgmtReq 0])).mgmtTake ptMgmtReq = some (((pktOf ptMgmtReq 0) : List Flit),
      ((tst.setRx 11 []) : State)) :=
  ⟨by decide +kernel, by decide +kernel, by decide +kernel, by decide +kernel⟩

theorem witness_CommandPathEventsComplete_9 :
    ((tst.setRx 11 [pktOf ptMgmtResp 0])).runs = true ∧ ((tst.setRx 11 [pktOf ptMgmtResp 0])).mgmtTake ptMgmtResp = some (((pktOf
      ptMgmtResp 0) : List Flit), ((tst.setRx 11 []) : State)) :=
  ⟨by decide +kernel, by decide +kernel⟩

theorem witness_CommandPathEventsComplete_10 :
    ((started (.remote 1 2 3))).runs = true ∧ (((started (.remote 1 2 3))).cmd.started.find? (fun y => y.ref = (⟨.smbus, 9⟩ : CmdRef)) =
      some ({ n := 7, ref := ⟨.smbus, 9⟩, opcode := 0x0B01, wait := .remote 1 2 3 } : Started)) ∧ ({ n := 7, ref := ⟨.smbus, 9⟩, opcode := 0x0B01, wait := .remote 1 2 3 }
      : Started).wait = .remote (1 : Nat) (2 : Nat) (3 : Nat) :=
  ⟨by decide, by decide, by decide⟩

theorem witness_CommandPathEventsComplete_11 :
    tst.runs = true ∧ fget (5 : Flit) 0 8 = 0x05 ∧ fget (5 : Flit) 16 2 = 0 :=
  ⟨by decide, by decide, by decide⟩

theorem witness_CommandPathEventsComplete_12 :
    ((started (.neighbour 95 0))).runs = true ∧ fget ((5 + 2 ^ 16) : Flit) 0 8 = 0x05 ∧ fget ((5 + 2 ^ 16) : Flit) 16 2 = 1 ∧ (((((started
      (.neighbour 95 0))).bcTake (95 : Port).val ((5 + 2 ^ 16) : Flit)).bump C.CMD_MGMT_FLIT_RX : State).cmd.started.find? (fun y =>
      y.wait = .neighbour (95 : Port).val (fget ((5 + 2 ^ 16) : Flit) 32 16)) = some ({ n := 7, ref := ⟨.smbus, 9⟩, opcode := 0x0B01, wait := .neighbour 95 0 }
      : Started)) :=
  ⟨by decide, by decide, by decide, by decide⟩

theorem witness_CommandPathEventsComplete_13 :
    ((started (.neighbour 95 0))).runs = true ∧ (((started (.neighbour 95 0))).cmd.started.find? (fun y => y.ref = (⟨.smbus, 9⟩ : CmdRef))
      = some ({ n := 7, ref := ⟨.smbus, 9⟩, opcode := 0x0B01, wait := .neighbour 95 0 } : Started)) ∧ ({ n := 7, ref := ⟨.smbus, 9⟩, opcode := 0x0B01, wait := .neighbour 95 0 }
      : Started).wait = .neighbour (95 : Nat) (0 : Nat) :=
  ⟨by decide, by decide, by decide⟩

/-! ### PowerEventsComplete -/

theorem witness_PowerEventsComplete_1 :
    tst.wakeSource (10 : Fin 12).val (0 : BitVec 7).toNat = some (0 : Nat) :=
  by decide

theorem witness_PowerEventsComplete_2 :
    tst.aon.stopped = false :=
  by decide

theorem witness_PowerEventsComplete_5 :
    (((({ tst with aon := { tst.aon with returnedB := true } } : State).wr R.PWR_SUPPLY_ISOL_B 1).wr R.PWR_SUPPLY_CFG_AUTO_RESHARE 1)).on
      R.PWR_SUPPLY_CFG_AUTO_RESHARE = true ∧ ((if (true : Bool) then (((({ tst with aon := { tst.aon with returnedB := true } } :
      State).wr R.PWR_SUPPLY_ISOL_B 1).wr R.PWR_SUPPLY_CFG_AUTO_RESHARE 1)).aon.returnedB else (((({ tst with aon := { tst.aon with returnedB := true } }
      : State).wr R.PWR_SUPPLY_ISOL_B 1).wr R.PWR_SUPPLY_CFG_AUTO_RESHARE 1)).aon.returnedA) = true) ∧ ((((({ tst with aon := { tst.aon with returnedB := true } }
      : State).wr R.PWR_SUPPLY_ISOL_B 1).wr R.PWR_SUPPLY_CFG_AUTO_RESHARE 1)).on (if (true : Bool) then R.PWR_SUPPLY_ISOL_B else
      R.PWR_SUPPLY_ISOL_A : RegField) = true) :=
  ⟨by decide, by decide, by decide⟩

theorem witness_PowerEventsComplete_10 :
    tst.runs = true ∧ tst.powerState = psRun ∧ tst.fwRuns = true :=
  ⟨by decide, by decide, by decide⟩

theorem witness_PowerEventsComplete_11 :
    ((portUp95.wr R.PWR_STATUS_STATE psEntry)).runs = true ∧ ((portUp95.wr R.PWR_STATUS_STATE psEntry)).powerState = psEntry ∧
      ((portUp95.wr R.PWR_STATUS_STATE psEntry)).pst (95 : Port).val = tUp :=
  ⟨by decide, by decide, by decide⟩

theorem witness_PowerEventsComplete_12 :
    ((portUp95.wr R.PWR_STATUS_STATE psEntry)).runs = true ∧ ((portUp95.wr R.PWR_STATUS_STATE psEntry)).powerState = psEntry ∧
      ((portUp95.wr R.PWR_STATUS_STATE psEntry)).pst (95 : Port).val ≠ tDorm ∧ ((portUp95.wr R.PWR_STATUS_STATE psEntry)).pst (95 :
      Port).val ≠ tOff :=
  ⟨by decide, by decide, by decide, by decide⟩

theorem witness_PowerEventsComplete_13 :
    ((tst.wr R.PWR_STATUS_STATE psEntry)).runs = true ∧ ((tst.wr R.PWR_STATUS_STATE psEntry)).powerState = psEntry ∧ (((List.range 96).all
      fun p => ((tst.wr R.PWR_STATUS_STATE psEntry)).pst p = tDorm || ((tst.wr R.PWR_STATUS_STATE psEntry)).pst p = tOff) = true) :=
  ⟨by decide, by decide, by decide⟩

theorem witness_PowerEventsComplete_14 :
    ((tst.wr R.PWR_STATUS_STATE psExit)).runs = true ∧ ((tst.wr R.PWR_STATUS_STATE psExit)).powerState = psExit :=
  ⟨by decide, by decide⟩

theorem witness_PowerEventsComplete_15 :
    entering.runs = true ∧ entering.powerWaiter = some ((7 : Nat), 2) ∧ entering.powerState = psRun :=
  ⟨by decide, by decide, by decide⟩

/-! ### ResetEventsComplete -/

theorem witness_ResetEventsComplete_5 :
    State.reset.pwr.held = true ∧ State.reset.mayStart = true :=
  ⟨by decide, by decide⟩

theorem witness_ResetEventsComplete_6 :
    tst.runs = true :=
  by decide

theorem witness_ResetEventsComplete_7 :
    ({ tst with pwr := { tst.pwr with delayReset := true } }).runs = true ∧ ({ tst with pwr := { tst.pwr with delayReset := true } }).pwr.delayReset
      = true :=
  ⟨by decide, by decide⟩

theorem witness_ResetEventsComplete_8 :
    ({ tst with pwr := { tst.pwr with fwReset := true } }).runs = true ∧ ({ tst with pwr := { tst.pwr with fwReset := true } }).pwr.fwReset
      = true :=
  ⟨by decide, by decide⟩

theorem witness_ResetEventsComplete_9 :
    ({ tst with pwr := { tst.pwr with boot := .rom } }).runs = true ∧ ({ tst with pwr := { tst.pwr with boot := .rom } }).pwr.boot = .rom
      :=
  ⟨by decide, by decide⟩

theorem witness_ResetEventsComplete_10 :
    ({ tst with pwr := { tst.pwr with boot := .firmware } }).runs = true ∧ ({ tst with pwr := { tst.pwr with boot := .firmware } }).pwr.boot
      = .firmware :=
  ⟨by decide, by decide⟩

theorem witness_ResetEventsComplete_11 :
    ({ tst with pwr := { tst.pwr with boot := .blocks } }).runs = true ∧ ({ tst with pwr := { tst.pwr with boot := .blocks } }).pwr.boot =
      .blocks ∧ ({ tst with pwr := { tst.pwr with boot := .blocks } }).sideMismatch = false :=
  ⟨by decide, by decide, by decide⟩

theorem witness_ResetEventsComplete_12 :
    tst.runs = true :=
  by decide

theorem witness_ResetEventsComplete_13 :
    tst.runs = true :=
  by decide

theorem witness_ResetEventsComplete_14 :
    ({ tst with aon := { tst.aon with confirmEnd := some 5 } }).aon.confirmEnd.isSome = true ∧ ({ tst with aon := { tst.aon with confirmEnd := some 5 } }).asleep
      = false ∧ ({ tst with aon := { tst.aon with confirmEnd := some 5 } }).up = true ∧ ({ tst with aon := { tst.aon with confirmEnd := some 5 } }).fwRuns
      = true :=
  ⟨by decide, by decide, by decide, by decide⟩

theorem witness_ResetEventsComplete_15 :
    ({ tst.wr R.PWR_STATUS_STATE psPeat with aon := { tst.aon with confirmEnd := some 5 } }).aon.confirmEnd.isSome = true ∧ (({ tst.wr R.PWR_STATUS_STATE psPeat with aon := { tst.aon with confirmEnd := some 5 } }).asleep
      = true ∨ ({ tst.wr R.PWR_STATUS_STATE psPeat with aon := { tst.aon with confirmEnd := some 5 } }).up = false ∨ ({ tst.wr R.PWR_STATUS_STATE psPeat with aon := { tst.aon with confirmEnd := some 5 } }).fwRuns
      = false) :=
  ⟨by decide, by decide⟩

theorem witness_ResetEventsComplete_16 :
    ({ tst with fw := { tst.fw with live := some 7 } }).runs = true ∧ ({ tst with fw := { tst.fw with live := some 7 } }).fw.live = some
      (7 : Nat) ∧ ({ tst with fw := { tst.fw with live := some 7 } }).fw.restarted = false ∧ ((({ tst with fw := { tst.fw with live := some 7 } }).cmd.started.any
      fun c => c.n ≠ (7 : Nat)) = false) :=
  ⟨by decide, by decide, by decide, by decide⟩

theorem witness_ResetEventsComplete_17 :
    ({ tst with fw := { tst.fw with live := some 7, restarted := true } }).runs = true ∧ ({ tst with fw := { tst.fw with live := some 7, restarted := true } }).fw.live
      = some (7 : Nat) ∧ ({ tst with fw := { tst.fw with live := some 7, restarted := true } }).fw.restarted = true :=
  ⟨by decide, by decide, by decide⟩

theorem witness_ResetEventsComplete_18 :
    ({ tst with fw := { tst.fw with live := some 7 } }).runs = true ∧ ({ tst with fw := { tst.fw with live := some 7 } }).fw.live.isSome =
      true :=
  ⟨by decide, by decide⟩

/-! ### FaultEventsComplete -/

theorem witness_FaultEventsComplete_1 :
    ((tst.wr R.FLT_GRACE_RUNNING 1 pgPwr)).runs = true ∧ (pageKind ((BitVec.ofNat 29 pgPwr) : BitVec 29).toNat).isSome = true ∧ ((tst.wr
      R.FLT_GRACE_RUNNING 1 pgPwr)).on R.FLT_GRACE_RUNNING ((BitVec.ofNat 29 pgPwr) : BitVec 29).toNat = true :=
  ⟨by decide, by decide, by decide⟩

theorem witness_FaultEventsComplete_2 :
    tst.runs = true :=
  by decide

theorem witness_FaultEventsComplete_3 :
    tst.runs = true :=
  by decide

theorem witness_FaultEventsComplete_4 :
    tst.runs = true :=
  by decide

theorem witness_FaultEventsComplete_5 :
    tst.runs = true :=
  by decide

theorem witness_FaultEventsComplete_6 :
    tst.runs = true :=
  by decide

theorem witness_FaultEventsComplete_7 :
    tst.runs = true :=
  by decide

theorem witness_FaultEventsComplete_8 :
    tst.runs = true :=
  by decide

theorem witness_FaultEventsComplete_9 :
    ((((locked tst).wr R.PIN_PPS_EN 1).wr R.PIN_PPS_SRC 1)).runs = true ∧ ((((locked tst).wr R.PIN_PPS_EN 1).wr R.PIN_PPS_SRC 1)).on
      R.PIN_PPS_EN = true ∧ (((((locked tst).wr R.PIN_PPS_EN 1).wr R.PIN_PPS_SRC 1)).geysState = gsLocked ∨ ((((locked tst).wr
      R.PIN_PPS_EN 1).wr R.PIN_PPS_SRC 1)).geysState = gsHoldover) ∧ (((((locked tst).wr R.PIN_PPS_EN 1).wr R.PIN_PPS_SRC 1)).on
      R.PIN_PPS_SRC = true ∨ ((((locked tst).wr R.PIN_PPS_EN 1).wr R.PIN_PPS_SRC 1)).on R.GEYS_TAI_TAI_VALID = true) ∧ (((((((locked
      tst).wr R.PIN_PPS_EN 1).wr R.PIN_PPS_SRC 1)).gt + (if ((((locked tst).wr R.PIN_PPS_EN 1).wr R.PIN_PPS_SRC 1)).on R.PIN_PPS_SRC then
      0 else 16 * ((((locked tst).wr R.PIN_PPS_EN 1).wr R.PIN_PPS_SRC 1)).rd R.GEYS_TAI_NS_TAI_NS)) % 16000000000 : Nat) < 11) ∧
      (((((locked tst).wr R.PIN_PPS_EN 1).wr R.PIN_PPS_SRC 1)).pin.ppsLast ≠ ((((locked tst).wr R.PIN_PPS_EN 1).wr R.PIN_PPS_SRC 1)).gt -
      ((((((locked tst).wr R.PIN_PPS_EN 1).wr R.PIN_PPS_SRC 1)).gt + (if ((((locked tst).wr R.PIN_PPS_EN 1).wr R.PIN_PPS_SRC 1)).on
      R.PIN_PPS_SRC then 0 else 16 * ((((locked tst).wr R.PIN_PPS_EN 1).wr R.PIN_PPS_SRC 1)).rd R.GEYS_TAI_NS_TAI_NS)) % 16000000000 :
      Nat) + 1) :=
  ⟨by decide, by decide, by decide, by decide, by decide, by decide⟩

theorem witness_FaultEventsComplete_10 :
    ({ tst with pin := { tst.pin with pps := true } }).runs = true ∧ ({ tst with pin := { tst.pin with pps := true } }).pin.pps = true :=
  ⟨by decide, by decide⟩

theorem witness_FaultEventsComplete_11 :
    tst.runs = true :=
  by decide

theorem witness_FaultEventsComplete_12 :
    tst.alive = true ∧ tst.aon.stopped = false :=
  ⟨by decide, by decide⟩

/-! ### ReaderEventsComplete -/

theorem witness_ReaderEventsComplete_1 :
    ((({ locked tst with cnt := { tst.cnt with window := 16000, start := 0, k := 0 } } : State).wr R.CNT_CTRL_RUN 1)).runs = true ∧ ((({ locked tst with cnt := { tst.cnt with window := 16000, start := 0, k := 0 } }
      : State).wr R.CNT_CTRL_RUN 1)).on R.CNT_CTRL_RUN = true ∧ ((({ locked tst with cnt := { tst.cnt with window := 16000, start := 0, k := 0 } }
      : State).wr R.CNT_CTRL_RUN 1)).cnt.window ≠ 0 ∧ ((({ locked tst with cnt := { tst.cnt with window := 16000, start := 0, k := 0 } } :
      State).wr R.CNT_CTRL_RUN 1)).cnt.start + ((({ locked tst with cnt := { tst.cnt with window := 16000, start := 0, k := 0 } } :
      State).wr R.CNT_CTRL_RUN 1)).cnt.k * ((({ locked tst with cnt := { tst.cnt with window := 16000, start := 0, k := 0 } } : State).wr
      R.CNT_CTRL_RUN 1)).cnt.window ≤ ((({ locked tst with cnt := { tst.cnt with window := 16000, start := 0, k := 0 } } : State).wr
      R.CNT_CTRL_RUN 1)).gt ∧ ((((({ locked tst with cnt := { tst.cnt with window := 16000, start := 0, k := 0 } } : State).wr
      R.CNT_CTRL_RUN 1)).cnt.next.any fun g => g.2 ≤ ((({ locked tst with cnt := { tst.cnt with window := 16000, start := 0, k := 0 } } :
      State).wr R.CNT_CTRL_RUN 1)).cnt.start + ((((({ locked tst with cnt := { tst.cnt with window := 16000, start := 0, k := 0 } } :
      State).wr R.CNT_CTRL_RUN 1)).gt - ((({ locked tst with cnt := { tst.cnt with window := 16000, start := 0, k := 0 } } : State).wr
      R.CNT_CTRL_RUN 1)).cnt.start) / ((({ locked tst with cnt := { tst.cnt with window := 16000, start := 0, k := 0 } } : State).wr
      R.CNT_CTRL_RUN 1)).cnt.window : Nat) * ((({ locked tst with cnt := { tst.cnt with window := 16000, start := 0, k := 0 } } :
      State).wr R.CNT_CTRL_RUN 1)).cnt.window) = false) ∧ ((({ locked tst with cnt := { tst.cnt with window := 16000, start := 0, k := 0 } }
      : State).wr R.CNT_CTRL_RUN 1)).powerState ≠ psExit ∧ ((({ locked tst with cnt := { tst.cnt with window := 16000, start := 0, k := 0 } }
      : State).wr R.CNT_CTRL_RUN 1)).geysState ≠ gsInvalid ∧ ((((({ locked tst with cnt := { tst.cnt with window := 16000, start := 0, k := 0 } }
      : State).wr R.CNT_CTRL_RUN 1)).cnt.extended || ((({ locked tst with cnt := { tst.cnt with window := 16000, start := 0, k := 0 } } :
      State).wr R.CNT_CTRL_RUN 1)).cnt.slept) && ((({ locked tst with cnt := { tst.cnt with window := 16000, start := 0, k := 0 } } :
      State).wr R.CNT_CTRL_RUN 1)).lateFor (((({ locked tst with cnt := { tst.cnt with window := 16000, start := 0, k := 0 } } : State).wr
      R.CNT_CTRL_RUN 1)).cnt.start + ((((({ locked tst with cnt := { tst.cnt with window := 16000, start := 0, k := 0 } } : State).wr
      R.CNT_CTRL_RUN 1)).gt - ((({ locked tst with cnt := { tst.cnt with window := 16000, start := 0, k := 0 } } : State).wr
      R.CNT_CTRL_RUN 1)).cnt.start) / ((({ locked tst with cnt := { tst.cnt with window := 16000, start := 0, k := 0 } } : State).wr
      R.CNT_CTRL_RUN 1)).cnt.window : Nat) * ((({ locked tst with cnt := { tst.cnt with window := 16000, start := 0, k := 0 } } :
      State).wr R.CNT_CTRL_RUN 1)).cnt.window)) = false :=
  ⟨by decide, by decide, by decide, by decide, by decide, by decide, by decide, by decide⟩

theorem witness_ReaderEventsComplete_2 :
    ({ tst with cnt := { tst.cnt with writing := some ⟨5, 6⟩ } }).runs = true ∧ ({ tst with cnt := { tst.cnt with writing := some ⟨5, 6⟩ } }).cnt.writing
      = some (⟨5, 6⟩ : SnapWrite) :=
  ⟨by decide, by decide⟩

theorem witness_ReaderEventsComplete_3 :
    tst.runs = true :=
  by decide

theorem witness_ReaderEventsComplete_4 :
    ({ locked tst with cnt := { tst.cnt with next := some (1, 0) } }).runs = true ∧ ({ locked tst with cnt := { tst.cnt with next := some (1, 0) } }).cnt.next
      = some ((1 : Nat), (0 : Nat)) ∧ (0 : Nat) ≤ ({ locked tst with cnt := { tst.cnt with next := some (1, 0) } }).gt ∧ ({ locked tst with cnt := { tst.cnt with next := some (1, 0) } }).geysState
      ≠ gsInvalid ∧ ({ locked tst with cnt := { tst.cnt with next := some (1, 0) } }).powerState ≠ psExit :=
  ⟨by decide, by decide, by decide, by decide, by decide⟩

theorem witness_ReaderEventsComplete_5 :
    tst.runs = true ∧ ((tst.hostSeen 3) : State) = tst.hostSeen (3 : HPort).val :=
  ⟨by decide, by decide⟩

theorem witness_ReaderEventsComplete_6 :
    tst.runs = true ∧ ((tst.hostSeen 3) : State) = tst.hostSeen (3 : HPort).val :=
  ⟨by decide, by decide⟩

/-! ### SettingsChangeOnlyTheirFields -/

theorem witness_SettingsChangeOnlyTheirFields_1 :
    ∃ t, (ready tst 0x0507 c0 (pack [(1, 5)])).quiet = true ∧ exec (.pollRate c0 5) (ready tst 0x0507 c0 (pack [(1, 5)])) = .next t :=
  ⟨_, by decide, rfl⟩

/-! ### StepRunsFrontCommand -/

theorem witness_StepRunsFrontCommand_1 :
    State.pending { tst with pending := [.commandFetch 3 63 none none, .resetNAssert] } = .commandFetch 3 63 none none :: [.resetNAssert]
      :=
  rfl

/-! ### EmptyQueueIsOneClockCycle -/

theorem witness_EmptyQueueIsOneClockCycle_1 :
    tst.pending = [] :=
  rfl

/-! ### HeldDeviceIsStill -/

theorem witness_HeldDeviceIsStill_1 :
    State.reset.up = false ∧ alwaysOn (.syncTimingReceive 95 0) = false :=
  by decide

/-! ### GatedEnginesAreStill -/

theorem witness_GatedEnginesAreStill_1 :
    engineRow .ackReceive = true ∧ State.powerState (tst.wr R.PWR_STATUS_STATE 1) = psMoss :=
  by decide

/-! ### PacketReadsBack -/

theorem witness_PacketReadsBack_1 :
    ∃ (h : Hdr) (bs : List Byte), h = { ptype := 1, ext := true, plen := 4096, dpid := 1048575, spid := 0, vc := 7 } ∧ h.plen = bs.length
      ∧ h.ext = (some (2 ^ 256 - 1)).isSome :=
  ⟨_, List.replicate 4096 0, rfl, by rw [List.length_replicate], rfl⟩

/-! ### LinkUnitsReadBack -/

theorem witness_LinkUnitsReadBack_1 :
    (List.replicate 8 (0 : Flit)).length = 7 + 1 :=
  rfl

/-! ### RaiseRecordsTheSource -/

theorem witness_RaiseRecordsTheSource_1 :
    (pageKind (0x01003000 + 0x4000 * 191)).isSome = true ∧ State.on State.reset R.FLT_FIRST_VALID pgPin = false :=
  by decide

theorem witness_RaiseRecordsTheSource_2 :
    State.on (State.reset.wr R.FLT_FIRST_VALID 1 pgPin) R.FLT_FIRST_VALID pgPin = true :=
  by decide

/-! ### CounterCounts -/

theorem witness_CounterCounts_1 :
    C.QUE_MSIX_SENT.low = 0 ∧ C.QUE_MSIX_SENT.width = 48 :=
  by decide

/-! ### WiringIsSymmetric -/

theorem witness_WiringIsSymmetric_1 :
    topoValid 0x01010102 = true ∧ expectedPeer 0x01010102 0 = some 1 ∧ expectedPeerPort 0x01010102 0 = some 0 :=
  by decide

theorem witness_WiringIsSymmetric_2 :
    topoValid 0x10000001010102 = true ∧ expectedPeer 0x10000001010102 95 = some 1 ∧ expectedPeerPort 0x10000001010102 95 = some 95 :=
  by decide

/-! ### TablesChangeOnlyTheirEntries -/

theorem witness_TablesChangeOnlyTheirEntries_1 :
    ∃ t, (ready tst 0x0B00 c0 (pack [(4, 10000000)])).quiet = true ∧ exec (.resetFull c0 10000000) (ready tst 0x0B00 c0 (pack [(4,
      10000000)])) = .next t :=
  ⟨_, by decide, rfl⟩

theorem witness_TablesChangeOnlyTheirEntries_2 :
    ∃ t, (ready tst 0x0508 c0 (pack [(2, 1), (4, 1)])).quiet = true ∧ exec (.jobBind c0 1 1) (ready tst 0x0508 c0 (pack [(2, 1), (4, 1)]))
      = .next t :=
  ⟨_, by decide, rfl⟩

/-! ### EventsChangeOnlyTheirState -/

theorem witness_EventsChangeOnlyTheirState_1 :
    ∃ t, tst.quiet = true ∧ exec .hbmScrubPass tst = .next t :=
  ⟨_, by decide, rfl⟩

theorem witness_EventsChangeOnlyTheirState_2 :
    ∃ t, tst.quiet = true ∧ exec (.aonRateMeasure 4294967295) tst = .next t :=
  ⟨_, by decide, rfl⟩

theorem witness_EventsChangeOnlyTheirState_3 :
    ∃ t, tst.quiet = true ∧ exec .expertLockoutExpire tst = .next t :=
  ⟨_, by decide, rfl⟩

theorem witness_EventsChangeOnlyTheirState_4 :
    ∃ t, tst.quiet = true ∧ exec .bankHoldExpire tst = .next t :=
  ⟨_, by decide, rfl⟩

theorem witness_EventsChangeOnlyTheirState_5 :
    ∃ t, tst.quiet = true ∧ exec .scheduleRunStart tst = .next t :=
  ⟨_, by decide, rfl⟩

theorem witness_EventsChangeOnlyTheirState_6 :
    ∃ t, tst.quiet = true ∧ exec .prewarmRampUp tst = .next t :=
  ⟨_, by decide, rfl⟩

theorem witness_EventsChangeOnlyTheirState_7 :
    ∃ t, tst.quiet = true ∧ exec .prewarmRampDown tst = .next t :=
  ⟨_, by decide, rfl⟩

theorem witness_EventsChangeOnlyTheirState_8 :
    ∃ t, tst.quiet = true ∧ exec .lstepAssert tst = .next t :=
  ⟨_, by decide, rfl⟩

theorem witness_EventsChangeOnlyTheirState_9 :
    ∃ t, tst.quiet = true ∧ exec .lstepRelease tst = .next t :=
  ⟨_, by decide, rfl⟩

theorem witness_EventsChangeOnlyTheirState_10 :
    ∃ t, tst.quiet = true ∧ exec (.windowCoolingEnd 16777215) tst = .next t :=
  ⟨_, by decide, rfl⟩

theorem witness_EventsChangeOnlyTheirState_11 :
    ∃ t, tst.quiet = true ∧ exec .moveQuiesceStart tst = .next t :=
  ⟨_, by decide, rfl⟩

theorem witness_EventsChangeOnlyTheirState_12 :
    ∃ t, tst.quiet = true ∧ exec .moveStaleWindowEnd tst = .next t :=
  ⟨_, by decide, rfl⟩

theorem witness_EventsChangeOnlyTheirState_13 :
    ∃ t, tst.quiet = true ∧ exec .timedGuardStart tst = .next t :=
  ⟨_, by decide, rfl⟩

theorem witness_EventsChangeOnlyTheirState_14 :
    ∃ t, tst.quiet = true ∧ exec .snapshotWriteComplete tst = .next t :=
  ⟨_, by decide, rfl⟩

/-! ### PendDuringQuiescing -/

theorem witness_PendDuringQuiescing_1 :
    State.fnState (tst.wr R.FUNC_STATUS_STATE 2 255) 255 = fsQuiescing :=
  by decide

/-! ### NarrowAccessHasNoEffect -/

theorem witness_NarrowAccessHasNoEffect_1 :
    (2 : Nat) < 4 ∨ 0 % 2 ≠ 0 :=
  by decide

theorem witness_NarrowAccessHasNoEffect_2 :
    (8 : Nat) < 4 ∨ 4 % 8 ≠ 0 :=
  by decide
end

section
/-! The counter reader's events, register writes by target, and the accesses whose size or alignment no register takes
(00_scope.md R9 to R14; 19_performance_counters.md R666 to R672). -/

namespace Sys2Proof.Machine

/-! ### The rows as their meanings -/

theorem exec_counterBoundary_eq (s : State) : exec .counterBoundary s = live s fun s => s.boundary false s.lateFor := rfl

theorem exec_readerConfigStart_eq (s : State) : exec .readerConfigStart s = live s fun s => s.configDue s.lateFor := rfl

theorem exec_cntStartWrite_eq (gt : Word) (s : State) :
    exec (.cntStartWrite gt) s = live s fun s => s.armReader (s.rd R.CNT_WINDOW_WINDOW_US) gt.toNat := rfl

theorem exec_snapshotWriteComplete_eq (s : State) : exec .snapshotWriteComplete s = execSnapshotWriteComplete s := rfl

theorem exec_registerWrite_eq (g : RegTarget) (bytes : Nat) (data : Word) (s : State) :
    exec (.registerWrite g bytes data) s = execRegisterWrite g bytes data s := rfl

/-! ### The counter reader -/

/-- A boundary that GT has reached, that no waiting configuration replaces and that is not passed over for a late one takes its
snapshot (R667). -/
theorem boundary_snaps (s : State) (passed : Nat → Bool) (k target : Nat) (hrun : s.on R.CNT_CTRL_RUN = true)
    (hwin : s.cnt.window ≠ 0) (hdue : s.cnt.start + s.cnt.k * s.cnt.window ≤ s.gt)
    (hk : k = (s.gt - s.cnt.start) / s.cnt.window) (ht : target = s.cnt.start + k * s.cnt.window)
    (hnext : (s.cnt.next.any fun g => g.2 ≤ target) = false) (hexit : s.powerState ≠ psExit)
    (hinv : s.geysState ≠ gsInvalid) (hlate : ((s.cnt.extended || s.cnt.slept) && passed target) = false) :
    s.boundary false passed =
      ({ s with cnt := { s.cnt with k := k + 1 } } : State).snap k target (passed target) false := by
  subst ht hk
  unfold State.boundary
  cases hn : s.cnt.next with
  | none => simp [hn, hrun, hwin, hdue, hexit, hinv, hlate]
  | some c =>
    have hlater : ¬ c.2 ≤ s.cnt.start + (s.gt - s.cnt.start) / s.cnt.window * s.cnt.window := by simpa [hn] using hnext
    simp [hn, hrun, hwin, hdue, hexit, hinv, hlate, hlater]

/-- A waiting configuration whose START_GT has come is in force from then on, with the FIRST snapshot (R669). -/
theorem configDue_starts (s : State) (passed : Nat → Bool) (us g : Nat) (hnext : s.cnt.next = some (us, g)) (hg : g ≤ s.gt)
    (hinv : s.geysState ≠ gsInvalid) (hexit : s.powerState ≠ psExit) :
    s.configDue passed =
      (({ s with cnt := { s.cnt with window := us * 16000, start := g, k := 1, next := none } } : State).wr
        R.CNT_CTRL_RUN 1).snap 0 g (s.cnt.nextLate || passed g) true := by
  have hdue : ¬ s.gt < g := by omega
  simp [State.configDue, hnext, hdue, hinv, hexit]

/-- The slot being written gets its header and becomes the newest one (R672). -/
theorem execSnapshotWriteComplete_writing (s t : State) (w : SnapWrite) (hruns : s.runs = true) (hw : s.cnt.writing = some w)
    (ht : t = (s.hbmStore (s.snapSlot w.slot) (toBytes 256 w.header)).wr R.CNT_SEQ_SEQ w.slot) :
    execSnapshotWriteComplete s = .next ({ t with cnt := { t.cnt with writing := none } } : State).ended := by
  subst ht
  simp [execSnapshotWriteComplete, live_runs, hruns, hw]

/-! ### Register writes by target -/

theorem execRegisterWrite_bar0 (s : State) (h : HPort) (f : Func) (a : BitVec 20) (bytes : Nat) (data : Word)
    (hruns : s.runs = true) :
    execRegisterWrite (.bar0 h f a) bytes data s =
      .next ((s.hostSeen h.val).bar0Write h f a.toNat bytes data.toNat).ended := by
  rw [execRegisterWrite, hostWrites_runs h.val s _ hruns]

/-- BAR2 reaches the global space while EXPERT_EN of the PF is 1 (R737). -/
theorem execRegisterWrite_bar2 (s u : State) (h : HPort) (a : BitVec 29) (bytes : Nat) (data : Word) (hruns : s.runs = true)
    (hu : u = s.hostSeen h.val) :
    execRegisterWrite (.bar2 h a) bytes data s =
      .next (if bitAt (u.rd R.CMD_EXPERT_EXPERT_EN) h.val then (u.busWrite a.toNat bytes data.toNat).carrWatch else u).ended := by
  rw [execRegisterWrite, hostWrites_runs h.val s _ hruns, hu]

/-- The bus reaches every register while the device runs, and else only the fields of the always-on domain (R740). -/
theorem execRegisterWrite_bus (s : State) (a : BitVec 29) (bytes : Nat) (data : Word) :
    execRegisterWrite (.bus a) bytes data s =
      .next (if s.runs then (s.busWrite a.toNat bytes data.toNat).carrWatch
        else s.busWriteAon a.toNat bytes data.toNat).ended := by
  cases hruns : s.runs <;> simp [execRegisterWrite, hruns, fin]

/-- Settles O35: each clause is the row's gate, open while the device runs, before the lemma about its effect. -/
theorem readerEventsComplete : Obligations.ReaderEventsComplete := by
  refine ⟨?boundary, ?written, ?armed, ?started, ?bar0, ?bar2, ?bus⟩
  case boundary =>
    intro s k t hruns hrun hwin hdue hk hnext hexit hinv hlate ht
    rw [exec_counterBoundary_eq, live_runs s _ hruns, boundary_snaps s s.lateFor k _ hrun hwin hdue hk rfl hnext hexit hinv hlate, ht]
  case written =>
    intro s w t hruns hw ht
    rw [exec_snapshotWriteComplete_eq, execSnapshotWriteComplete_writing s t w hruns hw ht]
  case armed =>
    intro gt s hruns
    rw [exec_cntStartWrite_eq, live_runs s _ hruns]
  case started =>
    intro s us g hruns hnext hg hinv hexit
    rw [exec_readerConfigStart_eq, live_runs s _ hruns, configDue_starts s s.lateFor us g hnext hg hinv hexit]
  case bar0 =>
    intro s h f a bytes data u hruns hu
    rw [exec_registerWrite_eq, execRegisterWrite_bar0 s h f a bytes data hruns, hu]
  case bar2 =>
    intro s h a bytes data u hruns hu
    rw [exec_registerWrite_eq, execRegisterWrite_bar2 s u h a bytes data hruns hu]
  case bus =>
    intro s a bytes data
    rw [exec_registerWrite_eq, execRegisterWrite_bus s a bytes data]

/-! ### Accesses that no register takes -/

theorem sizeOk_eq_false (a bytes : Nat) (h : bytes < 4 ∨ a % bytes ≠ 0) : sizeOk a bytes = false := by
  rcases h with hnarrow | hunaligned
  · have h4 : bytes ≠ 4 := by omega
    have h8 : bytes ≠ 8 := by omega
    simp [sizeOk, h4, h8]
  · simp [sizeOk, hunaligned]

section
variable (s : State) (h : HPort) (f : Func) (a bytes data : Nat) (hsize : sizeOk a bytes = false)
include hsize

theorem busWrite_of_not_sizeOk : s.busWrite a bytes data = s := by simp [State.busWrite, hsize]

theorem busWriteAon_of_not_sizeOk : s.busWriteAon a bytes data = s := by simp [State.busWriteAon, hsize]

theorem bar0Write_of_not_sizeOk : s.bar0Write h f a bytes data = s := by simp [State.bar0Write, hsize]

theorem busRead_of_not_sizeOk : s.busRead a bytes = (0, s) := by simp [State.busRead, hsize]

theorem bar0Read_of_not_sizeOk : s.bar0Read h f a bytes = (0, s) := by simp [State.bar0Read, hsize]

/-- BAR2 answers 0 with EXPERT_EN 0, and with EXPERT_EN 1 what the bus answers. -/
theorem bar2Read_of_not_sizeOk : s.bar2Read h a bytes = (0, s) := by
  unfold State.bar2Read
  split
  · exact busRead_of_not_sizeOk s a bytes hsize
  · rfl

end

/-- Settles O60: every path tests the access with `sizeOk` before anything else, and `sizeOk` fails for each of these. -/
theorem narrowAccessHasNoEffect : Obligations.NarrowAccessHasNoEffect := by
  intro s h f a bytes data hnarrow
  have hsize : sizeOk a bytes = false := sizeOk_eq_false a bytes hnarrow
  exact ⟨busWrite_of_not_sizeOk s a bytes data hsize, busWriteAon_of_not_sizeOk s a bytes data hsize,
    bar0Write_of_not_sizeOk s h f a bytes data hsize, busRead_of_not_sizeOk s a bytes hsize,
    bar0Read_of_not_sizeOk s h f a bytes hsize, bar2Read_of_not_sizeOk s h a bytes hsize⟩

end Sys2Proof.Machine
end

section
/-! What each row of the port and link, routing, and transport, window and matching opcodes comes to when its command starts
(16_command_packets.md Tables 16.6 and 16.7), the crossbar's grants and tails and the receive pipelines (01_architecture.md R28 to R31),
and what a count leaves in its counter's word (19_performance_counters.md R661). -/

namespace Sys2Proof.Machine

/-! ### Counters -/

theorem ovfOf_key_ne (f : RegField) (i : Nat) (hlow : f.low = 0) : (ovfOf f).key i 0 ≠ f.key i 0 := by
  simp [RegField.key, ovfOf, hlow]

@[simp] theorem rd_setCnt (s : State) (x : CntState) (f : RegField) (i j : Nat) :
    ({ s with cnt := x } : State).rd f i j = s.rd f i j := rfl

/-- A count below 2^48 is stored and nothing else happens. -/
theorem bump_of_lt (s : State) (f : RegField) (i n : Nat) (h : s.rd f i + n < 2 ^ 48) :
    s.bump f i n = s.wr f (s.rd f i + n) i := if_pos h

/-- A register field reads after a count that wraps as after the write of the value and of OVF (R661). -/
theorem rd_bump_of_wrap (s : State) (f g : RegField) (i n a b : Nat) (h : ¬ s.rd f i + n < 2 ^ 48) :
    (s.bump f i n).rd g a b = ((s.wr f (s.rd f i + n) i).wr (ovfOf f) 1 i).rd g a b := by
  rw [State.bump, if_neg h, rd_setCnt]

theorem rd_bump_value (s : State) (f : RegField) (i n : Nat) (hlow : f.low = 0) (hwidth : f.width = 48) :
    (s.bump f i n).rd f i = (s.rd f i + n) % 2 ^ 48 := by
  by_cases h : s.rd f i + n < 2 ^ 48
  · rw [bump_of_lt s f i n h, rd_wr_same, hwidth]
  · rw [rd_bump_of_wrap s f f i n i 0 h, rd_wr_other _ _ _ _ _ _ _ _ (ovfOf_key_ne f i hlow).symm, rd_wr_same, hwidth]

theorem rd_bump_ovf (s : State) (f : RegField) (i n : Nat) (hlow : f.low = 0) :
    (s.bump f i n).rd (ovfOf f) i = if s.rd f i + n < 2 ^ 48 then s.rd (ovfOf f) i else 1 := by
  by_cases h : s.rd f i + n < 2 ^ 48
  · rw [if_pos h, bump_of_lt s f i n h, rd_wr_other _ _ _ _ _ _ _ _ (ovfOf_key_ne f i hlow)]
  · rw [if_neg h, rd_bump_of_wrap s f (ovfOf f) i n i 0 h, rd_wr_same]
    rfl

theorem bump_sameRegs (s : State) (f : RegField) (i n : Nat) : SameRegs (counterKeys f i) s (s.bump f i n) := by
  by_cases h : s.rd f i + n < 2 ^ 48
  · rw [bump_of_lt s f i n h]
    exact wr_sameRegs s f _ i 0 (by simp [counterKeys])
  · intro g a b hg
    rw [rd_bump_of_wrap s f g i n a b h]
    exact ((wr_sameRegs s f _ i 0 (by simp [counterKeys])).trans (wr_sameRegs _ (ovfOf f) 1 i 0 (by simp [counterKeys]))) g a b hg

/-- Settles O49: VALUE and OVF are different fields of the counter's word, and OVF is written on a wrap alone. -/
theorem counterCounts : Obligations.CounterCounts := by
  intro s f i n hlow hwidth
  exact ⟨rd_bump_value s f i n hlow hwidth, rd_bump_ovf s f i n hlow, bump_sameRegs s f i n⟩

/-! ### Crossbar grants and packet tails -/

/-- The row of a grant, for the state that the wake leaves: an output that is free marks the packets it may not take and serves the
next one. -/
theorem exec_crossbarGrant_runs (output : Fin 108) (s t v : State) (w : Waiting) (hruns : s.runs = true)
    (ht : t = s.netRxWake output.val) (hfree : t.outputFree output.val = true)
    (hv : v = ((t.waiting output.val).filter fun x => !t.fits output.val x).foldl State.markDenied t)
    (hw : v.nextWaiting output.val ((v.waiting output.val).filter (v.admits output.val)) = some w) :
    exec (.crossbarGrant output) s =
      .next (if output.val < 96 ∧ v.linkState output.val = lkRetired then v.discardRetired output.val w
        else v.grant output.val w).ended := by
  subst hv ht
  show execCrossbarGrant output s = _
  rw [execCrossbarGrant, live_runs s _ hruns]
  simp [hfree, hw]

theorem exec_packetTailPass_complete (output : Fin 108) (s : State) (h : Holder) (k : BufPkt) (hruns : s.runs = true)
    (hheld : s.heldPkt output.val = some (h, k)) (hneed : k.need = 0) (hsent : 96 ≤ output.val ∨ k.sent = k.seen.length) :
    exec (.packetTailPass output) s = .next (s.tailPass output.val h k).ended := by
  show execPacketTailPass output s = _
  rw [execPacketTailPass, live_runs s _ hruns]
  simp [hheld, hneed, hsent]

/-! ### Receive pipelines -/

section
variable (s : State) (e : Nat) (p : List Flit) (rest : List (List Flit)) (hq : s.rx e = p :: rest)
include hq

/-- A wrong end-to-end CRC drops the packet and counts it (R31). -/
theorem rxFront_crcBad (hcrc : pktCrcOk p = false) : s.rxFront e = (s.rxDrop e).bump C.TPT_CRC_E2E := by
  simp [State.rxFront, hq, hcrc]

theorem rxFront_coll (hcrc : pktCrcOk p = true) (hform : malformed (p.headD 0) = false)
    (hpt : hPtype (p.headD 0) = ptCollResult ∨ hPtype (p.headD 0) = ptLineMcast) : s.rxFront e = s.rxColl e p := by
  unfold State.rxFront
  rw [hq]
  simp only [hcrc, hform, hpt, Bool.not_true, Bool.false_eq_true, if_false, Bool.or_eq_true, decide_eq_true_eq, if_true]

/-- The types that are neither a collective's result nor another block's go to the transport. -/
theorem rxFront_transport (hcrc : pktCrcOk p = true) (hform : malformed (p.headD 0) = false)
    (hpt : hPtype (p.headD 0) ∉ ([ptCollContrib, ptCollResult, ptLineMcast, ptMgmtReq, ptMgmtResp] : List Nat)) :
    s.rxFront e = s.rxPacket e p := by
  simp only [List.mem_cons, List.not_mem_nil, or_false, not_or] at hpt
  obtain ⟨hcontrib, hresult, hmcast, hreq, hresp⟩ := hpt
  unfold State.rxFront
  rw [hq]
  simp only [hcrc, hform, hcontrib, hresult, hmcast, hreq, hresp, Bool.not_true, Bool.false_eq_true, if_false, decide_false,
    Bool.or_self]

end

/-- A pipeline that lets no packet pass another takes the one in front. -/
theorem exec_rxPipelinePacket_front (e : Fin 10) (s : State) (p : List Flit) (rest : List (List Flit)) (heng : s.engines = true)
    (hpass : s.rxPasses e.val = none) (hq : s.rx e.val = p :: rest) :
    exec (.rxPipelinePacket e) s = .next ((s.rxFront e.val).rxAcks e.val p).ended := by
  show execRxPipelinePacket e s = _
  rw [execRxPipelinePacket, engine_runs s _ heng]
  simp [hpass, hq]

/-- A response that passes is taken as if it stood in front, and the waiting packet's place in the pipeline is kept. -/
theorem exec_rxPipelinePacket_passes (e : Fin 10) (s : State) (j : Nat) (p : List Flit) (heng : s.engines = true)
    (hpass : s.rxPasses e.val = some j) (hp : (s.rx e.val)[j]? = some p) :
    exec (.rxPipelinePacket e) s =
      .next (((((s.setRx e.val (p :: (s.rx e.val).eraseIdx j)).setPipe e.val {}).rxFront e.val).setPipe e.val
        (s.pipe e.val)).rxAcks e.val p).ended := by
  show execRxPipelinePacket e s = _
  rw [execRxPipelinePacket, engine_runs s _ heng]
  simp [hpass, hp]

/-- Settles O15: each clause is the row with its gate open, before what it does with the packet it finds. -/
theorem crossbarCommandsComplete : Obligations.CrossbarCommandsComplete := by
  refine ⟨exec_crossbarGrant_runs, exec_packetTailPass_complete, ?transport, ?coll, ?crcBad, ?passes⟩
  case transport =>
    intro e s p rest heng hpass hq hcrc hform hpt
    rw [exec_rxPipelinePacket_front e s p rest heng hpass hq, rxFront_transport s e.val p rest hq hcrc hform hpt]
  case coll =>
    intro e s p rest heng hpass hq hcrc hform hpt
    rw [exec_rxPipelinePacket_front e s p rest heng hpass hq, rxFront_coll s e.val p rest hq hcrc hform hpt]
  case crcBad =>
    intro e s p rest heng hpass hq hcrc
    rw [exec_rxPipelinePacket_front e s p rest heng hpass hq, rxFront_crcBad s e.val p rest hq hcrc]
  case passes =>
    intro e s j p v heng hpass hp hv
    rw [exec_rxPipelinePacket_passes e s j p heng hpass hp, hv]

/-! ### How the row of an opcode ends -/

/-- The row of an opcode whose command starts, with what its effect comes to. -/
theorem command_effect {b : Issuer} {code : Nat} {c : CmdRef} {ps : List Byte} {s u t : State} {n : Nat} (f : Nat → State → State)
    (h : Starts s b code c ps n u) (ht : f n u = t) : command b code c ps s f = .next t.ended := by
  rw [command_starts f h, ht]

theorem commandLink_effect {b : Issuer} {code : Nat} {c : CmdRef} {ps : List Byte} {s u t : State} {n : Nat}
    (f : Nat → State → State) (h : Starts s b code c ps n u) (ht : f n u = t) :
    commandLink b code c ps s f = .next t.carrWatch.ended := by
  rw [commandLink_starts f h, ht]

section
variable (s : State) (n : Nat)

theorem okIf_true {ok : Bool} (f : State → State) (h : ok = true) : s.okIf n ok f = (f s).ends n stOk := if_pos h

theorem okIf_false {ok : Bool} (f : State → State) (h : ok = false) : s.okIf n ok f = s.ends n stBadParam :=
  if_neg (by simp [h])

end

/-- One more upper bound among the conditions of a row. -/
theorem and_le_true {b : Bool} {x m : Nat} (hb : b = true) (hx : x ≤ m) : (b && decide (x ≤ m)) = true := by simp [hb, hx]

theorem and_le_false {b : Bool} {x m : Nat} (h : b = false ∨ m < x) : (b && decide (x ≤ m)) = false := by
  rcases h with hb | hx
  · simp [hb]
  · simp [Nat.not_le.mpr hx]

section
variable (s : State) (n : Nat) (c : CmdRef)

theorem forServed_serves (f : State → State) (h : s.serves (keyPort (pathFn c.path)) = true) : s.forServed n c f = f s := if_pos h

theorem forServed_standby (f : State → State) (h : s.serves (keyPort (pathFn c.path)) = false) :
    s.forServed n c f = s.ends n stNotPermitted := if_neg (by simp [h])

variable {found : Bool} {owner : Nat} (f : State → State)

theorem owned_missing (hfound : found = false) : s.owned n c found owner f = s.ends n stBadParam := if_pos (by simp [hfound])

theorem owned_foreign (hfound : found = true) (howner : owner ≠ pathFn c.path) :
    s.owned n c found owner f = s.ends n stNotPermitted :=
  (if_neg (by simp [hfound])).trans (if_pos howner)

theorem owned_own (hfound : found = true) (howner : owner = pathFn c.path) : s.owned n c found owner f = f s :=
  (if_neg (by simp [hfound])).trans (if_neg (not_not.mpr howner))

end

section
variable (s : State) (n : Nat) (c : CmdRef)

section
variable {ctx : Nat} (f : State → State)

theorem ownCtx_missing (hvalid : (s.ctx ctx).valid = false) : s.ownCtx n c ctx f = s.ends n stBadParam :=
  owned_missing s n c f hvalid

theorem ownCtx_foreign (hvalid : (s.ctx ctx).valid = true) (howner : fkey (s.ctx ctx).hport (s.ctx ctx).func ≠ pathFn c.path) :
    s.ownCtx n c ctx f = s.ends n stNotPermitted := owned_foreign s n c f hvalid howner

theorem ownCtx_own (hvalid : (s.ctx ctx).valid = true) (howner : fkey (s.ctx ctx).hport (s.ctx ctx).func = pathFn c.path) :
    s.ownCtx n c ctx f = f s := owned_own s n c f hvalid howner

end

variable {q : Nat} (f : Qp → State)

theorem ownQp_missing (hvalid : (s.qp q).valid = false) : s.ownQp n c q f = s.ends n stBadParam :=
  owned_missing s n c (fun _ => f (s.qp q)) hvalid

theorem ownQp_foreign (hvalid : (s.qp q).valid = true) (howner : (s.qp q).func ≠ pathFn c.path) :
    s.ownQp n c q f = s.ends n stNotPermitted := owned_foreign s n c (fun _ => f (s.qp q)) hvalid howner

theorem ownQp_own (hvalid : (s.qp q).valid = true) (howner : (s.qp q).func = pathFn c.path) : s.ownQp n c q f = f (s.qp q) :=
  owned_own s n c (fun _ => f (s.qp q)) hvalid howner

end

section
variable (s : State) (n : Nat) (c : CmdRef) (addr : Nat) {len : Nat} (hlen : 0 < len) (failed : List Byte)
  (f : State → List Byte → State)
include hlen

theorem withBuffer_some {bs : List Byte} (hbs : bs.length = len) :
    s.withBuffer n c addr len (some bs) failed f = f (s.hostRead (cmdReq c addr) len) bs := by
  simp [State.withBuffer, hbs, hlen.ne']

/-- A read that fails raises DMA_ERR, and the command ends FAILED (R749). -/
theorem withBuffer_none : s.withBuffer n c addr len none failed f =
    ((s.hostRead (cmdReq c addr) len).dmaError (pathFn c.path)).finalReply n stFailed failed := by
  simp [State.withBuffer, hlen.ne']

end

/-! ### The port and link opcodes (16_command_packets.md Table 16.6) -/

/-- The ports that LINK_TIMERS names. -/
def timerPorts (port : Nat) : List Nat := if port = 255 then List.range 96 else [port]

/-- What LINK_TIMERS asks of its parameters. -/
def State.timersOk (s : State) (port replay xoff : Nat) : Bool :=
  (portParam port || port = 255) && R.LINK_TMR_REPLAY_TMR.allows replay && R.LINK_TMR_XOFF_WDOG.allows xoff &&
    (timerPorts port).all fun p => s.linkRtt p + 3200 ≤ replay

theorem timerPorts_all : timerPorts 255 = List.range 96 := rfl

theorem timerPorts_port {port : Nat} (h : portParam port = true) : timerPorts port = [port] := by
  have hlt : port < 96 := by simpa [portParam] using h
  exact if_neg (by omega)

theorem timersOk_iff (s : State) (port replay xoff : Nat) : s.timersOk port replay xoff = true ↔
    R.LINK_TMR_REPLAY_TMR.allows replay = true ∧ R.LINK_TMR_XOFF_WDOG.allows xoff = true ∧
      (portParam port = true ∧ s.linkRtt port + 3200 ≤ replay ∨
        port = 255 ∧ (List.range 96).all (fun p => decide (s.linkRtt p + 3200 ≤ replay)) = true) := by
  by_cases hport : portParam port = true
  · have hne : port ≠ 255 := by rintro rfl; exact absurd hport (by decide)
    simp [State.timersOk, timerPorts_port hport, hport, hne, and_assoc]
  · by_cases hall : port = 255
    · subst hall
      simp [State.timersOk, timerPorts_all, hport, and_assoc]
    · simp [State.timersOk, hport, hall]

theorem exec_linkTimers_starts {c : CmdRef} {port : BitVec 8} {replayTmr xoffWdog : BitVec 32} {s u : State} {n : Nat}
    (h : Starts s .d 0x0106 c (pack [(1, port.toNat), (4, replayTmr.toNat), (4, xoffWdog.toNat)]) n u) :
    exec (.linkTimers c port replayTmr xoffWdog) s =
      .next (u.okIf n (u.timersOk port.toNat replayTmr.toNat xoffWdog.toNat) fun s => (timerPorts port.toNat).foldl
        (fun s p => (s.wr R.LINK_TMR_REPLAY_TMR replayTmr.toNat p).wr R.LINK_TMR_XOFF_WDOG xoffWdog.toNat p) s).ended :=
  command_starts _ h

/-- Settles O2: each clause is its row's effect when the command has started, decided by the row's own test. -/
theorem portCommandsComplete : Obligations.PortCommandsComplete := by
  refine ⟨?enable, ?enableBad, ?preset, ?presetBad, ?retrain, ?retrainBad, ?status, ?statusBad, ?peer, ?peerBad, ?retire, ?retireUp,
    ?retireBad, ?timers, ?timersAll, ?timersBad, ?asym, ?asymBad, ?neighbour, ?neighbourBad, ?lpEnable, ?lpEnableBad⟩
  case enable | retrain =>
    intro c port x s u n h hport hx
    exact commandLink_effect _ h (okIf_true u n _ (and_le_true hport hx))
  case enableBad | retrainBad =>
    intro c port x s u n h hbad
    exact commandLink_effect _ h (okIf_false u n _ (and_le_false hbad))
  case preset | lpEnable =>
    intro c port x s u n h hport hx
    exact command_effect _ h (okIf_true u n _ (and_le_true hport hx))
  case presetBad | lpEnableBad =>
    intro c port x s u n h hbad
    exact command_effect _ h (okIf_false u n _ (and_le_false hbad))
  case status | peer =>
    intro c port s u n h hport
    exact command_effect _ h (if_pos hport)
  case statusBad | peerBad =>
    intro c port s u n h hport
    exact command_effect _ h (if_neg (by simp [hport]))
  case retire =>
    intro c port s u n h hport hdown
    exact commandLink_effect _ h ((if_neg (by simp [hport])).trans (if_neg (not_not.mpr hdown)))
  case retireUp =>
    intro c port s u n h hport hup
    exact commandLink_effect _ h ((if_neg (by simp [hport])).trans (if_pos hup))
  case retireBad =>
    intro c port s u n h hport
    exact commandLink_effect _ h (if_pos (by simp [hport]))
  case timers =>
    intro c port replayTmr xoffWdog s u n h hport hreplay hxoff hrtt
    have hok := (timersOk_iff u port.toNat _ _).mpr ⟨hreplay, hxoff, .inl ⟨hport, hrtt⟩⟩
    rw [exec_linkTimers_starts h, okIf_true u n _ hok, timerPorts_port hport, List.foldl_cons, List.foldl_nil]
  case timersAll =>
    intro c port replayTmr xoffWdog s u n h hport hreplay hxoff hrtt
    have hok := (timersOk_iff u port.toNat _ _).mpr ⟨hreplay, hxoff, .inr ⟨hport, hrtt⟩⟩
    rw [exec_linkTimers_starts h, okIf_true u n _ hok, hport, timerPorts_all]
  case timersBad =>
    intro c port replayTmr xoffWdog s u n h hbad
    rw [exec_linkTimers_starts h, okIf_false u n _ (Bool.eq_false_iff.mpr (mt (timersOk_iff u port.toNat _ _).mp hbad))]
  case asym =>
    intro c port asym s u n h hport
    exact command_effect _ h (okIf_true u n _ hport)
  case asymBad =>
    intro c port asym s u n h hport
    exact command_effect _ h (okIf_false u n _ hport)
  case neighbour =>
    intro c port s u n h hport
    exact command_effect _ h (if_neg (by simp [hport]))
  case neighbourBad =>
    intro c port s u n h hport
    exact command_effect _ h (if_pos (by simp [hport]))

/-! ### The routing opcodes (16_command_packets.md Table 16.6) -/

/-- What FLIP asks of its parameters (R253). -/
def State.flipParamsOk (s : State) (g id mode : Nat) : Prop :=
  mode ≤ 3 ∧ s.gt + 1600000 ≤ g ∧ g ≤ s.gt + 160000000000 ∧ s.bankValid (1 - s.activeBank) = true ∧
    id = (s.rd R.ROUT_BANK_LAST_ID + 1) % 65536

theorem flipParams_pass_iff (s : State) (g id mode : Nat) :
    ¬ (mode > 3 || g < s.gt + 1600000 || g > s.gt + 160000000000 || !s.bankValid (1 - s.activeBank) ||
      id ≠ (s.rd R.ROUT_BANK_LAST_ID + 1) % 65536) = true ↔ s.flipParamsOk g id mode := by
  simp [State.flipParamsOk, and_assoc]

/-- ALIAS_BULK reads its entries once its ranges and the bank's lock let it, and stores them where all of them are valid (R252, R747). -/
theorem exec_aliasBulk_reads {c : CmdRef} {bank : BitVec 8} {first count : BitVec 16} {addr : BitVec 64} {data : HostRead} {s u : State}
    {n : Nat} (h : Starts s .p 0x0201 c (pack [(1, bank.toNat), (2, first.toNat), (2, count.toNat), (8, addr.toNat)]) n u)
    (hbank : bank.toNat ≤ 1) (hlast : first.toNat + count.toNat ≤ 4096) (hcount : 0 < count.toNat)
    (hfree : u.bankLocked bank.toNat = false) :
    exec (.aliasBulk c bank first count addr data) s =
      .next (u.withBuffer n c addr.toNat (8 * count.toNat) data [] fun s bs =>
        s.okIf n ((words8 count.toNat bs).all (aliasEntryOk s.topo)) fun s =>
          s.setAliasBank bank.toNat (((List.range count.toNat).zip (words8 count.toNat bs)).foldl
            (fun t ie => tput 0 t (first.toNat + ie.1) ie.2) (s.aliasBank bank.toNat))).ended :=
  command_effect _ h ((if_neg (by simp [hbank, hlast])).trans ((if_neg hcount.ne').trans (if_neg (by simp [hfree]))))

/-- Settles O3: each clause is its row's effect when the command has started, followed through the row's tests in their order. -/
theorem routingCommandsComplete : Obligations.RoutingCommandsComplete := by
  refine ⟨?aliasWrite, ?aliasWriteBusy, ?aliasWriteRange, ?aliasWriteEntry, ?aliasBulk, ?aliasBulkEmpty, ?aliasBulkRange, ?aliasBulkBusy,
    ?aliasBulkFailed, ?aliasBulkEntry, ?excl, ?exclBad, ?exclBusy, ?flip, ?flipBad, ?flipBusy, ?flipTime, ?transit, ?transitBad, ?topo,
    ?topoBad, ?topoBusy, ?topoFailed, ?cost, ?costBad, ?throttle, ?throttleBad, ?routeStatus, ?rows, ?rowsBad, ?throttleRead, ?aliasRead,
    ?aliasReadBad, ?hold, ?holdBad⟩
  case aliasWrite =>
    intro c bank index entry s u n h hbank hindex hfree hentry
    exact command_effect _ h ((if_neg (by simp [hbank, hindex])).trans ((if_neg (by simp [hfree])).trans (okIf_true u n _ hentry)))
  case aliasWriteBusy =>
    intro c bank index entry s u n h hbank hindex hlocked
    exact command_effect _ h ((if_neg (by simp [hbank, hindex])).trans (if_pos hlocked))
  case aliasWriteRange =>
    intro c bank index entry s u n h hrange
    exact command_effect _ h (if_pos (by simpa using hrange))
  case aliasWriteEntry =>
    intro c bank index entry s u n h hbank hindex hfree hentry
    exact command_effect _ h ((if_neg (by simp [hbank, hindex])).trans ((if_neg (by simp [hfree])).trans (okIf_false u n _ hentry)))
  case aliasBulk =>
    intro c bank first count addr data s u n bs v h hbank hlast hcount hfree hdata hbs hv hentries
    subst hdata hv
    rw [exec_aliasBulk_reads h hbank hlast hcount hfree, withBuffer_some u n c _ (by omega) _ _ hbs, okIf_true _ n _ hentries]
  case aliasBulkEmpty =>
    intro c bank first count addr data s u n h hbank hfirst hcount
    exact command_effect _ h ((if_neg (by simp [hbank, hcount, hfirst])).trans (if_pos hcount))
  case aliasBulkRange =>
    intro c bank first count addr data s u n h hrange
    exact command_effect _ h (if_pos (by simpa using hrange))
  case aliasBulkBusy =>
    intro c bank first count addr data s u n h hbank hlast hcount hlocked
    exact command_effect _ h ((if_neg (by simp [hbank, hlast])).trans ((if_neg hcount.ne').trans (if_pos hlocked)))
  case aliasBulkFailed =>
    intro c bank first count addr data s u n h hbank hlast hcount hfree hdata
    rw [exec_aliasBulk_reads h hbank hlast hcount hfree, hdata, withBuffer_none u n c _ (by omega)]
  case aliasBulkEntry =>
    intro c bank first count addr data s u n bs v h hbank hlast hcount hfree hdata hbs hv hentries
    subst hdata hv
    rw [exec_aliasBulk_reads h hbank hlast hcount hfree, withBuffer_some u n c _ (by omega) _ _ hbs, okIf_false _ n _ hentries]
  case excl =>
    intro c bank maskLo maskHi s u n h hbank hfree
    exact command_effect _ h ((if_neg (Nat.not_lt.mpr hbank)).trans (if_neg (by simp [hfree])))
  case exclBad =>
    intro c bank maskLo maskHi s u n h hbank
    exact command_effect _ h (if_pos hbank)
  case exclBusy =>
    intro c bank maskLo maskHi s u n h hbank hlocked
    exact command_effect _ h ((if_neg (Nat.not_lt.mpr hbank)).trans (if_pos hlocked))
  case flip =>
    intro c targetGt flipId newMode s u n h hmode hearly hlate hvalid hid harmed hholding hest hinv
    have hparams := (flipParams_pass_iff u ..).mpr ⟨hmode, hearly, hlate, hvalid, hid⟩
    exact command_effect _ h ((if_neg hparams).trans
      ((if_neg (by simp [harmed, hholding])).trans (if_neg (by simp [hest, hinv]))))
  case flipBad =>
    intro c targetGt flipId newMode s u n h hparams
    exact command_effect _ h (if_pos ((not_iff_comm.mp (flipParams_pass_iff u ..)).mp hparams))
  case flipBusy =>
    intro c targetGt flipId newMode s u n h hmode hearly hlate hvalid hid hbusy
    have hparams := (flipParams_pass_iff u ..).mpr ⟨hmode, hearly, hlate, hvalid, hid⟩
    exact command_effect _ h ((if_neg hparams).trans
      (if_pos (by simpa using hbusy)))
  case flipTime =>
    intro c targetGt flipId newMode s u n h hmode hearly hlate hvalid hid harmed hholding htime
    have hparams := (flipParams_pass_iff u ..).mpr ⟨hmode, hearly, hlate, hvalid, hid⟩
    exact command_effect _ h ((if_neg hparams).trans
      ((if_neg (by simp [harmed, hholding])).trans (if_pos (by simpa using htime))))
  case transit =>
    intro c off s u n h hoff
    exact command_effect _ h (okIf_true u n _ (decide_eq_true hoff))
  case transitBad =>
    intro c off s u n h hoff
    exact command_effect _ h (okIf_false u n _ (decide_eq_false (Nat.not_le.mpr hoff)))
  case topo =>
    intro c topo mramOk s u n h hvalid hbusy hmram
    exact command_effect _ h ((if_neg (by simp [hvalid])).trans ((if_neg (by simp [hbusy])).trans (if_neg (by simp [hmram]))))
  case topoBad =>
    intro c topo mramOk s u n h hvalid
    exact command_effect _ h (if_pos (by simp [hvalid]))
  case topoBusy =>
    intro c topo mramOk s u n h hvalid hbusy
    exact command_effect _ h ((if_neg (by simp [hvalid])).trans (if_pos hbusy))
  case topoFailed =>
    intro c topo mramOk s u n h hvalid hbusy hmram
    exact command_effect _ h ((if_neg (by simp [hvalid])).trans ((if_neg (by simp [hbusy])).trans (if_pos (by simp [hmram]))))
  case cost =>
    intro c markThr detThr detBias s u n h hmark
    exact command_effect _ h (okIf_true u n _ hmark)
  case costBad =>
    intro c markThr detThr detBias s u n h hmark
    exact command_effect _ h (okIf_false u n _ hmark)
  case throttle =>
    intro c aiStep mdShift rateMin aiPkts lqThr markEvery thrEn s u n h hall
    exact command_effect _ h (okIf_true u n _ hall)
  case throttleBad =>
    intro c aiStep mdShift rateMin aiPkts lqThr markEvery thrEn s u n h hall
    exact command_effect _ h (okIf_false u n _ hall)
  case routeStatus =>
    intro c s u n h
    exact command_starts _ h
  case rows | aliasRead =>
    intro c x outAddr s u n h hx
    exact command_effect _ h (okIf_true u n _ (decide_eq_true hx))
  case rowsBad | aliasReadBad =>
    intro c x outAddr s u n h hx
    exact command_effect _ h (okIf_false u n _ (decide_eq_false (Nat.not_le.mpr hx)))
  case throttleRead =>
    intro c outAddr s u n h
    exact command_starts _ h
  case hold =>
    intro c hold s u n h hallows hlife
    exact command_effect _ h (okIf_true u n _ (and_le_true hallows hlife))
  case holdBad =>
    intro c hold s u n h hbad
    exact command_effect _ h (okIf_false u n _ (and_le_false hbad))

/-! ### The transport, window and matching opcodes (16_command_packets.md Table 16.7) -/

/-- What WIN_OPEN asks of its parameters once the host port and the context are those of its function. -/
def State.winParamsOk (s : State) (job gen perm scopePid cntEn peerPid cntIdx : Nat) (w : WinEntry) : Prop :=
  s.jobIs job gen = true ∧ perm ≤ 3 ∧ scopePid ≤ 1 ∧ cntEn ≤ 1 ∧ peerPid < 2 ^ 20 ∧ cntIdx < 2 ^ 20 ∧ s.windowRanges w = true

theorem winParams_pass_iff (s : State) (job gen perm scopePid cntEn peerPid cntIdx : Nat) (w : WinEntry) :
    ¬ (!s.jobIs job gen || !(perm ≤ 3 && scopePid ≤ 1 && cntEn ≤ 1 && peerPid < 2 ^ 20 && cntIdx < 2 ^ 20) ||
      !s.windowRanges w) = true ↔
      s.winParamsOk job gen perm scopePid cntEn peerPid cntIdx w := by
  cases hjob : s.jobIs job gen
  · simp [State.winParamsOk, hjob]
  · cases hranges : s.windowRanges w
    · simp [State.winParamsOk, hranges]
    · simp [State.winParamsOk, hjob, hranges, and_assoc]

/-- Settles O8: each clause is its row's effect when the command has started, followed through the row's tests in their order. -/
theorem transportCommandsComplete : Obligations.TransportCommandsComplete := by
  refine ⟨?timers, ?timersBad, ?ackcfg, ?ackcfgBad, ?tcReset, ?tcResetBad, ?tcStatus, ?tcStatusBad, ?winOpen, ?winOpenStandby,
    ?winOpenNoCtx, ?winOpenForeign, ?winOpenBad, ?winOpenFull, ?winOpenDisabled, ?winRevoke, ?winStatus, ?winStatusBad,
    ?winStatusForeign, ?matCfg, ?matCfgBad, ?matStatus, ?matQpStatus, ?matQpStatusBad, ?matQpStatusForeign⟩
  case timers =>
    intro c lifetime giveup s u n h hlife hgive hle
    exact command_effect _ h (okIf_true u n _ (and_le_true (by rw [hlife, hgive]; rfl) hle))
  case timersBad =>
    intro c lifetime giveup s u n h hbad
    exact command_effect _ h (okIf_false u n _ (and_le_false ((or_assoc.mpr hbad).imp_left Bool.and_eq_false_iff.mpr)))
  case ackcfg | matCfg =>
    intro c x y s u n h hall
    exact command_effect _ h (okIf_true u n _ hall)
  case ackcfgBad | matCfgBad =>
    intro c x y s u n h hall
    exact command_effect _ h (okIf_false u n _ hall)
  case tcReset =>
    intro c pid s u n h hpid
    exact command_effect _ h (okIf_true u n _ (decide_eq_true hpid))
  case tcResetBad =>
    intro c pid s u n h hpid
    exact command_effect _ h (okIf_false u n _ (decide_eq_false (Nat.not_lt.mpr hpid)))
  case tcStatus =>
    intro c pid s u n h hpid
    exact command_effect _ h (if_neg (Nat.not_le.mpr hpid))
  case tcStatusBad =>
    intro c pid s u n h hpid
    exact command_effect _ h (if_pos hpid)
  case winOpen =>
    intro c perm scopePid cntEn gen ctx job peerPid cntIdx base length s u n w i h hserves hctx howner hw hjob hperm hscope hcnt
      hpeer hidx hranges hfree hfn
    subst hw
    have hparams := (winParams_pass_iff u ..).mpr ⟨hjob, hperm, hscope, hcnt, hpeer, hidx, hranges⟩
    refine command_effect _ h ((forServed_serves u n c _ hserves).trans ((ownCtx_own u n c _ hctx howner).trans
      ((if_neg hparams).trans ?_)))
    rw [hfree]
    exact if_neg (not_not.mpr hfn)
  case winOpenStandby =>
    intro c perm scopePid cntEn gen ctx job peerPid cntIdx base length s u n h hserves
    exact command_effect _ h (forServed_standby u n c _ hserves)
  case winOpenNoCtx =>
    intro c perm scopePid cntEn gen ctx job peerPid cntIdx base length s u n h hserves hctx
    exact command_effect _ h ((forServed_serves u n c _ hserves).trans (ownCtx_missing u n c _ hctx))
  case winOpenForeign =>
    intro c perm scopePid cntEn gen ctx job peerPid cntIdx base length s u n h hserves hctx howner
    exact command_effect _ h ((forServed_serves u n c _ hserves).trans (ownCtx_foreign u n c _ hctx howner))
  case winOpenBad =>
    intro c perm scopePid cntEn gen ctx job peerPid cntIdx base length s u n w h hserves hctx howner hw hparams
    subst hw
    exact command_effect _ h ((forServed_serves u n c _ hserves).trans ((ownCtx_own u n c _ hctx howner).trans
      (if_pos ((not_iff_comm.mp (winParams_pass_iff u ..)).mp hparams))))
  case winOpenFull =>
    intro c perm scopePid cntEn gen ctx job peerPid cntIdx base length s u n w h hserves hctx howner hw hjob hperm hscope hcnt
      hpeer hidx hranges hfree
    subst hw
    have hparams := (winParams_pass_iff u ..).mpr ⟨hjob, hperm, hscope, hcnt, hpeer, hidx, hranges⟩
    refine command_effect _ h ((forServed_serves u n c _ hserves).trans ((ownCtx_own u n c _ hctx howner).trans
      ((if_neg hparams).trans ?_)))
    rw [hfree]
  case winOpenDisabled =>
    intro c perm scopePid cntEn gen ctx job peerPid cntIdx base length s u n w i h hserves hctx howner hw hjob hperm hscope hcnt
      hpeer hidx hranges hfree hfn
    subst hw
    have hparams := (winParams_pass_iff u ..).mpr ⟨hjob, hperm, hscope, hcnt, hpeer, hidx, hranges⟩
    refine command_effect _ h ((forServed_serves u n c _ hserves).trans ((ownCtx_own u n c _ hctx howner).trans
      ((if_neg hparams).trans ?_)))
    rw [hfree]
    exact if_pos hfn
  case winRevoke =>
    intro c key s u n h
    exact command_starts _ h
  case winStatus =>
    intro c key s u n h hindex hopened howner
    exact command_effect _ h (owned_own u n c _ (by simp [hindex, hopened]) howner)
  case winStatusBad =>
    intro c key s u n h hmissing
    exact command_effect _ h (owned_missing u n c _ (Bool.and_eq_false_iff.mpr (hmissing.imp_left (decide_eq_false ∘ Nat.not_lt.mpr))))
  case winStatusForeign =>
    intro c key s u n h hindex hopened howner
    exact command_effect _ h (owned_foreign u n c _ (by simp [hindex, hopened]) howner)
  case matStatus =>
    intro c s u n h
    exact command_starts _ h
  case matQpStatus =>
    intro c qidx s u n x h hx hvalid howner
    subst hx
    exact command_effect _ h (ownQp_own u n c _ hvalid howner)
  case matQpStatusBad =>
    intro c qidx s u n h hvalid
    exact command_effect _ h (ownQp_missing u n c _ hvalid)
  case matQpStatusForeign =>
    intro c qidx s u n h hvalid howner
    exact command_effect _ h (ownQp_foreign u n c _ hvalid howner)

end Sys2Proof.Machine
end

section
/-! The grid: bit fields of the topology word, the PIDs valid in it, and the port assignment of R65 as a bijection between the ports of
a dimension and its links (02_grid_and_addressing.md R58, R61, R65, Table 2.1). -/

namespace Sys2Proof.Machine

/-! ### Bit fields -/

theorem testBit_field (x lo w i : Nat) : (field x lo w).testBit i = (decide (i < w) && x.testBit (lo + i)) := by
  rw [field, Nat.testBit_mod_two_pow, Nat.testBit_div_two_pow, Nat.add_comm]

theorem testBit_setField (x lo w v i : Nat) :
    (setField x lo w v).testBit i = if lo ≤ i ∧ i < lo + w then v.testBit (i - lo) else x.testBit i := by
  have hsplit : setField x lo w v = 2 ^ lo * (2 ^ w * (x / 2 ^ (lo + w)) + v % 2 ^ w) + x % 2 ^ lo := by
    rw [setField, Nat.pow_add]
    ring
  rw [hsplit, Nat.testBit_two_pow_mul_add _ (Nat.mod_lt _ (by positivity)),
    Nat.testBit_two_pow_mul_add _ (Nat.mod_lt _ (by positivity)), Nat.testBit_mod_two_pow, Nat.testBit_mod_two_pow,
    Nat.testBit_div_two_pow]
  by_cases hbelow : i < lo
  · simp [hbelow, Nat.not_le.mpr hbelow]
  · by_cases hin : i < lo + w
    · simp [hbelow, hin, Nat.not_lt.mp hbelow, show i - lo < w by omega]
    · simp [hbelow, hin, show ¬ i - lo < w by omega, show i - lo - w + (lo + w) = i by omega]

theorem field_lt (x lo w : Nat) : field x lo w < 2 ^ w := Nat.mod_lt _ (by positivity)

theorem field_setField_same (x lo w v : Nat) (h : v < 2 ^ w) : field (setField x lo w v) lo w = v := by
  refine Nat.eq_of_testBit_eq fun i => ?_
  rw [testBit_field, testBit_setField]
  by_cases hi : i < w
  · simp [hi]
  · simp [hi, Nat.testBit_lt_two_pow (h.trans_le (Nat.pow_le_pow_right two_pos (Nat.not_lt.mp hi)))]

theorem field_setField_other (x lo w v lo' w' : Nat) (h : lo' + w' ≤ lo ∨ lo + w ≤ lo') :
    field (setField x lo w v) lo' w' = field x lo' w' := by
  refine Nat.eq_of_testBit_eq fun i => ?_
  rw [testBit_field, testBit_field, testBit_setField]
  by_cases hi : i < w'
  · rw [if_neg (by omega)]
  · simp [hi]

/-- A field that is replaced and then put back. -/
theorem setField_setField_field (x lo w v : Nat) : setField (setField x lo w v) lo w (field x lo w) = x := by
  refine Nat.eq_of_testBit_eq fun i => ?_
  rw [testBit_setField, testBit_setField]
  by_cases hin : lo ≤ i ∧ i < lo + w
  · rw [if_pos hin, testBit_field, show lo + (i - lo) = i by omega]
    simp [show i - lo < w by omega]
  · rw [if_neg hin, if_neg hin]

theorem setField_lt (x lo w v n : Nat) (hx : x < 2 ^ n) (h : lo + w ≤ n) : setField x lo w v < 2 ^ n := by
  refine Nat.lt_pow_two_of_testBit _ fun i hi => ?_
  rw [testBit_setField, if_neg (by omega)]
  exact Nat.testBit_lt_two_pow (hx.trans_le (Nat.pow_le_pow_right two_pos hi))

/-! ### PIDs (R60, R61) -/

theorem mem_dims {d : Nat} : d ∈ dims ↔ d < 4 := by
  simp only [dims, List.mem_cons, List.not_mem_nil, or_false]
  omega

theorem validPidIn_iff (w pid : Nat) : validPidIn w pid = true ↔ ∀ d < 4, coord pid d < topoSize w d := by
  simp [validPidIn, mem_dims]

/-- Settles O55: `validPidIn` tests the four dimensions, of which `mem_dims` says that they are all. -/
theorem validPid : Obligations.ValidPid := by
  intro s pid
  exact validPidIn_iff s.topo pid

theorem coord_withCoord_same (pid d c : Nat) (h : c < 32) : coord (withCoord pid d c) d = c :=
  field_setField_same pid (5 * d) 5 c h

theorem coord_withCoord_other (pid d c e : Nat) (h : e ≠ d) : coord (withCoord pid d c) e = coord pid e :=
  field_setField_other pid (5 * d) 5 c (5 * e) 5 (by omega)

theorem withCoord_withCoord_coord (pid d c : Nat) : withCoord (withCoord pid d c) d (coord pid d) = pid :=
  setField_setField_field pid (5 * d) 5 c

theorem withCoord_lt (pid d c : Nat) (hpid : pid < 2 ^ 20) (hd : d < 4) : withCoord pid d c < 2 ^ 20 :=
  setField_lt pid (5 * d) 5 c 20 hpid (by omega)

theorem topoOwnPid_lt (w : Nat) : topoOwnPid w < 2 ^ 20 := field_lt w 32 20

/-- A PID stays valid when one coordinate takes another value below the size of its dimension. -/
theorem withCoord_valid (w pid d c : Nat) (h : validPidIn w pid = true) (hc32 : c < 32) (hc : c < topoSize w d) :
    validPidIn w (withCoord pid d c) = true := by
  rw [validPidIn_iff] at h ⊢
  intro e he
  by_cases hed : e = d
  · rw [hed, coord_withCoord_same pid d c hc32]
    exact hc
  · rw [coord_withCoord_other pid d c e hed]
    exact h e he

/-- A valid PID and one that differs from it in the coordinate of one dimension are different. -/
theorem withCoord_ne {pid d c : Nat} (h : c < 32) (hne : c ≠ coord pid d) : withCoord pid d c ≠ pid := by
  intro heq
  exact hne (by rw [← coord_withCoord_same pid d c h, heq])

/-! ### The mate's PID (R68) -/

/-- The mate differs in the lowest bit, which is that of the first coordinate. -/
theorem mate_eq_withCoord (pid : Nat) : pid ^^^ 1 = withCoord pid 0 (coord pid 0 ^^^ 1) := by
  refine Nat.eq_of_testBit_eq fun i => ?_
  rw [withCoord, testBit_setField, Nat.testBit_xor]
  by_cases hi : i < 5
  · rw [if_pos (by omega), Nat.testBit_xor, coord, testBit_field]
    simp [hi]
  · rw [if_neg (by omega), Nat.testBit_lt_two_pow (Nat.one_lt_two_pow (show i ≠ 0 by omega)), Bool.xor_false]

theorem xor_one_lt_of_even {x n : Nat} (hx : x < n) (hn : n % 2 = 0) : x ^^^ 1 < n := by
  rcases Nat.even_or_odd x with he | ho
  · rw [Nat.xor_one_of_even he]
    have := Nat.even_iff.mp he
    omega
  · rw [Nat.xor_one_of_odd ho]
    omega

theorem xor_one_ne (x : Nat) : x ^^^ 1 ≠ x := by
  rcases Nat.even_or_odd x with he | ho
  · rw [Nat.xor_one_of_even he]
    omega
  · rw [Nat.xor_one_of_odd ho]
    have := ho.pos
    omega

/-! ### The topology word of another device: the same word with its PID -/

section
variable (w pid d : Nat)

theorem topoSize_setPid (h : d < 4) : topoSize (setField w 32 20 pid) d = topoSize w d :=
  field_setField_other w 32 20 pid (8 * d) 6 (by omega)

theorem topoWidth_setPid (h : d < 4) : topoWidth (setField w 32 20 pid) d = topoWidth w d :=
  congrArg (· + 1) (field_setField_other w 32 20 pid (8 * d + 6) 2 (by omega))

theorem topoOwnPid_setPid (h : pid < 2 ^ 20) : topoOwnPid (setField w 32 20 pid) = pid := field_setField_same w 32 20 pid h

theorem topoPaired_setPid : topoPaired (setField w 32 20 pid) = topoPaired w := by
  rw [topoPaired, topoPaired, field_setField_other w 32 20 pid 52 1 (by omega)]

theorem isCarr_setPid (p : Nat) : isCarr (setField w 32 20 pid) p = isCarr w p := by
  rw [isCarr, isCarr, topoPaired_setPid]

theorem validPidIn_setPid (x : Nat) : validPidIn (setField w 32 20 pid) x = validPidIn w x := by
  rw [Bool.eq_iff_iff, validPidIn_iff, validPidIn_iff]
  exact forall₂_congr fun d hd => by rw [topoSize_setPid w pid d hd]

end

/-! ### The ports of a dimension -/

/-- The number of ports of dimension `d` (R65). -/
def dimCount (w d : Nat) : Nat := (topoSize w d - 1) * topoWidth w d

theorem dimBase_zero (w : Nat) : dimBase w 0 = 0 := rfl

theorem dimBase_succ (w d : Nat) : dimBase w (d + 1) = dimBase w d + dimCount w d := by
  simp [dimBase, dimCount, List.range_succ]

theorem dimBase_mono (w : Nat) : Monotone (dimBase w) :=
  monotone_nat_of_le_succ fun d => by rw [dimBase_succ]; omega

theorem dimCount_setPid (w pid d : Nat) (h : d < 4) : dimCount (setField w 32 20 pid) d = dimCount w d := by
  rw [dimCount, dimCount, topoSize_setPid w pid d h, topoWidth_setPid w pid d h]

theorem dimBase_setPid (w pid d : Nat) (h : d ≤ 4) : dimBase (setField w 32 20 pid) d = dimBase w d := by
  induction d with
  | zero => rw [dimBase_zero, dimBase_zero]
  | succ d ih => rw [dimBase_succ, dimBase_succ, ih (by omega), dimCount_setPid w pid d (by omega)]

/-- What R58 accepts, with the ports of all dimensions counted by the base of a fifth. -/
theorem topoValid_iff (w : Nat) : topoValid w = true ↔
    (∀ d < 4, 1 ≤ topoSize w d ∧ topoSize w d ≤ 32) ∧ (∀ d < 4, topoSize w d ≠ 1 ∨ topoWidth w d = 1) ∧ dimBase w 4 ≤ 94 ∧
      validPidIn w (topoOwnPid w) = true ∧ (topoPaired w = true → topoSize w 0 % 2 = 0) ∧ field w 53 11 = 0 := by
  have hsum : (dims.map fun d => (topoSize w d - 1) * topoWidth w d).sum = dimBase w 4 := rfl
  simp only [topoValid, hsum, Bool.and_eq_true, List.all_eq_true, mem_dims, decide_eq_true_eq, Bool.or_eq_true, Bool.not_eq_true',
    and_assoc, ← Bool.not_eq_true, imp_iff_not_or]

/-- R58 asks the same of the word of every device, but for that device's own PID. -/
theorem topoValid_setPid (w pid : Nat) (h : topoValid w = true) (hlt : pid < 2 ^ 20) (hpid : validPidIn w pid = true) :
    topoValid (setField w 32 20 pid) = true := by
  rw [topoValid_iff] at h ⊢
  obtain ⟨hsize, hwidth, hports, -, hpaired, hrsvd⟩ := h
  refine ⟨fun d hd => ?_, fun d hd => ?_, ?_, ?_, ?_, ?_⟩
  · rw [topoSize_setPid w pid d hd]
    exact hsize d hd
  · rw [topoSize_setPid w pid d hd, topoWidth_setPid w pid d hd]
    exact hwidth d hd
  · rw [dimBase_setPid w pid 4 le_rfl]
    exact hports
  · rw [topoOwnPid_setPid w pid hlt, validPidIn_setPid]
    exact hpid
  · rw [topoPaired_setPid, topoSize_setPid w pid 0 (by omega)]
    exact hpaired
  · rw [field_setField_other w 32 20 pid 53 11 (by omega)]
    exact hrsvd

/-! ### The port assignment of R65 -/

/-- The own coordinate in a dimension. -/
def ownCoord (w d : Nat) : Nat := coord (topoOwnPid w) d

/-- The other members of a dimension in order: the place of the one at coordinate `v`, and the coordinate of the one at a place. -/
def linkSlot (own v : Nat) : Nat := if v < own then v else v - 1
def slotCoord (own slot : Nat) : Nat := if slot < own then slot else slot + 1

section
variable (own v slot n : Nat)

theorem slotCoord_linkSlot (h : v ≠ own) : slotCoord own (linkSlot own v) = v := by
  by_cases hv : v < own
  · simp [slotCoord, linkSlot, hv]
  · simp [slotCoord, linkSlot, hv, show ¬ v - 1 < own by omega, show v - 1 + 1 = v by omega]

theorem linkSlot_slotCoord : linkSlot own (slotCoord own slot) = slot := by
  by_cases hs : slot < own
  · simp [slotCoord, linkSlot, hs]
  · simp [slotCoord, linkSlot, hs, show ¬ slot + 1 < own by omega]

theorem linkSlot_lt (hown : own < n) (hv : v < n) (h : v ≠ own) : linkSlot own v < n - 1 := by
  unfold linkSlot
  split <;> omega

theorem slotCoord_lt (h : slot < n - 1) : slotCoord own slot < n := by
  unfold slotCoord
  split <;> omega

theorem slotCoord_ne : slotCoord own slot ≠ own := by
  unfold slotCoord
  split <;> omega

end

/-- What R65 assigns to a port as one of dimension `d`. -/
def dimRole (w p d : Nat) : Option (Nat × Nat × Nat) :=
  if dimBase w d ≤ p && p < dimBase w d + dimCount w d then
    some (d, slotCoord (ownCoord w d) ((p - dimBase w d) / topoWidth w d), (p - dimBase w d) % topoWidth w d)
  else none

theorem portRole_eq_findSome (w p : Nat) : portRole w p = dims.findSome? (dimRole w p) := rfl

/-- A port with a role in a dimension lies between the bases of this and of the next one. -/
theorem dimRole_some {w p d : Nat} {r : Nat × Nat × Nat} (h : dimRole w p d = some r) :
    dimBase w d ≤ p ∧ p < dimBase w (d + 1) := by
  rw [dimBase_succ]
  unfold dimRole at h
  split at h
  · rename_i hin
    simpa using hin
  · cases h

/-- The port ranges of the dimensions do not meet, so the first dimension that has the port is the only one. -/
theorem portRole_eq_some_iff {w p : Nat} {r : Nat × Nat × Nat} :
    portRole w p = some r ↔ ∃ d < 4, dimRole w p d = some r := by
  rw [portRole_eq_findSome]
  constructor
  · intro h
    obtain ⟨d, hd, hr⟩ := List.exists_of_findSome?_eq_some h
    exact ⟨d, mem_dims.mp hd, hr⟩
  · rintro ⟨d, hd, hr⟩
    cases hfound : dims.findSome? (dimRole w p) with
    | none => exact absurd (List.findSome?_eq_none_iff.mp hfound d (mem_dims.mpr hd)) (by simp [hr])
    | some r' =>
      obtain ⟨e, -, hr'⟩ := List.exists_of_findSome?_eq_some hfound
      have hp := dimRole_some hr
      have hp' := dimRole_some hr'
      rcases lt_trichotomy d e with hlt | rfl | hlt
      · have := dimBase_mono w (show d + 1 ≤ e from hlt)
        omega
      · exact hr'.symm.trans hr
      · have := dimBase_mono w (show e + 1 ≤ d from hlt)
        omega

section
variable {w d v k : Nat}

/-- `v` is the coordinate of another member of dimension `d`, and `k` the number of a link to it. -/
def linkTo (w d v k : Nat) : Prop := d < 4 ∧ v < topoSize w d ∧ v ≠ ownCoord w d ∧ k < topoWidth w d

theorem portTo_eq (w d v k : Nat) :
    portTo w d v k = dimBase w d + (linkSlot (ownCoord w d) v * topoWidth w d + k) := Nat.add_assoc ..

theorem dimRole_portTo (hown : ownCoord w d < topoSize w d) (h : linkTo w d v k) :
    dimRole w (portTo w d v k) d = some (d, v, k) := by
  obtain ⟨-, hv, hne, hk⟩ := h
  have hslot := linkSlot_lt _ _ _ hown hv hne
  have hcoord := slotCoord_linkSlot _ _ hne
  rw [portTo_eq]
  generalize linkSlot (ownCoord w d) v = slot at hslot hcoord
  have hin : slot * topoWidth w d + k < dimCount w d :=
    calc slot * topoWidth w d + k < slot * topoWidth w d + topoWidth w d := Nat.add_lt_add_left hk _
      _ = (slot + 1) * topoWidth w d := (Nat.succ_mul ..).symm
      _ ≤ dimCount w d := Nat.mul_le_mul_right _ hslot
  have hdiv : (slot * topoWidth w d + k) / topoWidth w d = slot := by
    rw [Nat.mul_comm, Nat.mul_add_div (by omega), Nat.div_eq_of_lt hk, Nat.add_zero]
  simp [dimRole, hin, hdiv, hcoord, Nat.mod_eq_of_lt hk]

/-- A port with a role is the one that R65 gives to the link of its role. -/
theorem portRole_some {p : Nat} (h : portRole w p = some (d, v, k)) :
    linkTo w d v k ∧ p = portTo w d v k := by
  obtain ⟨e, he, hr⟩ := portRole_eq_some_iff.mp h
  have hin := dimRole_some hr
  rw [dimBase_succ] at hin
  obtain ⟨hbase, hlast⟩ := hin
  simp only [dimRole, hbase, hlast, decide_true, Bool.and_self, if_true, Option.some.injEq, Prod.mk.injEq] at hr
  obtain ⟨rfl, rfl, rfl⟩ := hr
  have hslot : (p - dimBase w e) / topoWidth w e < topoSize w e - 1 :=
    Nat.div_lt_of_lt_mul (by rw [Nat.mul_comm]; exact (by omega : p - dimBase w e < dimCount w e))
  refine ⟨⟨he, slotCoord_lt _ _ _ hslot, slotCoord_ne _ _, Nat.mod_lt _ (Nat.succ_pos _)⟩, ?_⟩
  rw [portTo_eq, linkSlot_slotCoord, Nat.div_add_mod']
  omega

end

/-! ### The wiring -/

/-- The topology word of the member at coordinate `v` of dimension `d`: the same word with that member's PID. -/
def memberTopo (w d v : Nat) : Nat := setField w 32 20 (withCoord (topoOwnPid w) d v)

section
variable (w : Nat) {d : Nat} (v : Nat) (hd : d < 4)
include hd

theorem memberTopo_ownPid : topoOwnPid (memberTopo w d v) = withCoord (topoOwnPid w) d v :=
  topoOwnPid_setPid w _ (withCoord_lt _ d v (topoOwnPid_lt w) hd)

theorem memberTopo_ownCoord (hv : v < 32) : ownCoord (memberTopo w d v) d = v := by
  rw [ownCoord, memberTopo_ownPid w v hd, coord_withCoord_same _ d v hv]

/-- Seen from the other member, the own PID is that of the member at the own coordinate. -/
theorem withCoord_ownCoord_memberTopo : withCoord (topoOwnPid (memberTopo w d v)) d (ownCoord w d) = topoOwnPid w := by
  rw [memberTopo_ownPid w v hd]
  exact withCoord_withCoord_coord (topoOwnPid w) d v

theorem memberTopo_memberTopo : memberTopo (memberTopo w d v) d (ownCoord w d) = w := by
  rw [memberTopo, withCoord_ownCoord_memberTopo w v hd]
  exact setField_setField_field w 32 20 (withCoord (topoOwnPid w) d v)

end

theorem expectedPeer_carr {w p : Nat} (h : isCarr w p = true) : expectedPeer w p = some (topoOwnPid w ^^^ 1) := if_pos h

theorem expectedPeerPort_carr {w p : Nat} (h : isCarr w p = true) : expectedPeerPort w p = some p := if_pos h

section
variable {w p d v k : Nat} (h : isCarr w p = false) (hrole : portRole w p = some (d, v, k))
include h hrole

theorem expectedPeer_grid : expectedPeer w p = some (withCoord (topoOwnPid w) d v) := by
  simp [expectedPeer, h, hrole]

/-- The port at the peer is the one that the assignment gives the peer for the link back. -/
theorem expectedPeerPort_grid (hd : d < 4) :
    expectedPeerPort w p = some (portTo (memberTopo w d v) d (ownCoord w d) k) := by
  simp only [expectedPeerPort, h, hrole, portTo, memberTopo_ownPid w v hd]
  rw [memberTopo, dimBase_setPid w _ d hd.le, topoWidth_setPid w _ d hd]
  rfl

end

section
variable {w d v k : Nat} (hw : topoValid w = true)
include hw

theorem ownCoord_lt (hd : d < 4) : ownCoord w d < topoSize w d := by
  obtain ⟨-, -, -, hown, -⟩ := (topoValid_iff w).mp hw
  exact (validPidIn_iff w _).mp hown d hd

theorem coord_lt_of_lt_size (hd : d < 4) (hv : v < topoSize w d) : v < 32 := by
  obtain ⟨hsize, -⟩ := (topoValid_iff w).mp hw
  exact hv.trans_le (hsize d hd).2

/-- Another member of a dimension has a valid PID other than the own one, and its topology word is accepted. -/
theorem member_accepted (h : linkTo w d v k) :
    validPidIn w (withCoord (topoOwnPid w) d v) = true ∧ withCoord (topoOwnPid w) d v ≠ topoOwnPid w ∧
      topoValid (memberTopo w d v) = true := by
  obtain ⟨hd, hv, hne, -⟩ := h
  have h32 := coord_lt_of_lt_size hw hd hv
  obtain ⟨-, -, -, hown, -⟩ := (topoValid_iff w).mp hw
  have hvalid := withCoord_valid w _ d v hown h32 hv
  exact ⟨hvalid, withCoord_ne h32 hne, topoValid_setPid w _ hw (withCoord_lt _ d v (topoOwnPid_lt w) hd) hvalid⟩

/-- Seen from the member at `v`, the own coordinate is that of another member, with as many links. -/
theorem linkTo_back (h : linkTo w d v k) : linkTo (memberTopo w d v) d (ownCoord w d) k := by
  obtain ⟨hd, hv, hne, hk⟩ := h
  refine ⟨hd, ?_, ?_, ?_⟩
  · rw [memberTopo, topoSize_setPid w _ d hd]
    exact ownCoord_lt hw hd
  · rw [memberTopo_ownCoord w v hd (coord_lt_of_lt_size hw hd hv)]
    exact hne.symm
  · rw [memberTopo, topoWidth_setPid w _ d hd]
    exact hk

/-- The port of a link lies below the CARR ports (R58) and has that link as its role. -/
theorem portTo_role (h : linkTo w d v k) :
    portTo w d v k < 94 ∧ isCarr w (portTo w d v k) = false ∧ portRole w (portTo w d v k) = some (d, v, k) := by
  have hrole := dimRole_portTo (ownCoord_lt hw h.1) h
  obtain ⟨-, -, hports, -⟩ := (topoValid_iff w).mp hw
  have hin := (dimRole_some hrole).2
  have hlast := dimBase_mono w (show d + 1 ≤ 4 from h.1)
  have hlt : portTo w d v k < 94 := by omega
  exact ⟨hlt, by simp [isCarr, hlt.ne, show portTo w d v k ≠ 95 by omega], portRole_eq_some_iff.mpr ⟨d, h.1, hrole⟩⟩

/-- The port that the peer has for the link back is joined to the own PID and to the port of the link. -/
theorem grid_symmetric (h : linkTo w d v k) (haccepted : topoValid (memberTopo w d v) = true) :
    portTo (memberTopo w d v) d (ownCoord w d) k < 94 ∧
      expectedPeer (memberTopo w d v) (portTo (memberTopo w d v) d (ownCoord w d) k) = some (topoOwnPid w) ∧
      expectedPeerPort (memberTopo w d v) (portTo (memberTopo w d v) d (ownCoord w d) k) = some (portTo w d v k) := by
  obtain ⟨hlt, hcarr, hrole⟩ := portTo_role haccepted (linkTo_back hw h)
  obtain ⟨hd, hv, -, -⟩ := h
  refine ⟨hlt, ?_, ?_⟩
  · rw [expectedPeer_grid hcarr hrole, withCoord_ownCoord_memberTopo w v hd]
  · rw [expectedPeerPort_grid hcarr hrole hd, memberTopo_memberTopo w v hd,
      memberTopo_ownCoord w v hd (coord_lt_of_lt_size hw hd hv)]

end

/-- The CARR ports join ports of the same number at the device and at its mate, which is a neighbour in the first dimension (R27). -/
theorem carr_symmetric {w p : Nat} (hw : topoValid w = true) (hcarr : isCarr w p = true) :
    validPidIn w (topoOwnPid w ^^^ 1) = true ∧ topoOwnPid w ^^^ 1 ≠ topoOwnPid w ∧
      topoValid (setField w 32 20 (topoOwnPid w ^^^ 1)) = true ∧
      expectedPeer (setField w 32 20 (topoOwnPid w ^^^ 1)) p = some (topoOwnPid w) ∧
      expectedPeerPort (setField w 32 20 (topoOwnPid w ^^^ 1)) p = some p := by
  have hpaired : topoPaired w = true := (Bool.and_eq_true_iff.mp hcarr).1
  obtain ⟨-, -, -, -, heven, -⟩ := (topoValid_iff w).mp hw
  have hlink : linkTo w 0 (ownCoord w 0 ^^^ 1) 0 :=
    ⟨by omega, xor_one_lt_of_even (ownCoord_lt hw (by omega)) (heven hpaired), xor_one_ne _, Nat.succ_pos _⟩
  have hmate := member_accepted hw hlink
  rw [memberTopo, ownCoord, ← mate_eq_withCoord] at hmate
  obtain ⟨hvalid, hne, haccepted⟩ := hmate
  have hback : isCarr (setField w 32 20 (topoOwnPid w ^^^ 1)) p = true := by rw [isCarr_setPid, hcarr]
  refine ⟨hvalid, hne, haccepted, ?_, expectedPeerPort_carr hback⟩
  rw [expectedPeer_carr hback, topoOwnPid_setPid w _ (Nat.xor_lt_two_pow (topoOwnPid_lt w) (by decide)), Nat.xor_assoc, Nat.xor_self,
    Nat.xor_zero]

/-- Settles O50: the CARR ports by `carr_symmetric`; a grid port's role names a link (`portRole_some`), the port at the peer is the
one that R65 gives the peer for the link back, and that port's role at the peer is this link back (`portRole_portTo`). -/
theorem wiringIsSymmetric : Obligations.WiringIsSymmetric := by
  intro w p peer q _ hw hp hpeer hq
  cases hcarr : isCarr w p with
  | true =>
    rw [expectedPeer_carr hcarr] at hpeer
    rw [expectedPeerPort_carr hcarr] at hq
    cases hpeer
    cases hq
    obtain ⟨hvalid, hne, haccepted, hback, hbackPort⟩ := carr_symmetric hw hcarr
    exact ⟨hvalid, hne, hp, haccepted, hback, hbackPort⟩
  | false =>
    cases hrole : portRole w p with
    | none => simp [expectedPeer, hcarr, hrole] at hpeer
    | some r =>
      obtain ⟨d, v, k⟩ := r
      obtain ⟨hlink, hport⟩ := portRole_some hrole
      rw [expectedPeer_grid hcarr hrole] at hpeer
      rw [expectedPeerPort_grid hcarr hrole hlink.1] at hq
      cases hpeer
      cases hq
      obtain ⟨hvalid, hne, haccepted⟩ := member_accepted hw hlink
      obtain ⟨hlt, hback, hbackPort⟩ := grid_symmetric hw hlink haccepted
      exact ⟨hvalid, hne, hlt.trans (by decide), haccepted, hback, hport ▸ hbackPort⟩

end Sys2Proof.Machine
end

section
/-! What each row of the host and queue opcodes comes to when its command starts (16_command_packets.md Table 16.7;
02_grid_and_addressing.md R72 to R82). -/

namespace Sys2Proof.Machine

/-! ### The function that a command names (R588) -/

section
variable (s : State) (n : Nat) (c : CmdRef) {func : Nat} (f : Nat → State)

theorem namedFn_range (h : 63 < func) : s.namedFn n c func f = s.ends n stBadParam := if_pos h

theorem namedFn_foreign (h : func ≤ 63) (hown : func ≠ keyFunc (pathFn c.path)) (hvf : keyFunc (pathFn c.path) ≠ 0) :
    s.namedFn n c func f = s.ends n stNotPermitted :=
  (if_neg (Nat.not_lt.mpr h)).trans (if_pos (by simp [hown, hvf]))

theorem namedFn_allowed (h : func ≤ 63) (hown : func = keyFunc (pathFn c.path) ∨ keyFunc (pathFn c.path) = 0) :
    s.namedFn n c func f = f (fkey (keyPort (pathFn c.path)) func) :=
  (if_neg (Nat.not_lt.mpr h)).trans (if_neg (by simpa [or_iff_not_imp_left] using hown))

end

/-! ### What the rows ask of their parameters -/

/-- What EQ_CREATE asks of the vector and the ring once the host port and the context are those of its function (R354, R382). -/
theorem eqParams_fail_iff (s : State) (k vec log base : Nat) :
    (vec ≥ maxVec k || (s.eqAt k vec).valid || !ringLog log || !pageAligned base) = true ↔
      maxVec k ≤ vec ∨ (s.eqAt k vec).valid = true ∨ ringLog log = false ∨ pageAligned base = false := by
  simp [or_assoc]

/-- What JOB_BIND refuses BAD_PARAM (R82). -/
theorem jobRange_fail_iff (job ranks : Nat) :
    (job = 0 || ranks < 1 || ranks > 16777216) = true ↔ job = 0 ∨ ranks < 1 ∨ 16777216 < ranks := by
  simp [or_assoc]

theorem jobRange_pass {job ranks : Nat} (hjob : job ≠ 0) (hlow : 1 ≤ ranks) (hhigh : ranks ≤ 16777216) :
    ¬ (job = 0 || ranks < 1 || ranks > 16777216) = true := by
  rw [jobRange_fail_iff]
  omega

/-- What RANK_WRITE asks of its parameters (R80, R82). -/
theorem rankWrite_fail (s : State) {job gen rank entry : Nat}
    (h : s.jobIs job gen = false ∨ tget 0 s.host.jobRanks job ≤ rank ∨ s.rankEntryOk entry = false) :
    (s.jobIs job gen && rank < tget 0 s.host.jobRanks job && s.rankEntryOk entry) = false := by
  rcases h with hjob | hrank | hentry
  · simp [hjob]
  · simp [Nat.not_lt.mpr hrank]
  · simp [hentry]

/-- RANK_BULK reads its entries once the job and the range of its ranks let it, and stores them where all of them are valid (R82, R749). -/
theorem exec_rankBulk_reads {c : CmdRef} {job : BitVec 16} {gen : BitVec 8} {first count : BitVec 32} {addr : BitVec 64} {data : HostRead}
    {s u : State} {n : Nat}
    (h : Starts s .p 0x050B c (pack [(2, job.toNat), (1, gen.toNat), (4, first.toNat), (4, count.toNat), (8, addr.toNat)]) n u)
    (hjob : u.jobIs job.toNat gen.toNat = true) (hrange : first.toNat + count.toNat ≤ tget 0 u.host.jobRanks job.toNat) :
    exec (.rankBulk c job gen first count addr data) s =
      .next (u.withBuffer n c addr.toNat (8 * count.toNat) data [] fun s bs =>
        s.okIf n ((words8 count.toNat bs).all s.rankEntryOk) fun s =>
          s.hbmStore (tget 0 s.host.jobTable job.toNat + 8 * first.toNat) bs).ended :=
  command_effect _ h (if_neg (by simp [hjob, hrange]))

/-- An empty buffer needs no read of the host. -/
theorem withBuffer_empty (s : State) (n : Nat) (c : CmdRef) (addr : Nat) (failed : List Byte) (f : State → List Byte → State) :
    s.withBuffer n c addr 0 none failed f = f s [] := rfl

/-- Settles O6: each clause is its row's effect when the command has started, followed through the row's tests in their order. -/
theorem hostCommandsComplete : Obligations.HostCommandsComplete := by
  refine ⟨?qpCreate, ?qpStandby, ?qpNoCtx, ?qpForeignCtx, ?qpBad, ?qpFull, ?eqCreate, ?eqStandby, ?eqNoCtx, ?eqForeignCtx, ?eqBad,
    ?reset, ?resetRange, ?resetForeign, ?fnStatus, ?fnStatusRange, ?fnStatusForeign, ?qpStatus, ?qpStatusBad, ?qpStatusForeign, ?held,
    ?hport, ?hportBad, ?poll, ?pollBad, ?bind, ?bindBad, ?bindBusy, ?bindFull, ?release, ?releaseBusy, ?releaseBad, ?rankWrite,
    ?rankWriteBad, ?rankBulk, ?rankBulkRange, ?rankBulkFailed, ?rankBulkEmpty, ?rankBulkEntry, ?jobStatus, ?jobStatusBad⟩
  case qpCreate =>
    intro c ctx job gen sqLog rqLog cqLog dbMode batchN eq sqBase rqBase cqBase record s u n p h hp hserves hctx howner heq hok hqp hslot
    subst hp
    exact command_effect _ h ((forServed_serves u n c _ hserves).trans ((ownCtx_own u n c _ hctx howner).trans
      ((if_neg (by simp [heq, hok])).trans (if_neg (by simp [Option.isSome_iff_ne_none.mp hqp, Option.isSome_iff_ne_none.mp hslot])))))
  case qpStandby =>
    intro c ctx job gen sqLog rqLog cqLog dbMode batchN eq sqBase rqBase cqBase record s u n h hserves
    exact command_effect _ h (forServed_standby u n c _ hserves)
  case qpNoCtx =>
    intro c ctx job gen sqLog rqLog cqLog dbMode batchN eq sqBase rqBase cqBase record s u n h hserves hctx
    exact command_effect _ h ((forServed_serves u n c _ hserves).trans (ownCtx_missing u n c _ hctx))
  case qpForeignCtx =>
    intro c ctx job gen sqLog rqLog cqLog dbMode batchN eq sqBase rqBase cqBase record s u n h hserves hctx howner
    exact command_effect _ h ((forServed_serves u n c _ hserves).trans (ownCtx_foreign u n c _ hctx howner))
  case qpBad =>
    intro c ctx job gen sqLog rqLog cqLog dbMode batchN eq sqBase rqBase cqBase record s u n p h hp hserves hctx howner hbad
    subst hp
    exact command_effect _ h ((forServed_serves u n c _ hserves).trans ((ownCtx_own u n c _ hctx howner).trans
      (if_pos (by simpa using hbad))))
  case qpFull =>
    intro c ctx job gen sqLog rqLog cqLog dbMode batchN eq sqBase rqBase cqBase record s u n p h hp hserves hctx howner heq hok hfull
    subst hp
    exact command_effect _ h ((forServed_serves u n c _ hserves).trans ((ownCtx_own u n c _ hctx howner).trans
      ((if_neg (by simp [heq, hok])).trans (if_pos (by simpa using hfull)))))
  case eqCreate =>
    intro c ctx vec log base s u n p h hp hserves hctx howner hvec heq hlog hbase
    subst hp
    exact command_effect _ h ((forServed_serves u n c _ hserves).trans ((ownCtx_own u n c _ hctx howner).trans
      (if_neg (by simp [hvec, heq, hlog, hbase]))))
  case eqStandby =>
    intro c ctx vec log base s u n h hserves
    exact command_effect _ h (forServed_standby u n c _ hserves)
  case eqNoCtx =>
    intro c ctx vec log base s u n h hserves hctx
    exact command_effect _ h ((forServed_serves u n c _ hserves).trans (ownCtx_missing u n c _ hctx))
  case eqForeignCtx =>
    intro c ctx vec log base s u n h hserves hctx howner
    exact command_effect _ h ((forServed_serves u n c _ hserves).trans (ownCtx_foreign u n c _ hctx howner))
  case eqBad =>
    intro c ctx vec log base s u n h hserves hctx howner hbad
    exact command_effect _ h ((forServed_serves u n c _ hserves).trans ((ownCtx_own u n c _ hctx howner).trans
      (if_pos ((eqParams_fail_iff u ..).mpr hbad))))
  case reset =>
    intro c func s u n k v h hfunc hown hk hv
    subst hk hv
    exact command_effect _ h (namedFn_allowed u n c _ hfunc hown)
  case resetRange | fnStatusRange =>
    intro c func s u n h hfunc
    exact command_effect _ h (namedFn_range u n c _ hfunc)
  case resetForeign | fnStatusForeign =>
    intro c func s u n h hfunc hown hvf
    exact command_effect _ h (namedFn_foreign u n c _ hfunc hown hvf)
  case fnStatus =>
    intro c func s u n h hfunc hown
    exact command_effect _ h (namedFn_allowed u n c _ hfunc hown)
  case qpStatus =>
    intro c qidx s u n h hvalid howner
    exact command_effect _ h (ownQp_own u n c _ hvalid howner)
  case qpStatusBad =>
    intro c qidx s u n h hvalid
    exact command_effect _ h (ownQp_missing u n c _ hvalid)
  case qpStatusForeign =>
    intro c qidx s u n h hvalid howner
    exact command_effect _ h (ownQp_foreign u n c _ hvalid howner)
  case held =>
    intro c s u n h
    exact command_starts _ h
  case hport =>
    intro c cxlEn s u n h hen
    exact command_effect _ h (okIf_true u n _ (decide_eq_true hen))
  case hportBad =>
    intro c cxlEn s u n h hen
    exact command_effect _ h (okIf_false u n _ (decide_eq_false (Nat.not_le.mpr hen)))
  case poll =>
    intro c rate s u n h hrate
    exact command_effect _ h (okIf_true u n _ (by simp [hrate]))
  case pollBad =>
    intro c rate s u n h hrate
    exact command_effect _ h (okIf_false u n _ (by simp [hrate]))
  case bind =>
    intro c job ranks s u n slot mib h hjob hlow hhigh hfree hslot hmib
    refine command_effect _ h ((if_neg (jobRange_pass hjob hlow hhigh)).trans ((if_neg (by simp [hfree])).trans ?_))
    rw [hslot, hmib]
  case bindBad =>
    intro c job ranks s u n h hbad
    exact command_effect _ h (if_pos ((jobRange_fail_iff ..).mpr hbad))
  case bindBusy =>
    intro c job ranks s u n h hjob hlow hhigh hbound
    exact command_effect _ h ((if_neg (jobRange_pass hjob hlow hhigh)).trans (if_pos hbound))
  case bindFull =>
    intro c job ranks s u n h hjob hlow hhigh hfree hfull
    refine command_effect _ h ((if_neg (jobRange_pass hjob hlow hhigh)).trans ((if_neg (by simp [hfree])).trans ?_))
    rcases hfull with hslot | hmib
    · rw [hslot]
    · rw [hmib]
      cases u.freeJobSlot <;> rfl
  case release =>
    intro c job gen s u n h hjob hfree
    exact command_effect _ h ((if_neg (by simp [hjob])).trans (if_neg (by simp [hfree])))
  case releaseBusy =>
    intro c job gen s u n h hjob huse
    exact command_effect _ h ((if_neg (by simp [hjob])).trans (if_pos huse))
  case releaseBad =>
    intro c job gen s u n h hjob
    exact command_effect _ h (if_pos (by simp [hjob]))
  case rankWrite =>
    intro c job gen rank entry s u n h hjob hrank hentry
    exact command_effect _ h (okIf_true u n _ (by simp [hjob, hrank, hentry]))
  case rankWriteBad =>
    intro c job gen rank entry s u n h hbad
    exact command_effect _ h (okIf_false u n _ (rankWrite_fail u hbad))
  case rankBulk =>
    intro c job gen first count addr data s u n bs v h hjob hrange hcount hdata hbs hv hentries
    subst hdata hv
    rw [exec_rankBulk_reads h hjob hrange, withBuffer_some u n c _ (by omega) _ _ hbs, okIf_true _ n _ hentries]
  case rankBulkRange =>
    intro c job gen first count addr data s u n h hbad
    exact command_effect _ h (if_pos (by simpa using hbad))
  case rankBulkFailed =>
    intro c job gen first count addr data s u n h hjob hrange hcount hdata
    rw [exec_rankBulk_reads h hjob hrange, hdata, withBuffer_none u n c _ (by omega)]
  case rankBulkEmpty =>
    intro c job gen first count addr data s u n h hjob hrange hcount hdata
    rw [exec_rankBulk_reads h hjob hrange, hdata, hcount, withBuffer_empty]
    rfl
  case rankBulkEntry =>
    intro c job gen first count addr data s u n bs v h hjob hrange hcount hdata hbs hv hentries
    subst hdata hv
    rw [exec_rankBulk_reads h hjob hrange, withBuffer_some u n c _ (by omega) _ _ hbs, okIf_false _ n _ hentries]
  case jobStatus =>
    intro c job s u n h hbound
    exact command_effect _ h (if_neg (by simp [hbound]))
  case jobStatusBad =>
    intro c job s u n h hbound
    exact command_effect _ h (if_pos (by simp [hbound]))

end Sys2Proof.Machine
end

section
/-! Two frames that say less than the model does: TAI_SET with a latched mapping writes UTC_OFS alone (06_timebase.md R229), and the end of
the bank hold sends the LINE notice that it changes (07_dynamic_routing.md R245, R257, R258, R268). -/

namespace Sys2Proof.Machine

/-! ### TAI_SET while TAI_VALID is 1 -/

/-- A grandmaster with PPS_EN whose TAI mapping is latched, with UTC_OFS 37 as after reset; TAI_SET with TAI_SEC 5 and UTC_OFS 38, as after
a leap second, is the next command of its ring. -/
def leapSecond : State :=
  ready ((((master tst).wr R.GEYS_CFG_PPS_EN 1)).wr R.GEYS_TAI_TAI_VALID 1) 0x0302 c0 (pack [(8, 5), (2, 38)])

theorem leapSecond_quiet : leapSecond.quiet = true := by decide

theorem leapSecond_utcOfs : leapSecond.rd R.GEYS_TAI_NS_UTC_OFS = 37 := by decide

/-- TAI_SEC has no effect while TAI_VALID is 1, and UTC_OFS is written. -/
theorem taiSet_leapSecond : ∃ t, exec (.taiSet c0 5 38) leapSecond = .next t ∧ t.geys.taiPending = none ∧
    t.rd R.GEYS_TAI_NS_UTC_OFS = 38 := ⟨_, rfl, by decide, by decide⟩

theorem utcOfs_not_replyKeys : R.GEYS_TAI_NS_UTC_OFS.key 0 0 ∉ replyKeys c0.path ++ [] := by decide

/-- Refutes O53: at `leapSecond` TAI_SET changes UTC_OFS, which no reply does, and leaves no pending value. -/
theorem not_tablesChangeOnlyTheirEntries : ¬ Obligations.TablesChangeOnlyTheirEntries := by
  rintro ⟨hrows, -⟩
  obtain ⟨t, ht, hpending, hutc⟩ := taiSet_leapSecond
  obtain ⟨-, -, htai, -⟩ := hrows c0 leapSecond t leapSecond_quiet
  rcases htai 5 38 ht with hreply | hreply
  · have hsame := hreply.regs R.GEYS_TAI_NS_UTC_OFS 0 0 utcOfs_not_replyKeys
    rw [hutc, leapSecond_utcOfs] at hsame
    exact absurd hsame (by decide)
  · have hset : t.geys.taiPending = some 5 := by rw [hreply.parts]; rfl
    rw [hpending] at hset
    cases hset

/-! ### The end of the bank hold -/

/-- Member 1 of dimension 0 advertises TRANSIT_OFF on port 0, and a packet to it under the bank flipped away from waits for that port; the
active bank sends what is for member 1 to member 2. The hold is over at local cycle 0, and the LINE notice sent last is the present one. -/
def holdOver : State :=
  let s := (tst.wr R.LINK_STATUS_STATE lkUp 0).wr R.ROUT_BANK_HOLDING 1
  let waiting : BufPkt := { seen := [BitVec.ofNat 256 (2 ^ 24 + 2 ^ 187)], need := 0, route := some ⟨.out 0, 0⟩ }
  let s1 : State := { s with
    inbuf := [(8 * 96, { pkts := [waiting] })]
    rout := { s.rout with holdEnd := some (.local_ 0), bank0 := [(0, 1 + 2 * 2 ^ 20 + 2 ^ 40)], rows := [(rowKey 0 1, 2 ^ 20)] } }
  { s1 with rout := { s1.rout with sent := [(0, s1.lineNotice 0)] } }

theorem holdOver_quiet : holdOver.quiet = true := by decide

theorem holdOver_bcOut : (holdOver.link 0).bcOut = [] := by decide

/-- The packet is routed under the active bank from then on, so OFF_SEEN of member 1 falls and the notice goes out on port 0. -/
theorem bankHoldExpire_sends_notice : ∃ t, exec .bankHoldExpire holdOver = .next t ∧ (t.link 0).bcOut ≠ [] :=
  ⟨_, rfl, by decide⟩

/-- Refutes O54: at `holdOver` the end of the bank hold queues a LINE notice on port 0, and the links are no part that it may change. -/
theorem not_eventsChangeOnlyTheirState : ¬ Obligations.EventsChangeOnlyTheirState := by
  intro h
  obtain ⟨t, ht, hsent⟩ := bankHoldExpire_sends_notice
  obtain ⟨-, -, hhold, -⟩ := h holdOver t holdOver_quiet
  obtain ⟨-, hparts⟩ := hhold ht
  have hlink : t.link 0 = holdOver.link 0 := by rw [hparts]; rfl
  exact hsent (hlink ▸ holdOver_bcOut)

end Sys2Proof.Machine
end

section
/-! The packet format of 03_packets.md reads back. A flit of Table 3.1 or Table 3.4 is a list of bit fields placed one after another
(R96, R105), so that one induction over such a list says that each field is read as it was written; the payload is cut into flits and put
together again (R108); and the tail carries the CRC that its receiver computes (R109 to R111). -/

namespace Sys2Proof.Machine

/-! ### Bit fields placed one after another -/

/-- The number that holds the fields (width, value), the first one in its lowest bits. -/
def layFields : List (Nat × Nat) → Nat
  | [] => 0
  | (w, v) :: t => v % 2 ^ w + 2 ^ w * layFields t

/-- The bits that the fields take together. -/
def fieldsWidth : List (Nat × Nat) → Nat
  | [] => 0
  | (w, _) :: t => w + fieldsWidth t

/-- Each value fits the width of its field. -/
def FieldsFit : List (Nat × Nat) → Prop
  | [] => True
  | (w, v) :: t => v < 2 ^ w ∧ FieldsFit t

/-- The fields, placed one after another from bit `lo` on, hold their values in `x`. -/
def FieldsRead (x : Nat) : Nat → List (Nat × Nat) → Prop
  | _, [] => True
  | lo, (w, v) :: t => field x lo w = v ∧ FieldsRead x (lo + w) t

theorem layFields_lt (l : List (Nat × Nat)) : layFields l < 2 ^ fieldsWidth l := by
  induction l with
  | nil => simp [layFields]
  | cons p t ih =>
    obtain ⟨w, v⟩ := p
    calc layFields ((w, v) :: t)
      _ < 2 ^ w + 2 ^ w * layFields t := Nat.add_lt_add_right (Nat.mod_lt _ (by positivity)) _
      _ = 2 ^ w * (layFields t + 1) := by ring
      _ ≤ 2 ^ w * 2 ^ fieldsWidth t := Nat.mul_le_mul_left _ ih
      _ = 2 ^ fieldsWidth ((w, v) :: t) := (Nat.pow_add 2 w _).symm

/-- Fields of at most 256 bits fit a flit. -/
theorem layFields_lt_flit {l : List (Nat × Nat)} (h : fieldsWidth l ≤ 256) : layFields l < 2 ^ 256 :=
  (layFields_lt l).trans_le (Nat.pow_le_pow_right two_pos h)

/-- The fields are read in any number whose bits from `lo` on are theirs. -/
theorem fieldsRead_of_div (x lo : Nat) (l : List (Nat × Nat)) (hfit : FieldsFit l) (hx : x / 2 ^ lo = layFields l) :
    FieldsRead x lo l := by
  induction l generalizing lo with
  | nil => trivial
  | cons p t ih =>
    obtain ⟨w, v⟩ := p
    obtain ⟨hv, ht⟩ := hfit
    rw [layFields, Nat.mod_eq_of_lt hv] at hx
    refine ⟨?_, ih (lo + w) ht ?_⟩
    · rw [field, hx, Nat.add_mul_mod_self_left, Nat.mod_eq_of_lt hv]
    · rw [Nat.pow_add, ← Nat.div_div_eq_div_mul, hx, Nat.add_mul_div_left _ _ (by positivity), Nat.div_eq_of_lt hv, Nat.zero_add]

theorem fieldsRead_layFields (l : List (Nat × Nat)) (hfit : FieldsFit l) : FieldsRead (layFields l) 0 l :=
  fieldsRead_of_div _ 0 l hfit (by simp)

theorem bNat_lt_two (b : Bool) : bNat b < 2 := by cases b <;> decide

/-- A field of one bit is read as the Boolean that it was formed of. -/
theorem field_one_eq_bNat {x lo : Nat} {b : Bool} (h : field x lo 1 = bNat b) : decide (field x lo 1 = 1) = b := by
  rw [h]
  cases b <;> rfl

/-! ### The extensions of Table 3.4 -/

/-- The RMA extension: bits 184 to 191 are reserved (Table 3.4). -/
def rmaFields (wkey woff oplen opoff opid rlen : Nat) : List (Nat × Nat) :=
  [(32, wkey), (64, woff), (32, oplen), (32, opoff), (24, opid), (8, 0), (13, rlen)]

theorem extRma_eq (wkey woff oplen opoff opid rlen : Nat) :
    extRma wkey woff oplen opoff opid rlen = layFields (rmaFields wkey woff oplen opoff opid rlen) := by
  simp only [extRma, rmaFields, layFields]
  omega

/-- The RESP extension: bits 0 to 95 are reserved (Table 3.4). -/
def respFields (oplen opoff opid status : Nat) : List (Nat × Nat) :=
  [(96, 0), (32, oplen), (32, opoff), (24, opid), (8, status)]

theorem extResp_eq (oplen opoff opid status : Nat) :
    extResp oplen opoff opid status = layFields (respFields oplen opoff opid status) := by
  simp only [extResp, respFields, layFields]
  omega

/-- The SEND extension, which fills its flit (Table 3.4). -/
def sendFields (comm srank tag mlen moff opid rvoff : Nat) : List (Nat × Nat) :=
  [(24, comm), (24, srank), (64, tag), (32, mlen), (32, moff), (24, opid), (56, rvoff)]

theorem extSend_eq (comm srank tag mlen moff opid rvoff : Nat) :
    extSend comm srank tag mlen moff opid rvoff = layFields (sendFields comm srank tag mlen moff opid rvoff) := by
  simp only [extSend, sendFields, layFields]
  omega

/-- The ACK extension (Table 3.4). -/
def ackFields (cumack sack nakseq nakcode nakopid : Nat) : List (Nat × Nat) :=
  [(32, cumack), (64, sack), (32, nakseq), (8, nakcode), (24, nakopid)]

theorem extAck_eq (cumack sack nakseq nakcode nakopid : Nat) :
    extAck cumack sack nakseq nakcode nakopid = layFields (ackFields cumack sack nakseq nakcode nakopid) := by
  simp only [extAck, ackFields, layFields]
  omega

/-- The HELLO extension (Table 3.4). -/
def helloFields (fullinc nextseq : Nat) : List (Nat × Nat) := [(32, fullinc), (32, nextseq)]

theorem extHello_eq (fullinc nextseq : Nat) : extHello fullinc nextseq = layFields (helloFields fullinc nextseq) := by
  simp only [extHello, helloFields, layFields]
  omega

/-- The COLL extension: ACC32 is one bit, bits 60 to 63 are reserved (Table 3.4). -/
def collFields (cid phase dtype rop : Nat) (acc32 : Bool) (dim member elems segoff : Nat) : List (Nat × Nat) :=
  [(24, cid), (8, phase), (4, dtype), (4, rop), (1, bNat acc32), (2, dim), (5, member), (12, elems), (4, 0), (32, segoff)]

theorem extColl_eq (cid phase dtype rop : Nat) (acc32 : Bool) (dim member elems segoff : Nat) :
    extColl cid phase dtype rop acc32 dim member elems segoff =
      layFields (collFields cid phase dtype rop acc32 dim member elems segoff) := by
  have hacc := bNat_lt_two acc32
  simp only [extColl, collFields, layFields]
  omega

/-- An extension that is a list of fields fits its flit and gives the fields back. -/
theorem ext_readsBack {e : Nat} {l : List (Nat × Nat)} (he : e = layFields l) (hwidth : fieldsWidth l ≤ 256) (hfit : FieldsFit l) :
    e < 2 ^ 256 ∧ FieldsRead e 0 l := by
  subst he
  exact ⟨layFields_lt_flit hwidth, fieldsRead_layFields l hfit⟩

/-- Settles O46: each extension is a list of fields that lie where Table 3.4 has them, and those are read as they were written. -/
theorem extensionsReadBack : Obligations.ExtensionsReadBack := by
  refine ⟨?rma, ?resp, ?send, ?ack, ?hello, ?coll⟩
  case rma =>
    intro wkey woff oplen opoff opid rlen hwkey hwoff hoplen hopoff hopid hrlen
    obtain ⟨hlt, rwkey, rwoff, roplen, ropoff, ropid, -, rrlen, -⟩ := ext_readsBack (extRma_eq wkey woff oplen opoff opid rlen)
      (by simp [rmaFields, fieldsWidth]) ⟨hwkey, hwoff, hoplen, hopoff, hopid, by decide, hrlen, trivial⟩
    exact ⟨hlt, rwkey, rwoff, roplen, ropoff, ropid, rrlen⟩
  case resp =>
    intro oplen opoff opid status hoplen hopoff hopid hstatus
    obtain ⟨hlt, -, roplen, ropoff, ropid, rstatus, -⟩ := ext_readsBack (extResp_eq oplen opoff opid status)
      (by simp [respFields, fieldsWidth]) ⟨by decide, hoplen, hopoff, hopid, hstatus, trivial⟩
    exact ⟨hlt, roplen, ropoff, ropid, rstatus⟩
  case send =>
    intro comm srank tag mlen moff opid rvoff hcomm hsrank htag hmlen hmoff hopid hrvoff
    obtain ⟨hlt, rcomm, rsrank, rtag, rmlen, rmoff, ropid, rrvoff, -⟩ :=
      ext_readsBack (extSend_eq comm srank tag mlen moff opid rvoff)
        (by simp [sendFields, fieldsWidth]) ⟨hcomm, hsrank, htag, hmlen, hmoff, hopid, hrvoff, trivial⟩
    exact ⟨hlt, rcomm, rsrank, rtag, rmlen, rmoff, ropid, rrvoff⟩
  case ack =>
    intro cumack sack nakseq nakcode nakopid hcumack hsack hnakseq hnakcode hnakopid
    obtain ⟨hlt, rcumack, rsack, rnakseq, rnakcode, rnakopid, -⟩ := ext_readsBack (extAck_eq cumack sack nakseq nakcode nakopid)
      (by simp [ackFields, fieldsWidth]) ⟨hcumack, hsack, hnakseq, hnakcode, hnakopid, trivial⟩
    exact ⟨hlt, rcumack, rsack, rnakseq, rnakcode, rnakopid⟩
  case hello =>
    intro fullinc nextseq hfullinc hnextseq
    obtain ⟨hlt, rfullinc, rnextseq, -⟩ := ext_readsBack (extHello_eq fullinc nextseq)
      (by simp [helloFields, fieldsWidth]) ⟨hfullinc, hnextseq, trivial⟩
    exact ⟨hlt, rfullinc, rnextseq⟩
  case coll =>
    intro cid phase dtype rop acc32 dim member elems segoff hcid hphase hdtype hrop hdim hmember helems hsegoff
    obtain ⟨hlt, rcid, rphase, rdtype, rrop, racc32, rdim, rmember, relems, -, rsegoff, -⟩ :=
      ext_readsBack (extColl_eq cid phase dtype rop acc32 dim member elems segoff) (by simp [collFields, fieldsWidth])
        ⟨hcid, hphase, hdtype, hrop, bNat_lt_two acc32, hdim, hmember, helems, by decide, hsegoff, trivial⟩
    exact ⟨hlt, rcid, rphase, rdtype, rrop, field_one_eq_bNat racc32, rdim, rmember, relems, rsegoff⟩

/-! ### The base header of Table 3.1 -/

/-- The fields of the base header with its three reserved ones; RSTATE is one field of eight bits. -/
def Hdr.fields (h : Hdr) : List (Nat × Nat) :=
  [(6, h.ptype), (1, bNat h.ext), (1, 0), (13, h.plen), (1, bNat h.first), (1, bNat h.last), (1, 0), (20, h.dpid), (20, h.spid),
    (16, h.dinc), (16, h.sinc), (32, h.seq), (40, h.birth), (16, h.job), (8, h.vc % 8), (2, h.dhport), (6, h.dfunc), (18, h.dqidx),
    (2, h.shport), (6, h.sfunc), (18, h.sqidx), (12, 0)]

theorem Hdr.flit_eq (h : Hdr) : h.flit = BitVec.ofNat 256 (layFields h.fields) := by
  have hext := bNat_lt_two h.ext
  have hfirst := bNat_lt_two h.first
  have hlast := bNat_lt_two h.last
  rw [Hdr.flit]
  refine congrArg (BitVec.ofNat 256) ?_
  simp only [Hdr.fields, layFields]
  omega

theorem Hdr.toNat_flit (h : Hdr) : h.flit.toNat = layFields h.fields := by
  have hlt : layFields h.fields < 2 ^ 256 := layFields_lt_flit (by simp [Hdr.fields, fieldsWidth])
  rw [h.flit_eq, BitVec.toNat_ofNat, Nat.mod_eq_of_lt hlt]

theorem Hdr.flit_readsBack (h : Hdr) (hfit : FieldsFit h.fields) : FieldsRead h.flit.toNat 0 h.fields := by
  rw [h.toNat_flit]
  exact fieldsRead_layFields _ hfit

/-! ### Bytes in flits (R108) -/

theorem length_toBytes (n x : Nat) : (toBytes n x).length = n := by
  induction n generalizing x with
  | zero => rfl
  | succ n ih => rw [toBytes, List.length_cons, ih]

theorem ofBytes_lt (bs : List Byte) : ofBytes bs < 256 ^ bs.length := by
  induction bs with
  | nil => simp [ofBytes]
  | cons b t ih =>
    have hb : b.toNat < 256 := b.isLt
    rw [ofBytes, List.length_cons, Nat.pow_succ]
    omega

theorem toBytes_zero (n : Nat) : toBytes n 0 = List.replicate n 0 := by
  induction n with
  | zero => rfl
  | succ n ih =>
    rw [toBytes, Nat.zero_div, ih]
    rfl

theorem toBytes_ofBytes (bs : List Byte) (n : Nat) (h : bs.length ≤ n) :
    toBytes n (ofBytes bs) = bs ++ List.replicate (n - bs.length) 0 := by
  induction bs generalizing n with
  | nil => simpa [ofBytes] using toBytes_zero n
  | cons b t ih =>
    cases n with
    | zero => simp at h
    | succ n =>
      have hlow : BitVec.ofNat 8 (b.toNat + 256 * ofBytes t) = b := by
        apply BitVec.eq_of_toNat_eq
        have hb := b.isLt
        rw [BitVec.toNat_ofNat]
        omega
      have hhigh : (b.toNat + 256 * ofBytes t) / 256 = ofBytes t := by
        have hb := b.isLt
        omega
      rw [ofBytes, toBytes, hlow, hhigh, ih n (by simpa using h), List.length_cons, Nat.add_sub_add_right, List.cons_append]

theorem length_flitBytes (f : Flit) : (flitBytes f).length = 32 := length_toBytes 32 f.toNat

/-- A flit of at most 32 bytes holds them and then zeros. -/
theorem flitBytes_ofBytes (bs : List Byte) (h : bs.length ≤ 32) :
    flitBytes (BitVec.ofNat 256 (ofBytes bs)) = bs ++ List.replicate (32 - bs.length) 0 := by
  have hlt : ofBytes bs < 2 ^ 256 := (ofBytes_lt bs).trans_le (Nat.pow_le_pow_right (by decide) h)
  rw [flitBytes, BitVec.toNat_ofNat, Nat.mod_eq_of_lt hlt, toBytes_ofBytes bs 32 h]

theorem length_packFlits (n : Nat) (bs : List Byte) : (packFlits n bs).length = n := by
  induction n generalizing bs with
  | zero => rfl
  | succ n ih => rw [packFlits, List.length_cons, ih]

/-- The bytes of enough flits are the bytes packed into them and the pad. -/
theorem flitsBytes_packFlits (n : Nat) (bs : List Byte) (h : bs.length ≤ 32 * n) :
    flitsBytes (packFlits n bs) = bs ++ List.replicate (32 * n - bs.length) 0 := by
  induction n generalizing bs with
  | zero =>
    obtain rfl : bs = [] := List.length_eq_zero_iff.mp (by omega)
    rfl
  | succ n ih =>
    have hrest : (bs.drop 32).length ≤ 32 * n := by
      rw [List.length_drop]
      omega
    have hcons : flitsBytes (packFlits (n + 1) bs) =
        flitBytes (BitVec.ofNat 256 (ofBytes (bs.take 32))) ++ flitsBytes (packFlits n (bs.drop 32)) := rfl
    rw [hcons, flitBytes_ofBytes _ (List.length_take_le 32 bs), ih _ hrest]
    by_cases hlast : bs.length ≤ 32
    · rw [List.take_of_length_le hlast, List.drop_of_length_le hlast, List.nil_append, List.append_assoc, List.replicate_append_replicate,
        List.length_nil]
      congr 2
      omega
    · have hfull : (bs.take 32).length = 32 := List.length_take_of_le (by omega)
      rw [hfull, Nat.sub_self, List.replicate_zero, List.append_nil, ← List.append_assoc, List.take_append_drop, List.length_drop]
      congr 2
      omega

theorem length_le_flitsFor (n : Nat) : n ≤ 32 * flitsFor n := by
  rw [flitsFor]
  omega

theorem take_flitsBytes_packFlits (bs : List Byte) :
    (flitsBytes (packFlits (flitsFor bs.length) bs)).take bs.length = bs := by
  rw [flitsBytes_packFlits _ bs (length_le_flitsFor bs.length), List.take_left]

/-! ### The end-to-end CRC (R109 to R111) -/

theorem crcBit_lt {p c : Nat} (hp : p < 2 ^ 32) (hc : c < 2 ^ 32) : crcBit p c < 2 ^ 32 := by
  have hhalf : c / 2 < 2 ^ 32 := (Nat.div_le_self c 2).trans_lt hc
  unfold crcBit
  split
  · exact Nat.xor_lt_two_pow hhalf hp
  · exact hhalf

theorem crcByte_lt {p c : Nat} (hp : p < 2 ^ 32) (hc : c < 2 ^ 32) (b : Byte) : crcByte p c b < 2 ^ 32 := by
  have hb : b.toNat < 2 ^ 32 := b.isLt.trans (by decide)
  exact crcBit_lt hp (crcBit_lt hp (crcBit_lt hp (crcBit_lt hp (crcBit_lt hp (crcBit_lt hp (crcBit_lt hp (crcBit_lt hp
    (Nat.xor_lt_two_pow hc hb))))))))

theorem crcReflected_lt {p : Nat} (hp : p < 2 ^ 32) (bs : List Byte) : crcReflected p bs < 2 ^ 32 :=
  Nat.xor_lt_two_pow (List.foldlRecOn bs (crcByte p) (motive := (· < 2 ^ 32)) (by decide) fun _ hc b _ => crcByte_lt hp hc b) (by decide)

theorem pktCrc_lt (body : List Flit) : pktCrc body < 2 ^ 32 := by
  cases body <;> exact crcReflected_lt (by decide) _

theorem fget_tailOf (body : List Flit) : fget (tailOf body) 0 32 = pktCrc body := by
  have hcrc := pktCrc_lt body
  rw [fget, field, tailOf, BitVec.toNat_ofNat]
  omega

theorem pktCrcOk_append_tailOf (body : List Flit) : pktCrcOk (body ++ [tailOf body]) = true := by
  simp [pktCrcOk, fget_tailOf]

/-! ### A whole packet -/

/-- The flits of a packet between its head and its tail. -/
def midFlits (ext : Option Nat) (bs : List Byte) : List Flit :=
  (ext.map (BitVec.ofNat 256)).toList ++ packFlits (flitsFor bs.length) bs

theorem formPacket_eq (h : Hdr) (ext : Option Nat) (bs : List Byte) :
    formPacket h ext bs = h.flit :: midFlits ext bs ++ [tailOf (h.flit :: midFlits ext bs)] := by
  cases ext <;> rfl

theorem length_formPacket (h : Hdr) (ext : Option Nat) (bs : List Byte) :
    (formPacket h ext bs).length = 2 + ext.toList.length + flitsFor bs.length := by
  rw [formPacket_eq]
  cases ext <;> simp [midFlits, length_packFlits] <;> omega

theorem pktCrcOk_formPacket (h : Hdr) (ext : Option Nat) (bs : List Byte) : pktCrcOk (formPacket h ext bs) = true := by
  rw [formPacket_eq]
  exact pktCrcOk_append_tailOf _

/-- Without EXT the second flit is not read as an extension, whatever it is. -/
theorem pktExt_of_not_hExt {f : Flit} {t : List Flit} (h : hExt f = false) : pktExt (f :: t) = 0 := by
  cases t <;> simp [pktExt, h]

theorem pktExt_formPacket (h : Hdr) (ext : Option Nat) (bs : List Byte) (hext : hExt h.flit = ext.isSome)
    (hlt : ∀ e, ext = some e → e < 2 ^ 256) : pktExt (formPacket h ext bs) = ext.getD 0 := by
  rw [formPacket_eq]
  cases ext with
  | none => exact pktExt_of_not_hExt hext
  | some e =>
    calc pktExt (h.flit :: midFlits (some e) bs ++ [tailOf (h.flit :: midFlits (some e) bs)])
      _ = (BitVec.ofNat 256 e).toNat := if_pos hext
      _ = e := Nat.mod_eq_of_lt (hlt e rfl)

theorem pktPayload_formPacket (h : Hdr) (ext : Option Nat) (bs : List Byte) (hext : hExt h.flit = ext.isSome)
    (hplen : hPlen h.flit = bs.length) : pktPayload (formPacket h ext bs) = bs := by
  have hskip : ((ext.map (BitVec.ofNat 256)).toList : List Flit).length = bNat (hExt h.flit) := by
    rw [hext]
    cases ext <;> rfl
  rw [formPacket_eq, List.cons_append, pktPayload, midFlits, List.append_assoc, List.drop_left' hskip, hplen,
    List.take_left' (length_packFlits _ bs), take_flitsBytes_packFlits]

theorem pktFlits_eq_of_head {x : Flit} {ext : Option Nat} {bs : List Byte} (hext : hExt x = ext.isSome) (hplen : hPlen x = bs.length) :
    pktFlits x = 2 + ext.toList.length + flitsFor bs.length := by
  rw [pktFlits, hext, hplen]
  cases ext <;> rfl

/-- Settles O45: `Hdr.flit_readsBack` gives the fields of the head, and with its EXT and PLEN the flits after it fall into the
extension, the payload and the tail. -/
theorem packetReadsBack : Obligations.PacketReadsBack := by
  intro h ext bs hptype hext hplen hmax hdpid hspid hdinc hsinc hseq hbirth hjob hvc hdhport hdfunc hdqidx hshport hsfunc hsqidx hflit p x
  have hx : x = h.flit := by
    simp only [x, p, formPacket_eq]
    rfl
  have hfit : FieldsFit h.fields := ⟨hptype, bNat_lt_two _, by decide, by omega, bNat_lt_two _, bNat_lt_two _, by decide, hdpid, hspid,
    hdinc, hsinc, hseq, hbirth, hjob, by omega, hdhport, hdfunc, hdqidx, hshport, hsfunc, hsqidx, by decide, trivial⟩
  obtain ⟨rptype, rext, rres7, rplen, rfirst, rlast, rres23, rdpid, rspid, rdinc, rsinc, rseq, rbirth, rjob, rrstate, rdhport, rdfunc,
    rdqidx, rshport, rsfunc, rsqidx, rres244, -⟩ := h.flit_readsBack hfit
  rw [Nat.mod_eq_of_lt hvc] at rrstate
  have hhext : hExt h.flit = h.ext := field_one_eq_bNat rext
  have hxext : hExt h.flit = ext.isSome := hhext.trans hext
  have hxplen : hPlen h.flit = bs.length := rplen.trans hplen
  have hlength : p.length = 2 + ext.toList.length + flitsFor bs.length := length_formPacket h ext bs
  rw [hx]
  exact ⟨rptype, hhext, rplen, field_one_eq_bNat rfirst, field_one_eq_bNat rlast, rdpid, rspid, rdinc, rsinc, rseq, rbirth, rjob, rrstate,
    rdhport, rdfunc, rdqidx, rshport, rsfunc, rsqidx, rres7, rres23, rres244, hlength.trans (pktFlits_eq_of_head hxext hxplen).symm,
    hlength, pktExt_formPacket h ext bs hxext hflit, pktPayload_formPacket h ext bs hxext hxplen, pktCrcOk_formPacket h ext bs⟩

end Sys2Proof.Machine
end

section
/-! What the events of the lanes come to while the device runs: codeword pairs and comma halves received and sent, the EN and RETRAIN
writes, and signal found and lost (04_lanes.md R131 to R134, R142, R158). -/

namespace Sys2Proof.Machine

/-- The row of a lane or link event while the device runs, with what its effect comes to. -/
theorem liveLink_effect {s t : State} (f : State → State) (hruns : s.runs = true) (ht : f s = t) :
    liveLink s f = .next t.carrWatch.ended := by
  rw [liveLink_runs s f hruns, ht]

/-! ### Codeword pairs -/

/-- A pair's two codewords are taken in order; adaptation in T_UP and the loss of lock are decided on what they leave (R131, R134). -/
theorem takePair_eq {s v t : State} {p pair : Nat} {a b : List Level} {w : List Nat × List Nat} (hw : w = s.pairReceived p pair a b)
    (hv : v = (s.takeCodeword p w.1).takeCodeword p w.2)
    (ht : t = if v.pst p = tUp then (v.adapt (2 * p) false).adapt (2 * p + 1) false else v) :
    s.takePair p pair a b = if t.tooManyBad (2 * p) then (t.loseComma (2 * p)).loseComma (2 * p + 1) else t := by
  subst ht hv hw
  rfl

/-- The states in which a port forms codeword pairs are none of training's. -/
theorem ne_tCoef_of_takesPairs {state : Nat} (h : state = tIdent ∨ state = tUp ∨ state = tQuiet) : state ≠ tCoef := by
  rcases h with rfl | rfl | rfl <;> decide

section
variable (p : Port) (x : PairLevels) (s : State) (hruns : s.runs = true)
include hruns

theorem exec_codewordDecode_takes (hpst : s.pst p.val = tIdent ∨ s.pst p.val = tUp ∨ s.pst p.val = tQuiet) :
    exec (.codewordDecode p x) s = .next (s.takePair p.val x.pair.val x.first x.second).carrWatch.ended := by
  show execCodewordDecode p x s = _
  exact liveLink_effect _ hruns ((if_neg (ne_tCoef_of_takesPairs hpst)).trans (if_pos (by simpa [or_assoc] using hpst)))

/-- In T_COEF a pair received shows that the peer sends an FEC stream, and no codeword is taken (R144). -/
theorem exec_codewordDecode_coef (hpst : s.pst p.val = tCoef) :
    exec (.codewordDecode p x) s = .next (s.fecSeen p.val).carrWatch.ended := by
  show execCodewordDecode p x s = _
  exact liveLink_effect _ hruns (if_pos hpst)

end

/-! ### Comma halves -/

section
variable (s : State) (l : Nat) (marker cidx ctag : List Level) (grid : Bool) (frac skew : Nat)

theorem commaHeard_none (hread : commaRead (uninvert (s.on R.LANE_STATUS_RX_INV l) marker)
      (uninvert (s.on R.LANE_STATUS_RX_INV l) cidx) (uninvert (s.on R.LANE_STATUS_RX_INV l) ctag) = none) :
    s.commaHeard l marker cidx ctag grid frac skew = s := by
  unfold State.commaHeard
  extract_lets inv
  split
  next c hc => exact absurd (hc.symm.trans hread) (Option.some_ne_none c)
  next => rfl

theorem commaHeard_some {c : BitVec 10 × Nat} (hgrid : onGrid (s.pst (l / 2)) = true)
    (hread : commaRead (uninvert (s.on R.LANE_STATUS_RX_INV l) marker)
      (uninvert (s.on R.LANE_STATUS_RX_INV l) cidx) (uninvert (s.on R.LANE_STATUS_RX_INV l) ctag) = some c) :
    s.commaHeard l marker cidx ctag grid frac skew = s.commaTake l c.1 c.2 grid frac skew := by
  unfold State.commaHeard
  extract_lets inv
  split
  next d hd =>
    obtain rfl : d = c := Option.some.inj (hd.symm.trans hread)
    exact if_pos hgrid
  next hnone => exact absurd (hnone.symm.trans hread) (Option.some_ne_none c).symm

/-- The fourth miss in a row ends the lock, whatever the codewords were (R134). -/
theorem commaMiss_fourth (hfourth : 4 ≤ (s.lane l).missRun + 1) :
    s.commaMiss l =
      ((s.setLane l { s.lane l with missRun := (s.lane l).missRun + 1 }).bump C.LANE_COMMA_MISS l).loseComma l :=
  if_pos (by simp [hfourth])

end

/-- Settles O17: each clause is the row's gate, open while the device runs, before the branch of its effect that the clause describes. -/
theorem laneCommandsComplete : Obligations.LaneCommandsComplete := by
  refine ⟨?pair, ?coef, ?unread, ?comma, ?fourthMiss, ?sent, ?enable, ?retrain, ?detect, ?loss⟩
  case pair =>
    intro p x s w v t hruns hpst hw hv ht
    rw [exec_codewordDecode_takes p x s hruns hpst, takePair_eq hw hv ht]
  case coef => exact exec_codewordDecode_coef
  case unread =>
    intro l marker cidx ctag grid frac skew s hruns hread
    show execCommaHalfReceive l marker cidx ctag grid frac skew s = _
    exact liveLink_effect _ hruns (commaHeard_none _ l.val marker cidx ctag grid frac.toNat skew.toNat hread)
  case comma =>
    intro l marker cidx ctag grid frac skew s c hruns hgrid hread
    show execCommaHalfReceive l marker cidx ctag grid frac skew s = _
    exact liveLink_effect _ hruns (commaHeard_some _ l.val marker cidx ctag grid frac.toNat skew.toNat hgrid hread)
  case fourthMiss =>
    intro l s hruns hgrid hlast hfourth
    show execCommaLockLoss l s = _
    exact liveLink_effect _ hruns
      ((if_pos (by simp [hgrid, Option.isSome_iff_ne_none.mpr hlast])).trans (commaMiss_fourth s l.val hfourth))
  case sent =>
    intro l frac s hruns hgrid hdue
    show execCommaHalfTransmit l frac s = _
    exact liveLink_effect _ hruns (if_pos (by simp [hgrid, hdue]))
  case enable =>
    intro p en s hruns
    show execPortCtrlEnWrite p en s = _
    exact liveLink_runs s _ hruns
  case retrain =>
    intro p bit s hruns
    show execPortCtrlRetrainWrite p bit s = _
    exact liveLink_runs s _ hruns
  case detect =>
    intro l s hruns
    show execLaneSignalDetect l s = _
    exact liveLink_runs s _ hruns
  case loss =>
    intro l lockOnly s v hruns hv
    subst hv
    show execLaneSignalLoss l lockOnly s = _
    exact liveLink_runs s _ hruns

end Sys2Proof.Machine
end

section
/-! The units of the link read back: a frame's trailer (05_link_layer.md Table 5.2) and a link control word (Table 5.3) are bit fields
placed one after another, and each carries the CRC of its other bytes that its receiver computes (R163, R166, R168). -/

namespace Sys2Proof.Machine

/-! ### Some of a number's bytes -/

theorem take_toBytes (k n x : Nat) : (toBytes (k + n) x).take k = toBytes k x := by
  induction k generalizing x with
  | zero => rfl
  | succ k ih => rw [Nat.succ_add, toBytes, toBytes, List.take_succ_cons, ih]

theorem drop_toBytes (k n x : Nat) : (toBytes (k + n) x).drop k = toBytes n (x / 256 ^ k) := by
  induction k generalizing x with
  | zero => rw [Nat.zero_add, List.drop_zero, Nat.pow_zero, Nat.div_one]
  | succ k ih => rw [Nat.succ_add, toBytes, List.drop_succ_cons, ih, Nat.div_div_eq_div_mul, Nat.pow_succ']

/-- What stands above the first `n` bytes is not in them. -/
theorem toBytes_add_mul (n x y : Nat) : toBytes n (x + 256 ^ n * y) = toBytes n x := by
  induction n generalizing x with
  | zero => rfl
  | succ n ih =>
    have hstep : x + 256 ^ (n + 1) * y = x + 256 * (256 ^ n * y) := by ring
    have hlow : BitVec.ofNat 8 (x + 256 * (256 ^ n * y)) = BitVec.ofNat 8 x := by
      apply BitVec.eq_of_toNat_eq
      rw [BitVec.toNat_ofNat, BitVec.toNat_ofNat]
      exact Nat.add_mul_mod_self_left x 256 _
    rw [hstep, toBytes, toBytes, hlow, Nat.add_mul_div_left _ _ (by decide), ih]

/-! ### The CRCs of the link -/

theorem crc16Bit_lt {c : Nat} (hc : c < 2 ^ 16) : crc16Bit c < 2 ^ 16 := by
  unfold crc16Bit
  split
  · exact Nat.xor_lt_two_pow (Nat.mod_lt _ (by decide)) (by decide)
  · omega

theorem crc16Byte_lt {c : Nat} (hc : c < 2 ^ 16) (b : Byte) : crc16Byte c b < 2 ^ 16 := by
  have hb : b.toNat * 256 < 2 ^ 16 := by
    have := b.isLt
    omega
  exact crc16Bit_lt (crc16Bit_lt (crc16Bit_lt (crc16Bit_lt (crc16Bit_lt (crc16Bit_lt (crc16Bit_lt (crc16Bit_lt
    (Nat.xor_lt_two_pow hc hb))))))))

theorem crc16_lt (bs : List Byte) : crc16 bs < 2 ^ 16 :=
  List.foldlRecOn bs crc16Byte (motive := (· < 2 ^ 16)) (by decide) fun _ hc b _ => crc16Byte_lt hc b

theorem lcwCrc_lt (w : Nat) : lcwCrc w < 2 ^ 16 := crc16_lt _

theorem frameCrc_lt (flits : List Flit) (w : Nat) : frameCrc flits w < 2 ^ 32 := crcReflected_lt (by decide) _

/-- The LCRC is computed over the six bytes below it (R166). -/
theorem lcwCrc_add_lcrc (x c : Nat) : lcwCrc (x + c * 2 ^ 48) = lcwCrc x := by
  have hhigh : x + c * 2 ^ 48 = x + 256 ^ 6 * c := by omega
  rw [lcwCrc, lcwCrc, take_toBytes 6 2, take_toBytes 6 2, hhigh, toBytes_add_mul]

/-- The FCRC is computed over the flits and the trailer's four bytes above it (R163). -/
theorem frameCrc_add_fcrc (flits : List Flit) (y c : Nat) (hc : c < 2 ^ 32) :
    frameCrc flits (2 ^ 32 * y + c) = frameCrc flits (2 ^ 32 * y) := by
  have hhigh : (2 ^ 32 * y + c) / 256 ^ 4 = 2 ^ 32 * y / 256 ^ 4 := by omega
  rw [frameCrc, frameCrc, drop_toBytes 4 4, drop_toBytes 4 4, hhigh]

/-! ### A link control word -/

/-- The fields of an LCW: bit 28 and bits 45 to 47 are reserved (Table 5.3). -/
def lcwFields (next kind ackseq xoff arg lcrc : Nat) : List (Nat × Nat) :=
  [(4, next), (4, kind), (12, ackseq), (8, xoff), (1, 0), (16, arg), (3, 0), (16, lcrc)]

/-- An LCW is its fields, with the LCRC that its receiver computes of it. -/
theorem lcwWord_eq {next kind : Nat} (ackseq xoff arg : Nat) (hnext : next < 16) (hkind : kind < 16) :
    lcwWord next kind ackseq xoff arg =
      layFields (lcwFields next kind ackseq xoff arg (lcwCrc (lcwWord next kind ackseq xoff arg))) := by
  unfold lcwWord
  extract_lets lo
  have hlo : lo = next + kind * 2 ^ 4 + (ackseq % 4096) * 2 ^ 8 + (xoff % 256) * 2 ^ 20 + (arg % 2 ^ 16) * 2 ^ 29 := rfl
  have hcrc := lcwCrc_lt lo
  rw [lcwCrc_add_lcrc]
  simp only [lcwFields, layFields]
  omega

theorem lcwBad_eq_false {w : Nat} (hcrc : wLcrc w = lcwCrc w) (hkind : wKind w ≤ 6) (hnext : wNext w ≤ 9) : lcwBad w = false := by
  simp [lcwBad, hcrc, hkind, hnext]

/-! ### A frame's trailer -/

/-- The fields of a frame's trailer (Table 5.2). -/
def trailerFields (fcrc lseq chan nflit next : Nat) : List (Nat × Nat) :=
  [(32, fcrc), (12, lseq), (4, chan), (3, nflit), (4, next)]

/-- A trailer is its fields, with the FCRC that its receiver computes of the frame. -/
theorem frameTrailer_eq {flits : List Flit} {n chan next : Nat} (lseq : Nat) (hlength : flits.length = n + 1) (hn : n < 8)
    (hchan : chan < 16) (hnext : next < 16) :
    frameTrailer flits lseq chan next =
      layFields (trailerFields (frameCrc flits (frameTrailer flits lseq chan next)) lseq chan n next) := by
  unfold frameTrailer
  extract_lets hi
  have hhi : hi = 2 ^ 32 * (lseq % 4096 + chan * 2 ^ 12 + n * 2 ^ 16 + next * 2 ^ 19) := by
    simp only [hi, hlength]
    omega
  clear_value hi
  have hcrc := frameCrc_lt flits hi
  have hsame : frameCrc flits (hi + frameCrc flits hi) = frameCrc flits hi := by
    rw [hhi] at hcrc ⊢
    exact frameCrc_add_fcrc flits _ _ hcrc
  rw [hsame]
  simp only [trailerFields, layFields]
  omega

/-- A frame is good for a receiver that took no mark and was announced its number of flits (R168). -/
theorem frameBad_eq_false {flits : List Flit} {w n : Nat} (hcrc : tFcrc w = frameCrc flits w) (hnflit : tNflit w = n)
    (hlength : flits.length = n + 1) (hchan : tChan w ≤ 8) (hnext : tNext w ≤ 9) : frameBad flits w n false = false := by
  simp [frameBad, hcrc, hnflit, hlength, hchan, hnext]

/-- Settles O47: the LCW and the trailer are lists of fields that lie where Tables 5.2 and 5.3 have them and are read as they were
written, the CRC among them. -/
theorem linkUnitsReadBack : Obligations.LinkUnitsReadBack := by
  refine ⟨?lcw, ?frame⟩
  case lcw =>
    intro next kind ackseq xoff arg hnext hkind hackseq hxoff harg w
    have hfields : w = layFields (lcwFields next kind ackseq xoff arg (lcwCrc w)) :=
      lcwWord_eq ackseq xoff arg (by omega) (by omega)
    have hlt : w < 2 ^ 64 := hfields ▸ layFields_lt (lcwFields next kind ackseq xoff arg (lcwCrc w))
    have hfit : FieldsFit (lcwFields next kind ackseq xoff arg (lcwCrc w)) :=
      ⟨by omega, by omega, hackseq, hxoff, by decide, harg, by decide, lcwCrc_lt w, trivial⟩
    obtain ⟨rnext, rkind, rackseq, rxoff, rres28, rarg, rres45, rlcrc, -⟩ := fieldsRead_of_div w 0 _ hfit (by simpa using hfields)
    exact ⟨hlt, rnext, rkind, rackseq, rxoff, rarg, rres28, rres45,
      lcwBad_eq_false rlcrc (rkind.trans_le hkind) (rnext.trans_le hnext)⟩
  case frame =>
    intro flits n lseq chan next hlength hn hlseq hchan hnext w
    have hfields : w = layFields (trailerFields (frameCrc flits w) lseq chan n next) :=
      frameTrailer_eq lseq hlength (by omega) (by omega) (by omega)
    have hlt : w < 2 ^ 55 := hfields ▸ layFields_lt (trailerFields (frameCrc flits w) lseq chan n next)
    have hfit : FieldsFit (trailerFields (frameCrc flits w) lseq chan n next) :=
      ⟨frameCrc_lt flits w, hlseq, by omega, by omega, by omega, trivial⟩
    obtain ⟨rfcrc, rlseq, rchan, rnflit, rnext, -⟩ := fieldsRead_of_div w 0 _ hfit (by simpa using hfields)
    exact ⟨by omega, rlseq, rchan, rnflit, rnext,
      frameBad_eq_false rfcrc rnflit hlength (rchan.trans_le hchan) (rnext.trans_le hnext)⟩

end Sys2Proof.Machine
end

section
/-! What the events of a link come to while the device runs: the units of the byte stream received, the replay timer, the LCWs that fall
due, the writes of LINK_CTRL, the low-power words and the unit sent (05_link_layer.md R168 to R200). -/

namespace Sys2Proof.Machine

/-! ### The next unit of the byte stream -/

section
variable {s : State} {p : Nat}

theorem takeIf_eq_takeUnit {b : Bool} (hstream : s.streaming p = true) (hb : b = true) : s.takeIf p b = s.takeUnit p :=
  if_pos (by rw [hstream, hb]; rfl)

theorem takeUnit_lcw {w : Nat} (hunit : (s.rxUnit p).1 = .lcw w) : s.takeUnit p = (s.rxTaken p).lcwIn p w := by
  unfold State.takeUnit
  rw [hunit]

section
variable {flits : List Flit} {trailer : Nat} {marked : Bool} (hunit : (s.rxUnit p).1 = .frame flits trailer marked)
include hunit

/-- A good frame is taken in, and its NEXT says what follows it (R168, R171). -/
theorem takeUnit_goodFrame (hgood : frameBad flits trailer (s.link p).rxNext marked = false) :
    s.takeUnit p = ((s.rxTaken p).setRxNext p (tNext trailer)).goodFrame p (tLseq trailer) (tChan trailer) flits := by
  unfold State.takeUnit
  rw [hunit]
  exact if_neg (by simp [hgood])

theorem takeUnit_badFrame (hbad : frameBad flits trailer (s.link p).rxNext marked = true) :
    s.takeUnit p = (s.rxTaken p).badUnit p false := by
  unfold State.takeUnit
  rw [hunit]
  exact if_pos hbad

end

/-- Outside RESYNC an LCW that is bad starts recovery as a bad unit does (R168). -/
theorem lcwIn_bad {w : Nat} (hmode : s.rd R.LINK_STATUS_RXMODE p ≠ 2) (hbad : lcwBad w = true) : s.lcwIn p w = s.badUnit p true :=
  (if_neg hmode).trans (if_pos hbad)

theorem lcwIn_good {w : Nat} (hmode : s.rd R.LINK_STATUS_RXMODE p ≠ 2) (hgood : lcwBad w = false) :
    s.lcwIn p w = (s.setRxNext p (wNext w)).lcwGood p w :=
  (if_neg hmode).trans (if_neg (by simp [hgood]))

theorem lcwGood_of_not_start {w : Nat} (hkind : wKind w ≠ lwStart) : s.lcwGood p w = s.lcwInSession p w :=
  if_neg (by simp [hkind])

theorem takeUnit_bad (hbad : s.unitBad p (s.rxUnit p).1 = true) :
    s.takeUnit p = (s.rxTaken p).badUnit p (s.rxUnit p).1.isLcw := by
  cases hunit : (s.rxUnit p).1 with
  | none => simp [hunit, State.unitBad] at hbad
  | frame flits trailer marked =>
    rw [hunit] at hbad
    exact takeUnit_badFrame hunit hbad
  | lcw w =>
    obtain ⟨hmode, hlcw⟩ : s.rd R.LINK_STATUS_RXMODE p ≠ 2 ∧ lcwBad w = true := by simpa [hunit, State.unitBad] using hbad
    rw [takeUnit_lcw hunit]
    exact lcwIn_bad hmode hlcw

theorem streaming_of_inSession (hsess : s.inSession p = true) : s.streaming p = true := (Bool.and_eq_true_iff.mp hsess).1

/-- The rows of LP_REQ, LP_ACK and LP_NAK take a good LCW of their KIND as one of a session (R196, R197). -/
theorem takeIf_nextIsKind {k w : Nat} {dorm : Bool} (hk : k ≠ lwStart) (hsess : s.inSession p = true)
    (hmode : s.rd R.LINK_STATUS_RXMODE p ≠ 2) (hunit : (s.rxUnit p).1 = .lcw w) (hgood : lcwBad w = false) (hkind : wKind w = k)
    (hdorm : decide (wArg w % 2 = 1) = dorm) :
    s.takeIf p (s.nextIsKind p k dorm) = ((s.rxTaken p).setRxNext p (wNext w)).lcwInSession p w := by
  have hnext : s.nextIsKind p k dorm = true := by simp [State.nextIsKind, hsess, hmode, hunit, hgood, hkind, hdorm]
  have htaken : (s.rxTaken p).rd R.LINK_STATUS_RXMODE p ≠ 2 := by rwa [rxTaken_rd]
  rw [takeIf_eq_takeUnit (streaming_of_inSession hsess) hnext, takeUnit_lcw hunit, lcwIn_good htaken hgood,
    lcwGood_of_not_start (hkind ▸ hk)]

end

/-! ### The unit sent (R188, R191) -/

section
variable (p : Port) (s : State) (hruns : s.runs = true) (hup : s.pst p.val = tUp) (hpair : (s.port p.val).txPair < 2048)
include hruns hup hpair

theorem exec_linkUnitTransmit_start (hbegun : (s.link p.val).begun = false) :
    exec (.linkUnitTransmit p) s = .next (s.sendSessionStart p.val).carrWatch.ended := by
  show execLinkUnitTransmit p s = _
  exact liveLink_effect _ hruns ((if_neg (by simp [hup, hpair])).trans (if_neg (by simp [hbegun])))

theorem exec_linkUnitTransmit_announced (hbegun : (s.link p.val).begun = true) :
    exec (.linkUnitTransmit p) s = .next (s.sendAnnounced p.val).carrWatch.ended := by
  show execLinkUnitTransmit p s = _
  exact liveLink_effect _ hruns ((if_neg (by simp [hup, hpair])).trans (if_pos hbegun))

end

/-- Settles O19: each clause is the row's gate, open while the device runs, before the branch of its effect that the clause describes. -/
theorem linkCommandsComplete : Obligations.LinkCommandsComplete := by
  refine ⟨?goodFrame, ?badFrame, ?badUnit, ?lcw, ?start, ?replay, ?status, ?xoff, ?stall, ?leak, ?retire, ?retrain, ?lpReq, ?lpAck,
    ?lpNak, ?sendStart, ?sendUnit⟩
  case goodFrame =>
    intro p flits trailer announced marked s hruns hstream hunit hnext hgood
    show execLinkFrameReceive p flits trailer announced marked s = _
    exact liveLink_effect _ hruns
      ((takeIf_eq_takeUnit hstream (by simp [hunit, hnext])).trans (takeUnit_goodFrame hunit (hnext ▸ hgood)))
  case badFrame =>
    intro p flits trailer announced marked s hruns hstream hunit hnext hbad
    show execLinkFrameReceive p flits trailer announced marked s = _
    exact liveLink_effect _ hruns
      ((takeIf_eq_takeUnit hstream (by simp [hunit, hnext])).trans (takeUnit_badFrame hunit (hnext ▸ hbad)))
  case badUnit =>
    intro p isLcw s hruns hstream hbad hlcw
    show execLinkBadUnit p isLcw s = _
    exact liveLink_effect _ hruns
      ((takeIf_eq_takeUnit hstream (by simp [hbad, hlcw])).trans ((takeUnit_bad hbad).trans (by rw [hlcw])))
  case lcw =>
    intro p lcw atBoundary s hruns hstream hunit hboundary
    show execLcwReceive p lcw atBoundary s = _
    exact liveLink_effect _ hruns ((takeIf_eq_takeUnit hstream (by simp [hunit, hboundary])).trans (takeUnit_lcw hunit))
  case start =>
    intro p lcw s hruns hstream hunit hbegun hkind
    show execSessionStartReceive p lcw s = _
    exact liveLink_effect _ hruns ((takeIf_eq_takeUnit hstream (by simp [hunit, hbegun, hkind])).trans (takeUnit_lcw hunit))
  case replay =>
    intro p s hruns hsess hout
    show execReplayTimerExpire p s = _
    exact liveLink_effect _ hruns (if_pos (by simp [hsess, hout]))
  case status =>
    intro p s hruns hup
    show execStatusLcwDue p s = _
    exact liveLink_effect _ hruns (if_pos hup)
  case xoff =>
    intro p s hruns hstream hxoff
    show execXoffRepeat p s = _
    exact liveLink_effect _ hruns (if_pos (by simpa [hstream] using hxoff))
  case stall =>
    intro p v s hruns hxoff
    show execXoffWatchdogExpire p v s = _
    exact liveLink_effect _ hruns (if_pos hxoff)
  case leak =>
    intro p expired s hruns hdue hnow
    show execLeakRetrain p expired s = _
    exact liveLink_effect _ hruns (if_pos (by simp [hdue, hnow]))
  case retire =>
    intro p bit s hruns hdown
    show execLinkCtrlRetireWrite p bit s = _
    exact liveLink_effect _ hruns (by simp [hdown])
  case retrain =>
    intro p bit s hruns
    show execLinkCtrlFreshRetrainWrite p bit s = _
    exact liveLink_runs s _ hruns
  case lpReq =>
    intro p dorm s w hruns hsess hmode hunit hgood hkind hdorm
    show execLpReqReceive p dorm s = _
    exact liveLink_effect _ hruns (takeIf_nextIsKind (by decide) hsess hmode hunit hgood hkind hdorm)
  case lpAck =>
    intro p dorm s w hruns hsess hmode hunit hgood hkind hdorm
    show execLpAckReceive p dorm s = _
    exact liveLink_effect _ hruns (takeIf_nextIsKind (by decide) hsess hmode hunit hgood hkind hdorm)
  case lpNak =>
    intro p dorm s w hruns hsess hmode hunit hgood hkind hdorm
    show execLpNakReceive p dorm s = _
    exact liveLink_effect _ hruns (takeIf_nextIsKind (by decide) hsess hmode hunit hgood hkind hdorm)
  case sendStart => exact exec_linkUnitTransmit_start
  case sendUnit => exact exec_linkUnitTransmit_announced

end Sys2Proof.Machine
end

section
/-! One CLK_GT cycle: how far it advances GT, and that what else happens in it keeps the clock (06_timebase.md R203, R204; log 5). -/

namespace Sys2Proof.Machine

/-! ### What keeps the clock -/

/-- What every step of a fold keeps, the fold keeps. -/
theorem foldl_keeps {α β : Type} (g : State → α) (f : State → β → State) (h : ∀ s x, g (f s x) = g s) (l : List β)
    (s : State) : g (l.foldl f s) = g s :=
  List.foldlRecOn l f (motive := fun t => g t = g s) rfl fun t ht x _ => (h t x).trans ht

@[simp] theorem enterVc_time (s : State) (e v : Nat) (ks : List BufPkt) : (s.enterVc e v ks).time = s.time := by
  unfold State.enterVc
  dsimp only
  split <;> rfl

@[simp] theorem setEpRate_time (s : State) (e r : Nat) : (s.setEpRate e r).time = s.time := by
  unfold State.setEpRate
  split <;> rfl

@[simp] theorem epCheck_time (s : State) (e : Nat) : (s.epCheck e).time = s.time := by
  unfold State.epCheck
  dsimp only
  split
  · rfl
  · split
    · simp
    · rfl

@[simp] theorem paceTake_time (s : State) (e dpid n : Nat) : (s.paceTake e dpid n).time = s.time := by
  unfold State.paceTake
  cases s.rout.throttle.find? fun x => x.dpid = dpid with
  | none => exact setEpRate_time _ _ _
  | some x => exact setEpRate_time _ _ _

@[simp] theorem inject_time (s : State) (e v : Nat) (pkt : List Flit) : (s.inject e v pkt).time = s.time := by
  cases pkt with
  | nil => rfl
  | cons h t =>
    unfold State.inject
    dsimp only
    split
    · rfl
    · split <;> simp

@[simp] theorem injectCopies_time (s : State) (e : Nat) (pkt : List Flit) (peers : List Nat) (launch : Option LaunchId) :
    (s.injectCopies e pkt peers launch).time = s.time := by
  cases pkt with
  | nil => rfl
  | cons h t =>
    unfold State.injectCopies
    dsimp only
    split
    · rfl
    · simp

@[simp] theorem admitAll_time (s : State) : s.admitAll.time = s.time := by
  unfold State.admitAll
  dsimp only
  split
  · rfl
  · refine foldl_keeps State.time _ (fun t u => ?_) _ _
    split
    · exact injectCopies_time _ _ _ _ _
    · exact inject_time _ _ _ _

@[simp] theorem admitWaiting_time (s : State) : s.admitWaiting.time = s.time := by
  unfold State.admitWaiting
  split
  · rfl
  · exact admitAll_time s

theorem mirSend_time (s : State) (r : MirRec) : (s.mirSend r).2.time = s.time := by
  unfold State.mirSend
  dsimp only
  split
  · rw [wr_time, State.mirEmit, bump_time]
    rfl
  · rfl

@[simp] theorem mirrorNote_time (s : State) (r : MirRec) : (s.mirrorNote r).time = s.time := by
  unfold State.mirrorNote State.mirror
  split
  · exact mirSend_time s r
  · rfl

@[simp] theorem idxSend_time (s : State) (key : Nat) : (s.idxSend key).time = s.time := mirrorNote_time _ _

@[simp] theorem idxFlush_time (s : State) : s.idxFlush.time = s.time := by
  unfold State.idxFlush
  split
  · rfl
  · split
    · exact foldl_keeps State.time _ idxSend_time _ _
    · rfl

@[simp] theorem xoffStep_time (s : State) : s.xoffStep.time = s.time := by
  unfold State.xoffStep
  split
  · rfl
  · refine foldl_keeps State.time _ (fun t p => ?_) _ _
    unfold State.whenB
    split
    · exact bump_time _ _ _ _
    · rfl

/-! ### One CLK_GT cycle -/

theorem ofSigned_cast (w : Nat) (x : Int) : ((ofSigned w x : Nat) : Int) = x % 2 ^ w := by
  rw [ofSigned, Int.toNat_of_nonneg (Int.emod_nonneg _ (by positivity))]
  push_cast
  rfl

/-- GT advances by ten ticks and TRIM, modulo 2^104 with its fraction (R203, R204). -/
theorem gtStep_acc (s : State) : ((s.gtStep.time.acc : Nat) : Int) =
    ((s.time.acc : Nat) + 10 * 2 ^ 40 + signedOf 36 (s.rd R.GEYS_TRIM_TRIM)) % 2 ^ 104 := by
  show (((s.time.acc + ofSigned 104 (10 * 2 ^ 40 + signedOf 36 (s.rd R.GEYS_TRIM_TRIM))) % 2 ^ 104 : Nat) : Int) = _
  rw [Int.natCast_mod, Int.natCast_add, ofSigned_cast]
  norm_num [Int.add_assoc]

/-- What a cycle does after GT has advanced leaves the clock as it is. -/
theorem tick_time (s : State) (h : s.aonStep.runs = true) : (tick s).time = s.aonStep.gtStep.time := by
  unfold tick
  simp [h]

theorem step_empty (s : State) (h : s.pending = []) : step s = .next (tick s).ended := by
  unfold step
  rw [h]
  rfl

/-- Settles O39: the empty queue's branch of `step`, the cycle's own arithmetic, and that the rest of the cycle keeps the clock. -/
theorem emptyQueueIsOneClockCycle : Obligations.EmptyQueueIsOneClockCycle :=
  ⟨step_empty, fun s => ⟨gtStep_acc s, rfl⟩, tick_time⟩

end Sys2Proof.Machine
end

section
/-! The timebase under resets: what a register table without a key reads, and that a flip leaves the timebase as it is
(06_timebase.md R205; 17_reset_power_supplies.md R602 to R604). -/

namespace Sys2Proof.Machine

/-! ### Keys that a register table does not list -/

/-- The table has no entry under the key, so that its field reads its reset value. -/
def Unlisted (k : Nat) (r : Tab Nat) : Prop := ∀ e ∈ r, e.1 ≠ k

theorem rd_of_unlisted {s : State} {f : RegField} {i j : Nat} (h : Unlisted (f.key i j) s.regs) : s.rd f i j = f.resetVal :=
  tget_absent f.resetVal (f.key i j) s.regs h

theorem unlisted_filter {k : Nat} (p : Nat → Bool) (r : Tab Nat) (h : p k = false) : Unlisted k (r.filter fun e => p e.1) := by
  rintro e he rfl
  simp [h] at he

theorem mem_tput_default {d j : Nat} {r : Tab Nat} {e : Nat × Nat} (h : e ∈ tput d r j d) : e ∈ r ∧ e.1 ≠ j := by
  simp only [tput, if_true, List.append_nil, List.mem_append, List.mem_filter, decide_eq_true_eq] at h
  rcases h with ⟨hmem, hlt⟩ | ⟨hmem, hgt⟩
  · exact ⟨hmem, by omega⟩
  · exact ⟨hmem, by omega⟩

/-- What one element of a list brings about, and no step undoes, holds after the fold. -/
theorem foldl_reaches {α β : Type} (P : α → Prop) (op : α → β → α) {l : List β} {x : β} (hx : x ∈ l) (hreach : ∀ a, P (op a x))
    (hkeep : ∀ a y, P a → P (op a y)) (a : α) : P (l.foldl op a) := by
  obtain ⟨before, after, rfl⟩ := List.append_of_mem hx
  rw [List.foldl_append, List.foldl_cons]
  exact List.foldlRecOn after op (motive := P) (hreach _) fun b hb y _ => hkeep b y hb

theorem unlisted_tput_default {k d j : Nat} {r : Tab Nat} (h : Unlisted k r) : Unlisted k (tput d r j d) :=
  fun e he => h e (mem_tput_default he).1

/-- A reset of the RO fields of some registers unlists each of them. -/
theorem resetRo_unlisted (s : State) {fs : List RegField} {f : RegField} {i j : Nat} (hf : f ∈ fs) (hro : f.acc = .ro)
    (hj : j < f.steps) : Unlisted (f.key i j) (s.resetRo fs i).regs :=
  foldl_reaches (Unlisted (f.key i j)) _ (List.mem_filter.mpr ⟨hf, decide_eq_true hro⟩)
    (fun r => foldl_reaches (Unlisted (f.key i j)) (fun r j => tput f.resetVal r (f.key i j) f.resetVal) (List.mem_range.mpr hj)
      (fun _ _ he => (mem_tput_default he).2) (fun _ _ h => unlisted_tput_default h) r)
    (fun _ _ h => List.foldlRecOn _ _ (motive := Unlisted (f.key i j)) h fun _ h _ _ => unlisted_tput_default h) _

/-! ### The timebase's registers and clock -/

/-- The key belongs to a word of the timebase's register table (Table 6.5), neither to its counters nor to its fault page. -/
def geysKey (k : Nat) : Bool := 0x300000 * 64 ≤ k && k < 0x3E0000 * 64

/-- The clock and every register field of the timebase are as they were. -/
structure TimebaseKept (s t : State) : Prop where
  time : t.time = s.time
  rd : ∀ f i j, geysKey (f.key i j) = true → t.rd f i j = s.rd f i j

namespace TimebaseKept

theorem refl (s : State) : TimebaseKept s s := ⟨rfl, fun _ _ _ _ => rfl⟩

theorem trans {s t u : State} (h : TimebaseKept s t) (k : TimebaseKept t u) : TimebaseKept s u :=
  ⟨k.time.trans h.time, fun f i j hkey => (k.rd f i j hkey).trans (h.rd f i j hkey)⟩

theorem of_regs {s t : State} (hregs : t.regs = s.regs) (htime : t.time = s.time) : TimebaseKept s t :=
  ⟨htime, fun f i j _ => congrArg (fun r => tget f.resetVal r (f.key i j)) hregs⟩

theorem ite {s t u : State} {c : Prop} [Decidable c] (ht : TimebaseKept s t) (hu : TimebaseKept s u) :
    TimebaseKept s (if c then t else u) := by
  split
  · exact ht
  · exact hu

theorem wr (s : State) (f : RegField) (v i j : Nat) (h : geysKey (f.key i j) = false) : TimebaseKept s (s.wr f v i j) :=
  ⟨rfl, fun g a b hkey => rd_wr_other s f g v i j a b fun heq => by simp [heq, h] at hkey⟩

theorem bump (s : State) (f : RegField) (i n : Nat) (h : geysKey (f.key i 0) = false) (hovf : geysKey ((ovfOf f).key i 0) = false) :
    TimebaseKept s (s.bump f i n) := by
  unfold State.bump
  exact .ite (wr s f _ i 0 h) ((wr s f _ i 0 h).trans ((wr _ (ovfOf f) 1 i 0 hovf).trans (of_regs rfl rfl)))

end TimebaseKept

/-- The fields of a fault page behind the timebase's registers are none of them. -/
theorem geysKey_page {f : RegField} {page : Nat} (hpage : 0x3E0000 ≤ page) (hstride : f.stride = 1) :
    geysKey (f.key page 0) = false := by
  simp only [geysKey, RegField.key, hstride, Bool.and_eq_false_iff, decide_eq_false_iff_not]
  omega

section
variable (s : State) {page : Nat} (hpage : 0x3E0000 ≤ page)
include hpage

theorem captureFirst_timebaseKept (src detail : Nat) (forced graced : Bool) :
    TimebaseKept s (captureFirst s page src detail forced graced) := by
  have page_wr (t : State) (f : RegField) (v : Nat) (hstride : f.stride = 1) : TimebaseKept t (t.wr f v page) :=
    .wr t f v page 0 (geysKey_page hpage hstride)
  unfold captureFirst
  exact .ite (.refl s) (((((((page_wr s _ _ rfl).trans (page_wr _ _ _ rfl)).trans (page_wr _ _ _ rfl)).trans (page_wr _ _ _ rfl)).trans
    (page_wr _ _ _ rfl)).trans (page_wr _ _ _ rfl)).trans (page_wr _ _ _ rfl))

omit hpage in
theorem journal_timebaseKept (type data : Nat) : TimebaseKept s (s.journal type data) := by
  unfold State.journal
  dsimp only
  exact .ite ((TimebaseKept.of_regs (by rfl) (by rfl)).trans (.wr _ R.SEC_JRN_DROP _ 0 0 rfl))
    ((TimebaseKept.of_regs (by rfl) (by rfl)).trans (.wr _ R.SEC_JRN_HEAD _ 0 0 rfl))

omit hpage in
theorem takeTrap_timebaseKept (p : Nat) (fresh : Bool) : TimebaseKept s (takeTrap s p fresh) := by
  have emitted : TimebaseKept s (s.emit (.calTrap p)) := .of_regs rfl rfl
  unfold takeTrap
  exact .ite (.refl s) (.ite (emitted.trans (journal_timebaseKept _ _ _)) emitted)

theorem applyReaction_timebaseKept (src : Nat) (fresh : Bool) : TimebaseKept s (applyReaction s page src fresh) := by
  have latched (b : Bool) : TimebaseKept s (if b = true then s.wr R.PIN_ERR_LATCHED 1 else s) :=
    .ite (.wr _ _ _ 0 0 rfl) (.refl s)
  have deferred (t : State) (x : Tab Nat) : TimebaseKept t
      { (takeTrap t page fresh).wr R.FLT_GRACE_RUNNING 1 page with deferred := x } :=
    ((takeTrap_timebaseKept t page fresh).trans (.wr _ _ _ page 0 (geysKey_page hpage rfl))).trans (.of_regs rfl rfl)
  unfold applyReaction
  refine .ite (.refl s) ((latched _).trans (.ite ?interrupt (.ite ?trap (.ite ?reset (.refl _)))))
  case interrupt => exact .ite (.ite (.of_regs rfl rfl) (.of_regs rfl rfl)) (.refl _)
  case trap => exact takeTrap_timebaseKept _ _ _
  case reset => exact .ite (deferred _ _) (.ite (.of_regs rfl rfl) (.ite (takeTrap_timebaseKept _ _ _) (.of_regs rfl rfl)))

theorem raise_timebaseKept (src detail : Nat) : TimebaseKept s (s.raise page src detail) := by
  unfold State.raise State.raiseX
  exact (((TimebaseKept.wr s _ _ page 0 (geysKey_page hpage rfl)).trans (.wr _ _ _ page 0 (geysKey_page hpage rfl))).trans
    (captureFirst_timebaseKept _ hpage _ _ _ _)).trans (applyReaction_timebaseKept _ hpage _ _)

theorem cond_timebaseKept (src : Nat) (b : Bool) (detail : Nat) : TimebaseKept s (s.cond page src b detail) := by
  have live := TimebaseKept.wr s R.FLT_LIVE_LIVE (setBit (s.rd R.FLT_LIVE_LIVE page) src b) page 0 (geysKey_page hpage rfl)
  unfold State.cond
  exact .ite (live.trans (raise_timebaseKept _ hpage _ _)) live

end

/-! ### A flip -/

theorem bcSend_timebaseKept (s : State) (p : Nat) (f : Flit) : TimebaseKept s (s.bcSend p f) := .of_regs rfl rfl

/-- A fold over steps that keep the timebase keeps it. -/
theorem foldl_timebaseKept {β : Type} (f : State → β → State) (h : ∀ s x, TimebaseKept s (f s x)) (l : List β) (s : State) :
    TimebaseKept s (l.foldl f s) :=
  List.foldlRecOn l f (motive := TimebaseKept s) (.refl s) fun _ ht x _ => ht.trans (h _ x)

theorem lineUpdateDim_timebaseKept (s : State) (d : Nat) : TimebaseKept s (s.lineUpdateDim d) := by
  have noted : TimebaseKept s { s with rout := { s.rout with sent := tput 0 s.rout.sent d (s.lineNotice d) } } := .of_regs rfl rfl
  unfold State.lineUpdateDim
  exact .ite (.refl s) (noted.trans (foldl_timebaseKept _ (fun t p => .ite (bcSend_timebaseKept t p _) (.refl t)) _ _))

theorem lineUpdate_timebaseKept (s : State) : TimebaseKept s s.lineUpdate :=
  (TimebaseKept.of_regs (s := s) (t := s.rowsPurge) rfl rfl).trans (foldl_timebaseKept _ lineUpdateDim_timebaseKept _ _)

theorem pgRout_behind_geys : 0x3E0000 ≤ pgRout := by decide

theorem doFlip_timebaseKept (s : State) (late lcl : Bool) : TimebaseKept s (s.doFlip late lcl) := by
  have bank_wr (t : State) (f : RegField) (v : Nat) (h : geysKey (f.key 0 0) = false) : TimebaseKept t (t.wr f v) := .wr t f v 0 0 h
  unfold State.doFlip
  cases s.rout.armed with
  | none => exact .refl s
  | some a =>
    have taken := ((((bank_wr s R.ROUT_BANK_ACTIVE a.bank rfl).trans (bank_wr _ R.ROUT_BANK_ARMED_BANK 0 rfl)).trans
      (bank_wr _ R.ROUT_BANK_LAST_ID a.id rfl)).trans (bank_wr _ R.ROUT_BANK_ARMED 0 rfl)).trans (bank_wr _ R.ROUT_BANK_HOLDING 1 rfl)
    dsimp only
    refine .trans (.trans ?counted (.ite ?late (.refl _))) ((lineUpdate_timebaseKept _).trans (.of_regs rfl rfl))
    case counted =>
      exact ((taken.trans (.ite (.refl _) (bank_wr _ R.ROUT_CTRL_MODE a.mode rfl))).trans (.of_regs (by rfl) (by rfl))).trans
        (.bump _ C.ROUT_FLIPS 0 1 rfl rfl)
    case late => exact (bank_wr _ R.ROUT_BANK_LATE 1 rfl).trans (raise_timebaseKept _ pgRout_behind_geys 2 a.id)

theorem timeLost_timebaseKept (s : State) : TimebaseKept s s.timeLost := by
  have extended : TimebaseKept s (if s.readerSet then { s with cnt := { s.cnt with extended := true } } else s) :=
    .ite (.of_regs rfl rfl) (.refl s)
  unfold State.timeLost
  exact .ite (extended.trans (doFlip_timebaseKept _ _ _)) extended

/-! ### Resets of the timebase (R205) -/

/-- GT with its fraction is 0, TRIM is 0, and the state is INVALID. -/
structure TimeCleared (t : State) : Prop where
  acc : t.time.acc = 0
  trim : t.rd R.GEYS_TRIM_TRIM = 0
  state : t.geysState = gsInvalid

theorem TimeCleared.fields {t : State} (h : TimeCleared t) :
    t.time.acc = 0 ∧ t.rd R.GEYS_TRIM_TRIM = 0 ∧ t.geysState = gsInvalid := ⟨h.acc, h.trim, h.state⟩

theorem TimeCleared.kept {s t : State} (hs : TimeCleared s) (h : TimebaseKept s t) : TimeCleared t where
  acc := (congrArg TimeState.acc h.time).trans hs.acc
  trim := (h.rd _ 0 0 rfl).trans hs.trim
  state := (h.rd _ 0 0 rfl).trans hs.state

/-- With neither field listed and the clock at 0 the timebase is cleared. -/
theorem timeCleared_of_unlisted {t : State} (hacc : t.time.acc = 0) (htrim : Unlisted (R.GEYS_TRIM_TRIM.key 0 0) t.regs)
    (hstate : Unlisted (R.GEYS_STATUS_STATE.key 0 0) t.regs) : TimeCleared t :=
  ⟨hacc, rd_of_unlisted htrim, rd_of_unlisted hstate⟩

/-- With both fields cleared, the clock set to 0 clears the timebase. -/
theorem timeCleared_of_fields (t : State) (x : GeysState) (htrim : t.rd R.GEYS_TRIM_TRIM = 0)
    (hstate : t.rd R.GEYS_STATUS_STATE = gsInvalid) : TimeCleared { t with time := { t.time with acc := 0 }, geys := x } :=
  ⟨rfl, htrim, hstate⟩

theorem state_mem_fieldsGEYS : R.GEYS_STATUS_STATE ∈ R.fieldsGEYS :=
  List.mem_append_left _ (by simp [R.fieldsGEYS0])

theorem geysReset_timeCleared (s : State) : TimeCleared s.geysReset := by
  have htrim : ((s.resetRo R.fieldsGEYS 0).wr R.GEYS_TRIM_TRIM 0).rd R.GEYS_TRIM_TRIM = 0 := rd_wr_same _ _ _ _ _
  have hstate : ((s.resetRo R.fieldsGEYS 0).wr R.GEYS_TRIM_TRIM 0).rd R.GEYS_STATUS_STATE = R.GEYS_STATUS_STATE.resetVal := by
    rw [rd_wr_other _ _ _ _ _ _ _ _ (by decide)]
    exact rd_of_unlisted (resetRo_unlisted s state_mem_fieldsGEYS rfl (by decide))
  have cleared := (timeCleared_of_fields _ {} htrim hstate).kept (cond_timebaseKept _ (page := pgGeys) (by decide) 0 false 0)
  unfold State.geysReset
  dsimp only
  split
  · exact cleared
  · exact cleared.kept (timeLost_timebaseKept _)

/-- The block reset of a reaction is the block's own, and what it notes of itself is no part of the timebase. -/
theorem takeReaction_geys (s : State) : s.takeReaction (.blockReset pgGeys) =
    ({ s with blockResetAt := tput 0 s.blockResetAt pgGeys (s.time.cycles + 1) } : State).geysReset := by
  have kind : pageKind pgGeys = some (.geys, 0) := by decide
  simp only [State.takeReaction, kind]

theorem takeReaction_geys_timeCleared (s : State) : TimeCleared (s.takeReaction (.blockReset pgGeys)) := by
  rw [takeReaction_geys]
  exact geysReset_timeCleared _

/-- A full reset unlists every key outside the always-on domain (R602). -/
theorem unlisted_fullReset (s : State) (cause detail page source : Nat) {k : Nat} (h : aonKey k = false) :
    Unlisted k (s.fullReset cause detail page source).regs := by
  intro e he
  simp only [State.fullReset, List.mem_filter, Bool.and_eq_true] at he
  rintro rfl
  simp [h] at he

theorem trim_not_aonKey : aonKey (R.GEYS_TRIM_TRIM.key 0 0) = false := by decide +kernel

theorem state_not_aonKey : aonKey (R.GEYS_STATUS_STATE.key 0 0) = false := by decide +kernel

theorem fullReset_timeCleared (s : State) (cause detail page source : Nat) : TimeCleared (s.fullReset cause detail page source) :=
  timeCleared_of_unlisted rfl (unlisted_fullReset s cause detail page source trim_not_aonKey)
    (unlisted_fullReset s cause detail page source state_not_aonKey)

/-- The fields that outside circuits drive, which a power-on reset keeps. -/
def boardFields : List RegField :=
  [R.PWR_SUPPLY_A_OK, R.PWR_SUPPLY_B_OK, R.PWR_SUPPLY_VAUX_A, R.PWR_SUPPLY_VAUX_B, R.PWR_SUPPLY_VRHOT]

theorem unlisted_powerOn (s : State) {k : Nat} (h : (boardFields.any fun f => decide (f.key 0 0 = k)) = false) :
    Unlisted k s.powerOn.regs := unlisted_filter (fun k => boardFields.any fun f => decide (f.key 0 0 = k)) _ h

theorem powerOn_timeCleared (s : State) : TimeCleared s.powerOn :=
  timeCleared_of_unlisted rfl (unlisted_powerOn s (by decide)) (unlisted_powerOn s (by decide))

/-- Settles O57: a block reset is `geysReset`, and the two resets of the device keep no key of the timebase. -/
theorem geyserResetClearsTime : Obligations.GeyserResetClearsTime :=
  ⟨fun s => (takeReaction_geys_timeCleared s).fields,
    fun s cause detail page source => (fullReset_timeCleared s cause detail page source).fields,
    fun s => (powerOn_timeCleared s).fields⟩

end Sys2Proof.Machine
end

section
/-! What the Geyser opcodes and the timebase's events come to (06_timebase.md R207 to R230; 16_command_packets.md Table 16.6), and what the
state after reset holds. -/

namespace Sys2Proof.Machine

/-! ### The Geyser opcodes (16_command_packets.md Table 16.6) -/

/-- The range that GEYS_STEP asks of AMOUNT. -/
theorem stepRange_pass_iff (a : Int) :
    ¬ (decide (a < -(2 ^ 47 : Int)) || decide (a ≥ 2 ^ 47)) = true ↔ -(2 ^ 47 : Int) ≤ a ∧ a < (2 ^ 47 : Int) := by
  simp only [Bool.or_eq_true, decide_eq_true_eq, not_or, not_lt, ge_iff_le, not_le]

/-- Settles O4: each clause is its row's effect when the command has started, followed through the row's tests in their order. -/
theorem geyserCommandsComplete : Obligations.GeyserCommandsComplete := by
  refine ⟨?gmCfg, ?gmCfgBad, ?limits, ?limitsBad, ?taiSet, ?taiSetDenied, ?taiSetBad, ?step, ?stepBad, ?stepDenied, ?status, ?sleep⟩
  case gmCfg | limits =>
    intro c v₁ v₂ v₃ v₄ v₅ s u n h hall
    exact command_effect _ h (okIf_true u n _ hall)
  case gmCfgBad | limitsBad =>
    intro c v₁ v₂ v₃ v₄ v₅ s u n h hall
    exact command_effect _ h (okIf_false u n _ hall)
  case taiSet =>
    intro c taiSec utcOfs s u n t h hsec hgm hpps ht
    subst ht
    exact command_effect _ h ((if_neg (Nat.not_le.mpr hsec)).trans (if_neg (by simp [hgm, hpps])))
  case taiSetDenied =>
    intro c taiSec utcOfs s u n h hsec hdenied
    exact command_effect _ h ((if_neg (Nat.not_le.mpr hsec)).trans (if_pos (by simpa using hdenied)))
  case taiSetBad =>
    intro c taiSec utcOfs s u n h hsec
    exact command_effect _ h (if_pos hsec)
  case step =>
    intro c amount s u n h hlow hhigh hgm hidle
    have hpass := (stepRange_pass_iff amount.toInt).mpr ⟨hlow, hhigh⟩
    exact command_effect _ h ((if_neg hpass).trans (if_neg (by simp [hgm, hidle])))
  case stepBad =>
    intro c amount s u n h hrange
    exact command_effect _ h (if_pos (by simpa using hrange))
  case stepDenied =>
    intro c amount s u n h hlow hhigh hdenied
    have hpass := (stepRange_pass_iff amount.toInt).mpr ⟨hlow, hhigh⟩
    exact command_effect _ h ((if_neg hpass).trans (if_pos (by simpa using hdenied)))
  case status | sleep =>
    intro c s u n h
    exact command_starts _ h

/-! ### The timebase's events -/

/-- The row of an event while the device runs, with what its effect comes to. -/
theorem live_effect {s t : State} (f : State → State) (hruns : s.runs = true) (ht : f s = t) : live s f = .next t.ended := by
  rw [live_runs s f hruns, ht]

/-- Settles O20: each clause is the row's gate, open while the device runs, before the branch of its effect that the clause describes. -/
theorem geyserEventsComplete : Obligations.GeyserEventsComplete := by
  refine ⟨?send, ?timing, ?timingLost, ?epoch, ?election, ?expire, ?holdover, ?reference, ?upgrade, ?edge, ?edgeLost, ?edgeMissed, ?rate,
    ?step⟩
  case send =>
    intro p s q hruns hdue hpair
    show execSyncFlitSend p s = _
    rw [execSyncFlitSend, live_runs s _ hruns]
    simp only [hdue, hpair, Bool.not_true, Bool.false_eq_true, if_false]
  case timing =>
    intro p flit s d th v hruns hv htype hkind hstream hoffsets
    show execSyncTimingReceive p flit s = _
    rw [execSyncTimingReceive, live_runs s _ hruns]
    simp [htype, hstream, hkind, ← hv, hoffsets]
  case timingLost =>
    intro p flit s v hruns hv htype hkind hstream hoffsets
    show execSyncTimingReceive p flit s = _
    rw [execSyncTimingReceive, live_runs s _ hruns]
    simp [htype, hstream, hkind, ← hv, hoffsets]
  case epoch =>
    intro p flit s hruns htype hkind hstream
    show execSyncEpochReceive p flit s = _
    exact live_effect _ hruns (if_neg (by simp [htype, hkind, hstream]))
  case election =>
    intro s hruns
    show execGmElection s = _
    rw [execGmElection, live_runs s _ hruns]
  case expire =>
    intro p s hruns
    show execSyncInfoExpire p s = _
    rw [execSyncInfoExpire, live_runs s _ hruns]
  case holdover =>
    intro s hruns
    show execHoldoverInterval s = _
    rw [execHoldoverInterval, live_runs s _ hruns]
  case reference =>
    intro pps locked s hruns
    show execReferenceLockChange pps locked s = _
    rw [execReferenceLockChange, live_runs s _ hruns]
  case upgrade =>
    intro s hruns hdue
    show execGmClassUpgrade s = _
    exact live_effect _ hruns (if_neg (by simpa [or_iff_not_imp_left] using hdue))
  case edge =>
    intro falling s v hruns hen hedge hgm hv hpending hvalid hclass
    show execPpsEdge falling s = _
    rw [execPpsEdge, live_runs s _ hruns]
    simp [hen, hedge, hgm, ← hv, hpending, hvalid, Nat.not_lt.mpr hclass]
  case edgeLost =>
    intro s v hruns hen hgm hmissed hv
    show execPpsMissing s = _
    rw [execPpsMissing, live_runs s _ hruns]
    simp only [hen, hgm, hmissed, hv, Bool.not_true, Bool.or_self, Bool.false_eq_true, if_false, ge_iff_le, le_refl, if_true]
  case edgeMissed =>
    intro s hruns hen hgm hmissed
    have hfew : ¬ 3 ≤ s.geys.ppsMissed + 1 := by omega
    show execPpsMissing s = _
    rw [execPpsMissing, live_runs s _ hruns]
    simp only [hen, hgm, hfew, Bool.not_true, Bool.or_self, Bool.false_eq_true, if_false]
  case rate =>
    intro period s hruns hlocked
    show execAonRateMeasure period s = _
    exact live_effect _ hruns (if_pos hlocked)
  case step =>
    intro amount s hruns
    show execGeysStepWrite amount s = _
    rw [execGeysStepWrite, live_runs s _ hruns]

/-! ### The state after reset -/

/-- The register table is empty after reset, so that every field reads its reset value. -/
theorem reset_rd (f : RegField) (i j : Nat) : State.reset.rd f i j = f.resetVal := rfl

/-- Settles O42: the registers are those of the empty table, and the other parts stand in `State.reset`. -/
theorem resetState : Obligations.ResetState :=
  ⟨reset_rd, rfl, by decide, rfl, rfl, rfl, rfl, reset_rd _ _ _, rfl, reset_rd _ _ _, reset_rd _ _ _, rfl, rfl, rfl,
    fun p => reset_rd _ p 0, reset_rd _ _ _, reset_rd _ _ _, reset_rd _ _ _, reset_rd _ _ _, reset_rd _ _ _, reset_rd _ _ _,
    reset_rd _ _ _⟩

end Sys2Proof.Machine
end

section
/-! What the router's events come to: route decisions, the LINE, FLIP and MARK notices, flips and the bank hold (07_dynamic_routing.md
R238 R245 R246 R253 R255 R257 R263 R267). -/

namespace Sys2Proof.Machine

/-! ### The decision for the packet in front (R238) -/

section
variable {input : Fin 108} {v : Vc} {s : State} {k : BufPkt} {rest : List BufPkt} (hruns : s.runs = true)
  (hpkts : (s.inVc input.val v.val).pkts = k :: rest) (hgood : ((s.inVc input.val v.val).pkts.any fun x => x.bad) = false)
  (hcopy : k.copy = none) (hundecided : k.undecided = true)
include hruns hpkts hgood hcopy hundecided

theorem exec_routeDecision_network (hcoll : collectiveHere input.val k.head = false) :
    exec (.routeDecision input v) s = .next ((s.routeFront input.val v.val k).lineUpdate).ended := by
  rw [hpkts] at hgood
  show execRouteDecision input v s = _
  refine live_effect _ hruns ?_
  simp only [hpkts, hgood, hcopy, hundecided, hcoll, Bool.not_true, Bool.false_eq_true, if_false]

/-- A collective packet whose target is known takes its route and does not wait for an endpoint (R114). -/
theorem exec_routeDecision_collective {t : Option Target} (hcoll : collectiveHere input.val k.head = true) (hsome : t.isSome = true)
    (ht : t = s.collectiveTarget k.head (k.need = 0)) :
    exec (.routeDecision input v) s =
      .next (s.setFront input.val v.val { k with route := t.map fun y => { target := y, vc := hVc k.head } }).ended := by
  rw [hpkts] at hgood
  obtain ⟨y, rfl⟩ := Option.isSome_iff_exists.mp hsome
  show execRouteDecision input v s = _
  refine live_effect _ hruns ?_
  simp only [hpkts, hgood, hcopy, hundecided, hcoll, ← ht, Option.map_some, Option.isNone_some, Bool.not_true, Bool.false_eq_true,
    if_false, if_true]

end

/-! ### The flip that is armed (R257) -/

theorem exec_routingFlip_due {s : State} {a : ArmedFlip} (hruns : s.runs = true) (harmed : s.rout.armed = some a)
    (hvalid : s.geysState ≠ gsInvalid) (hdue : a.target ≤ s.gt) :
    exec .routingFlip s = .next (s.doFlip (s.lateFor a.target) false).ended := by
  show execRoutingFlip s = _
  refine live_effect _ hruns ?_
  simp only [harmed]
  exact if_pos (by simp [hvalid, hdue])

/-- Settles O16: each clause is the row's gate, open while the device runs, before the branch of its effect that the clause describes. -/
theorem routerCommandsComplete : Obligations.RouterCommandsComplete := by
  refine ⟨?network, ?collective, ?line, ?refresh, ?armWrite, ?flipNotice, ?flip, ?holdGt, ?holdLocal, ?mark, ?transitOff⟩
  case network =>
    intro input v s k rest hruns hpkts hgood hcopy hundecided hcoll
    exact exec_routeDecision_network hruns hpkts hgood hcopy hundecided hcoll
  case collective =>
    intro input v s k rest t hruns hpkts hgood hcopy hundecided hcoll hsome ht
    exact exec_routeDecision_collective hruns hpkts hgood hcopy hundecided hcoll hsome ht
  case line =>
    intro p flit s hruns htype hsub
    show execLineNoticeReceive p flit s = _
    exact live_effect _ hruns ((if_neg (not_not.mpr htype)).trans ((if_neg (by simp [hsub])).trans (if_pos hsub)))
  case refresh =>
    intro p s hruns
    show execLineNoticeRefresh p s = _
    exact live_runs s _ hruns
  case armWrite =>
    intro bit s hruns
    show execFlipArmWrite bit s = _
    exact live_runs s _ hruns
  case flipNotice =>
    intro p flit s hruns htype
    show execFlipNoticeReceive p flit s = _
    exact live_effect _ hruns (if_pos htype)
  case flip =>
    intro s a hruns harmed hvalid hdue
    exact exec_routingFlip_due hruns harmed hvalid hdue
  case holdGt =>
    intro s t hruns hholding hend hpast hvalid
    show execBankHoldExpire s = _
    exact live_effect _ hruns (if_pos (by simp [hholding, hend, hpast, hvalid]))
  case holdLocal =>
    intro s t hruns hholding hend hpast
    show execBankHoldExpire s = _
    exact live_effect _ hruns (if_pos (by simp [hholding, hend, hpast]))
  case mark =>
    intro p flit s hruns htype hsub
    show execMarkNoticeReceive p flit s = _
    exact live_effect _ hruns (if_pos (by simp [htype, hsub]))
  case transitOff =>
    intro bit s hruns
    show execRoutTransitOffWrite bit s = _
    exact live_runs s _ hruns

end Sys2Proof.Machine
end

section
/-! What the schedule opcodes and the scheduler's events come to (08_scheduled_traffic.md R284 to R315; 16_command_packets.md Table 16.6), and
that a load into the active buffer is its BUSY reply alone (R285). -/

namespace Sys2Proof.Machine

/-! ### The reply of a command that starts while nothing is owed -/

section
variable {b : Issuer} {code : Nat} {c : CmdRef} {ps : List Byte} {s u : State} {n : Nat} (h : Starts s b code c ps n u)
include h

/-- Up to its effect a command changes no more than a reply does. -/
theorem Starts.replied (ks : List Nat) : Replied c.path ks s u := by
  obtain ⟨w, -, -, hready, -, rfl, -⟩ := h
  obtain ⟨href, -, -⟩ := cmdReady_is s c code ps w hready
  exact href ▸ begun_replied s w

theorem Starts.startedCmd_path {x : Started} (hx : u.startedCmd n = some x) : x.ref.path = c.path := by
  obtain ⟨w, -, -, hready, rfl, rfl, -⟩ := h
  obtain ⟨href, -, -⟩ := cmdReady_is s c code ps w hready
  rw [begun_startedCmd] at hx
  cases hx
  exact congrArg CmdRef.path href

/-- A command starts without waiting for a group. -/
theorem Starts.waitsGroup (hg : s.cmd.started.any Started.waitsGroup = false) : u.cmd.started.any Started.waitsGroup = false := by
  obtain ⟨w, -, -, -, -, rfl, -⟩ := h
  simp [State.begun, hg, Started.waitsGroup]

/-- A command that ends at once leaves its reply, and nothing is owed afterwards. -/
theorem Starts.ends_quiet (hq : s.quiet = true) (st : Nat) :
    Replied c.path [] s (u.ends n st) ∧ (u.ends n st).ended = u.ends n st := by
  have hg : s.cmd.started.any Started.waitsGroup = false := by
    simp only [State.quiet, Bool.and_eq_true, Bool.not_eq_true'] at hq
    obtain ⟨⟨⟨⟨-, hg⟩, -⟩, -⟩, -⟩ := hq
    exact hg
  have hreplied : Replied c.path [] s (u.ends n st) :=
    (h.replied []).trans (finalReply_replied u n st [] c.path fun _ hx => h.startedCmd_path hx)
  have hwaits := finalReply_waits u n st [] (h.waitsGroup hg)
  exact ⟨hreplied, ended_quiet _ (hreplied.quiet hq (senseKey_keys _ (by simp)) hwaits)⟩

end

/-! ### SCHED_LOAD (R284, R285) -/

theorem schdActive_iff (s : State) : s.schdActive = true ↔ s.schdState = ssArmed ∨ s.schdState = ssRunning := by
  simp [State.schdActive]

section
variable {c : CmdRef} {buf : BitVec 8} {addr : BitVec 64} {len : BitVec 32} (data : HostRead) {s u : State} {n : Nat}
  (h : Starts s .p 0x0400 c (pack [(1, buf.toNat), (8, addr.toNat), (4, len.toNat)]) n u) (hbuf : buf.toNat ≤ 1)
include h hbuf

/-- The buffer that runs, and the one of a planned switch, are not loaded. -/
theorem exec_schedLoad_busy (hactive : u.schdActive = true)
    (hused : buf.toNat = u.runBuf ∨ u.schd.switch.any (fun x => x.1 = buf.toNat) = true) :
    exec (.schedLoad c buf addr len data) s = .next (u.ends n stBusy).ended :=
  command_effect _ h ((if_neg (Nat.not_lt.mpr hbuf)).trans (if_pos (by simpa [hactive] using hused)))

/-- Another buffer is not valid from then on, and the image is read and loaded. -/
theorem exec_schedLoad_reads
    (hfree : u.schdActive = false ∨ buf.toNat ≠ u.runBuf ∧ u.schd.switch.any (fun x => x.1 = buf.toNat) = false) :
    exec (.schedLoad c buf addr len data) s =
      .next ((u.setBufValid buf.toNat false).withBuffer n c addr.toNat len.toNat data [] fun s bs => s.imageLoad n buf.toNat bs).ended := by
  refine command_effect _ h ((if_neg (Nat.not_lt.mpr hbuf)).trans (if_neg ?_))
  rcases hfree with hidle | ⟨hother, hswitch⟩
  · simp [hidle]
  · simp [hother, hswitch]

end

/-- Settles O59: SCHED_LOAD ends BUSY at the row's second test, before its buffer or the host's bytes are looked at. -/
theorem loadIntoActiveBuffer : Obligations.LoadIntoActiveBuffer := by
  intro c buf addr len data s u n h hstate hrun hbuf hq
  obtain ⟨hreplied, hended⟩ := h.ends_quiet hq stBusy
  refine ⟨?_, hreplied⟩
  rw [exec_schedLoad_busy data h hbuf ((schdActive_iff u).mpr hstate) (.inl hrun), hended]

/-- The schedule of buffer 0 is ARMED, and SCHED_LOAD of 64 bytes into this buffer is the next command of its ring. -/
def loadWhileArmed : State := ready (tst.wr R.SCHD_CTRL_STATE ssArmed) 0x0400 c0 (pack [(1, 0), (8, 0), (4, 64)])

/-- `loadIntoActiveBuffer` at a state that meets its hypotheses. -/
theorem schedLoad_loadWhileArmed :
    ∃ t, exec (.schedLoad c0 0 0 64 none) loadWhileArmed = .next t ∧ Replied c0.path [] loadWhileArmed t :=
  ⟨_, loadIntoActiveBuffer c0 0 0 64 none loadWhileArmed _ _ (ready_starts _ _ _ _ _ (by decide)) (.inl (by decide)) (by decide)
    (by decide) (by decide)⟩

/-! ### SCHED_START (R287) -/

/-- What SCHED_START asks of its parameters. -/
abbrev State.startParamsOk (s : State) (b g hash : Nat) : Prop :=
  b ≤ 1 ∧ s.bufValid b = true ∧ hash = s.imgHash b ∧
    s.gt + 16000 * s.imgFetchLead b + max (s.leadOf b) 32000 + 1600000 ≤ g ∧ g ≤ s.gt + 160000000000

/-- The first three tests of the row refuse alike, so that they come to one. -/
theorem startTests_eq (s : State) (b g hash : Nat) (refused accepted : State) :
    (if b > 1 then refused
      else if !s.bufValid b || hash ≠ s.imgHash b then refused
      else if g < s.gt + 16000 * s.imgFetchLead b + max (s.leadOf b) 32000 + 1600000 || g > s.gt + 160000000000 then refused
      else accepted) = if s.startParamsOk b g hash then accepted else refused := by
  by_cases hok : s.startParamsOk b g hash
  · rw [if_pos hok]
    obtain ⟨hbuf, hvalid, hhash, hearly, hlate⟩ := hok
    exact (if_neg (Nat.not_lt.mpr hbuf)).trans ((if_neg (by simp [hvalid, hhash])).trans (if_neg (by simp [hearly, hlate])))
  · rw [if_neg hok]
    split_ifs with hbuf himage htime
    · rfl
    · rfl
    · rfl
    · simp only [Bool.or_eq_true, not_or, Bool.not_eq_true', Bool.not_eq_false, decide_eq_true_eq, not_not, not_lt,
        gt_iff_lt] at hbuf himage htime
      obtain ⟨hvalid, hhash⟩ := himage
      exact absurd ⟨hbuf, hvalid, hhash, htime⟩ hok

section
variable {c : CmdRef} {buf : BitVec 8} {startGt machHash : BitVec 64} {s u : State} {n : Nat}
  (h : Starts s .d 0x0401 c (pack [(1, buf.toNat), (8, startGt.toNat), (8, machHash.toNat)]) n u)
  (hok : u.startParamsOk buf.toNat startGt.toNat machHash.toNat)
include h hok

/-- A port that fails the path check is the result (R288). -/
theorem exec_schedStart_pathFails {q : Nat} (hpath : u.pathFailure buf.toNat = some q) :
    exec (.schedStart c buf startGt machHash) s = .next (u.finalReply n stBadParam (pack [(1, q)])).ended := by
  refine command_effect _ h ((startTests_eq ..).trans ((if_pos hok).trans ?_))
  simp only [hpath]

/-- Past the path check the state of the timebase decides, and then that of the schedule. -/
theorem exec_schedStart_pathPasses (hpath : u.pathFailure buf.toNat = none) :
    exec (.schedStart c buf startGt machHash) s =
      .next (if u.geysState ≠ gsLocked then u.ends n stNotPermitted
        else if u.schdState = ssIdle then (u.armSchedule buf.toNat startGt.toNat).ends n stOk
        else if u.isSwitch buf.toNat startGt.toNat then (u.planSwitch buf.toNat startGt.toNat).ends n stOk
        else u.ends n stBusy).ended := by
  refine command_effect _ h ((startTests_eq ..).trans ((if_pos hok).trans ?_))
  simp only [hpath]

end

/-! ### The schedule opcodes (16_command_packets.md Table 16.6) -/

/-- Settles O5: each clause is its row's effect when the command has started, followed through the row's tests in their order. -/
theorem scheduleCommandsComplete : Obligations.ScheduleCommandsComplete := by
  refine ⟨?load, ?loadRange, ?loadBusy, ?loadFailed, ?loadEmpty, ?start, ?startBad, ?startUnlocked, ?startActive, ?startPath, ?stop,
    ?stopIdle, ?stopRange, ?stopPassed, ?abort, ?clear, ?status, ?cfg, ?cfgBad⟩
  case load =>
    intro c buf addr len data s u n bs h hbuf hfree hdata hbs hlen
    rw [exec_schedLoad_reads data h hbuf hfree, hdata, withBuffer_some _ n c _ hlen _ _ hbs]
  case loadRange =>
    intro c buf addr len data s u n h hbuf
    exact command_effect _ h (if_pos hbuf)
  case loadBusy =>
    intro c buf addr len data s u n h hbuf hactive hused
    exact exec_schedLoad_busy data h hbuf hactive hused
  case loadFailed =>
    intro c buf addr len data s u n h hbuf hfree hdata hlen
    rw [exec_schedLoad_reads data h hbuf hfree, hdata, withBuffer_none _ n c _ hlen]
  case loadEmpty =>
    intro c buf addr len data s u n h hbuf hfree hdata hlen
    rw [exec_schedLoad_reads data h hbuf hfree, hdata, hlen, withBuffer_empty]
  case start =>
    intro c buf startGt machHash s u n h hbuf hvalid hhash hearly hlate hpath hlocked hidle
    rw [exec_schedStart_pathPasses h ⟨hbuf, hvalid, hhash, hearly, hlate⟩ hpath, if_neg (not_not.mpr hlocked), if_pos hidle]
  case startBad =>
    intro c buf startGt machHash s u n h hbad
    exact command_effect _ h ((startTests_eq ..).trans (if_neg hbad))
  case startUnlocked =>
    intro c buf startGt machHash s u n h hbuf hvalid hhash hearly hlate hpath hunlocked
    rw [exec_schedStart_pathPasses h ⟨hbuf, hvalid, hhash, hearly, hlate⟩ hpath, if_pos hunlocked]
  case startActive =>
    intro c buf startGt machHash s u n h hbuf hvalid hhash hearly hlate hpath hlocked hactive
    rw [exec_schedStart_pathPasses h ⟨hbuf, hvalid, hhash, hearly, hlate⟩ hpath, if_neg (not_not.mpr hlocked), if_neg hactive]
  case startPath =>
    intro c buf startGt machHash s u n q h hbuf hvalid hhash hearly hlate hpath
    exact exec_schedStart_pathFails h ⟨hbuf, hvalid, hhash, hearly, hlate⟩ hpath
  case stop =>
    intro c iter s u n h hrange hactive hlater
    exact command_effect _ h ((if_neg (Nat.not_le.mpr hrange)).trans ((if_neg (by simp [hactive])).trans
      (if_neg (by simpa [or_iff_not_imp_left] using hlater))))
  case stopIdle =>
    intro c iter s u n h hrange hidle
    exact command_effect _ h ((if_neg (Nat.not_le.mpr hrange)).trans (if_pos (by simp [hidle])))
  case stopRange =>
    intro c iter s u n h hrange
    exact command_effect _ h (if_pos hrange)
  case stopPassed =>
    intro c iter s u n h hrange hrunning hpassed
    have hactive := (schdActive_iff u).mpr (.inr hrunning)
    exact command_effect _ h ((if_neg (Nat.not_le.mpr hrange)).trans ((if_neg (by simp [hactive])).trans
      (if_pos (by simp [hrunning, hpassed]))))
  case abort | clear | status =>
    intro c s u n h
    exact command_starts _ h
  case cfg =>
    intro c v₁ v₂ v₃ v₄ v₅ v₆ v₇ s u n h hall
    exact command_effect _ h (okIf_true u n _ hall)
  case cfgBad =>
    intro c v₁ v₂ v₃ v₄ v₅ v₆ v₇ s u n h hall
    exact command_effect _ h (okIf_false u n _ hall)

/-! ### An ABORT flit (R310, R311) -/

section
variable {p : Port} {flit : Flit} {s : State} (hruns : s.runs = true) (htype : fget flit 0 8 = 4) (hreason : fget flit 48 4 ≤ 2)
include hruns htype hreason

theorem exec_schedAbortReceive_floods (hactive : (s.bcTake p.val flit).schdActive = true)
    (himage : fget flit 16 32 = (s.bcTake p.val flit).imgId (s.bcTake p.val flit).runBuf) (hhop : 0 < fget flit 8 8) :
    exec (.schedAbortReceive p flit) s =
      .next (((s.bcTake p.val flit).flood (fset flit 8 8 (fget flit 8 8 - 1)) (some p.val)).schdAbort (fget flit 48 4) (fget flit 52 20)
        false).ended := by
  show execSchedAbortReceive p flit s = _
  refine live_effect _ hruns ((if_neg (not_not.mpr htype)).trans ((if_neg (Nat.not_lt.mpr hreason)).trans
    ((if_pos (by simp [hactive, himage])).trans ?_)))
  simp only [hhop, if_true]

theorem exec_schedAbortReceive_ignored (hidle : (s.bcTake p.val flit).schdActive = false) :
    exec (.schedAbortReceive p flit) s = .next ((s.bcTake p.val flit).bump C.SCHD_ABORT_IGNORED).ended := by
  show execSchedAbortReceive p flit s = _
  exact live_effect _ hruns ((if_neg (not_not.mpr htype)).trans ((if_neg (Nat.not_lt.mpr hreason)).trans (if_neg (by simp [hidle]))))

end

/-! ### Packets of VC7 (R298, R307) -/

/-- The only packet of an input's VC7 is the one that is judged. -/
theorem exec_vc7HeadArrival_only {input : Port} {s : State} {k : BufPkt} (hruns : s.runs = true)
    (hpkts : (s.inVc input.val 7).pkts = [k]) (hslots : k.onSlots = true) (hroute : k.route = none) :
    exec (.vc7HeadArrival input) s = .next (s.vc7Arrive input.val 0 k).ended := by
  show execVc7HeadArrival input s = _
  refine live_effect _ hruns ?_
  simp [hpkts, hslots, hroute]

/-- An unclaimed head is demoted HQ after its arrival, which is a breach but for a prefetch miss in the current iteration. -/
theorem exec_vc7OrphanTimeout_due {input : Port} {s : State} {j : Nat} {k : BufPkt} {v : State} (hruns : s.runs = true)
    (hhead : s.vc7Head input.val = some (j, k)) (hroute : k.route = none) (hdue : k.arrival + s.hq s.runBuf ≤ s.gt)
    (hv : v = s.demoteTransit input.val j C.SCHD_DEMOTE_ORPHAN) :
    exec (.vc7OrphanTimeout input) s =
      .next (if v.schd.missIter = v.iterNow + 1 then v
        else v.breach bkOrphan input.val ((s.slotAt s.gt).toNat % s.imgCycle s.runBuf) (hDpid k.head)).ended := by
  subst hv
  show execVc7OrphanTimeout input s = _
  refine live_effect _ hruns ?_
  simp only [hhead]
  exact if_neg (by simp [hroute, hdue])

/-! ### Decisions about bursts (R315) -/

/-- A burst that is near and not yet decided is decided now. -/
theorem exec_prewarmDecide_due {m k : Nat} {s : State} {x : Burst} (acts : Bool) (hruns : s.runs = true)
    (hburst : s.burstAt m k = some x) (hon : s.prewarmOn x.buf = true ∨ s.lstepOn x.buf = true) (hvalid : s.geysState ≠ gsInvalid)
    (hnear : x.start ≤ s.gt + max (s.lstepLead x.buf) 32000) (hstop : s.gt < x.stop) (hundecided : s.burstDecided x = none)
    (hacts : (s.schdActive && s.launchOk && !s.on R.PIN_THERM_THROTTLE) = acts) :
    exec (.prewarmDecide m k) s =
      .next (if acts then { s with schd := { s.schd with bursts := s.burstsKept ++ [{ x with acts := true }] } }
        else ({ s with schd := { s.schd with bursts := s.burstsKept ++ [{ x with acts := false }] } } : State).wr
          R.SCHD_EVENT_PREWARM_SKIP 1).ended := by
  show execPrewarmDecide m k s = _
  refine live_effect _ hruns ?_
  simp only [hburst, hacts]
  refine (if_neg (by simpa [hvalid, hnear, hstop, hundecided, or_iff_not_imp_left] using hon)).trans ?_
  cases acts <;> rfl

/-! ### Launches (R294, R312) -/

/-- The row of an engine that MOSS does not gate, with what its effect comes to. -/
theorem engine_effect {s t : State} (f : State → State) (hengines : s.engines = true) (ht : f s = t) : engine s f = .next t.ended := by
  rw [engine_runs s f hengines, ht]

/-- A launch whose descriptor has been read and is not complete goes on with it. -/
theorem exec_launchFetch_held {e : Fin 24} {data : HostRead} {s : State} {late : Bool} {k start idx : Nat} {l : Launch} {y : SqDesc}
    (hengines : s.engines = true) (hnext : s.nextLaunch e.val = some (late, k, l, start)) (hready : s.launchReady late l start = true)
    (hidx : idx = (l.ringIdx + l.stride * k) % 2 ^ 32) (hserved : s.qpServed l.qidx = true)
    (hreading : (s.qp l.qidx).reading idx = false) (hskip : s.skipOf l.qidx idx = none)
    (hdesc : (s.qp l.qidx).sq.find? (fun z => z.x = idx) = some y) (hundone : y.isDone = false)
    (hstarts : s.qpQuiet l.qidx = false ∨ (s.sqOp l.qidx idx).isSome = true) :
    exec (.launchFetch e data) s = .next (s.launchRun e.val late l idx y.desc start data).ended := by
  show execLaunchFetch e data s = _
  refine engine_effect _ hengines ?_
  simp only [hnext, ← hidx]
  refine (if_neg (by simp [hready])).trans ((if_neg (by simp [hserved])).trans ((if_neg (by simp [hreading])).trans ?_))
  simp only [hskip, hdesc]
  exact (if_neg (by simp [hundone])).trans (if_neg (by simpa [or_iff_not_imp_left, Option.isSome_iff_ne_none] using hstarts))

/-- A skipped descriptor that has been read completes at once. -/
theorem exec_skippedDescComplete_held {data : HostRead} {s : State} {d : SkippedDesc} (hengines : s.engines = true)
    (hfind : s.schd.skipped.find? s.skipReady = some d) (hvalid : (s.qp d.qp).valid = true)
    (hheld : ((s.qp d.qp).sq.any fun z => z.x = d.idx) = true) :
    exec (.skippedDescComplete data) s =
      .next (({ s with schd := { s.schd with skipped := s.schd.skipped.erase d } } : State).skipDone d).ended := by
  show execSkippedDescComplete data s = _
  refine engine_effect _ hengines ?_
  simp only [hfind]
  exact (if_neg (by simp [hvalid])).trans (if_pos hheld)

/-! ### The scheduler's events -/

/-- Settles O21: each clause is the row's gate, open while the device or the engines run, before the branch of its effect that the clause
describes. -/
theorem scheduleEventsComplete : Obligations.ScheduleEventsComplete := by
  refine ⟨?go, ?runStart, ?stop, ?switch, ?abort, ?clear, ?abortFlit, ?abortIdle, ?prefetch, ?prefetchMiss, ?slotStart, ?arrival, ?orphan,
    ?orphanBreach, ?decide, ?decideSkip, ?rampUp, ?rampDown, ?lstepAssert, ?lstepRelease, ?launch, ?skipped⟩
  case go =>
    intro bit s hruns
    show execSchdGoWrite bit s = _
    exact live_runs s _ hruns
  case runStart =>
    intro s hruns harmed hvalid hdue
    show execScheduleRunStart s = _
    exact live_effect _ hruns (if_pos (by simp [harmed, hvalid, hdue]))
  case stop =>
    intro s hruns hrunning hstop hvalid hdue
    show execScheduleStopReached s = _
    exact live_effect _ hruns (if_pos (by simp [hrunning, hstop, hvalid, hdue]))
  case switch =>
    intro s b g hruns hswitch hrunning hvalid hdue
    show execScheduleSwitch s = _
    refine live_effect _ hruns ?_
    simp only [hswitch]
    exact if_pos (by simp [hrunning, hvalid, hdue])
  case abort =>
    intro bit s hruns
    show execSchdAbortWrite bit s = _
    exact live_runs s _ hruns
  case clear =>
    intro bit s hruns
    show execSchdClearWrite bit s = _
    exact live_runs s _ hruns
  case abortFlit =>
    intro p flit s v hruns hv htype hreason hactive himage hhop
    subst hv
    exact exec_schedAbortReceive_floods hruns htype hreason hactive himage hhop
  case abortIdle =>
    intro p flit s v hruns hv htype hreason hidle
    subst hv
    exact exec_schedAbortReceive_ignored hruns htype hreason hidle
  case prefetch =>
    intro t k i hit s hruns hnone
    show execSlotPrefetch t k i hit s = _
    refine live_effect _ hruns (if_pos ?_)
    rcases hnone with hhit | hearly | hinvalid
    · simp [hhit]
    · simp [hearly]
    · simp [hinvalid]
  case prefetchMiss =>
    intro t k i hit s a hruns ha hmiss hvalid hdue hserved hnew
    subst ha
    show execSlotPrefetch t k i hit s = _
    exact live_effect _ hruns (if_neg (by simp [hmiss, hvalid, hdue, hserved, hnew]))
  case slotStart =>
    intro t k i s hruns hrunning hvalid htable hcycle hdue hserved
    show execSlotStart t k i s = _
    exact live_effect _ hruns (if_pos (by simp [hrunning, hvalid, htable, hcycle, hdue, hserved]))
  case arrival =>
    intro input s k hruns hpkts hslots hroute
    exact exec_vc7HeadArrival_only hruns hpkts hslots hroute
  case orphan =>
    intro input s j k v hruns hhead hroute hdue hv hmissed
    rw [exec_vc7OrphanTimeout_due hruns hhead hroute hdue hv, if_pos hmissed]
  case orphanBreach =>
    intro input s j k v hruns hhead hroute hdue hv hnone
    rw [exec_vc7OrphanTimeout_due hruns hhead hroute hdue hv, if_neg hnone]
  case decide =>
    intro m k s x hruns hburst hon hvalid hnear hstop hundecided hactive hlaunch hcool
    exact exec_prewarmDecide_due true hruns hburst hon hvalid hnear hstop hundecided (by simp [hactive, hlaunch, hcool])
  case decideSkip =>
    intro m k s x hruns hburst hon hvalid hnear hstop hundecided hskip
    exact exec_prewarmDecide_due false hruns hburst hon hvalid hnear hstop hundecided hskip
  case rampUp =>
    intro s v hruns hlevel hbegun hv
    subst hv
    show execPrewarmRampUp s = _
    exact live_effect _ hruns (if_neg (by simpa [hlevel, or_iff_not_imp_left] using hbegun))
  case rampDown =>
    intro s hruns hholding hramp
    have hlast : ¬ s.schd.ramp - 1 = 0 := by omega
    show execPrewarmRampDown s = _
    refine live_effect _ hruns ((if_neg (by simp [hholding])).trans ?_)
    simp only [hlast, if_false]
  case lstepAssert =>
    intro s hruns hvalid hkeeps
    show execLstepAssert s = _
    exact live_effect _ hruns (if_pos (by simp only [hkeeps, decide_eq_true hvalid, Bool.and_self]))
  case lstepRelease =>
    intro s hruns hholding hramp hkeeps
    show execLstepRelease s = _
    exact live_effect _ hruns (if_pos (by simp only [hholding, hramp, hkeeps, List.isEmpty_nil, decide_true, Bool.not_false, Bool.and_self]))
  case launch =>
    intro e data s late k start idx l y hengines hnext hready hidx hserved hreading hskip hdesc hundone hstarts
    exact exec_launchFetch_held hengines hnext hready hidx hserved hreading hskip hdesc hundone hstarts
  case skipped =>
    intro data s d hengines hfind hvalid hheld
    exact exec_skippedDescComplete_held hengines hfind hvalid hheld

end Sys2Proof.Machine
end

section
/-! What the events of the functions, the host links and the idle timer come to (09_host_attach_and_queues.md R321 to R330;
17_reset_power_supplies.md R599, R610, R619), and what an enable or disable event does to a function in QUIESCING (R329). -/

namespace Sys2Proof.Machine

/-! ### Enable and disable events in QUIESCING (R329) -/

section
variable {s : State} {k : Nat} (hstate : s.fnState k = fsQuiescing)
include hstate

theorem enableEvent_quiescing : s.enableEvent k = s.wr R.FUNC_STATUS_PEND 1 k :=
  (if_neg (by simp [hstate, fsOff, fsQuiescing])).trans (if_pos hstate)

theorem disableEvent_quiescing : s.disableEvent k = s.wr R.FUNC_STATUS_PEND 0 k :=
  (if_neg (by simp [hstate, fsEnabled, fsQuiescing])).trans (if_pos hstate)

end

/-- Settles O58: in QUIESCING both events are a write of PEND alone. -/
theorem pendDuringQuiescing : Obligations.PendDuringQuiescing := by
  intro s k hstate
  have hframe : ∀ v, SameRegs [R.FUNC_STATUS_PEND.key k 0] s (s.wr R.FUNC_STATUS_PEND v k) := fun v =>
    wr_sameRegs s _ v k 0 (List.mem_singleton_self _)
  rw [enableEvent_quiescing hstate, disableEvent_quiescing hstate]
  exact ⟨rd_wr_same s _ 1 k 0, rd_wr_same s _ 0 k 0, hframe 1, rfl, hframe 0, rfl⟩

/-- `pendDuringQuiescing` at a state that meets its hypothesis. -/
theorem enableEvent_tst_setFn_quiescing :
    ((tst.setFn 5 fsQuiescing).enableEvent 5).rd R.FUNC_STATUS_PEND 5 = 1 :=
  (pendDuringQuiescing (tst.setFn 5 fsQuiescing) 5 (by decide)).1

/-! ### The host's requests -/

/-- The row of a host's request while the device runs, with what its effect comes to in the state in which it is seen. -/
theorem hostWrites_effect {s u t : State} {h : Nat} (f : State → State) (hruns : s.runs = true) (hu : u = s.hostSeen h) (ht : f u = t) :
    hostWrites h s f = .next t.ended := by
  rw [hostWrites_runs h s f hruns, ← hu, ht]

/-! ### The events of the functions, the host links and the idle timer -/

/-- Settles O22: each clause is the row's gate, open while the device runs, before the branch of its effect that the clause describes;
the two edges of PERST have no gate. -/
theorem functionEventsComplete : Obligations.FunctionEventsComplete := by
  refine ⟨?idle, ?ctrlEn, ?enable, ?disable, ?flr, ?quiesced, ?timeout, ?readError, ?linkUp, ?linkDown, ?perstLow, ?perstHigh⟩
  case idle =>
    intro p s hruns hauto hstate hup hawake hslots
    show execQuietIdleExpire p s = _
    have hmode : ¬(s.powerState ≠ psRun ∧ s.powerState ≠ psMoss) := by simpa [or_iff_not_imp_left] using hstate
    exact live_effect _ hruns (if_neg (by simpa [hauto, hup, hawake, hslots] using hmode))
  case ctrlEn =>
    intro h f en s u hruns hu hstate
    show execFuncCtrlEnWrite h f en s = _
    exact hostWrites_effect _ hruns hu (if_neg hstate)
  case enable =>
    intro h f cfg s hruns
    show execFuncEnableEvent h f cfg s = _
    exact live_runs s _ hruns
  case disable =>
    intro h f cfg s hruns
    show execFuncDisableEvent h f cfg s = _
    exact live_runs s _ hruns
  case flr =>
    intro h f s k v hruns hk hv
    subst hk hv
    show execFlr h f s = _
    exact live_runs s _ hruns
  case quiesced =>
    intro h f s hruns hstate hfree
    show execQuiesceComplete h f s = _
    exact live_effect _ hruns (if_pos (by simp [hstate, hfree]))
  case timeout =>
    intro h f s hruns hstate
    show execQuiesceTimeout h f s = _
    exact live_effect _ hruns (if_pos hstate)
  case readError =>
    intro h f s hruns
    show execDmaReadError h f s = _
    exact live_runs s _ hruns
  case linkUp =>
    intro h offersCxl flit rate width s v hruns hperst hv
    subst hv
    show execHostLinkUp h offersCxl flit rate width s = _
    exact live_effect _ hruns (if_neg (by simp [hperst]))
  case linkDown =>
    intro h l2 s hruns
    show execHostLinkDown h l2 s = _
    exact live_runs s _ hruns
  case perstLow =>
    intro h s v hv
    subst hv
    show execPerstAssert h s = _
    exact (apply_ite fin ..).symm
  case perstHigh =>
    intro h s v hv
    subst hv
    show execPerstDeassert h s = _
    simp only [execPerstDeassert, Bool.or_eq_true, Bool.not_eq_true', decide_eq_true_eq]
    exact (apply_ite fin ..).symm

end Sys2Proof.Machine
end

section
/-! What the doorbells, the reads of doorbell records, the fetches of descriptors and the completion writes come to
(09_host_attach_and_queues.md R335 to R356). -/

namespace Sys2Proof.Machine

/-! ### Doorbells (R335, R338, R354, R356) -/

section
variable {u : State} {k : Nat}

/-- The doorbell of a queue of an enabled function that is served counts and acts on the queue. -/
theorem doorbell_taken {slot q : Nat} (f : State → Nat → State) (hstate : u.fnState k = fsEnabled)
    (hserves : u.serves (keyPort k) = true) (hqp : u.qpAt k slot = some q) : u.doorbell k slot f = f (u.bump C.QUE_DB_WRITES) q := by
  unfold State.doorbell
  rw [if_neg (by simp [hstate, fsEnabled, fsWedged]), if_pos (by simp [hstate, hserves]), hqp]

/-- Any other doorbell of a function that is not WEDGED counts as ignored as well. -/
theorem doorbell_ignored {slot : Nat} (f : State → Nat → State) (hstate : u.fnState k ≠ fsWedged)
    (hnone : u.fnState k ≠ fsEnabled ∨ u.serves (keyPort k) = false ∨ u.qpAt k slot = none) :
    u.doorbell k slot f = (u.bump C.QUE_DB_WRITES).bump C.QUE_DB_IGNORED := by
  have hqp : (if u.fnState k = fsEnabled && u.serves (keyPort k) then u.qpAt k slot else none) = none := by
    rcases hnone with hoff | hunserved | habsent
    · exact if_neg (by simp [hoff])
    · exact if_neg (by simp [hunserved])
    · rw [habsent, ite_self]
  unfold State.doorbell
  rw [if_neg hstate, hqp]

theorem eqDoorbell_taken {vec : Nat} (f : State → State) (hstate : u.fnState k = fsEnabled) (hserves : u.serves (keyPort k) = true)
    (hvalid : (u.eqAt k vec).valid = true) : u.eqDoorbell k vec f = f (u.bump C.QUE_DB_WRITES) :=
  (if_neg (by simp [hstate, fsEnabled, fsWedged])).trans (if_pos (by simp [hstate, hserves, hvalid]))

end

/-! ### Descriptors (R344, R346) -/

/-- A run of descriptors that may be fetched and has room is fetched at the address it translates to. -/
theorem exec_descriptorFetch_hit {q : QIdx} {rq : Bool} {s : State} {n va pa : Nat} {ns : Bool} {w : Access} (hengines : s.engines = true)
    (hn : n = if rq then fetchRun (s.qp q.val).rqObs (s.qp q.val).rqFetch (s.qp q.val).rqSize
      else min (s.qp q.val).sqRun (s.qp q.val).fetchRoom)
    (hsome : n ≠ 0) (hready : s.fetchReady q.val rq = true)
    (hroom : s.npRoom (s.qp q.val).p.hport (64 * ((if rq then (s.qp q.val).rqFetch else (s.qp q.val).sqFetch) % 64)) (64 * n) = true)
    (hva : va = if rq then (s.qp q.val).p.rqBase + 64 * ((s.qp q.val).rqFetch % (s.qp q.val).rqSize)
      else (s.qp q.val).p.sqBase + 64 * ((s.qp q.val).sqFetch % (s.qp q.val).sqSize))
    (hw : w = if rq then .rqFetch q.val else .sqFetch q.val)
    (hhit : (s.translate (s.qp q.val).p.ctx va .fetch none w).1 = .hit pa ns) :
    exec (.descriptorFetch q rq) s =
      .next ((s.translate (s.qp q.val).p.ctx va .fetch none w).2.fetchOut q.val rq n
        (if rq then (s.qp q.val).rqFetch else (s.qp q.val).sqFetch) pa).ended := by
  show execDescriptorFetch q rq s = _
  refine engine_effect _ hengines ?_
  obtain ⟨v, hv⟩ : ∃ v, s.translate (s.qp q.val).p.ctx va .fetch none w = (.hit pa ns, v) := ⟨_, Prod.ext hhit rfl⟩
  cases rq
  all_goals
    subst hn hva hw
    refine (if_neg (by simpa [hready] using hsome)).trans ((if_neg (by simpa using hroom)).trans ?_)
    simp only [Bool.false_eq_true, if_true, if_false] at hv ⊢
    rw [hv]

/-- The descriptors of one read that arrive whole, for an enabled function, are taken in order. -/
theorem exec_descriptorArrive_whole {q : QIdx} {rq : Bool} {s : State} {ins run : List Fetch} {f : Fetch} {bs : List Byte}
    (hengines : s.engines = true) (hins : ins = if rq then (s.qp q.val).rqIn else (s.qp q.val).sqIn) (hhead : ins.head? = some f)
    (hrun : run = ins.takeWhile fun g => g.dma = f.dma) (hlen : bs.length = 64 * run.length)
    (hstate : s.fnState (s.qp q.val).func = fsEnabled) :
    exec (.descriptorArrive q rq (some bs)) s =
      .next ((s.setQp q.val (if rq then { s.qp q.val with rqIn := ins.drop run.length }
        else { s.qp q.val with sqIn := ins.drop run.length })).arriveAll q.val rq run bs |>.errorDrain q.val).ended := by
  show execDescriptorArrive q rq (some bs) s = _
  refine engine_effect _ hengines ?_
  obtain ⟨rest, hcons⟩ := List.head?_eq_some_iff.mp hhead
  simp only [← hins]
  rw [hcons] at hrun ⊢
  simp only [← hrun]
  exact (if_neg (not_not.mpr hlen)).trans (if_neg (not_not.mpr hstate))

/-! ### The events of the queues -/

/-- Settles O23: each clause is the row's gate, open while the device or the engines run, before the branch of its effect that the clause
describes. -/
theorem queueEventsComplete : Obligations.QueueEventsComplete := by
  refine ⟨?sqPi, ?sqPiIgnored, ?rqPi, ?cqCi, ?cqArm, ?eqCi, ?eqArm, ?poll, ?snoop, ?fetch, ?arrive, ?complete⟩
  case sqPi =>
    intro h f slot v s u q hruns hu hstate hserves hqp
    show execSqPiWrite h f slot v s = _
    exact hostWrites_effect _ hruns hu (doorbell_taken _ hstate hserves hqp)
  case sqPiIgnored =>
    intro h f slot v s u hruns hu hstate hnone
    show execSqPiWrite h f slot v s = _
    exact hostWrites_effect _ hruns hu (doorbell_ignored _ hstate hnone)
  case rqPi =>
    intro h f slot v s u q hruns hu hstate hserves hqp
    show execRqPiWrite h f slot v s = _
    exact hostWrites_effect _ hruns hu (doorbell_taken _ hstate hserves hqp)
  case cqCi =>
    intro h f slot v s u q hruns hu hstate hserves hqp
    show execCqCiWrite h f slot v s = _
    exact hostWrites_effect _ hruns hu (doorbell_taken _ hstate hserves hqp)
  case cqArm =>
    intro h f slot arm s u q hruns hu hstate hserves hqp
    show execCqArmWrite h f slot arm s = _
    exact hostWrites_effect _ hruns hu (doorbell_taken _ hstate hserves hqp)
  case eqCi =>
    intro h f vec v s u hruns hu hstate hserves hvalid
    show execEqCiWrite h f vec v s = _
    exact hostWrites_effect _ hruns hu (eqDoorbell_taken _ hstate hserves hvalid)
  case eqArm =>
    intro h f vec arm s u hruns hu hstate hserves hvalid
    show execEqArmWrite h f vec arm s = _
    exact hostWrites_effect _ hruns hu (eqDoorbell_taken _ hstate hserves hvalid)
  case poll =>
    intro h data s q hengines hnext
    show execDoorbellRecordPoll h data s = _
    refine engine_effect _ hengines ?_
    simp only [hnext]
  case snoop =>
    intro q data s u v hruns hu hvalid hsnooped hdue hv
    subst hv
    show execSnoopInvalidate q data s = _
    exact hostWrites_effect _ hruns hu (if_neg (by simp [hvalid, hsnooped, hdue]))
  case fetch =>
    intro q rq s n va pa ns w v hengines hn hsome hready hroom hva hw hhit hv
    rw [hv]
    exact exec_descriptorFetch_hit hengines hn hsome hready hroom hva hw hhit
  case arrive =>
    intro q rq data s ins run f bs hengines hins hhead hrun hdata hlen hstate
    rw [hdata]
    exact exec_descriptorArrive_whole hengines hins hhead hrun hlen hstate
  case complete =>
    intro q s hengines hstate
    show execCompletionWrite q s = _
    exact engine_effect _ hengines (if_pos hstate)

end Sys2Proof.Machine
end

section
/-! What the events of the windows come to, and the start of the descriptors NOP, WRITE, READ and WIN_REVOKE
(09_host_attach_and_queues.md R345; 11_transport_and_windows.md R427, R440 to R442, R446). -/

namespace Sys2Proof.Machine

/-- Settles O26: each clause is the row's gate, open while the engines run, before the branch of its effect that the clause describes. -/
theorem windowEventsComplete : Obligations.WindowEventsComplete := by
  refine ⟨?revoked, ?slow, ?cooled, ?opened, ?openError, ?revoke, ?nop, ?write, ?read, ?winRevoke⟩
  case revoked =>
    intro w s hengines hstate hheld hwaits
    show execRevokeComplete w s = _
    exact engine_effect _ hengines (if_pos (by simp only [hstate, hheld, hwaits, decide_true, Bool.not_false, Bool.and_self]))
  case slow =>
    intro w s hengines hstate hheld hnew
    show execRevokeDrainSlow w s = _
    exact engine_effect _ hengines
      (if_pos (by simp only [hstate, hheld, hnew, ne_eq, not_false_eq_true, decide_true, Bool.not_false, Bool.and_self]))
  case cooled =>
    intro w s v hengines hstate hdue hvalid hv
    subst hv
    show execWindowCoolingEnd w s = _
    exact engine_effect _ hengines (if_pos (by simp [hstate, hdue, hvalid]))
  case opened =>
    intro bit s i hengines hbit hctx hranges hfree
    subst hbit
    show execWinOpenGoWrite true s = _
    refine engine_effect _ hengines ?_
    simp only [hctx, hranges, hfree, Bool.not_true, Bool.false_eq_true, Bool.and_self, if_false, if_true]
  case openError =>
    intro bit s hengines hbit hrefused
    have hnone : (if (s.ctx s.expertEntry.ctx).valid && s.windowRanges s.expertEntry then s.freeWindow else none) = none := by
      rcases hrefused with hentry | hfull
      · exact if_neg (by simp [hentry])
      · rw [hfull, ite_self]
    subst hbit
    show execWinOpenGoWrite true s = _
    refine engine_effect _ hengines ?_
    simp only [hnone, Bool.not_true, Bool.false_eq_true, if_false]
  case revoke =>
    intro key s hengines hidle
    show execWinRevokeWrite key s = _
    exact engine_effect _ hengines (if_neg (by simp [hidle]))
  case nop =>
    intro q fired s w d hengines hstart
    show execNopDesc q fired s = _
    refine engine_effect _ hengines ?_
    simp only [hstart]
  case write =>
    intro q fired s w d hengines hstart
    show execWrite q fired s = _
    refine engine_effect _ hengines ?_
    simp only [hstart]
  case read =>
    intro q fired s w d hengines hstart
    show execRead q fired s = _
    refine engine_effect _ hengines ?_
    simp only [hstart]
  case winRevoke =>
    intro q s x d hengines hstart hkey
    show execWinRevokeDesc q s = _
    refine engine_effect _ hengines ?_
    simp only [hstart]
    exact if_neg (by simp only [hkey, Bool.false_and, Bool.false_eq_true, not_false_eq_true])

end Sys2Proof.Machine
end

section
/-! What the translation opcodes come to when their command starts, and the returns of walks, the invalidations and the park timeouts
(10_translation.md R364 to R398; 16_command_packets.md Table 16.7, R595). -/

namespace Sys2Proof.Machine

/-! ### CTX_CREATE (R363, R364) -/

/-- What CTX_CREATE for function `k` asks of its parameters. -/
abbrev State.ctxParamsOk (s : State) (k levels priv supDataU amEn parkEn pasid root : Nat) : Prop :=
  levels ≤ 2 ∧ root % 4096 = 0 ∧ root < 2 ^ 52 ∧ s.inWalkRange (keyPort k) root = true ∧
    (amEn = 0 ∨ (s.func k).cfg.atomicEn = true) ∧ priv ≤ 1 ∧ supDataU ≤ 1 ∧ amEn ≤ 1 ∧ parkEn ≤ 1 ∧ pasid < 2 ^ 20

/-- The row asks for the function's atomic requests where AM_EN is 1, and the statement wherever it is not 0. -/
theorem amEn_iff {amEn : Nat} {atomicEn : Bool} (h : amEn ≤ 1) :
    (amEn = 1 → atomicEn = true) ↔ (amEn = 0 ∨ atomicEn = true) := by
  rcases Nat.le_one_iff_eq_zero_or_eq_one.mp h with rfl | rfl <;> simp

theorem ctxParams_pass_iff (s : State) (k levels priv supDataU amEn parkEn pasid root : Nat) :
    ¬ (levels > 2 || root % 4096 ≠ 0 || root ≥ 2 ^ 52 || !s.inWalkRange (keyPort k) root ||
      (amEn = 1 && !(s.func k).cfg.atomicEn) || !(priv ≤ 1 && supDataU ≤ 1 && amEn ≤ 1 && parkEn ≤ 1) || pasid ≥ 2 ^ 20) = true ↔
      s.ctxParamsOk k levels priv supDataU amEn parkEn pasid root := by
  by_cases ham : amEn ≤ 1
  · simp [State.ctxParamsOk, ham, amEn_iff ham, and_assoc]
  · simp [State.ctxParamsOk, ham]

section
variable {c : CmdRef} {levels priv supDataU amEn parkEn : BitVec 8} {pasid : BitVec 32} {root : BitVec 64} {s u : State} {n : Nat}
  (h : Starts s .f 0x0600 c (pack [(1, levels.toNat), (1, priv.toNat), (1, supDataU.toNat), (1, amEn.toNat), (1, parkEn.toNat),
    (4, pasid.toNat), (8, root.toNat)]) n u)
  (hserves : u.serves (keyPort (pathFn c.path)) = true) (hpriv : keyFunc (pathFn c.path) = 0 ∨ priv.toNat = 0)
  (hok : u.ctxParamsOk (pathFn c.path) levels.toNat priv.toNat supDataU.toNat amEn.toNat parkEn.toNat pasid.toNat root.toNat)
include h hserves hpriv hok

theorem exec_ctxCreate_full (hfree : u.freeCtx = none) :
    exec (.ctxCreate c levels priv supDataU amEn parkEn pasid root) s = .next (u.ends n stExhausted).ended := by
  refine command_effect _ h ((forServed_serves u n c _ hserves).trans ((if_neg (by simpa [or_iff_not_imp_left] using hpriv)).trans
    ((if_neg ((ctxParams_pass_iff u ..).mpr hok)).trans ?_)))
  rw [hfree]

/-- With a free context the state of the function decides, and the index is answered after the mirror record. -/
theorem exec_ctxCreate_free {i : Nat} {x : CtxFields} (hfree : u.freeCtx = some i)
    (hx : x = { valid := true, hport := keyPort (pathFn c.path), func := keyFunc (pathFn c.path), pasid := pasid.toNat,
                levels := levels.toNat, root := root.toNat / 4096, priv := priv.toNat = 1, supDataU := supDataU.toNat = 1,
                amEn := amEn.toNat = 1, parkEn := parkEn.toNat = 1 }) :
    exec (.ctxCreate c levels priv supDataU amEn parkEn pasid root) s =
      .next (if u.fnState (pathFn c.path) ≠ fsEnabled then u.ends n stNotPermitted
        else ((u.setCtx i x).mirror (.ctx i x)).2.replyAfter ((u.setCtx i x).mirror (.ctx i x)).1 n stOk (pack [(2, i)])).ended := by
  subst hx
  refine command_effect _ h ((forServed_serves u n c _ hserves).trans ((if_neg (by simpa [or_iff_not_imp_left] using hpriv)).trans
    ((if_neg ((ctxParams_pass_iff u ..).mpr hok)).trans ?_)))
  rw [hfree]

end

/-! ### INVALIDATE (R386 to R388) -/

/-- What INVALIDATE refuses BAD_PARAM once its context, where the scope names one, is that of its function. -/
theorem invalParams_fail_iff (scope wc pages : Nat) :
    (scope > 3 || wc > 1 || (scope = 0 && pages = 0)) = true ↔ 3 < scope ∨ 1 < wc ∨ scope = 0 ∧ pages = 0 := by
  simp [or_assoc]

/-- The scope is one that the issuer may name: a context of its own function, or everything for a PF. -/
abbrev State.invalAllowed (s : State) (c : CmdRef) (scope ctx : Nat) : Prop :=
  (scope = 3 ∧ keyFunc (pathFn c.path) = 0) ∨
    (scope < 3 ∧ (s.ctx ctx).valid = true ∧ fkey (s.ctx ctx).hport (s.ctx ctx).func = pathFn c.path)

/-- An invalidation whose operands pass is accepted where fewer than sixteen are under way. -/
theorem exec_invalidate_passes {c : CmdRef} {scope wc : BitVec 8} {ctx : BitVec 16} {pages : BitVec 32} {va : BitVec 64} {s u : State}
    {n : Nat}
    (h : Starts s .f 0x0602 c (pack [(1, scope.toNat), (1, wc.toNat), (2, ctx.toNat), (4, pages.toNat), (8, va.toNat)]) n u)
    (hallowed : u.invalAllowed c scope.toNat ctx.toNat) (hwc : wc.toNat ≤ 1) (hpages : scope.toNat ≠ 0 ∨ pages.toNat ≠ 0) :
    exec (.invalidate c scope wc ctx pages va) s =
      .next (if u.basicInvals ≥ 16 then u.ends n stBusy
        else (u.setWait n .invalidate).invalAccept
          { scope := scopeOf scope.toNat, ctx := ctx.toNat, va := va.toNat, pages := pages.toNat, src := .cmd n, upto := u.host.dma }
          (wc.toNat = 1)).ended := by
  have hparams : ¬ (scope.toNat > 3 || wc.toNat > 1 || (scope.toNat = 0 && pages.toNat = 0)) = true := by
    rw [invalParams_fail_iff]
    omega
  rcases hallowed with ⟨hall, hpf⟩ | ⟨hscope, hvalid, howner⟩
  · exact command_effect _ h ((if_pos hall).trans ((if_neg hparams).trans (if_neg (by simp [hpf]))))
  · have hnotAll := hscope.ne
    exact command_effect _ h ((if_neg hnotAll).trans ((ownCtx_own u n c _ hvalid howner).trans ((if_neg hparams).trans
      (if_neg (by simp [hnotAll])))))

/-! ### PARK_RESOLVE and WALK_RANGE (R379, R393) -/

/-- The generation and the action decide about a parked access of the issuer's function. -/
theorem exec_parkResolve_own {c : CmdRef} {parkId : BitVec 16} {parkGen action : BitVec 8} {s u : State} {n : Nat}
    (h : Starts s .f 0x0603 c (pack [(2, parkId.toNat), (1, parkGen.toNat), (1, action.toNat)]) n u)
    (hslot : parkId.toNat < 1024) (hused : (u.park parkId.toNat).used = true)
    (howner : (u.qp (u.park parkId.toNat).q).func = pathFn c.path) :
    exec (.parkResolve c parkId parkGen action) s =
      .next (u.okIf n ((u.park parkId.toNat).gen = parkGen.toNat && action.toNat ≤ 1) fun s =>
        if action.toNat = 0 then s.parkResume parkId.toNat else s.parkFail parkId.toNat).ended :=
  command_effect _ h (owned_own u n c _ (by simp [hslot, hused]) howner)

theorem walkRangeOk_iff (index en base limit : Nat) :
    (index ≤ 15 && en ≤ 1 && (base % 4096 = 0 && base < 2 ^ 52) && (limit % 4096 = 0 && limit < 2 ^ 52) && base ≤ limit) = true ↔
      index ≤ 15 ∧ en ≤ 1 ∧ base % 4096 = 0 ∧ base < 2 ^ 52 ∧ limit % 4096 = 0 ∧ limit < 2 ^ 52 ∧ base ≤ limit := by
  simp [and_assoc]

/-! ### The translation opcodes (16_command_packets.md Table 16.7) -/

/-- Settles O7: each clause is its row's effect when the command has started, followed through the row's tests in their order.
That CTX_CREATE takes the lowest free context is the model's choice (log 24). -/
theorem translationCommandsComplete : Obligations.TranslationCommandsComplete := by
  refine ⟨?create, ?createStandby, ?createSupervisor, ?createBad, ?createFull, ?createDisabled, ?release, ?releaseNoCtx,
    ?releaseForeign, ?releaseBusy, ?inval, ?invalAll, ?invalNoCtx, ?invalForeign, ?invalBad, ?invalAllBad, ?invalAllVf, ?invalBusy,
    ?invalAllBusy, ?resume, ?fail, ?parkFree, ?parkForeign, ?parkBad, ?range, ?rangeBad, ?timers, ?timersBad, ?status, ?statusNoCtx,
    ?statusForeign⟩
  case create =>
    intro c levels priv supDataU amEn parkEn pasid root s u n i x h hpriv hlevels hpage hroot hrange hatomic hp hsup ham hpark hpasid
      hfree hfn hserves hx
    rw [exec_ctxCreate_free h hserves hpriv ⟨hlevels, hpage, hroot, hrange, hatomic, hp, hsup, ham, hpark, hpasid⟩ hfree hx,
      if_neg (not_not.mpr hfn)]
  case createStandby =>
    intro c levels priv supDataU amEn parkEn pasid root s u n h hserves
    exact command_effect _ h (forServed_standby u n c _ hserves)
  case createSupervisor =>
    intro c levels priv supDataU amEn parkEn pasid root s u n h hserves hvf hpriv
    exact command_effect _ h ((forServed_serves u n c _ hserves).trans (if_pos (by simp [hvf, hpriv])))
  case createBad =>
    intro c levels priv supDataU amEn parkEn pasid root s u n h hserves hpriv hbad
    exact command_effect _ h ((forServed_serves u n c _ hserves).trans ((if_neg (by simpa [or_iff_not_imp_left] using hpriv)).trans
      (if_pos ((not_iff_comm.mp (ctxParams_pass_iff u ..)).mp hbad))))
  case createFull =>
    intro c levels priv supDataU amEn parkEn pasid root s u n h hserves hpriv hlevels hpage hroot hrange hatomic hp hsup ham hpark
      hpasid hfree
    exact exec_ctxCreate_full h hserves hpriv ⟨hlevels, hpage, hroot, hrange, hatomic, hp, hsup, ham, hpark, hpasid⟩ hfree
  case createDisabled =>
    intro c levels priv supDataU amEn parkEn pasid root s u n i h hserves hpriv hlevels hpage hroot hrange hatomic hp hsup ham hpark
      hpasid hfree hfn
    rw [exec_ctxCreate_free h hserves hpriv ⟨hlevels, hpage, hroot, hrange, hatomic, hp, hsup, ham, hpark, hpasid⟩ hfree rfl,
      if_pos hfn]
  case release =>
    intro c ctx s u n h hvalid howner hidle hnew
    exact command_effect _ h ((ownCtx_own u n c _ hvalid howner).trans (if_neg (by simp only [hidle, hnew, Bool.or_self,
      Bool.false_eq_true, not_false_eq_true])))
  case releaseNoCtx | statusNoCtx =>
    intro c ctx s u n h hvalid
    exact command_effect _ h (ownCtx_missing u n c _ hvalid)
  case releaseForeign | statusForeign =>
    intro c ctx s u n h hvalid howner
    exact command_effect _ h (ownCtx_foreign u n c _ hvalid howner)
  case releaseBusy =>
    intro c ctx s u n h hvalid howner hbusy
    exact command_effect _ h ((ownCtx_own u n c _ hvalid howner).trans (if_pos (Bool.or_eq_true_iff.mpr hbusy)))
  case inval =>
    intro c scope wc ctx pages va s u n h hscope hvalid howner hwc hpages hroom
    rw [exec_invalidate_passes h (.inr ⟨hscope, hvalid, howner⟩) hwc hpages, if_neg (Nat.not_le.mpr hroom)]
  case invalAll =>
    intro c scope wc ctx pages va s u n h hscope hpf hwc hroom
    rw [exec_invalidate_passes h (.inl ⟨hscope, hpf⟩) hwc (.inl (by omega)), if_neg (Nat.not_le.mpr hroom)]
  case invalNoCtx =>
    intro c scope wc ctx pages va s u n h hscope hvalid
    exact command_effect _ h ((if_neg hscope).trans (ownCtx_missing u n c _ hvalid))
  case invalForeign =>
    intro c scope wc ctx pages va s u n h hscope hvalid howner
    exact command_effect _ h ((if_neg hscope).trans (ownCtx_foreign u n c _ hvalid howner))
  case invalBad =>
    intro c scope wc ctx pages va s u n h hscope hvalid howner hbad
    exact command_effect _ h ((if_neg hscope).trans ((ownCtx_own u n c _ hvalid howner).trans
      (if_pos ((invalParams_fail_iff ..).mpr hbad))))
  case invalAllBad =>
    intro c scope wc ctx pages va s u n h hscope hwc
    exact command_effect _ h ((if_pos hscope).trans (if_pos ((invalParams_fail_iff ..).mpr (.inr (.inl hwc)))))
  case invalAllVf =>
    intro c scope wc ctx pages va s u n h hscope hwc hvf
    exact command_effect _ h ((if_pos hscope).trans ((if_neg (mt (invalParams_fail_iff ..).mp (by omega))).trans
      (if_pos (by simp [hscope, hvf]))))
  case invalBusy =>
    intro c scope wc ctx pages va s u n h hscope hvalid howner hwc hpages hfull
    rw [exec_invalidate_passes h (.inr ⟨hscope, hvalid, howner⟩) hwc hpages, if_pos hfull]
  case invalAllBusy =>
    intro c scope wc ctx pages va s u n h hscope hpf hwc hfull
    rw [exec_invalidate_passes h (.inl ⟨hscope, hpf⟩) hwc (.inl (by omega)), if_pos hfull]
  case resume =>
    intro c parkId parkGen action s u n h hslot hused howner hgen haction
    rw [exec_parkResolve_own h hslot hused howner, okIf_true u n _ (by simp [hgen, haction]), if_pos haction]
  case fail =>
    intro c parkId parkGen action s u n h hslot hused howner hgen haction
    rw [exec_parkResolve_own h hslot hused howner, okIf_true u n _ (by simp [hgen, haction]), if_neg (by omega)]
  case parkFree =>
    intro c parkId parkGen action s u n h hfree
    exact command_effect _ h (owned_missing u n c _ (Bool.and_eq_false_iff.mpr (hfree.imp_left (decide_eq_false ∘ Nat.not_lt.mpr))))
  case parkForeign =>
    intro c parkId parkGen action s u n h hslot hused howner
    exact command_effect _ h (owned_foreign u n c _ (by simp [hslot, hused]) howner)
  case parkBad =>
    intro c parkId parkGen action s u n h hslot hused howner hbad
    rw [exec_parkResolve_own h hslot hused howner, okIf_false u n _ (and_le_false (hbad.imp_left decide_eq_false))]
  case range =>
    intro c index en base limit s u n h hindex hen hbase hbaseTop hlimit hlimitTop hle
    exact command_effect _ h (okIf_true u n _ ((walkRangeOk_iff ..).mpr ⟨hindex, hen, hbase, hbaseTop, hlimit, hlimitTop, hle⟩))
  case rangeBad =>
    intro c index en base limit s u n h hbad
    exact command_effect _ h (okIf_false u n _ (Bool.eq_false_iff.mpr (mt (walkRangeOk_iff ..).mp hbad)))
  case timers =>
    intro c maxAge parkTime s u n h hall
    exact command_effect _ h (okIf_true u n _ hall)
  case timersBad =>
    intro c maxAge parkTime s u n h hall
    exact command_effect _ h (okIf_false u n _ hall)
  case status =>
    intro c ctx s u n h hvalid howner
    exact command_effect _ h (ownCtx_own u n c _ hvalid howner)

/-! ### Walks and park slots (R373, R394) -/

/-- What a walker has read advances a walk that somebody waits for and that was not discarded. -/
theorem walkReturn_awaited {s : State} {i : Nat} {x : Walk} (f : Walk → WalkRes) (hwalk : s.walk i = some x)
    (hwho : x.who.isEmpty = false) (hfresh : x.stale = false) : s.walkReturn i f = (s.walkStep i x (f x)).walkNext 64 := by
  simp [State.walkReturn, hwalk, hwho, hfresh]

/-- A park slot that no resume holds fails when its time has passed. -/
theorem parkExpire_held {s : State} {i : Nat} (hused : (s.park i).used = true) (hidle : s.parkResuming i = false) :
    s.parkExpire i = (s.bump C.XLT_PARK_TIMEOUT).parkFail i := if_pos (by simp [hused, hidle])

/-! ### The events of the translation -/

/-- Settles O24: each clause is the row's gate, open while the device or the engines run, before the branch of its effect that the clause
describes. That a parking time which ends in MOSS fails at the exit alone is the model's choice. -/
theorem translationEventsComplete : Obligations.TranslationEventsComplete := by
  refine ⟨?entry, ?cas, ?completed, ?timeout, ?timeoutMoss, ?go⟩
  case entry =>
    intro w entry s x hengines hwalk hwho hfresh hstage
    show execWalkEntryReturn w entry s = _
    refine engine_effect _ hengines ((walkReturn_awaited _ hwalk hwho hfresh).trans ?_)
    cases entry <;> rw [if_neg (not_not.mpr hstage)]
  case cas =>
    intro w old s x k hengines hwalk hwho hfresh hstage
    show execWalkCasReturn w old s = _
    refine engine_effect _ hengines ((walkReturn_awaited _ hwalk hwho hfresh).trans ?_)
    cases old <;> simp only [hstage]
  case completed =>
    intro s v t hengines hinvals hdone
    show execInvalidationComplete s = _
    refine engine_effect _ hengines ?_
    simp only [hinvals]
    exact if_neg (by simp [hdone])
  case timeout =>
    intro slot s hruns hmoss hexit hused hidle
    show execParkTimeout slot s = _
    exact live_effect _ hruns ((if_neg hexit).trans ((if_neg hmoss).trans (parkExpire_held hused hidle)))
  case timeoutMoss =>
    intro slot s hruns hmoss hused
    show execParkTimeout slot s = _
    exact live_effect _ hruns ((if_neg (by simp [hmoss, psMoss, psExit])).trans ((if_pos hmoss).trans (if_pos hused)))
  case go =>
    intro bit s v hruns hbit hidle hv
    subst hbit hv
    show execXltInvGoWrite true s = _
    exact live_effect _ hruns (if_neg (by simp [hidle]))

end Sys2Proof.Machine
end

section
/-! The next OPID, and what the events of the transport come to (11_transport_and_windows.md R401 to R432, R444). -/

namespace Sys2Proof.Machine

/-! ### The next OPID (R404) -/

/-- The next OPID skips 0xFF_FFFF. -/
def opidAfter (n : Nat) : Nat := if (n + 1) % 2 ^ 24 = 0xFFFFFF then 0 else (n + 1) % 2 ^ 24

theorem opidAfter_ne (n : Nat) : opidAfter n ≠ 0xFFFFFF := by
  unfold opidAfter
  split
  · decide
  · assumption

theorem assignOpid_tc_same (s : State) (k : Nat) :
    (s.assignOpid k).2.tc k = { s.tc k with nextOpid := opidAfter (s.tc k).nextOpid } := tget_tput_same _ _ _ _

theorem assignOpid_tc_other (s : State) {k j : Nat} (h : j ≠ k) : (s.assignOpid k).2.tc j = s.tc j := tget_tput_other _ _ _ _ _ h

/-- Settles O56: the operation takes the number that stands in the context's entry, and only this field of this entry is written. -/
theorem nextOpid : Obligations.NextOpid := by
  intro s k
  rw [assignOpid_tc_same]
  exact ⟨rfl, rfl, opidAfter_ne _, rfl, fun j hj => assignOpid_tc_other s hj, rfl⟩

/-! ### The events of the transport -/

/-- Settles O25: each clause is the row's gate, open while the device or the engines run, before the branch of its effect that the clause
describes. -/
theorem transportEventsComplete : Obligations.TransportEventsComplete := by
  refine ⟨?load, ?sweep, ?form, ?hello, ?ack, ?nack, ?retransmit, ?giveUp, ?helloReceived, ?helloResp, ?serve, ?readResp, ?reset⟩
  case load =>
    intro adopted pid s hengines
    show execTcCacheLoad adopted pid s = _
    exact engine_runs s _ hengines
  case sweep =>
    intro s hruns
    show execTcDeadlineSweep s = _
    exact live_runs s _ hruns
  case form =>
    intro o data s x t hengines hop hunformed hwait hcan hhere hadopted hparked ht hopen hassign hbehind hmode hpace
    subst ht
    show execPacketForm o data s = _
    refine engine_effect _ hengines ?_
    simp only [hop]
    exact (if_neg (by simp [hunformed, hwait, hcan, hadopted, hhere])).trans ((if_neg (by simp [hparked])).trans
      ((if_neg (by simp [hopen, txOpen, txUnreachable])).trans ((if_neg (not_not.mpr hopen)).trans
        (if_neg (by simp [hassign, hbehind, hmode, hpace])))))
  case hello =>
    intro o data s x t hengines hop hunformed hwait hcan hhere hadopted hparked ht hstate hout hpace
    subst ht
    show execPacketForm o data s = _
    refine engine_effect _ hengines ?_
    simp only [hop]
    obtain ⟨hreached, hshut⟩ : ((s.touchTc x.tc).tc x.tc).txState ≠ txUnreachable ∧ ((s.touchTc x.tc).tc x.tc).txState ≠ txOpen := by
      rcases hstate with h | h <;> rw [h] <;> decide
    exact (if_neg (by simp [hunformed, hwait, hcan, hadopted, hhere])).trans ((if_neg (by simp [hparked])).trans
      ((if_neg hreached).trans ((if_pos hshut).trans (if_neg (by simp [hout, hpace])))))
  case ack =>
    intro s x v hengines htake
    show execAckReceive s = _
    refine engine_effect _ hengines ?_
    simp only [htake]
  case nack =>
    intro s x v hengines htake
    show execNackReceive s = _
    refine engine_effect _ hengines ?_
    simp only [htake]
  case retransmit =>
    intro adopted pid payloads s hengines hcan
    show execRetransmitTimerExpire adopted pid payloads s = _
    exact engine_effect _ hengines (if_pos hcan)
  case giveUp =>
    intro adopted pid s hengines hawaits
    show execTcGiveupExpire adopted pid s = _
    exact engine_effect _ hengines (if_pos (Bool.or_eq_true_iff.mpr hawaits))
  case helloReceived =>
    intro s x rest hengines hhellos
    show execHelloReceive s = _
    refine engine_effect _ hengines ?_
    simp only [hhellos]
  case helloResp =>
    intro s x rest hengines hresps
    show execHelloRespReceive s = _
    refine engine_effect _ hengines ?_
    simp only [hresps]
  case serve =>
    intro id data s r hengines hfind
    show execReadRespForm id data s = _
    refine engine_effect _ hengines ?_
    simp only [hfind]
  case readResp =>
    intro s x rest hengines hresps
    show execReadRespReceive s = _
    refine engine_effect _ hengines ?_
    simp only [hresps]
  case reset =>
    intro bit s hruns
    show execTcCtrlResetWrite bit s = _
    exact live_runs s _ hruns

end Sys2Proof.Machine
end

section
/-! The receive that a first packet takes, and what the events of the match units come to (12_message_matching.md R449 to R459). -/

namespace Sys2Proof.Machine

/-! ### The receive that a first packet takes (R449, R459) -/

/-- What an earliest receive of a list is: one of the list with its lowest post sequence, and none of the empty list alone. -/
def IsEarliest (l : List Recv) : Option Recv → Prop
  | some a => a ∈ l ∧ ∀ r ∈ l, a.post ≤ r.post
  | none => l = []

/-- The earlier of two candidates, the second where both came at once. -/
def earlierOf : Option Recv → Option Recv → Option Recv
  | some a, some b => if a.post < b.post then some a else some b
  | some a, none => some a
  | none, w => w

theorem earlierOf_isEarliest {l m : List Recv} {e w : Option Recv} (he : IsEarliest l e) (hw : IsEarliest m w) :
    IsEarliest (l ++ m) (earlierOf e w) := by
  match e, w with
  | none, w => rw [show l = [] from he]; exact hw
  | some a, none => rw [show m = [] from hw, List.append_nil]; exact he
  | some a, some b =>
    obtain ⟨hal, hamin⟩ := he
    obtain ⟨hbm, hbmin⟩ := hw
    dsimp only [earlierOf]
    split_ifs with hlt
    · exact ⟨List.mem_append_left _ hal, fun r hr => (List.mem_append.mp hr).elim (hamin r) fun h => hlt.le.trans (hbmin r h)⟩
    · exact ⟨List.mem_append_right _ hbm, fun r hr => (List.mem_append.mp hr).elim (fun h => (Nat.not_lt.mp hlt).trans (hamin r h)) (hbmin r)⟩

theorem IsEarliest.perm {l m : List Recv} {e : Option Recv} (h : IsEarliest l e) (hp : l.Perm m) : IsEarliest m e := by
  cases e with
  | none => exact (List.perm_nil.mp ((show l = [] from h) ▸ hp.symm))
  | some a => exact ⟨hp.mem_iff.mp h.left, fun r hr => h.right r (hp.mem_iff.mpr hr)⟩

theorem isEarliest_singleton (r : Recv) : IsEarliest [r] (some r) :=
  ⟨List.mem_singleton_self r, fun _ hq => (List.mem_singleton.mp hq ▸ le_rfl)⟩

/-- One more receive stands against the earliest of those before it. -/
theorem earliest_append (l : List Recv) (r : Recv) : earliest (l ++ [r]) = earlierOf (some r) (earliest l) := by
  have hstep : earliest (l ++ [r]) = _ := List.foldl_append
  cases he : earliest l with
  | none => exact hstep.trans (congrArg (fun b => List.foldl _ b [r]) he)
  | some a => exact hstep.trans (congrArg (fun b => List.foldl _ b [r]) he)

theorem isEarliest_earliest (l : List Recv) : IsEarliest l (earliest l) := by
  induction l using List.reverseRecOn with
  | nil => rfl
  | append_singleton l r ih =>
    rw [earliest_append]
    exact (earlierOf_isEarliest (isEarliest_singleton r) ih).perm List.perm_append_comm

section
variable (posted : List Recv) (comm srank tag : Nat)

/-- The candidates of R459: the exact receives that match the packet, before the wildcards that do. -/
def recvCandidates : List Recv :=
  (posted.filter fun r => r.exact && r.takes comm srank tag) ++
    (posted.filter fun r => !r.exact).filter fun r => r.takes comm srank tag

theorem mem_recvCandidates {r : Recv} :
    r ∈ recvCandidates posted comm srank tag ↔ r ∈ posted ∧ r.takes comm srank tag = true := by
  cases hexact : r.exact <;> simp [recvCandidates, hexact]

theorem pickRecv_isEarliest : IsEarliest (recvCandidates posted comm srank tag) (pickRecv posted comm srank tag).1 := by
  have hpick : (pickRecv posted comm srank tag).1 = earlierOf (earliest (posted.filter fun r => r.exact && r.takes comm srank tag))
      (earliest ((posted.filter fun r => !r.exact).filter fun r => r.takes comm srank tag)) := by
    unfold pickRecv earlierOf
    dsimp only
    split <;> simp_all only
    split <;> rfl
  rw [hpick]
  exact earlierOf_isEarliest (isEarliest_earliest _) (isEarliest_earliest _)

end

/-- Settles O51: the pick is an earliest of the candidates, and these are the posted receives that match. -/
theorem matchingTakesTheEarliest : Obligations.MatchingTakesTheEarliest := by
  intro posted comm srank tag
  have hpick := pickRecv_isEarliest posted comm srank tag
  constructor
  · intro r hr
    rw [hr] at hpick
    obtain ⟨hmem, hmin⟩ := hpick
    obtain ⟨hposted, htakes⟩ := (mem_recvCandidates ..).mp hmem
    exact ⟨hposted, htakes, fun q hq hqt => hmin q ((mem_recvCandidates ..).mpr ⟨hq, hqt⟩)⟩
  · intro hnone q hq
    rw [hnone] at hpick
    by_contra htakes
    have := (mem_recvCandidates posted comm srank tag (r := q)).mpr ⟨hq, by simpa using htakes⟩
    rw [show recvCandidates posted comm srank tag = [] from hpick] at this
    cases this

/-! ### The events of the match units -/

/-- Settles O27: each clause is the row's gate, open while the engines run, before the branch of its effect that the clause describes. -/
theorem matchingEventsComplete : Obligations.MatchingEventsComplete := by
  refine ⟨?send, ?window, ?recv, ?reorder, ?arrival, ?free⟩
  case send =>
    intro q fired s w d hengines hstart
    show execSend q fired s = _
    refine engine_effect _ hengines ?_
    simp only [hstart]
  case window =>
    intro o s x hengines hop hwait hfree
    show execRndvWindowOpen o s = _
    refine engine_effect _ hengines ?_
    simp only [hop]
    exact if_pos (by simp [hwait, hfree])
  case recv =>
    intro q s i d t r hengines hruns hheld hrq hr
    subst hr
    show execRecv q s = _
    refine engine_effect _ hengines ((if_neg (by simp [hruns, hheld])).trans ?_)
    simp only [hrq]
  case reorder =>
    intro i s p t hengines hentry hseq ht
    subst ht
    show execReorderRelease i s = _
    refine engine_effect _ hengines ?_
    simp only [hentry]
    exact if_neg (not_not.mpr hseq)
  case arrival =>
    intro s p hengines hpick
    show execMatchArrival s = _
    refine engine_effect _ hengines ?_
    simp only [hpick]
  case free =>
    intro q s r t hengines hheld hroom ht
    subst ht
    show execPrqEntryFree q s = _
    refine engine_effect _ hengines ?_
    simp only [hheld]
    exact if_pos hroom

end Sys2Proof.Machine
end

section
/-! What the trigger and collective opcodes come to when their command starts (13_counters_and_triggers.md R480, R483;
14_collectives.md R501, R505; 16_command_packets.md Table 16.7). -/

namespace Sys2Proof.Machine

/-! ### Whose counter and whose group a command names (R480, R501) -/

section
variable (s : State) (n : Nat) (c : CmdRef)

section
variable {i : Nat} (f : State → State)

theorem ownCnt_missing (hnone : 1048576 ≤ i ∨ (s.tally i).alloc = false) : s.ownCnt n c i f = s.ends n stBadParam :=
  owned_missing s n c f (Bool.and_eq_false_iff.mpr (hnone.imp_left (decide_eq_false ∘ Nat.not_lt.mpr)))

theorem ownCnt_foreign (hi : i < 1048576) (halloc : (s.tally i).alloc = true)
    (howner : fkey (s.tally i).hport (s.tally i).func ≠ pathFn c.path) : s.ownCnt n c i f = s.ends n stNotPermitted :=
  owned_foreign s n c f (by simp [hi, halloc]) howner

theorem ownCnt_own (hi : i < 1048576) (halloc : (s.tally i).alloc = true)
    (howner : fkey (s.tally i).hport (s.tally i).func = pathFn c.path) : s.ownCnt n c i f = f s :=
  owned_own s n c f (by simp [hi, halloc]) howner

end

variable {gid : Nat} (f : Group → State)

theorem ownGroup_missing (hnone : 4096 ≤ gid ∨ (s.group gid).valid = false) : s.ownGroup n c gid f = s.ends n stBadParam :=
  if_pos (by simpa using hnone)

section
variable (hgid : gid < 4096) (hvalid : (s.group gid).valid = true)
include hgid hvalid

theorem ownGroup_foreign
    (hothers : (((s.group gid).p.lqps.take (s.group gid).p.localCnt).all fun q => !((s.qp q).valid && (s.qp q).func = pathFn c.path)) = true) :
    s.ownGroup n c gid f = s.ends n stNotPermitted :=
  (if_neg (by simp [hgid, hvalid])).trans (if_pos hothers)

theorem ownGroup_own
    (hmine : (((s.group gid).p.lqps.take (s.group gid).p.localCnt).all fun q => !((s.qp q).valid && (s.qp q).func = pathFn c.path)) = false) :
    s.ownGroup n c gid f = f (s.group gid) :=
  (if_neg (by simp [hgid, hvalid])).trans (if_neg (Bool.eq_false_iff.mp hmine))

end
end

/-! ### CNT_ALLOC (R480) -/

section
variable {c : CmdRef} {count : BitVec 32} {s u : State} {n : Nat} (h : Starts s .f 0x0900 c (pack [(4, count.toNat)]) n u)
  (hserves : u.serves (keyPort (pathFn c.path)) = true) (hlow : 1 ≤ count.toNat) (hhigh : count.toNat ≤ 65536)
include h hserves hlow hhigh

theorem exec_cntAlloc_full (hfree : freeRun u.tallyRuns (u.ownHalf 1048576).1 (u.ownHalf 1048576).2 count.toNat = none) :
    exec (.cntAlloc c count) s = .next (u.ends n stExhausted).ended := by
  refine command_effect _ h ((forServed_serves u n c _ hserves).trans ?_)
  dsimp only
  rw [if_neg (by simp; omega), hfree]

/-- With a free run the state of the function decides, and the first index is answered after the mirror record. -/
theorem exec_cntAlloc_free {first : Nat}
    (hfree : freeRun u.tallyRuns (u.ownHalf 1048576).1 (u.ownHalf 1048576).2 count.toNat = some first) {m : Option Nat × State}
    (hm : m = (u.setRange (keyPort (pathFn c.path)) (keyFunc (pathFn c.path)) first count.toNat true).mirror
      (.cntRange (keyPort (pathFn c.path)) (keyFunc (pathFn c.path)) first count.toNat true)) :
    exec (.cntAlloc c count) s =
      .next (if u.fnState (pathFn c.path) ≠ fsEnabled then u.ends n stNotPermitted
        else m.2.replyAfter m.1 n stOk (pack [(4, first)])).ended := by
  subst hm
  refine command_effect _ h ((forServed_serves u n c _ hserves).trans ?_)
  dsimp only
  rw [if_neg (by simp; omega), hfree]

end

/-! ### CNT_FREE (R480) -/

/-- What CNT_FREE asks of a range of `count` counters from `first` on, of which `held` are allocated. -/
theorem cntRange_fail_iff (first count held : Nat) :
    (count = 0 || first + count > 1048576 || held < count) = true ↔ count = 0 ∨ 1048576 < first + count ∨ held < count := by
  simp [or_assoc]

theorem cntRange_pass {first count held : Nat} (hpos : 0 < count) (hend : first + count ≤ 1048576) (hheld : count ≤ held) :
    ¬ (count = 0 || first + count > 1048576 || held < count) = true := by
  rw [cntRange_fail_iff]
  omega

/-! ### CNT_BIND (R483) -/

section
variable {s : State} {k q cnt en : Nat}

theorem cntBind_objects_iff : ¬ (!(s.qp q).valid || cnt ≥ 1048576 || !(s.tally cnt).alloc || en > 1) = true ↔
    (s.qp q).valid = true ∧ cnt < 1048576 ∧ (s.tally cnt).alloc = true ∧ en ≤ 1 := by
  simp [and_assoc]

theorem cntBind_owners_fail_iff {owner counter : Nat} : (!mayName k owner || !mayName k counter || counter ≠ owner) = true ↔
    mayName k owner = false ∨ mayName k counter = false ∨ counter ≠ owner := by
  simp [or_assoc]

end

/-! ### GROUP_CREATE (R501) -/

/-- What GROUP_CREATE asks of the group's own parameters, past its queue pairs and the space it needs. -/
abbrev State.groupParamsOk (s : State) (p : GroupParams) : Prop :=
  p.rangesOk = true ∧ s.masksOk p = true ∧ s.jobIs p.job p.gen = true ∧
    ((p.lqps.take p.localCnt).any fun q => (s.qp q).p.job ≠ p.job) = false

theorem groupParams_pass_iff (s : State) (p : GroupParams) :
    ¬ (!p.rangesOk || !s.masksOk p || !s.jobIs p.job p.gen || (p.lqps.take p.localCnt).any fun q => (s.qp q).p.job ≠ p.job) = true ↔
      s.groupParamsOk p := by
  simp only [State.groupParamsOk, Bool.or_eq_true, not_or, Bool.not_eq_true', Bool.not_eq_false, Bool.not_eq_true, and_assoc]

section
variable {c : CmdRef} {gid job : BitVec 16} {gen dimmask localCnt depth : BitVec 8}
  {mask0 mask1 mask2 mask3 maxbytes lqp0 lqp1 lqp2 lqp3 lqp4 lqp5 lqp6 lqp7 : BitVec 32} {s u : State} {n : Nat} {p : GroupParams}
  (h : Starts s .f 0x0905 c (pack ([(2, gid.toNat), (2, job.toNat), (1, gen.toNat), (1, dimmask.toNat), (1, localCnt.toNat),
    (1, depth.toNat), (4, mask0.toNat), (4, mask1.toNat), (4, mask2.toNat), (4, mask3.toNat), (4, maxbytes.toNat)] ++ [(4, lqp0.toNat),
    (4, lqp1.toNat), (4, lqp2.toNat), (4, lqp3.toNat), (4, lqp4.toNat), (4, lqp5.toNat), (4, lqp6.toNat), (4, lqp7.toNat)])) n u)
  (hp : p = {
    gid := gid.toNat, job := job.toNat, gen := gen.toNat, dimMask := dimmask.toNat, localCnt := localCnt.toNat, depth := depth.toNat
    mask0 := mask0.toNat, mask1 := mask1.toNat, mask2 := mask2.toNat, mask3 := mask3.toNat, maxBytes := maxbytes.toNat
    lqps := [lqp0, lqp1, lqp2, lqp3, lqp4, lqp5, lqp6, lqp7].map BitVec.toNat })
  (hserves : u.serves (keyPort (pathFn c.path)) = true)
include h hp hserves

/-- For a host port that is served, the tests of the row in their order. -/
theorem exec_groupCreate_served :
    exec (.groupCreate c gid job gen dimmask localCnt depth mask0 mask1 mask2 mask3 maxbytes lqp0 lqp1 lqp2 lqp3 lqp4 lqp5 lqp6 lqp7) s =
      .next (if u.localQps (pathFn c.path) p ≠ stOk then u.ends n (u.localQps (pathFn c.path) p)
        else if p.gid < 4096 && (u.group p.gid).valid then u.ends n stBusy
        else if (freeRun u.stagingRuns 0 (u.regionSize 10 / 2 ^ 20) p.mib).isNone then u.ends n stExhausted
        else if !p.rangesOk || !u.masksOk p || !u.jobIs p.job p.gen || (p.lqps.take p.localCnt).any fun q => (u.qp q).p.job ≠ p.job then
          u.ends n stBadParam
        else u.setWait n (.group p)).ended := by
  subst hp
  exact command_effect _ h (forServed_serves u n c _ hserves)

/-- Past its queue pairs and for a group that is not valid, the space and then the group's parameters decide. -/
theorem exec_groupCreate_new (hqps : u.localQps (pathFn c.path) p = stOk) (hnew : 4096 ≤ p.gid ∨ (u.group p.gid).valid = false) :
    exec (.groupCreate c gid job gen dimmask localCnt depth mask0 mask1 mask2 mask3 maxbytes lqp0 lqp1 lqp2 lqp3 lqp4 lqp5 lqp6 lqp7) s =
      .next (if (freeRun u.stagingRuns 0 (u.regionSize 10 / 2 ^ 20) p.mib).isNone then u.ends n stExhausted
        else if u.groupParamsOk p then u.setWait n (.group p) else u.ends n stBadParam).ended := by
  have hunused : ¬ (p.gid < 4096 && (u.group p.gid).valid) = true := by
    rcases hnew with hrange | hfree
    · simp [Nat.not_lt.mpr hrange]
    · simp [hfree]
  rw [exec_groupCreate_served h hp hserves, if_neg (not_not.mpr hqps), if_neg hunused]
  refine congrArg (fun v : State => Host.Outcome.next v.ended) (if_congr Iff.rfl rfl ?_)
  by_cases hok : u.groupParamsOk p
  · rw [if_pos hok, if_neg ((groupParams_pass_iff u p).mpr hok)]
  · rw [if_neg hok, if_pos (not_not.mp (mt (groupParams_pass_iff u p).mp hok))]

end

/-! ### The trigger and collective opcodes (16_command_packets.md Table 16.7) -/

/-- Settles O9: each clause is its row's effect when the command has started, followed through the row's tests in their order.
That CNT_ALLOC takes the lowest free run is the model's choice (log 24). -/
theorem counterCommandsComplete : Obligations.CounterCommandsComplete := by
  refine ⟨?alloc, ?allocBad, ?allocStandby, ?allocFull, ?allocDisabled, ?free, ?freeBad, ?freeForeign, ?freeBusy, ?bind, ?unbound,
    ?bindBad, ?bindForeign, ?read, ?readBad, ?readForeign, ?write, ?writeBad, ?writeForeign, ?create, ?createStandby, ?createQps,
    ?createBusy, ?createFull, ?createBad, ?destroy, ?destroyBad, ?destroyForeign, ?status, ?statusBad, ?statusForeign⟩
  case alloc =>
    intro c count s u n first h hlow hhigh hfree hfn hserves
    rw [exec_cntAlloc_free h hserves hlow hhigh hfree rfl, if_neg (not_not.mpr hfn)]
  case allocBad =>
    intro c count s u n h hserves hbad
    exact command_effect _ h ((forServed_serves u n c _ hserves).trans (if_pos (by simp; omega)))
  case allocStandby =>
    intro c count s u n h hserves
    exact command_effect _ h (forServed_standby u n c _ hserves)
  case allocFull =>
    intro c count s u n h hserves hlow hhigh hfree
    exact exec_cntAlloc_full h hserves hlow hhigh hfree
  case allocDisabled =>
    intro c count s u n first h hserves hlow hhigh hfree hfn
    rw [exec_cntAlloc_free h hserves hlow hhigh hfree rfl, if_pos hfn]
  case free =>
    intro c first count s u n mine t m h hmine hpos hend hheld hown hunused ht hm
    subst hmine ht hm
    exact command_effect _ h ((if_neg (cntRange_pass hpos hend hheld)).trans ((if_neg (Bool.eq_false_iff.mp hown)).trans
      (if_neg (Bool.eq_false_iff.mp hunused))))
  case freeBad =>
    intro c first count s u n mine h hmine hbad
    subst hmine
    exact command_effect _ h (if_pos ((cntRange_fail_iff ..).mpr hbad))
  case freeForeign =>
    intro c first count s u n mine h hmine hpos hend hheld hforeign
    subst hmine
    exact command_effect _ h ((if_neg (cntRange_pass hpos hend hheld)).trans (if_pos hforeign))
  case freeBusy =>
    intro c first count s u n mine h hmine hpos hend hheld hown hused
    subst hmine
    exact command_effect _ h ((if_neg (cntRange_pass hpos hend hheld)).trans ((if_neg (Bool.eq_false_iff.mp hown)).trans (if_pos hused)))
  case bind =>
    intro c qidx cnt en s u n x m h hx hvalid hcnt halloc hen hname howner hm
    subst hx hm
    have hmay : ¬ (mayName (pathFn c.path) (u.qp qidx.toNat).func = false ∨ mayName (pathFn c.path) (u.qp qidx.toNat).func = false ∨
      (u.qp qidx.toNat).func ≠ (u.qp qidx.toNat).func) := by simp [hname]
    have hbound : ¬ (en.toNat = 0 && (u.qp qidx.toNat).cnt.isNone) = true := by
      rcases hen with h1 | ⟨h0, hsome⟩
      · simp [h1]
      · simp [Option.isSome_iff_ne_none.mp hsome]
    exact command_effect _ h ((if_neg (cntBind_objects_iff.mpr ⟨hvalid, hcnt, halloc, by omega⟩)).trans
      ((if_neg (mt cntBind_owners_fail_iff.mp (by rw [howner]; exact hmay))).trans (if_neg hbound)))
  case unbound =>
    intro c qidx cnt en s u n x h hx hvalid hcnt halloc hname howner hen hnone
    subst hx
    have hmay : ¬ (mayName (pathFn c.path) (u.qp qidx.toNat).func = false ∨ mayName (pathFn c.path) (u.qp qidx.toNat).func = false ∨
      (u.qp qidx.toNat).func ≠ (u.qp qidx.toNat).func) := by simp [hname]
    exact command_effect _ h ((if_neg (cntBind_objects_iff.mpr ⟨hvalid, hcnt, halloc, by omega⟩)).trans
      ((if_neg (mt cntBind_owners_fail_iff.mp (by rw [howner]; exact hmay))).trans (if_pos (by simp [hen, hnone]))))
  case bindBad =>
    intro c qidx cnt en s u n h hbad
    exact command_effect _ h (if_pos (not_not.mp (mt cntBind_objects_iff.mp hbad)))
  case bindForeign =>
    intro c qidx cnt en s u n h hvalid hcnt halloc hen hforeign
    exact command_effect _ h ((if_neg (cntBind_objects_iff.mpr ⟨hvalid, hcnt, halloc, hen⟩)).trans
      (if_pos (cntBind_owners_fail_iff.mpr hforeign)))
  case read =>
    intro c cnt s u n h hcnt halloc howner
    exact command_effect _ h (ownCnt_own u n c _ hcnt halloc howner)
  case readBad =>
    intro c cnt s u n h hnone
    exact command_effect _ h (ownCnt_missing u n c _ hnone)
  case readForeign =>
    intro c cnt s u n h hcnt halloc howner
    exact command_effect _ h (ownCnt_foreign u n c _ hcnt halloc howner)
  case write =>
    intro c cnt value s u n h hcnt halloc howner
    exact command_effect _ h (ownCnt_own u n c _ hcnt halloc howner)
  case writeBad =>
    intro c cnt value s u n h hnone
    exact command_effect _ h (ownCnt_missing u n c _ hnone)
  case writeForeign =>
    intro c cnt value s u n h hcnt halloc howner
    exact command_effect _ h (ownCnt_foreign u n c _ hcnt halloc howner)
  case create =>
    intro c gid job gen dimmask localCnt depth mask0 mask1 mask2 mask3 maxbytes lqp0 lqp1 lqp2 lqp3 lqp4 lqp5 lqp6 lqp7 s u n p h hp
      hserves hqps hnew hranges hmasks hjob hjobs hroom
    rw [exec_groupCreate_new h hp hserves hqps hnew, if_neg (by simpa [Option.isSome_iff_ne_none] using hroom),
      if_pos ⟨hranges, hmasks, hjob, hjobs⟩]
  case createStandby =>
    intro c gid job gen dimmask localCnt depth mask0 mask1 mask2 mask3 maxbytes lqp0 lqp1 lqp2 lqp3 lqp4 lqp5 lqp6 lqp7 s u n h hserves
    exact command_effect _ h (forServed_standby u n c _ hserves)
  case createQps =>
    intro c gid job gen dimmask localCnt depth mask0 mask1 mask2 mask3 maxbytes lqp0 lqp1 lqp2 lqp3 lqp4 lqp5 lqp6 lqp7 s u n p h hp
      hserves hqps
    rw [exec_groupCreate_served h hp hserves, if_pos hqps]
  case createBusy =>
    intro c gid job gen dimmask localCnt depth mask0 mask1 mask2 mask3 maxbytes lqp0 lqp1 lqp2 lqp3 lqp4 lqp5 lqp6 lqp7 s u n p h hp
      hserves hqps hgid hvalid
    rw [exec_groupCreate_served h hp hserves, if_neg (not_not.mpr hqps), if_pos (by simp [hgid, hvalid])]
  case createFull =>
    intro c gid job gen dimmask localCnt depth mask0 mask1 mask2 mask3 maxbytes lqp0 lqp1 lqp2 lqp3 lqp4 lqp5 lqp6 lqp7 s u n p h hp
      hserves hqps hnew hfull
    rw [exec_groupCreate_new h hp hserves hqps hnew, if_pos (Option.isNone_iff_eq_none.mpr hfull)]
  case createBad =>
    intro c gid job gen dimmask localCnt depth mask0 mask1 mask2 mask3 maxbytes lqp0 lqp1 lqp2 lqp3 lqp4 lqp5 lqp6 lqp7 s u n p h hp
      hserves hqps hnew hroom hbad
    rw [exec_groupCreate_new h hp hserves hqps hnew, if_neg (by simpa [Option.isSome_iff_ne_none] using hroom), if_neg hbad]
  case destroy =>
    intro c gid s u n h hgid hvalid hmine
    exact command_effect _ h (ownGroup_own u n c _ hgid hvalid hmine)
  case destroyBad | statusBad =>
    intro c gid s u n h hnone
    exact command_effect _ h (ownGroup_missing u n c _ hnone)
  case destroyForeign | statusForeign =>
    intro c gid s u n h hgid hvalid hothers
    exact command_effect _ h (ownGroup_foreign u n c _ hgid hvalid hothers)
  case status =>
    intro c gid s u n h hgid hvalid hmine
    exact command_effect _ h (ownGroup_own u n c _ hgid hvalid hmine)

end Sys2Proof.Machine
end

section
/-! What the events of tally counters, triggers, reduction units and pair operation come to, and the pair opcodes when their command starts
(13_counters_and_triggers.md R482 to R497; 14_collectives.md R509 to R533; 15_pair_operation.md R543 to R566). -/

namespace Sys2Proof.Machine

/-! ### TRIG pairs and the times of triggers (R485, R618) -/

/-- A due trigger in a device that MOSS does not gate needs no wake. -/
theorem wakeForTrigger_awake {s : State} (h : s.powerState ≠ psMoss) : s.wakeForTrigger = s := if_neg (by simp [h])

theorem exec_triggerFireTime_awake {s v : State} (hruns : s.runs = true) (hv : v = s.wakeForTrigger) (hmoss : v.powerState ≠ psMoss)
    (hexit : v.powerState ≠ psExit) : exec .triggerFireTime s = .next (v.fireDue fun a => v.lateFor a.tgt).ended := by
  subst hv
  show execTriggerFireTime s = _
  exact live_effect _ hruns (if_neg (by simp [hmoss, hexit]))

/-- Settles O28: each clause is the row's gate, open while the device or the engines run, before the branch of its effect that the clause
describes. -/
theorem triggerEventsComplete : Obligations.TriggerEventsComplete := by
  refine ⟨?add, ?set, ?fetch, ?trig, ?wait, ?update, ?fire, ?fireMoss, ?sweep, ?fired, ?pending, ?valWrite, ?addWrite⟩
  case add =>
    intro q fired s w d hengines hstart
    show execCntAdd q fired s = _
    refine engine_effect _ hengines ?_
    simp only [hstart]
  case set =>
    intro q fired s w d hengines hstart
    show execCntSet q fired s = _
    refine engine_effect _ hengines ?_
    simp only [hstart]
  case fetch =>
    intro q fired s w d hengines hstart
    show execCntFetch q fired s = _
    refine engine_effect _ hengines ?_
    simp only [hstart]
  case trig =>
    intro q s d hengines hnext hop hslots
    show execTrig q s = _
    refine engine_effect _ hengines ?_
    simp only [hnext]
    exact if_pos (by simp [hop, hslots])
  case wait =>
    intro q s x d hengines hstart
    show execWait q s = _
    refine engine_effect _ hengines ?_
    simp only [hstart]
  case update =>
    intro s x rest t v hengines hupdates ht hv
    subst ht hv
    show execCounterUpdate s = _
    refine engine_effect _ hengines ?_
    cases hafter : x.after <;> simp only [hupdates, hafter]
  case fire =>
    intro s hruns hmoss hexit
    have hwake := wakeForTrigger_awake hmoss
    exact exec_triggerFireTime_awake hruns hwake.symm hmoss hexit
  case fireMoss =>
    intro s v hruns hmoss hdue hwakes hheld hv hrun
    have hwake : v = s.wakeForTrigger := hv.trans (if_pos (by simpa [hmoss] using hdue)).symm
    exact exec_triggerFireTime_awake hruns hwake (by simp [hrun, psRun, psMoss]) (by simp [hrun, psRun, psExit])
  case sweep =>
    intro s hengines
    show execTriggerSweep s = _
    exact engine_runs s _ hengines
  case fired =>
    intro s e rest t hengines hends ht
    subst ht
    show execFiredOpEnd s = _
    refine engine_effect _ hengines ?_
    cases hdcnt : e.dcnt <;> simp only [hends, hdcnt]
  case pending =>
    intro q s d hengines hheld hroom hnext hop hslots
    show execPendingEntryFree q s = _
    refine engine_effect _ hengines ((if_pos (by simp [hheld, hroom])).trans ?_)
    simp only [hnext]
    exact if_pos (by simp [hop, hslots])
  case valWrite =>
    intro v s hruns
    show execTrgCntValWrite v s = _
    exact live_runs s _ hruns
  case addWrite =>
    intro v s hruns
    show execTrgCntAddWrite v s = _
    exact live_runs s _ hruns

/-- Settles O29: each clause is the row's gate, open while the engines run, before the branch of its effect that the clause describes. -/
theorem collectiveEventsComplete : Obligations.CollectiveEventsComplete := by
  refine ⟨?allreduce, ?reduceScatter, ?allgather, ?barrier, ?lineBcast, ?tap7, ?tap6, ?staged, ?guard, ?launch, ?timeout⟩
  case allreduce =>
    intro q fired data s w d hengines hstart
    show execAllreduce q fired data s = _
    refine engine_effect _ hengines ?_
    simp only [hstart]
  case reduceScatter =>
    intro q fired data s w d hengines hstart
    show execReduceScatter q fired data s = _
    refine engine_effect _ hengines ?_
    simp only [hstart]
  case allgather =>
    intro q fired data s w d hengines hstart
    show execAllgather q fired data s = _
    refine engine_effect _ hengines ?_
    simp only [hstart]
  case barrier =>
    intro q fired s w d hengines hstart
    show execBarrier q fired s = _
    refine engine_effect _ hengines ?_
    simp only [hstart]
  case lineBcast =>
    intro q fired data s w d hengines hstart
    show execLineBcast q fired data s = _
    refine engine_effect _ hengines ?_
    simp only [hstart]
  case tap7 =>
    intro input s j k hengines htap
    show execCollContribTap input s = _
    refine engine_effect _ hengines ?_
    simp only [htap]
  case tap6 =>
    intro input s j k hengines hnone htap
    show execCollContribTap input s = _
    refine engine_effect _ hengines ?_
    simp only [hnone, htap]
  case staged =>
    intro s w rest hengines hwrites
    show execCollStagingWriteDone s = _
    refine engine_effect _ hengines ?_
    simp only [hwrites]
  case guard =>
    intro s l hengines hfind
    show execTimedGuardStart s = _
    refine engine_effect _ hengines ?_
    simp only [hfind]
  case launch =>
    intro s l hengines hfind
    show execTimedPhaseLaunch s = _
    refine engine_effect _ hengines ?_
    simp only [hfind]
  case timeout =>
    intro g k s i hengines hinst hparts hended hsent
    show execCollPhaseTimeout g k s = _
    refine engine_effect _ hengines ?_
    simp only [hinst]
    exact if_pos (by simp [hparts, hended, hsent])

/-- Settles O10: each clause is its row's effect when the command has started, followed through the row's tests in their order. -/
theorem pairCommandsComplete : Obligations.PairCommandsComplete := by
  refine ⟨?mode, ?modeUnpaired, ?modeBad, ?move, ?moveRefused, ?status, ?takeover, ?takeoverRefused⟩
  case mode =>
    intro c mode s u n h hpaired hmode
    exact command_effect _ h ((if_neg hpaired).trans (okIf_true u n _ (decide_eq_true hmode)))
  case modeUnpaired =>
    intro c mode s u n h hunpaired
    exact command_effect _ h (if_pos hunpaired)
  case modeBad =>
    intro c mode s u n h hpaired hmode
    exact command_effect _ h ((if_neg hpaired).trans (okIf_false u n _ (decide_eq_false (Nat.not_le.mpr hmode))))
  case move =>
    intro c direction g s u n t h hstatus ht
    subst ht
    exact command_effect _ h (if_neg (not_not.mpr hstatus))
  case moveRefused =>
    intro c direction g s u n h hstatus
    exact command_effect _ h (if_pos hstatus)
  case status =>
    intro c s u n h
    exact command_starts _ h
  case takeover =>
    intro c s u n h hsolo
    exact command_effect _ h (if_neg (not_not.mpr hsolo))
  case takeoverRefused =>
    intro c s u n h hsolo
    exact command_effect _ h (if_pos hsolo)

/-- Settles O30: each clause is the row's gate, open while the device runs or is out of reset, before the branch of its effect that the
clause describes. That INC of MRAM holds a free value where a return is not verified is the model's choice (log 194; R567). -/
theorem pairEventsComplete : Obligations.PairEventsComplete := by
  refine ⟨?heartbeat, ?unit, ?silent, ?gone, ?edge, ?silence, ?record, ?ack, ?late, ?start, ?quiesce, ?yield, ?unverified, ?stale, ?mode,
    ?takeover⟩
  case heartbeat =>
    intro p s hruns hpaired hlink hphase
    show execCarrHeartbeatSend p s = _
    exact live_effect _ hruns (if_pos (by simp [hpaired, hlink, hphase]))
  case unit =>
    intro flit s hruns hpaired hphase
    show execCarrUnitReceive flit s = _
    exact live_effect _ hruns (if_neg (by simp [hpaired, hphase]))
  case silent =>
    intro s hruns hpaired hstate hup hdue
    show execCarrSilenceExpire s = _
    exact live_effect _ hruns (if_pos (by simp [hpaired, hstate, hup, hdue]))
  case gone =>
    intro s hruns hpaired hstate hup0 hup1 hlp0 hlp1
    show execCarrSilenceExpire s = _
    exact live_effect _ hruns (if_pos (by simp [hpaired, hstate, hup0, hup1, hlp0, hlp1]))
  case edge =>
    intro s hup
    exact if_pos hup
  case silence =>
    intro s hup hpaired halive
    exact (if_pos hup).trans (congrArg fin (if_pos (by simp [hpaired, halive])))
  case record =>
    intro mseq r s hruns hpaired hphase hstate
    show execMirrorRecordReceive mseq r s = _
    refine live_effect _ hruns ((if_neg (by simp [hpaired, hphase, hstate])).trans ?_)
    cases r <;> rfl
  case ack =>
    intro flit s hruns hpaired hphase hkind
    show execMirrorAckReceive flit s = _
    exact live_effect _ hruns (if_neg (by simp [hpaired, hphase, hkind]))
  case late =>
    intro s hruns hstate hlate
    show execMirrorTimeout s = _
    exact live_effect _ hruns (if_pos (by simpa only [hstate, decide_true, Bool.true_and] using hlate))
  case start =>
    intro s hruns hpaired hphase hstate hdead hsession
    show execPairStartTimeout s = _
    exact live_effect _ hruns (if_pos (by simp [hpaired, hphase, hstate, hdead, hsession]))
  case quiesce =>
    intro s m hruns hmove hgiving hnear
    show execMoveQuiesceStart s = _
    refine live_effect _ hruns ?_
    simp only [hmove]
    exact if_pos (by simp [hgiving, hnear])
  case yield =>
    intro verified s m hruns hmove hdue hverified
    show execMoveYield verified s = _
    refine live_effect _ hruns ?_
    simp only [hmove]
    exact (if_neg (Nat.not_lt.mpr hdue)).trans (if_neg (Bool.eq_false_iff.mp hverified))
  case unverified =>
    intro verified s m v hruns hmove hdue hreturn hverified hv
    subst hv
    show execMoveYield verified s = _
    refine live_effect _ hruns ?_
    simp only [hmove]
    exact (if_neg (Nat.not_lt.mpr hdue)).trans (if_pos (by simp [hreturn, hverified]))
  case stale =>
    intro s a b g hruns hstale hdue
    show execMoveStaleWindowEnd s = _
    refine live_effect _ hruns ?_
    simp only [hstale]
    exact if_pos hdue
  case mode =>
    intro relaxed s hruns
    show execPairCtrlModeWrite relaxed s = _
    exact live_runs s _ hruns
  case takeover =>
    intro bit s hruns hsolo
    show execPairCtrlTakeoverWrite bit s = _
    refine live_effect _ hruns ?_
    simp only [hsolo, decide_true, Bool.and_true]

end Sys2Proof.Machine
end

section
/-! What the general, power, counter, expert and firmware opcodes come to when their command starts (16_command_packets.md Tables 16.6
and 16.8, R591 to R595; 19_performance_counters.md R676; 20_firmware_and_trust.md R687 to R706). -/

namespace Sys2Proof.Machine

/-! ### The general opcodes (16_command_packets.md Table 16.6, R591) -/

/-- What REMOTE asks of its parameters. -/
abbrev State.remoteParamsOk (s : State) (pid timeoutMs : Nat) : Prop :=
  pid < 2 ^ 20 ∧ s.validPid pid = true ∧ 1 ≤ timeoutMs ∧ timeoutMs ≤ 10000

theorem remoteParams_pass_iff (s : State) (pid timeoutMs : Nat) :
    ¬ (pid ≥ 2 ^ 20 || !s.validPid pid || timeoutMs < 1 || timeoutMs > 10000) = true ↔ s.remoteParamsOk pid timeoutMs := by
  simp [State.remoteParamsOk, Nat.one_le_iff_ne_zero, and_assoc]

/-- Settles O1: each clause is its row's effect when the command has started, followed through the row's tests in their order.
That REMOTE to a PID that is not valid ends BAD_PARAM is the model's choice (log 139). -/
theorem generalCommandsComplete : Obligations.GeneralCommandsComplete := by
  refine ⟨?nop, ?info, ?infoBad, ?remote, ?remoteBad, ?remoteFailed⟩
  case nop =>
    intro c s u n h
    exact command_starts _ h
  case info =>
    intro c page s u n h hpage
    exact command_effect _ h (if_pos hpage)
  case infoBad =>
    intro c page s u n h hpage
    exact command_effect _ h (if_neg (Nat.not_le.mpr hpage))
  case remote =>
    intro c pid timeoutMs cmdAddr outAddr data s u n bs v w p h hdata hbs hpid hvalid hlow hhigh hv hw hp
    subst hdata hv hw hp
    exact command_effect _ h ((if_neg ((remoteParams_pass_iff u ..).mpr ⟨hpid, hvalid, hlow, hhigh⟩)).trans
      (withBuffer_some u n c _ (by decide) _ _ hbs))
  case remoteBad =>
    intro c pid timeoutMs cmdAddr outAddr data s u n h hbad
    have hnot : ¬ u.remoteParamsOk pid.toNat timeoutMs.toNat := by
      rintro ⟨hpid, hvalid, hlow, hhigh⟩
      rcases hbad with hpid' | hvalid' | hlow' | hhigh'
      · omega
      · simp [hvalid] at hvalid'
      · omega
      · omega
    exact command_effect _ h (if_pos (not_not.mp (mt (remoteParams_pass_iff u ..).mp hnot)))
  case remoteFailed =>
    intro c pid timeoutMs cmdAddr outAddr data s u n h hdata hpid hvalid hlow hhigh
    subst hdata
    exact command_effect _ h ((if_neg ((remoteParams_pass_iff u ..).mpr ⟨hpid, hvalid, hlow, hhigh⟩)).trans
      (withBuffer_none u n c _ (by decide) _ _))

/-! ### The power and fault opcodes (16_command_packets.md Table 16.8) -/

/-- What FAULT_REACT asks of its parameters (R644). -/
theorem faultReact_ok_iff (page source reaction : Nat) :
    (isPage page && source ≤ 15 && sourceAssigned page source && reaction < 16 && reaction % 8 < 6 && (source ≠ 14 || reaction = 0xC)) = true ↔
      isPage page = true ∧ source ≤ 15 ∧ sourceAssigned page source = true ∧ reaction < 16 ∧ reaction % 8 < 6 ∧
        (source ≠ 14 ∨ reaction = 0xC) := by
  simp only [Bool.and_eq_true, Bool.or_eq_true, decide_eq_true_eq, and_assoc]

/-- POWER_STATE RUN abandons a PEAT request that waits, and nothing else. -/
theorem exec_powerState_run {c : CmdRef} {state : BitVec 8} {s u : State} {n : Nat}
    (h : Starts s .d 0x0B01 c (pack [(1, state.toNat)]) n u) (hrun : state.toNat = 0) :
    exec (.powerState c state) s =
      .next (match u.powerWaiter with
        | some (m, 2) => (u.powerFail m stFailed 10).ends n stOk
        | _ => u.ends n stOk).ended :=
  command_effect _ h ((if_neg (by omega)).trans (if_pos hrun))

/-- Settles O11: each clause is its row's effect when the command has started, followed through the row's tests in their order. -/
theorem powerCommandsComplete : Obligations.PowerCommandsComplete := by
  refine ⟨?reset, ?resetBad, ?run, ?runPeat, ?request, ?stateBad, ?runOther, ?wake, ?lastWake, ?supply, ?read, ?readBad, ?clear, ?clearBad,
    ?react, ?reactBad, ?grace, ?graceBad, ?first, ?firstBad, ?phase, ?phaseStartup, ?phaseBad⟩
  case reset =>
    intro c delayUs s u n h hdelay
    exact command_effect _ h (okIf_true u n _ (decide_eq_true hdelay))
  case resetBad =>
    intro c delayUs s u n h hdelay
    exact command_effect _ h (okIf_false u n _ (decide_eq_false (Nat.not_le.mpr hdelay)))
  case run =>
    intro c state s u n h hrun hwaiter
    rw [exec_powerState_run h hrun, hwaiter]
  case runPeat =>
    intro c state s u n m h hrun hwaiter
    simp only [exec_powerState_run h hrun, hwaiter]
  case request =>
    intro c state s u n h hstate
    exact command_effect _ h ((if_neg (by omega)).trans (if_neg (by omega)))
  case stateBad =>
    intro c state s u n h hstate
    exact command_effect _ h (if_pos hstate)
  case runOther =>
    intro c state s u n m k h hrun hwaiter hk
    rw [exec_powerState_run h hrun, hwaiter]
    split
    · rename_i heq
      cases heq
      exact absurd rfl hk
    · rfl
  case wake =>
    intro c sources s u n h
    exact command_starts _ h
  case lastWake | supply =>
    intro c s u n h
    exact command_starts _ h
  case read | first =>
    intro c page s u n h hpage
    exact command_effect _ h (if_pos hpage)
  case readBad | firstBad =>
    intro c page s u n h hpage
    exact command_effect _ h (if_neg (Bool.eq_false_iff.mp hpage))
  case clear =>
    intro c page bits s u n h hpage
    exact command_effect _ h (okIf_true u n _ hpage)
  case clearBad =>
    intro c page bits s u n h hpage
    exact command_effect _ h (okIf_false u n _ hpage)
  case react =>
    intro c page source reaction s u n h hpage hsource hassigned hreact hcode hfixed
    exact command_effect _ h (okIf_true u n _ ((faultReact_ok_iff ..).mpr ⟨hpage, hsource, hassigned, hreact, hcode, hfixed⟩))
  case reactBad =>
    intro c page source reaction s u n h hbad
    exact command_effect _ h (okIf_false u n _ (Bool.eq_false_iff.mpr (mt (faultReact_ok_iff ..).mp hbad)))
  case grace =>
    intro c page grace s u n h hpage hgrace
    exact command_effect _ h (okIf_true u n _ (Bool.and_eq_true_iff.mpr ⟨hpage, hgrace⟩))
  case graceBad =>
    intro c page grace s u n h hbad
    exact command_effect _ h (okIf_false u n _ (Bool.and_eq_false_iff.mpr hbad))
  case phase =>
    intro c phase s u n h hlow hhigh hphase
    exact command_effect _ h ((if_neg (by simp; omega)).trans (if_neg hphase))
  case phaseStartup =>
    intro c phase s u n h hlow hhigh hphase
    exact command_effect _ h ((if_neg (by simp; omega)).trans (if_pos hphase))
  case phaseBad =>
    intro c phase s u n h hbad
    exact command_effect _ h (if_pos (by simpa using hbad))

/-! ### The counter opcodes (16_command_packets.md Table 16.8) -/

/-- SNAPSHOT_COPY takes a slot that holds the index and was written whole (R676). -/
theorem snapSlot_holds {held index : Nat} {written : Bool} (hheld : held = index) (hwritten : written = true) :
    ¬ (held ≠ index || !written) = true := by simp [hheld, hwritten]

/-- Settles O12: each clause is its row's effect when the command has started, followed through the row's tests in their order. -/
theorem readerCommandsComplete : Obligations.ReaderCommandsComplete := by
  refine ⟨?arm, ?armNear, ?armInvalid, ?perf, ?perfBad, ?copy, ?copyBad, ?copyFailed⟩
  case arm =>
    intro c windowUs startGt s u n h hstart hvalid
    exact command_effect _ h ((if_neg (Nat.not_lt.mpr hstart)).trans (if_neg hvalid))
  case armNear =>
    intro c windowUs startGt s u n h hstart
    exact command_effect _ h (if_pos hstart)
  case armInvalid =>
    intro c windowUs startGt s u n h hstart hinvalid
    exact command_effect _ h ((if_neg (Nat.not_lt.mpr hstart)).trans (if_pos hinvalid))
  case perf =>
    intro c addr s u n h haddr
    exact command_effect _ h (if_pos haddr)
  case perfBad =>
    intro c addr s u n h haddr
    exact command_effect _ h (if_neg (Bool.eq_false_iff.mp haddr))
  case copy =>
    intro c index outAddr s u n h hheld hwritten hgood
    exact command_effect _ h ((if_neg (snapSlot_holds hheld hwritten)).trans (if_neg (Bool.eq_false_iff.mp hgood)))
  case copyBad =>
    intro c index outAddr s u n h hnone
    exact command_effect _ h (if_pos (by simpa using hnone))
  case copyFailed =>
    intro c index outAddr s u n h hheld hwritten hbad
    exact command_effect _ h ((if_neg (snapSlot_holds hheld hwritten)).trans (if_pos hbad))

/-! ### The expert opcodes (16_command_packets.md Table 16.8) -/

section
variable {c : CmdRef} {token : List Byte} {s u : State} {n : Nat} (h : Starts s .px 0x0F01 c token n u)
include h

/-- Under a policy that is neither OPEN nor SIGNED, expert access stays locked (R593). -/
theorem exec_expertUnlock_never (hopen : u.unlockPolicy (unlockKey c.path) ≠ 1) (hsigned : u.unlockPolicy (unlockKey c.path) ≠ 2) :
    exec (.expertUnlock c token) s = .next (u.ends n stNotPermitted).ended :=
  command_effect _ h ((if_neg hopen).trans (if_neg hsigned))

end

/-- Settles O14: each clause is its row's effect when the command has started, followed through the row's tests in their order.
That the reserved policy 3 ends EXPERT_UNLOCK NOT_PERMITTED as NEVER does is the model's choice (R593 is silent). -/
theorem expertCommandsComplete : Obligations.ExpertCommandsComplete := by
  refine ⟨?challenge, ?lockout, ?unlockOpen, ?unlockSigned, ?never, ?reserved, ?lock, ?read, ?readBad, ?write, ?writeBad, ?status⟩
  case challenge =>
    intro c s u n t h hlockout ht
    subst ht
    exact command_effect _ h (if_neg (Bool.eq_false_iff.mp hlockout))
  case lockout =>
    intro c s u n h hlockout
    exact command_effect _ h (if_pos hlockout)
  case unlockOpen =>
    intro c token s u n h hpolicy
    exact command_effect _ h (if_pos hpolicy)
  case unlockSigned =>
    intro c token s u n h hpolicy
    exact command_effect _ h ((if_neg (by omega)).trans (if_pos hpolicy))
  case never =>
    intro c token s u n h hpolicy
    exact exec_expertUnlock_never h (by omega) (by omega)
  case reserved =>
    intro c token s u n h hpolicy
    exact exec_expertUnlock_never h (by omega) (by omega)
  case lock | status =>
    intro c s u n h
    exact command_starts _ h
  case read =>
    intro c addr width s u n h hargs
    exact command_effect _ h (if_neg (by simp [hargs]))
  case readBad =>
    intro c addr width s u n h hargs
    exact command_effect _ h (if_pos (by simp [hargs]))
  case write =>
    intro c addr width value s u n h hargs
    exact commandLink_effect _ h (if_neg (by simp [hargs]))
  case writeBad =>
    intro c addr width value s u n h hargs
    exact commandLink_effect _ h (if_pos (by simp [hargs]))

/-! ### FW_ACTIVATE (R687, R691) -/

/-- In ROM load mode FW_ACTIVATE takes neither a live activation nor a staged package (R686). -/
abbrev State.activateLoads (s : State) (live : Nat) : Prop :=
  s.pwr.boot ≠ .load ∨ live = 0 ∧ (s.rd R.FWU_STAGE_LEN = 0 ∨ pkgKind s.pkgHeader = 0)

theorem activateLoads_iff (s : State) (live : Nat) :
    ¬ (decide (s.pwr.boot = .load) && (live ≠ 0 || s.rd R.FWU_STAGE_LEN ≠ 0 && pkgKind s.pkgHeader ≠ 0)) = true ↔ s.activateLoads live := by
  simp only [State.activateLoads, Bool.and_eq_true, Bool.or_eq_true, decide_eq_true_eq, not_and_or, not_or, ne_eq, not_not]

theorem activateRange_fail_iff (live components staged : Nat) :
    (live > 1 || components ≥ 16 || staged = 0) = true ↔ 1 < live ∨ 16 ≤ components ∨ staged = 0 := by
  simp [or_assoc]

section
variable {c : CmdRef} {components : BitVec 32} {live : BitVec 8} (flashOk mramOk : Bool) {s u : State} {n : Nat}
  (h : Starts s .d 0x0E02 c (pack [(4, components.toNat), (1, live.toNat)]) n u) (htrial : u.trialRuns = false)
  (hloads : u.activateLoads live.toNat)
include h htrial hloads

theorem exec_fwActivate_range (hbad : 1 < live.toNat ∨ 16 ≤ components.toNat ∨ u.rd R.FWU_STAGE_LEN = 0) :
    exec (.fwActivate c components live flashOk mramOk) s = .next (u.ends n stBadParam).ended :=
  command_effect _ h ((if_neg (Bool.eq_false_iff.mp htrial)).trans ((if_neg ((activateLoads_iff u _).mpr hloads)).trans
    (if_pos ((activateRange_fail_iff ..).mpr hbad))))

variable (hlive : live.toNat ≤ 1) (hcomponents : components.toNat < 16) (hstaged : u.rd R.FWU_STAGE_LEN ≠ 0)
include hlive hcomponents hstaged

/-- Past the tests of its operands a start that is due decides, and then the checks of the package. -/
theorem exec_fwActivate_staged :
    exec (.fwActivate c components live flashOk mramOk) s =
      .next (if u.bootBusy then u.ends n stBusy
        else match u.activate components.toNat (live.toNat = 1) flashOk with
          | (t, some (code, comp)) =>
            (((t.otherAgain.wr R.FWU_ERR_CODE code).wr R.FWU_ERR_COMP comp).raise pgFwu 0 comp).finalReply n stFailed (pack [(1, code)])
          | (t, none) =>
            if mramOk then t.otherAgain.activateDone n (live.toNat = 1)
            else t.otherAgain.bootFail.finalReply n stFailed (pack [(1, 0)])).ended := by
  refine command_effect _ h ((if_neg (Bool.eq_false_iff.mp htrial)).trans ((if_neg ((activateLoads_iff u _).mpr hloads)).trans
    ((if_neg (mt (activateRange_fail_iff ..).mp (by omega))).trans ?_)))
  rcases u.activate components.toNat (live.toNat = 1) flashOk with ⟨t, _ | ⟨code, comp⟩⟩ <;> rfl

end

/-! ### FW_CONFIRM and CFG_WRITE (R695, R696) -/

section
variable {c : CmdRef} (mramOk : Bool) {s u : State} {n : Nat} (h : Starts s .d 0x0E03 c [] n u) (htrial : u.trialRuns = true)
  (hphase : u.phase = phService)
include h htrial hphase

/-- A trial in SERVICE is confirmed unless a start is due, by a write of the boot record that may fail. -/
theorem exec_fwConfirm_trial {v : State}
    (hv : v = (u.bootStamp.setNv fun x => { x.noTrial with
      activeImg := if x.trialImg then !x.activeImg else x.activeImg
      activeCfg := if x.trialCfg then !x.activeCfg else x.activeCfg, floorPending := true }).completeFloors.otherAgain) :
    exec (.fwConfirm c mramOk) s =
      .next (if u.bootBusy then u.ends n stBusy
        else if !mramOk then u.bootFail.ends n stFailed
        else (({ v with aon := { v.aon with confirmEnd := none, confirmDue := none } } : State).journalOpen jrConfirm).ends n stOk).ended := by
  subst hv
  refine command_effect _ h ((if_neg (by simp [htrial, hphase])).trans ?_)
  rfl

end

/-- What CFG_WRITE does with the bytes it has read. -/
def State.cfgArrived (s : State) (n len : Nat) (bs : List Byte) (mramOk : Bool) : State :=
  if s.cfgStatus len bs ≠ stOk then s.ends n (s.cfgStatus len bs)
  else if s.bootBusy then s.ends n stBusy
  else if mramOk then (s.bootStamp.cfgTake bs).ends n stOk
  else s.bootFail.ends n stFailed

theorem exec_cfgWrite_reads {c : CmdRef} {addr : BitVec 64} {len : BitVec 32} (data : HostRead) (mramOk : Bool) {s u : State} {n : Nat}
    (h : Starts s .p 0x0E05 c (pack [(8, addr.toNat), (4, len.toNat)]) n u) (htrial : u.trialRuns = false) :
    exec (.cfgWrite c addr len data mramOk) s =
      .next (u.withBuffer n c addr.toNat len.toNat data [] fun s bs => s.cfgArrived n len.toNat bs mramOk).ended :=
  command_effect _ h (if_neg (Bool.eq_false_iff.mp htrial))

/-! ### The firmware opcodes (16_command_packets.md Table 16.8) -/

theorem stageLen_ok {len : Nat} (hpos : 0 < len) (hmax : len ≤ stagingSize) : ¬ (len = 0 || len > stagingSize) = true := by
  simp [hpos.ne', hmax]

theorem stageChunk_fail_iff (offset len : Nat) (pad : List Byte) :
    (len = 0 || len > 48 || !zeros pad || offset + len > stagingSize) = true ↔
      len = 0 ∨ 48 < len ∨ zeros pad = false ∨ stagingSize < offset + len := by
  simp [or_assoc]

/-- Settles O13: each clause is its row's effect when the command has started, followed through the row's tests in their order.
The model's choices are that a failed write of MRAM ends FW_ACTIVATE FAILED with code 0 (log 148), the order of its checks (log 137)
and the BUSY in ROM load mode (log 60; R686). -/
theorem firmwareCommandsComplete : Obligations.FirmwareCommandsComplete := by
  refine ⟨?stage, ?stageBad, ?stageFailed, ?chunk, ?chunkBad, ?activate, ?activateTrial, ?activateLoad, ?activateBad, ?activateBusy,
    ?activateMram, ?confirm, ?confirmNoTrial, ?confirmPhase, ?confirmBusy, ?confirmMram, ?status, ?cfg, ?cfgTrial, ?cfgFailed, ?cfgHeld,
    ?cfgEmpty, ?attest, ?identity, ?identityBad⟩
  case stage =>
    intro c addr len data s u n bs h hpos hmax hdata hbs
    subst hdata
    exact command_effect _ h ((if_neg (stageLen_ok hpos hmax)).trans (withBuffer_some _ n c _ hpos _ _ hbs))
  case stageBad =>
    intro c addr len data s u n h hbad
    exact command_effect _ h (if_pos (by simpa using hbad))
  case stageFailed =>
    intro c addr len data s u n h hpos hmax hdata
    subst hdata
    exact command_effect _ h ((if_neg (stageLen_ok hpos hmax)).trans (withBuffer_none _ n c _ hpos _ _))
  case chunk =>
    intro c offset len data s u n h hlow hhigh hpad hend
    exact command_effect _ h (if_neg (mt (stageChunk_fail_iff ..).mp (by simp [hpad]; omega)))
  case chunkBad =>
    intro c offset len data s u n h hbad
    exact command_effect _ h (if_pos ((stageChunk_fail_iff ..).mpr hbad))
  case activate =>
    intro c components live flashOk mramOk s u n h htrial hloads hlive hcomponents hstaged hidle hmram
    rw [exec_fwActivate_staged flashOk mramOk h htrial hloads hlive hcomponents hstaged, if_neg (Bool.eq_false_iff.mp hidle)]
    rcases u.activate components.toNat (live.toNat = 1) flashOk with ⟨t, _ | ⟨code, comp⟩⟩
    · exact congrArg (fun v : State => Host.Outcome.next v.ended) (if_pos hmram)
    · rfl
  case activateTrial =>
    intro c components live flashOk mramOk s u n h htrial
    exact command_effect _ h (if_pos htrial)
  case activateLoad =>
    intro c components live flashOk mramOk s u n h htrial hload hbusy
    refine command_effect _ h ((if_neg (Bool.eq_false_iff.mp htrial)).trans (if_pos (not_not.mp (mt (activateLoads_iff u _).mp ?_))))
    rcases hbusy with hlive | ⟨hstaged, hkind⟩
    · simp only [State.activateLoads, hload, hlive, ne_eq, not_true, false_and, or_self, not_false_eq_true]
    · simp only [State.activateLoads, hload, hstaged, hkind, ne_eq, not_true, or_self, and_false, not_false_eq_true]
  case activateBad =>
    intro c components live flashOk mramOk s u n h htrial hloads hbad
    exact exec_fwActivate_range flashOk mramOk h htrial hloads hbad
  case activateBusy =>
    intro c components live flashOk mramOk s u n h htrial hloads hlive hcomponents hstaged hbusy
    rw [exec_fwActivate_staged flashOk mramOk h htrial hloads hlive hcomponents hstaged, if_pos hbusy]
  case activateMram =>
    intro c components live flashOk mramOk s u n h htrial hloads hlive hcomponents hstaged hidle hmram
    rw [exec_fwActivate_staged flashOk mramOk h htrial hloads hlive hcomponents hstaged, if_neg (Bool.eq_false_iff.mp hidle)]
    rcases u.activate components.toNat (live.toNat = 1) flashOk with ⟨t, _ | ⟨code, comp⟩⟩
    · exact congrArg (fun v : State => Host.Outcome.next v.ended) (if_neg (Bool.eq_false_iff.mp hmram))
    · rfl
  case confirm =>
    intro c mramOk s u n v h htrial hphase hidle hmram hv
    rw [exec_fwConfirm_trial mramOk h htrial hphase hv, if_neg (Bool.eq_false_iff.mp hidle), if_neg (by simp [hmram])]
  case confirmNoTrial =>
    intro c mramOk s u n h htrial
    exact command_effect _ h (if_pos (by simp [htrial]))
  case confirmPhase =>
    intro c mramOk s u n h htrial hphase
    exact command_effect _ h (if_pos (by simp [hphase]))
  case confirmBusy =>
    intro c mramOk s u n h htrial hphase hbusy
    rw [exec_fwConfirm_trial mramOk h htrial hphase rfl, if_pos hbusy]
  case confirmMram =>
    intro c mramOk s u n h htrial hphase hidle hmram
    rw [exec_fwConfirm_trial mramOk h htrial hphase rfl, if_neg (Bool.eq_false_iff.mp hidle), if_pos (by simp [hmram])]
  case status =>
    intro c s u n h
    exact command_starts _ h
  case cfg =>
    intro c addr len data mramOk s u n bs v h htrial hdata hbs hpos hv hidle hmram
    subst hdata hv
    rw [exec_cfgWrite_reads _ mramOk h htrial, withBuffer_some u n c _ hpos _ _ hbs]
    refine congrArg (fun v : State => Host.Outcome.next v.ended) ?_
    split
    · rename_i hok
      exact (if_neg (not_not.mpr hok)).trans ((if_neg (Bool.eq_false_iff.mp hidle)).trans (if_pos hmram))
    · rename_i hfails
      exact if_pos hfails
  case cfgTrial =>
    intro c addr len data mramOk s u n h htrial
    exact command_effect _ h (if_pos htrial)
  case cfgFailed =>
    intro c addr len data mramOk s u n h htrial hdata hpos
    rw [exec_cfgWrite_reads data mramOk h htrial, hdata, withBuffer_none u n c _ hpos]
  case cfgHeld =>
    intro c addr len data mramOk s u n bs v h htrial hdata hbs hpos hv hheld
    subst hdata hv
    rw [exec_cfgWrite_reads _ mramOk h htrial, withBuffer_some u n c _ hpos _ _ hbs]
    refine congrArg (fun v : State => Host.Outcome.next v.ended) (if_congr Iff.rfl rfl (ite_congr rfl (fun _ => rfl) fun hidle => ?_))
    exact if_neg (Bool.eq_false_iff.mp (hheld.resolve_left hidle))
  case cfgEmpty =>
    intro c addr len data mramOk s u n h htrial hdata hlen
    rw [exec_cfgWrite_reads data mramOk h htrial, hdata, hlen, withBuffer_empty]
    rfl
  case attest =>
    intro c outAddr nonce s u n h
    exact command_starts _ h
  case identity =>
    intro c index outAddr outLen s u n h hindex
    exact command_effect _ h (if_neg (Nat.not_lt.mpr hindex))
  case identityBad =>
    intro c index outAddr outLen s u n h hindex
    exact command_effect _ h (if_pos hindex)

end Sys2Proof.Machine
end

section
/-! What the events of the command paths, faults, pins, temperatures and the HBM come to (16_command_packets.md R578 to R593;
18_faults.md R642 to R656; 21_pins_and_electrical.md R721 to R732). -/

namespace Sys2Proof.Machine

/-! ### The events of the command paths -/

/-- The progress of a command of a ring or of the SMBus is told once; a command of another device has no IN_PROGRESS (R586). -/
theorem exec_commandProgressTimer_local {c : CmdRef} {s v : State} {x : Started} (hruns : s.runs = true)
    (hfind : s.cmd.started.find? (fun y => y.ref = c) = some x) (hnew : x.progress = false)
    (hlocal : ∀ pid hport, c.path ≠ .remote pid hport)
    (hv : v = { s with cmd := { s.cmd with started := s.cmd.started.map fun y => if y.n = x.n then { y with progress := true } else y } }) :
    exec (.commandProgressTimer c) s =
      .next (if x.silent then v else (v.bump C.CMD_IN_PROGRESS).sendReply c 0 x.opcode stInProgress false []).ended := by
  subst hv
  show execCommandProgressTimer c s = _
  refine live_effect _ hruns ?_
  obtain ⟨path, tag⟩ := c
  cases path with
  | remote pid hport => exact absurd rfl (hlocal pid hport)
  | ring h f => simp only [hfind, hnew, Bool.or_self, Bool.false_eq_true, if_false]
  | smbus => simp only [hfind, hnew, Bool.or_self, Bool.false_eq_true, if_false]

/-- A message of the SMBus that is served is taken by its type where its PEC is right (R589). -/
theorem exec_smbusMessage_served {bytes : List Byte} {s : State} (pecOk : Bool) (hserving : s.serving = true)
    (hen : s.on R.CMD_CFG_SMB_EN = true) :
    exec (.smbusMessage bytes pecOk) s =
      .next (if pecOk then
          (if (bytes.headD 0).toNat = 0 then (s.wakeLatch wkSmbAddr 0).mctp bytes
            else if (bytes.headD 0).toNat = 0x7E then (s.wakeLatch wkSmbAddr 0).smbusCmd bytes
            else s.wakeLatch wkSmbAddr 0)
        else ((s.wakeLatch wkSmbAddr 0).bump C.CMD_SMB_PEC).raise pgCmd 1).ended := by
  show execSmbusMessage bytes pecOk s = _
  refine (if_neg (by simp [hserving, hen])).trans ?_
  cases pecOk with
  | false => rfl
  | true => simp only [Bool.not_true, Bool.false_eq_true, if_false, if_true, fin, apply_ite State.ended, apply_ite Host.Outcome.next]

/-- Settles O31: each clause is the row's gate, open while the device runs or the service serves, before the branch of its effect that the
clause describes. -/
theorem commandPathEventsComplete : Obligations.CommandPathEventsComplete := by
  refine ⟨?cmdPi, ?rplCi, ?arm, ?rcfg, ?fetch, ?progress, ?smbus, ?request, ?response, ?remoteLost, ?query, ?info, ?infoLost⟩
  case cmdPi =>
    intro h f v s u hruns hu hstate hforward
    show execCmdPiWrite h f v s = _
    exact hostWrites_effect _ hruns hu (if_neg (by simpa [hstate] using hforward))
  case rplCi =>
    intro h f v s u hruns hu hstate
    show execRplCiWrite h f v s = _
    exact hostWrites_effect _ hruns hu (if_neg hstate)
  case arm =>
    intro h f arm s u hruns hu hstate
    show execCmdArmWrite h f arm s = _
    refine hostWrites_effect _ hruns hu ?_
    simp only [ne_eq, hstate, not_false_eq_true, decide_true, Bool.and_true]
  case rcfg =>
    intro h f v s u hruns hu hstate
    show execCmdRcfgWrite h f v s = _
    exact hostWrites_effect _ hruns hu (if_neg hstate)
  case fetch =>
    intro h f data xbuf s hserving hlive hmay
    exact if_neg (by simp [hserving, hlive, hmay])
  case progress =>
    intro c s x v hruns hfind hnew hlocal hv
    refine exec_commandProgressTimer_local hruns hfind hnew (fun pid hport hpath => ?_) hv
    simp [hpath] at hlocal
  case smbus =>
    intro bytes pecOk s hserving hen _
    exact exec_smbusMessage_served pecOk hserving hen
  case request =>
    intro s p v hserving hlive hboot htake
    show execMgmtReqReceive s = _
    refine (if_neg (by simp [hserving, hlive, hboot])).trans ?_
    simp only [htake, fin]
  case response =>
    intro s p v hruns htake
    show execMgmtRespReceive s = _
    refine live_effect _ hruns ?_
    simp only [htake]
  case remoteLost =>
    intro c s x pid tag a hruns hfind hwait
    show execRemoteTimeout c s = _
    refine live_effect _ hruns ?_
    simp only [hfind, hwait]
  case query =>
    intro p flit s hruns htype hkind
    show execMgmtFlitQueryReceive p flit s = _
    exact live_effect _ hruns ((if_neg (not_not.mpr htype)).trans ((if_neg (by omega)).trans (if_neg (not_not.mpr hkind))))
  case info =>
    intro p flit s x v hruns htype hkind hv hfind
    subst hv
    show execMgmtFlitInfoReceive p flit s = _
    refine live_effect _ hruns ((if_neg (not_not.mpr htype)).trans ((if_neg (by omega)).trans ((if_neg (not_not.mpr hkind)).trans ?_)))
    simp only [hfind]
  case infoLost =>
    intro c s x p t hruns hfind hwait
    show execNeighbourInfoTimeout c s = _
    refine live_effect _ hruns ?_
    simp only [hfind, hwait]

/-! ### The events of faults, pins, temperatures and the HBM -/

/-- Settles O34: each clause is the row's gate, open while the device runs or its clock does, before the branch of its effect that the
clause describes. The lines of a scrub pass (log 70) and the window of the PPS output (log 11) are the model's choices. -/
theorem faultEventsComplete : Obligations.FaultEventsComplete := by
  refine ⟨?grace, ?force, ?phase, ?ecc, ?thermal, ?core, ?hbmTemp, ?scrub, ?ppsRise, ?ppsFall, ?lockout, ?fumarole, ?errN, ?rise, ?fall,
    ?trst⟩
  case grace =>
    intro page s hruns hpage hrunning
    show execFaultGraceExpire page s = _
    exact liveLink_effect _ hruns (if_pos (by simp [hpage, hrunning]))
  case force =>
    intro page raise hold s hruns
    show execFltForceWrite page raise hold s = _
    exact liveLink_runs s _ hruns
  case phase =>
    intro phase s hruns
    show execPinPhaseWrite phase s = _
    exact live_runs s _ hruns
  case ecc =>
    intro site correctable detail s hruns
    show execEccError site correctable detail s = _
    exact liveLink_runs s _ hruns
  case thermal =>
    intro temp s hruns
    show execThermalSample temp s = _
    exact live_runs s _ hruns
  case core =>
    intro core s hruns
    show execCalderaCoreException core s = _
    exact live_runs s _ hruns
  case hbmTemp =>
    intro temp s hruns
    show execHbmTempChange temp s = _
    exact live_runs s _ hruns
  case scrub =>
    intro s hruns
    show execHbmScrubPass s = _
    exact live_runs s _ hruns
  case ppsRise =>
    intro s past hruns hpast hen hlocked hsource hnear hnew
    subst hpast
    show execPpsOutRise s = _
    exact live_effect _ hruns (if_neg (by
      simpa [hen, Nat.not_le.mpr hnear, hnew, or_iff_not_imp_left] using And.intro hlocked hsource))
  case ppsFall =>
    intro s hruns hpps
    show execPpsOutFall s = _
    exact live_effect _ hruns (if_pos hpps)
  case lockout =>
    intro s hruns
    show execExpertLockoutExpire s = _
    exact live_runs s _ hruns
  case fumarole =>
    intro s v halive hclock hv
    subst hv
    exact if_neg (by simp [halive, hclock])
  case errN | rise | fall => intros; rfl
  case trst =>
    intro s v hv
    subst hv
    rfl

end Sys2Proof.Machine
end

section
/-! What the events of power states, supplies, resets and firmware come to (17_reset_power_supplies.md R599 to R637;
20_firmware_and_trust.md R684 to R698). -/

namespace Sys2Proof.Machine

/-- Settles O32: each clause is the row's gate where it has one, before the branch of its effect that the clause describes. -/
theorem powerEventsComplete : Obligations.PowerEventsComplete := by
  refine ⟨?wake, ?clock, ?fail, ?okReturn, ?reshare, ?vauxLoss, ?vauxReturn, ?vrhot, ?vrhotEnd, ?coreWait, ?retry, ?portOff, ?entered,
    ?exited, ?timeout⟩
  case wake =>
    intro src detail s d hsource
    show execWakeEvent src detail s = _
    rw [execWakeEvent, hsource]
    rfl
  case clock =>
    intro backup s hclock
    exact if_neg (Bool.eq_false_iff.mp hclock)
  case fail | okReturn | vauxLoss => intros; rfl
  case reshare =>
    intro setB s f v hf hauto hback hisol hv
    subst hf hv
    exact if_neg (by simp only [hauto, hback, hisol, Bool.not_true, Bool.or_self, Bool.false_eq_true, not_false_eq_true])
  case vauxReturn =>
    intro setB s v hv
    subst hv
    rfl
  case vrhot | vrhotEnd => intros; rfl
  case coreWait =>
    intro s hruns hstate hfirmware
    show execCoreWait s = _
    exact liveLink_effect _ hruns (if_pos (by simp [hstate, hfirmware]))
  case retry =>
    intro p s hruns hstate hup
    show execPeatLpRetry p s = _
    exact liveLink_effect _ hruns (if_pos (by simp [hstate, hup]))
  case portOff =>
    intro p s hruns hstate hdorm hoff
    show execPeatPortOff p s = _
    exact liveLink_effect _ hruns (if_pos (by simp [hstate, hdorm, hoff]))
  case entered =>
    intro s hruns hstate hports
    show execPeatEntryDone s = _
    exact liveLink_effect _ hruns (if_pos (by simpa only [hstate, decide_true, Bool.true_and] using hports))
  case exited =>
    intro saveOk s hruns hstate
    show execPeatExitComplete saveOk s = _
    exact liveLink_effect _ hruns (if_neg (not_not.mpr hstate))
  case timeout =>
    intro s n hruns hwaiter hstate
    show execPowerRequestTimeout s = _
    refine liveLink_effect _ hruns ?_
    simp only [hwaiter]
    exact if_pos hstate

/-- Settles O33: each clause is the row's gate where it has one, before the branch of its effect that the clause describes. The values of
REMAIN at the warning and at the restart (log 147), and that the expiry of the confirm timer waits while the device sleeps or is held, are
the model's choices. -/
theorem resetEventsComplete : Obligations.ResetEventsComplete := by
  refine ⟨?powerOn, ?resetN, ?undervoltage, ?rails, ?release, ?expert, ?delayed, ?firmware, ?image, ?hbm, ?started, ?warn, ?expire,
    ?confirm, ?confirmHeld, ?restart, ?complete, ?liveTimeout⟩
  case powerOn | resetN | rails => intros; rfl
  case undervoltage =>
    intro rail s v hv
    subst hv
    rfl
  case release =>
    intro straps s hheld hstart
    exact if_neg (by simp [hheld, hstart])
  case expert =>
    intro bit s hruns
    show execRstCtrlFullWrite bit s = _
    exact live_runs s _ hruns
  case delayed =>
    intro s hruns hdue
    show execResetDelayExpire s = _
    exact live_effect _ hruns (if_pos hdue)
  case firmware =>
    intro s hruns hdue
    show execFirmwareResetDelay s = _
    exact live_effect _ hruns (if_pos hdue)
  case image =>
    intro mramOk s hruns hboot
    show execImageBoot mramOk s = _
    exact live_effect _ hruns (if_pos hboot)
  case hbm =>
    intro incOk s hruns hboot
    show execHbmInitComplete incOk s = _
    exact liveLink_effect _ hruns (if_pos hboot)
  case started =>
    intro s hruns hboot hside
    show execStartupComplete s = _
    exact liveLink_effect _ hruns (if_neg (by simp [hboot, hside]))
  case warn =>
    intro s hruns
    show execCalderaWatchdogWarn s = _
    exact live_runs s _ hruns
  case expire =>
    intro s hruns
    show execCalderaWatchdogExpire s = _
    exact live_runs s _ hruns
  case confirm =>
    intro mramOk s hend hawake hup hfirmware
    exact (if_neg (by simpa [Option.isSome_iff_ne_none] using hend)).trans (if_neg (by simp [hawake, hup, hfirmware]))
  case confirmHeld =>
    intro mramOk s hend hheld
    exact (if_neg (by simpa [Option.isSome_iff_ne_none] using hend)).trans (if_pos (by simpa [or_assoc] using hheld))
  case restart =>
    intro s n hruns hlive hfirst hidle
    show execLiveActivationRestart s = _
    refine live_effect _ hruns ?_
    simp only [hlive]
    refine (if_neg (by simp only [hfirst, hidle, Bool.or_self, Bool.false_eq_true, not_false_eq_true])).trans ?_
    cases s.verify (!s.nv.activeImg) <;> rfl
  case complete =>
    intro s n t v hruns hlive hrestarted ht hv
    subst ht hv
    show execLiveActivationComplete s = _
    refine live_effect _ hruns ?_
    simp only [hlive]
    exact if_neg (by simp [hrestarted])
  case liveTimeout =>
    intro s hruns hlive
    show execLiveActivationTimeout s = _
    exact live_effect _ hruns (if_pos hlive)

end Sys2Proof.Machine
end

section
/-! The gates of the rows: what MOSS and a full reset hold still (17_reset_power_supplies.md R602, R611, R616), and a step as `exec` of the
command at the front (00_scope.md). -/

namespace Sys2Proof.Machine

/-! ### The gates of the rows -/

/-- Every row of the engines that MOSS gates is gated by `engine`. -/
theorem exec_engineRow {c : Instr} (h : engineRow c = true) : ∃ f, ∀ s, exec c s = engine s f := by
  cases c with
  | rxPipelinePacket | launchFetch | skippedDescComplete | doorbellRecordPoll | descriptorFetch | descriptorArrive | completionWrite
  | walkEntryReturn | walkCasReturn | invalidationComplete | tcCacheLoad | packetForm | ackReceive | nackReceive
  | retransmitTimerExpire | tcGiveupExpire | helloReceive | helloRespReceive | readRespForm | readRespReceive | revokeComplete
  | revokeDrainSlow | windowCoolingEnd | winOpenGoWrite | winRevokeWrite | nopDesc | write | read | winRevokeDesc | send
  | rndvWindowOpen | recv | reorderRelease | matchArrival | prqEntryFree | cntAdd | cntSet | trig | wait | cntFetch | counterUpdate
  | triggerSweep | firedOpEnd | pendingEntryFree | allreduce | reduceScatter | allgather | barrier | lineBcast | collContribTap
  | timedGuardStart | timedPhaseLaunch | collPhaseTimeout | collStagingWriteDone => exact ⟨_, fun _ => rfl⟩
  | _ => cases h

/-- Settles O44: the rows of the engines are gated by `engine`, which neither MOSS nor the exit of PEAT lets through. That the exit of PEAT
gates them as MOSS does is the model's choice (log 143). -/
theorem gatedEnginesAreStill : Obligations.GatedEnginesAreStill := by
  intro c s hrow hstate
  obtain ⟨f, hf⟩ := exec_engineRow hrow
  rw [hf]
  refine engine_gated s f ?_
  rcases hstate with hmoss | hexit
  · simp [State.engines, hmoss]
  · simp [State.engines, hexit]

/-! ### A device held in full reset -/

theorem runs_held {s : State} (hup : s.up = false) : s.runs = false := by simp [State.runs, hup]

theorem serving_held {s : State} (hup : s.up = false) : s.serving = false := by simp [State.serving, runs_held hup]

/-- Settles O43: the rows of the engines are gated by `engine`, and every other row but the always-on ones opens with a test that a held
device fails. -/
theorem heldDeviceIsStill : Obligations.HeldDeviceIsStill := by
  intro c s hup hon
  have hnotRuns : ¬ s.runs = true := by simp [runs_held hup]
  have hserving := serving_held hup
  have hnotServing : (!s.serving || s.fw.live.isSome) = true := by simp [serving_held hup]
  by_cases hrow : engineRow c = true
  · obtain ⟨f, hf⟩ := exec_engineRow hrow
    rw [hf]
    exact engine_gated s f (by simp [State.engines, runs_held hup])
  have hother : (engineRow c || alwaysOn c) = false := by simp [hrow, hon]
  cases c with
  | routeDecision | crossbarGrant | packetTailPass | quietIdleExpire | syncFlitSend | syncTimingReceive | syncEpochReceive
  | gmElection | syncInfoExpire | holdoverInterval | ppsEdge | ppsMissing | aonRateMeasure | geysStepWrite | lineNoticeRefresh
  | lineNoticeReceive | flipArmWrite | flipNoticeReceive | routingFlip | bankHoldExpire | markNoticeReceive | routTransitOffWrite
  | scheduleRunStart | scheduleStopReached | scheduleSwitch | slotPrefetch | slotStart | vc7HeadArrival | vc7OrphanTimeout
  | schedAbortReceive | prewarmDecide | prewarmRampUp | prewarmRampDown | lstepAssert | lstepRelease | schdGoWrite | schdAbortWrite
  | schdClearWrite | funcEnableEvent | funcDisableEvent | flr | quiesceComplete | quiesceTimeout | dmaReadError | hostLinkUp
  | hostLinkDown | parkTimeout | xltInvGoWrite | tcDeadlineSweep | tcCtrlResetWrite | triggerFireTime | trgCntValWrite
  | trgCntAddWrite | carrHeartbeatSend | carrUnitReceive | carrSilenceExpire | mirrorRecordReceive | mirrorAckReceive
  | mirrorTimeout | pairStartTimeout | moveQuiesceStart | moveYield | moveStaleWindowEnd | pairCtrlModeWrite | pairCtrlTakeoverWrite
  | commandProgressTimer | mgmtRespReceive | remoteTimeout | mgmtFlitQueryReceive | mgmtFlitInfoReceive | neighbourInfoTimeout
  | resetDelayExpire | firmwareResetDelay | rstCtrlFullWrite | imageBoot | calderaWatchdogWarn | calderaWatchdogExpire
  | pinPhaseWrite | thermalSample | counterBoundary | snapshotWriteComplete | cntStartWrite | readerConfigStart
  | liveActivationRestart | liveActivationComplete | liveActivationTimeout | ppsOutRise | ppsOutFall | referenceLockChange
  | gmClassUpgrade | expertLockoutExpire | hbmTempChange | hbmScrubPass | calderaCoreException => exact if_neg hnotRuns
  | codewordDecode | commaHalfReceive | commaLockLoss | commaHalfTransmit | portCtrlEnWrite | portCtrlRetrainWrite
  | laneSignalDetect | laneSignalLoss | trainFrameReceive | trainLimitExpire | trainHoldExpire | identityRecordReceive
  | miswiredRetry | lpQuietExit | lpExitSlow | linkFrameReceive | linkBadUnit | lcwReceive | replayTimerExpire | statusLcwDue
  | xoffRepeat | xoffWatchdogExpire | leakRetrain | linkUnitTransmit | sessionStartReceive | linkCtrlRetireWrite
  | linkCtrlFreshRetrainWrite | lpReqReceive | lpAckReceive | lpNakReceive | powerRequestTimeout | hbmInitComplete | startupComplete
  | coreWait | peatLpRetry | peatPortOff | peatEntryDone | peatExitComplete | faultGraceExpire | fltForceWrite | eccError => exact if_neg hnotRuns
  | funcCtrlEnWrite | sqPiWrite | rqPiWrite | cqCiWrite | cqArmWrite | eqCiWrite | eqArmWrite | snoopInvalidate | cmdPiWrite
  | rplCiWrite | cmdArmWrite | cmdRcfgWrite => exact if_neg hnotRuns
  | nop | devInfo | remote | portPreset | portStatus | portPeer | linkTimers | portAsym | neighbourInfo | lpEnable | aliasWrite
  | aliasBulk | exclWrite | flip | transitOff | topoSet | costSet | throttleSet | routeStatus | rowsRead | throttleRead | aliasRead
  | routeHold | gmCfg | geysLimits | taiSet | geysStep | geysStatus | geysSleep | schedLoad | schedStart | schedStop | schedAbort
  | schedClear | schedStatus | schedCfg | qpCreate | eqCreate | funcReset | funcStatus | qpStatus | heldStatus | hportCfg | pollRate
  | jobBind | jobRelease | rankWrite | rankBulk | jobStatus | ctxCreate | ctxRelease | invalidate | parkResolve | walkRange
  | xltTimers | ctxStatus | tptTimers | tptAckcfg | tcReset | tcStatus | winOpen | winRevoke | winStatus | matCfg | matStatus
  | matQpStatus | cntAlloc | cntFree | cntBind | cntRead | cntWrite | groupDestroy | groupStatus | pairMode | pairMove | pairStatus
  | pairTakeover | resetFull | powerState | wakeCfg | lastWake | supplyStatus | faultRead | faultClear | faultReact | faultGrace
  | faultFirst | devPhase | readerCfg | perfRead | snapshotCopy | fwStage | fwStageChunk | fwActivate | fwConfirm | fwStatus
  | cfgWrite | attest | identityRead | expertChallenge | expertUnlock | expertLock | regRead | expertStatus | groupCreate
  | portEnable | portRetrain | portRetire | regWrite => exact if_pos hnotServing
  | lpDormantEnergyWake => exact if_pos (by simp [hup])
  | mateAliveEdge | mateAliveSilence => exact if_neg (Bool.eq_false_iff.mp hup)
  | commandFetch | mgmtReqReceive => exact if_pos (by simp [hserving])
  | registerWrite t bytes data =>
    cases t with
    | bar0 | bar2 => exact if_neg hnotRuns
    | bus => cases hother
  | _ => cases hother

/-! ### The front of the queue -/

/-- Settles O38: `step` looks at the queue alone, and gives what stands in front to `exec` with the queue's rest. -/
theorem stepRunsFrontCommand : Obligations.StepRunsFrontCommand := by
  intro c rest s hpending
  simp only [step, hpending]

end Sys2Proof.Machine
end

section
/-! What raising a fault source leaves in its page (18_faults.md R643). -/

namespace Sys2Proof.Machine

/-! ### The addresses of fault pages (18_faults.md R643) -/

theorem isSome_ite_some {α : Type} {p : Prop} [Decidable p] {x : α} {o : Option α} :
    (if p then some x else o).isSome = true ↔ p ∨ o.isSome = true := by
  split <;> simp [*]

/-- A fault page begins on 4 KiB, and none lies at PHASE's word. -/
theorem page_aligned {page : Nat} (h : (pageKind page).isSome = true) : page % 0x1000 = 0 ∧ page ≠ R.PIN_PHASE_PHASE.addr := by
  unfold pageKind at h
  repeat rw [isSome_ite_some] at h
  simp only [Bool.and_eq_true, decide_eq_true_eq, pgChip, pgPwr, pgPin, pgGeys, pgCnt, pgFwu, pgCmd, pgPair,
    pgRout, pgSchd, pgHif, pgQue, pgXlt, pgTpt, pgWin, pgMat, pgTrg, pgColl, pgHbm, Option.isSome_none, Bool.false_eq_true,
    or_false] at h
  simp only [R.PIN_PHASE_PHASE]
  omega

/-! ### What a reaction writes among the registers -/

theorem SameRegs.ite {ks : List Nat} {s t u : State} {p : Prop} [Decidable p] (ht : SameRegs ks s t) (hu : SameRegs ks s u) :
    SameRegs ks s (if p then t else u) := by
  split
  · exact ht
  · exact hu

theorem SameRegs.of_regs {ks : List Nat} {s t : State} (h : t.regs = s.regs) : SameRegs ks s t :=
  fun f i j _ => by unfold State.rd; rw [h]

/-- The fields that a reaction writes: ERR_N's latch, RUNNING of the page's grace time, and the journal's head and count of lost entries. -/
def reactionKeys (page : Nat) : List Nat :=
  [R.PIN_ERR_LATCHED.key 0 0, R.FLT_GRACE_RUNNING.key page 0, R.SEC_JRN_DROP.key 0 0, R.SEC_JRN_HEAD.key 0 0]

section
variable (s : State) (page : Nat)

theorem journal_sameRegs (type data : Nat) : SameRegs (reactionKeys page) s (s.journal type data) := by
  unfold State.journal
  dsimp only
  exact .ite (SameRegs.trans (.of_regs (by rfl)) (wr_sameRegs _ R.SEC_JRN_DROP _ 0 0 (by simp [reactionKeys])))
    (SameRegs.trans (.of_regs (by rfl)) (wr_sameRegs _ R.SEC_JRN_HEAD _ 0 0 (by simp [reactionKeys])))

theorem takeTrap_sameRegs (fresh : Bool) : SameRegs (reactionKeys page) s (takeTrap s page fresh) := by
  have emitted : SameRegs (reactionKeys page) s (s.emit (.calTrap page)) := .of_regs rfl
  unfold takeTrap
  exact .ite (.refl _ s) (.ite (emitted.trans (journal_sameRegs _ page _ _)) emitted)

theorem applyReaction_sameRegs (src : Nat) (fresh : Bool) : SameRegs (reactionKeys page) s (applyReaction s page src fresh) := by
  have latched (b : Bool) : SameRegs (reactionKeys page) s (if b = true then s.wr R.PIN_ERR_LATCHED 1 else s) :=
    .ite (wr_sameRegs _ _ _ 0 0 (by simp [reactionKeys])) (.refl _ s)
  have deferred (t : State) (x : Tab Nat) : SameRegs (reactionKeys page) t
      { (takeTrap t page fresh).wr R.FLT_GRACE_RUNNING 1 page with deferred := x } :=
    ((takeTrap_sameRegs t page fresh).trans (wr_sameRegs _ _ _ page 0 (by simp [reactionKeys]))).trans (.of_regs rfl)
  unfold applyReaction
  refine .ite (.refl _ s) ((latched _).trans (.ite ?interrupt (.ite ?trap (.ite ?reset (.refl _ _)))))
  case interrupt => exact .ite (.ite (.of_regs rfl) (.of_regs rfl)) (.refl _ _)
  case trap => exact takeTrap_sameRegs _ _ _
  case reset => exact .ite (deferred _ _) (.ite (.of_regs rfl) (.ite (takeTrap_sameRegs _ _ _) (.of_regs rfl)))

end

/-! ### The record of a source in its page (R643) -/

/-- Two fields of a fault page are written apart when their places in it differ. -/
theorem rd_wr_page {f g : RegField} (s : State) (v page : Nat) (hf : f.stride = 1) (hg : g.stride = 1)
    (h : g.addr * 64 + g.low ≠ f.addr * 64 + f.low) : (s.wr f v page).rd g page = s.rd g page := by
  refine rd_wr_other s f g v page 0 page 0 ?_
  simp only [RegField.key, hf, hg]
  omega

/-- The fields of a page that the record of a source is read from. -/
def recordFields : List RegField :=
  [R.FLT_STAT_STAT, R.FLT_COUNT_COUNT, R.FLT_FIRST_VALID, R.FLT_FIRST_SOURCE, R.FLT_FIRST_DETAIL, R.FLT_FIRST_PHASE, R.FLT_FIRST_GT_GT]

/-- Step 1 of R643: the source's bit and the count. -/
def State.noted (s : State) (page src : Nat) : State :=
  (s.wr R.FLT_STAT_STAT (setBit (s.rd R.FLT_STAT_STAT page) src true) page).wr R.FLT_COUNT_COUNT
    (min 0xFFFF (s.rd R.FLT_COUNT_COUNT page + 1)) page

section
variable (s : State) {page : Nat}

theorem noted_stat (src : Nat) : (s.noted page src).rd R.FLT_STAT_STAT page = setBit (s.rd R.FLT_STAT_STAT page) src true % 2 ^ 16 := by
  rw [State.noted, rd_wr_page _ _ _ rfl rfl (by decide), rd_wr_same]
  rfl

theorem noted_count (src : Nat) : (s.noted page src).rd R.FLT_COUNT_COUNT page = min 0xFFFF (s.rd R.FLT_COUNT_COUNT page + 1) := by
  rw [State.noted, rd_wr_same]
  exact Nat.mod_eq_of_lt (lt_of_le_of_lt (Nat.min_le_left ..) (by decide))

/-- The step leaves what stands in FLT_FIRST and FLT_FIRST_GT. -/
theorem noted_first {f : RegField} (src : Nat) (hf : f.stride = 1) (h : f.addr = 0x28 ∨ f.addr = 0x30) (hlow : f.low < 64) :
    (s.noted page src).rd f page = s.rd f page := by
  have hne : ∀ g : RegField, g.addr = 0 ∨ g.addr = 0x38 → g.low = 0 → f.addr * 64 + f.low ≠ g.addr * 64 + g.low := by
    intro g hg hg0
    omega
  rw [State.noted, rd_wr_page _ _ _ rfl hf (hne _ (.inr rfl) rfl), rd_wr_page _ _ _ rfl hf (hne _ (.inl rfl) rfl)]

theorem noted_valid (src : Nat) : (s.noted page src).on R.FLT_FIRST_VALID page = s.on R.FLT_FIRST_VALID page := by
  rw [State.on, State.on, noted_first s src rfl (.inl rfl) (by decide)]

theorem captureFirst_full (src detail : Nat) (forced graced : Bool) (h : s.on R.FLT_FIRST_VALID page = true) :
    captureFirst s page src detail forced graced = s := if_pos h

/-- Steps 2 and 3: an empty FLT_FIRST takes the source with the phase and the GT. -/
theorem captureFirst_empty (src detail : Nat) (forced graced : Bool) (h : s.on R.FLT_FIRST_VALID page = false) :
    let t := captureFirst s page src detail forced graced
    t.rd R.FLT_FIRST_VALID page = 1 ∧ t.rd R.FLT_FIRST_SOURCE page = src % 2 ^ 4 ∧ t.rd R.FLT_FIRST_DETAIL page = detail % 2 ^ 40 ∧
      t.rd R.FLT_FIRST_PHASE page = s.phase % 2 ^ 2 ∧ t.rd R.FLT_FIRST_GT_GT page = s.gt % 2 ^ 64 := by
  simp only [captureFirst, h, Bool.false_eq_true, if_false, State.wrB]
  refine ⟨?_, ?_, ?_, ?_, ?_⟩ <;> simp (disch := decide) only [rd_wr_page, rd_wr_same] <;> rfl

/-- They leave the bits and the count. -/
theorem captureFirst_status {f : RegField} (src detail : Nat) (forced graced : Bool) (hf : f ∈ [R.FLT_STAT_STAT, R.FLT_COUNT_COUNT]) :
    (captureFirst s page src detail forced graced).rd f page = s.rd f page := by
  unfold captureFirst
  split
  · rfl
  · simp only [List.mem_cons, List.not_mem_nil, or_false] at hf
    rcases hf with rfl | rfl <;> simp (disch := decide) only [rd_wr_page, State.wrB]

variable (hpage : (pageKind page).isSome = true)
include hpage

theorem noted_phase (src : Nat) : (s.noted page src).phase = s.phase := by
  obtain ⟨haligned, hphase⟩ := page_aligned hpage
  simp only [R.PIN_PHASE_PHASE] at hphase
  refine (rd_wr_other _ _ _ _ page 0 0 0 ?_).trans (rd_wr_other _ _ _ _ page 0 0 0 ?_) <;>
    simp only [RegField.key, R.PIN_PHASE_PHASE, R.FLT_STAT_STAT, R.FLT_COUNT_COUNT] <;> omega

/-- Step 4, the reaction, writes none of them. -/
theorem recordFields_not_reaction {f : RegField} (hf : f ∈ recordFields) : f.key page 0 ∉ reactionKeys page := by
  obtain ⟨haligned, -⟩ := page_aligned hpage
  simp only [recordFields, List.mem_cons, List.not_mem_nil, or_false] at hf
  simp only [reactionKeys, List.mem_cons, List.not_mem_nil, or_false]
  rcases hf with rfl | rfl | rfl | rfl | rfl | rfl | rfl <;>
    simp only [RegField.key, R.FLT_STAT_STAT, R.FLT_COUNT_COUNT, R.FLT_FIRST_VALID, R.FLT_FIRST_SOURCE, R.FLT_FIRST_DETAIL,
      R.FLT_FIRST_PHASE, R.FLT_FIRST_GT_GT, R.PIN_ERR_LATCHED, R.FLT_GRACE_RUNNING, R.SEC_JRN_DROP, R.SEC_JRN_HEAD] <;>
    omega

theorem raise_record (src detail : Nat) :
    ∃ graced, ∀ f ∈ recordFields,
      (s.raise page src detail).rd f page = (captureFirst (s.noted page src) page src detail false graced).rd f page := by
  refine ⟨(s.react page src % 8 = 3 || s.react page src % 8 = 4) && s.phase ≠ phService && src ≠ 14, fun f hf => ?_⟩
  unfold State.raise State.raiseX State.noted
  dsimp only
  rw [applyReaction_sameRegs _ page src _ f page 0 (recordFields_not_reaction hpage hf), rd_wr_page s _ page rfl rfl (by decide)]

end

theorem bitAt_setBit_true (x i j : Nat) : bitAt (setBit x i true) j = (decide (j = i) || bitAt x j) := by
  unfold bitAt setBit
  rw [testBit_setField]
  by_cases hj : j = i
  · subst hj
    simp
  · rw [if_neg (by omega)]
    simp [hj]

/-- Settles O48: the fields of the record are those that steps 1 to 3 leave, as step 4, the reaction, writes none of them. -/
theorem raiseRecordsTheSource : Obligations.RaiseRecordsTheSource := by
  intro s page src detail hpage hsrc
  dsimp only
  obtain ⟨graced, hraise⟩ := raise_record s hpage src detail
  refine ⟨?bit, ?count, ?first, ?kept⟩
  case bit =>
    intro j hj
    rw [hraise _ (by simp [recordFields]), captureFirst_status _ _ _ _ _ (by simp), noted_stat, ← bitAt_setBit_true, bitAt,
      Nat.testBit_mod_two_pow]
    simp [hj, bitAt]
  case count =>
    rw [hraise _ (by simp [recordFields]), captureFirst_status _ _ _ _ _ (by simp), noted_count]
  case first =>
    intro hempty
    obtain ⟨hv, hs, hd, hp, hg⟩ := captureFirst_empty (s.noted page src) src detail false graced ((noted_valid s src).trans hempty)
    refine ⟨?_, ?_, ?_, ?_, ?_⟩ <;> rw [hraise _ (by simp [recordFields])]
    · exact hv
    · exact hs.trans (Nat.mod_eq_of_lt hsrc)
    · exact hd
    · exact hp.trans (congrArg (· % 2 ^ 2) (noted_phase s hpage src))
    · exact hg
  case kept =>
    intro hfull
    refine ⟨?_, ?_, ?_, ?_, ?_⟩ <;>
      rw [hraise _ (by simp [recordFields]), captureFirst_full _ _ _ _ _ ((noted_valid s src).trans hfull)]
    · exact noted_first s src rfl (.inl rfl) (by decide)
    · exact noted_first s src rfl (.inl rfl) (by decide)
    · exact noted_first s src rfl (.inl rfl) (by decide)
    · exact noted_first s src rfl (.inl rfl) (by decide)
    · exact noted_first s src rfl (.inr rfl) (by decide)

end Sys2Proof.Machine
end

section
/-! Commands that only answer, and commands that set fields: what they leave as it was (16_command_packets.md R577, R579, R595). -/

namespace Sys2Proof.Machine

/-! ### The frame of an effect that ends with a reply -/

/-- Command `n` has started in `u`, for path `p`, and no command waits for a group. -/
structure Began (p : CmdPath) (u : State) (n : Nat) : Prop where
  path : ∀ x, u.startedCmd n = some x → x.ref.path = p
  free : u.cmd.started.any Started.waitsGroup = false

/-- From `u` to `v` nothing changes but what a reply on path `p` does and the fields under the keys `ks`, and no command waits for a group. -/
def Framed (p : CmdPath) (ks : List Nat) (u v : State) : Prop :=
  Replied p ks u v ∧ v.cmd.started.any Started.waitsGroup = false

section
variable {p : CmdPath} {ks : List Nat} {u v w : State} {n : Nat}

theorem Began.reply (hb : Began p u n) (st : Nat) (r : List Byte) (hv : Replied p ks u v) (hcmd : v.cmd = u.cmd) :
    Framed p ks u (v.finalReply n st r) :=
  reply_after n st r hb.path hb.free hv hcmd

theorem Began.ends (hb : Began p u n) (st : Nat) : Framed p ks u (u.ends n st) := hb.reply st [] (.refl p ks u) rfl

theorem Began.okay (hb : Began p u n) (r : List (Nat × Nat)) : Framed p ks u (u.okay n r) := hb.reply stOk (pack r) (.refl p ks u) rfl

theorem Framed.ite {q : Prop} [Decidable q] (hv : Framed p ks u v) (hw : Framed p ks u w) : Framed p ks u (if q then v else w) := by
  split
  · exact hv
  · exact hw

theorem Began.okIf (hb : Began p u n) (ok : Bool) {f : State → State} (hf : Replied p ks u (f u)) (hcmd : (f u).cmd = u.cmd) :
    Framed p ks u (u.okIf n ok f) :=
  .ite (hb.reply stOk [] hf hcmd) (hb.ends stBadParam)

theorem Began.owned (hb : Began p u n) {c : CmdRef} {found : Bool} {owner : Nat} {f : State → State} (hf : Framed p ks u (f u)) :
    Framed p ks u (u.owned n c found owner f) :=
  .ite (hb.ends stBadParam) (.ite (hb.ends stNotPermitted) hf)

theorem Began.ownQp (hb : Began p u n) {c : CmdRef} {q : Nat} {f : Qp → State} (hf : Framed p ks u (f (u.qp q))) :
    Framed p ks u (u.ownQp n c q f) := hb.owned (f := fun _ => f (u.qp q)) hf

theorem Began.ownCtx (hb : Began p u n) {c : CmdRef} {ctx : Nat} {f : State → State} (hf : Framed p ks u (f u)) :
    Framed p ks u (u.ownCtx n c ctx f) := hb.owned hf

theorem Began.ownCnt (hb : Began p u n) {c : CmdRef} {i : Nat} {f : State → State} (hf : Framed p ks u (f u)) :
    Framed p ks u (u.ownCnt n c i f) := hb.owned hf

end

/-- A command whose effect does no more than reply changes nothing else. -/
theorem answer_replied {b : Issuer} {code : Nat} {c : CmdRef} {params : List Byte} {s t : State} {f : Nat → State → State} {ks : List Nat}
    (hq : s.quiet = true) (hk : senseKey ∉ ks)
    (hf : ∀ u n, Began c.path u n → b.allows c.path = true → Framed c.path ks u (f n u)) (h : command b code c params s f = .next t) :
    Replied c.path ks s t := by
  refine command_replied h hq (senseKey_keys _ hk) fun u n hx hallowed hg => hf u n ⟨hx, hg⟩ ?_
  by_contra hnot
  rw [State.cmdRefusal, if_pos (by simpa using hnot)] at hallowed
  cases hallowed

/-! ### What an answer writes to the host -/

/-- The host buffer of a command that only a PF may give lies on the port of its ring. -/
theorem bufferWrite_replied {c : CmdRef} {ks : List Nat} (hallowed : Issuer.p.allows c.path = true) (s : State) (addr : Nat) (bs : List Byte) :
    Replied c.path ks s (s.hostWrite (cmdReq c addr) bs) := by
  cases hpath : c.path with
  | ring h f =>
    refine hostWrite_replied h f s _ bs ?_
    have := f.isLt
    simp only [cmdReq, pathPort, pathFn, fnOfPath, hpath, ringKey, fkey, keyPort, Option.getD]
    omega
  | smbus | remote => simp [hpath, Issuer.allows] at hallowed

theorem hostWrite_cmd_same (s : State) (req : BusReq) (bs : List Byte) : (s.hostWrite req bs).cmd = s.cmd := by simp

/-- Settles O36: a row's own effect is a reply, after at most a write of the host buffer. -/
theorem answersChangeNothingElse : Obligations.AnswersChangeNothingElse := by
  intro c s t hq
  have hnone : senseKey ∉ ([] : List Nat) := List.not_mem_nil
  refine ⟨?nop, ?devInfo, ?portStatus, ?portPeer, ?routeStatus, ?rowsRead, ?throttleRead, ?aliasRead, ?geysStatus, ?geysSleep,
    ?schedStatus, ?funcStatus, ?qpStatus, ?heldStatus, ?jobStatus, ?ctxStatus, ?tcStatus, ?winStatus, ?matStatus, ?matQpStatus,
    ?cntRead, ?groupStatus, ?pairStatus, ?lastWake, ?supplyStatus, ?faultRead, ?faultFirst, ?perfRead, ?snapshotCopy, ?fwStatus,
    ?identityRead, ?expertStatus⟩
  case nop => exact answer_replied hq hnone fun u n hb _ => hb.ends _
  case devInfo => exact fun page => answer_replied hq hnone fun u n hb _ => .ite (hb.okay _) (hb.ends _)
  case portStatus | portPeer => exact fun port => answer_replied hq hnone fun u n hb _ => .ite (hb.okay _) (hb.ends _)
  case routeStatus | geysStatus | geysSleep | schedStatus | heldStatus | matStatus | pairStatus | lastWake | supplyStatus | fwStatus |
      expertStatus =>
    exact answer_replied hq hnone fun u n hb _ => hb.okay _
  case rowsRead =>
    exact fun dim outAddr => answer_replied hq hnone fun u n hb ha => hb.okIf _ (bufferWrite_replied ha u _ _) (hostWrite_cmd_same ..)
  case throttleRead =>
    exact fun outAddr => answer_replied hq hnone fun u n hb ha => hb.reply _ _ (bufferWrite_replied ha u _ _) (hostWrite_cmd_same ..)
  case aliasRead =>
    exact fun bank outAddr => answer_replied hq hnone fun u n hb ha => hb.okIf _ (bufferWrite_replied ha u _ _) (hostWrite_cmd_same ..)
  case funcStatus =>
    exact fun func => answer_replied hq hnone fun u n hb _ => .ite (hb.ends _) (.ite (hb.ends _) (hb.okay _))
  case qpStatus | matQpStatus => exact fun qidx => answer_replied hq hnone fun u n hb _ => hb.ownQp (hb.okay _)
  case jobStatus => exact fun job => answer_replied hq hnone fun u n hb _ => .ite (hb.ends _) (hb.okay _)
  case ctxStatus => exact fun ctx => answer_replied hq hnone fun u n hb _ => hb.ownCtx (hb.okay _)
  case tcStatus => exact fun pid => answer_replied hq hnone fun u n hb _ => .ite (hb.ends _) (hb.okay _)
  case winStatus => exact fun key => answer_replied hq hnone fun u n hb _ => hb.owned (hb.okay _)
  case cntRead => exact fun cnt => answer_replied hq hnone fun u n hb _ => hb.ownCnt (hb.okay _)
  case groupStatus => exact fun gid => answer_replied hq hnone fun u n hb _ => .ite (hb.ends _) (.ite (hb.ends _) (hb.okay _))
  case faultRead | faultFirst => exact fun page => answer_replied hq hnone fun u n hb _ => .ite (hb.okay _) (hb.ends _)
  case perfRead => exact fun addr => answer_replied hq hnone fun u n hb _ => .ite (hb.okay _) (hb.ends _)
  case snapshotCopy =>
    refine fun index outAddr => answer_replied hq (by decide) fun u n hb ha => .ite (hb.ends _) (.ite (hb.ends _) ?_)
    refine hb.reply _ _ ((bump_replied u C.HBM_RD_64B 0 _ fun k hk => List.mem_append_right _ hk).trans (bufferWrite_replied ha _ _ _)) ?_
    exact (hostWrite_cmd_same ..).trans (by simp)
  case identityRead =>
    refine fun index outAddr outLen => answer_replied hq hnone fun u n hb ha => .ite (hb.ends _) (.ite (hb.reply _ _ (.refl _ _ u) rfl) ?_)
    exact hb.reply _ _ (bufferWrite_replied ha u _ _) (hostWrite_cmd_same ..)

/-! ### The fields a command sets -/

section
variable {p : CmdPath} {ks : List Nat}

theorem set_replied (s : State) {f : RegField} (v : Nat) {i j : Nat} (h : f.key i j ∈ ks) : Replied p ks s (s.wr f v i j) :=
  wr_replied s f v i j (List.mem_append_right _ h)

theorem sets_replied (s : State) (l : List (RegField × Nat)) (h : ∀ x ∈ l, x.1.key 0 0 ∈ ks) : Replied p ks s (s.wrs l) :=
  wrs_replied l s fun x hx => List.mem_append_right _ (h x hx)

/-- LINK_TIMERS sets the two timers of each of its ports. -/
theorem linkTimers_replied (ps : List Nat) (replayTmr xoffWdog : Nat) (s : State)
    (h : ∀ i ∈ ps, R.LINK_TMR_REPLAY_TMR.key i 0 ∈ ks ∧ R.LINK_TMR_XOFF_WDOG.key i 0 ∈ ks) :
    Replied p ks s (ps.foldl (fun s p => (s.wr R.LINK_TMR_REPLAY_TMR replayTmr p).wr R.LINK_TMR_XOFF_WDOG xoffWdog p) s) := by
  induction ps generalizing s with
  | nil => exact .refl _ _ s
  | cons i ps ih =>
    obtain ⟨hreplay, hxoff⟩ := h i List.mem_cons_self
    exact ((set_replied s _ hreplay).trans (set_replied _ _ hxoff)).trans (ih _ fun j hj => h j (List.mem_cons_of_mem _ hj))

theorem linkTimers_cmd (ps : List Nat) (replayTmr xoffWdog : Nat) (s : State) :
    (ps.foldl (fun s p => (s.wr R.LINK_TMR_REPLAY_TMR replayTmr p).wr R.LINK_TMR_XOFF_WDOG xoffWdog p) s).cmd = s.cmd := by
  induction ps generalizing s with
  | nil => rfl
  | cons i ps ih => exact ih _

end

/-- The timers of the ports below 96. -/
def linkTimerKeys : List Nat := (List.range 96).flatMap fun p => [R.LINK_TMR_REPLAY_TMR.key p 0, R.LINK_TMR_XOFF_WDOG.key p 0]

theorem mem_linkTimerKeys {i : Nat} (h : i < 96) :
    R.LINK_TMR_REPLAY_TMR.key i 0 ∈ linkTimerKeys ∧ R.LINK_TMR_XOFF_WDOG.key i 0 ∈ linkTimerKeys := by
  constructor <;> exact List.mem_flatMap.mpr ⟨i, List.mem_range.mpr h, by simp⟩

/-- ERR_N_SENSE's page lies below the register pages of the ports and units. -/
theorem senseKey_ne_key {f : RegField} (i j : Nat) (h : 0x01000000 ≤ f.addr) : f.key i j ≠ senseKey := by
  simp only [RegField.key, senseKey, R.FLT_LIVE_LIVE, pgPin]
  omega

theorem senseKey_notMem_singleton {f : RegField} (i j : Nat) (h : 0x01000000 ≤ f.addr) : senseKey ∉ [f.key i j] := by
  simpa using (senseKey_ne_key i j h).symm

section
variable {b : Issuer} {code : Nat} {c : CmdRef} {params : List Byte} {s t : State} {ks : List Nat} {ok : State → Bool} {g : State → State}

/-- A command that sets fields when its operands pass, and whose operands that pass have `P`. -/
theorem setting_replied (P : Prop) (hok : ∀ u, ok u = true → P) (hk : P → senseKey ∉ ks) (hset : P → ∀ u, Replied c.path ks u (g u))
    (hcmd : ∀ u, (g u).cmd = u.cmd) (hq : s.quiet = true) (h : command b code c params s (fun n u => u.okIf n (ok u) g) = .next t) :
    Replied c.path ks s t := by
  by_cases hP : P
  · exact answer_replied hq (hk hP) (fun u n hb _ => hb.okIf _ (hset hP u) (hcmd u)) h
  · refine (answer_replied hq List.not_mem_nil (fun u n hb _ => ?_) h).mono (by simp)
    rw [okIf_false _ _ _ (Bool.eq_false_iff.mpr fun hpass => hP (hok u hpass))]
    exact hb.ends _

/-- What such a command can come to while nothing is owed: a reply, or its fields set after its start. -/
theorem setting_cases (hq : s.quiet = true) (h : command b code c params s (fun n u => u.okIf n (ok u) g) = .next t) :
    Replied c.path [] s t ∨ ∃ u n, Replied c.path [] s u ∧ Began c.path u n ∧ t = ((g u).ends n stOk).ended := by
  rcases command_cases h hq with hr | ⟨w, hw, hx, hg, -, ht⟩
  · exact .inl hr
  · have hstart : Replied c.path [] s (s.begun w) := hw ▸ begun_replied s w
    cases hpass : ok (s.begun w) with
    | true =>
      rw [hpass, okIf_true _ _ _ rfl] at ht
      exact .inr ⟨_, _, hstart, ⟨hx, hg⟩, ht⟩
    | false =>
      rw [hpass, okIf_false _ _ _ rfl] at ht
      exact .inl (own_reply hq List.not_mem_nil hstart hx hg ht)

end

/-! ### The settings with a part of the state behind them (R217, R227, R265, R470) -/

/-- The three parts that THROTTLE_SET, GM_CFG and MAT_CFG set beside their fields. -/
abbrev State.withEpAbove (s : State) (x : Tab Bool) : State := { s with rout := { s.rout with epAbove := x } }
abbrev State.withClass (s : State) (own run : Nat) : State := { s with geys := { s.geys with ownClass := own, classRun := run } }
abbrev State.withBucket (s : State) (x y : Nat) : State := { s with mat := { s.mat with bucket := x, bucketAt := y } }

section
variable {p : CmdPath} {ks : List Nat} {s t : State}

/-- The end of a command that has set its fields, seen from `v`. -/
theorem Began.settled {u v w : State} {n st : Nat} (hb : Began p u n) (hcmd : w.cmd = u.cmd) (hq : v.quiet = true) (hk : senseKey ∉ ks)
    (hv : Replied p ks v w) (h : t = (w.ends n st).ended) : Replied p ks v t :=
  own_reply hq hk hv (fun x hx => hb.path x (by rw [← hx]; simp only [State.startedCmd, hcmd])) (by rw [hcmd]; exact hb.free) h

theorem Replied.epAbove (h : Replied p ks s t) : t.rout.epAbove = s.rout.epAbove := by
  have hpath := h.path
  cases p with
  | ring | smbus | remote =>
    obtain ⟨-, -, hrout, -⟩ := hpath
    rw [hrout]

theorem Replied.withEpAbove (h : Replied p ks s t) (x : Tab Bool) : Replied p ks (s.withEpAbove x) (t.withEpAbove x) := by
  refine ⟨h.regs, congrArg (·.withEpAbove x) h.parts, h.cmd, h.cnt, h.out, h.waits, ?_⟩
  have hpath := h.path
  cases p with
  | ring | smbus | remote =>
    obtain ⟨hhost, hpin, hrout, hin⟩ := hpath
    exact ⟨hhost, hpin, congrArg (fun r => { r with epAbove := x }) hrout, hin⟩

theorem Replied.withClass (h : Replied p ks s t) (x y : Nat) : Replied p ks (s.withClass x y) (t.withClass x y) :=
  ⟨h.regs, congrArg (·.withClass x y) h.parts, h.cmd, h.cnt, h.out, h.waits, h.path⟩

theorem Replied.withBucket (h : Replied p ks s t) (x y : Nat) : Replied p ks (s.withBucket x y) (t.withBucket x y) :=
  ⟨h.regs, congrArg (·.withBucket x y) h.parts, h.cmd, h.cnt, h.out, h.waits, h.path⟩

/-- What the clauses of THROTTLE_SET, GM_CFG and MAT_CFG say of a state that is reached from one with another such part. -/
theorem Replied.from_epAbove {x : Tab Bool} (h : Replied p ks (s.withEpAbove x) t) : Replied p ks (s.withEpAbove t.rout.epAbove) t := by
  rw [show t.rout.epAbove = x from h.epAbove]
  exact h

theorem Replied.from_class {x y : Nat} (h : Replied p ks (s.withClass x y) t) :
    Replied p ks (s.withClass t.geys.ownClass t.geys.classRun) t := by
  have hgeys : t.geys = (s.withClass x y).geys := by rw [h.parts]
  rw [hgeys]
  exact h

theorem Replied.from_bucket {x y : Nat} (h : Replied p ks (s.withBucket x y) t) :
    Replied p ks (s.withBucket t.mat.bucket t.mat.bucketAt) t := by
  have hmat : t.mat = (s.withBucket x y).mat := by rw [h.parts]
  rw [hmat]
  exact h

/-- The queues above LQ_THR are told anew (R265). -/
theorem epSettle_above (s : State) : ∃ x, s.epSettle = s.withEpAbove x := ⟨_, rfl⟩

/-- The reference classes are published in GM_CLASS, and a local TRIM is set to 0 (R217, R227). -/
theorem refsChanged_replied (hclass : R.GEYS_STATUS_GM_CLASS.key 0 0 ∈ ks) (htrim : R.GEYS_TRIM_TRIM.key 0 0 ∈ ks) :
    ∃ x y, Replied p ks (s.withClass x y) s.refsChanged := by
  have published (v : State) : Replied p ks v v.publishClass := set_replied v _ hclass
  have trimmed (v : State) : Replied p ks v v.trimLocal := by
    unfold State.trimLocal
    split
    · exact set_replied v _ htrim
    · exact .refl _ _ v
  unfold State.refsChanged
  split
  · exact ⟨_, _, (published _).trans (trimmed _)⟩
  · exact ⟨s.geys.ownClass, s.geys.classRun, (published _).trans (trimmed _)⟩

theorem refsChanged_cmd (s : State) : s.refsChanged.cmd = s.cmd := by
  unfold State.refsChanged State.trimLocal
  split <;> split <;> rfl

end

section
variable {b : Issuer} {code : Nat} {c : CmdRef} {params : List Byte} {s t : State} {ks : List Nat} {ok : State → Bool}
  {l : List (RegField × Nat)} (hk : senseKey ∉ ks) (hl : ∀ x ∈ l, x.1.key 0 0 ∈ ks) (hq : s.quiet = true)
include hk hl hq

/-- THROTTLE_SET, GM_CFG and MAT_CFG: the fields and the part behind them. -/
theorem throttle_replied (h : command b code c params s (fun n u => u.okIf n (ok u) fun v => (v.wrs l).epSettle) = .next t) :
    Replied c.path ks (s.withEpAbove t.rout.epAbove) t := by
  rcases setting_cases hq h with hr | ⟨u, n, hu, hb, ht⟩
  · exact (hr.mono (by simp)).from_epAbove
  · obtain ⟨x, hx⟩ := epSettle_above (u.wrs l)
    rw [hx] at ht
    have hset := ((hu.mono (by simp)).trans (sets_replied u l hl)).withEpAbove x
    exact (hb.settled (v := s.withEpAbove x) (w := (u.wrs l).withEpAbove x) (wrs_cmd l u) hq hk hset ht).from_epAbove

theorem refs_replied (hclass : R.GEYS_STATUS_GM_CLASS.key 0 0 ∈ ks) (htrim : R.GEYS_TRIM_TRIM.key 0 0 ∈ ks)
    (h : command b code c params s (fun n u => u.okIf n (ok u) fun v => (v.wrs l).refsChanged) = .next t) :
    Replied c.path ks (s.withClass t.geys.ownClass t.geys.classRun) t := by
  rcases setting_cases hq h with hr | ⟨u, n, hu, hb, ht⟩
  · exact (hr.mono (by simp)).from_class
  · obtain ⟨x, y, hrefs⟩ := refsChanged_replied (p := c.path) (s := u.wrs l) hclass htrim
    have hset := (((hu.mono (by simp)).trans (sets_replied u l hl)).withClass x y).trans hrefs
    exact (hb.settled (v := s.withClass x y) ((refsChanged_cmd _).trans (wrs_cmd l u)) hq hk hset ht).from_class

theorem mire_replied (h : command b code c params s (fun n u => u.okIf n (ok u) fun v => v.mireSettle.wrs l) = .next t) :
    Replied c.path ks (s.withBucket t.mat.bucket t.mat.bucketAt) t := by
  rcases setting_cases hq h with hr | ⟨u, n, hu, hb, ht⟩
  · exact (hr.mono (by simp)).from_bucket
  · have hset := ((hu.mono (by simp)).withBucket u.mireBucket u.time.cycles).trans (sets_replied u.mireSettle l hl)
    exact (hb.settled (v := s.withBucket u.mireBucket u.time.cycles) (wrs_cmd l u.mireSettle) hq hk hset ht).from_bucket

end

/-- Settles O37: a row writes its fields when its operands pass, before the reply. -/
theorem settingsChangeOnlyTheirFields : Obligations.SettingsChangeOnlyTheirFields := by
  intro c s t hq
  have hfree {ok : State → Bool} : ∀ u, ok u = true → True := fun _ _ => trivial
  refine ⟨?portPreset, ?linkTimers, ?portAsym, ?lpEnable, ?costSet, ?throttleSet, ?routeHold, ?gmCfg, ?schedStop, ?schedCfg, ?hportCfg,
    ?pollRate, ?walkRange, ?xltTimers, ?tptTimers, ?tptAckcfg, ?matCfg, ?wakeCfg, ?faultReact, ?faultGrace⟩
  case portPreset | portAsym | lpEnable =>
    exact fun _ _ => setting_replied True hfree (fun _ => senseKey_notMem_singleton _ _ (by decide))
      (fun _ u => set_replied u _ (by simp)) (fun _ => rfl) hq
  case linkTimers =>
    intro port replayTmr xoffWdog
    refine setting_replied (port.toNat < 96 ∨ port.toNat = 255) ?_ ?_ (fun hport u => linkTimers_replied _ _ _ u ?_)
      (fun _ => linkTimers_cmd ..) hq
    · intro u hpass
      simp only [Bool.and_eq_true, Bool.or_eq_true, decide_eq_true_eq, portParam] at hpass
      obtain ⟨⟨⟨hport, -⟩, -⟩, -⟩ := hpass
      exact hport
    · intro _ hmem
      obtain ⟨i, -, hi⟩ := List.mem_flatMap.mp hmem
      simp only [List.mem_cons, List.not_mem_nil, or_false] at hi
      exact hi.elim (fun h => senseKey_ne_key i 0 (by decide) h.symm) fun h => senseKey_ne_key i 0 (by decide) h.symm
    · intro i hi
      refine mem_linkTimerKeys ?_
      split at hi
      · exact List.mem_range.mp hi
      · have := List.mem_singleton.mp hi
        omega
  case costSet =>
    exact fun _ _ _ => setting_replied True hfree (fun _ => by decide)
      (fun _ u => ((set_replied u _ (by simp)).trans (set_replied _ _ (by simp))).trans (set_replied _ _ (by simp))) (fun _ => rfl) hq
  case throttleSet => exact fun _ _ _ _ _ _ _ => throttle_replied (by decide) (by simp) hq
  case routeHold =>
    exact fun _ => setting_replied True hfree (fun _ => by decide) (fun _ u => set_replied u _ (by simp)) (fun _ => rfl) hq
  case gmCfg => exact fun _ _ _ _ _ => refs_replied (by decide) (by simp) hq (by simp) (by simp)
  case schedStop =>
    refine fun iter => answer_replied hq (by decide) fun u n hb _ =>
      .ite (hb.ends _) (.ite (hb.ends _) (.ite (hb.ends _) (hb.reply _ _ ?_ rfl)))
    exact (set_replied u _ (by simp)).trans (set_replied _ _ (by simp))
  case schedCfg =>
    exact fun _ _ _ _ _ _ _ => setting_replied True hfree (fun _ => by decide) (fun _ u => sets_replied u _ (by simp)) (fun _ => wrs_cmd ..) hq
  case hportCfg =>
    exact fun _ => setting_replied True hfree (fun _ => senseKey_notMem_singleton _ _ (by decide)) (fun _ u => set_replied u _ (by simp))
      (fun _ => rfl) hq
  case pollRate =>
    exact fun _ => setting_replied True hfree (fun _ => by decide) (fun _ u => sets_replied u _ (by simp)) (fun _ => wrs_cmd ..) hq
  case walkRange =>
    refine fun index _ _ _ => setting_replied True hfree (fun _ => ?_)
      (fun _ u => ((set_replied u _ (by simp)).trans (set_replied _ _ (by simp))).trans (set_replied _ _ (by simp))) (fun _ => rfl) hq
    simp [(senseKey_ne_key (f := R.XLT_WR_BASE_EN) _ _ (by decide)).symm, (senseKey_ne_key (f := R.XLT_WR_BASE_BASE) _ _ (by decide)).symm,
      (senseKey_ne_key (f := R.XLT_WR_LIMIT_LIMIT) _ _ (by decide)).symm]
  case xltTimers | tptAckcfg =>
    exact fun _ _ => setting_replied True hfree (fun _ => by decide) (fun _ u => sets_replied u _ (by simp)) (fun _ => wrs_cmd ..) hq
  case tptTimers =>
    exact fun _ _ => setting_replied True hfree (fun _ => by decide)
      (fun _ u => (set_replied u _ (by simp)).trans (set_replied _ _ (by simp))) (fun _ => rfl) hq
  case matCfg => exact fun _ _ => mire_replied (by decide) (by simp) hq
  case wakeCfg =>
    exact fun _ => answer_replied hq (by decide) fun u n hb _ => hb.reply _ _ (set_replied u _ (by simp)) rfl
  case faultReact =>
    intro page source reaction
    refine setting_replied (isPage page.toNat = true ∧ source.toNat ≤ 15) ?_ ?_ (fun _ u => set_replied u _ (by simp)) (fun _ => rfl) hq
    · intro _ hpass
      simp only [Bool.and_eq_true, decide_eq_true_eq] at hpass
      obtain ⟨⟨⟨⟨⟨hpage, hsource⟩, -⟩, -⟩, -⟩, -⟩ := hpass
      exact ⟨hpage, hsource⟩
    · rintro ⟨hpage, hsource⟩
      obtain ⟨haligned, -⟩ := page_aligned hpage
      simp only [List.mem_singleton, senseKey, reactField, RegField.key, R.FLT_LIVE_LIVE, pgPin]
      omega
  case faultGrace =>
    intro page grace
    refine setting_replied (isPage page.toNat = true) ?_ ?_ (fun _ u => set_replied u _ (by simp)) (fun _ => rfl) hq
    · intro _ hpass
      exact (Bool.and_eq_true _ _ ▸ hpass).left
    · intro hpage
      obtain ⟨haligned, -⟩ := page_aligned hpage
      simp only [List.mem_singleton, senseKey, RegField.key, R.FLT_LIVE_LIVE, R.FLT_GRACE_GRACE, pgPin]
      omega

end Sys2Proof.Machine
end
